-- ==== Sys2Proof/Word.lean ====
section
/-! DEFINITION. The plain word types and the sparse map type of the TH-9480 model. -/

namespace Sys2Proof

/-- One byte of a value, a record or a message. -/
abbrev Byte := BitVec 8

/-- A 32-bit register of a drive sequencer (R332). -/
abbrev Word32 := BitVec 32

/-- A sparse table from numbers to values.  Keys rise strictly; a key that is not listed holds the
table's default, and no listed entry equals it.  The operations are in `Sys2Proof.Machine.SMap`. -/
abbrev SMap (α : Type) := List (Nat × α)

/-- A set of numbers, strictly rising. -/
abbrev NSet := List Nat

end Sys2Proof
end

