-- ==== Sys2Proof/Operand.lean ====
section
/-! DEFINITION. The types of the commands' operands: what arrives with a command from outside the device. -/

namespace Sys2Proof

/-- The three roles a device runs in (R1, R70). -/
inductive Role where
  | none | head | tile
  deriving DecidableEq, Repr

/-- The supplies other than the lamp banks' (R41, R53). -/
inductive Supply where
  | vddCore | vddSram | vddDram | vddaLane09 | vddaLane12 | vddioG | vddioE
  deriving DecidableEq, Repr

/-- The five design regions (R15), in the order they are released (R74). -/
inductive Region where
  | control | memory | time | front | image
  deriving DecidableEq, Repr

/-- The number of a region in event records and in `#02.0006 CLOCK_GOOD` (R80, R509). -/
def Region.num : Region → Nat
  | .control => 0 | .memory => 1 | .time => 2 | .front => 3 | .image => 4

/-- The three reset levels (R62); the command sees `l0` as the deepest. -/
inductive Level where
  | l0 | l1 | l2
  deriving DecidableEq, Repr

/-- The path a dictionary message arrives on (R93). -/
inductive Path where
  /-- a Kryper control packet, by its source device ID -/
  | chain (src : Fin 4096)
  /-- the GbE port, by peer address and UDP port -/
  | gbe (ip : BitVec 128) (port : BitVec 16)
  /-- a 10BASE-T1S segment, by segment, peer address and UDP port -/
  | t1s (seg : Fin 8) (ip : BitVec 128) (port : BitVec 16)
  deriving DecidableEq, Repr

/-- The header of a dictionary message (R88) as received, without OP, which the command itself names. -/
structure OdHead where
  path : Path
  version : Byte
  /-- LENGTH as the header states it -/
  length : Nat
  /-- bytes actually received -/
  received : Nat
  /-- TARGET: [13:12] member selector, [11:0] device ID -/
  target : BitVec 16
  /-- FLAGS: [3] read shadow, [2] strict, [1] authenticated, [0] response -/
  flags : Byte
  keyId : Byte
  epoch : BitVec 32
  seq : BitVec 32
  counter : BitVec 64
  txn : BitVec 16
  /-- COUNT as the header states it -/
  count : Nat
  /-- the 16 bytes after the items of an authenticated message, else empty -/
  tag : List Byte
  /-- EPOCH of the control packet that carried the message (R93); equal to `epoch` off the chain -/
  packetEpoch : BitVec 32
  deriving DecidableEq, Repr

/-- One item of a message (R89); LEN is the length of `value`. -/
structure OdItem where
  area : BitVec 8
  item : BitVec 16
  index : BitVec 16
  ty : BitVec 8
  value : List Byte
  deriving DecidableEq, Repr

/-- What an event record of another device carries (R509). -/
structure EventRecord where
  bytes : List Byte
  deriving DecidableEq, Repr

/-- A request of a DP source on the AUX channel (R138). -/
inductive AuxReq where
  | nativeRead (addr : Nat) (len : Nat)
  | nativeWrite (addr : Nat) (data : List Byte)
  | i2cRead (dev : BitVec 7) (len : Nat)
  | i2cWrite (dev : BitVec 7) (data : List Byte)
  deriving DecidableEq, Repr

/-- What the MSA and the SDPs of a DP stream say (R137): sizes in pixels, clock in kHz, rate in mHz, and the codes of
`#18.0021`; format 3 and above stands for any colour format R137 does not list. -/
structure MsaInfo where
  width : Nat
  height : Nat
  totalWidth : Nat
  totalHeight : Nat
  clock : Nat
  rate : Nat
  bits : Nat
  format : Nat
  /-- colorimetry and transfer as the MISC fields of the MSA give them -/
  colorimetry : Nat
  transfer : Nat
  /-- colorimetry and transfer of a VSC SDP, when one is sent -/
  vsc : Option (Nat × Nat)
  range : Nat
  /-- HDR static metadata, when an SDP carried it -/
  hdr : Option (List Byte)
  deriving DecidableEq, Repr

/-- A PTP event or general message as received (R200).  Times are in units of 2⁻¹⁶ ns. -/
structure PtpMsg where
  /-- within the scope of R200: IPv4 UDP, ordinary clock messages, supported TLVs and delay mechanism -/
  inScope : Bool
  domain : Nat
  seq : Nat
  /-- port identity of the sender -/
  sender : Nat
  twoStep : Bool
  /-- originTimestamp, preciseOriginTimestamp or receiveTimestamp -/
  origin : Nat
  correction : Int
  /-- stamp of the message's arrival, taken at the RGMII, in 2⁻¹⁶ ns -/
  arrival : Nat
  /-- the message came by unicast, as hybrid mode allows for Delay_Req and Delay_Resp -/
  unicast : Bool := false
  deriving DecidableEq, Repr

/-- The data an Announce carries (R209). -/
structure AnnounceInfo where
  priority1 : Nat
  clockClass : Nat
  accuracy : Nat
  variance : Nat
  priority2 : Nat
  /-- grandmaster identity -/
  identity : Nat
  steps : Nat
  deriving DecidableEq, Repr

/-- The header of a video packet (R149). -/
structure VideoHead where
  dest : BitVec 16
  src : BitVec 16
  epoch : BitVec 32
  tick : BitVec 48
  offset : BitVec 32
  index : BitVec 16
  count : BitVec 16
  last : Bool
  incomplete : Bool
  repeated : Bool
  /-- FORMAT: [7:4] transport curve, [3:0] pixel format -/
  format : Byte
  gap : BitVec 16
  deriving DecidableEq, Repr

/-- A video packet as it arrives whole (R148). -/
structure VideoPacket where
  /-- K28.6 came before it -/
  prefixed : Bool
  head : VideoHead
  payload : List Byte
  /-- present when LAST is set -/
  signature : BitVec 64
  crc : BitVec 32
  /-- a K30.7 stands in it (R116) -/
  poison : Bool
  deriving DecidableEq, Repr

/-- The header of a control packet (R153). -/
structure ControlHead where
  dest : BitVec 16
  src : BitVec 16
  epoch : BitVec 32
  tick : BitVec 48
  pos : Byte
  /-- FLAGS[7]: positional addressing -/
  positional : Bool
  /-- FLAGS[6]: sent by a tile -/
  fromTile : Bool
  length : Nat
  /-- bytes between header and CRC -/
  received : Nat
  crcOk : Bool
  deriving DecidableEq, Repr

/-- What a control packet's message is to the receiver. -/
inductive ControlBody where
  /-- a request of the object dictionary, which then reaches the dictionary as a command of its own -/
  | request
  /-- a response of the object dictionary -/
  | response
  /-- a member's message to its partner for a frame, by place and value: `kind` 0 pump loops (4 × loop + 0 u, + 1 I in 40 bits,
  + 2 gain scale), 1 a mask change (lamp, status, 3 for a clear), 2 the wear ledger (lamp, word), 3 the K slew state (10 × zone +
  element, and 160 above it the targets, in 16 bits), 4 a request for 2, 3 and 5, 5 the fault list (lamp, status) -/
  | member (kind : Fin 6) (frame : Nat) (values : List (Nat × Nat))
  /-- β of the next snapshot from the active member (R291) -/
  | beta (tick : Nat) (value : Nat)
  /-- the partner's health report as read over the partner path (R187) -/
  | report (bytes : List Byte)
  /-- the partner's `#00.0005 LINK_VERSION` as read over the partner path (R490) -/
  | linkVersion (v : BitVec 16)
  deriving DecidableEq, Repr

/-- A TICK marker (R157). -/
structure Marker where
  tick : BitVec 48
  /-- seconds and nanoseconds -/
  time : BitVec 80
  phase : BitVec 16
  rate : BitVec 4
  crcOk : Bool
  /-- stamp of the first bit of K28.1, in 2⁻¹⁶ ns -/
  arrival : Nat
  deriving DecidableEq, Repr

/-- How a driver-bus transaction ends (R324). -/
inductive BusEnd where
  /-- every byte acknowledged; the bytes read -/
  | ok (bytes : List Byte)
  /-- an address or data NACK -/
  | nack
  /-- `DBn_D` was low as a START fell due, and nine clock pulses and a STOP have freed it: the transaction begins again -/
  | freed
  /-- `DBn_D` still low after nine clock pulses -/
  | stuck
  deriving DecidableEq, Repr

/-- What the PHY reports over MDIO (R407). -/
structure PhyStatus where
  /-- false when the read returned 0xFFFF -/
  valid : Bool
  link : Bool
  /-- 0 10, 1 100, 2 1,000 Mb/s -/
  speed : Fin 3
  full : Bool
  /-- the partner negotiated PAUSE toward the port, and EEE -/
  pause : Bool
  eee : Bool
  /-- times the receive side has entered low-power idle since the last read (R413, R420) -/
  rxLpi : Nat
  deriving DecidableEq, Repr

/-- What a standby member heard on a port's pins over a refresh subframe (R194). -/
structure SubHeard where
  /-- CRC-32 of the bits on each data strand at each rising edge of `LPn_CK` -/
  crcs : List (BitVec 32)
  /-- cycles of `LPn_GK` -/
  gk : Nat
  /-- edges of `LPn_LT` and `LPn_OE` in order, in ns from the subframe's start -/
  lt : List Nat
  oe : List Nat
  deriving DecidableEq, Repr

/-- What a received Ethernet frame is to the port (R409–R414). -/
inductive RxBody where
  | plain
  | pfc
  | fragment
  /-- a DHCP lease -/
  | dhcpAck (addr : BitVec 32)
  /-- an ARP packet in which another station uses an address -/
  | arpFrom (addr : BitVec 32)
  /-- an LLDPDU with an EEE TLV: requested receive Tw_sys in ns -/
  | lldp (tw : Nat)
  /-- a control packet of the redundant partner, the payload of a datagram to OD_UDP_PORT + 1 (R173) -/
  | partner (c : ControlHead) (b : ControlBody)
  deriving DecidableEq, Repr

/-- A received Ethernet frame. -/
structure RxFrame where
  length : Nat
  fcsOk : Bool
  symbolError : Bool
  dest : BitVec 48
  /-- VLAN tag: VID -/
  vid : Option (BitVec 12)
  body : RxBody
  deriving DecidableEq, Repr

/-- How an RDM response reads (R402). -/
inductive RdmEnd where
  | ok | checksumBad | collision
  deriving DecidableEq, Repr

/-- Body of a LATENCY packet (R159). -/
structure LatencyBody where
  origin : BitVec 16
  position : Byte
  lout : BitVec 40
  valid : Bool
  deriving DecidableEq, Repr

end Sys2Proof
end

