-- ==== Sys2Proof/Syntax.lean ====
section
/-! DEFINITION. The commands of the TH-9480: one constructor per row of the table of operations and events. -/

namespace Sys2Proof

/-- A command: something done to the device from outside, or something that comes about inside it at an instant
the environment names.  A last operand with a default tells how the instant comes (a tie with what it judges, an answer that
fails, the part of a requester); its default is the ordinary case. -/
inductive Instr where
  /-- SUPPLY_VALID (R525): A monitored supply rises above its rising threshold and becomes valid. -/
  | supplyValid (x : Supply)
  /-- SUPPLY_DIP (R54): A dip of VDD_CORE, VDD_SRAM or VDDIO_G below its threshold enters power-on reset at once. -/
  | supplyDip (x : Supply) (deep : Bool)
  /-- POR_RELEASE (R54): Power-on reset is released 10 µs after the last monitored supply became valid. -/
  | porRelease
  /-- OPTION_BYTE_READ (R68): The hardware state machine reads the OTP copies and any overlay, chooses the record and applies the pin reset map. -/
  | optionByteRead (flashOk : Bool := true)
  /-- BANK_SUPPLY_VALID (R48): A lamp bank supply becomes valid; its pins take the weak pull-down and the bank takes its voltage class. -/
  | bankSupplyValid (b : Fin 4) (high : Bool)
  /-- BANK_MAP_APPLY (R48): After at most 2 µs of weak pull-down, the pins of a late bank take their map state. -/
  | bankMapApply (b : Fin 4)
  /-- BANK_SUPPLY_LEAVES_RANGE (R56): A running lamp bank's supply leaves its valid range; the bank's pins follow the loss rule and its bus transactions end. -/
  | bankSupplyLeavesRange (b : Fin 4)
  /-- RESET_N_ASSERT (R57): RESET_N falls and the device starts counting its low time. -/
  | resetNAssert
  /-- RESET_N_RELEASE (R57): RESET_N is seen high; the press is ignored or classed short and the mapped reset level is entered. -/
  | resetNRelease (refclk : Bool := true)
  /-- RESET_N_LONG_COUNT (R57): The RESET_N low count reaches 200 ms; the press is long and the long reset is entered. -/
  | resetNLongCount
  /-- RESET_REQUEST_SHORT (R59): A write of 1 to RESET_REQUEST requests a short reset 10 ms after the response. -/
  | resetRequestShort (h : OdHead)
  /-- RESET_REQUEST_LONG (R59): A write of 2 to RESET_REQUEST requests a long reset 10 ms after the response. -/
  | resetRequestLong (h : OdHead)
  /-- RESET_REQUEST_EXECUTE (R59): 10 ms after the response to a reset request, the requested reset is carried out at its mapped level. -/
  | resetRequestExecute
  /-- REGION_RELEASE (R74): A region whose supplies are valid and whose clock-good is true is released in order; Memory release runs the DRAM size and role checks. -/
  | regionRelease (r : Region) (tie : Bool := false)
  /-- CLOCK_GOOD_TURN_EXPIRY (R74): A region does not meet its release conditions within 2 ms of its turn and the device moves on. -/
  | clockGoodTurnExpiry
  /-- CLOCK_GOOD_DROP (R75): A region PLL loses lock or its clock monitor sees no edge; the region is held and dependent ready bits clear. -/
  | clockGoodDrop (r : Region)
  /-- CLOCK_GOOD_RETURN (R75): Clock-good returns to a held Front or Image/Drive region, which is released again or restarts its pipeline. -/
  | clockGoodReturn (r : Region)
  /-- LOW_WATER_ENTRY (R76): The device reaches low-water: OD_MIN answers, forwarding runs in the tile and lamps are dark; held option events are logged. -/
  | lowWaterEntry
  /-- READY_BIT_RISE (R78): A function becomes usable once its prerequisites are set and its ready bit rises; pin groups leave their map state. -/
  | readyBitRise (bit : Fin 16)
  /-- CLUSTER_FAULT (R30): A cluster-level fault quiesces the cluster while other clusters run on. -/
  | clusterFault (r : Region) (c : Fin 32)
  /-- CLUSTER_RESTART_AT_FRAME_BOUNDARY (R31): A quiesced cluster restarts from the committed configuration at the next frame boundary of its stage. -/
  | clusterRestartAtFrameBoundary (r : Region) (c : Fin 32)
  /-- IMAGE_DRIVE_FAULT (R32): A fault Image/Drive cannot contain restarts the whole pipeline with outputs clamped and SLUICE_O and HB_O low. -/
  | imageDriveFault
  /-- UNCONTAINED_REGION_FAULT (R33): A fault Control, Memory or Time cannot contain puts the device into safe hold. -/
  | uncontainedRegionFault (r : Region)
  /-- SECURE_BOOT_VERIFY (R467): The boot ROM verifies candidate slots in order and starts the first valid image, or stays at low-water. -/
  | secureBootVerify
  /-- READ (R89): An OD READ message returns each item's value or status, answered in arrival order. -/
  | read (h : OdHead) (items : List OdItem)
  /-- WRITE (R100): An OD WRITE message writes parameters with no behaviour of their own, at once or into the open transaction, all or nothing. -/
  | write (h : OdHead) (items : List OdItem)
  /-- TXN_OPEN (R97): TXN_OPEN opens a transaction with the sender's number. -/
  | txnOpen (h : OdHead) (items : List OdItem)
  /-- TXN_COMMIT (R99): TXN_COMMIT checks cross-parameter rules and assigns the open transaction its applied tick. -/
  | txnCommit (h : OdHead) (items : List OdItem)
  /-- TXN_ABORT (R102): TXN_ABORT discards the open transaction. -/
  | txnAbort (h : OdHead) (items : List OdItem)
  /-- TXN_CANCEL (R102): TXN_CANCEL discards a pending transaction and every one committed after it. -/
  | txnCancel (h : OdHead) (items : List OdItem)
  /-- LEASE_CLAIM (R94): An authenticated LEASE_CLAIM grants the ownership lease when its epoch allows. -/
  | leaseClaim (h : OdHead) (items : List OdItem)
  /-- LEASE_RENEW (R96): LEASE_RENEW from the holder restarts the lease time. -/
  | leaseRenew (h : OdHead) (items : List OdItem)
  /-- LEASE_RELEASE (R96): LEASE_RELEASE frees the lease at once with the effect of a lapse. -/
  | leaseRelease (h : OdHead) (items : List OdItem)
  /-- EVENT (R90): An EVENT message of event records arrives at the manager. -/
  | event (h : OdHead) (items : List OdItem)
  /-- UNKNOWN_OP (R90): A message with an undefined OP is answered with one item of status UNKNOWN. -/
  | unknownOp (h : OdHead) (o : BitVec 8) (items : List OdItem)
  /-- LEASE_LAPSE (R96): LEASE_TIME passes without an accepted message from the holder and the lease lapses. -/
  | leaseLapse
  /-- TRANSACTION_TIMEOUT_EXPIRY (R101): An open transaction not committed within 2 s is discarded. -/
  | transactionTimeoutExpiry
  /-- SETTINGS_STORE_WRITE (R85): Within 1 s of a latch that changed stored values, a whole settings record is appended to flash. -/
  | settingsStoreWrite
  /-- OPTION_OVERLAY (R73): An authenticated write stores an option overlay in flash for the next option read. -/
  | optionOverlay (h : OdHead) (off : Nat) (data : List Byte)
  /-- COMMIT_LATCH (R100): At tick k − 250 µs pending transactions apply in commit order, then ready flip groups flip and canvas, area 28, 29 and 0C bindings are taken. -/
  | commitLatch (k : Nat) (tie : Bool)
  /-- TICK_STROBE (R211): The tick strobe fires for tick n: markers leave, composition and fixture sampling start, per-tick duties and windows run. -/
  | tickStrobe (n : Nat) (tie : Bool)
  /-- COMPOSE_DEADLINE (R17): At tick k+1 (less SPAN_GUARD in a span head) an incomplete canvas k is discarded and canvas k−1 is repeated. -/
  | composeDeadline (k : Nat) (tie : Bool)
  /-- CANVAS_COMPLETE (R17): The compositor finishes writing canvas k to DRAM. -/
  | canvasComplete (k : Nat)
  /-- POLDER_BUILD_COMPLETE (R249): A polder build completes and becomes the polder in use at the time its cause gives. -/
  | polderBuildComplete
  /-- SCANOUT_PACKET_START (R267): A streamer starts a packet at or after its due time once the well holds its payload and it fits before E. -/
  | scanoutPacketStart (c : Fin 16)
  /-- DRY_LIMIT_EXPIRY (R270): A packet is past due by DRY_LIMIT with payload missing; the region is ended incomplete. -/
  | dryLimitExpiry (c : Fin 16)
  /-- SCAN_END_POINT (R271): The scan end point E of a chain is reached and unfinished regions are left incomplete. -/
  | scanEndPoint (c : Fin 16)
  /-- SPAN_DEADLINE (R279): At tick k+1 − SPAN_GUARD a span head sends its SPAN_RECORD with DONE 0 if the canvas is not complete. -/
  | spanDeadline (k : Nat) (tie : Bool)
  /-- SPAN_RECORD (R279): A SPAN_RECORD link-management packet arrives from the span partner. -/
  | spanRecord (k : Nat) (role : Fin 4) (done : Bool) (rate : Fin 16) (digest : BitVec 64) (hist : List (Nat × Nat))
  /-- FLIP_SET (R231): A partner's flip set arrives and the standby or span head adjusts its buffer choices. -/
  | flipSet (k : Nat) (set : List (Fin 16 × List Nat))
  /-- FLIP_SET_DEADLINE (R231): The partner's flip set has not arrived by latch + 200 µs and is missing. -/
  | flipSetDeadline (k : Nat)
  /-- CUT_OFF (R20): At display tick − 40 µs the tile chooses the active copy, the standby copy or neither. -/
  | cutOff (k : Nat) (tie : Bool)
  /-- DISPLAY_TICK (R21): At the display tick the chosen written-through buffer swaps to front on all ports, the snapshot is taken and the wear ledger is updated. -/
  | displayTick (k : Nat) (tie : Bool)
  /-- CORRECTION_WRITE_THROUGH (R22): The correction pipeline completes the last drive-buffer write of a region. -/
  | correctionWriteThrough (p : Fin 2) (k : Nat)
  /-- K_TARGET_COMPUTE (R299): The firmware computes and delivers each zone's matrix target for the next snapshot. -/
  | kTargetCompute
  /-- GAIN_TABLE_BUILD_COMPLETE (R304): A wear gain table build from the ledger completes. -/
  | gainTableBuildComplete
  /-- LEDGER_FLUSH_TIMER (R305): Every 10 minutes a ledger flush to the next flash slot is due. -/
  | ledgerFlushTimer
  /-- LEDGER_FLUSH_COMPLETE (R305): A ledger flush to flash completes. -/
  | ledgerFlushComplete
  /-- LEDGER_REPLACE (R306): LEDGER_COMMAND op 1 replaces the ledger from the stage at the first display instant after its latch. -/
  | ledgerReplace
  /-- LEDGER_ZERO (R306): LEDGER_COMMAND op 2 zeros a range of ledger entries at the first display instant after its latch. -/
  | ledgerZero
  /-- COEFF_DATA (R295): A write of coefficient records lands in the load bank and clears its seal. -/
  | coeffData (h : OdHead) (off : Nat) (data : List Byte)
  /-- COEFF_SEAL (R295): A CRC write checks and seals the coefficient load bank. -/
  | coeffSeal (h : OdHead) (v : BitVec 32)
  /-- MAP_DATA (R312): A write of map entries lands in the map load bank. -/
  | mapData (h : OdHead) (off : Nat) (data : List Byte)
  /-- MAP_SEAL (R312): A CRC write checks and seals the map load bank. -/
  | mapSeal (h : OdHead) (v : BitVec 32)
  /-- BANK_FLASH_COPY (R296): A bank newly bound to a frame is copied to the alternate stored copy in flash. -/
  | bankFlashCopy (kind : Fin 4) (bank : Fin 8)
  /-- SENSOR_READ_START (R325): A board sensor read falls due in its slot of SENSOR_PERIOD and starts on an idle bus. -/
  | sensorReadStart (entry : Fin 16)
  /-- SENSOR_READ_COMPLETE (R325): A sensor read ends and its value is converted into SENSOR_TEMP. -/
  | sensorReadComplete (entry : Fin 16) (r : BusEnd)
  /-- SUBFRAME_BOUNDARY (R313): A refresh subframe begins on a port's grid; readback comparison and paired take-over driving act here. -/
  | subframeBoundary (p : Fin 32) (k : Nat) (m : Fin 128) (heard : Option SubHeard)
  /-- ROW_SLOT_BOUNDARY (R313): A row slot begins with blanking, a row change and any probe slot. -/
  | rowSlotBoundary (q : Fin 8) (r : Fin 32)
  /-- PLANE_BOUNDARY (R318): In B mode a plane boundary arrives and the shift unit must be idle. -/
  | planeBoundary (q : Fin 8)
  /-- BUS_TRANSACTION_END (R324): An I2C driver-bus transaction ends with its result, retried once on NACK. -/
  | busTransactionEnd (b : Fin 8) (r : BusEnd)
  /-- BUS_STRETCH_TIMEOUT (R324): A clock stretch lasts 1 ms and the transaction ends. -/
  | busStretchTimeout (b : Fin 8)
  /-- BUS_STUCK_RETRY (R324): A failed bus is retried once a second. -/
  | busStuckRetry (b : Fin 8) (released : Bool)
  /-- QUAD_RESTART_AT_BOUNDARY (R327): A faulted quad restarts from the committed configuration at the next frame boundary. -/
  | quadRestartAtBoundary (q : Fin 8)
  /-- NOP (R335): Sequencer instruction doing nothing. -/
  | seqNop (q : Fin 8)
  /-- MOVI (R335): Sequencer instruction loading a zero-extended immediate. -/
  | seqMovi (q : Fin 8)
  /-- MOVH (R335): Sequencer instruction loading the upper 16 bits of a register. -/
  | seqMovh (q : Fin 8)
  /-- ADD (R335): Sequencer instruction adding two registers. -/
  | seqAdd (q : Fin 8)
  /-- SUB (R335): Sequencer instruction subtracting two registers. -/
  | seqSub (q : Fin 8)
  /-- ADDI (R335): Sequencer instruction adding a sign-extended immediate. -/
  | seqAddi (q : Fin 8)
  /-- AND (R335): Sequencer instruction ANDing two registers. -/
  | seqAnd (q : Fin 8)
  /-- OR (R335): Sequencer instruction ORing two registers. -/
  | seqOr (q : Fin 8)
  /-- XOR (R335): Sequencer instruction XORing two registers. -/
  | seqXor (q : Fin 8)
  /-- SHLI (R335): Sequencer instruction shifting left by an immediate. -/
  | seqShli (q : Fin 8)
  /-- SHRI (R335): Sequencer instruction shifting right logically by an immediate. -/
  | seqShri (q : Fin 8)
  /-- LD (R335): Sequencer instruction loading a data memory word. -/
  | seqLd (q : Fin 8)
  /-- ST (R335): Sequencer instruction storing a data memory word. -/
  | seqSt (q : Fin 8)
  /-- MFS (R333): Sequencer instruction reading a special register. -/
  | seqMfs (q : Fin 8)
  /-- BR (R335): Sequencer unconditional branch. -/
  | seqBr (q : Fin 8)
  /-- BZ (R335): Sequencer branch if a register is zero. -/
  | seqBz (q : Fin 8)
  /-- BNZ (R335): Sequencer branch if a register is non-zero. -/
  | seqBnz (q : Fin 8)
  /-- DBNZ (R335): Sequencer decrement and branch if non-zero. -/
  | seqDbnz (q : Fin 8)
  /-- CALL (R335): Sequencer call saving the return address in q15. -/
  | seqCall (q : Fin 8)
  /-- RET (R335): Sequencer return to q15. -/
  | seqRet (q : Fin 8)
  /-- WAIT (R338): Sequencer instruction waiting for an enabled event. -/
  | seqWait (q : Fin 8)
  /-- WAIT_EVENT_TAKEN (R338): A waiting WAIT completes on the lowest pending enabled event, or a program switch starts the new program. -/
  | waitEventTaken (q : Fin 8)
  /-- DLY (R335): Sequencer instruction issuing nothing for a number of cycles. -/
  | seqDly (q : Fin 8)
  /-- TRACE (R348): Sequencer instruction writing a trace mark when enabled. -/
  | seqTrace (q : Fin 8)
  /-- FAULT (R335): Sequencer instruction raising a sequencer fault with its code. -/
  | seqFault (q : Fin 8)
  /-- SHW (R336): Sequencer instruction queuing a shift of 16-bit words per strand from a source. -/
  | seqShw (q : Fin 8)
  /-- SHB (R336): Sequencer instruction queuing a shift of one plane bit per word. -/
  | seqShb (q : Fin 8)
  /-- SHR (R335): Sequencer instruction shifting the low bits of a register on every strand. -/
  | seqShr (q : Fin 8)
  /-- LAT (R335): Sequencer instruction holding LPn_LT high for a count of CK periods. -/
  | seqLat (q : Fin 8)
  /-- STRM (R336): Sequencer instruction positioning the drive stream at a row with a word order. -/
  | seqStrm (q : Fin 8)
  /-- OEC (R335): Sequencer instruction holding or releasing LPn_OE low on masked ports. -/
  | seqOec (q : Fin 8)
  /-- PRB (R349): Sequencer instruction pulsing a probe on masked ports. -/
  | seqPrb (q : Fin 8)
  /-- FSD (R320): Sequencer instruction marking the end of the frame-start shift. -/
  | seqFsd (q : Fin 8)
  /-- I2C (R350): Sequencer instruction starting an I2C transaction from a descriptor. -/
  | seqI2c (q : Fin 8)
  /-- PPW (R335): Sequencer instruction making a push-pull bus write. -/
  | seqPpw (q : Fin 8)
  /-- PPR (R335): Sequencer instruction making a push-pull bus read. -/
  | seqPpr (q : Fin 8) (bits : BitVec 32)
  /-- SEQ_WATCHDOG_EXPIRY (R346): 2^24 cycles pass with no WAIT issued and the sequencer faults. -/
  | seqWatchdogExpiry (q : Fin 8)
  /-- PROG_DATA (R343): A write of program image bytes lands in a program slot. -/
  | progData (h : OdHead) (entry : Fin 8) (off : Nat) (data : List Byte)
  /-- PROG_SEAL (R343): A CRC write checks and seals a program slot. -/
  | progSeal (h : OdHead) (entry : Fin 8) (v : BitVec 32)
  /-- HEALTH_READ_START (R355): A strand's health read falls due in its slot of HEALTH_PERIOD and starts. -/
  | healthReadStart (q : Fin 8) (entry : Fin 16)
  /-- HEALTH_READ_COMPLETE (R358): A health read ends and each tested lamp of the strand takes a pass or fail. -/
  | healthReadComplete (q : Fin 8) (entry : Fin 16) (r : BusEnd)
  /-- FAULT_LIST_WRITE (R364): Within 1 s of a declaration or clear the fault list is written to flash. -/
  | faultListWrite
  /-- LAMP_AGE_SECOND (R358): Each second lamp ages advance and OK lamps reaching HEALTH_STALE become UNTESTED. -/
  | lampAgeSecond
  /-- HEALTH_CLEAR (R365): HEALTH_COMMAND op 1 clears a range of lamps to UNTESTED at its latch. -/
  | healthClear
  /-- HEALTH_DECLARE (R365): HEALTH_COMMAND op 2 declares a range of lamps OPEN at its latch. -/
  | healthDeclare
  /-- PUMP_STEP_SLOT (R371): Each 2.5 µs step slot the engine serves the lowest-numbered due loop step. -/
  | pumpStepSlot
  /-- AIN_CONVERSION (R373): The SAR converter completes a conversion of the next enabled, ungated channel. -/
  | ainConversion (a : Fin 8) (code : BitVec 12)
  /-- TACH_EDGE (R374): A rising edge on TACH0 or TACH1 updates the fan speed. -/
  | tachEdge (t : Fin 2)
  /-- TACH_TIMEOUT (R374): One second passes with no tach edge and the speed reads 0. -/
  | tachTimeout (t : Fin 2)
  /-- TACH_STALL_TIMER (R385): The fan speed stays below TACH_STALL for 2 s with its PWM duty above 0. -/
  | tachStallTimer (t : Fin 2)
  /-- OSC_RESET (R382): A write of loop bits restores the configured gain scale and mode at the latch. -/
  | oscReset (h : OdHead) (bits : BitVec 16)
  /-- INVALID_SYMBOL (R115): A receiver finds an invalid symbol, replaces it with K30.7 and counts it; four in 64 lose sync. -/
  | invalidSymbol (n : Fin 32) (gap : Nat) (pos : Bool := false) (code : BitVec 10 := 0) (misaligned : Bool := false)
  /-- COMMA_TIMEOUT (R119): 16,384 symbols pass with no K28.5 at the established alignment and sync is lost. -/
  | commaTimeout (n : Fin 32)
  /-- LANE_SIGNAL_DETECT (R118): A receiver detects signal above squelch and the lane enters CDR. -/
  | laneSignalDetect (n : Fin 32)
  /-- CDR_LOCK (R118): Clock is recovered and the lane enters ALIGN. -/
  | cdrLock (n : Fin 32)
  /-- CDR_TIMEOUT (R118): Clock is not recovered within 100 µs and the lane returns to SIGNAL. -/
  | cdrTimeout (n : Fin 32) (tie : Bool := false)
  /-- LANE_ALIGN (R118): Four K28.5 at one alignment align the lane and detect its polarity. -/
  | laneAlign (n : Fin 32) (inverted : Bool)
  /-- LANE_ADAPT_COMPLETE (R118): Initial adaptation and 1,024 valid symbols bring the lane UP. -/
  | laneAdaptComplete (n : Fin 32) (ctle : Fin 16) (taps : List Int)
  /-- LANE_BRINGUP_TIMER (R120): A lane with signal does not reach UP within 100 ms and restarts from SIGNAL. -/
  | laneBringupTimer (n : Fin 32) (tie : Bool := false)
  /-- RATE_HUNT_TIMER (R122): In auto rate a tile port moves to the next rate after 2 ms without UP. -/
  | rateHuntTimer (tie : Bool := false)
  /-- LANE_OFF_HOLD_EXPIRY (R132): A lane taken OFF for 1 µs by a use or rate change starts bring-up again. -/
  | laneOffHoldExpiry (n : Fin 32)
  /-- SKIP_INSERT (R117): After 4,096 symbols since the last SKIP the transmitter sends K23.7 in the next gap. -/
  | skipInsert (n : Fin 32)
  /-- ELASTIC_BUFFER_SLIP (R117): An elastic buffer overflows or runs dry and a symbol is lost or K30.7 inserted. -/
  | elasticBufferSlip (n : Fin 32) (overflow : Bool)
  /-- QUAD_PLL_LOCK_LOSS (R114): A lane quad PLL loses lock and every lane of the quad leaves its state. -/
  | quadPllLockLoss (q : Fin 8)
  /-- QUAD_PLL_RELOCK (R114): The quad PLL relocks and its lanes restart from CDR. -/
  | quadPllRelock (q : Fin 8)
  /-- ADAPT_UPDATE (R123): Once per microsecond the CTLE and DFE adapt by sign-sign LMS. -/
  | adaptUpdate (n : Fin 32) (dCtle : Int) (dTaps : List Int) (trimTap : Bool)
  /-- TRIM_STEP (R458): Every 10 µs each trim code away from its target moves one step toward it. -/
  | trimStep
  /-- EYE_MARGIN_MEASURE (R126): Once per second the margin monitor measures eye height and width. -/
  | eyeMarginMeasure (n : Fin 32) (height : Fin 65) (width : Fin 129)
  /-- EYE_SCAN_START (R127): Writing START aborts any running scan and begins a full eye scan of a lane. -/
  | eyeScanStart (h : OdHead) (ctrl : BitVec 32)
  /-- EYE_SCAN_POINT (R127): The dwell of one eye-scan point completes and its count is stored. -/
  | eyeScanPoint (count : Nat)
  /-- TEST_BLOCK_SEND (R128): An in-band generator sends a test block when no packet is waiting. -/
  | testBlockSend (n : Fin 32)
  /-- TEST_BLOCK_RECEIVE (R130): A checker compares a received test block or raw span against its pattern. -/
  | testBlockReceive (n : Fin 32) (seq : Option Byte) (data : List Byte)
  /-- PRBS_GEN (R141): A write sets a lane's pattern generator, clearing its counters when non-zero. -/
  | prbsGen (h : OdHead) (n : Fin 32) (code : BitVec 8)
  /-- PRBS_CHK (R141): A write sets a lane's pattern checker, clearing its counters and lock when non-zero. -/
  | prbsChk (h : OdHead) (n : Fin 32) (code : BitVec 8)
  /-- INJECT (R131): A write inverts a number of consecutive bits on the wire from the next symbol. -/
  | inject (h : OdHead) (n : Fin 32) (bits : BitVec 8)
  /-- AUX_REQUEST (R138): A DP source's AUX request is answered within 300 µs from the DPCD or EDID, driving link training. -/
  | auxRequest (n : Fin 4) (req : AuxReq) (cr : Bool) (eq : Bool)
  /-- DP_LANE_LOCK_LOSS (R136): Symbol lock or clock recovery is lost after training; lane status updates and IRQ_HPD is sent. -/
  | dpLaneLockLoss (n : Fin 4) (lane : Fin 4)
  /-- HPD_PULSE_END (R136): The IRQ_HPD pulse ends and HPD returns high. -/
  | hpdPulseEnd (n : Fin 4)
  /-- HPD_CYCLE_END (R139): 250 ms after a configuration latch drove HPD low, HPD rises again. -/
  | hpdCycleEnd (n : Fin 4)
  /-- MSA_RECEIVED (R137): The receiver reads the stream format from the MSA and SDPs. -/
  | msaReceived (n : Fin 4) (m : MsaInfo)
  /-- DP_FRAME_START (R226): The first active line of a DP frame arrives and the frame is written to the next free buffer or dropped. -/
  | dpFrameStart (n : Fin 4)
  /-- DP_FRAME_END (R226): The last active line is written and acknowledged and the DP source fence is signalled. -/
  | dpFrameEnd (n : Fin 4) (clean : Bool) (pixels : List Byte)
  /-- VIDEO_PACKET (R164): A video packet arrives whole; the tile forwards it and takes it into a copy or a grant, and a head checks partner packets. -/
  | videoPacket (p : Fin 16) (v : VideoPacket)
  /-- CONTROL_PACKET (R153): A control packet arrives whole and is forwarded, relayed, refused by epoch or passed to the dictionary. -/
  | controlPacket (p : Fin 16) (c : ControlHead) (b : ControlBody)
  /-- OWN_PACKET_SEND (R155): A tile sends a queued packet of its own into a reserved stretch it fits. -/
  | ownPacketSend (p : Fin 2)
  /-- TICK_MARKER (R158): A TICK marker arrives; it is forwarded and, if valid, used for the tile's time and rate. -/
  | tickMarker (p : Fin 16) (m : Marker)
  /-- MARKER_WAIT_EXPIRY (R158): A port's marker has not arrived by local tick + L + 2 µs and is missing. -/
  | markerWaitExpiry (p : Fin 2)
  /-- ECHO_REQ (R159): An ECHO_REQ arrives and the device answers with ECHO_RESP carrying TURN. -/
  | echoReq (p : Fin 20) (seq : BitVec 16) (crcOk : Bool) (turn : BitVec 40)
  /-- ECHO_RESP (R160): An ECHO_RESP arrives and the link delay d is measured and filtered. -/
  | echoResp (p : Fin 20) (seq : BitVec 16) (turn : BitVec 40) (crcOk : Bool) (t2 : Nat)
  /-- LATENCY (R160): A LATENCY packet arrives and the tile derives its latency and position. -/
  | latency (p : Fin 20) (body : LatencyBody) (crcOk : Bool)
  /-- IDENT (R159): An IDENT packet arrives and updates the neighbour record. -/
  | ident (p : Fin 20) (body : BitVec 40) (crcOk : Bool)
  /-- ECHO_SEND_TIMER (R159): Once a second an ECHO_REQ is sent on each UP port. -/
  | echoSendTimer (p : Fin 20) (t1 : Nat)
  /-- LATENCY_SEND_TIMER (R159): A LATENCY packet is sent once a second and within 1 ms of a change. -/
  | latencySendTimer (p : Fin 20)
  /-- IDENT_SEND_TIMER (R159): An IDENT is sent on entry to UP and once a second. -/
  | identSendTimer (p : Fin 20)
  /-- LATENCY_STALE_TIMER (R161): An UP port receives no LATENCY for 3 s and its values are marked stale. -/
  | latencyStaleTimer (p : Fin 20) (tie : Bool := false)
  /-- CHAIN_LATENCY_READ (R162): Once a second a head reads the last tile's latency and updates L for its chain. -/
  | chainLatencyRead (c : Fin 16) (result : Option (BitVec 64))
  /-- CHAIN_LOAD_RECOMPUTE (R168): Once a second the head recomputes CHAIN_LOAD with the L in use. -/
  | chainLoadRecompute
  /-- INGRESS_PACKET (R222): A renderer's ingress packet is written into its surface buffer or discarded. -/
  | ingressPacket (c : Fin 16) (v : VideoPacket)
  /-- FENCE_PACKET (R224): A fence packet completes a channel's part of a fill and issues the fence write. -/
  | fencePacket (c : Fin 16) (v : VideoPacket)
  /-- FENCE_WRITE_ACK (R225): A channel's fence write is acknowledged and the surface fence may advance to the fill. -/
  | fenceWriteAck (c : Fin 16)
  /-- STILL_DATA (R227): A write lands in a still's load buffer. -/
  | stillData (h : OdHead) (entry : Fin 16) (off : Nat) (data : List Byte)
  /-- STILL_SEAL (R227): A CRC write signals a still's fence when it matches. -/
  | stillSeal (h : OdHead) (entry : Fin 16) (v : BitVec 32)
  /-- HEARTBEAT_EDGE (R175): A rising edge on HB_I ends a measured period and updates the heartbeat class. -/
  | heartbeatEdge (high : Nat)
  /-- HEARTBEAT_TIMEOUT (R175): 750 cycles pass with no HB_I edge and the heartbeat is LOST. -/
  | heartbeatTimeout
  /-- SLUICE_I_CHANGE (R176): SLUICE_I changes level and the partner view and sluice state follow. -/
  | sluiceIChange (high : Bool)
  /-- DOUBT_TIMER (R176): The partner view has been DOUBT for 10 µs. -/
  | doubtTimer
  /-- CLAIM_HOLDOFF_EXPIRY (R178): CLAIM_HOLDOFF elapses in HOLDOFF or STANDBY and the sluice moves on. -/
  | claimHoldoffExpiry
  /-- CLAIM_WINDOW_END (R178): A claim window passes clean and the device enters ACTIVE, advancing the epoch if manager. -/
  | claimWindowEnd
  /-- LAMP_NET_ACTIVITY (R195): A claiming paired member hears an edge on a listened lamp net and withdraws. -/
  | lampNetActivity
  /-- EVIDENCE_TIMEOUT (R180): DOUBT and absence of partner activity last EVIDENCE_TICKS ticks and the standby claims on evidence. -/
  | evidenceTimeout
  /-- SWITCHOVER (R190): A write of 1 to SWITCHOVER makes the pair exchange roles at its applied tick. -/
  | switchover (h : OdHead) (v : BitVec 8)
  /-- YIELD_TICK_REACHED (R178): The named tick of a switchover arrives; a yielding device goes to STANDBY or back to ACTIVE. -/
  | yieldTickReached (tie : Bool)
  /-- EPOCH_FLOOR (R184): An authenticated write sets a tile's E_t, even lower. -/
  | epochFloor (h : OdHead) (v : BitVec 32)
  /-- SIGNATURE_COMPARE_DEADLINE (R187): At tick k+2 + 200 µs partner regions not yet arrived count as skipped. -/
  | signatureCompareDeadline (k : Nat) (tie : Bool)
  /-- HEALTH_REPORT_PUBLISH (R187): At tick k+2 + 250 µs the standby publishes the health report for frame k. -/
  | healthReportPublish (k : Nat)
  /-- PTP_SYNC (R204): A PTP Sync arrives and yields a servo sample. -/
  | ptpSync (m : PtpMsg)
  /-- PTP_FOLLOW_UP (R200): A Follow_Up arrives with the precise origin time of a two-step Sync. -/
  | ptpFollowUp (m : PtpMsg)
  /-- PTP_DELAY_REQ (R200): A Delay_Req arrives at a head acting as master. -/
  | ptpDelayReq (m : PtpMsg)
  /-- PTP_DELAY_RESP (R204): A Delay_Resp arrives and updates the path delay. -/
  | ptpDelayResp (m : PtpMsg)
  /-- PTP_ANNOUNCE (R209): An Announce arrives and the BMCA runs. -/
  | ptpAnnounce (m : PtpMsg) (a : AnnounceInfo)
  /-- PTP_ANNOUNCE_TIMEOUT (R209): The announce receipt timeout expires and the clocks choose a new master. -/
  | ptpAnnounceTimeout
  /-- PTP_SYNC_SEND (R200): As master the head sends a Sync at its interval. -/
  | ptpSyncSend
  /-- PTP_ANNOUNCE_SEND (R200): As master the head sends an Announce at its interval. -/
  | ptpAnnounceSend
  /-- PTP_DELAY_REQ_SEND (R200): As slave the head sends a Delay_Req at its interval. -/
  | ptpDelayReqSend
  /-- MAC_FRAME_TRANSMIT (R202): A frame leaves a MAC and an event message's stamp enters the time-stamp queue. -/
  | macFrameTransmit (p : Fin 9) (size : Nat) (stamp : Nat) (deferred : Bool := false)
  /-- TSQ_RETRIEVE (R203): The firmware retrieves a time-stamp queue entry. -/
  | tsqRetrieve
  /-- TSQ_ENTRY_EXPIRY (R203): A queue entry not retrieved within 2 ms is removed. -/
  | tsqEntryExpiry
  /-- REF_IN_EDGE (R204): A rising edge on REF_IN yields a servo sample. -/
  | refInEdge
  /-- REF_IN_TIMEOUT (R204): 1.5 periods pass without a REF_IN edge and holdover starts. -/
  | refInTimeout
  /-- SERVO_SAMPLE_TIMEOUT (R207): No sample for three sample intervals puts the servo into holdover. -/
  | servoSampleTimeout
  /-- TIME_SET (R208): A write steps the time counter to the value written. -/
  | timeSet (h : OdHead) (v : BitVec 80)
  /-- TPO_EDGE (R216): A pulse output edge falls at its programmed time. -/
  | tpoEdge (n : Fin 8)
  /-- FIX_SAMPLING_COMPLETE (R392): The fixture sampler finishes canvas k. -/
  | fixSamplingComplete (k : Nat)
  /-- FIX_SAMPLE_DEADLINE (R392): Sampling is not complete at S(k) and frame k−1's slots are reused. -/
  | fixSampleDeadline (k : Nat) (tie : Bool)
  /-- SACN_DATA_START (R397): At X(k) − SACN_LEAD the head starts sending frame k's sACN data packets. -/
  | sacnDataStart (k : Nat)
  /-- EMISSION_INSTANT (R397): At X(k) sync packets are queued, held universes are sent and DMX breaks start. -/
  | emissionInstant (k : Nat)
  /-- SACN_DROP_DEADLINE (R397): Packets of frame k still waiting at X(k+1) − SACN_LEAD are dropped with their sync. -/
  | sacnDropDeadline (k : Nat)
  /-- UNIVERSE_DISCOVERY_SEND (R394): Every 10 s the head sends universe discovery. -/
  | universeDiscoverySend
  /-- DMX_FRAME_END (R400): A DMX frame's last stop bit ends and DMXn_DE falls. -/
  | dmxFrameEnd (p : Fin 16)
  /-- RDM_REQUEST (R402): A write queues an RDM request for a DMX port. -/
  | rdmRequest (h : OdHead) (p : Fin 16) (data : List Byte)
  /-- RDM_SEND (R402): A queued RDM request is sent in an idle stretch long enough for it. -/
  | rdmSend (p : Fin 16)
  /-- RDM_RESPONSE (R402): An RDM response arrives and is stored. -/
  | rdmResponse (p : Fin 16) (r : RdmEnd) (data : List Byte) (start : Nat := 0)
  /-- RDM_RESPONSE_TIMEOUT (R402): No response starts 2.8 ms after the request ends. -/
  | rdmResponseTimeout (p : Fin 16)
  /-- RDM_REQUEST_EXPIRY (R402): A request not sent within 1 s is dropped. -/
  | rdmRequestExpiry (p : Fin 16)
  /-- FIX_DATA (R388): A write of fixture records lands in the fixture load bank. -/
  | fixData (h : OdHead) (off : Nat) (data : List Byte)
  /-- FIX_SEAL (R388): A CRC write checks and seals the fixture load bank. -/
  | fixSeal (h : OdHead) (v : BitVec 32)
  /-- PHY_INT (R407): A fall of PHY_INT_N makes the device read the PHY status over MDIO. -/
  | phyInt (r : PhyStatus)
  /-- PHY_POLL_TIMER (R407): Every 100 ms the device reads the PHY status over MDIO. -/
  | phyPollTimer (r : PhyStatus)
  /-- AUTONEG_RETRY (R408): Every 10 s on a half-duplex link autonegotiation restarts. -/
  | autonegRetry
  /-- MAC_FRAME_RECEIVE (R409): A received frame is filtered, buffered or dropped. -/
  | macFrameReceive (p : Fin 9) (f : RxFrame)
  /-- DHCP_TIMEOUT (R410): No DHCP lease arrives within 10 s and the port falls back to link-local. -/
  | dhcpTimeout
  /-- PAUSE_FRAME (R411): A PAUSE frame with good FCS starts, restarts or ends a transmit pause. -/
  | pauseFrame (quanta : BitVec 16)
  /-- PAUSE_EXPIRY (R411): A pause's quanta elapse and transmission resumes. -/
  | pauseExpiry
  /-- PAUSE_CAP_EXPIRY (R412): A pause reaches PAUSE_CAP and is cut. -/
  | pauseCapExpiry
  /-- LPI_ENTRY (R413): Transmit queues idle for EEE_IDLE with nothing scheduled soon puts the port into LPI. -/
  | lpiEntry
  /-- LPI_EXIT (R413): The port leaves LPI Tw before a scheduled transmission. -/
  | lpiExit
  /-- LLDP_SEND (R414): Every 30 s the port sends an LLDPDU with the EEE TLV. -/
  | lldpSend
  /-- LLDP_TTL_EXPIRY (R414): The partner's EEE TLV TTL expires and the minimum Tw is used. -/
  | lldpTtlExpiry
  /-- DOWNSHIFT_TIMER (R415): All downshift conditions have held for DOWNSHIFT_DELAY and the link drops to 100 Mb/s. -/
  | downshiftTimer
  /-- T1S_COLLISION (R417): A collision on a T1S segment starts backoff or drops the frame after 16 attempts. -/
  | t1sCollision (n : Fin 8) (late : Bool)
  /-- T1S_BACKOFF_EXPIRY (R417): The collision backoff ends and the frame is retried. -/
  | t1sBackoffExpiry (n : Fin 8)
  /-- PLCA_STATUS_CHANGE (R418): A segment's PLCA status becomes true or false. -/
  | plcaStatusChange (n : Fin 8) (up : Bool) (beacons : Nat := 0)
  /-- TX_FIFO_UNDERRUN (R419): A transmit FIFO runs empty mid-frame; the frame is aborted, the step raised and the frame resent. -/
  | txFifoUnderrun (p : Fin 9)
  /-- TX_THRESHOLD (R419): A write sets the GbE transmit threshold step. -/
  | txThreshold (h : OdHead) (v : BitVec 8)
  /-- T1S_THRESHOLD (R419): A write sets a T1S segment's transmit threshold step. -/
  | t1sThreshold (h : OdHead) (n : Fin 8) (v : BitVec 8)
  /-- DRAM_REQUEST (R429): A requester's DRAM request enters its bank queue, or stalls while the queue is full. -/
  | dramRequest (r : Fin 24) (write : Bool) (addr : Nat) (urgency : Fin 4) (background : Bool) (part : Fin 16 := 0)
  /-- DRAM_READ_RETURN (R428): Read data returns to its requester in issue order, corrected or poisoned. -/
  | dramReadReturn (r : Fin 24) (ce : Bool) (ue : Bool) (what : Nat) (part : Fin 16 := 0)
  /-- DRAM_WRITE_ACK (R428): A write is acknowledged in issue order and becomes visible to later reads. -/
  | dramWriteAck (r : Fin 24) (part : Fin 16 := 0)
  /-- REQUEST_AGE_EXPIRY (R429): An urgency-0 entry that waited 20 µs is raised to urgency 1. -/
  | requestAgeExpiry (c : Fin 16) (b : Fin 16)
  /-- REFRESH_TICK (R432): A tREFI tick adds one to a channel's refresh debt, forcing refresh at 8. -/
  | refreshTick (c : Fin 16)
  /-- DISTURB_WINDOW_RESTART (R433): Every 32 ms a bank's row tracker clears and throttle steps may fall. -/
  | disturbWindowRestart (c : Fin 16) (b : Fin 16)
  /-- DRAM_TRAINING_COMPLETE (R438): DRAM calibration, training and zeroing finish and DRAM may rise. -/
  | dramTrainingComplete (results : List (BitVec 32))
  /-- DRAM_RECAL_TIMER (R438): Once a second one channel repeats impedance calibration and read-gate training. -/
  | dramRecalTimer
  /-- SELF_REFRESH_TIMEOUT (R439): The L1 self-refresh sequence does not complete within 50 µs and the reset deepens to L0. -/
  | selfRefreshTimeout
  /-- STANDBY_ENTRY_TIMER (R440): START_STAGE has stayed 1 for STANDBY_DELAY and idle channels enter partial-array self-refresh. -/
  | standbyEntryTimer
  /-- CHANNEL_IDLE_TIMEOUT (R440): A woken standby channel re-enters self-refresh after 100 µs without a request. -/
  | channelIdleTimeout (c : Fin 16)
  /-- CISTERN_SCRUB (R443): The cistern scrubber reads a word and writes it back corrected. -/
  | cisternScrub (b : Fin 96) (word : BitVec 15) (corrected : Bool) (bad : Bool)
  /-- THERMAL_SAMPLE (R451): A die temperature sample sets the thermal stage, the DRAM estimate and any trim evaluation. -/
  | thermalSample (t : Option Int)
  /-- TRIP_COMPARATOR (R450): The analog comparator sets the trip latch at 140 °C junction. -/
  | tripComparator
  /-- BG_PAUSE_EXPIRY (R452): At throttle-1 a background operation's pause after a unit ends. -/
  | bgPauseExpiry (o : Fin 6)
  /-- COMPOSE_PAUSE_EXPIRY (R453): At throttle-2 a compositor cluster's pause after a block ends. -/
  | composePauseExpiry (c : Fin 4)
  /-- LOCK_ADVANCE (R465): A write names a more restrictive lock state and its fuses start to burn. -/
  | lockAdvance (h : OdHead) (v : BitVec 8)
  /-- LOCK_BURN_COMPLETE (R465): The lock fuses finish burning and the new state acts, closing debug. -/
  | lockBurnComplete
  /-- KEY_LOAD_CLEAR (R470): KEY_LOAD in MODE 0 loads a plain key into an empty slot where the lock state allows. -/
  | keyLoadClear (h : OdHead) (value : List Byte)
  /-- KEY_LOAD_WRAPPED (R470): KEY_LOAD in MODE 1 loads an HMAC-wrapped key under a KEY-permitted key. -/
  | keyLoadWrapped (h : OdHead) (value : List Byte)
  /-- KEY_REVOKE (R470): A write empties the named key slot. -/
  | keyRevoke (h : OdHead) (v : BitVec 8)
  /-- DEBUG_UNLOCK (R473): A write of 1 in FIELD opens debug until the next L0 reset. -/
  | debugUnlock (h : OdHead) (v : BitVec 8)
  /-- BYPASS (R473): JTAG BYPASS instruction. -/
  | bypass
  /-- SAMPLE_PRELOAD (R473): JTAG SAMPLE/PRELOAD instruction. -/
  | samplePreload (cells : List Byte)
  /-- EXTEST (R473): JTAG EXTEST instruction. -/
  | extest
  /-- IDCODE (R473): JTAG IDCODE instruction. -/
  | idcode
  /-- ATTEST_REQUEST (R476): A nonce write starts an attestation report, advancing the signature index. -/
  | attestRequest (h : OdHead) (nonce : List Byte) (flashOk : Bool)
  /-- ATTEST_SIGN_COMPLETE (R476): The signed attestation report is published. -/
  | attestSignComplete
  /-- MANIFEST (R485): A written manifest is verified and, if new, starts a download into the inactive slot. -/
  | manifest (h : OdHead) (off : Nat) (data : List Byte)
  /-- IMAGE_DATA (R488): A write stores image blocks in a head's inactive slot. -/
  | imageData (h : OdHead) (off : Nat) (data : List Byte)
  /-- UPD_BLOCK (R489): An UPD_BLOCK link packet arrives; the block is stored and verified in order. -/
  | updBlock (p : Fin 20) (id : BitVec 32) (entry : Nat) (data : List Byte) (crcOk : Bool)
  /-- UPD_STATE (R486): An UPD_STATE link packet arrives with the neighbour's state, blocks and any relayed manifest. -/
  | updState (p : Fin 20) (id : BitVec 32) (st : Fin 8) (version : BitVec 16) (held : List Nat) (manifest : List Byte) (crcOk : Bool)
  /-- UPD_STATE_TIMER (R486): Once a second and on each state change a device sends UPD_STATE on each UP port. -/
  | updStateTimer
  /-- UPD_BLOCK_SEND (R488): In a reserved stretch a device sends one block the neighbour lacks. -/
  | updBlockSend (p : Fin 20)
  /-- ACTIVATE (R490): A write of 1 in READY writes TRIAL and schedules an L1 reset 10 ms after the response. -/
  | activate (h : OdHead) (v : BitVec 8)
  /-- ACTIVATION_RESET (R490): 10 ms after an activation response the device carries out its L1 reset. -/
  | activationReset
  /-- CONFIRM (R494): A write of 1 confirms the trial and may advance the security floor. -/
  | confirm (h : OdHead) (v : BitVec 8)
  /-- AUTO_CONFIRM_TIMER (R493): Every AUTO_CONFIRM ready bit has held for 60 s and the trial is confirmed. -/
  | autoConfirmTimer
  /-- CONFIRM_WINDOW_EXPIRY (R493): The confirmation window ends unconfirmed and the device carries out an L1 reset. -/
  | confirmWindowExpiry
  /-- UPDATE_ABORT (R493): A write of 1 reverts a trial or erases the inactive slot. -/
  | updateAbort (h : OdHead) (v : BitVec 8)
  /-- DUMP_RECORD_WRITTEN (R501): Every write of a dump record is acknowledged and DUMP_WRITE advances. -/
  | dumpRecordWritten
  /-- DUMP_READ (R503): The reader writes the number of dump records it has taken. -/
  | dumpRead (h : OdHead) (v : BitVec 32)
  /-- COUNTER_FREEZE (R504): COUNTER_FREEZE value 1 stops every counter. -/
  | counterFreeze (h : OdHead)
  /-- COUNTER_RELEASE (R504): COUNTER_FREEZE value 2 resumes counting. -/
  | counterRelease (h : OdHead)
  /-- COUNTER_SNAPSHOT (R504): COUNTER_FREEZE value 3 copies every counter and the tick to SNAPSHOT. -/
  | counterSnapshot (h : OdHead)
  /-- SAMPLE_TAKE (R505): A source's (P + r)th instruction since the last sample is recorded. -/
  | sampleTake (entry : Fin 10) (word : BitVec 32) (pc : BitVec 32) (addr : BitVec 32) (latency : Nat)
  /-- SAMPLE_CLEAR (R506): A write of 1 empties the sample buffer. -/
  | sampleClear (h : OdHead) (v : BitVec 8)
  /-- EVENT_SERVICE_WRITE (R511): The event service takes one queued raise, merges or writes the record to the log and queues it for the manager. -/
  | eventServiceWrite (r : Region)
  /-- EVENT_MESSAGE_SEND (R513): With 30 records queued or 10 ms after the oldest, an EVENT message goes to the lease holder. -/
  | eventMessageSend
  /-- EVENT_ACK (R514): The manager's response to an EVENT message removes its records from the queue. -/
  | eventAck (seq : Nat)
  /-- EVENT_RESEND_TIMEOUT (R514): No acknowledgement within 500 ms and the records are sent again. -/
  | eventResendTimeout
  /-- FAULT_CLEAR (R515): A write clears FAULT_LATCH and re-points it at the next fault record. -/
  | faultClear (h : OdHead) (v : BitVec 32)
  /-- IRQ_PENDING_CLEAR (R516): A write of 1 to a pending bit clears it unless set again in that cycle. -/
  | irqPendingClear (h : OdHead) (bits : BitVec 16)
  /-- SUPPLY_FALL (R525): A supervised supply other than the three monitored by power-on reset or a lamp bank (VDD_DRAM, VDDA_LANE09, VDDA_LANE12, VDDIO_E) falls below its falling threshold and stops being valid. -/
  | supplyFall (x : Supply)
  /-- COMMAND_SLOT (R430): Each DRAM command slot a channel chooses and issues one command: forced, owed or pulled-in REFRESH, or the next ACTIVATE, READ, WRITE or PRECHARGE of the chosen bank. -/
  | commandSlot (c : Fin 16) (able : List (Fin 16))
  /-- SHIFT_OPERATION_END (R336): A pin operation in a sequencer's shift unit finishes playing out and the next waiting operation starts, or a zero-time STRM, OEC or FSD reaches the front of the unit and takes effect. -/
  | shiftOperationEnd (q : Fin 8)
  /-- ARP_PROBE_END (R410): The ARP probe period for a candidate IPv4 address ends without conflict and the port starts using the address. -/
  | arpProbeEnd
  deriving DecidableEq, Repr

end Sys2Proof
end

