-- ==== Sys2Proof/Machine/SMap.lean ====
section
/-! DEFINITION. Operations of the sparse tables (`SMap`), of little-endian byte strings and of bit fields. -/

namespace Sys2Proof.Machine

/-- The value a sparse table holds at `k`; `d` gives what an unlisted key holds. -/
def SMap.get {α : Type} (d : α) : SMap α → Nat → α
  | [], _ => d
  | (j, v) :: m, k => if j = k then v else SMap.get d m k

/-- `m` with `k` listed as `v`, whether or not `v` is the default. -/
def SMap.put {α : Type} : SMap α → Nat → α → SMap α
  | [], k, v => [(k, v)]
  | (j, w) :: m, k, v =>
    if k < j then (k, v) :: (j, w) :: m
    else if k = j then (k, v) :: m
    else (j, w) :: SMap.put m k v

/-- `m` with no entry for `k`. -/
def SMap.del {α : Type} : SMap α → Nat → SMap α
  | [], _ => []
  | (j, w) :: m, k => if j = k then SMap.del m k else (j, w) :: SMap.del m k

/-- The table that reads `v` at `k` and as before elsewhere: writing the default removes the entry. -/
def SMap.set {α : Type} [DecidableEq α] (d : α) (m : SMap α) (k : Nat) (v : α) : SMap α :=
  if v = d then SMap.del m k else SMap.put m k v

/-- One value changed in place by `f`. -/
def SMap.upd {α : Type} [DecidableEq α] (d : α) (m : SMap α) (k : Nat) (f : α → α) : SMap α :=
  SMap.set d m k (f (SMap.get d m k))

/-- Keys rise strictly from above `lo`, and no entry equals the default of its key. -/
def SMap.wfFrom {α : Type} [DecidableEq α] (d : Nat → α) : Option Nat → SMap α → Bool
  | _, [] => true
  | lo, (k, v) :: m =>
    (match lo with | none => true | some l => decide (l < k)) && decide (v ≠ d k) && SMap.wfFrom d (some k) m

/-- The canonical form of a sparse table whose unlisted keys read `d`. -/
def SMap.wf {α : Type} [DecidableEq α] (d : Nat → α) (m : SMap α) : Bool := SMap.wfFrom d none m

/-- The entries whose key satisfies `p`. -/
def SMap.keep {α : Type} (p : Nat → Bool) (m : SMap α) : SMap α := m.filter (fun e => p e.1)

/-- Add `k` to a set of numbers. -/
def NSet.add : NSet → Nat → NSet
  | [], k => [k]
  | j :: m, k => if k < j then k :: j :: m else if k = j then j :: m else j :: NSet.add m k

/-- Remove `k` from a set of numbers. -/
def NSet.del (m : NSet) (k : Nat) : NSet := m.filter (· ≠ k)

/-- Bit `i` of `n`. -/
def bit (n i : Nat) : Bool := (n >>> i) % 2 == 1

/-- The field of `w` bits of `n` whose lowest bit is `lo`. -/
def field (n lo w : Nat) : Nat := (n >>> lo) % 2 ^ w

/-- `n` with bit `i` made `b`. -/
def setBit (n i : Nat) (b : Bool) : Nat :=
  if bit n i = b then n else if b then n + 2 ^ i else n - 2 ^ i

/-- The lowest set bit of `n` below `w`, if there is one. -/
def lowBit (n w : Nat) : Option Nat := (List.range w).find? (bit n)

/-- 1 for true, 0 for false. -/
def b2n (b : Bool) : Nat := if b then 1 else 0

/-- The signed number a two's-complement field of `w` bits stands for. -/
def signed (w n : Nat) : Int := if n % 2 ^ w < 2 ^ (w - 1) then (n % 2 ^ w : Nat) else (n % 2 ^ w : Nat) - (2 ^ w : Nat)

/-- The two's-complement field of `w` bits of a signed number. -/
def unsigned (w : Nat) (i : Int) : Nat := (i % (2 ^ w : Nat)).toNat

/-- The number a little-endian byte string spells (R83). -/
def leNat : List Byte → Nat
  | [] => 0
  | b :: bs => b.toNat + 256 * leNat bs

/-- `n` as `k` little-endian bytes. -/
def leBytes : Nat → Nat → List Byte
  | 0, _ => []
  | k + 1, n => BitVec.ofNat 8 n :: leBytes k (n / 256)

/-- Clamp an integer between two bounds. -/
def clampI (lo hi x : Int) : Int := if x < lo then lo else if hi < x then hi else x

/-- The integer nearest to `n / d`, halves upward. -/
def roundDiv (n : Int) (d : Nat) : Int := (2 * n + d) / (2 * d)

/-- Replace element `i` of a list, if it has one. -/
def listSet {α : Type} : List α → Nat → α → List α
  | [], _, _ => []
  | _ :: l, 0, v => v :: l
  | x :: l, i + 1, v => x :: listSet l i v

/-- Take up to `n` bytes at `off` of a byte string, zero-filled. -/
def bytesAt (bs : List Byte) (off n : Nat) : List Byte :=
  (List.range n).map fun i => bs.getD (off + i) 0

/-- The CRC-32 of IEEE 802.3 over bytes, reflected, initial and final value all ones (R68). -/
def crc32Step (crc : BitVec 32) : Nat → BitVec 32
  | 0 => crc
  | k + 1 => crc32Step (if crc.getLsbD 0 then (crc >>> 1) ^^^ 0xEDB88320#32 else crc >>> 1) k

/-- The CRC-32 register after a byte string. -/
def crc32Run (crc : BitVec 32) : List Byte → BitVec 32
  | [] => crc
  | b :: bs => crc32Run (crc32Step (crc ^^^ b.setWidth 32) 8) bs

/-- CRC-32 (IEEE 802.3) of a byte string. -/
def crc32 (bs : List Byte) : Nat := (~~~ (crc32Run 0xFFFFFFFF#32 bs)).toNat

/-- One byte through the CRC-64/ECMA-182 register, most significant bit first (R151). -/
def crc64Step (crc : BitVec 64) : Nat → BitVec 64
  | 0 => crc
  | k + 1 => crc64Step (if crc.getLsbD 63 then (crc <<< 1) ^^^ 0x42F0E1EBA9EA3693#64 else crc <<< 1) k

/-- The CRC-64 register after a byte string. -/
def crc64Run (crc : BitVec 64) : List Byte → BitVec 64
  | [] => crc
  | b :: bs => crc64Run (crc64Step (crc ^^^ ((b.setWidth 64) <<< 56)) 8) bs

/-- CRC-64/ECMA-182 of a byte string: initial value 0, no reflection, no final inversion (R151). -/
def crc64 (bs : List Byte) : Nat := (crc64Run 0#64 bs).toNat

end Sys2Proof.Machine
end

