-- ==== Sys2Proof/Machine/Coding.lean ====
section
/-! DEFINITION. The 8b/10b code of IEEE 802.3 Clause 36 and the special symbols (R115, R116).  A code is a number of ten bits
whose highest bit, a, is sent first; a running disparity is true when it is positive. -/

namespace Sys2Proof.Machine

/-! Octets of the special symbols (R116) -/

abbrev Sym.IDLE : Nat := 0xBC
abbrev Sym.SKIP : Nat := 0xF7
abbrev Sym.TICK : Nat := 0x3C
abbrev Sym.VIDEO : Nat := 0x5C
abbrev Sym.END : Nat := 0x7C
abbrev Sym.CONTROL : Nat := 0x9C
abbrev Sym.PREFIX : Nat := 0xDC
abbrev Sym.TEST : Nat := 0xFB
abbrev Sym.LINK : Nat := 0xFD
abbrev Sym.POISON : Nat := 0xFE

/-- The special symbols a receiver accepts; K28.0 and K28.7 are reserved and invalid (R115, R116). -/
def specials : List Nat :=
  [Sym.IDLE, Sym.SKIP, Sym.TICK, Sym.VIDEO, Sym.END, Sym.CONTROL, Sym.PREFIX, Sym.TEST, Sym.LINK, Sym.POISON]

/-- Ones among the lowest `n` bits. -/
def onesIn (n w : Nat) : Nat := (List.range n).countP (bit w)

/-- Six-bit codes abcdei of D.0 to D.31 at negative disparity. -/
def sixCodes : List Nat :=
  [0b100111, 0b011101, 0b101101, 0b110001, 0b110101, 0b101001, 0b011001, 0b111000,
   0b111001, 0b100101, 0b010101, 0b110100, 0b001101, 0b101100, 0b011100, 0b010111] ++
  [0b011011, 0b100011, 0b010011, 0b110010, 0b001011, 0b101010, 0b011010, 0b111010,
   0b110011, 0b100110, 0b010110, 0b110110, 0b001110, 0b101110, 0b011110, 0b101011]

/-- Four-bit codes fghj of D.x.0 to D.x.7 at negative disparity, and of K.x.0 to K.x.7 behind a symbol that began negative. -/
def fourCodes : List Nat := [0b1011, 0b1001, 0b0101, 0b1100, 0b1101, 0b1010, 0b0110, 0b1110]
def fourSpecial : List Nat := [0b0100, 0b1001, 0b0101, 0b0011, 0b0010, 0b1010, 0b0110, 0b1000]

/-- The code of a data octet at a running disparity, and the disparity after it. -/
def encodeData (pos : Bool) (o : Nat) : Nat × Bool :=
  let x := o % 32
  let y := o / 32 % 8
  let six := sixCodes.getD x 0
  let a := if pos && (onesIn 6 six != 3 || x == 7) then 63 - six else six
  let mid := if onesIn 6 six = 3 then pos else !pos
  let four := if y = 7 ∧ (if mid then [11, 13, 14].contains x else [17, 18, 20].contains x) then 0b0111 else fourCodes.getD y 0
  let b := if mid && (onesIn 4 four != 2 || y == 3) then 15 - four else four
  (a * 16 + b, if onesIn 4 four = 2 then mid else !mid)

/-- The code of a special symbol at a running disparity, and the disparity after it. -/
def encodeSpecial (pos : Bool) (o : Nat) : Nat × Bool :=
  let six := if o % 32 = 28 then 0b001111 else sixCodes.getD (o % 32) 0
  let c := six * 16 + fourSpecial.getD (o / 32 % 8) 0
  (if pos then 1023 - c else c, if onesIn 10 c = 5 then pos else !pos)

/-- A received code is invalid at the running disparity before it: no code of a data octet or of an accepted special symbol has
these bits there, which takes in a disparity error, K28.0 and K28.7; or it holds a comma at another alignment than the
established one (R115). -/
def symbolInvalid (pos : Bool) (code : Nat) (misaligned : Bool) : Bool :=
  misaligned || !((List.range 256).any (fun o => (encodeData pos o).1 == code) ||
    specials.any (fun o => (encodeSpecial pos o).1 == code))

end Sys2Proof.Machine
end

