-- ==== Sys2Proof/Config.lean ====
section
/-! DEFINITION. What the spec leaves open: values without a body, so that no proof can see what they are.
Each is named by a log entry under notes/assumptions. -/

namespace Sys2Proof.Config

/-- A fresh value the spec calls undefined or leaves to chance; applied to the state's counter `free` (log entry 2). -/
opaque freeValue : Nat → Nat

/-- Undefined contents of a buffer or memory: the number of the contents, then the offset (log entry 2). -/
opaque undefinedByte : Nat → Nat → Nat

/-- Bytes of the dump ring no record has been written to (R507) (log entry 2). -/
opaque ringByte : Nat → Nat

/-! Functions of standards the manual names and does not spell (log entry 13), as rational-valued unknowns. -/

/-- SMPTE ST 2084 inverse EOTF of luminance / 10,000, and the EOTF, both from [0, 1] (R242, R262). -/
opaque pq : ℚ → ℚ
opaque pqInv : ℚ → ℚ
/-- E′ to the power 2.4 (R241). -/
opaque pow24 : ℚ → ℚ
/-- BT.2100 inverse OETF, and the BT.2100 OOTF at a nominal peak, in cd/m² (R241). -/
opaque hlgInverse : ℚ → ℚ
opaque hlgOotf : Nat → ℚ × ℚ × ℚ → ℚ × ℚ × ℚ

/-! Fields of an image's header, which R466 names and does not lay out: FORMAT, HSS key, security version, HSS signature, the
header fields it covers, FW_VERSION, LINK_VERSION, SETTINGS_FORMAT and the image body (log entry 4). -/
opaque hdrFormat : List Byte → Nat
opaque hdrKey : List Byte → List Byte
opaque hdrSecurity : List Byte → Nat
opaque hdrSignature : List Byte → List Byte
opaque hdrFields : List Byte → List Byte
opaque hdrVersion : List Byte → Nat
opaque hdrLink : List Byte → Nat
opaque hdrSettings : List Byte → Nat
opaque imageBody : List Byte → List Byte

/-- Conversion of a settings record between two formats: parameter values and blob bytes, none when some parameter does
not convert (R492 leaves it to the image) (log entry 4). -/
opaque convertSettings : Nat → Nat → SMap Nat × SMap Nat → Option (SMap Nat × SMap Nat)

/-- Byte of the LMS signature over a message with an index, after the index itself (R475, R476) (log entry 4). -/
opaque lmsSignature : Nat → List Byte → Nat → Byte

/-- Status of an attestation request that R475 refuses; the rule names none (log entry 2). -/
opaque attestStatus : Nat

/-- Whether an increment that is no multiple of 2⁻⁴⁸ ns is held rounded up (R198) (log entry 5). -/
opaque incrementUp : Int → Bool

/-- clockClass, clockAccuracy and offsetScaledLogVariance the head announces of itself, as one number of 8, 8 and 16
bits (R209 names none) (log entry 5). -/
opaque clockQuality : Nat

/-- Built-in nominal code of a trim, by domain and number, and the fused DRAM offset in 1/16 °C (R431, R459; log entry 21). -/
opaque trimNominal : Nat → Nat → Int
opaque dramOffset : Int

/-- How far a counter of activity the model does not step advances, by its code and the cycle: processor and fixture-sequencer
instructions, symbols on lanes, DRAM urgency and pause cycles, composing (R498) (log entry 20). -/
opaque unseenCount : Nat → Nat → Nat

/-- How `#09.0014 EEE_TW` shows a time in ns that is no whole number of µs (R421 names no rounding) (log entry 13). -/
opaque twMicros : Nat → Nat

/-- The fixed part P of a tile's pass-through latency at a rate code, in ps (R146 bounds it by 220,000) (log entry 9). -/
opaque passLatency : Nat → Nat

/-- The starting window of a lane's pattern generator (R128 names none) (log entry 8). -/
opaque prbsSeed : Nat → Nat

/-- Bytes of the default EDID of R140 that its description does not settle: identity, size, chromaticity, further descriptors
(log entry 8). -/
opaque edidByte : Nat → Nat

/-- 18-byte timing of 3840 × 2160 at 60 Hz: 594 MHz, 4,400 × 2,250 total (PRESUMED of CTA-861, log entry 8). -/
def edidTiming : List Nat :=
  [0x08, 0xE8, 0x00, 0x30, 0xF2, 0x70, 0x5A, 0x80, 0xB0, 0x58, 0x8A, 0x00, 0x00, 0x00, 0x00, 0x00, 0x00, 0x1E]

/-- Header and data blocks of the CTA-861 extension: 3840 × 2160 and 1920 × 1080 at 60 Hz, BT.2020, PQ and HLG (R140; their bytes
PRESUMED of CTA-861, log entry 8). -/
def edidExtension : List Nat := [0x02, 0x03, 15, 0x00, 0x42, 97, 16, 0xE3, 0x05, 0xE0, 0x00, 0xE3, 0x06, 0x0C, 0x01]

/-- A byte of the default EDID but for the sums of its two blocks (R140). -/
def edidBody (off : Nat) : Nat :=
  if off = 0 ∨ off = 7 then 0
  else if off < 7 then 0xFF
  else if off = 18 then 1
  else if off = 19 then 4
  else if off = 24 then edidByte off % 256 ||| 2
  else if 54 ≤ off ∧ off < 72 then edidTiming.getD (off - 54) 0
  else if off = 126 then 1
  else if off < 128 then edidByte off % 256
  else edidExtension.getD (off - 128) 0

/-- The default EDID: two blocks that each sum to 0 modulo 256, and zeros behind them (R140). -/
def defaultEdid (off : Nat) : Nat :=
  if off % 128 = 127 ∧ off < 256 then
    (256 - ((List.range 127).map fun i => edidBody (off - 127 + i)).sum % 256) % 256
  else if off < 256 then edidBody off else 0

/-- Points of the identity tone curve of `#21.0005` (log entry 8). -/
def identityCurve (i : Nat) : Nat := (i * 65535 + 511) / 1023

/-- Default bytes of the BLOBs whose defaults a rule describes without spelling them: the Lanczos scaler tables (R247), the primaries (R299) and the sACN CID (R405), by parameter, index and offset (log entry 8). -/
opaque curveDefault : Nat → Nat → Nat → Nat

/-- An entry of the expansion table the device fills in for the PQ curve at full scale `f` cd/m² (R289). -/
def expansionPoint (f i : Nat) : Nat :=
  min ⌊pqInv ((i : ℚ) / 4095) * 10000 / f * 4194304 + 1 / 2⌋.toNat 16777215

/-- A point of the default low-grey curve (R292). -/
def lowgreyPoint (i : Nat) : Nat := (i * i * 262140 + 32768) / 65536

/-- A point of the default fixture curve (R389). -/
def fixCurvePoint (i : Nat) : Nat := min (256 * i) 65535

/-- Threshold T_c of the default transport curve (R263). -/
def transportPoint : Nat → Nat
  | 0 => 0
  | c + 1 => max ⌈10240000 * pqInv (((c : ℚ) + 1 / 2) / 4095)⌉.toNat (transportPoint c + 1)

/-- A byte of the bilinear scaler table 1: weight on taps 0 and +1 only (R247). -/
def bilinearByte (off : Nat) : Nat :=
  let i := off / 2
  let ph := if i < 512 then i / 8 else (i - 512) / 6
  let tap := if i < 512 then i % 8 - 3 else (i - 512) % 6 - 2
  let low := if i < 512 then decide (i % 8 < 3) else decide ((i - 512) % 6 < 2)
  let w := if low then 0 else match tap with | 0 => 8192 - 128 * ph | 1 => 128 * ph | _ => 0
  w / 256 ^ (off % 2) % 256

/-- Default byte of a BLOB: the formula's where a rule gives one, else 0. -/
def blobDefault (id idx off : Nat) : Nat :=
  if id = 0x210020 then (if idx = 1 then bilinearByte off else curveDefault id 0 off)
  else if id = 0x220013 then transportPoint (off / 4) / 256 ^ (off % 4)
  else if id = 0x280030 ∨ id = 0x0C0003 then curveDefault id idx off
  else if id = 0x280005 then expansionPoint 1500 (off / 4) / 256 ^ (off % 4)
  else if id = 0x280006 then lowgreyPoint (off / 4 % 257) / 256 ^ (off % 4)
  else if id = 0x0C0018 then fixCurvePoint (off / 2 % 257) / 256 ^ (off % 2)
  else if id = 0x280034 ∨ id = 0x280035 then (if off = 1 ∨ off = 9 ∨ off = 17 ∨ off = 19 then 0x20 else 0)
  else 0

end Sys2Proof.Config
end

