-- ==== Sys2Proof/Machine/Events.lean ====
section
/-! DEFINITION. The event numbers by name, their severities (the event tables R517 names) and the region whose
collector takes each range (R30, R509; the place of a range in a region is read from R15: log entry 7). -/

namespace Sys2Proof.Machine

/-- `EV 0 POWER_ON`, info. -/
abbrev E.POWER_ON : Nat := 0
/-- `EV 1 RESET_SHORT`, info. -/
abbrev E.RESET_SHORT : Nat := 1
/-- `EV 2 RESET_LONG`, info. -/
abbrev E.RESET_LONG : Nat := 2
/-- `EV 3 RESET_ESCALATED`, warn. -/
abbrev E.RESET_ESCALATED : Nat := 3
/-- `EV 4 OPTION_COPY_BAD`, warn. -/
abbrev E.OPTION_COPY_BAD : Nat := 4
/-- `EV 5 OPTION_BYTES_INVALID`, critical. -/
abbrev E.OPTION_BYTES_INVALID : Nat := 5
/-- `EV 6 DRAM_SIZE_MISMATCH`, fault. -/
abbrev E.DRAM_SIZE_MISMATCH : Nat := 6
/-- `EV 7 ROLE_MISMATCH`, fault. -/
abbrev E.ROLE_MISMATCH : Nat := 7
/-- `EV 8 ROLE_INVALID`, fault. -/
abbrev E.ROLE_INVALID : Nat := 8
/-- `EV 9 NO_VALID_FIRMWARE`, critical. -/
abbrev E.NO_VALID_FIRMWARE : Nat := 9
/-- `EV 10 OVERLAY_REJECTED`, warn. -/
abbrev E.OVERLAY_REJECTED : Nat := 10
/-- `EV 11 OVERLAY_APPLIED`, info. -/
abbrev E.OVERLAY_APPLIED : Nat := 11
/-- `EV 12 PIN_MAP_FIXED`, warn. -/
abbrev E.PIN_MAP_FIXED : Nat := 12
/-- `EV 13 LOW_WATER`, info. -/
abbrev E.LOW_WATER : Nat := 13
/-- `EV 14 BANK_SUPPLY_LOST`, warn. -/
abbrev E.BANK_SUPPLY_LOST : Nat := 14
/-- `EV 15 CLOCK_GOOD_LOST`, fault. -/
abbrev E.CLOCK_GOOD_LOST : Nat := 15
/-- `EV 16 CLOCK_GOOD_TIMEOUT`, fault. -/
abbrev E.CLOCK_GOOD_TIMEOUT : Nat := 16
/-- `EV 17 READY_LOST`, warn. -/
abbrev E.READY_LOST : Nat := 17
/-- `EV 21 CLUSTER_RESTART`, warn. -/
abbrev E.CLUSTER_RESTART : Nat := 21
/-- `EV 22 PIPELINE_RESTART`, fault. -/
abbrev E.PIPELINE_RESTART : Nat := 22
/-- `EV 23 SAFE_HOLD`, critical. -/
abbrev E.SAFE_HOLD : Nat := 23
/-- `EV 24 EVENT_OVERFLOW`, warn. -/
abbrev E.EVENT_OVERFLOW : Nat := 24
/-- `EV 25 DELIVERY_LOST`, warn. -/
abbrev E.DELIVERY_LOST : Nat := 25
/-- `EV 26 LOG_RECOVERED`, info. -/
abbrev E.LOG_RECOVERED : Nat := 26
/-- `EV 27 FAULT_CLEARED`, info. -/
abbrev E.FAULT_CLEARED : Nat := 27
/-- `EV 40 THERMAL_WARN`, warn. -/
abbrev E.THERMAL_WARN : Nat := 40
/-- `EV 41 THROTTLE_1`, warn. -/
abbrev E.THROTTLE_1 : Nat := 41
/-- `EV 42 THROTTLE_2`, fault. -/
abbrev E.THROTTLE_2 : Nat := 42
/-- `EV 43 THERMAL_TRIP`, critical. -/
abbrev E.THERMAL_TRIP : Nat := 43
/-- `EV 44 THERMAL_STAGE_DOWN`, info. -/
abbrev E.THERMAL_STAGE_DOWN : Nat := 44
/-- `EV 46 THERMAL_SENSOR_FAULT`, fault. -/
abbrev E.THERMAL_SENSOR_FAULT : Nat := 46
/-- `EV 48 TRIM_FAIL`, warn. -/
abbrev E.TRIM_FAIL : Nat := 48
/-- `EV 80 LANE_UP`, info. -/
abbrev E.LANE_UP : Nat := 80
/-- `EV 81 LANE_DOWN`, warn. -/
abbrev E.LANE_DOWN : Nat := 81
/-- `EV 82 SYNC_LOST`, warn. -/
abbrev E.SYNC_LOST : Nat := 82
/-- `EV 83 CODE_ERROR_RATE`, warn. -/
abbrev E.CODE_ERROR_RATE : Nat := 83
/-- `EV 84 ELASTIC_SLIP`, warn. -/
abbrev E.ELASTIC_SLIP : Nat := 84
/-- `EV 85 ADAPT_AT_LIMIT`, warn. -/
abbrev E.ADAPT_AT_LIMIT : Nat := 85
/-- `EV 86 EYE_MARGIN_LOW`, warn. -/
abbrev E.EYE_MARGIN_LOW : Nat := 86
/-- `EV 87 QUAD_PLL_LOST`, fault. -/
abbrev E.QUAD_PLL_LOST : Nat := 87
/-- `EV 88 LANE_TRIM_FAIL`, warn. -/
abbrev E.LANE_TRIM_FAIL : Nat := 88
/-- `EV 89 RX_POLARITY_INVERTED`, info. -/
abbrev E.RX_POLARITY_INVERTED : Nat := 89
/-- `EV 90 PRBS_LOCKED`, info. -/
abbrev E.PRBS_LOCKED : Nat := 90
/-- `EV 91 PRBS_LOCK_LOST`, warn. -/
abbrev E.PRBS_LOCK_LOST : Nat := 91
/-- `EV 92 ERROR_INJECTED`, info. -/
abbrev E.ERROR_INJECTED : Nat := 92
/-- `EV 93 EYE_SCAN_DONE`, info. -/
abbrev E.EYE_SCAN_DONE : Nat := 93
/-- `EV 94 LANE_RESTART`, warn. -/
abbrev E.LANE_RESTART : Nat := 94
/-- `EV 95 LANE_BRINGUP_TIMEOUT`, warn. -/
abbrev E.LANE_BRINGUP_TIMEOUT : Nat := 95
/-- `EV 120 DP_TRAINED`, info. -/
abbrev E.DP_TRAINED : Nat := 120
/-- `EV 121 DP_TRAINING_FAILED`, warn. -/
abbrev E.DP_TRAINING_FAILED : Nat := 121
/-- `EV 122 DP_LINK_LOST`, warn. -/
abbrev E.DP_LINK_LOST : Nat := 122
/-- `EV 123 DP_FORMAT_CHANGED`, info. -/
abbrev E.DP_FORMAT_CHANGED : Nat := 123
/-- `EV 124 DP_FORMAT_UNSUPPORTED`, warn. -/
abbrev E.DP_FORMAT_UNSUPPORTED : Nat := 124
/-- `EV 125 DP_HPD_CYCLED`, info. -/
abbrev E.DP_HPD_CYCLED : Nat := 125
/-- `EV 160 CHAIN_CRC_ERROR`, warn. -/
abbrev E.CHAIN_CRC_ERROR : Nat := 160
/-- `EV 161 PACKET_LATE`, info. -/
abbrev E.PACKET_LATE : Nat := 161
/-- `EV 162 PACKET_STRAY`, warn. -/
abbrev E.PACKET_STRAY : Nat := 162
/-- `EV 163 NO_VALID_COPY`, fault. -/
abbrev E.NO_VALID_COPY : Nat := 163
/-- `EV 164 STANDBY_COPY_SHOWN`, info. -/
abbrev E.STANDBY_COPY_SHOWN : Nat := 164
/-- `EV 165 LATENCY_STEP`, warn. -/
abbrev E.LATENCY_STEP : Nat := 165
/-- `EV 166 LATENCY_STALE`, warn. -/
abbrev E.LATENCY_STALE : Nat := 166
/-- `EV 167 MARKER_MISSING`, warn. -/
abbrev E.MARKER_MISSING : Nat := 167
/-- `EV 168 MARKER_BAD`, warn. -/
abbrev E.MARKER_BAD : Nat := 168
/-- `EV 169 OWN_QUEUE_FULL`, warn. -/
abbrev E.OWN_QUEUE_FULL : Nat := 169
/-- `EV 170 STREAM_PROXY`, info. -/
abbrev E.STREAM_PROXY : Nat := 170
/-- `EV 171 INGRESS_DROPPED`, warn. -/
abbrev E.INGRESS_DROPPED : Nat := 171
/-- `EV 172 SIGNATURE_DIFFER`, warn. -/
abbrev E.SIGNATURE_DIFFER : Nat := 172
/-- `EV 173 NEIGHBOUR_CHANGED`, info. -/
abbrev E.NEIGHBOUR_CHANGED : Nat := 173
/-- `EV 174 HEARTBEAT_LOST`, fault. -/
abbrev E.HEARTBEAT_LOST : Nat := 174
/-- `EV 175 SLUICE_INCONSISTENT`, fault. -/
abbrev E.SLUICE_INCONSISTENT : Nat := 175
/-- `EV 176 TAKEOVER`, warn. -/
abbrev E.TAKEOVER : Nat := 176
/-- `EV 177 TAKEOVER_UNSYNCED`, fault. -/
abbrev E.TAKEOVER_UNSYNCED : Nat := 177
/-- `EV 178 MANAGER_CONFLICT`, warn. -/
abbrev E.MANAGER_CONFLICT : Nat := 178
/-- `EV 179 CLAIM_TIE`, info. -/
abbrev E.CLAIM_TIE : Nat := 179
/-- `EV 180 SPLIT_DETECTED`, critical. -/
abbrev E.SPLIT_DETECTED : Nat := 180
/-- `EV 181 EPOCH_STALE`, warn. -/
abbrev E.EPOCH_STALE : Nat := 181
/-- `EV 182 EPOCH_ADVANCED`, info. -/
abbrev E.EPOCH_ADVANCED : Nat := 182
/-- `EV 184 READBACK_MISMATCH`, warn. -/
abbrev E.READBACK_MISMATCH : Nat := 184
/-- `EV 185 LISTEN_BUSY`, fault. -/
abbrev E.LISTEN_BUSY : Nat := 185
/-- `EV 186 SWITCHOVER_DONE`, info. -/
abbrev E.SWITCHOVER_DONE : Nat := 186
/-- `EV 187 SWITCHOVER_REFUSED`, warn. -/
abbrev E.SWITCHOVER_REFUSED : Nat := 187
/-- `EV 188 EVIDENCE_TAKEOVER`, warn. -/
abbrev E.EVIDENCE_TAKEOVER : Nat := 188
/-- `EV 189 REJOINED`, info. -/
abbrev E.REJOINED : Nat := 189
/-- `EV 190 EPOCH_SPENT`, fault. -/
abbrev E.EPOCH_SPENT : Nat := 190
/-- `EV 191 PARTNER_PATH_LOST`, warn. -/
abbrev E.PARTNER_PATH_LOST : Nat := 191
/-- `EV 200 TIME_LOCKED`, info. -/
abbrev E.TIME_LOCKED : Nat := 200
/-- `EV 201 TIME_SOURCE_LOST`, warn. -/
abbrev E.TIME_SOURCE_LOST : Nat := 201
/-- `EV 202 HOLDOVER_EXIT`, info. -/
abbrev E.HOLDOVER_EXIT : Nat := 202
/-- `EV 203 TIME_OFFSET_HIGH`, warn. -/
abbrev E.TIME_OFFSET_HIGH : Nat := 203
/-- `EV 204 GM_CHANGED`, info. -/
abbrev E.GM_CHANGED : Nat := 204
/-- `EV 205 REF_IN_LOST`, warn. -/
abbrev E.REF_IN_LOST : Nat := 205
/-- `EV 207 SLEW_LIMITED`, warn. -/
abbrev E.SLEW_LIMITED : Nat := 207
/-- `EV 208 TIME_STEPPED`, warn. -/
abbrev E.TIME_STEPPED : Nat := 208
/-- `EV 209 MARKER_LOCKED`, info. -/
abbrev E.MARKER_LOCKED : Nat := 209
/-- `EV 210 HEAD_TIME_SPLIT`, warn. -/
abbrev E.HEAD_TIME_SPLIT : Nat := 210
/-- `EV 211 TICK_RATE_CHANGED`, info. -/
abbrev E.TICK_RATE_CHANGED : Nat := 211
/-- `EV 212 TPO_MISSED`, warn. -/
abbrev E.TPO_MISSED : Nat := 212
/-- `EV 213 TSQ_EXPIRED`, warn. -/
abbrev E.TSQ_EXPIRED : Nat := 213
/-- `EV 214 TSQ_OVERFLOW`, warn. -/
abbrev E.TSQ_OVERFLOW : Nat := 214
/-- `EV 215 PTP_STATE_CHANGED`, info. -/
abbrev E.PTP_STATE_CHANGED : Nat := 215
/-- `EV 240 GBE_LINK_UP`, info. -/
abbrev E.GBE_LINK_UP : Nat := 240
/-- `EV 241 GBE_LINK_DOWN`, warn. -/
abbrev E.GBE_LINK_DOWN : Nat := 241
/-- `EV 242 GBE_DUPLEX_REFUSED`, fault. -/
abbrev E.GBE_DUPLEX_REFUSED : Nat := 242
/-- `EV 243 MDIO_FAIL`, fault. -/
abbrev E.MDIO_FAIL : Nat := 243
/-- `EV 244 RX_OVERFLOW`, warn. -/
abbrev E.RX_OVERFLOW : Nat := 244
/-- `EV 245 TX_UNDERRUN`, warn. -/
abbrev E.TX_UNDERRUN : Nat := 245
/-- `EV 246 TX_STORE_FORWARD`, warn. -/
abbrev E.TX_STORE_FORWARD : Nat := 246
/-- `EV 247 PAUSE_CAPPED`, warn. -/
abbrev E.PAUSE_CAPPED : Nat := 247
/-- `EV 248 EEE_TW_CHANGED`, info. -/
abbrev E.EEE_TW_CHANGED : Nat := 248
/-- `EV 249 EEE_TW_REFUSED`, warn. -/
abbrev E.EEE_TW_REFUSED : Nat := 249
/-- `EV 250 SPEED_DOWNSHIFT`, info. -/
abbrev E.SPEED_DOWNSHIFT : Nat := 250
/-- `EV 251 SPEED_RESTORED`, info. -/
abbrev E.SPEED_RESTORED : Nat := 251
/-- `EV 252 IP_ADDRESS_CHANGED`, info. -/
abbrev E.IP_ADDRESS_CHANGED : Nat := 252
/-- `EV 253 IP_CONFLICT`, warn. -/
abbrev E.IP_CONFLICT : Nat := 253
/-- `EV 260 STATS_HALF`, info. -/
abbrev E.STATS_HALF : Nat := 260
/-- `EV 280 T1S_PLCA_UP`, info. -/
abbrev E.T1S_PLCA_UP : Nat := 280
/-- `EV 281 T1S_PLCA_LOST`, warn. -/
abbrev E.T1S_PLCA_LOST : Nat := 281
/-- `EV 282 T1S_EXCESS_COLLISION`, warn. -/
abbrev E.T1S_EXCESS_COLLISION : Nat := 282
/-- `EV 283 T1S_LATE_COLLISION`, warn. -/
abbrev E.T1S_LATE_COLLISION : Nat := 283
/-- `EV 320 SURFACE_FILL_DAMAGED`, warn. -/
abbrev E.SURFACE_FILL_DAMAGED : Nat := 320
/-- `EV 321 FENCE_REFUSED`, warn. -/
abbrev E.FENCE_REFUSED : Nat := 321
/-- `EV 322 INGRESS_BUFFER_BUSY`, warn. -/
abbrev E.INGRESS_BUFFER_BUSY : Nat := 322
/-- `EV 323 STILL_SEAL_FAILED`, warn. -/
abbrev E.STILL_SEAL_FAILED : Nat := 323
/-- `EV 324 DP_FRAME_DAMAGED`, info. -/
abbrev E.DP_FRAME_DAMAGED : Nat := 324
/-- `EV 330 SOURCE_CHANGED`, info. -/
abbrev E.SOURCE_CHANGED : Nat := 330
/-- `EV 332 FLIP_HELD`, warn. -/
abbrev E.FLIP_HELD : Nat := 332
/-- `EV 333 LAYER_STARVED`, fault. -/
abbrev E.LAYER_STARVED : Nat := 333
/-- `EV 334 LAYER_RESUMED`, info. -/
abbrev E.LAYER_RESUMED : Nat := 334
/-- `EV 335 FLIP_PARTNER_LATE`, warn. -/
abbrev E.FLIP_PARTNER_LATE : Nat := 335
/-- `EV 336 FLIP_PARTNER_DIFFER`, warn. -/
abbrev E.FLIP_PARTNER_DIFFER : Nat := 336
/-- `EV 340 POLDER_BUILT`, info. -/
abbrev E.POLDER_BUILT : Nat := 340
/-- `EV 341 COMPOSE_LATE`, fault. -/
abbrev E.COMPOSE_LATE : Nat := 341
/-- `EV 342 POLDER_LATE`, warn. -/
abbrev E.POLDER_LATE : Nat := 342
/-- `EV 343 SCALE_OUT_OF_RANGE`, warn. -/
abbrev E.SCALE_OUT_OF_RANGE : Nat := 343
/-- `EV 344 LAYER_SHED`, warn. -/
abbrev E.LAYER_SHED : Nat := 344
/-- `EV 345 LAYER_RESTORED`, info. -/
abbrev E.LAYER_RESTORED : Nat := 345
/-- `EV 346 DIKE_ENGAGED`, info. -/
abbrev E.DIKE_ENGAGED : Nat := 346
/-- `EV 347 SPAN_STATS_LATE`, warn. -/
abbrev E.SPAN_STATS_LATE : Nat := 347
/-- `EV 348 DP_RATE_OVER`, warn. -/
abbrev E.DP_RATE_OVER : Nat := 348
/-- `EV 361 WELL_DRY`, warn. -/
abbrev E.WELL_DRY : Nat := 361
/-- `EV 362 SCANOUT_LATE`, warn. -/
abbrev E.SCANOUT_LATE : Nat := 362
/-- `EV 363 CANVAS_POISONED`, fault. -/
abbrev E.CANVAS_POISONED : Nat := 363
/-- `EV 364 DISPLAY_DELAY_CHANGED`, info. -/
abbrev E.DISPLAY_DELAY_CHANGED : Nat := 364
/-- `EV 370 SPAN_LOCKED`, info. -/
abbrev E.SPAN_LOCKED : Nat := 370
/-- `EV 371 SPAN_LOCK_LOST`, fault. -/
abbrev E.SPAN_LOCK_LOST : Nat := 371
/-- `EV 372 SPAN_LINK_DEGRADED`, warn. -/
abbrev E.SPAN_LINK_DEGRADED : Nat := 372
/-- `EV 400 COEFF_SEALED`, info. -/
abbrev E.COEFF_SEALED : Nat := 400
/-- `EV 401 COEFF_SEAL_FAILED`, warn. -/
abbrev E.COEFF_SEAL_FAILED : Nat := 401
/-- `EV 402 REGION_MISMATCH`, warn. -/
abbrev E.REGION_MISMATCH : Nat := 402
/-- `EV 404 CORRECT_LATE`, fault. -/
abbrev E.CORRECT_LATE : Nat := 404
/-- `EV 405 K_UPDATE_LATE`, warn. -/
abbrev E.K_UPDATE_LATE : Nat := 405
/-- `EV 406 K_INVALID`, warn. -/
abbrev E.K_INVALID : Nat := 406
/-- `EV 407 ZONE_NO_SENSOR`, warn. -/
abbrev E.ZONE_NO_SENSOR : Nat := 407
/-- `EV 408 SENSOR_STALE`, warn. -/
abbrev E.SENSOR_STALE : Nat := 408
/-- `EV 409 WEAR_AT_CEILING`, warn. -/
abbrev E.WEAR_AT_CEILING : Nat := 409
/-- `EV 410 LEDGER_FLUSHED`, info. -/
abbrev E.LEDGER_FLUSHED : Nat := 410
/-- `EV 411 LEDGER_FLUSH_SKIPPED`, warn. -/
abbrev E.LEDGER_FLUSH_SKIPPED : Nat := 411
/-- `EV 413 LEDGER_SATURATED`, warn. -/
abbrev E.LEDGER_SATURATED : Nat := 413
/-- `EV 414 GAIN_REFRESH_LATE`, warn. -/
abbrev E.GAIN_REFRESH_LATE : Nat := 414
/-- `EV 415 SCALE_MISSING`, warn. -/
abbrev E.SCALE_MISSING : Nat := 415
/-- `EV 416 LEDGER_LOST`, fault. -/
abbrev E.LEDGER_LOST : Nat := 416
/-- `EV 420 SHIFT_LATE`, fault. -/
abbrev E.SHIFT_LATE : Nat := 420
/-- `EV 421 QUAD_RESTART`, fault. -/
abbrev E.QUAD_RESTART : Nat := 421
/-- `EV 422 DB_NACK`, warn. -/
abbrev E.DB_NACK : Nat := 422
/-- `EV 423 DB_STUCK`, fault. -/
abbrev E.DB_STUCK : Nat := 423
/-- `EV 424 DB_TIMEOUT`, warn. -/
abbrev E.DB_TIMEOUT : Nat := 424
/-- `EV 425 MAP_SEALED`, info. -/
abbrev E.MAP_SEALED : Nat := 425
/-- `EV 426 MAP_SEAL_FAILED`, warn. -/
abbrev E.MAP_SEAL_FAILED : Nat := 426
/-- `EV 427 DRIVE_RATE_UNFIT`, fault. -/
abbrev E.DRIVE_RATE_UNFIT : Nat := 427
/-- `EV 430 LAMP_OPEN`, warn. -/
abbrev E.LAMP_OPEN : Nat := 430
/-- `EV 431 LAMP_SHORT`, warn. -/
abbrev E.LAMP_SHORT : Nat := 431
/-- `EV 432 LAMP_CLEARED`, info. -/
abbrev E.LAMP_CLEARED : Nat := 432
/-- `EV 433 HEALTH_READ_FAILED`, warn. -/
abbrev E.HEALTH_READ_FAILED : Nat := 433
/-- `EV 434 FAULT_LIST_FULL`, warn. -/
abbrev E.FAULT_LIST_FULL : Nat := 434
/-- `EV 435 MASK_SYNC_LATE`, warn. -/
abbrev E.MASK_SYNC_LATE : Nat := 435
/-- `EV 436 STRAND_SUSPECT`, fault. -/
abbrev E.STRAND_SUSPECT : Nat := 436
/-- `EV 480 LOOP_OSCILLATION`, warn. -/
abbrev E.LOOP_OSCILLATION : Nat := 480
/-- `EV 481 LOOP_GAIN_HALVED`, warn. -/
abbrev E.LOOP_GAIN_HALVED : Nat := 481
/-- `EV 482 LOOP_STOPPED`, fault. -/
abbrev E.LOOP_STOPPED : Nat := 482
/-- `EV 483 LOOP_OVERRUN`, warn. -/
abbrev E.LOOP_OVERRUN : Nat := 483
/-- `EV 484 LOOP_SATURATED`, warn. -/
abbrev E.LOOP_SATURATED : Nat := 484
/-- `EV 485 AIN_AT_RAIL`, warn. -/
abbrev E.AIN_AT_RAIL : Nat := 485
/-- `EV 486 FAN_STALL`, fault. -/
abbrev E.FAN_STALL : Nat := 486
/-- `EV 487 POWER_CAP_ACTIVE`, info. -/
abbrev E.POWER_CAP_ACTIVE : Nat := 487
/-- `EV 489 PUMP_STATE_LATE`, warn. -/
abbrev E.PUMP_STATE_LATE : Nat := 489
/-- `EV 490 INPUT_LOW`, fault. -/
abbrev E.INPUT_LOW : Nat := 490
/-- `EV 521 DRAM_CE_RECURRING`, warn. -/
abbrev E.DRAM_CE_RECURRING : Nat := 521
/-- `EV 522 DRAM_UNCORRECTABLE`, fault. -/
abbrev E.DRAM_UNCORRECTABLE : Nat := 522
/-- `EV 524 ROW_THROTTLE`, warn. -/
abbrev E.ROW_THROTTLE : Nat := 524
/-- `EV 525 REFRESH_FORCED`, warn. -/
abbrev E.REFRESH_FORCED : Nat := 525
/-- `EV 526 REFRESH_RATE_CHANGED`, info. -/
abbrev E.REFRESH_RATE_CHANGED : Nat := 526
/-- `EV 527 DRAM_HOT`, warn. -/
abbrev E.DRAM_HOT : Nat := 527
/-- `EV 528 DRAM_TRAIN_FAIL`, critical. -/
abbrev E.DRAM_TRAIN_FAIL : Nat := 528
/-- `EV 530 SELF_REFRESH_FAIL`, fault. -/
abbrev E.SELF_REFRESH_FAIL : Nat := 530
/-- `EV 531 STANDBY_ENTERED`, info. -/
abbrev E.STANDBY_ENTERED : Nat := 531
/-- `EV 532 STANDBY_LEFT`, info. -/
abbrev E.STANDBY_LEFT : Nat := 532
/-- `EV 533 CISTERN_UNCORRECTABLE`, fault. -/
abbrev E.CISTERN_UNCORRECTABLE : Nat := 533
/-- `EV 534 CISTERN_CE_RECURRING`, warn. -/
abbrev E.CISTERN_CE_RECURRING : Nat := 534
/-- `EV 535 DP_BUFFER_SMALL`, warn. -/
abbrev E.DP_BUFFER_SMALL : Nat := 535
/-- `EV 536 SCRUB_PASS_DONE`, info. -/
abbrev E.SCRUB_PASS_DONE : Nat := 536
/-- `EV 537 DRAM_ADDRESS_FAULT`, fault. -/
abbrev E.DRAM_ADDRESS_FAULT : Nat := 537
/-- `EV 560 SECURE_BOOT_OK`, info. -/
abbrev E.SECURE_BOOT_OK : Nat := 560
/-- `EV 561 IMAGE_REJECTED`, warn. -/
abbrev E.IMAGE_REJECTED : Nat := 561
/-- `EV 562 KEY_LOADED`, info. -/
abbrev E.KEY_LOADED : Nat := 562
/-- `EV 563 KEY_REVOKED`, info. -/
abbrev E.KEY_REVOKED : Nat := 563
/-- `EV 564 LOCK_ADVANCED`, info. -/
abbrev E.LOCK_ADVANCED : Nat := 564
/-- `EV 565 DEBUG_OPENED`, warn. -/
abbrev E.DEBUG_OPENED : Nat := 565
/-- `EV 566 ATTEST_SIGNED`, info. -/
abbrev E.ATTEST_SIGNED : Nat := 566
/-- `EV 567 ATTEST_EXHAUSTED`, fault. -/
abbrev E.ATTEST_EXHAUSTED : Nat := 567
/-- `EV 568 AUTH_FAILED`, warn. -/
abbrev E.AUTH_FAILED : Nat := 568
/-- `EV 569 REPLAY_REFUSED`, warn. -/
abbrev E.REPLAY_REFUSED : Nat := 569
/-- `EV 570 KEY_COUNTER_SPENT`, fault. -/
abbrev E.KEY_COUNTER_SPENT : Nat := 570
/-- `EV 571 KEY_STORE_FAULT`, critical. -/
abbrev E.KEY_STORE_FAULT : Nat := 571
/-- `EV 572 ATTEST_STATE_FAULT`, fault. -/
abbrev E.ATTEST_STATE_FAULT : Nat := 572
/-- `EV 573 ATTEST_LOW`, warn. -/
abbrev E.ATTEST_LOW : Nat := 573
/-- `EV 574 MANIFEST_ACCEPTED`, info. -/
abbrev E.MANIFEST_ACCEPTED : Nat := 574
/-- `EV 575 MANIFEST_REJECTED`, warn. -/
abbrev E.MANIFEST_REJECTED : Nat := 575
/-- `EV 576 BLOCK_BAD`, warn. -/
abbrev E.BLOCK_BAD : Nat := 576
/-- `EV 577 IMAGE_READY`, info. -/
abbrev E.IMAGE_READY : Nat := 577
/-- `EV 578 ACTIVATED`, info. -/
abbrev E.ACTIVATED : Nat := 578
/-- `EV 579 TRIAL_BOOT`, info. -/
abbrev E.TRIAL_BOOT : Nat := 579
/-- `EV 580 CONFIRMED`, info. -/
abbrev E.CONFIRMED : Nat := 580
/-- `EV 581 REVERTED`, fault. -/
abbrev E.REVERTED : Nat := 581
/-- `EV 582 SETTINGS_UNREADABLE`, fault. -/
abbrev E.SETTINGS_UNREADABLE : Nat := 582
/-- `EV 583 FLOOR_ADVANCED`, info. -/
abbrev E.FLOOR_ADVANCED : Nat := 583
/-- `EV 584 UPDATE_ABORTED`, info. -/
abbrev E.UPDATE_ABORTED : Nat := 584
/-- `EV 600 SEQ_FAULT`, warn. -/
abbrev E.SEQ_FAULT : Nat := 600
/-- `EV 601 PROG_SEALED`, info. -/
abbrev E.PROG_SEALED : Nat := 601
/-- `EV 602 PROG_SEAL_FAILED`, warn. -/
abbrev E.PROG_SEAL_FAILED : Nat := 602
/-- `EV 603 PROG_SWITCHED`, info. -/
abbrev E.PROG_SWITCHED : Nat := 603
/-- `EV 604 SEQ_EVENT_MISSED`, warn. -/
abbrev E.SEQ_EVENT_MISSED : Nat := 604
/-- `EV 605 SEQ_ALIGN_SLIP`, warn. -/
abbrev E.SEQ_ALIGN_SLIP : Nat := 605
/-- `EV 606 SEQ_TRACE`, info. -/
abbrev E.SEQ_TRACE : Nat := 606
/-- `EV 610 TXN_TIMEOUT`, warn. -/
abbrev E.TXN_TIMEOUT : Nat := 610
/-- `EV 611 OD_REFUSED`, info. -/
abbrev E.OD_REFUSED : Nat := 611
/-- `EV 612 LEASE_CHANGED`, info. -/
abbrev E.LEASE_CHANGED : Nat := 612
/-- `EV 613 TXN_LATE`, info. -/
abbrev E.TXN_LATE : Nat := 613
/-- `EV 614 SETTINGS_RESTORED`, info. -/
abbrev E.SETTINGS_RESTORED : Nat := 614
/-- `EV 620 FIX_SEALED`, info. -/
abbrev E.FIX_SEALED : Nat := 620
/-- `EV 621 FIX_SEAL_FAILED`, warn. -/
abbrev E.FIX_SEAL_FAILED : Nat := 621
/-- `EV 622 FIX_SAMPLE_LATE`, warn. -/
abbrev E.FIX_SAMPLE_LATE : Nat := 622
/-- `EV 623 SACN_LATE`, warn. -/
abbrev E.SACN_LATE : Nat := 623
/-- `EV 624 T1S_EMIT_LATE`, warn. -/
abbrev E.T1S_EMIT_LATE : Nat := 624
/-- `EV 625 RDM_TIMEOUT`, info. -/
abbrev E.RDM_TIMEOUT : Nat := 625
/-- `EV 626 RDM_DROPPED`, warn. -/
abbrev E.RDM_DROPPED : Nat := 626
/-- `EV 627 SACN_DROPPED`, warn. -/
abbrev E.SACN_DROPPED : Nat := 627
/-- `EV 630 DUMP_DROPPED`, warn. -/
abbrev E.DUMP_DROPPED : Nat := 630
/-- `EV 631 SAMPLE_BUFFER_FULL`, info. -/
abbrev E.SAMPLE_BUFFER_FULL : Nat := 631
/-- `EV 632 SAMPLES_DROPPED`, warn. -/
abbrev E.SAMPLES_DROPPED : Nat := 632
/-- `EV 633 COUNTERS_FROZEN`, info. -/
abbrev E.COUNTERS_FROZEN : Nat := 633

/-- The events of warn severity. -/
def warnEvents : List Nat := [3, 4, 10, 12, 14, 17, 21, 24, 25, 40, 41, 48, 81, 82, 83, 84, 85, 86, 88, 91, 94, 95, 121, 122, 124, 160, 162, 165, 166, 167, 168, 169, 171, 172, 176, 178, 181, 184, 187, 188, 191, 201, 203, 205, 207, 208, 210, 212, 213, 214, 241, 244, 245, 246, 247, 249, 253, 281, 282, 283, 320, 321, 322, 323, 332, 335, 336, 342, 343, 344, 347, 348, 361, 362, 372, 401, 402, 405, 406, 407, 408, 409, 411, 413, 414, 415, 422, 424, 426, 430, 431, 433, 434, 435, 480, 481, 483, 484, 485, 489, 521, 524, 525, 527, 534, 535, 561, 565, 568, 569, 573, 575, 576, 600, 602, 604, 605, 610, 621, 622, 623, 624, 626, 627, 630, 632]

/-- The events of fault severity. -/
def faultEvents : List Nat := [6, 7, 8, 15, 16, 22, 42, 46, 87, 163, 174, 175, 177, 185, 190, 242, 243, 333, 341, 363, 371, 404, 416, 420, 421, 423, 427, 436, 482, 486, 490, 522, 530, 533, 537, 567, 570, 572, 581, 582]

/-- The events of critical severity. -/
def criticalEvents : List Nat := [5, 9, 23, 43, 180, 528, 571]

/-- Severity of an event: 0 info, 1 warn, 2 fault, 3 critical (R509). -/
def evSev (ev : Nat) : Nat :=
  if criticalEvents.contains ev then 3 else if faultEvents.contains ev then 2 else if warnEvents.contains ev then 1 else 0

/-- Region of the collector an event's unit reports to, numbered as ORIGIN (R509). -/
def evRegion (ev : Nat) : Nat :=
  if ev < 80 then 0
  else if ev < 200 then 3
  else if ev < 240 then 2
  else if ev < 320 then 0
  else if ev < 520 then 4
  else if ev < 560 then 1
  else if ev < 600 then 0
  else if ev < 610 then 4
  else 0

end Sys2Proof.Machine
end

