-- ==== Sys2Proof/Machine/ParamNames.lean ====
section
/-! DEFINITION. The names of the object dictionary's parameters: `P.NAME` is area × 65,536 + item (R13). -/

namespace Sys2Proof.Machine

/-- `#00.0001 DEVICE_TYPE` (R110). -/
abbrev P.DEVICE_TYPE : Nat := 0x000001
/-- `#00.0002 ORDERING_CODE` (R110). -/
abbrev P.ORDERING_CODE : Nat := 0x000002
/-- `#00.0003 DIE_STEPPING` (R110). -/
abbrev P.DIE_STEPPING : Nat := 0x000003
/-- `#00.0004 FW_VERSION` (R110). -/
abbrev P.FW_VERSION : Nat := 0x000004
/-- `#00.0005 LINK_VERSION` (R110). -/
abbrev P.LINK_VERSION : Nat := 0x000005
/-- `#00.0006 SERIAL` (R110). -/
abbrev P.SERIAL : Nat := 0x000006
/-- `#00.0010 DEVICE_ID` (R110). -/
abbrev P.DEVICE_ID : Nat := 0x000010
/-- `#01.0001 OPTION_RECORD` (R73). -/
abbrev P.OPTION_RECORD : Nat := 0x010001
/-- `#01.0002 OPTION_SOURCE` (R73). -/
abbrev P.OPTION_SOURCE : Nat := 0x010002
/-- `#01.0003 ROLE_IN_FORCE` (R73). -/
abbrev P.ROLE_IN_FORCE : Nat := 0x010003
/-- `#01.0004 ROLE_REQUESTED` (R73). -/
abbrev P.ROLE_REQUESTED : Nat := 0x010004
/-- `#01.0005 DRAM_SIZE_FOUND` (R73). -/
abbrev P.DRAM_SIZE_FOUND : Nat := 0x010005
/-- `#01.0006 MANAGER_STATE` (R73). -/
abbrev P.MANAGER_STATE : Nat := 0x010006
/-- `#01.0008 OPTION_OVERLAY` (R73). -/
abbrev P.OPTION_OVERLAY : Nat := 0x010008
/-- `#01.0020 PIN_RESET_MAP` (R44). -/
abbrev P.PIN_RESET_MAP : Nat := 0x010020
/-- `#01.0021 PIN_RESET_APPLIED` (R44). -/
abbrev P.PIN_RESET_APPLIED : Nat := 0x010021
/-- `#02.0001 READY_MAP` (R80). -/
abbrev P.READY_MAP : Nat := 0x020001
/-- `#02.0002 READY_TIME/0…/15` (R80). -/
abbrev P.READY_TIME : Nat := 0x020002
/-- `#02.0003 RESET_CAUSE` (R80). -/
abbrev P.RESET_CAUSE : Nat := 0x020003
/-- `#02.0004 RESET_COUNT/0…/2` (R80). -/
abbrev P.RESET_COUNT : Nat := 0x020004
/-- `#02.0005 START_STAGE` (R80). -/
abbrev P.START_STAGE : Nat := 0x020005
/-- `#02.0006 CLOCK_GOOD` (R80). -/
abbrev P.CLOCK_GOOD : Nat := 0x020006
/-- `#02.0010 RESET_REQUEST` (R80). -/
abbrev P.RESET_REQUEST : Nat := 0x020010
/-- `#03.0001 TRIM_PASS` (R460). -/
abbrev P.TRIM_PASS : Nat := 0x030001
/-- `#03.0002 TRIM_WALKING` (R460). -/
abbrev P.TRIM_WALKING : Nat := 0x030002
/-- `#03.0003 TRIM_TEMP` (R460). -/
abbrev P.TRIM_TEMP : Nat := 0x030003
/-- `#03.0004 TRIM_EVALUATIONS` (R460). -/
abbrev P.TRIM_EVALUATIONS : Nat := 0x030004
/-- `#03.0010 PLL_LOCK_LOSS/r` (R460). -/
abbrev P.PLL_LOCK_LOSS : Nat := 0x030010
/-- `#04.0001 DIE_TEMP` (R462). -/
abbrev P.DIE_TEMP : Nat := 0x040001
/-- `#04.0002 THERMAL_STAGE` (R462). -/
abbrev P.THERMAL_STAGE : Nat := 0x040002
/-- `#04.0003 TEMP_MAX` (R462). -/
abbrev P.TEMP_MAX : Nat := 0x040003
/-- `#04.0004 TEMP_MAX_LIFE` (R462). -/
abbrev P.TEMP_MAX_LIFE : Nat := 0x040004
/-- `#04.0005 SAMPLE_FAST` (R462). -/
abbrev P.SAMPLE_FAST : Nat := 0x040005
/-- `#04.0011 BG_PAUSE` (R462). -/
abbrev P.BG_PAUSE : Nat := 0x040011
/-- `#04.0012 COMPOSE_PAUSE` (R462). -/
abbrev P.COMPOSE_PAUSE : Nat := 0x040012
/-- `#04.0020 STAGE_TIME/s` (R462). -/
abbrev P.STAGE_TIME : Nat := 0x040020
/-- `#04.0021 FRAMES_SKIPPED` (R462). -/
abbrev P.FRAMES_SKIPPED : Nat := 0x040021
/-- `#04.0022 STAGE_ENTRIES/s` (R462). -/
abbrev P.STAGE_ENTRIES : Nat := 0x040022
/-- `#04.0030 TRIP_LOG` (R462). -/
abbrev P.TRIP_LOG : Nat := 0x040030
/-- `#05.0001 LOG_SEQ` (R522). -/
abbrev P.LOG_SEQ : Nat := 0x050001
/-- `#05.0002 EVENT_LOG` (R522). -/
abbrev P.EVENT_LOG : Nat := 0x050002
/-- `#05.0003 IRQ_MASK` (R522). -/
abbrev P.IRQ_MASK : Nat := 0x050003
/-- `#05.0004 IRQ_PENDING` (R522). -/
abbrev P.IRQ_PENDING : Nat := 0x050004
/-- `#05.0005 FAULT_LATCH` (R522). -/
abbrev P.FAULT_LATCH : Nat := 0x050005
/-- `#05.0006 FAULT_CLEAR` (R522). -/
abbrev P.FAULT_CLEAR : Nat := 0x050006
/-- `#05.0010 EVENT_COUNT/e` (R522). -/
abbrev P.EVENT_COUNT : Nat := 0x050010
/-- `#05.0020 DELIVER_MIN` (R522). -/
abbrev P.DELIVER_MIN : Nat := 0x050020
/-- `#05.0021 DELIVER_STATE` (R522). -/
abbrev P.DELIVER_STATE : Nat := 0x050021
/-- `#06.0001 LOCK_STATE` (R479). -/
abbrev P.LOCK_STATE : Nat := 0x060001
/-- `#06.0002 LOCK_ADVANCE` (R479). -/
abbrev P.LOCK_ADVANCE : Nat := 0x060002
/-- `#06.0003 ROOT_KEY_HASH` (R479). -/
abbrev P.ROOT_KEY_HASH : Nat := 0x060003
/-- `#06.0004 FW_DIGEST` (R479). -/
abbrev P.FW_DIGEST : Nat := 0x060004
/-- `#06.0005 SECURITY_FLOOR` (R479). -/
abbrev P.SECURITY_FLOOR : Nat := 0x060005
/-- `#06.0010 IDENTITY_PUBKEY` (R479). -/
abbrev P.IDENTITY_PUBKEY : Nat := 0x060010
/-- `#06.0011 IDENTITY_CERT` (R479). -/
abbrev P.IDENTITY_CERT : Nat := 0x060011
/-- `#06.0012 ATTEST_INDEX` (R479). -/
abbrev P.ATTEST_INDEX : Nat := 0x060012
/-- `#06.0013 ATTEST_REMAINING` (R479). -/
abbrev P.ATTEST_REMAINING : Nat := 0x060013
/-- `#06.0014 ATTEST_REQUEST` (R479). -/
abbrev P.ATTEST_REQUEST : Nat := 0x060014
/-- `#06.0015 ATTEST_REPORT` (R479). -/
abbrev P.ATTEST_REPORT : Nat := 0x060015
/-- `#06.0020 KEY_SLOT/n` (R479). -/
abbrev P.KEY_SLOT : Nat := 0x060020
/-- `#06.0021 KEY_LOAD` (R479). -/
abbrev P.KEY_LOAD : Nat := 0x060021
/-- `#06.0022 KEY_REVOKE` (R479). -/
abbrev P.KEY_REVOKE : Nat := 0x060022
/-- `#06.0030 DEBUG_UNLOCK` (R479). -/
abbrev P.DEBUG_UNLOCK : Nat := 0x060030
/-- `#06.0031 DEBUG_STATE` (R479). -/
abbrev P.DEBUG_STATE : Nat := 0x060031
/-- `#07.0001 UPDATE_STATE` (R496). -/
abbrev P.UPDATE_STATE : Nat := 0x070001
/-- `#07.0002 SLOT_INFO` (R496). -/
abbrev P.SLOT_INFO : Nat := 0x070002
/-- `#07.0003 BLOCK_MAP` (R496). -/
abbrev P.BLOCK_MAP : Nat := 0x070003
/-- `#07.0004 BLOCK_COUNT` (R496). -/
abbrev P.BLOCK_COUNT : Nat := 0x070004
/-- `#07.0005 FLASH_USE` (R496). -/
abbrev P.FLASH_USE : Nat := 0x070005
/-- `#07.0010 MANIFEST` (R496). -/
abbrev P.MANIFEST : Nat := 0x070010
/-- `#07.0011 IMAGE_DATA` (R496). -/
abbrev P.IMAGE_DATA : Nat := 0x070011
/-- `#07.0012 UPDATE_ABORT` (R496). -/
abbrev P.UPDATE_ABORT : Nat := 0x070012
/-- `#07.0020 ACTIVATE` (R496). -/
abbrev P.ACTIVATE : Nat := 0x070020
/-- `#07.0021 CONFIRM` (R496). -/
abbrev P.CONFIRM : Nat := 0x070021
/-- `#07.0022 CONFIRM_WINDOW` (R496). -/
abbrev P.CONFIRM_WINDOW : Nat := 0x070022
/-- `#07.0023 AUTO_CONFIRM` (R496). -/
abbrev P.AUTO_CONFIRM : Nat := 0x070023
/-- `#07.0024 FLOOR_ADVANCE` (R496). -/
abbrev P.FLOOR_ADVANCE : Nat := 0x070024
/-- `#07.0030 LAST_OUTCOME` (R496). -/
abbrev P.LAST_OUTCOME : Nat := 0x070030
/-- `#08.0001 TIME_SOURCE` (R218). -/
abbrev P.TIME_SOURCE : Nat := 0x080001
/-- `#08.0002 TICK_RATE` (R218). -/
abbrev P.TICK_RATE : Nat := 0x080002
/-- `#08.0003 PTP_PROFILE` (R218). -/
abbrev P.PTP_PROFILE : Nat := 0x080003
/-- `#08.0004 PTP_DOMAIN` (R218). -/
abbrev P.PTP_DOMAIN : Nat := 0x080004
/-- `#08.0005 PTP_MASTER_EN` (R218). -/
abbrev P.PTP_MASTER_EN : Nat := 0x080005
/-- `#08.0006 PTP_PRIORITY` (R218). -/
abbrev P.PTP_PRIORITY : Nat := 0x080006
/-- `#08.0007 PTP_INTERVALS` (R218). -/
abbrev P.PTP_INTERVALS : Nat := 0x080007
/-- `#08.0008 PTP_DELAY_MODE` (R218). -/
abbrev P.PTP_DELAY_MODE : Nat := 0x080008
/-- `#08.0009 PHY_LATENCY` (R218). -/
abbrev P.PHY_LATENCY : Nat := 0x080009
/-- `#08.000A REF_IN_DELAY` (R218). -/
abbrev P.REF_IN_DELAY : Nat := 0x08000A
/-- `#08.0010 SERVO_GAINS` (R218). -/
abbrev P.SERVO_GAINS : Nat := 0x080010
/-- `#08.0011 LOCK_THRESHOLD` (R218). -/
abbrev P.LOCK_THRESHOLD : Nat := 0x080011
/-- `#08.0012 STEP_THRESHOLD` (R218). -/
abbrev P.STEP_THRESHOLD : Nat := 0x080012
/-- `#08.0013 STEP_POLICY` (R218). -/
abbrev P.STEP_POLICY : Nat := 0x080013
/-- `#08.0014 MAX_SLEW` (R218). -/
abbrev P.MAX_SLEW : Nat := 0x080014
/-- `#08.0020 TIME_NOW` (R218). -/
abbrev P.TIME_NOW : Nat := 0x080020
/-- `#08.0021 TIME_SET` (R218). -/
abbrev P.TIME_SET : Nat := 0x080021
/-- `#08.0022 SERVO_STATE` (R218). -/
abbrev P.SERVO_STATE : Nat := 0x080022
/-- `#08.0023 OFFSET` (R218). -/
abbrev P.OFFSET : Nat := 0x080023
/-- `#08.0024 FREQ_ADJ` (R218). -/
abbrev P.FREQ_ADJ : Nat := 0x080024
/-- `#08.0025 GM_IDENTITY` (R218). -/
abbrev P.GM_IDENTITY : Nat := 0x080025
/-- `#08.0026 PTP_PORT_STATE` (R218). -/
abbrev P.PTP_PORT_STATE : Nat := 0x080026
/-- `#08.0027 MEAN_PATH_DELAY` (R218). -/
abbrev P.MEAN_PATH_DELAY : Nat := 0x080027
/-- `#08.0028 PTP_DROPPED` (R218). -/
abbrev P.PTP_DROPPED : Nat := 0x080028
/-- `#08.0030 TICK_NOW` (R218). -/
abbrev P.TICK_NOW : Nat := 0x080030
/-- `#08.0040 TSQ_DEPTH` (R218). -/
abbrev P.TSQ_DEPTH : Nat := 0x080040
/-- `#08.0041 TSQ_DROPPED` (R218). -/
abbrev P.TSQ_DROPPED : Nat := 0x080041
/-- `#08.0042 TSQ_EXPIRED` (R218). -/
abbrev P.TSQ_EXPIRED : Nat := 0x080042
/-- `#08.0050 TPO_MODE/n` (R218). -/
abbrev P.TPO_MODE : Nat := 0x080050
/-- `#08.0051 TPO_START/n` (R218). -/
abbrev P.TPO_START : Nat := 0x080051
/-- `#08.0052 TPO_PERIOD/n` (R218). -/
abbrev P.TPO_PERIOD : Nat := 0x080052
/-- `#08.0053 TPO_WIDTH/n` (R218). -/
abbrev P.TPO_WIDTH : Nat := 0x080053
/-- `#08.0054 TPO_TICK_OFFSET/n` (R218). -/
abbrev P.TPO_TICK_OFFSET : Nat := 0x080054
/-- `#08.0060 MARKER_SOURCE` (R218). -/
abbrev P.MARKER_SOURCE : Nat := 0x080060
/-- `#08.0061 HEAD_SPLIT_LIMIT` (R218). -/
abbrev P.HEAD_SPLIT_LIMIT : Nat := 0x080061
/-- `#08.0062 MARKER_OFFSET/p` (R218). -/
abbrev P.MARKER_OFFSET : Nat := 0x080062
/-- `#09.0001 MAC_ADDRESS` (R421). -/
abbrev P.MAC_ADDRESS : Nat := 0x090001
/-- `#09.0002 LINK_STATUS` (R421). -/
abbrev P.LINK_STATUS : Nat := 0x090002
/-- `#09.0003 RGMII_DELAY` (R421). -/
abbrev P.RGMII_DELAY : Nat := 0x090003
/-- `#09.0004 PHY_ADDRESS` (R421). -/
abbrev P.PHY_ADDRESS : Nat := 0x090004
/-- `#09.0005 VLAN` (R421). -/
abbrev P.VLAN : Nat := 0x090005
/-- `#09.0006 IPV4_ADDRESS` (R421). -/
abbrev P.IPV4_ADDRESS : Nat := 0x090006
/-- `#09.0007 IPV4_MASK` (R421). -/
abbrev P.IPV4_MASK : Nat := 0x090007
/-- `#09.0008 IPV4_GATEWAY` (R421). -/
abbrev P.IPV4_GATEWAY : Nat := 0x090008
/-- `#09.0009 IP_MODE` (R421). -/
abbrev P.IP_MODE : Nat := 0x090009
/-- `#09.000A IPV4_IN_USE` (R421). -/
abbrev P.IPV4_IN_USE : Nat := 0x09000A
/-- `#09.0010 PAUSE_MODE` (R421). -/
abbrev P.PAUSE_MODE : Nat := 0x090010
/-- `#09.0011 PAUSE_CAP` (R421). -/
abbrev P.PAUSE_CAP : Nat := 0x090011
/-- `#09.0012 EEE_MODE` (R421). -/
abbrev P.EEE_MODE : Nat := 0x090012
/-- `#09.0013 EEE_IDLE` (R421). -/
abbrev P.EEE_IDLE : Nat := 0x090013
/-- `#09.0014 EEE_TW` (R421). -/
abbrev P.EEE_TW : Nat := 0x090014
/-- `#09.0015 DOWNSHIFT_EN` (R421). -/
abbrev P.DOWNSHIFT_EN : Nat := 0x090015
/-- `#09.0016 DOWNSHIFT_DELAY` (R421). -/
abbrev P.DOWNSHIFT_DELAY : Nat := 0x090016
/-- `#09.0017 DARK_SERVICE` (R421). -/
abbrev P.DARK_SERVICE : Nat := 0x090017
/-- `#09.0018 TX_THRESHOLD` (R421). -/
abbrev P.TX_THRESHOLD : Nat := 0x090018
/-- `#09.0030 MAC_STATS/i` (R421). -/
abbrev P.MAC_STATS : Nat := 0x090030
/-- `#0A.0001 T1S_ENABLE` (R422). -/
abbrev P.T1S_ENABLE : Nat := 0x0A0001
/-- `#0A.0002 T1S_TERM` (R422). -/
abbrev P.T1S_TERM : Nat := 0x0A0002
/-- `#0A.0003 T1S_IPV4/n` (R422). -/
abbrev P.T1S_IPV4 : Nat := 0x0A0003
/-- `#0A.0004 PLCA_CONFIG/n` (R422). -/
abbrev P.PLCA_CONFIG : Nat := 0x0A0004
/-- `#0A.0005 T1S_STATUS/n` (R422). -/
abbrev P.T1S_STATUS : Nat := 0x0A0005
/-- `#0A.0006 T1S_THRESHOLD/n` (R422). -/
abbrev P.T1S_THRESHOLD : Nat := 0x0A0006
/-- `#0A.0010 T1S_STATS/x` (R422). -/
abbrev P.T1S_STATS : Nat := 0x0A0010
/-- `#0B.0001 DMX_ENABLE` (R404). -/
abbrev P.DMX_ENABLE : Nat := 0x0B0001
/-- `#0B.0002 DMX_TIMING/p` (R404). -/
abbrev P.DMX_TIMING : Nat := 0x0B0002
/-- `#0B.0003 DMX_DIVISOR/p` (R404). -/
abbrev P.DMX_DIVISOR : Nat := 0x0B0003
/-- `#0B.0004 DMX_FRAMES/p` (R404). -/
abbrev P.DMX_FRAMES : Nat := 0x0B0004
/-- `#0B.0011 RDM_REQUEST/p` (R404). -/
abbrev P.RDM_REQUEST : Nat := 0x0B0011
/-- `#0B.0012 RDM_RESPONSE/p` (R404). -/
abbrev P.RDM_RESPONSE : Nat := 0x0B0012
/-- `#0B.0013 RDM_COUNT/p` (R404). -/
abbrev P.RDM_COUNT : Nat := 0x0B0013
/-- `#0C.0002 FIX_FULL_SCALE` (R405). -/
abbrev P.FIX_FULL_SCALE : Nat := 0x0C0002
/-- `#0C.0003 SACN_CID` (R405). -/
abbrev P.SACN_CID : Nat := 0x0C0003
/-- `#0C.0004 SACN_SOURCE_NAME` (R405). -/
abbrev P.SACN_SOURCE_NAME : Nat := 0x0C0004
/-- `#0C.0005 SYNC_UNIVERSE` (R405). -/
abbrev P.SYNC_UNIVERSE : Nat := 0x0C0005
/-- `#0C.0006 SACN_LEAD` (R405). -/
abbrev P.SACN_LEAD : Nat := 0x0C0006
/-- `#0C.0007 EMIT_OFFSET` (R405). -/
abbrev P.EMIT_OFFSET : Nat := 0x0C0007
/-- `#0C.0008 EMIT_TOLERANCE` (R405). -/
abbrev P.EMIT_TOLERANCE : Nat := 0x0C0008
/-- `#0C.0009 PATH_SHARE` (R405). -/
abbrev P.PATH_SHARE : Nat := 0x0C0009
/-- `#0C.0010 FIX_DATA` (R405). -/
abbrev P.FIX_DATA : Nat := 0x0C0010
/-- `#0C.0011 FIX_SEAL` (R405). -/
abbrev P.FIX_SEAL : Nat := 0x0C0011
/-- `#0C.0012 FIX_BANK` (R405). -/
abbrev P.FIX_BANK : Nat := 0x0C0012
/-- `#0C.0013 FIX_STATE` (R405). -/
abbrev P.FIX_STATE : Nat := 0x0C0013
/-- `#0C.0014 FIX_LOAD` (R405). -/
abbrev P.FIX_LOAD : Nat := 0x0C0014
/-- `#0C.0015 PATH_LOAD/n` (R405). -/
abbrev P.PATH_LOAD : Nat := 0x0C0015
/-- `#0C.0016 SAMPLE_LATE_COUNT` (R405). -/
abbrev P.SAMPLE_LATE_COUNT : Nat := 0x0C0016
/-- `#0C.0017 EMIT_LATE_COUNT/n` (R405). -/
abbrev P.EMIT_LATE_COUNT : Nat := 0x0C0017
/-- `#0C.0018 FIX_CURVES` (R405). -/
abbrev P.FIX_CURVES : Nat := 0x0C0018
/-- `#0C.0020 UNIVERSES` (R405). -/
abbrev P.UNIVERSES : Nat := 0x0C0020
/-- `#0E.0001 TXN_STATE` (R107). -/
abbrev P.TXN_STATE : Nat := 0x0E0001
/-- `#0E.0002 TXN_TARGET_TICK` (R107). -/
abbrev P.TXN_TARGET_TICK : Nat := 0x0E0002
/-- `#0E.0003 APPLIED_TICK` (R107). -/
abbrev P.APPLIED_TICK : Nat := 0x0E0003
/-- `#0E.0004 APPLIED_TXN` (R107). -/
abbrev P.APPLIED_TXN : Nat := 0x0E0004
/-- `#0E.0005 PENDING_TXN/0…/7` (R107). -/
abbrev P.PENDING_TXN : Nat := 0x0E0005
/-- `#0E.0006 LAST_REFUSAL` (R107). -/
abbrev P.LAST_REFUSAL : Nat := 0x0E0006
/-- `#0E.0010 LEASE_HOLDER` (R107). -/
abbrev P.LEASE_HOLDER : Nat := 0x0E0010
/-- `#0E.0011 LEASE_EPOCH` (R107). -/
abbrev P.LEASE_EPOCH : Nat := 0x0E0011
/-- `#0E.0012 LEASE_TIME` (R107). -/
abbrev P.LEASE_TIME : Nat := 0x0E0012
/-- `#0E.0013 LEASE_SEQ` (R107). -/
abbrev P.LEASE_SEQ : Nat := 0x0E0013
/-- `#0E.0020 OD_UDP_PORT` (R107). -/
abbrev P.OD_UDP_PORT : Nat := 0x0E0020
/-- `#0E.0021 OD_T1S_ENABLE` (R107). -/
abbrev P.OD_T1S_ENABLE : Nat := 0x0E0021
/-- `#0E.0030 AUTH_COUNTER/0…/7` (R107). -/
abbrev P.AUTH_COUNTER : Nat := 0x0E0030
/-- `#0E.0040 MALFORMED_COUNT` (R107). -/
abbrev P.MALFORMED_COUNT : Nat := 0x0E0040
/-- `#10.0001 LANE_USE/n` (R141). -/
abbrev P.LANE_USE : Nat := 0x100001
/-- `#10.0002 TILE_PORT_MAP` (R141). -/
abbrev P.TILE_PORT_MAP : Nat := 0x100002
/-- `#10.0003 LANE_RATE/n` (R141). -/
abbrev P.LANE_RATE : Nat := 0x100003
/-- `#10.0004 TX_FIR/n` (R141). -/
abbrev P.TX_FIR : Nat := 0x100004
/-- `#10.0005 POLARITY/n` (R141). -/
abbrev P.POLARITY : Nat := 0x100005
/-- `#10.0006 ADAPT_MODE/n` (R141). -/
abbrev P.ADAPT_MODE : Nat := 0x100006
/-- `#10.0010 LANE_STATE/n` (R141). -/
abbrev P.LANE_STATE : Nat := 0x100010
/-- `#10.0011 RATE_IN_USE/n` (R141). -/
abbrev P.RATE_IN_USE : Nat := 0x100011
/-- `#10.0012 EQ_STATE/n` (R141). -/
abbrev P.EQ_STATE : Nat := 0x100012
/-- `#10.0013 CODE_ERRORS/n` (R141). -/
abbrev P.CODE_ERRORS : Nat := 0x100013
/-- `#10.0014 SYNC_LOSS/n` (R141). -/
abbrev P.SYNC_LOSS : Nat := 0x100014
/-- `#10.0015 SLIPS/n` (R141). -/
abbrev P.SLIPS : Nat := 0x100015
/-- `#10.0020 EYE_SCAN_CTRL` (R141). -/
abbrev P.EYE_SCAN_CTRL : Nat := 0x100020
/-- `#10.0021 EYE_SCAN_STATUS` (R141). -/
abbrev P.EYE_SCAN_STATUS : Nat := 0x100021
/-- `#10.0022 EYE_MAP` (R141). -/
abbrev P.EYE_MAP : Nat := 0x100022
/-- `#10.0023 EYE_MARGIN/n` (R141). -/
abbrev P.EYE_MARGIN : Nat := 0x100023
/-- `#10.0024 EYE_MARGIN_MIN` (R141). -/
abbrev P.EYE_MARGIN_MIN : Nat := 0x100024
/-- `#10.0025 CODE_ERROR_LIMIT` (R141). -/
abbrev P.CODE_ERROR_LIMIT : Nat := 0x100025
/-- `#10.0030 PRBS_GEN/n` (R141). -/
abbrev P.PRBS_GEN : Nat := 0x100030
/-- `#10.0031 PRBS_CHK/n` (R141). -/
abbrev P.PRBS_CHK : Nat := 0x100031
/-- `#10.0032 PRBS_USER` (R141). -/
abbrev P.PRBS_USER : Nat := 0x100032
/-- `#10.0033 PRBS_BITS/n` (R141). -/
abbrev P.PRBS_BITS : Nat := 0x100033
/-- `#10.0034 PRBS_ERRORS/n` (R141). -/
abbrev P.PRBS_ERRORS : Nat := 0x100034
/-- `#10.0035 PRBS_LOCK/n` (R141). -/
abbrev P.PRBS_LOCK : Nat := 0x100035
/-- `#10.0036 INJECT/n` (R141). -/
abbrev P.INJECT : Nat := 0x100036
/-- `#11.0002 TILE_GAP` (R169). -/
abbrev P.TILE_GAP : Nat := 0x110002
/-- `#11.0003 HEAD_CTRL_SYMBOLS` (R169). -/
abbrev P.HEAD_CTRL_SYMBOLS : Nat := 0x110003
/-- `#11.0004 LATENCY_ASSUMED` (R169). -/
abbrev P.LATENCY_ASSUMED : Nat := 0x110004
/-- `#11.0010 POSITION/p` (R169). -/
abbrev P.POSITION : Nat := 0x110010
/-- `#11.0011 LATENCY/p` (R169). -/
abbrev P.LATENCY : Nat := 0x110011
/-- `#11.0012 LINK_DELAY/p` (R169). -/
abbrev P.LINK_DELAY : Nat := 0x110012
/-- `#11.0013 LINK_ASYMMETRY/p` (R169). -/
abbrev P.LINK_ASYMMETRY : Nat := 0x110013
/-- `#11.0014 PASS_LATENCY` (R169). -/
abbrev P.PASS_LATENCY : Nat := 0x110014
/-- `#11.0015 NEIGHBOUR/p` (R169). -/
abbrev P.NEIGHBOUR : Nat := 0x110015
/-- `#11.0020 CHAIN_LOAD/p` (R169). -/
abbrev P.CHAIN_LOAD : Nat := 0x110020
/-- `#11.0021 CHAIN_L/p` (R169). -/
abbrev P.CHAIN_L : Nat := 0x110021
/-- `#11.0030 RX_PACKETS/p` (R169). -/
abbrev P.RX_PACKETS : Nat := 0x110030
/-- `#11.0031 CRC_ERRORS/p` (R169). -/
abbrev P.CRC_ERRORS : Nat := 0x110031
/-- `#11.0032 LATE_PACKETS/p` (R169). -/
abbrev P.LATE_PACKETS : Nat := 0x110032
/-- `#11.0033 COPY_COUNT/0…/2` (R169). -/
abbrev P.COPY_COUNT : Nat := 0x110033
/-- `#11.0034 INGRESS_DROPS/p` (R169). -/
abbrev P.INGRESS_DROPS : Nat := 0x110034
/-- `#12.0001 REDUNDANCY_MODE` (R196). -/
abbrev P.REDUNDANCY_MODE : Nat := 0x120001
/-- `#12.0002 PARTNER_ID` (R196). -/
abbrev P.PARTNER_ID : Nat := 0x120002
/-- `#12.0003 PARTNER_IP` (R196). -/
abbrev P.PARTNER_IP : Nat := 0x120003
/-- `#12.0010 CLAIM_HOLDOFF` (R196). -/
abbrev P.CLAIM_HOLDOFF : Nat := 0x120010
/-- `#12.0011 EVIDENCE_TICKS` (R196). -/
abbrev P.EVIDENCE_TICKS : Nat := 0x120011
/-- `#12.0012 SYNC_FRAMES` (R196). -/
abbrev P.SYNC_FRAMES : Nat := 0x120012
/-- `#12.0013 FORCE_STANDBY` (R196). -/
abbrev P.FORCE_STANDBY : Nat := 0x120013
/-- `#12.0020 SWITCHOVER` (R196). -/
abbrev P.SWITCHOVER : Nat := 0x120020
/-- `#12.0021 EPOCH` (R196). -/
abbrev P.EPOCH : Nat := 0x120021
/-- `#12.0022 EPOCH_HIGHEST` (R196). -/
abbrev P.EPOCH_HIGHEST : Nat := 0x120022
/-- `#12.0023 EPOCH_FLOOR` (R196). -/
abbrev P.EPOCH_FLOOR : Nat := 0x120023
/-- `#12.0030 SLUICE_STATE` (R196). -/
abbrev P.SLUICE_STATE : Nat := 0x120030
/-- `#12.0031 PARTNER_VIEW` (R196). -/
abbrev P.PARTNER_VIEW : Nat := 0x120031
/-- `#12.0032 HEALTH_REPORT` (R196). -/
abbrev P.HEALTH_REPORT : Nat := 0x120032
/-- `#12.0033 PARTNER_REPORT` (R196). -/
abbrev P.PARTNER_REPORT : Nat := 0x120033
/-- `#12.0034 CONFIG_DIGEST` (R196). -/
abbrev P.CONFIG_DIGEST : Nat := 0x120034
/-- `#12.0040 TAKEOVER_LOG` (R196). -/
abbrev P.TAKEOVER_LOG : Nat := 0x120040
/-- `#12.0041 STALE_PACKETS` (R196). -/
abbrev P.STALE_PACKETS : Nat := 0x120041
/-- `#12.0042 READBACK_ACTION` (R196). -/
abbrev P.READBACK_ACTION : Nat := 0x120042
/-- `#12.0043 READBACK_STRIKES` (R196). -/
abbrev P.READBACK_STRIKES : Nat := 0x120043
/-- `#12.0044 LISTEN_WINDOW` (R196). -/
abbrev P.LISTEN_WINDOW : Nat := 0x120044
/-- `#18.0001 DP_ENABLE/n` (R142). -/
abbrev P.DP_ENABLE : Nat := 0x180001
/-- `#18.0002 DP_MAX_RATE/n` (R142). -/
abbrev P.DP_MAX_RATE : Nat := 0x180002
/-- `#18.0003 DP_HPD_MODE/n` (R142). -/
abbrev P.DP_HPD_MODE : Nat := 0x180003
/-- `#18.0004 DP_SYMBOL_ERRORS/n` (R142). -/
abbrev P.DP_SYMBOL_ERRORS : Nat := 0x180004
/-- `#18.0010 DP_EDID/n` (R142). -/
abbrev P.DP_EDID : Nat := 0x180010
/-- `#18.0020 DP_LINK_STATUS/n` (R142). -/
abbrev P.DP_LINK_STATUS : Nat := 0x180020
/-- `#18.0021 DP_VIDEO_FORMAT/n` (R142). -/
abbrev P.DP_VIDEO_FORMAT : Nat := 0x180021
/-- `#20.0001 LAYER_SOURCE/n` (R234). -/
abbrev P.LAYER_SOURCE : Nat := 0x200001
/-- `#20.0002 LAYER_GROUP/n` (R234). -/
abbrev P.LAYER_GROUP : Nat := 0x200002
/-- `#20.0003 LAYER_CADENCE/n` (R234). -/
abbrev P.LAYER_CADENCE : Nat := 0x200003
/-- `#20.0004 LAYER_HOLD_LIMIT/n` (R234). -/
abbrev P.LAYER_HOLD_LIMIT : Nat := 0x200004
/-- `#20.0005 LAYER_STARVED_ACTION/n` (R234). -/
abbrev P.LAYER_STARVED_ACTION : Nat := 0x200005
/-- `#20.0006 LAYER_LOSS_FILL/n` (R234). -/
abbrev P.LAYER_LOSS_FILL : Nat := 0x200006
/-- `#20.0007 LAYER_STATUS/n` (R234). -/
abbrev P.LAYER_STATUS : Nat := 0x200007
/-- `#20.0008 LAYER_SHOWN/n` (R234). -/
abbrev P.LAYER_SHOWN : Nat := 0x200008
/-- `#20.0009 SOLID_COLOUR/n` (R234). -/
abbrev P.SOLID_COLOUR : Nat := 0x200009
/-- `#20.0020 GROUP_MODE/g` (R234). -/
abbrev P.GROUP_MODE : Nat := 0x200020
/-- `#20.0021 GROUP_FLIPS/g` (R234). -/
abbrev P.GROUP_FLIPS : Nat := 0x200021
/-- `#20.0030 SURFACE_GEOMETRY/s` (R234). -/
abbrev P.SURFACE_GEOMETRY : Nat := 0x200030
/-- `#20.0031 SURFACE_FENCE/s` (R234). -/
abbrev P.SURFACE_FENCE : Nat := 0x200031
/-- `#20.0032 SURFACE_FENCE_TIME/s` (R234). -/
abbrev P.SURFACE_FENCE_TIME : Nat := 0x200032
/-- `#20.0033 BUFFER_STATE/s` (R234). -/
abbrev P.BUFFER_STATE : Nat := 0x200033
/-- `#20.0034 FILLS_DAMAGED/s` (R234). -/
abbrev P.FILLS_DAMAGED : Nat := 0x200034
/-- `#20.0035 FILLS_SKIPPED/s` (R234). -/
abbrev P.FILLS_SKIPPED : Nat := 0x200035
/-- `#20.0040 INGRESS_SURFACE/c` (R234). -/
abbrev P.INGRESS_SURFACE : Nat := 0x200040
/-- `#20.0041 INGRESS_SOURCE/c` (R234). -/
abbrev P.INGRESS_SOURCE : Nat := 0x200041
/-- `#20.0050 STILL_GEOMETRY/s` (R234). -/
abbrev P.STILL_GEOMETRY : Nat := 0x200050
/-- `#20.0051 STILL_DATA/s` (R234). -/
abbrev P.STILL_DATA : Nat := 0x200051
/-- `#20.0052 STILL_SEAL/s` (R234). -/
abbrev P.STILL_SEAL : Nat := 0x200052
/-- `#20.0053 STILL_SEALS/s` (R234). -/
abbrev P.STILL_SEALS : Nat := 0x200053
/-- `#20.0060 DP_FRAMES/i` (R234). -/
abbrev P.DP_FRAMES : Nat := 0x200060
/-- `#21.0001 WALL_PEAK` (R258). -/
abbrev P.WALL_PEAK : Nat := 0x210001
/-- `#21.0002 WALL_BLACK` (R258). -/
abbrev P.WALL_BLACK : Nat := 0x210002
/-- `#21.0003 SDR_WHITE` (R258). -/
abbrev P.SDR_WHITE : Nat := 0x210003
/-- `#21.0004 HLG_PEAK` (R258). -/
abbrev P.HLG_PEAK : Nat := 0x210004
/-- `#21.0005 TONE_CURVE` (R258). -/
abbrev P.TONE_CURVE : Nat := 0x210005
/-- `#21.0006 KNEE_START` (R258). -/
abbrev P.KNEE_START : Nat := 0x210006
/-- `#21.0007 KNEE_SLEW` (R258). -/
abbrev P.KNEE_SLEW : Nat := 0x210007
/-- `#21.0008 CANVAS_BACKGROUND` (R258). -/
abbrev P.CANVAS_BACKGROUND : Nat := 0x210008
/-- `#21.0010 LAYER_SRC_RECT/n` (R258). -/
abbrev P.LAYER_SRC_RECT : Nat := 0x210010
/-- `#21.0011 LAYER_DST_RECT/n` (R258). -/
abbrev P.LAYER_DST_RECT : Nat := 0x210011
/-- `#21.0012 LAYER_BLEND/n` (R258). -/
abbrev P.LAYER_BLEND : Nat := 0x210012
/-- `#21.0013 LAYER_TRANSFER/n` (R258). -/
abbrev P.LAYER_TRANSFER : Nat := 0x210013
/-- `#21.0014 LAYER_TONE/n` (R258). -/
abbrev P.LAYER_TONE : Nat := 0x210014
/-- `#21.0015 LAYER_SCALE/n` (R258). -/
abbrev P.LAYER_SCALE : Nat := 0x210015
/-- `#21.0016 LAYER_POLDER/n` (R258). -/
abbrev P.LAYER_POLDER : Nat := 0x210016
/-- `#21.0017 LAYER_SHED_RANK/n` (R258). -/
abbrev P.LAYER_SHED_RANK : Nat := 0x210017
/-- `#21.0018 LAYER_KNEE_STATE/n` (R258). -/
abbrev P.LAYER_KNEE_STATE : Nat := 0x210018
/-- `#21.0020 SCALER_COEFF/t` (R258). -/
abbrev P.SCALER_COEFF : Nat := 0x210020
/-- `#21.0021 SCALER_MAP` (R258). -/
abbrev P.SCALER_MAP : Nat := 0x210021
/-- `#21.0030 DIKE_MODE` (R258). -/
abbrev P.DIKE_MODE : Nat := 0x210030
/-- `#21.0031 RECOVERY_FRAMES` (R258). -/
abbrev P.RECOVERY_FRAMES : Nat := 0x210031
/-- `#21.0040 DRAM_BUDGET` (R258). -/
abbrev P.DRAM_BUDGET : Nat := 0x210040
/-- `#21.0041 COMPOSE_LIMIT` (R258). -/
abbrev P.COMPOSE_LIMIT : Nat := 0x210041
/-- `#21.0042 DRAM_OTHER` (R258). -/
abbrev P.DRAM_OTHER : Nat := 0x210042
/-- `#21.0043 DP_BUDGET/i` (R258). -/
abbrev P.DP_BUDGET : Nat := 0x210043
/-- `#21.0044 BUDGET_STATE` (R258). -/
abbrev P.BUDGET_STATE : Nat := 0x210044
/-- `#21.0050 SPAN_ROLE` (R258). -/
abbrev P.SPAN_ROLE : Nat := 0x210050
/-- `#21.0051 SPAN_SEAM` (R258). -/
abbrev P.SPAN_SEAM : Nat := 0x210051
/-- `#21.0052 SPAN_OVERLAP` (R258). -/
abbrev P.SPAN_OVERLAP : Nat := 0x210052
/-- `#21.0060 POLDER_STATE` (R258). -/
abbrev P.POLDER_STATE : Nat := 0x210060
/-- `#21.0061 SHED_MASK` (R258). -/
abbrev P.SHED_MASK : Nat := 0x210061
/-- `#21.0062 COMPOSE_TIME` (R258). -/
abbrev P.COMPOSE_TIME : Nat := 0x210062
/-- `#21.0063 COMPOSE_MISSES` (R258). -/
abbrev P.COMPOSE_MISSES : Nat := 0x210063
/-- `#22.0002 DISPLAY_DELAY` (R281). -/
abbrev P.DISPLAY_DELAY : Nat := 0x220002
/-- `#22.0010 CANVAS_WIDTH` (R281). -/
abbrev P.CANVAS_WIDTH : Nat := 0x220010
/-- `#22.0011 CANVAS_HEIGHT` (R281). -/
abbrev P.CANVAS_HEIGHT : Nat := 0x220011
/-- `#22.0012 CANVAS_FORMAT` (R281). -/
abbrev P.CANVAS_FORMAT : Nat := 0x220012
/-- `#22.0013 TRANSPORT_CURVE` (R281). -/
abbrev P.TRANSPORT_CURVE : Nat := 0x220013
/-- `#22.0020 REGION/r` (R281). -/
abbrev P.REGION : Nat := 0x220020
/-- `#22.0021 REGION_COUNT/c` (R281). -/
abbrev P.REGION_COUNT : Nat := 0x220021
/-- `#22.0030 SCAN_PACE` (R281). -/
abbrev P.SCAN_PACE : Nat := 0x220030
/-- `#22.0031 DRY_LIMIT` (R281). -/
abbrev P.DRY_LIMIT : Nat := 0x220031
/-- `#22.0032 WELL_STATE/c` (R281). -/
abbrev P.WELL_STATE : Nat := 0x220032
/-- `#22.0033 SCAN_MARGIN/c` (R281). -/
abbrev P.SCAN_MARGIN : Nat := 0x220033
/-- `#22.0034 DRY_COUNT/c` (R281). -/
abbrev P.DRY_COUNT : Nat := 0x220034
/-- `#22.0035 LATE_REGIONS/c` (R281). -/
abbrev P.LATE_REGIONS : Nat := 0x220035
/-- `#22.0040 SPAN_GUARD` (R281). -/
abbrev P.SPAN_GUARD : Nat := 0x220040
/-- `#22.0041 SPAN_STATE` (R281). -/
abbrev P.SPAN_STATE : Nat := 0x220041
/-- `#22.0042 SPAN_LOCK_TICKS` (R281). -/
abbrev P.SPAN_LOCK_TICKS : Nat := 0x220042
/-- `#22.0043 SPAN_DIGEST` (R281). -/
abbrev P.SPAN_DIGEST : Nat := 0x220043
/-- `#22.0044 SPAN_LANES` (R281). -/
abbrev P.SPAN_LANES : Nat := 0x220044
/-- `#28.0001 TILE_REGION` (R307). -/
abbrev P.TILE_REGION : Nat := 0x280001
/-- `#28.0002 TILE_FORMAT` (R307). -/
abbrev P.TILE_FORMAT : Nat := 0x280002
/-- `#28.0003 LAMP_LAYOUT` (R307). -/
abbrev P.LAMP_LAYOUT : Nat := 0x280003
/-- `#28.0004 FULL_SCALE` (R307). -/
abbrev P.FULL_SCALE : Nat := 0x280004
/-- `#28.0005 EXPANSION_LUT` (R307). -/
abbrev P.EXPANSION_LUT : Nat := 0x280005
/-- `#28.0006 LOWGREY_CURVES` (R307). -/
abbrev P.LOWGREY_CURVES : Nat := 0x280006
/-- `#28.0007 DITHER` (R307). -/
abbrev P.DITHER : Nat := 0x280007
/-- `#28.0010 COEFF_DATA` (R307). -/
abbrev P.COEFF_DATA : Nat := 0x280010
/-- `#28.0011 COEFF_SEAL` (R307). -/
abbrev P.COEFF_SEAL : Nat := 0x280011
/-- `#28.0012 COEFF_BANK` (R307). -/
abbrev P.COEFF_BANK : Nat := 0x280012
/-- `#28.0013 COEFF_STATE` (R307). -/
abbrev P.COEFF_STATE : Nat := 0x280013
/-- `#28.0014 COEFF_CRC/b` (R307). -/
abbrev P.COEFF_CRC : Nat := 0x280014
/-- `#28.0020 ZONE_RECT/z` (R307). -/
abbrev P.ZONE_RECT : Nat := 0x280020
/-- `#28.0021 ZONE_SENSORS/z` (R307). -/
abbrev P.ZONE_SENSORS : Nat := 0x280021
/-- `#28.0022 ZONE_TEMP/z` (R307). -/
abbrev P.ZONE_TEMP : Nat := 0x280022
/-- `#28.0023 SENSOR_TEMP/s` (R307). -/
abbrev P.SENSOR_TEMP : Nat := 0x280023
/-- `#28.0024 SENSOR_OFFSET/s` (R307). -/
abbrev P.SENSOR_OFFSET : Nat := 0x280024
/-- `#28.0025 SENSOR_STALE` (R307). -/
abbrev P.SENSOR_STALE : Nat := 0x280025
/-- `#28.0030 PRIMARY_XYZ/j` (R307). -/
abbrev P.PRIMARY_XYZ : Nat := 0x280030
/-- `#28.0031 T_REF` (R307). -/
abbrev P.T_REF : Nat := 0x280031
/-- `#28.0032 K_SLEW` (R307). -/
abbrev P.K_SLEW : Nat := 0x280032
/-- `#28.0033 K_MODE` (R307). -/
abbrev P.K_MODE : Nat := 0x280033
/-- `#28.0034 K_TARGET/z` (R307). -/
abbrev P.K_TARGET : Nat := 0x280034
/-- `#28.0035 K_APPLIED/z` (R307). -/
abbrev P.K_APPLIED : Nat := 0x280035
/-- `#28.0040 WEAR_MODE` (R307). -/
abbrev P.WEAR_MODE : Nat := 0x280040
/-- `#28.0041 WEAR_CURVE/j` (R307). -/
abbrev P.WEAR_CURVE : Nat := 0x280041
/-- `#28.0042 WEAR_CEILING` (R307). -/
abbrev P.WEAR_CEILING : Nat := 0x280042
/-- `#28.0043 WEAR_REFERENCE` (R307). -/
abbrev P.WEAR_REFERENCE : Nat := 0x280043
/-- `#28.0044 LEDGER` (R307). -/
abbrev P.LEDGER : Nat := 0x280044
/-- `#28.0045 LEDGER_STAGE` (R307). -/
abbrev P.LEDGER_STAGE : Nat := 0x280045
/-- `#28.0046 LEDGER_COMMAND` (R307). -/
abbrev P.LEDGER_COMMAND : Nat := 0x280046
/-- `#28.0047 LEDGER_SLOTS` (R307). -/
abbrev P.LEDGER_SLOTS : Nat := 0x280047
/-- `#28.0048 WEAR_STATE` (R307). -/
abbrev P.WEAR_STATE : Nat := 0x280048
/-- `#28.0050 SCALE_IN_USE` (R307). -/
abbrev P.SCALE_IN_USE : Nat := 0x280050
/-- `#28.0051 CLIPPED_LAMPS` (R307). -/
abbrev P.CLIPPED_LAMPS : Nat := 0x280051
/-- `#29.0001 PORT_ENABLE` (R328). -/
abbrev P.PORT_ENABLE : Nat := 0x290001
/-- `#29.0002 SUBFRAMES` (R328). -/
abbrev P.SUBFRAMES : Nat := 0x290002
/-- `#29.0003 BLANK_TIME` (R328). -/
abbrev P.BLANK_TIME : Nat := 0x290003
/-- `#29.0004 PHASE_COUNT` (R328). -/
abbrev P.PHASE_COUNT : Nat := 0x290004
/-- `#29.0005 PHASE_PRIMARY/j` (R328). -/
abbrev P.PHASE_PRIMARY : Nat := 0x290005
/-- `#29.0010 QUAD_CONFIG/q` (R328). -/
abbrev P.QUAD_CONFIG : Nat := 0x290010
/-- `#29.0011 GK_FREQ/q` (R328). -/
abbrev P.GK_FREQ : Nat := 0x290011
/-- `#29.0012 B_LSB/q` (R328). -/
abbrev P.B_LSB : Nat := 0x290012
/-- `#29.0013 B_LSB_MAX/q` (R328). -/
abbrev P.B_LSB_MAX : Nat := 0x290013
/-- `#29.0014 FRAME_SHIFT/q` (R328). -/
abbrev P.FRAME_SHIFT : Nat := 0x290014
/-- `#29.0020 PORT_CONFIG/p` (R328). -/
abbrev P.PORT_CONFIG : Nat := 0x290020
/-- `#29.0030 MAP_DATA` (R328). -/
abbrev P.MAP_DATA : Nat := 0x290030
/-- `#29.0031 MAP_SEAL` (R328). -/
abbrev P.MAP_SEAL : Nat := 0x290031
/-- `#29.0032 MAP_BANK` (R328). -/
abbrev P.MAP_BANK : Nat := 0x290032
/-- `#29.0033 MAP_STATE` (R328). -/
abbrev P.MAP_STATE : Nat := 0x290033
/-- `#29.0040 DB_MODE/b` (R328). -/
abbrev P.DB_MODE : Nat := 0x290040
/-- `#29.0041 DB_DIV/b` (R328). -/
abbrev P.DB_DIV : Nat := 0x290041
/-- `#29.0042 DB_ERRORS/b` (R328). -/
abbrev P.DB_ERRORS : Nat := 0x290042
/-- `#29.0050 SENSOR_SOURCE/s` (R328). -/
abbrev P.SENSOR_SOURCE : Nat := 0x290050
/-- `#29.0051 SENSOR_PERIOD` (R328). -/
abbrev P.SENSOR_PERIOD : Nat := 0x290051
/-- `#29.0060 PORT_STATE/p` (R328). -/
abbrev P.PORT_STATE : Nat := 0x290060
/-- `#29.0061 SHIFT_MARGIN/q` (R328). -/
abbrev P.SHIFT_MARGIN : Nat := 0x290061
/-- `#29.0062 ROW_LOAD/q` (R328). -/
abbrev P.ROW_LOAD : Nat := 0x290062
/-- `#29.0063 SHIFT_LATE_COUNT` (R328). -/
abbrev P.SHIFT_LATE_COUNT : Nat := 0x290063
/-- `#2A.0001 QUAD_PROGRAM/q` (R351). -/
abbrev P.QUAD_PROGRAM : Nat := 0x2A0001
/-- `#2A.0010 PROG_DATA/s` (R351). -/
abbrev P.PROG_DATA : Nat := 0x2A0010
/-- `#2A.0011 PROG_SEAL/s` (R351). -/
abbrev P.PROG_SEAL : Nat := 0x2A0011
/-- `#2A.0012 PROG_STATE/s` (R351). -/
abbrev P.PROG_STATE : Nat := 0x2A0012
/-- `#2A.0013 PROG_CRC/s` (R351). -/
abbrev P.PROG_CRC : Nat := 0x2A0013
/-- `#2A.0020 SEQ_STATE/q` (R351). -/
abbrev P.SEQ_STATE : Nat := 0x2A0020
/-- `#2A.0021 SEQ_FAULT/q` (R351). -/
abbrev P.SEQ_FAULT : Nat := 0x2A0021
/-- `#2A.0022 EVENT_MISSED/q` (R351). -/
abbrev P.EVENT_MISSED : Nat := 0x2A0022
/-- `#2A.0023 ALIGN_SLIP/q` (R351). -/
abbrev P.ALIGN_SLIP : Nat := 0x2A0023
/-- `#2A.0024 SEQ_REGS/q` (R351). -/
abbrev P.SEQ_REGS : Nat := 0x2A0024
/-- `#2A.0025 PROBE_SKIPPED/q` (R351). -/
abbrev P.PROBE_SKIPPED : Nat := 0x2A0025
/-- `#2A.0030 TRACE_ENABLE` (R351). -/
abbrev P.TRACE_ENABLE : Nat := 0x2A0030
/-- `#2B.0001 HEALTH_MODE` (R369). -/
abbrev P.HEALTH_MODE : Nat := 0x2B0001
/-- `#2B.0002 T_OD` (R369). -/
abbrev P.T_OD : Nat := 0x2B0002
/-- `#2B.0004 MASK_MODE` (R369). -/
abbrev P.MASK_MODE : Nat := 0x2B0004
/-- `#2B.0005 HEALTH_STALE` (R369). -/
abbrev P.HEALTH_STALE : Nat := 0x2B0005
/-- `#2B.0006 STRAND_SUSPECT` (R369). -/
abbrev P.STRAND_SUSPECT : Nat := 0x2B0006
/-- `#2B.0010 HEALTH_PERIOD` (R369). -/
abbrev P.HEALTH_PERIOD : Nat := 0x2B0010
/-- `#2B.0011 HEALTH_SOURCE/q` (R369). -/
abbrev P.HEALTH_SOURCE : Nat := 0x2B0011
/-- `#2B.0012 ONTIME_SPLIT/q` (R369). -/
abbrev P.ONTIME_SPLIT : Nat := 0x2B0012
/-- `#2B.0020 PROBE_BUDGET` (R369). -/
abbrev P.PROBE_BUDGET : Nat := 0x2B0020
/-- `#2B.0021 PROBE_WINDOW` (R369). -/
abbrev P.PROBE_WINDOW : Nat := 0x2B0021
/-- `#2B.0022 PROBE_DIM` (R369). -/
abbrev P.PROBE_DIM : Nat := 0x2B0022
/-- `#2B.0023 PROBE_INTERVAL/q` (R369). -/
abbrev P.PROBE_INTERVAL : Nat := 0x2B0023
/-- `#2B.0030 LAMP_STATUS` (R369). -/
abbrev P.LAMP_STATUS : Nat := 0x2B0030
/-- `#2B.0031 HEALTH_SUMMARY` (R369). -/
abbrev P.HEALTH_SUMMARY : Nat := 0x2B0031
/-- `#2B.0032 FAULT_LIST` (R369). -/
abbrev P.FAULT_LIST : Nat := 0x2B0032
/-- `#2B.0033 HEALTH_COMMAND` (R369). -/
abbrev P.HEALTH_COMMAND : Nat := 0x2B0033
/-- `#2B.0034 READ_ERRORS/q` (R369). -/
abbrev P.READ_ERRORS : Nat := 0x2B0034
/-- `#2C.0001 AIN_CONFIG/a` (R386). -/
abbrev P.AIN_CONFIG : Nat := 0x2C0001
/-- `#2C.0002 AIN_VALUE/a` (R386). -/
abbrev P.AIN_VALUE : Nat := 0x2C0002
/-- `#2C.0003 TACH_CONFIG/t` (R386). -/
abbrev P.TACH_CONFIG : Nat := 0x2C0003
/-- `#2C.0004 POWER_TERM/t` (R386). -/
abbrev P.POWER_TERM : Nat := 0x2C0004
/-- `#2C.0005 TACH_STALL/t` (R386). -/
abbrev P.TACH_STALL : Nat := 0x2C0005
/-- `#2C.0006 TACH_RPM/t` (R386). -/
abbrev P.TACH_RPM : Nat := 0x2C0006
/-- `#2C.0007 POWER_NOW` (R386). -/
abbrev P.POWER_NOW : Nat := 0x2C0007
/-- `#2C.0010 LOOP_CONFIG/l` (R386). -/
abbrev P.LOOP_CONFIG : Nat := 0x2C0010
/-- `#2C.0011 LOOP_PERIOD/l` (R386). -/
abbrev P.LOOP_PERIOD : Nat := 0x2C0011
/-- `#2C.0012 SETPOINT/l` (R386). -/
abbrev P.SETPOINT : Nat := 0x2C0012
/-- `#2C.0013 KP_LUT/l` (R386). -/
abbrev P.KP_LUT : Nat := 0x2C0013
/-- `#2C.0014 KI_LUT/l` (R386). -/
abbrev P.KI_LUT : Nat := 0x2C0014
/-- `#2C.0015 GAIN_SCALE/l` (R386). -/
abbrev P.GAIN_SCALE : Nat := 0x2C0015
/-- `#2C.0016 OUT_LIMITS/l` (R386). -/
abbrev P.OUT_LIMITS : Nat := 0x2C0016
/-- `#2C.0017 OUT_SLEW/l` (R386). -/
abbrev P.OUT_SLEW : Nat := 0x2C0017
/-- `#2C.0018 FIXED_OUT/l` (R386). -/
abbrev P.FIXED_OUT : Nat := 0x2C0018
/-- `#2C.0019 OSC_CONFIG/l` (R386). -/
abbrev P.OSC_CONFIG : Nat := 0x2C0019
/-- `#2C.001A INPUT_ALARM/l` (R386). -/
abbrev P.INPUT_ALARM : Nat := 0x2C001A
/-- `#2C.0020 LOOP_STATE/l` (R386). -/
abbrev P.LOOP_STATE : Nat := 0x2C0020
/-- `#2C.0021 OSC_RESET` (R386). -/
abbrev P.OSC_RESET : Nat := 0x2C0021
/-- `#2C.0022 OVERRUNS/l` (R386). -/
abbrev P.OVERRUNS : Nat := 0x2C0022
/-- `#2C.0023 BETA_PRESENTED` (R386). -/
abbrev P.BETA_PRESENTED : Nat := 0x2C0023
/-- `#2C.0024 ENGINE_LOAD` (R386). -/
abbrev P.ENGINE_LOAD : Nat := 0x2C0024
/-- `#30.0001 DRAM_STATE` (R446). -/
abbrev P.DRAM_STATE : Nat := 0x300001
/-- `#30.0002 DRAM_TEMP` (R446). -/
abbrev P.DRAM_TEMP : Nat := 0x300002
/-- `#30.0003 REFRESH_INTERVAL` (R446). -/
abbrev P.REFRESH_INTERVAL : Nat := 0x300003
/-- `#30.0004 REFRESH_DEBT/ch` (R446). -/
abbrev P.REFRESH_DEBT : Nat := 0x300004
/-- `#30.0005 REFRESH_FORCED/ch` (R446). -/
abbrev P.REFRESH_FORCED : Nat := 0x300005
/-- `#30.0010 TRAIN_RESULT/ch` (R446). -/
abbrev P.TRAIN_RESULT : Nat := 0x300010
/-- `#30.0011 TRAIN_TIME` (R446). -/
abbrev P.TRAIN_TIME : Nat := 0x300011
/-- `#30.0020 ECC_CE/ch` (R446). -/
abbrev P.ECC_CE : Nat := 0x300020
/-- `#30.0021 ECC_UE/ch` (R446). -/
abbrev P.ECC_UE : Nat := 0x300021
/-- `#30.0022 ECC_LAST_UE` (R446). -/
abbrev P.ECC_LAST_UE : Nat := 0x300022
/-- `#30.0023 CE_RECUR_LIMIT` (R446). -/
abbrev P.CE_RECUR_LIMIT : Nat := 0x300023
/-- `#30.0024 SCRUB_PERIOD` (R446). -/
abbrev P.SCRUB_PERIOD : Nat := 0x300024
/-- `#30.0025 SCRUB_PROGRESS` (R446). -/
abbrev P.SCRUB_PROGRESS : Nat := 0x300025
/-- `#30.0030 DP_BUFFER/i` (R446). -/
abbrev P.DP_BUFFER : Nat := 0x300030
/-- `#30.0031 SOURCE_POOL` (R446). -/
abbrev P.SOURCE_POOL : Nat := 0x300031
/-- `#30.0040 ROW_THROTTLE/r` (R446). -/
abbrev P.ROW_THROTTLE : Nat := 0x300040
/-- `#30.0050 PASR_STATE` (R446). -/
abbrev P.PASR_STATE : Nat := 0x300050
/-- `#30.0051 STANDBY_EN` (R446). -/
abbrev P.STANDBY_EN : Nat := 0x300051
/-- `#30.0052 STANDBY_DELAY` (R446). -/
abbrev P.STANDBY_DELAY : Nat := 0x300052
/-- `#31.0001 CISTERN_MAP` (R447). -/
abbrev P.CISTERN_MAP : Nat := 0x310001
/-- `#31.0002 CISTERN_CE` (R447). -/
abbrev P.CISTERN_CE : Nat := 0x310002
/-- `#31.0003 CISTERN_UE` (R447). -/
abbrev P.CISTERN_UE : Nat := 0x310003
/-- `#31.0004 CISTERN_LAST_UE` (R447). -/
abbrev P.CISTERN_LAST_UE : Nat := 0x310004
/-- `#38.0001 COUNTER/c` (R507). -/
abbrev P.COUNTER : Nat := 0x380001
/-- `#38.0010 BW_SELECT/m` (R507). -/
abbrev P.BW_SELECT : Nat := 0x380010
/-- `#38.0011 BW_RESULT/m` (R507). -/
abbrev P.BW_RESULT : Nat := 0x380011
/-- `#38.0020 DUMP_PERIOD` (R507). -/
abbrev P.DUMP_PERIOD : Nat := 0x380020
/-- `#38.0021 DUMP_COUNTERS` (R507). -/
abbrev P.DUMP_COUNTERS : Nat := 0x380021
/-- `#38.0022 DUMP_MONITORS` (R507). -/
abbrev P.DUMP_MONITORS : Nat := 0x380022
/-- `#38.0023 DUMP_RING_SIZE` (R507). -/
abbrev P.DUMP_RING_SIZE : Nat := 0x380023
/-- `#38.0024 DUMP_MODE` (R507). -/
abbrev P.DUMP_MODE : Nat := 0x380024
/-- `#38.0025 DUMP_WRITE` (R507). -/
abbrev P.DUMP_WRITE : Nat := 0x380025
/-- `#38.0026 DUMP_READ` (R507). -/
abbrev P.DUMP_READ : Nat := 0x380026
/-- `#38.0027 DUMP_RING` (R507). -/
abbrev P.DUMP_RING : Nat := 0x380027
/-- `#38.0028 DUMP_LOST` (R507). -/
abbrev P.DUMP_LOST : Nat := 0x380028
/-- `#38.0040 COUNTER_FREEZE` (R507). -/
abbrev P.COUNTER_FREEZE : Nat := 0x380040
/-- `#38.0041 SNAPSHOT` (R507). -/
abbrev P.SNAPSHOT : Nat := 0x380041
/-- `#38.0042 SNAPSHOT_TICK` (R507). -/
abbrev P.SNAPSHOT_TICK : Nat := 0x380042
/-- `#38.0050 SAMPLE_PERIOD/s` (R507). -/
abbrev P.SAMPLE_PERIOD : Nat := 0x380050
/-- `#38.0051 SAMPLE_MODE` (R507). -/
abbrev P.SAMPLE_MODE : Nat := 0x380051
/-- `#38.0052 SAMPLE_BUFFER` (R507). -/
abbrev P.SAMPLE_BUFFER : Nat := 0x380052
/-- `#38.0053 SAMPLE_HEAD` (R507). -/
abbrev P.SAMPLE_HEAD : Nat := 0x380053
/-- `#38.0054 SAMPLE_CLEAR` (R507). -/
abbrev P.SAMPLE_CLEAR : Nat := 0x380054
/-- `#38.0055 SAMPLES_DROPPED` (R507). -/
abbrev P.SAMPLES_DROPPED : Nat := 0x380055

end Sys2Proof.Machine
end

