-- ==== Sys2Proof/Machine/ParamTypes.lean ====
section
/-! DEFINITION. The types of the object dictionary's table: value encodings (R83), access classes (R84), reset
levels (R63), ranges of a write (R538), and one row of the table. -/

namespace Sys2Proof.Machine

/-- The value encodings of R83.  `str n` and `blob n` carry their stated size in bytes. -/
inductive Ty where
  | bool | u8 | u16 | u24 | u32 | u64 | i8 | i16 | i32 | q15 | time80
  | str (n : Nat) | blob (n : Nat)
  deriving DecidableEq, Repr

/-- The access classes of R84; `woa` is WO that must be authenticated (R184). -/
inductive Acc where
  | ro | rw | rws | wo | rwa | rwsa | woa
  deriving DecidableEq, Repr

/-- The reset level a parameter returns at (R63); `none` for the dash of the tables. -/
inductive Lvl where
  | none | l0 | l1 | l2
  deriving DecidableEq, Repr

/-- Which values a scalar field accepts (R538). -/
inductive Rng where
  | any
  | le (hi : Nat)
  | btw (lo hi : Nat)
  | oneOf (vs : List Nat)
  /-- `w` reserved bits from bit `lo` upward are 0 (R12). -/
  | zero (lo w : Nat)
  | mul (k : Nat)
  /-- The field of `w` bits, read as two's complement, lies between the bounds. -/
  | sbtw (w : Nat) (lo hi : Int)
  /-- The field of `w` bits from bit `lo` upward is in the range. -/
  | fld (lo w : Nat) (r : Rng)
  | both (a b : Rng)
  | or (a b : Rng)
  deriving Repr

/-- Whether a value is in a range. -/
def Rng.ok : Rng → Nat → Bool
  | .any, _ => true
  | .le hi, v => v ≤ hi
  | .btw lo hi, v => lo ≤ v && v ≤ hi
  | .oneOf vs, v => vs.contains v
  | .zero lo w, v => field v lo w == 0
  | .mul k, v => v % k == 0
  | .sbtw w lo hi, v => lo ≤ signed w v && signed w v ≤ hi
  | .fld lo w r, v => r.ok (field v lo w)
  | .both a b, v => a.ok v && b.ok v
  | .or a b, v => a.ok v || b.ok v

/-- One row of the parameter table. -/
structure Param where
  /-- area × 65,536 + item -/
  id : Nat
  ty : Ty
  acc : Acc
  lvl : Lvl
  /-- an array parameter, written and read with an index -/
  arr : Bool
  /-- elements in the head role; 0: the head has no such parameter -/
  head : Nat
  /-- elements in the tile role; 0: the tile has no such parameter -/
  tile : Nat
  /-- default in the head; for a BLOB or STR the byte that fills it -/
  dflt : Nat
  /-- default in the tile -/
  dfltTile : Nat
  rng : Rng
  deriving Repr

/-- Bytes a scalar value of the type takes (R83); 0 for BLOB and STR, whose values vary. -/
def Ty.width : Ty → Nat
  | .bool => 1 | .u8 => 1 | .i8 => 1 | .u16 => 2 | .i16 => 2 | .q15 => 2 | .u24 => 3 | .u32 => 4 | .i32 => 4
  | .u64 => 8 | .time80 => 10 | .str _ => 0 | .blob _ => 0

/-- The type code an item carries (R89).  The table of R89 gives I8 no code; the model answers 2, that of the
other one-byte number (only `#30.0004 REFRESH_DEBT`, read-only, has the type). -/
def Ty.code : Ty → Nat
  | .bool => 1 | .u8 => 2 | .i8 => 2 | .u16 => 3 | .u24 => 4 | .u32 => 5 | .u64 => 6 | .i16 => 7 | .i32 => 8
  | .q15 => 9 | .time80 => 12 | .str _ => 13 | .blob _ => 14

/-- Whether a value is a byte string, and its stated size. -/
def Ty.size : Ty → Option Nat
  | .str n => some n
  | .blob n => some n
  | _ => none

end Sys2Proof.Machine
end

