-- ==== Sys2Proof/Machine/Params.lean ====
section
/-! DEFINITION. The parameter table of the object dictionary, area by area, as the chapters' tables give it:
parameter, type, access, reset level, array or not, elements in the head and in the tile (0: the role has none),
default in the head and in the tile (for a BLOB or STR the byte it is filled with), range of a write (R83, R538).
Defaults that no single number gives are in `Sys2Proof.Machine.dfltAt` and `blobDflt`. -/

namespace Sys2Proof.Machine

/-- The parameters of area 00. -/
def params00 : List Param := [
  ⟨0x000001, .u32, .ro, .none, false, 1, 1, 38016, 38016, .any⟩,
  ⟨0x000002, .u8, .ro, .none, false, 1, 1, 8, 8, .any⟩,
  ⟨0x000003, .u16, .ro, .none, false, 1, 1, 0, 0, .any⟩,
  ⟨0x000004, .u32, .ro, .l0, false, 1, 1, 0, 0, .any⟩,
  ⟨0x000005, .u16, .ro, .l0, false, 1, 1, 0, 0, .any⟩,
  ⟨0x000006, (.str 24), .ro, .none, false, 1, 1, 0, 0, .any⟩,
  ⟨0x000010, .u16, .rwsa, .none, false, 1, 1, 4094, 4094, .le 0xFFE⟩]

/-- The parameters of area 01. -/
def params01 : List Param := [
  ⟨0x010001, (.blob 64), .ro, .l0, false, 1, 1, 0, 0, .any⟩,
  ⟨0x010002, .u8, .ro, .l0, false, 1, 1, 0, 0, .any⟩,
  ⟨0x010003, .u8, .ro, .l0, false, 1, 1, 0, 0, .any⟩,
  ⟨0x010004, .u8, .ro, .l0, false, 1, 1, 0, 0, .any⟩,
  ⟨0x010005, .u8, .ro, .l0, false, 1, 1, 0, 0, .any⟩,
  ⟨0x010006, .u8, .ro, .l1, false, 1, 1, 0, 0, .any⟩,
  ⟨0x010008, (.blob 64), .rwa, .none, false, 1, 1, 255, 255, .any⟩,
  ⟨0x010020, .u64, .ro, .l0, false, 1, 1, 0, 0, .any⟩,
  ⟨0x010021, .u64, .ro, .l0, false, 1, 1, 0, 0, .any⟩]

/-- The parameters of area 02. -/
def params02 : List Param := [
  ⟨0x020001, .u16, .ro, .none, false, 1, 1, 0, 0, .any⟩,
  ⟨0x020002, .u32, .ro, .l2, true, 16, 16, 4294967295, 4294967295, .any⟩,
  ⟨0x020003, .u8, .ro, .none, false, 1, 1, 0, 0, .any⟩,
  ⟨0x020004, .u32, .ro, .l0, true, 3, 3, 0, 0, .any⟩,
  ⟨0x020005, .u8, .ro, .none, false, 1, 1, 0, 0, .any⟩,
  ⟨0x020006, .u8, .ro, .none, false, 1, 1, 0, 0, .any⟩,
  ⟨0x020010, .u8, .rwa, .none, false, 1, 1, 0, 0, .btw 1 2⟩]

/-- The parameters of area 03. -/
def params03 : List Param := [
  ⟨0x030001, .u8, .ro, .l0, false, 1, 1, 0, 0, .any⟩,
  ⟨0x030002, .u8, .ro, .l1, false, 1, 1, 0, 0, .any⟩,
  ⟨0x030003, .i16, .ro, .l0, false, 1, 1, 32768, 32768, .any⟩,
  ⟨0x030004, .u32, .ro, .l0, false, 1, 1, 0, 0, .any⟩,
  ⟨0x030010, .u32, .ro, .l0, true, 5, 5, 0, 0, .any⟩]

/-- The parameters of area 04. -/
def params04 : List Param := [
  ⟨0x040001, .i16, .ro, .l0, false, 1, 1, 32768, 32768, .any⟩,
  ⟨0x040002, .u8, .ro, .none, false, 1, 1, 0, 0, .any⟩,
  ⟨0x040003, .i16, .ro, .l0, false, 1, 1, 32768, 32768, .any⟩,
  ⟨0x040004, .i16, .ro, .none, false, 1, 1, 0, 0, .any⟩,
  ⟨0x040005, .bool, .ro, .l0, false, 1, 1, 0, 0, .any⟩,
  ⟨0x040011, .u16, .rws, .l0, false, 1, 1, 100, 100, .btw 10 10000⟩,
  ⟨0x040012, .u16, .rws, .l0, false, 1, 1, 200, 200, .both (.mul 4) (.le 4000)⟩,
  ⟨0x040020, .u32, .ro, .l0, true, 4, 4, 0, 0, .any⟩,
  ⟨0x040021, .u32, .ro, .l0, false, 1, 1, 0, 0, .any⟩,
  ⟨0x040022, .u32, .ro, .l0, true, 4, 4, 0, 0, .any⟩,
  ⟨0x040030, (.blob 16), .ro, .none, false, 1, 1, 0, 0, .any⟩]

/-- The parameters of area 05. -/
def params05 : List Param := [
  ⟨0x050001, .u32, .ro, .l0, false, 1, 1, 0, 0, .any⟩,
  ⟨0x050002, (.blob 131072), .ro, .l0, false, 1, 1, 0, 0, .any⟩,
  ⟨0x050003, .u32, .rws, .l0, false, 1, 1, 2147491839, 2147491839, .zero 13 17⟩,
  ⟨0x050004, .u16, .rw, .l1, false, 1, 1, 0, 0, .zero 13 3⟩,
  ⟨0x050005, .u32, .ro, .l1, false, 1, 1, 4294967295, 4294967295, .any⟩,
  ⟨0x050006, .u32, .wo, .none, false, 1, 1, 0, 0, .any⟩,
  ⟨0x050010, .u32, .ro, .l0, true, 640, 640, 0, 0, .any⟩,
  ⟨0x050020, .u8, .rws, .l0, false, 1, 1, 1, 1, .le 3⟩,
  ⟨0x050021, (.blob 16), .ro, .l1, false, 1, 1, 0, 0, .any⟩]

/-- The parameters of area 06. -/
def params06 : List Param := [
  ⟨0x060001, .u8, .ro, .none, false, 1, 1, 0, 0, .any⟩,
  ⟨0x060002, .u8, .rwa, .none, false, 1, 1, 0, 0, .any⟩,
  ⟨0x060003, (.blob 32), .ro, .none, false, 1, 1, 0, 0, .any⟩,
  ⟨0x060004, (.blob 32), .ro, .l0, false, 1, 1, 0, 0, .any⟩,
  ⟨0x060005, .u16, .ro, .none, false, 1, 1, 0, 0, .any⟩,
  ⟨0x060010, (.blob 56), .ro, .none, false, 1, 1, 0, 0, .any⟩,
  ⟨0x060011, (.blob 4096), .ro, .none, false, 1, 1, 0, 0, .any⟩,
  ⟨0x060012, .u32, .ro, .none, false, 1, 1, 0, 0, .any⟩,
  ⟨0x060013, .u32, .ro, .none, false, 1, 1, 0, 0, .any⟩,
  ⟨0x060014, (.blob 32), .wo, .none, false, 1, 1, 0, 0, .any⟩,
  ⟨0x060015, (.blob 2048), .ro, .l1, false, 1, 1, 0, 0, .any⟩,
  ⟨0x060020, .u64, .ro, .none, true, 8, 8, 0, 0, .any⟩,
  ⟨0x060021, (.blob 40), .wo, .none, false, 1, 1, 0, 0, .any⟩,
  ⟨0x060022, .u8, .wo, .none, false, 1, 1, 0, 0, .le 7⟩,
  ⟨0x060030, .u8, .wo, .none, false, 1, 1, 0, 0, .btw 1 1⟩,
  ⟨0x060031, .u8, .ro, .l0, false, 1, 1, 0, 0, .any⟩]

/-- The parameters of area 07. -/
def params07 : List Param := [
  ⟨0x070001, .u8, .ro, .none, false, 1, 1, 0, 0, .any⟩,
  ⟨0x070002, (.blob 32), .ro, .none, false, 1, 1, 0, 0, .any⟩,
  ⟨0x070003, (.blob 256), .ro, .none, false, 1, 1, 0, 0, .any⟩,
  ⟨0x070004, .u32, .ro, .none, false, 1, 1, 0, 0, .any⟩,
  ⟨0x070005, .u64, .ro, .none, false, 1, 1, 0, 0, .any⟩,
  ⟨0x070010, (.blob 3152), .rwa, .none, false, 1, 1, 0, 0, .any⟩,
  ⟨0x070011, (.blob 8388608), .rwa, .none, false, 1, 0, 0, 0, .any⟩,
  ⟨0x070012, .u8, .rwa, .none, false, 1, 1, 0, 0, .btw 1 1⟩,
  ⟨0x070020, .u8, .rwa, .none, false, 1, 1, 0, 0, .btw 1 1⟩,
  ⟨0x070021, .u8, .rwa, .none, false, 1, 1, 0, 0, .btw 1 1⟩,
  ⟨0x070022, .u16, .rws, .l0, false, 1, 1, 600, 600, .btw 30 3600⟩,
  ⟨0x070023, .u16, .rws, .l0, false, 1, 1, 32768, 32768, .any⟩,
  ⟨0x070024, .bool, .rws, .l0, false, 1, 1, 1, 1, .any⟩,
  ⟨0x070030, (.blob 16), .ro, .none, false, 1, 1, 0, 0, .any⟩]

/-- The parameters of area 08. -/
def params08 : List Param := [
  ⟨0x080001, .u8, .rws, .l0, false, 1, 1, 0, 4, .le 3⟩,
  ⟨0x080002, .u8, .rws, .l0, false, 1, 1, 8, 8, .le 14⟩,
  ⟨0x080003, .u8, .rws, .l0, false, 1, 1, 0, 0, .le 1⟩,
  ⟨0x080004, .u8, .rws, .l0, false, 1, 1, 127, 127, .le 127⟩,
  ⟨0x080005, .bool, .rws, .l0, false, 1, 1, 0, 0, .any⟩,
  ⟨0x080006, .u16, .rws, .l0, false, 1, 1, 32896, 32896, .any⟩,
  ⟨0x080007, .u32, .rws, .l0, false, 1, 1, 16711165, 16711165, .both (.zero 24 8) (.both (.fld 16 8 (.sbtw 8 (-3) 1)) (.both (.fld 8 8 (.sbtw 8 (-7) (-1))) (.fld 0 8 (.sbtw 8 (-7) (-1)))))⟩,
  ⟨0x080008, .u8, .rws, .l0, false, 1, 1, 0, 0, .le 1⟩,
  ⟨0x080009, .u32, .rws, .l0, false, 1, 1, 0, 0, .any⟩,
  ⟨0x08000A, .i32, .rws, .l0, false, 1, 1, 0, 0, .any⟩,
  ⟨0x080010, .u32, .rws, .l0, false, 1, 1, 46989373, 33554464, .any⟩,
  ⟨0x080011, .u16, .rws, .l0, false, 1, 1, 100, 10, .any⟩,
  ⟨0x080012, .u32, .rws, .l0, false, 1, 1, 1000000, 1000000, .any⟩,
  ⟨0x080013, .u8, .rws, .l0, false, 1, 1, 0, 0, .le 1⟩,
  ⟨0x080014, .u16, .rws, .l0, false, 1, 1, 100, 100, .btw 1 500⟩,
  ⟨0x080020, .time80, .ro, .l0, false, 1, 1, 0, 0, .any⟩,
  ⟨0x080021, .time80, .rwa, .l0, false, 1, 1, 0, 0, .any⟩,
  ⟨0x080022, .u8, .ro, .l1, false, 1, 1, 0, 0, .any⟩,
  ⟨0x080023, .i32, .ro, .l1, false, 1, 1, 0, 0, .any⟩,
  ⟨0x080024, .i32, .ro, .l1, false, 1, 1, 0, 0, .any⟩,
  ⟨0x080025, .u64, .ro, .l1, false, 1, 1, 0, 0, .any⟩,
  ⟨0x080026, .u8, .ro, .l1, false, 1, 1, 1, 1, .any⟩,
  ⟨0x080027, .u32, .ro, .l1, false, 1, 1, 0, 0, .any⟩,
  ⟨0x080028, .u32, .ro, .l1, false, 1, 1, 0, 0, .any⟩,
  ⟨0x080030, .u64, .ro, .l1, false, 1, 1, 0, 0, .any⟩,
  ⟨0x080040, .u8, .ro, .l1, false, 1, 1, 0, 0, .any⟩,
  ⟨0x080041, .u32, .ro, .l1, false, 1, 1, 0, 0, .any⟩,
  ⟨0x080042, .u32, .ro, .l1, false, 1, 1, 0, 0, .any⟩,
  ⟨0x080050, .u8, .rws, .l0, true, 8, 8, 0, 0, .zero 2 5⟩,
  ⟨0x080051, .time80, .rws, .l0, true, 8, 8, 0, 0, .any⟩,
  ⟨0x080052, .u64, .rws, .l0, true, 8, 8, 0, 0, .any⟩,
  ⟨0x080053, .u32, .rws, .l0, true, 8, 8, 0, 0, .any⟩,
  ⟨0x080054, .i32, .rws, .l0, true, 8, 8, 0, 0, .any⟩,
  ⟨0x080060, .u8, .ro, .l1, false, 0, 1, 0, 0, .any⟩,
  ⟨0x080061, .u16, .rws, .l0, false, 0, 1, 20, 20, .any⟩,
  ⟨0x080062, .i32, .ro, .l1, true, 0, 2, 0, 0, .any⟩]

/-- The parameters of area 09. -/
def params09 : List Param := [
  ⟨0x090001, .u64, .ro, .none, false, 1, 1, 0, 0, .any⟩,
  ⟨0x090002, .u16, .ro, .l1, false, 1, 1, 0, 0, .any⟩,
  ⟨0x090003, .u8, .rws, .l0, false, 1, 1, 3, 3, .zero 2 6⟩,
  ⟨0x090004, .u8, .rws, .l0, false, 1, 1, 0, 0, .le 31⟩,
  ⟨0x090005, .u16, .rws, .l0, false, 1, 1, 0, 0, .or (.fld 12 1 (.le 0)) (.fld 0 12 (.btw 1 4094))⟩,
  ⟨0x090006, .u32, .rws, .l0, false, 1, 1, 0, 0, .any⟩,
  ⟨0x090007, .u32, .rws, .l0, false, 1, 1, 4294967040, 4294967040, .any⟩,
  ⟨0x090008, .u32, .rws, .l0, false, 1, 1, 0, 0, .any⟩,
  ⟨0x090009, .u8, .rws, .l0, false, 1, 1, 1, 1, .le 2⟩,
  ⟨0x09000A, .u32, .ro, .l1, false, 1, 1, 0, 0, .any⟩,
  ⟨0x090010, .u8, .rws, .l0, false, 1, 1, 1, 1, .le 1⟩,
  ⟨0x090011, .u16, .rws, .l0, false, 1, 1, 5000, 5000, .any⟩,
  ⟨0x090012, .u8, .rws, .l0, false, 1, 1, 1, 1, .le 1⟩,
  ⟨0x090013, .u16, .rws, .l0, false, 1, 1, 50, 50, .btw 10 10000⟩,
  ⟨0x090014, .u32, .ro, .l1, false, 1, 1, 0, 0, .any⟩,
  ⟨0x090015, .bool, .rws, .l0, false, 1, 1, 1, 1, .any⟩,
  ⟨0x090016, .u16, .rws, .l0, false, 1, 1, 60, 60, .btw 10 3600⟩,
  ⟨0x090017, .bool, .rws, .l0, false, 1, 1, 0, 0, .any⟩,
  ⟨0x090018, .u8, .rw, .l1, false, 1, 1, 0, 0, .le 8⟩,
  ⟨0x090030, .u32, .ro, .l1, true, 19, 19, 0, 0, .any⟩]

/-- The parameters of area 0A. -/
def params0A : List Param := [
  ⟨0x0A0001, .u8, .rws, .l0, false, 1, 0, 0, 0, .any⟩,
  ⟨0x0A0002, .u8, .rws, .l0, false, 1, 0, 0, 0, .any⟩,
  ⟨0x0A0003, (.blob 12), .rws, .l0, true, 8, 0, 0, 0, .any⟩,
  ⟨0x0A0004, .u64, .rws, .l0, true, 8, 0, 549757913088, 549757913088, .both (.zero 40 23) (.both (.fld 16 8 (.btw 1 255)) (.both (.fld 8 8 (.btw 1 255)) (.fld 0 8 (.le 254))))⟩,
  ⟨0x0A0005, .u8, .ro, .l1, true, 8, 0, 0, 0, .any⟩,
  ⟨0x0A0006, .u8, .rw, .l1, true, 8, 0, 0, 0, .le 8⟩,
  ⟨0x0A0010, .u32, .ro, .l1, true, 128, 0, 0, 0, .any⟩]

/-- The parameters of area 0B. -/
def params0B : List Param := [
  ⟨0x0B0001, .u16, .rws, .l0, false, 1, 0, 0, 0, .any⟩,
  ⟨0x0B0002, .u32, .rws, .l0, true, 16, 0, 11538432, 11538432, .both (.fld 16 16 (.btw 92 1000)) (.both (.fld 8 8 (.btw 12 255)) (.zero 0 8))⟩,
  ⟨0x0B0003, .u8, .ro, .l2, true, 16, 0, 0, 0, .any⟩,
  ⟨0x0B0004, .u32, .ro, .l2, true, 16, 0, 0, 0, .any⟩,
  ⟨0x0B0011, (.blob 260), .wo, .l2, true, 16, 0, 0, 0, .any⟩,
  ⟨0x0B0012, (.blob 264), .ro, .l2, true, 16, 0, 0, 0, .any⟩,
  ⟨0x0B0013, .u32, .ro, .l2, true, 16, 0, 0, 0, .any⟩]

/-- The parameters of area 0C. -/
def params0C : List Param := [
  ⟨0x0C0002, .u16, .rws, .l0, false, 1, 0, 1500, 1500, .btw 100 16000⟩,
  ⟨0x0C0003, (.blob 16), .rws, .l0, false, 1, 0, 0, 0, .any⟩,
  ⟨0x0C0004, (.str 64), .rws, .l0, false, 1, 0, 0, 0, .any⟩,
  ⟨0x0C0005, .u16, .rws, .l0, false, 1, 0, 0, 0, .le 63999⟩,
  ⟨0x0C0006, .u32, .rws, .l0, false, 1, 0, 2000000, 2000000, .btw 100000 4294967295⟩,
  ⟨0x0C0007, .i32, .rws, .l0, false, 1, 0, 0, 0, .mul 4⟩,
  ⟨0x0C0008, .u32, .rws, .l0, false, 1, 0, 100000, 100000, .any⟩,
  ⟨0x0C0009, .u8, .rws, .l0, false, 1, 0, 60, 60, .btw 10 90⟩,
  ⟨0x0C0010, (.blob 2097152), .rw, .none, false, 1, 0, 0, 0, .any⟩,
  ⟨0x0C0011, .u32, .wo, .none, false, 1, 0, 0, 0, .any⟩,
  ⟨0x0C0012, .u8, .rws, .l0, false, 1, 0, 0, 0, .le 1⟩,
  ⟨0x0C0013, .u32, .ro, .l1, false, 1, 0, 0, 0, .any⟩,
  ⟨0x0C0014, .u16, .ro, .l2, false, 1, 0, 0, 0, .any⟩,
  ⟨0x0C0015, .u16, .ro, .l2, true, 9, 0, 0, 0, .any⟩,
  ⟨0x0C0016, .u32, .ro, .l2, false, 1, 0, 0, 0, .any⟩,
  ⟨0x0C0017, .u32, .ro, .l2, true, 9, 0, 0, 0, .any⟩,
  ⟨0x0C0018, (.blob 32896), .rws, .l0, false, 1, 0, 0, 0, .any⟩,
  ⟨0x0C0020, (.blob 32768), .rws, .l0, false, 1, 0, 0, 0, .any⟩]

/-- The parameters of area 0E. -/
def params0E : List Param := [
  ⟨0x0E0001, .u8, .ro, .l1, false, 1, 1, 0, 0, .any⟩,
  ⟨0x0E0002, .u64, .wo, .l2, false, 1, 1, 0, 0, .zero 48 16⟩,
  ⟨0x0E0003, .u64, .ro, .l1, false, 1, 1, 0, 0, .any⟩,
  ⟨0x0E0004, .u16, .ro, .l1, false, 1, 1, 0, 0, .any⟩,
  ⟨0x0E0005, .u64, .ro, .l1, true, 8, 8, 0, 0, .any⟩,
  ⟨0x0E0006, .u32, .ro, .l1, false, 1, 1, 0, 0, .any⟩,
  ⟨0x0E0010, (.blob 24), .ro, .l0, false, 1, 1, 0, 0, .any⟩,
  ⟨0x0E0011, .u32, .ro, .l0, false, 1, 1, 0, 0, .any⟩,
  ⟨0x0E0012, .u16, .rws, .l0, false, 1, 1, 5000, 5000, .btw 1000 60000⟩,
  ⟨0x0E0013, .u32, .ro, .l0, false, 1, 1, 0, 0, .any⟩,
  ⟨0x0E0020, .u16, .rwsa, .l0, false, 1, 1, 49400, 49400, .btw 1024 65535⟩,
  ⟨0x0E0021, .u8, .rwsa, .l0, false, 1, 1, 0, 0, .any⟩,
  ⟨0x0E0030, .u64, .ro, .none, true, 8, 8, 0, 0, .any⟩,
  ⟨0x0E0040, .u32, .ro, .l1, false, 1, 1, 0, 0, .any⟩]

/-- The parameters of area 10. -/
def params10 : List Param := [
  ⟨0x100001, .u8, .rws, .l0, true, 32, 32, 0, 0, .or (.oneOf [0, 0x40, 0x50]) (.or (.btw 0x10 0x2F) (.btw 0x30 0x33))⟩,
  ⟨0x100002, .u16, .rwa, .none, false, 1, 1, 256, 256, .both (.zero 13 3) (.zero 5 3)⟩,
  ⟨0x100003, .u8, .rws, .l0, true, 32, 32, 0, 3, .le 3⟩,
  ⟨0x100004, .u24, .rws, .l0, true, 32, 32, 9026, 9026, .zero 15 9⟩,
  ⟨0x100005, .u8, .rws, .l0, true, 32, 32, 4, 4, .zero 3 5⟩,
  ⟨0x100006, .u8, .rws, .l0, true, 32, 32, 0, 0, .le 1⟩,
  ⟨0x100010, .u8, .ro, .l1, true, 32, 32, 0, 0, .any⟩,
  ⟨0x100011, .u8, .ro, .l1, true, 32, 32, 255, 255, .any⟩,
  ⟨0x100012, (.blob 8), .ro, .l1, true, 32, 32, 0, 0, .any⟩,
  ⟨0x100013, .u32, .ro, .l1, true, 32, 32, 0, 0, .any⟩,
  ⟨0x100014, .u32, .ro, .l1, true, 32, 32, 0, 0, .any⟩,
  ⟨0x100015, .u32, .ro, .l1, true, 32, 32, 0, 0, .any⟩,
  ⟨0x100020, .u32, .rw, .l1, false, 1, 1, 4194304, 4194304, .both (.zero 24 7) (.zero 5 15)⟩,
  ⟨0x100021, .u32, .ro, .l1, false, 1, 1, 0, 0, .any⟩,
  ⟨0x100022, (.blob 16384), .ro, .l1, false, 1, 1, 0, 0, .any⟩,
  ⟨0x100023, .u16, .ro, .l1, true, 32, 32, 0, 0, .any⟩,
  ⟨0x100024, .u16, .rws, .l0, false, 1, 1, 2080, 2080, .any⟩,
  ⟨0x100025, .u32, .rws, .l0, false, 1, 1, 10, 10, .any⟩,
  ⟨0x100030, .u8, .rwa, .l1, true, 32, 32, 0, 0, .both (.zero 4 4) (.fld 0 3 (.le 5))⟩,
  ⟨0x100031, .u8, .rw, .l1, true, 32, 32, 0, 0, .both (.zero 4 4) (.fld 0 3 (.le 5))⟩,
  ⟨0x100032, .u64, .rw, .l1, false, 1, 1, 0, 0, .zero 40 24⟩,
  ⟨0x100033, .u64, .ro, .l1, true, 32, 32, 0, 0, .any⟩,
  ⟨0x100034, .u32, .ro, .l1, true, 32, 32, 0, 0, .any⟩,
  ⟨0x100035, .bool, .ro, .l1, true, 32, 32, 0, 0, .any⟩,
  ⟨0x100036, .u8, .rwa, .l1, true, 32, 32, 0, 0, .btw 1 64⟩]

/-- The parameters of area 11. -/
def params11 : List Param := [
  ⟨0x110002, .u16, .rws, .l0, false, 1, 1, 2048, 2048, .btw 1500 16384⟩,
  ⟨0x110003, .u32, .rws, .l0, false, 1, 0, 16384, 16384, .any⟩,
  ⟨0x110004, .u32, .rws, .l0, false, 1, 0, 40000, 40000, .any⟩,
  ⟨0x110010, .u8, .ro, .l1, true, 0, 2, 0, 0, .any⟩,
  ⟨0x110011, .u64, .ro, .l1, true, 0, 2, 0, 0, .any⟩,
  ⟨0x110012, .u32, .ro, .l1, true, 16, 2, 0, 0, .any⟩,
  ⟨0x110013, .i16, .rws, .l0, true, 16, 2, 0, 0, .any⟩,
  ⟨0x110014, .u32, .ro, .l1, false, 0, 1, 0, 0, .any⟩,
  ⟨0x110015, (.blob 8), .ro, .l1, true, 16, 2, 0, 0, .any⟩,
  ⟨0x110020, .u16, .ro, .l1, true, 16, 0, 0, 0, .any⟩,
  ⟨0x110021, .u64, .ro, .l1, true, 16, 0, 0, 0, .any⟩,
  ⟨0x110030, .u32, .ro, .l1, true, 16, 2, 0, 0, .any⟩,
  ⟨0x110031, .u32, .ro, .l1, true, 16, 2, 0, 0, .any⟩,
  ⟨0x110032, .u32, .ro, .l1, true, 16, 2, 0, 0, .any⟩,
  ⟨0x110033, .u32, .ro, .l1, true, 0, 3, 0, 0, .any⟩,
  ⟨0x110034, .u32, .ro, .l1, true, 16, 0, 0, 0, .any⟩]

/-- The parameters of area 12. -/
def params12 : List Param := [
  ⟨0x120001, .u8, .rws, .l0, false, 1, 1, 0, 0, .le 1⟩,
  ⟨0x120002, .u16, .rws, .l0, false, 1, 0, 4094, 4094, .zero 12 4⟩,
  ⟨0x120003, (.blob 16), .rws, .l0, false, 1, 0, 0, 0, .any⟩,
  ⟨0x120010, .u16, .rws, .l0, false, 1, 1, 0, 0, .le 10000⟩,
  ⟨0x120011, .u8, .rws, .l0, false, 1, 1, 2, 2, .btw 2 16⟩,
  ⟨0x120012, .u8, .rws, .l0, false, 1, 1, 8, 8, .btw 1 255⟩,
  ⟨0x120013, .bool, .rwsa, .none, false, 1, 1, 0, 0, .any⟩,
  ⟨0x120020, .u8, .rwsa, .l2, false, 1, 1, 0, 0, .btw 1 1⟩,
  ⟨0x120021, .u32, .ro, .l0, false, 1, 1, 0, 0, .any⟩,
  ⟨0x120022, .u32, .ro, .none, false, 1, 1, 0, 0, .any⟩,
  ⟨0x120023, .u32, .woa, .none, false, 0, 1, 0, 0, .any⟩,
  ⟨0x120030, .u8, .ro, .l1, false, 1, 1, 0, 0, .any⟩,
  ⟨0x120031, .u8, .ro, .l1, false, 1, 1, 0, 0, .any⟩,
  ⟨0x120032, (.blob 32), .ro, .l1, false, 1, 1, 0, 0, .any⟩,
  ⟨0x120033, (.blob 32), .ro, .l1, false, 1, 1, 0, 0, .any⟩,
  ⟨0x120034, .u64, .ro, .l1, false, 1, 1, 0, 0, .any⟩,
  ⟨0x120040, (.blob 16), .ro, .l0, false, 1, 1, 0, 0, .any⟩,
  ⟨0x120041, .u32, .ro, .l1, false, 1, 1, 0, 0, .any⟩,
  ⟨0x120042, .u8, .rws, .l0, false, 0, 1, 0, 0, .le 1⟩,
  ⟨0x120043, .u8, .rws, .l0, false, 0, 1, 3, 3, .btw 1 16⟩,
  ⟨0x120044, .u32, .ro, .l2, false, 0, 1, 4000, 4000, .any⟩]

/-- The parameters of area 18. -/
def params18 : List Param := [
  ⟨0x180001, .bool, .rws, .l0, true, 4, 0, 0, 0, .any⟩,
  ⟨0x180002, .u8, .rws, .l0, true, 4, 0, 3, 3, .le 3⟩,
  ⟨0x180003, .u8, .rws, .l0, true, 4, 0, 0, 0, .le 1⟩,
  ⟨0x180004, .u32, .ro, .l1, true, 16, 0, 0, 0, .any⟩,
  ⟨0x180010, (.blob 512), .rws, .l0, true, 4, 0, 0, 0, .any⟩,
  ⟨0x180020, .u32, .ro, .l1, true, 4, 0, 240, 240, .any⟩,
  ⟨0x180021, (.blob 32), .ro, .l1, true, 4, 0, 0, 0, .any⟩]

/-- The parameters of area 20. -/
def params20 : List Param := [
  ⟨0x200001, .u8, .rws, .l0, true, 16, 0, 0, 0, .or (.fld 4 4 (.oneOf [0, 2, 3, 4])) (.btw 0x10 0x13)⟩,
  ⟨0x200002, .u8, .rws, .l0, true, 16, 0, 8, 8, .le 8⟩,
  ⟨0x200003, .u8, .rws, .l0, true, 16, 0, 0, 0, .any⟩,
  ⟨0x200004, .u16, .rws, .l0, true, 16, 0, 4, 4, .any⟩,
  ⟨0x200005, .u8, .rws, .l0, true, 16, 0, 1, 1, .le 2⟩,
  ⟨0x200006, (.blob 12), .rws, .l0, true, 16, 0, 0, 0, .any⟩,
  ⟨0x200007, .u32, .ro, .l2, true, 16, 0, 0, 0, .any⟩,
  ⟨0x200008, .u64, .ro, .l2, true, 16, 0, 0, 0, .any⟩,
  ⟨0x200009, (.blob 12), .rws, .l0, true, 16, 0, 0, 0, .any⟩,
  ⟨0x200020, .u8, .rws, .l0, true, 8, 0, 0, 0, .le 1⟩,
  ⟨0x200021, .u32, .ro, .l2, true, 8, 0, 0, 0, .any⟩,
  ⟨0x200030, .u64, .rws, .l0, true, 16, 0, 0, 0, .or (.le 0) (.both (.zero 40 24) (.both (.fld 36 4 (.btw 2 4)) (.both (.fld 32 4 (.le 3)) (.both (.fld 16 16 (.btw 16 8192)) (.fld 0 16 (.btw 16 16384))))))⟩,
  ⟨0x200031, .u64, .ro, .l2, true, 16, 0, 0, 0, .any⟩,
  ⟨0x200032, .time80, .ro, .l2, true, 16, 0, 0, 0, .any⟩,
  ⟨0x200033, .u8, .ro, .l2, true, 16, 0, 0, 0, .any⟩,
  ⟨0x200034, .u32, .ro, .l2, true, 16, 0, 0, 0, .any⟩,
  ⟨0x200035, .u32, .ro, .l2, true, 16, 0, 0, 0, .any⟩,
  ⟨0x200040, .u8, .rws, .l0, true, 16, 0, 255, 255, .or (.le 15) (.btw 255 255)⟩,
  ⟨0x200041, .u16, .rws, .l0, true, 16, 0, 4095, 4095, .zero 12 4⟩,
  ⟨0x200050, .u64, .rws, .l0, true, 16, 0, 0, 0, .or (.le 0) (.both (.zero 40 24) (.both (.fld 32 4 (.le 3)) (.both (.fld 16 16 (.btw 16 8192)) (.fld 0 16 (.btw 16 16384)))))⟩,
  ⟨0x200051, (.blob 134217728), .rw, .l0, true, 16, 0, 0, 0, .any⟩,
  ⟨0x200052, .u32, .wo, .l0, true, 16, 0, 0, 0, .any⟩,
  ⟨0x200053, .u32, .ro, .l0, true, 16, 0, 0, 0, .any⟩,
  ⟨0x200060, .u32, .ro, .l2, true, 4, 0, 0, 0, .any⟩]

/-- The parameters of area 21. -/
def params21 : List Param := [
  ⟨0x210001, .u16, .rws, .l0, false, 1, 0, 1500, 1500, .btw 100 16000⟩,
  ⟨0x210002, .u16, .rws, .l0, false, 1, 0, 50, 50, .le 5000⟩,
  ⟨0x210003, .u16, .rws, .l0, false, 1, 0, 203, 203, .btw 48 10000⟩,
  ⟨0x210004, .u16, .rws, .l0, false, 1, 0, 1000, 1000, .btw 400 10000⟩,
  ⟨0x210005, (.blob 2048), .rws, .l0, false, 1, 0, 0, 0, .any⟩,
  ⟨0x210006, .u8, .rws, .l0, false, 1, 0, 70, 70, .btw 50 95⟩,
  ⟨0x210007, .u16, .rws, .l0, false, 1, 0, 256, 256, .any⟩,
  ⟨0x210008, (.blob 12), .rws, .l0, false, 1, 0, 0, 0, .any⟩,
  ⟨0x210010, .u64, .rws, .l0, true, 16, 0, 0, 0, .any⟩,
  ⟨0x210011, .u64, .rws, .l0, true, 16, 0, 0, 0, .any⟩,
  ⟨0x210012, .u32, .rws, .l0, true, 16, 0, 4294901760, 4294901760, .both (.zero 2 14) (.fld 0 2 (.le 2))⟩,
  ⟨0x210013, .u8, .rws, .l0, true, 16, 0, 129, 129, .both (.fld 4 2 (.le 1)) (.fld 0 4 (.btw 1 3))⟩,
  ⟨0x210014, .u8, .rws, .l0, true, 16, 0, 3, 3, .zero 2 6⟩,
  ⟨0x210015, .u8, .rws, .l0, true, 16, 0, 6, 6, .both (.zero 6 2) (.both (.zero 3 1) (.fld 0 3 (.btw 1 6)))⟩,
  ⟨0x210016, .bool, .rws, .l0, true, 16, 0, 1, 1, .any⟩,
  ⟨0x210017, .u8, .rws, .l0, true, 16, 0, 0, 0, .le 15⟩,
  ⟨0x210018, .u32, .ro, .l2, true, 16, 0, 0, 0, .any⟩,
  ⟨0x210020, (.blob 1792), .rws, .l0, true, 4, 0, 0, 0, .any⟩,
  ⟨0x210021, .u64, .ro, .l2, false, 1, 0, 18446744073709551615, 18446744073709551615, .any⟩,
  ⟨0x210030, .u8, .rws, .l0, false, 1, 0, 0, 0, .le 2⟩,
  ⟨0x210031, .u8, .rws, .l0, false, 1, 0, 8, 8, .btw 1 255⟩,
  ⟨0x210040, .u16, .rws, .l0, false, 1, 0, 1740, 1740, .btw 500 2048⟩,
  ⟨0x210041, .u8, .rws, .l0, false, 1, 0, 100, 100, .btw 50 100⟩,
  ⟨0x210042, .u16, .rws, .l0, false, 1, 0, 10, 10, .any⟩,
  ⟨0x210043, .u32, .rws, .l0, true, 4, 0, 530842, 530842, .any⟩,
  ⟨0x210044, (.blob 24), .ro, .l2, false, 1, 0, 0, 0, .any⟩,
  ⟨0x210050, .u8, .rws, .l0, false, 1, 0, 0, 0, .le 2⟩,
  ⟨0x210051, .u16, .rws, .l0, false, 1, 0, 0, 0, .any⟩,
  ⟨0x210052, .u16, .rws, .l0, false, 1, 0, 64, 64, .le 256⟩,
  ⟨0x210060, .u16, .ro, .l2, false, 1, 0, 0, 0, .any⟩,
  ⟨0x210061, .u16, .ro, .l2, false, 1, 0, 0, 0, .any⟩,
  ⟨0x210062, .u32, .ro, .l2, false, 1, 0, 0, 0, .any⟩,
  ⟨0x210063, .u32, .ro, .l2, false, 1, 0, 0, 0, .any⟩]

/-- The parameters of area 22. -/
def params22 : List Param := [
  ⟨0x220002, .u32, .rws, .l0, false, 1, 1, 0, 0, .mul 4⟩,
  ⟨0x220010, .u16, .rws, .l0, false, 1, 0, 0, 0, .any⟩,
  ⟨0x220011, .u16, .rws, .l0, false, 1, 0, 0, 0, .le 4096⟩,
  ⟨0x220012, .u8, .rws, .l0, false, 1, 0, 0, 0, .both (.fld 4 4 (.le 1)) (.fld 0 4 (.le 2))⟩,
  ⟨0x220013, (.blob 16384), .rws, .l0, false, 1, 0, 0, 0, .any⟩,
  ⟨0x220020, (.blob 16), .rws, .l0, true, 1024, 0, 0, 0, .any⟩,
  ⟨0x220021, .u8, .ro, .l2, true, 16, 0, 0, 0, .any⟩,
  ⟨0x220030, .u8, .rws, .l0, false, 1, 0, 95, 95, .btw 50 100⟩,
  ⟨0x220031, .u16, .rws, .l0, false, 1, 0, 4000, 4000, .btw 500 50000⟩,
  ⟨0x220032, .u32, .ro, .l2, true, 16, 0, 0, 0, .any⟩,
  ⟨0x220033, .i32, .ro, .l2, true, 16, 0, 0, 0, .any⟩,
  ⟨0x220034, .u32, .ro, .l2, true, 16, 0, 0, 0, .any⟩,
  ⟨0x220035, .u32, .ro, .l2, true, 16, 0, 0, 0, .any⟩,
  ⟨0x220040, .u32, .rws, .l0, false, 1, 0, 10000, 10000, .btw 2000 100000⟩,
  ⟨0x220041, .u8, .ro, .l2, false, 1, 0, 0, 0, .any⟩,
  ⟨0x220042, .u8, .rws, .l0, false, 1, 0, 8, 8, .btw 1 255⟩,
  ⟨0x220043, .u64, .ro, .l2, false, 1, 0, 0, 0, .any⟩,
  ⟨0x220044, .u8, .ro, .l2, false, 1, 0, 0, 0, .any⟩]

/-- The parameters of area 28. -/
def params28 : List Param := [
  ⟨0x280001, .u32, .rws, .l0, false, 0, 1, 0, 0, .both (.fld 16 16 (.le 4096)) (.fld 0 16 (.le 4096))⟩,
  ⟨0x280002, .u8, .rws, .l0, false, 0, 1, 0, 0, .both (.fld 4 4 (.le 1)) (.fld 0 4 (.le 2))⟩,
  ⟨0x280003, .u16, .rws, .l0, false, 0, 1, 58371, 58371, .zero 3 5⟩,
  ⟨0x280004, .u16, .rws, .l0, false, 0, 1, 1500, 1500, .btw 100 16000⟩,
  ⟨0x280005, (.blob 16384), .rws, .l0, false, 0, 1, 0, 0, .any⟩,
  ⟨0x280006, (.blob 16448), .rws, .l0, false, 0, 1, 0, 0, .any⟩,
  ⟨0x280007, .bool, .rws, .l0, false, 0, 1, 1, 1, .any⟩,
  ⟨0x280010, (.blob 8388608), .rw, .none, false, 0, 1, 0, 0, .any⟩,
  ⟨0x280011, .u32, .wo, .none, false, 0, 1, 0, 0, .any⟩,
  ⟨0x280012, .u8, .rws, .l0, false, 0, 1, 0, 0, .le 1⟩,
  ⟨0x280013, .u32, .ro, .l1, false, 0, 1, 0, 0, .any⟩,
  ⟨0x280014, .u32, .ro, .l1, true, 0, 2, 0, 0, .any⟩,
  ⟨0x280020, .u64, .rws, .l0, true, 0, 16, 0, 0, .any⟩,
  ⟨0x280021, .u16, .rws, .l0, true, 0, 16, 0, 0, .any⟩,
  ⟨0x280022, .i16, .ro, .l2, true, 0, 16, 32768, 32768, .any⟩,
  ⟨0x280023, .i16, .ro, .l2, true, 0, 16, 32768, 32768, .any⟩,
  ⟨0x280024, .i16, .rws, .l0, true, 0, 16, 0, 0, .any⟩,
  ⟨0x280025, .u16, .rws, .l0, false, 0, 1, 2000, 2000, .btw 100 10000⟩,
  ⟨0x280030, (.blob 360), .rws, .l0, true, 0, 4, 0, 0, .any⟩,
  ⟨0x280031, .i16, .rws, .l0, false, 0, 1, 400, 400, .sbtw 16 (-640) 1680⟩,
  ⟨0x280032, .u16, .rws, .l0, false, 0, 1, 40, 40, .btw 1 819⟩,
  ⟨0x280033, .u8, .rws, .l0, false, 0, 1, 0, 0, .le 2⟩,
  ⟨0x280034, (.blob 20), .ro, .l2, true, 0, 16, 0, 0, .any⟩,
  ⟨0x280035, (.blob 20), .ro, .l1, true, 0, 16, 0, 0, .any⟩,
  ⟨0x280040, .u8, .rws, .l0, false, 0, 1, 0, 0, .le 2⟩,
  ⟨0x280041, (.blob 66), .rws, .l0, true, 0, 4, 0, 0, .any⟩,
  ⟨0x280042, .u16, .rws, .l0, false, 0, 1, 20480, 20480, .btw 16384 28672⟩,
  ⟨0x280043, .u16, .rws, .l0, false, 0, 1, 32768, 32768, .btw 16384 32768⟩,
  ⟨0x280044, (.blob 4194304), .ro, .none, false, 0, 1, 0, 0, .any⟩,
  ⟨0x280045, (.blob 4194304), .rwa, .l1, false, 0, 1, 0, 0, .any⟩,
  ⟨0x280046, .u64, .rwsa, .l2, false, 0, 1, 0, 0, .both (.fld 56 8 (.btw 1 2)) (.both (.zero 53 3) (.zero 21 11))⟩,
  ⟨0x280047, .u8, .rwa, .none, false, 0, 1, 12, 12, .btw 2 64⟩,
  ⟨0x280048, (.blob 16), .ro, .l1, false, 0, 1, 0, 0, .any⟩,
  ⟨0x280050, .u16, .ro, .l2, false, 0, 1, 0, 0, .any⟩,
  ⟨0x280051, .u32, .ro, .l2, false, 0, 1, 0, 0, .any⟩]

/-- The parameters of area 29. -/
def params29 : List Param := [
  ⟨0x290001, .u32, .rws, .l0, false, 0, 1, 0, 0, .any⟩,
  ⟨0x290002, .u8, .rws, .l0, false, 0, 1, 16, 16, .oneOf [1, 2, 4, 8, 16, 32, 64, 128]⟩,
  ⟨0x290003, .u16, .rws, .l0, false, 0, 1, 400, 400, .both (.btw 40 10000) (.mul 4)⟩,
  ⟨0x290004, .u8, .rws, .l0, false, 0, 1, 1, 1, .oneOf [1, 2, 4, 8, 16, 32]⟩,
  ⟨0x290005, .u8, .rws, .l0, true, 0, 4, 0, 0, .le 31⟩,
  ⟨0x290010, .u32, .rws, .l0, true, 0, 8, 268697856, 268697856, .both (.zero 29 3) (.both (.fld 24 5 (.btw 8 16)) (.both (.fld 16 8 (.btw 4 250)) (.both (.fld 8 8 (.btw 1 32)) (.both (.zero 2 6) (.fld 0 2 (.le 2))))))⟩,
  ⟨0x290011, .u32, .rws, .l0, true, 0, 8, 50000, 50000, .both (.btw 1000 100000) (.mul 10)⟩,
  ⟨0x290012, .u16, .rws, .l0, true, 0, 8, 400, 400, .both (.btw 8 65532) (.mul 4)⟩,
  ⟨0x290013, .u16, .ro, .l2, true, 0, 8, 0, 0, .any⟩,
  ⟨0x290014, .u32, .ro, .l2, true, 0, 8, 0, 0, .any⟩,
  ⟨0x290020, .u32, .rws, .l0, true, 0, 32, 17424, 17424, .both (.zero 21 11) (.both (.zero 15 1) (.both (.fld 12 3 (.le 4)) (.both (.zero 11 1) (.both (.fld 8 3 (.btw 1 4)) (.both (.zero 7 1) (.fld 0 7 (.btw 1 64)))))))⟩,
  ⟨0x290030, (.blob 16777216), .rw, .none, false, 0, 1, 0, 0, .any⟩,
  ⟨0x290031, .u32, .wo, .none, false, 0, 1, 0, 0, .any⟩,
  ⟨0x290032, .u8, .rws, .l0, false, 0, 1, 0, 0, .le 1⟩,
  ⟨0x290033, .u32, .ro, .l1, false, 0, 1, 0, 0, .any⟩,
  ⟨0x290040, .u8, .rws, .l0, true, 0, 8, 0, 0, .le 4⟩,
  ⟨0x290041, .u16, .rws, .l0, true, 0, 8, 10, 10, .btw 10 1250⟩,
  ⟨0x290042, .u32, .ro, .l1, true, 0, 8, 0, 0, .any⟩,
  ⟨0x290050, .u32, .rws, .l0, true, 0, 16, 0, 0, .both (.zero 27 4) (.both (.zero 23 1) (.zero 2 6))⟩,
  ⟨0x290051, .u16, .rws, .l0, false, 0, 1, 250, 250, .btw 10 5000⟩,
  ⟨0x290060, .u8, .ro, .l2, true, 0, 32, 0, 0, .any⟩,
  ⟨0x290061, .i32, .ro, .l2, true, 0, 8, 0, 0, .any⟩,
  ⟨0x290062, .u16, .ro, .l2, true, 0, 8, 0, 0, .any⟩,
  ⟨0x290063, .u32, .ro, .l2, false, 0, 1, 0, 0, .any⟩]

/-- The parameters of area 2A. -/
def params2A : List Param := [
  ⟨0x2A0001, .u8, .rws, .l0, true, 0, 8, 255, 255, .or (.le 7) (.btw 255 255)⟩,
  ⟨0x2A0010, (.blob 20544), .rw, .none, true, 0, 8, 0, 0, .any⟩,
  ⟨0x2A0011, .u32, .wo, .none, true, 0, 8, 0, 0, .any⟩,
  ⟨0x2A0012, .u32, .ro, .l1, true, 0, 8, 0, 0, .any⟩,
  ⟨0x2A0013, .u32, .ro, .l1, true, 0, 8, 0, 0, .any⟩,
  ⟨0x2A0020, .u32, .ro, .l2, true, 0, 8, 0, 0, .any⟩,
  ⟨0x2A0021, .u32, .ro, .l2, true, 0, 8, 0, 0, .any⟩,
  ⟨0x2A0022, .u32, .ro, .l2, true, 0, 8, 0, 0, .any⟩,
  ⟨0x2A0023, .u32, .ro, .l2, true, 0, 8, 0, 0, .any⟩,
  ⟨0x2A0024, (.blob 64), .ro, .l2, true, 0, 8, 0, 0, .any⟩,
  ⟨0x2A0025, .u32, .ro, .l2, true, 0, 8, 0, 0, .any⟩,
  ⟨0x2A0030, .u8, .rws, .l0, false, 0, 1, 0, 0, .any⟩]

/-- The parameters of area 2B. -/
def params2B : List Param := [
  ⟨0x2B0001, .u8, .rws, .l0, false, 0, 1, 1, 1, .le 1⟩,
  ⟨0x2B0002, .u16, .rws, .l0, false, 0, 1, 200, 200, .both (.btw 40 10000) (.mul 4)⟩,
  ⟨0x2B0004, .u8, .rws, .l0, false, 0, 1, 1, 1, .le 2⟩,
  ⟨0x2B0005, .u16, .rws, .l0, false, 0, 1, 600, 600, .btw 10 2000⟩,
  ⟨0x2B0006, .u16, .rws, .l0, false, 0, 1, 32, 32, .btw 1 1024⟩,
  ⟨0x2B0010, .u16, .rws, .l0, false, 0, 1, 200, 200, .btw 50 5000⟩,
  ⟨0x2B0011, .u32, .rws, .l0, true, 0, 8, 0, 0, .both (.zero 23 8) (.zero 0 8)⟩,
  ⟨0x2B0012, .u8, .rws, .l0, true, 0, 8, 1, 1, .oneOf [1, 2, 4, 8]⟩,
  ⟨0x2B0020, .u16, .rws, .l0, false, 0, 1, 20, 20, .le 1000⟩,
  ⟨0x2B0021, .u8, .rws, .l0, false, 0, 1, 16, 16, .btw 1 16⟩,
  ⟨0x2B0022, .u16, .rws, .l0, false, 0, 1, 256, 256, .btw 1 256⟩,
  ⟨0x2B0023, .u16, .ro, .l2, true, 0, 8, 0, 0, .any⟩,
  ⟨0x2B0030, (.blob 2097152), .ro, .l0, false, 0, 1, 0, 0, .any⟩,
  ⟨0x2B0031, (.blob 24), .ro, .l1, false, 0, 1, 0, 0, .any⟩,
  ⟨0x2B0032, (.blob 16384), .ro, .none, false, 0, 1, 0, 0, .any⟩,
  ⟨0x2B0033, .u64, .rwsa, .l2, false, 0, 1, 0, 0, .both (.fld 56 8 (.btw 1 2)) (.both (.zero 53 3) (.zero 21 11))⟩,
  ⟨0x2B0034, .u32, .ro, .l1, true, 0, 8, 0, 0, .any⟩]

/-- The parameters of area 2C. -/
def params2C : List Param := [
  ⟨0x2C0001, .u16, .rws, .l0, true, 0, 8, 0, 0, .both (.zero 13 2) (.both (.zero 3 4) (.fld 0 3 (.le 4)))⟩,
  ⟨0x2C0002, .u16, .ro, .l2, true, 0, 8, 0, 0, .any⟩,
  ⟨0x2C0003, .u32, .rws, .l0, true, 0, 2, 536873912, 536873912, .both (.fld 28 4 (.btw 1 8)) (.both (.zero 16 12) (.fld 0 16 (.btw 1 65535)))⟩,
  ⟨0x2C0004, .u32, .rws, .l0, true, 0, 4, 0, 0, .both (.zero 27 4) (.both (.zero 23 1) (.zero 16 4))⟩,
  ⟨0x2C0005, .u16, .rws, .l0, true, 0, 2, 300, 300, .any⟩,
  ⟨0x2C0006, .u16, .ro, .l2, true, 0, 2, 0, 0, .any⟩,
  ⟨0x2C0007, .u16, .ro, .l2, false, 0, 1, 0, 0, .any⟩,
  ⟨0x2C0010, .u32, .rws, .l0, true, 0, 16, 0, 0, .both (.zero 18 14) (.both (.zero 12 2) (.both (.fld 8 4 (.le 11)) (.both (.zero 5 3) (.fld 0 5 (.le 13)))))⟩,
  ⟨0x2C0011, .u32, .rws, .l0, true, 0, 16, 400, 400, .btw 4 400000⟩,
  ⟨0x2C0012, .q15, .rws, .l0, true, 0, 16, 0, 0, .any⟩,
  ⟨0x2C0013, (.blob 66), .rws, .l0, true, 0, 16, 0, 0, .any⟩,
  ⟨0x2C0014, (.blob 66), .rws, .l0, true, 0, 16, 0, 0, .any⟩,
  ⟨0x2C0015, .u16, .rws, .l0, true, 0, 16, 32768, 32768, .btw 512 32768⟩,
  ⟨0x2C0016, .u32, .rws, .l0, true, 0, 16, 2147418112, 2147418112, .both (.fld 16 16 (.le 32767)) (.fld 0 16 (.le 32767))⟩,
  ⟨0x2C0017, .u16, .rws, .l0, true, 0, 16, 0, 0, .any⟩,
  ⟨0x2C0018, .q15, .rws, .l0, true, 0, 16, 0, 0, .le 32767⟩,
  ⟨0x2C0019, .u32, .rws, .l0, true, 0, 16, 4197581, 4197581, .both (.zero 26 6) (.both (.zero 15 1) (.fld 16 8 (.btw 1 255)))⟩,
  ⟨0x2C001A, .q15, .rws, .l0, true, 0, 16, 0, 0, .any⟩,
  ⟨0x2C0020, (.blob 16), .ro, .l2, true, 0, 16, 0, 0, .any⟩,
  ⟨0x2C0021, .u16, .wo, .l2, false, 0, 1, 0, 0, .any⟩,
  ⟨0x2C0022, .u32, .ro, .l2, true, 0, 16, 0, 0, .any⟩,
  ⟨0x2C0023, .u16, .ro, .l2, false, 0, 1, 32767, 32767, .any⟩,
  ⟨0x2C0024, .u16, .ro, .l2, false, 0, 1, 0, 0, .any⟩]

/-- The parameters of area 30. -/
def params30 : List Param := [
  ⟨0x300001, .u8, .ro, .l0, false, 1, 1, 0, 0, .any⟩,
  ⟨0x300002, .i16, .ro, .l1, false, 1, 1, 32768, 32768, .any⟩,
  ⟨0x300003, .u8, .ro, .l1, false, 1, 1, 0, 0, .any⟩,
  ⟨0x300004, .i8, .ro, .l1, true, 16, 16, 0, 0, .any⟩,
  ⟨0x300005, .u32, .ro, .l1, true, 16, 16, 0, 0, .any⟩,
  ⟨0x300010, .u32, .ro, .l0, true, 16, 16, 0, 0, .any⟩,
  ⟨0x300011, .u32, .ro, .l0, false, 1, 1, 0, 0, .any⟩,
  ⟨0x300020, .u32, .ro, .l1, true, 16, 16, 0, 0, .any⟩,
  ⟨0x300021, .u32, .ro, .l1, true, 16, 16, 0, 0, .any⟩,
  ⟨0x300022, .u64, .ro, .l1, false, 1, 1, 0, 0, .any⟩,
  ⟨0x300023, .u16, .rws, .l0, false, 1, 1, 16, 16, .btw 1 65535⟩,
  ⟨0x300024, .u16, .rws, .l0, false, 1, 1, 6, 6, .btw 1 168⟩,
  ⟨0x300025, .u32, .ro, .l1, false, 1, 1, 0, 0, .any⟩,
  ⟨0x300030, .u32, .rws, .l0, true, 4, 0, 53084160, 53084160, .both (.mul 64) (.le 402653184)⟩,
  ⟨0x300031, .u64, .ro, .l2, false, 1, 1, 0, 0, .any⟩,
  ⟨0x300040, .u8, .ro, .l1, true, 24, 24, 0, 0, .any⟩,
  ⟨0x300050, .u16, .ro, .l0, false, 1, 1, 0, 0, .any⟩,
  ⟨0x300051, .bool, .rws, .l0, false, 1, 1, 1, 1, .any⟩,
  ⟨0x300052, .u16, .rws, .l0, false, 1, 1, 10, 10, .btw 1 3600⟩]

/-- The parameters of area 31. -/
def params31 : List Param := [
  ⟨0x310001, (.blob 96), .ro, .l0, false, 1, 1, 0, 0, .any⟩,
  ⟨0x310002, .u32, .ro, .l1, false, 1, 1, 0, 0, .any⟩,
  ⟨0x310003, .u32, .ro, .l1, false, 1, 1, 0, 0, .any⟩,
  ⟨0x310004, .u32, .ro, .l1, false, 1, 1, 0, 0, .any⟩]

/-- The parameters of area 38. -/
def params38 : List Param := [
  ⟨0x380001, .u64, .ro, .none, true, 320, 320, 0, 0, .any⟩,
  ⟨0x380010, .u32, .rws, .l0, true, 32, 32, 0, 0, .both (.zero 26 6) (.both (.fld 24 2 (.le 2)) (.fld 8 8 (.le 4)))⟩,
  ⟨0x380011, (.blob 24), .ro, .l2, true, 32, 32, 0, 0, .any⟩,
  ⟨0x380020, .u16, .rws, .l0, false, 1, 1, 0, 0, .any⟩,
  ⟨0x380021, (.blob 128), .rws, .l0, false, 1, 1, 255, 255, .any⟩,
  ⟨0x380022, .u32, .rws, .l0, false, 1, 1, 0, 0, .any⟩,
  ⟨0x380023, .u8, .rws, .l0, false, 1, 1, 16, 16, .btw 1 255⟩,
  ⟨0x380024, .u8, .rws, .l0, false, 1, 1, 0, 0, .le 1⟩,
  ⟨0x380025, .u32, .ro, .l0, false, 1, 1, 0, 0, .any⟩,
  ⟨0x380026, .u32, .rw, .l0, false, 1, 1, 0, 0, .any⟩,
  ⟨0x380027, (.blob 16711680), .ro, .l0, false, 1, 1, 0, 0, .any⟩,
  ⟨0x380028, .u32, .ro, .l0, false, 1, 1, 0, 0, .any⟩,
  ⟨0x380040, .u8, .rw, .l2, false, 1, 1, 0, 0, .btw 1 3⟩,
  ⟨0x380041, (.blob 2560), .ro, .l2, false, 1, 1, 0, 0, .any⟩,
  ⟨0x380042, .u64, .ro, .l2, false, 1, 1, 0, 0, .any⟩,
  ⟨0x380050, .u32, .rws, .l0, true, 10, 10, 0, 0, .or (.le 0) (.btw 64 16777216)⟩,
  ⟨0x380051, .u8, .rws, .l0, false, 1, 1, 0, 0, .le 1⟩,
  ⟨0x380052, (.blob 32768), .ro, .l1, false, 1, 1, 0, 0, .any⟩,
  ⟨0x380053, .u32, .ro, .l1, false, 1, 1, 0, 0, .any⟩,
  ⟨0x380054, .u8, .wo, .none, false, 1, 1, 0, 0, .btw 1 1⟩,
  ⟨0x380055, .u32, .ro, .l1, false, 1, 1, 0, 0, .any⟩]

/-- The parameters of one area; an area that R111 does not list has none. -/
def paramsOf (area : Nat) : List Param :=
  match area with
  | 0x00 => params00
  | 0x01 => params01
  | 0x02 => params02
  | 0x03 => params03
  | 0x04 => params04
  | 0x05 => params05
  | 0x06 => params06
  | 0x07 => params07
  | 0x08 => params08
  | 0x09 => params09
  | 0x0A => params0A
  | 0x0B => params0B
  | 0x0C => params0C
  | 0x0E => params0E
  | 0x10 => params10
  | 0x11 => params11
  | 0x12 => params12
  | 0x18 => params18
  | 0x20 => params20
  | 0x21 => params21
  | 0x22 => params22
  | 0x28 => params28
  | 0x29 => params29
  | 0x2A => params2A
  | 0x2B => params2B
  | 0x2C => params2C
  | 0x30 => params30
  | 0x31 => params31
  | 0x38 => params38
  | _ => []

/-- The areas of R111, without the locked area 3F. -/
def areas : List Nat := [0x00, 0x01, 0x02, 0x03, 0x04, 0x05, 0x06, 0x07, 0x08, 0x09, 0x0A, 0x0B, 0x0C, 0x0E, 0x10, 0x11, 0x12, 0x18, 0x20, 0x21, 0x22, 0x28, 0x29, 0x2A, 0x2B, 0x2C, 0x30, 0x31, 0x38]

end Sys2Proof.Machine
end

