-- ==== Sys2Proof/Machine/PartOd.lean ====
section
/-! DEFINITION. State of the object dictionary: lease, transactions, settings store (chapter 04), and of the event
service (chapter 24). -/

namespace Sys2Proof.Machine

/-- One write held in a transaction: the element and the raw value the item carried (R97). -/
structure Write where
  /-- parameter, area × 65,536 + item -/
  id : Nat
  /-- array element; 0 for a parameter that is no array -/
  index : Nat
  value : List Byte
  /-- key and counter that authenticated the message, and whether it came by the GbE port, for writes that act at the latch -/
  by_ : Option (Nat × Nat) := none
  gbe : Bool := false
  deriving DecidableEq, Repr

/-- The open transaction (R97). -/
structure OpenTxn where
  num : Nat
  /-- cycle of the Control region (R101) -/
  openedAt : Nat
  writes : List Write
  deriving DecidableEq, Repr

/-- A committed, pending transaction (R99, R102). -/
structure PendTxn where
  num : Nat
  /-- applied tick -/
  tick : Nat
  /-- cycle in which the commit reached the latch logic -/
  at_ : Nat
  writes : List Write
  deriving DecidableEq, Repr

/-- One item of a response (R91). -/
structure RespItem where
  area : Nat
  item : Nat
  index : Nat
  ty : Nat
  status : Nat
  value : List Byte
  deriving DecidableEq, Repr

/-- A response (R91): OP, SEQ and TXN echoed, items in order. -/
structure Resp where
  op : Nat
  seq : Nat
  txn : Nat
  items : List RespItem
  deriving DecidableEq, Repr

/-- Object dictionary state beside the parameters themselves. -/
structure PartOd where
  /-- holder of the ownership lease [path; 04_object_dictionary.md R94; none] -/
  holder : Option Path := none
  /-- cycle of the Control region in which the last claim arrived, and the place of its path in the order of R96 [count + 4; 04_object_dictionary.md R96; none] -/
  claimAt : Option (Nat × Nat) := none
  /-- cycle of the Control region of the last accepted message from the holder [count; 04_object_dictionary.md R96; 0] -/
  lastMsg : Nat := 0
  /-- counter of the message accepted with the last SEQ, and whether it was authenticated [64 + 1; 04_object_dictionary.md R95; none] -/
  lastCounter : Option Nat := none
  /-- the response sent for the last accepted SEQ [message; 04_object_dictionary.md R95; none] -/
  lastResp : Option Resp := none
  /-- authenticated messages that wait while lock-advance fuses burn, oldest first: header, OP, items, and what flash answers [list; 21_security.md R465, R471; none] -/
  waiting : List (OdHead × Nat × List OdItem × Bool) := []
  /-- the open transaction [record; 04_object_dictionary.md R97; none] -/
  txn : Option OpenTxn := none
  /-- number of the transaction discarded by timeout, until the next TXN_OPEN [16; 04_object_dictionary.md R101; none] -/
  timedOut : Option Nat := none
  /-- pending transactions in commit order, at most 8 [list; 04_object_dictionary.md R102; none] -/
  pending : List PendTxn := []
  /-- last whole settings record in flash: parameter values [flash; 04_object_dictionary.md R85; empty] -/
  stored : SMap Nat := []
  /-- last whole settings record in flash: bytes of BLOB and STR values [flash; 04_object_dictionary.md R85; empty] -/
  storedBlobs : SMap Nat := []
  /-- a latch changed a stored value that the store does not yet hold [1; 04_object_dictionary.md R85; 0] -/
  dirty : Bool := false
  deriving DecidableEq, Repr

/-- A raise on its way to the event service (R509, R511). -/
structure Raise where
  ev : Nat
  /-- severity 0 info, 1 warn, 2 fault, 3 critical -/
  sev : Nat
  region : Nat
  cluster : Nat
  /-- ARG bytes 24–25 -/
  index : Nat
  /-- ARG bytes 26–31, little-endian -/
  detail : Nat
  /-- the time counter at the raise in nanoseconds, and the tick -/
  time : Nat
  tick : Nat
  deriving DecidableEq, Repr

/-- A record of the event log (R509). -/
structure EvRec where
  seq : Nat
  repeats : Nat
  body : Raise
  deriving DecidableEq, Repr

/-- An EVENT message waiting for its acknowledgement, with the cycle of the Control region it was sent in (R513, R514). -/
structure EvMsg where
  seq : Nat
  recs : List Nat
  sentAt : Nat
  deriving DecidableEq, Repr

/-- Event service state. -/
structure PartEv where
  /-- queues of the region collectors, oldest first, at most 64 raises each [5 × 64; 24_events_and_faults.md R511; empty] -/
  collectors : SMap (List Raise) := []
  /-- events raised before the Control region runs [list; 03_start_and_reset.md R67; none] -/
  held : List Raise := []
  /-- the ring of 4,096 records, by SEQ mod 4,096 [4,096 × 256; 24_events_and_faults.md R512; empty] -/
  log : SMap (Option EvRec) := []
  /-- the log head in cistern bank 0: latest 128 records, by SEQ mod 128 [128 × 256; 24_events_and_faults.md R512; empty] -/
  head : SMap (Option EvRec) := []
  /-- last record written per event number: its SEQ, by event number [640; 24_events_and_faults.md R510; none] -/
  lastOf : SMap (Option Nat) := []
  /-- SEQ up to which the ring in DRAM holds the records [32; 24_events_and_faults.md R512; 0] -/
  ringTo : Nat := 0
  /-- DRAM has been usable since the last L0 reset, and was lost since [1 + 1; 24_events_and_faults.md R512; 0] -/
  dramWas : Bool := false
  dramLost : Bool := false
  /-- cycle + 1 of the last raise of each rate-limited event, keyed by 65,536 × event + index [count; 24_events_and_faults.md R510; none] -/
  limits : SMap Nat := []
  /-- tick + 1 of the last raise of each event limited to one per tick, keyed by 65,536 × event + index [48; 24_events_and_faults.md R510; none] -/
  tickLimits : SMap Nat := []
  /-- cycle of the Control region + 1 of the last record written; SEQ of the first record written in it, and pending bits set in it [count + 32 + 13; 24_events_and_faults.md R511, R515, R516; 0] -/
  cycle : Nat := 0
  cycleSeq : Nat := 0
  cycleBits : Nat := 0
  /-- SEQs of the records queued for the manager, at most 256 [256; 24_events_and_faults.md R513; empty] -/
  queue : List EvRec := []
  /-- EVENT messages not yet acknowledged [list; 24_events_and_faults.md R514; none] -/
  sent : List EvMsg := []
  /-- EVENT message count [32; 24_events_and_faults.md R513; 0] -/
  msgSeq : Nat := 0
  /-- records lost from the queue, and last SEQ acknowledged [32 + 32; 24_events_and_faults.md R514; 0] -/
  lost : Nat := 0
  lastAck : Nat := 0
  /-- events of other devices received by an acting manager: device ID and record bytes [list; 24_events_and_faults.md R513; none] -/
  received : List (Nat × List Byte) := []
  deriving DecidableEq, Repr

end Sys2Proof.Machine
end

