-- ==== Sys2Proof/Machine/PartBoard.lean ====
section
/-! DEFINITION. State of the fixture outputs (chapter 17), the Ethernet MACs (chapter 18), the memories (chapter 19), the
security functions (chapter 21), field update (chapter 22) and the performance functions (chapter 23). -/

namespace Sys2Proof.Machine

/-! Fixtures -/

/-- Universe buffers of a frame: slot values that are not 0, by 1,024 × u + slot (R390). -/
structure Universes where
  frame : Nat
  slots : SMap Nat := []
  deriving DecidableEq, Repr

/-- A frame that waits for a MAC. -/
inductive TxKind where
  /-- an sACN data packet of a frame, for an entry of the universe table -/
  | data (frame entry : Nat)
  /-- the sync packet of a frame (R397) -/
  | sync (frame : Nat)
  /-- Stream_Terminated for a universe number, or universe discovery (R394) -/
  | terminated (univ : Nat)
  | discovery
  /-- a PTP message: messageType, sequenceId and the time it carries in ns (R200, R202) -/
  | ptp (kind seq time : Nat)
  /-- a PTP message by unicast to a port identity (R200) -/
  | ptpTo (kind seq time target : Nat)
  /-- an LLDPDU, an ARP probe, a DHCP message (R410, R414) -/
  | lldp
  | arp (addr : Nat)
  | dhcp
  /-- a dictionary message over UDP -/
  | od
  deriving DecidableEq, Repr

/-- A frame in a transmit queue, with whether it has underrun once (R419). -/
structure TxFrame where
  kind : TxKind
  retry : Bool := false
  deriving DecidableEq, Repr

/-- A DMX port (R400, R402). -/
structure Dmx where
  /-- frame being sent -/
  sending : Option Nat := none
  /-- queued requests, oldest first, each with the cycle it was written; cycle + 1 in which the request sent ended -/
  requests : List (List Byte × Nat) := []
  awaiting : Nat := 0
  deriving DecidableEq, Repr

/-- Fixture outputs. -/
structure PartFix where
  /-- frame being sampled [48; 17_fixture_outputs.md R392; none] -/
  sampling : Option Nat := none
  /-- cycle in which its sampling completed [count; 17_fixture_outputs.md R392; none] -/
  doneAt : Option Nat := none
  /-- universe buffers of the last frames, newest first, at most 3; values sampled and not yet judged [2 × 2,048 × 513 bytes; 17_fixture_outputs.md R390, 19_memory.md R444; 0] -/
  frames : List Universes := []
  fresh : Option Universes := none
  /-- frame whose data packets have been handed to their paths [48; 17_fixture_outputs.md R397; none] -/
  started : Option Nat := none
  /-- DMX ports [16 records; 17_fixture_outputs.md R400, R402; idle] -/
  dmx : SMap Dmx := []
  deriving DecidableEq, Repr

/-! Ethernet -/

/-- A MAC port: 0 GbE, 1–8 T1S0–T1S7. -/
structure Mac where
  /-- frames waiting, oldest first -/
  queue : List TxFrame := []
  /-- bytes held in the receive buffer (R409) -/
  held : Nat := 0
  /-- collisions of the frame in front; it waits out a backoff of r slot times (R417) -/
  attempts : Nat := 0
  backoff : Option Nat := none
  deriving DecidableEq, Repr

/-- Ethernet ports. -/
structure PartEth where
  /-- ports [9 records; 18_ethernet.md R407–R419; empty] -/
  macs : SMap Mac := []
  /-- consecutive MDIO reads of 0xFFFF; the port is treated as down for them [2 + 1; 18_ethernet.md R407; 0] -/
  mdioBad : Nat := 0
  mdioFail : Bool := false
  /-- the PHY reports half duplex [1; 18_ethernet.md R408; 0] -/
  half : Bool := false
  /-- cycle in which the running pause began or was restarted, and its quanta [count + 16; 18_ethernet.md R411; none] -/
  pause : Option (Nat × Nat) := none
  /-- the port sends low-power idle, since a cycle [1 + count; 18_ethernet.md R413; no] -/
  lpi : Option Nat := none
  /-- partner's requested Tw in ns, once its TLV has come; LPI refused for it [32 + 1; 18_ethernet.md R414; none] -/
  partnerTw : Option Nat := none
  twRefused : Bool := false
  /-- address being probed, and its source: 0 static, 1 DHCP, 2 link-local [32 + 2; 18_ethernet.md R410; none] -/
  candidate : Option (Nat × Nat) := none
  /-- a conflict holds the static address unused; no DHCP lease came within 10 s [1 + 1; 18_ethernet.md R410; 0] -/
  conflict : Bool := false
  linkLocal : Bool := false
  /-- segments whose address an ARP conflict holds unused [8; 18_ethernet.md R410, R416; none] -/
  segHeld : NSet := []
  deriving DecidableEq, Repr

/-! Memories -/

/-- A request in a bank queue (R429). -/
structure DramReq where
  requester : Nat
  /-- streamer of requester 21; 1 for a read of the scrubber among requester 23's -/
  part : Nat
  write : Bool
  addr : Nat
  /-- 1 to 4 for urgency 0 to 3, 0 for class B -/
  rank : Nat
  at_ : Nat
  deriving DecidableEq, Repr

/-- An entry of a row tracker (R433). -/
structure RowEntry where
  row : Nat
  count : Nat
  /-- activates counted, by requester -/
  acts : SMap Nat
  deriving DecidableEq, Repr

/-- A bank of the DRAM. -/
structure DramBank where
  queue : List DramReq := []
  row : Option Nat := none
  /-- the row was opened for the first entry -/
  acted : Bool := false
  rows : List RowEntry := []
  /-- throttle step, and cycle + 1 of the last activate, by requester -/
  steps : SMap Nat := []
  lastAct : SMap Nat := []
  /-- rows to refresh around an aggressor (R434) -/
  victims : List Nat := []
  deriving DecidableEq, Repr

/-- A channel of the DRAM. -/
structure DramChan where
  debt : Int := 0
  last : Nat := 15
  selfRefresh : Bool := false
  deriving DecidableEq, Repr

/-- The memories. -/
structure PartDram where
  /-- channels [16 records; 19_memory.md R430, R432; debt 0] -/
  chans : SMap DramChan := []
  /-- banks, by 16 × channel + bank [256 records; 19_memory.md R429, R433; empty] -/
  banks : SMap DramBank := []
  /-- requests issued to a bank and not yet returned or acknowledged, oldest first, by requester, and for requester 21 by 32 + streamer [24 + 16 lists; 19_memory.md R428; none] -/
  flying : SMap (List DramReq) := []
  /-- requests that stall because their bank queue is full, oldest first, by requester [24 lists; 19_memory.md R429; none] -/
  stalled : SMap (List DramReq) := []
  /-- poisoned bursts, and corrections of each burst within the scrub pass [set + counts; 19_memory.md R436; none] -/
  poisoned : NSet := []
  corrections : SMap Nat := []
  /-- interval that applies from the next tREFI tick [1; 19_memory.md R431; 0] -/
  nextFast : Bool := false
  hotTold : Bool := false
  /-- the die is at low-water standby [1; 19_memory.md R440; 0] -/
  standby : Bool := false
  /-- cycle in which the Memory region was released for training [count; 19_memory.md R438, R446; 0] -/
  releasedAt : Nat := 0
  /-- size of the DRAM die in MB as the controller reads it [16; 19_memory.md R438; DESIGN CHOICE 8,192, log entry 3] -/
  dieMb : Nat := 8192
  /-- cistern words that are poisoned, and passes on which each recurred [sets; 19_memory.md R443; none] -/
  cisternBad : NSet := []
  cisternCe : SMap Nat := []
  /-- channel next recalibrated [4; 19_memory.md R438; 0] -/
  recal : Nat := 0
  /-- self-refresh entry of an L1 reset is under way [1; 19_memory.md R439; 0] -/
  entering : Bool := false
  /-- requesters named by EV 524 in the window, as 16 × requester + channel [24 × 16; 19_memory.md R435; none] -/
  throttleTold : NSet := []
  deriving DecidableEq, Repr

/-! Security -/

/-- A key slot (R105, R469). -/
structure Key where
  loaded : Bool := false
  key : List Byte := []
  perms : Nat := 0
  /-- last accepted counter, and whether the counter space is spent -/
  counter : Nat := 0
  spent : Bool := false
  deriving DecidableEq, Repr

/-- Security state. -/
structure PartSec where
  /-- lock state of the lock-advance fuses, 0 OPEN to 3 SEALED; state being burned [2 + 2; 21_security.md R464, R465; DESIGN CHOICE 0, log entry 3; none] -/
  fuses : Nat := 0
  burning : Option Nat := none
  /-- response to the write that started the burn, sent when it ends [message; 21_security.md R465; none] -/
  answer : Option (Path × Resp) := none
  /-- key slots [8 records in flash; 21_security.md R469; DESIGN CHOICE empty, log entry 3] -/
  keys : SMap Key := []
  /-- a key store copy is valid in flash [1; 21_security.md R469; DESIGN CHOICE 0, log entry 3] -/
  keysValid : Bool := false
  /-- index in the flash record; checkpoint bits burned [21 + 256; 21_security.md R475; DESIGN CHOICE 0, log entry 3] -/
  flashQ : Nat := 0
  checkpoints : Nat := 0
  /-- next index q in use [21; 21_security.md R475; 0] -/
  q : Nat := 0
  /-- nonce of the report being signed, with index q − 1; cycle + 1 of the last accepted request; EV 573 has been raised [32 bytes + count + 1; 21_security.md R475, R476; none] -/
  nonce : Option (List Byte) := none
  requestAt : Nat := 0
  lowTold : Bool := false
  /-- fused root hash, security floor [32 bytes + 16; 21_security.md R467; DESIGN CHOICE 0, log entry 3] -/
  rootHash : List Byte := List.replicate 32 0
  floor : Nat := 0
  /-- JTAG: instruction, 0 BYPASS, 1 SAMPLE/PRELOAD, 2 EXTEST, 3 IDCODE; boundary cells last loaded [2 + cells; 21_security.md R473; BYPASS] -/
  jtag : Nat := 0
  cells : List Byte := []
  deriving DecidableEq, Repr

/-! Update -/

/-- An image slot in flash (R483): blocks held, by index, as the 4,096 bytes of each. -/
structure Slot where
  blocks : SMap (List Byte) := []
  deriving DecidableEq, Repr

/-- What a neighbour has reported (R486). -/
structure Neighbour where
  id : Nat := 0
  st : Nat := 0
  version : Nat := 0
  /-- blocks it holds, and those sent to it since -/
  held : NSet := []
  sent : NSet := []
  deriving DecidableEq, Repr

/-- Update state. -/
structure PartUpd where
  /-- update record in flash: state, confirmed slot, trial slot, trial boots left [records; 22_field_update.md R490; DESIGN CHOICE IDLE, slot 0, none, 0, log entry 3] -/
  st : Nat := 0
  confirmed : Nat := 0
  trial : Nat := 255
  boots : Nat := 0
  /-- manifest held [3,152 bytes; 22_field_update.md R484; none] -/
  manifest : List Byte := []
  /-- manifest being written in pieces [3,152 bytes; 22_field_update.md R485; none] -/
  incoming : SMap Nat := []
  /-- image slots 0 and 1, and the image at `QSPI_CS1_N` as slot 2 [3 × 8 MB; 22_field_update.md R481, R483; DESIGN CHOICE empty, log entry 3] -/
  slots : SMap Slot := []
  /-- bytes + 1 written to blocks not yet whole, by 4,096 × block + offset [8 MB; 22_field_update.md R488; none] -/
  part : SMap Nat := []
  /-- size of the flash in 64 KB units, 512 to 4,096 [13; 22_field_update.md R481; DESIGN CHOICE 2,048, log entry 3] -/
  flashUnits : Nat := 2048
  /-- blocks verified in index order from 0 [12; 22_field_update.md R489; 0] -/
  verified : Nat := 0
  /-- ports toward which an UPD_STATE is due; LINK_VERSION of the redundant partner as last read over the partner path [20 × 1 + 16; 22_field_update.md R486, R490; none] -/
  stateDue : NSet := []
  partnerLink : Option Nat := none
  /-- head: place in the rotation of relay grants on each chain [16 counts; 22_field_update.md R487; 0] -/
  relayNext : SMap Nat := []
  /-- neighbours by port or chain [20 records; 22_field_update.md R486; none] -/
  neighbours : SMap Neighbour := []
  /-- a complete image on a device without firmware is to be started [1; 22_field_update.md R491; 0] -/
  bootDue : Bool := false
  /-- running slot; the ROM has started its image [2 + 1; 22_field_update.md R491; 0; 0] -/
  running : Nat := 0
  started : Bool := false
  /-- cycle in which the activation was accepted, or another pending L1 reset [count; 22_field_update.md R490; none] -/
  resetDue : Option Nat := none
  /-- the reset of an abort follows the response [1; 22_field_update.md R493; 0] -/
  resetNow : Bool := false
  /-- confirmation window is open, since a cycle of the Control region [count; 22_field_update.md R493; none] -/
  windowAt : Option Nat := none
  /-- settings format in force, frozen format, settings frozen for the trial [2 × 16 + area; 22_field_update.md R492; 0; none] -/
  format : Nat := 0
  frozenFormat : Nat := 0
  frozen : Option (SMap Nat × SMap Nat) := none
  deriving DecidableEq, Repr

/-! Performance -/

/-- A bandwidth monitor (R499, R500). -/
structure Monitor where
  /-- bytes in the window, in the current tick, most in one tick -/
  total : Nat := 0
  inTick : Nat := 0
  peak : Nat := 0
  /-- the first window since the commit is running; the window length was cut -/
  first : Bool := true
  cut : Bool := false
  /-- second of the time counter at the last end -/
  second : Nat := 0
  /-- cycle + 1 of the latest bytes, and the bytes of that cycle: at a strobe in it they count toward the next window -/
  last : Nat := 0
  lastBytes : Nat := 0
  deriving DecidableEq, Repr

/-- Performance functions. -/
structure PartPerf where
  /-- counters by code [320 × 64; 23_performance.md R498; 0] -/
  counters : SMap Nat := []
  /-- counters as they stood at the end of the cycle before this one [320 × 64; 23_performance.md R501; 0] -/
  prev : SMap Nat := []
  /-- the counters are frozen [1; 23_performance.md R504; 0] -/
  frozen : Bool := false
  /-- monitors [32 records; 23_performance.md R499; 0] -/
  monitors : SMap Monitor := []
  /-- record latched and being written to the ring [record; 23_performance.md R501; none] -/
  writing : Option (List Byte) := none
  /-- records dropped since the last record written; a rate change since it [32 + 1; 23_performance.md R502; 0] -/
  dropped : Nat := 0
  rateChanged : Bool := false
  /-- entries held in the sample buffer; cycle of the Control region + 1 of the last entry written; entries that wait, with the cycle of the Control region and the source they come from [11 + count + 16 × 32 bytes; 23_performance.md R506; 0; empty] -/
  held : Nat := 0
  cycle : Nat := 0
  queue : List (Nat × Nat × List Byte) := []
  /-- instructions left to each source's next sample, + 1 [10 counts; 23_performance.md R505; 0] -/
  left : SMap Nat := []
  deriving DecidableEq, Repr

end Sys2Proof.Machine
end

