-- ==== Sys2Proof/Machine/PartOut.lean ====
section
/-! DEFINITION. What the device sends: the model's own record of everything that leaves on a wire or a pin, newest
first (log entry 6).  Nothing in the device reads it. -/

namespace Sys2Proof.Machine

/-- One thing sent. -/
inductive Out where
  /-- a dictionary response (R91) on the path its request came by -/
  | resp (p : Path) (r : Resp)
  /-- an EVENT message to the lease holder: message SEQ and record SEQs (R513) -/
  | event (p : Path) (seq : Nat) (recs : List Nat)
  /-- a special symbol on a lane: a SKIP, or a K30.7 in place of a symbol a tile would have forwarded (R115–R117) -/
  | symbol (lane octet : Nat)
  /-- the first idle of a lane that leaves OFF: its ten bits (R115, R118) -/
  | firstIdle (lane code : Nat)
  /-- a test block, a raw span of 2,048 pattern bits, and an inverted run on a lane (R128, R129, R131) -/
  | testBlock (lane seq : Nat) (data : List Byte)
  | rawSpan (lane : Nat) (data : List Byte)
  | injected (lane bits : Nat)
  /-- answer to an AUX request: acknowledged, data (R138) -/
  | aux (rx : Nat) (ack : Bool) (data : List Byte)
  /-- a packet on port or chain `p`: kind octet and body (chapter 06) -/
  | packet (port : Nat) (kind : Nat) (body : List Nat)
  /-- LEASE_CLAIMs to every device with a new epoch (R182) -/
  | leaseClaims (epoch : Nat)
  /-- a paired member's message to its partner for a frame: kind 0 β and pump loops, 1 masks, 2 wear ledger, 3 K slew state,
  4 a request for them, 5 fault list (R193, R291, R366, R384) -/
  | member (kind frame : Nat) (values : List (Nat × Int))
  /-- a READ over the chain or the partner path: destination, and the elements read (R162, R187, R490) -/
  | odRead (dest : Nat) (elems : List (Nat × Nat))
  /-- a flip set for the partner: the frame, and per layer the identities of its ready and in-use buffers, the shown one first (R231) -/
  | flipSet (k : Nat) (layers : List (List Nat))
  /-- a control packet to the partner as the payload of a UDP datagram: header and port (R173) -/
  | partnerUdp (port : Nat) (header : List Nat)
  /-- a forwarded packet of another device, unchanged (R145) -/
  | forward (port : Nat) (kind : Nat) (id : Nat)
  /-- a PTP message: messageType, sequenceId, time in ns (R200) -/
  | ptp (kind seq time : Nat)
  /-- a PTP message by unicast to a port identity (R200) -/
  | ptpTo (kind seq time target : Nat)
  /-- a frame on a MAC port: 0 GbE, 1–8 T1S (chapter 18) -/
  | frame (port kind : Nat) (body : List Nat)
  /-- autonegotiation restarts over MDIO, advertising 100BASE-TX only or everything (R408, R415) -/
  | autoneg (only100 : Bool)
  /-- a DMX frame or RDM request on a port (R400, R402) -/
  | dmx (port : Nat) (slots : List Byte)
  | rdm (port : Nat) (body : List Byte)
  /-- a transaction on a driver bus (R324, R350) -/
  | bus (bus addr : Nat) (read : Bool) (data : List Byte)
  /-- a lamp-port operation: port, kind (3 latch, 5 `LPn_OE` hold, 6 probe, 8 bank swap, 9 row slot, 10 plane), value (R336) -/
  | lamp (port kind value : Nat)
  /-- words or bits shifted on a strand, first out first, with the latch periods at the end (R336) -/
  | shift (port strand latch : Nat) (words : List Nat)
  /-- a push-pull bus write: bits (R335) -/
  | pushPull (bus bits value : Nat)
  deriving DecidableEq, Repr

end Sys2Proof.Machine
end

