-- ==== Sys2Proof/Machine/PartChain.lean ====
section
/-! DEFINITION. State of the chain protocol (chapter 06) and of redundancy, sluice and epochs (chapter 07). -/

namespace Sys2Proof.Machine

/-- A copy of a frame being taken in by a tile, or a grant's stretch (R164, R165). -/
structure Copy where
  tick : Nat
  port : Nat
  prefixed : Bool
  src : Nat
  epoch : Nat
  /-- every packet so far carries this epoch -/
  oneEpoch : Bool := true
  format : Nat
  count : Nat
  /-- CRC of each INDEX that has arrived, +1 -/
  crcs : SMap Nat := []
  /-- payload bytes by OFFSET -/
  data : SMap Nat := []
  incomplete : Bool := false
  repeated : Bool := false
  poisoned : Bool := false
  /-- SIGNATURE of the LAST packet -/
  sig : Option Nat := none
  /-- cycle in which the last missing packet passed its CRC check -/
  doneAt : Option Nat := none
  /-- its frame's first packet came before CORRECTION rose (R79) -/
  barred : Bool := false
  /-- its bytes have entered the correction pipeline, and it has been written through (R22, R287) -/
  entered : Bool := false
  written : Option Nat := none
  deriving DecidableEq, Repr

/-- A reserved stretch (R155). -/
structure Stretch where
  /-- symbols left -/
  left : Nat
  /-- a grant to 0xFFF: only answers to positional requests -/
  open_ : Bool := false
  /-- behind a packet of COUNT 0: a grant (R156, R487) -/
  grant : Bool := false
  /-- it has carried a block of an update (R488) -/
  block : Bool := false
  deriving DecidableEq, Repr

/-- A packet of the tile's own waiting for a reserved stretch (R155). -/
structure OwnPkt where
  /-- destination device ID -/
  dest : Nat
  /-- symbols it takes on the lane -/
  size : Nat
  /-- it answers a positional request -/
  positional : Bool
  out : Out
  deriving DecidableEq, Repr

/-- A packet that waits for the end of the guard before a tick (R146, R158). -/
structure HeldPkt where
  port : Nat
  /-- TYPE of a link-management packet, or the kind of a control packet -/
  kind : Nat
  seq : Option Nat := none
  /-- value of the time counter as the wait began, and the stamp or TURN that goes with it -/
  since : Nat := 0
  arg : Nat := 0
  /-- a control packet's destination, bytes of its message, and the message -/
  dest : Nat := 0
  size : Nat := 0
  out : Option Out := none
  deriving DecidableEq, Repr

/-- What a port or chain knows of its link (R159–R161). -/
structure Link where
  /-- SEQ of the next link-management packet sent -/
  seq : Nat := 0
  /-- ECHO_REQ waiting for its answer: SEQ and stamp -/
  echo : Option (Nat × Nat) := none
  /-- a delay has been measured, and its value d in 2⁻¹⁶ ns -/
  measured : Bool := false
  d : Nat := 0
  /-- candidate delays that differ from the one in use, newest first -/
  cand : List Int := []
  /-- LATENCY of the upstream neighbour: origin, position, LOUT -/
  up : Option (Nat × Nat × Nat) := none
  /-- cycle of the last LATENCY -/
  upAt : Nat := 0
  stale : Bool := false
  /-- an IDENT has been seen -/
  known : Bool := false
  deriving DecidableEq, Repr

/-- Chain protocol state. -/
structure PartChain where
  /-- links by port or chain, span links as 16–19 [20 records; 06_chain_protocol.md R159–R161; fresh] -/
  links : SMap Link := []
  /-- chains whose L has been read as valid [16 × 1; 06_chain_protocol.md R162; none] -/
  lValid : NSet := []
  /-- ports whose marker of the current tick has arrived and passed, and those judged missing or bad [2 + 2; 06_chain_protocol.md R158; none] -/
  got : NSet := []
  missed : NSet := []
  /-- consecutive ticks without a valid marker, by port [2 counts; 06_chain_protocol.md R156; 0] -/
  dry : SMap Nat := []
  /-- directions (input ports) the tile is proxy for [2 × 1; 06_chain_protocol.md R156; none] -/
  proxy : NSet := []
  /-- DESTs of regions seen on each port this tick and in the previous tick, keyed 65,536 × port + DEST [sets; 06_chain_protocol.md R156; none] -/
  seen : NSet := []
  seenBefore : NSet := []
  /-- port on which each head's stream arrives, +1, by device ID [table; 06_chain_protocol.md R155; unknown] -/
  headPort : SMap Nat := []
  /-- the tile's own packets, oldest first, at most 16 KB [16 KB; 06_chain_protocol.md R155; empty] -/
  own : List OwnPkt := []
  /-- the reserved stretch on the stream arriving on each port [2 records; 06_chain_protocol.md R155; none] -/
  stretch : SMap (Option Stretch) := []
  /-- a positional request has been received since the previous tick [1; 06_chain_protocol.md R155; 0] -/
  posReq : Bool := false
  /-- copies being collected or kept in the receive ring, two frames deep per direction [list; 06_chain_protocol.md R164, R166; none] -/
  copies : List Copy := []
  /-- last frame whose cut-off has passed, +1 [48; 06_chain_protocol.md R164; 0 none] -/
  cutDone : Nat := 0
  /-- tick, and symbols of control and relay packets a head has sent in it, by chain [16 × (48 + 32); 11.0003 in 22_field_update.md R486; 0] -/
  ctrlUsed : SMap (Nat × Nat) := []
  /-- packets that wait for the end of the guard before a tick, oldest first [list; 06_chain_protocol.md R146, R158; none] -/
  guarded : List HeldPkt := []
  /-- data for the partner member that wait for room in the queue of 16 KB, oldest first [list; 06_chain_protocol.md R155, 07_redundancy.md R193; none] -/
  backlog : List OwnPkt := []
  /-- head: control packets dropped at the end of a ring [count; 06_chain_protocol.md R154; 0] -/
  dropped : Nat := 0
  deriving DecidableEq, Repr

/-- A region's signature as sent or received for a frame (R187). -/
structure SigRec where
  tick : Nat
  chain : Nat
  dest : Nat
  /-- place in stream order within the chain -/
  order : Nat
  sig : Nat
  /-- REPEAT or INCOMPLETE was set, or its CRC failed -/
  unfit : Bool
  at_ : Nat
  deriving DecidableEq, Repr

/-- What a standby member's own sequencers would have put on a port in the subframe under way (R194). -/
structure OwnSub where
  /-- cycle in which it began -/
  start : Nat := 0
  /-- running CRC-32 by strand -/
  crcs : SMap (BitVec 32) := []
  /-- edges of `LPn_LT`, as cycles, newest first -/
  lts : List Nat := []
  deriving DecidableEq, Repr

/-- Redundancy state. -/
structure PartRed where
  /-- level of `SLUICE_I` [1; 07_redundancy.md R176; 0, pull-down of R42] -/
  sluiceI : Bool := false
  /-- heartbeat class believed: 0 LOST, 1 STANDBY_UNSYNCED, 2 STANDBY_SYNCED, 3 ACTIVE [2; 07_redundancy.md R175; 0] -/
  hb : Nat := 0
  /-- class of the last measured period [2; 07_redundancy.md R175; 0] -/
  hbLast : Nat := 0
  /-- cycle of the last rising edge on `HB_I` [count; 07_redundancy.md R175; none] -/
  hbEdge : Option Nat := none
  /-- EV 175 has been raised, and cycle since which the view has been consistent [1 + count; 07_redundancy.md R176; 0] -/
  doubtTold : Bool := false
  consistentAt : Nat := 0
  /-- class `HB_O` shows in its current period [2; 07_redundancy.md R175; 0 none, held low] -/
  hbOut : Nat := 0
  /-- cause of the running claim, as TAKEOVER_LOG byte 6 codes it [3; 07_redundancy.md R178, R196; 0] -/
  cause : Nat := 0
  /-- the claim's window runs; the claim was entered by a switchover, and the cycle in which the view has since left ACTING [1 + 1 + count; 07_redundancy.md R178, R179; 0, none] -/
  window : Bool := false
  bySwitch : Bool := false
  leftAt : Option Nat := none
  /-- the claim is a standby's whose partner is lost; REDUNDANCY_SYNC as the view last was ACTING [1 + 1; 07_redundancy.md R189; 0] -/
  lostPartner : Bool := false
  syncAtLoss : Bool := false
  /-- in YIELD, the cycle in which the view became ACTING [count; 07_redundancy.md R178; none] -/
  actingAt : Option Nat := none
  /-- became ACTIVE by a switchover whose named tick is still to come [1; 07_redundancy.md R190; 0] -/
  switching : Bool := false
  /-- has not been in step with its partner since it started [1; 07_redundancy.md R191; 0] -/
  rejoin : Bool := false
  /-- the readback of R194 counts as DOUBT for a claim on evidence [1; 07_redundancy.md R194; 0] -/
  readback : Bool := false
  /-- named tick of the switchover under way [48; 07_redundancy.md R190; none] -/
  switchTick : Option Nat := none
  /-- whole ticks the view has been DOUBT without partner activity; broken in the current tick [8 + 1; 07_redundancy.md R180; 0] -/
  evidence : Nat := 0
  broken : Bool := true
  /-- E_t at the last cut-off instant (E_acc of the frame to come) [32; 07_redundancy.md R185; 0] -/
  eAcc : Nat := 0
  /-- head: highest EPOCH in the partner's unprefixed packets [32; 07_redundancy.md R183; 0] -/
  partnerEpoch : Nat := 0
  /-- head: chains on which a packet of the partner came in this tick, and in the previous one (whole rings) [16 + 16; 07_redundancy.md R173; none] -/
  ringNow : NSet := []
  rings : NSet := []
  /-- the head acts as manager [1; 00_scope.md R5; 0] -/
  manager : Bool := false
  /-- another trunk's manager has been heard: its device ID [12; 00_scope.md R6; none] -/
  otherManager : Option Nat := none
  /-- the streams go unprefixed; fixture outputs are emitted [1 + 1; 07_redundancy.md R181; 0] -/
  streams : Bool := false
  fixtures : Bool := false
  /-- signatures of the regions sent, and of the partner's regions received [lists; 07_redundancy.md R187; none] -/
  sigOwn : List SigRec := []
  sigPartner : List SigRec := []
  /-- frames below this number have been closed for the comparison [48; 07_redundancy.md R187; 0] -/
  sigDone : Nat := 0
  /-- RUN of the report [16; 07_redundancy.md R188; 0] -/
  run : Nat := 0
  /-- paired tile: consecutive mismatched subframes; subframes compared, differed and skipped since the last report [counts; 07_redundancy.md R188, R194; 0] -/
  strikes : Nat := 0
  subCompared : Nat := 0
  subDiffered : Nat := 0
  subSkipped : Nat := 0
  /-- standby member: its own computed drive of the subframe under way, by port; verdicts of that subframe by port: 1 matched, 2 differed, 3 not heard; every subframe of the tick under way has matched: 0 it has not begun, 1 so far, 2 no [32 records; 07_redundancy.md R194; none, none, 0] -/
  own : SMap OwnSub := []
  verdicts : SMap Nat := []
  tickClean : Nat := 0
  /-- paired tile: whole ticks in which every subframe has matched; the ledger, the K slew state and the fault list have arrived [count + 3; 07_redundancy.md R193, 15_lamp_health.md R366; 0] -/
  matchTicks : Nat := 0
  gotLedger : Bool := false
  gotSlew : Bool := false
  gotFaults : Bool := false
  /-- paired tile: parts of the ledger, the slew state and the fault list that have arrived, by kind of message, until the last one [lists; 07_redundancy.md R193, 15_lamp_health.md R366; none] -/
  memberIn : SMap (List (Nat × Nat)) := []
  /-- paired tile: became active in cycle, waits for its first driven subframe boundary [count; 07_redundancy.md R195; none] -/
  activeAt : Option Nat := none
  /-- paired tile: drives the lamp nets [1; 07_redundancy.md R193, R195; 0] -/
  drives : Bool := false
  /-- TAKEOVER_LOG count of entries [32; 07_redundancy.md R196; 0] -/
  entries : Nat := 0
  deriving DecidableEq, Repr

end Sys2Proof.Machine
end

