-- ==== Sys2Proof/Machine/PartHead.lean ====
section
/-! DEFINITION. State of the sources and flips (chapter 09), of composition (chapter 10) and of scan-out and span pairs
(chapter 11), beside their parameters. -/

namespace Sys2Proof.Machine

/-- A buffer of a source (R220). -/
structure Buf where
  /-- 0 free, 1 filling, 2 its fence has been signalled -/
  st : Nat := 0
  /-- fill number, seal count, or start-of-frame time in ns -/
  ident : Nat := 0
  /-- cycle in which its fence became visible -/
  at_ : Nat := 0
  /-- a DP frame's size and format code (R223) -/
  width : Nat := 0
  height : Nat := 0
  format : Nat := 0
  /-- number + 1 of the undefined contents its unwritten bytes have; 0 for none -/
  undef : Nat := 0
  deriving DecidableEq, Repr

/-- An ingress channel's part of one fill (R224). -/
structure FillPart where
  fill : Nat
  /-- COUNT and FORMAT of its first data packet; 0 and 0 before it -/
  count : Nat := 0
  format : Nat := 0
  /-- indices taken; COUNT or FORMAT has changed within the fill -/
  indices : NSet := []
  mixed : Bool := false
  /-- its fence packet has come -/
  fenced : Bool := false
  deriving DecidableEq, Repr

/-- An ingress channel (R222–R225). -/
structure Chan where
  /-- parts of the fills it has sent packets of, newest first, at most 16 -/
  parts : List FillPart := []
  /-- its last complete fill, the fills whose fence writes are in flight, oldest first, and the last one acknowledged -/
  complete : Option Nat := none
  writing : List Nat := []
  done : Option Nat := none
  deriving DecidableEq, Repr

/-- What a layer shows (R228–R233). -/
structure Layer where
  /-- source bound at the last latch: 16 × kind + index -/
  src : Nat := 0
  /-- buffer in use, none for the loss fill -/
  buf : Option Nat := none
  /-- key of the buffer it showed before the last latch -/
  before : Option Nat := none
  /-- tick of the last flip -/
  flipAt : Nat := 0
  /-- consecutive held or stale ticks; flipped at the last latch; starved; DP crop out of the scaler's range (R239) -/
  held : Nat := 0
  flipped : Bool := false
  starved : Bool := false
  outOfRange : Bool := false
  deriving DecidableEq, Repr

/-- Sources and flips. -/
structure PartSrc where
  /-- buffers, by 4 × (16 × kind + index) + buffer [108 records; 09_sources_and_layers.md R220; free] -/
  bufs : SMap Buf := []
  /-- bytes written to buffers, + 1, by 2^32 × buffer key + offset [source pool; 09_sources_and_layers.md R220; none] -/
  bytes : SMap Nat := []
  /-- ingress channels [16 records; 09_sources_and_layers.md R224; idle] -/
  chans : SMap Chan := []
  /-- latest damaged fills, and latest fills for which EV 322 was raised, by surface, 16 of each [lists; 09_sources_and_layers.md R222; none] -/
  damaged : SMap (List Nat) := []
  busyTold : SMap (List Nat) := []
  /-- load buffer of each still [16 × 2; 09_sources_and_layers.md R227; 0] -/
  stillLoad : SMap Nat := []
  /-- layers 0–15 [16 records; 09_sources_and_layers.md R228–R233; nothing shown] -/
  layers : SMap Layer := []
  /-- buffers that left use at the last latch and become free at its tick [set; 09_sources_and_layers.md R230; none] -/
  leaving : NSet := []
  /-- DP receivers: buffer + 1 being filled; that frame is damaged; ns + 1 of the last frame start; cycle + 1 of the last completed frame [4 records; 09_sources_and_layers.md R226; none] -/
  dpFill : SMap Nat := []
  dpBad : NSet := []
  dpStart : SMap Nat := []
  dpDone : SMap Nat := []
  /-- tick of the flip set awaited from the partner, + 1 [48; 09_sources_and_layers.md R231; 0] -/
  setDue : Nat := 0
  /-- cycle of the latch whose flip set is awaited [count; 09_sources_and_layers.md R231; 0] -/
  setFrom : Nat := 0
  deriving DecidableEq, Repr

/-- A canvas buffer (R261): codes R + 2^16 G + 2^32 B of its pixels, row by row from the first composed column. -/
structure Canvas where
  frame : Nat := 0
  started : Bool := false
  complete : Bool := false
  doneAt : Nat := 0
  x0 : Nat := 0
  width : Nat := 0
  height : Nat := 0
  pixels : List Nat := []
  /-- counted pixels by 64 × layer + bin (R243) -/
  hist : SMap Nat := []
  deriving DecidableEq, Repr

/-- Composition. -/
structure PartComp where
  /-- the two canvas buffers, by frame mod 2 [2 buffers; 11_canvas_and_scanout.md R261; empty] -/
  canvases : SMap Canvas := []
  /-- a polder is in use; a build runs, and its cause 1 stills, 2 transaction (R249) [1 + 2; 10_composition.md R249; none] -/
  polder : Bool := false
  building : Nat := 0
  /-- a complete build waiting for its time: cause, applied tick, still buffers it was built from [record; 10_composition.md R249; none] -/
  built : Option (Nat × Nat × List Nat) := none
  /-- still buffers the polder in use and the complete build include [set; 10_composition.md R249; none] -/
  builtStills : NSet := []
  /-- applied ticks of the committed transactions that builds are due for [list; 10_composition.md R249; none] -/
  due : List Nat := []
  /-- cycle in which the last build completed, + 1 [count; 10_composition.md R250; 0] -/
  builtAt : Nat := 0
  /-- a frame has needed a build that was late [1; 10_composition.md R258; 0] -/
  polderLate : Bool := false
  /-- x_hi of each layer, held + 1 so that 0 means the source maximum [16 values; 10_composition.md R243; source maximum] -/
  xhi : SMap ℚ := []
  /-- histograms of the last composed frames, newest first: frame, counts, counts merged with the span partner's [2 × 16 × 64; 10_composition.md R243, R255; none] -/
  hists : List (Nat × SMap Nat) := []
  /-- layers shed, newest first [list; 10_composition.md R253; none] -/
  shed : List Nat := []
  /-- frames left in which the dike runs after a miss; the dike runs [8 + 1; 10_composition.md R251; 0] -/
  recovery : Nat := 0
  dike : Bool := false
  /-- Image cycle in which the composition under way started [count; 10_composition.md R253; 0] -/
  startedAt : Nat := 0
  /-- a poisoned read has hit the composition under way (R24) [1; 01_architecture.md R24; 0] -/
  poisoned : Bool := false
  deriving DecidableEq, Repr

/-- One enabled region (R264). -/
structure TileRegion where
  number : Nat
  chain : Nat
  order : Nat
  dest : Nat
  x : Nat
  y : Nat
  width : Nat
  height : Nat
  deriving DecidableEq, Repr

/-- What is bound to a canvas at its commit latch (R273). -/
structure Binding where
  frame : Nat
  width : Nat
  height : Nat
  format : Nat
  delay : Nat
  pace : Nat
  dry : Nat
  gap : Nat
  regions : List TileRegion
  digest : Nat
  configDigest : Nat
  deriving DecidableEq, Repr

/-- A chain streamer at work on a frame (R267–R271). -/
structure Streamer where
  /-- rate code it was started at (R213) -/
  rate : Nat := 8
  /-- frame k being sent; content taken from the canvas of `content`, none when there is nothing to repeat (R274) -/
  frame : Nat := 0
  content : Option Nat := none
  repeat_ : Bool := false
  prefixed : Bool := false
  epoch : Nat := 0
  /-- binding the regions follow -/
  format : Nat := 0
  regions : List TileRegion := []
  gap : Nat := 0
  pace : Nat := 95
  dry : Nat := 4000
  /-- packets of the first of `regions` already sent -/
  packet : Nat := 0
  /-- symbols sent so far (σ), symbols of the frame (S), end point E in 2⁻¹⁶ ns, end of the last packet, and of what follows it on
  the lane -/
  sigma : Nat := 0
  total : Nat := 1
  endPoint : Int := 0
  packetEnd : Int := 0
  lastEnd : Int := 0
  /-- bytes in the well beyond the packets started, bytes of the frame not yet fetched -/
  level : Nat := 0
  unread : Nat := 0
  /-- Image cycle of the last fill of the well, and the level before it -/
  fillAt : Nat := 0
  levelWas : Nat := 0
  /-- lowest level and highest urgency of the frame, urgency now -/
  lowest : Nat := 32768
  highest : Nat := 0
  urgency : Nat := 0
  /-- numbers of regions whose canvas read was poisoned -/
  poisoned : NSet := []
  dryTold : Bool := false
  lateTold : Bool := false
  active : Bool := false
  deriving DecidableEq, Repr

/-- A SPAN_RECORD as received or sent (R278). -/
structure SpanRec where
  tick : Nat
  role : Nat
  done : Bool
  rate : Nat
  digest : Nat
  hist : SMap Nat
  at_ : Nat
  deriving DecidableEq, Repr

/-- Scan-out and span pairs. -/
structure PartScan where
  /-- bindings of the last canvases, newest first, at most 4 [records; 11_canvas_and_scanout.md R273; none] -/
  binds : List Binding := []
  /-- chain streamers [16 records; 11_canvas_and_scanout.md R267; idle] -/
  streamers : SMap Streamer := []
  /-- the canvas last streamed, kept for repeats, with its binding [1 canvas; 11_canvas_and_scanout.md R274; none] -/
  last : Option (Canvas × Binding) := none
  /-- display delay in force for the frames from its latch on: tick and value, newest first, at most 4 [list; 11_canvas_and_scanout.md R275; none] -/
  delays : List (Nat × Nat) := []
  /-- span: consecutive good ticks; locked once since the start [8 + 1; 11_canvas_and_scanout.md R280; 0] -/
  goodTicks : Nat := 0
  everLocked : Bool := false
  /-- span: own and partner's record for the frame under composition [2 records; 11_canvas_and_scanout.md R279; none] -/
  own : Option SpanRec := none
  partner : Option SpanRec := none
  /-- frames counted as compose misses [set; 01_architecture.md R17, 09_sources_and_layers.md R231, 10_composition.md R255; none] -/
  missed : NSet := []
  /-- epoch sent for the last frames: frame and epoch, newest first, at most 4 [list; 07_redundancy.md R188; none] -/
  epochs : List (Nat × Nat) := []
  /-- frame that is not streamed because the rate changes, + 1; in a tile the frame it does not expect, + 1 [48; 11_canvas_and_scanout.md R277, 08_time_and_tick.md R213; 0] -/
  skip : Nat := 0
  deriving DecidableEq, Repr

end Sys2Proof.Machine
end

