-- ==== Sys2Proof/Machine/PartLane.lean ====
section
/-! DEFINITION. State of the lanes, the eye scan and the DisplayPort receivers (chapter 05), beside their parameters. -/

namespace Sys2Proof.Machine

/-- A pattern checker or generator of a lane (R128, R130). -/
structure Pattern where
  /-- the last bits of the pattern, newest in bit 0, as far as the polynomial reaches -/
  window : Nat := 0
  /-- consecutive correct bits while unlocked -/
  run : Nat := 0
  /-- sequence octet of the last block, 256 before the first -/
  seq : Nat := 256
  /-- bits of the window that have been received since the last reseed -/
  filled : Nat := 0
  deriving DecidableEq, Repr

/-- One lane. -/
structure Lane where
  /-- initial adaptation has been done since the lane last left SIGNAL (R119) -/
  adapted : Bool := false
  /-- cycle in which the lane entered its state, plus 1 (R27, R120) -/
  enteredAt : Nat := 0
  /-- EV 89 has been raised since the lane's bring-up began (R121) -/
  polarityTold : Bool := false
  /-- quarter of a nanosecond in which the transmitter sent its last SKIP or left OFF (R117) -/
  skipAt : Nat := 0
  /-- symbols received up to the last invalid symbol, and the positions of the latest invalid ones -/
  symbols : Nat := 0
  invalid : List Nat := []
  /-- second window of EV 83: its first cycle and the invalid symbols in it -/
  secStart : Nat := 0
  secCount : Nat := 0
  /-- cycles of the last sync losses -/
  losses : List Nat := []
  /-- cycle + 1 since which each tap (0 for h1) has stood at a limit, and the taps already reported -/
  limitSince : SMap Nat := []
  limitTold : NSet := []
  /-- EV 86 raised and not yet recovered -/
  marginLow : Bool := false
  /-- symbols in the elastic buffer of 16 at the last slip, half full before any (R117) -/
  fill : Nat := 8
  gen : Pattern := {}
  chk : Pattern := {}
  deriving DecidableEq, Repr

/-- Format of a DP stream as the MSA and SDPs give it (R137). -/
structure DpFormat where
  width : Nat := 0
  height : Nat := 0
  totalWidth : Nat := 0
  totalHeight : Nat := 0
  /-- pixel clock in kHz -/
  clock : Nat := 0
  /-- frame rate in mHz -/
  rate : Nat := 0
  /-- bits per component -/
  bits : Nat := 0
  /-- 0 RGB, 1 YCbCr 4:4:4, 2 YCbCr 4:2:2, others unsupported -/
  format : Nat := 0
  colorimetry : Nat := 0
  transfer : Nat := 0
  range : Nat := 0
  deriving DecidableEq, Repr

/-- One DisplayPort receiver. -/
structure DpRx where
  /-- STATE of R143 while enabled with HPD high: 2 untrained … 7 training failed -/
  train : Nat := 2
  /-- DPCD bytes the source wrote or the receiver set, by address (R134, R138) -/
  dpcd : SMap Nat := []
  /-- EDID segment pointer and offset (R138) -/
  segment : Nat := 0
  offset : Nat := 0
  /-- HPD is low for the pulse of R136 -/
  pulse : Bool := false
  /-- HPD is low for the 250 ms of R139 -/
  cycling : Bool := false
  format : DpFormat := {}
  /-- a format within the limits has been read, so the stream is delivered -/
  delivered : Bool := false
  /-- HDR static metadata kept for the source stage, which reads it for the layer (R241) -/
  hdr : List Byte := []
  deriving DecidableEq, Repr

/-- Lane and receiver state. -/
structure PartLane where
  /-- lanes L0–L31 [32 records; 05_kryper_lanes.md R118–R131; fresh] -/
  lanes : SMap Lane := []
  /-- quads whose PLL has lost lock [8 × 1; 05_kryper_lanes.md R114; none] -/
  pllLost : NSet := []
  /-- lanes kept OFF for the 1 µs of R132 [32 × 1; 05_kryper_lanes.md R132; none] -/
  hold : NSet := []
  /-- lanes of port W and port E in force [2 × 5; 05_kryper_lanes.md R141, 03_start_and_reset.md R70; 0 and 1] -/
  portW : Nat := 0
  portE : Nat := 1
  /-- the port lanes run on the built-in settings, until the image's settings are applied [1; 05_kryper_lanes.md R122; 0] -/
  builtIn : Bool := false
  /-- rate code the two ports hunt at, and whether one has been adopted [2 + 1; 05_kryper_lanes.md R122; 0, no] -/
  hunt : Nat := 0
  adopted : Bool := false
  /-- lane of the running eye scan and the points it has completed [5 + 13; 05_kryper_lanes.md R127; none] -/
  scanLane : Option Nat := none
  scanPoints : Nat := 0
  /-- injections waiting for the next symbol of their lane: bits to invert [32 × 7; 05_kryper_lanes.md R131; none] -/
  injects : SMap Nat := []
  /-- `LCAL` in ohms as the termination was last calibrated against it, none for the fused nominal termination
  [count; 05_kryper_lanes.md R125; none] -/
  term : Option Nat := none
  /-- cycle + 1 of the last step of a lane trim [count; 05_kryper_lanes.md R125; 0] -/
  trimAt : Nat := 0
  /-- receivers DP0–DP3 [4 records; 05_kryper_lanes.md R133–R140; fresh] -/
  dp : SMap DpRx := []
  deriving DecidableEq, Repr

end Sys2Proof.Machine
end

