-- ==== Sys2Proof/Machine/PartStart.lean ====
section
/-! DEFINITION. State of power-up, resets, option bytes, pins and the staged start (chapters 01, 02 and 03).
The bracket that ends each docstring gives width; file and rule; value after reset. -/

namespace Sys2Proof.Machine

/-- The classes of a reset (R57, R59). -/
inductive ResetClass where
  | short | long
  deriving DecidableEq, Repr

/-- What a pin group does (R42, R43, R48). -/
inductive PinMode where
  /-- its supply is not valid -/
  | off
  /-- the weak pull-down before the option bytes are read (R48) -/
  | weakDown
  /-- high impedance before the map applies (R48) -/
  | highZ
  /-- the applied map state (R46) -/
  | map
  /-- driven low since the refresh-subframe boundary after a pipeline restart (R32, R46) -/
  | drivenLow
  /-- undriven since a paired member's pipeline restarted, the states of R193 (R32) -/
  | released
  /-- the configured function (R49) -/
  | configured
  deriving DecidableEq, Repr

/-- What the pins of one lamp bank do (R48, R56, R526). -/
inductive BankMode where
  /-- supply not valid -/
  | off
  /-- supply valid after the option read: the weak pull-down of at most 2 µs -/
  | weakDown
  /-- the map state that follows it, until the bank's pins return to their configured function -/
  | map
  /-- as their groups -/
  | normal
  deriving DecidableEq, Repr

/-- Start, reset and pin state. -/
structure PartStart where
  /-- supplies valid, by `Supply`, numbered 0 VDD_CORE, 1 VDD_SRAM, 2 VDD_DRAM, 3 VDDA_LANE09, 4 VDDA_LANE12, 5 VDDIO_G, 6 VDDIO_E, 7–10 VDDIO_L0–L3 [11 × 1; 03_start_and_reset.md R53, 25_electrical.md R525; none valid] -/
  valid : SMap Bool := []
  /-- VDD_CORE has fallen below its clearing threshold of 0.3 V since the last power-on reset [1; 03_start_and_reset.md R66, 25_electrical.md R525; DESIGN CHOICE 0, log entry 3] -/
  coreCleared : Bool := false
  /-- power-on reset is asserted [1; 03_start_and_reset.md R54; 1] -/
  por : Bool := true
  /-- level of `RESET_N` (true: high) [1; 03_start_and_reset.md R57; 1, the weak pull-up of R42] -/
  resetN : Bool := true
  /-- cycle in which `RESET_N` fell, while its low time is counted [count; 03_start_and_reset.md R57; none] -/
  lowSince : Option Nat := none
  /-- the flash answered within the last read of the option bytes [1; 03_start_and_reset.md R70, R72; DESIGN CHOICE 1, log entry 14] -/
  flashOk : Bool := true
  /-- `POR_OUT_N` is high: Control has been released since the last L0 or L1 reset [1; 02_pins_and_package.md R42, 03_start_and_reset.md R62, R74; 0] -/
  porOut : Bool := false
  /-- regions held because `RESET_N` was low at the release of power-on reset [1; 03_start_and_reset.md R58; 0] -/
  heldByPin : Bool := false
  /-- the reset a long press entered is held until `RESET_N` is high [1; 03_start_and_reset.md R57; 0] -/
  longHeld : Bool := false
  /-- the reset being carried out, until Image/Drive is released or its turn ends [2; 03_start_and_reset.md R60; L0, the power-on reset] -/
  resetting : Option Level := some .l0
  /-- requested reset waiting for its 10 ms [2; 03_start_and_reset.md R59; none] -/
  request : Option ResetClass := none
  /-- safe hold [1; 01_architecture.md R33; 0] -/
  safeHold : Bool := false
  /-- stopped at low-water under R3, R70, R71 or R76 [1; 03_start_and_reset.md R70; 0] -/
  stopped : Bool := false
  /-- no image verified: stays at low-water with the update service open [1; 03_start_and_reset.md R76; 0] -/
  noFirmware : Bool := false
  /-- the option bytes have been read since power-on reset [1; 03_start_and_reset.md R48; 0] -/
  optionRead : Bool := false
  /-- the 64-byte option record in force, byte 0 first [512; 03_start_and_reset.md R69; all 0 until read] -/
  record : List Byte := []
  /-- OTP copies A and B of the option bytes [2 × 512; 03_start_and_reset.md Option bytes; DESIGN CHOICE blank, log entry 3] -/
  otpA : List Byte := []
  otpB : List Byte := []
  /-- the role in force [2; 03_start_and_reset.md R70, 00_scope.md R1; none] -/
  role : Role := .none
  /-- regions released, by region number [5 × 1; 03_start_and_reset.md R74; none] -/
  released : SMap Bool := []
  /-- clock-good of each region, held in reset or not [5 × 1; 03_start_and_reset.md R74, R75; none] -/
  clockGood : SMap Bool := []
  /-- the region whose 2 ms turn is running, by number; 5 when all turns are over [3; 03_start_and_reset.md R74; 0] -/
  turn : Nat := 0
  /-- low-water has been reached since the last L0 or L1 reset [1; 03_start_and_reset.md R76; 0] -/
  lowWater : Bool := false
  /-- a ready bit other than OD_MIN and FORWARD has risen since (START_STAGE 2) [1; 03_start_and_reset.md R80; 0] -/
  highWater : Bool := false
  /-- READY_MAP [16; 03_start_and_reset.md R77; 0] -/
  ready : Nat := 0
  /-- cycle in which each ready bit rose last [16 counts; 22_field_update.md R493; 0] -/
  readyAt : SMap Nat := []
  /-- cycle in which the last reset ended [count; 03_start_and_reset.md R80; 0] -/
  resetEnd : Nat := 0
  /-- clusters quiesced and waiting for their restart, by 32 × region + cluster [set; 01_architecture.md R30, R31; none] -/
  quiesced : NSet := []
  /-- commit latches are held since an L2 reset or a pipeline restart until COMPOSE or CORRECTION rises [1; 03_start_and_reset.md R65; 0] -/
  latchHold : Bool := false
  /-- an Image/Drive pipeline restart (R32) or its L2 equivalent is under way [1; 01_architecture.md R32; 0] -/
  restarting : Bool := false
  /-- what each pin group PG0–PG15 does [16 × 3; 02_pins_and_package.md R43, R46, R48; off] -/
  groups : SMap PinMode := []
  /-- cycle in which each pin group last left its map state, plus 1 [16 counts; 02_pins_and_package.md R49; none] -/
  leftAt : SMap Nat := []
  /-- ports of an unpaired tile whose `LPn_OE` is driven low at their next refresh-subframe boundary [32; 01_architecture.md R32; none] -/
  oeLowDue : NSet := []
  /-- pulse outputs whose level was high when the last reset was entered [8 × 1; 02_pins_and_package.md R47, 03_start_and_reset.md R62; none] -/
  tpoHeld : NSet := []
  /-- in which groups state 5 (keep) holds the level of the reset's entry; elsewhere it acts as 1 [16 × 1; 02_pins_and_package.md R46, R47; none] -/
  keeps : NSet := []
  /-- what the pins of each lamp bank do [4 × 2; 02_pins_and_package.md R48, 03_start_and_reset.md R56; off] -/
  banks : SMap BankMode := []
  /-- banks in the 3.3 V class [4 × 1; 25_electrical.md R526; none] -/
  class33 : NSet := []
  /-- ports whose `LPn_OE` may not go high until the next display tick that latches a qualifying frame, as the complement: ports released from it [32 × 1; 02_pins_and_package.md R49, 03_start_and_reset.md R56; none released] -/
  oeFree : NSet := []
  /-- after an L2 reset or a pipeline restart PG14 waits for SCANOUT or DRIVE [1; 02_pins_and_package.md R43; 0] -/
  pg14Late : Bool := false
  /-- the thermal trip latch [1; 20_thermal_and_trims.md R455; 0] -/
  tripped : Bool := false
  deriving DecidableEq, Repr

end Sys2Proof.Machine
end

