-- ==== Sys2Proof/Machine/PartTherm.lean ====
section
/-! DEFINITION. State of the temperature sensor, the throttling pauses and the trims (chapter 20), beside parameters. -/

namespace Sys2Proof.Machine

/-- The background operations that pause at throttle-1 (R452). -/
abbrev Bg.POLDER : Nat := 0
abbrev Bg.DUMP : Nat := 1
abbrev Bg.DRAM_SCRUB : Nat := 2
abbrev Bg.CISTERN_SCRUB : Nat := 3
abbrev Bg.EYE_SCAN : Nat := 4
abbrev Bg.FLASH : Nat := 5

/-- Fused codes of one trim, and its code range (R456, R457). -/
structure Trim where
  cold : Int := 0
  room : Int := 0
  hot : Int := 0
  lo : Int := 0
  hi : Int := 0
  deriving DecidableEq, Repr

/-- Thermal and trim state. -/
structure PartTherm where
  /-- consecutive invalid samples [2; 20_thermal_and_trims.md R450; 0] -/
  invalid : Nat := 0
  /-- cycle + 1 of the last valid sample, and DIE_TEMP before that cycle [count + 16; 16_pump_loops.md R375; 0, none] -/
  dieAt : Nat := 0
  dieWas : Nat := 0x8000
  /-- the sensor fault holds the stage at throttle-2 or higher [1; 20_thermal_and_trims.md R450; 0] -/
  sensorFault : Bool := false
  /-- background operations waiting out BG_PAUSE [6 × 1; 20_thermal_and_trims.md R452; none] -/
  pauses : NSet := []
  /-- compositor clusters waiting out COMPOSE_PAUSE [set; 20_thermal_and_trims.md R453; none] -/
  composePauses : NSet := []
  /-- cycle of the last flash write of TEMP_MAX_LIFE [count; 20_thermal_and_trims.md R462; none] -/
  lifeAt : Option Nat := none
  /-- highest valid sample ever, kept in RAM until flash may be written [16; 20_thermal_and_trims.md R462; 0x8000 none] -/
  lifeMax : Nat := 0x8000
  /-- cycle since which the stage in force has counted whole seconds [count; 20_thermal_and_trims.md R462; 0] -/
  stageAt : Nat := 0
  /-- trim codes now and their targets, by 64 × domain + index [8 domains; 20_thermal_and_trims.md R457, R458; 0] -/
  codes : SMap Int := []
  targets : SMap Int := []
  /-- cycle + 1 of the last change between throttle-2 and a lower stage, and whether throttle-2 held before it [count + 1; 20_thermal_and_trims.md R454; 0] -/
  t2At : Nat := 0
  t2Was : Bool := false
  /-- fused trims by 64 × domain + index; domains whose sets are missing or fail their CRC, and of those the ones with a valid +25 °C set [8 domains; 20_thermal_and_trims.md R456, R459; DESIGN CHOICE none fused, log entry 3] -/
  fused : SMap Trim := []
  badSets : NSet := [0, 1, 2, 3, 4, 5, 6, 7]
  roomValid : NSet := []
  /-- domains whose failure has been reported since the last L0 reset [8; 20_thermal_and_trims.md R459; none] -/
  failTold : NSet := []
  deriving DecidableEq, Repr

end Sys2Proof.Machine
end

