-- ==== Sys2Proof/Machine/PartTile.lean ====
section
/-! DEFINITION. State of a tile's pipeline: correction and wear (chapter 12), lamp ports and buses (chapter 13), drive
sequencers (chapter 14), lamp diagnostics (chapter 15) and the pump engine (chapter 16); and the banks that are loaded
in pieces and sealed (R295, R312, R343, R388). -/

namespace Sys2Proof.Machine

/-- Contents that are written in pieces, sealed by a CRC-32 and bound to frames: a coefficient, map or fixture bank or a
program slot. -/
structure Sealed where
  /-- what a byte no write has reached holds: 0 zeros (R438), 1 the default coefficient records of `layout` (R294) -/
  fill : Nat := 0
  layout : Nat := 0
  /-- bytes written, + 1, by offset -/
  bytes : SMap Nat := []
  /-- 0 empty, 1 loading, 2 sealed -/
  st : Nat := 0
  crc : Nat := 0
  /-- copied to flash since it was sealed or loaded -/
  copied : Bool := false
  deriving DecidableEq, Repr

/-- A stored copy in flash (R296). -/
structure Stored where
  seq : Nat := 0
  valid : Bool := false
  data : Sealed := {}
  deriving DecidableEq, Repr

/-- The banks and program slots, keyed 16 × kind + bank with kind 0 coefficients, 1 maps, 2 fixtures, 3 programs. -/
structure PartSeal where
  /-- banks and slots in DRAM and cistern [2 × 8 MB + 2 × 16 MB + 2 × 2 MB + 8 × 20,544 bytes with seal state and CRC; 12_emitter_correction.md R295, 13_lamp_ports.md R312, 17_fixture_outputs.md R388, 14_drive_sequencers.md R343; empty, zeros] -/
  banks : SMap Sealed := []
  /-- stored copies in flash, two for each bank pair or slot, keyed 2 × key + copy [flash; 12_emitter_correction.md R296; DESIGN CHOICE none, log entry 3] -/
  flash : SMap Stored := []
  /-- banks whose copy to flash is due or under way [set; 12_emitter_correction.md R296; none] -/
  due : NSet := []
  deriving DecidableEq, Repr

/-- Values in force of the areas bound to a frame (R284, R321, R391). -/
structure Bind where
  frame : Nat
  dict : SMap Nat
  blobs : SMap Nat
  deriving DecidableEq, Repr

/-- A wear-gain table: the ledger it was built from and the values of area 28 it was built with (R304). -/
structure GainTable where
  ledger : SMap Nat := []
  dict : SMap Nat := []
  blobs : SMap Nat := []
  deriving DecidableEq, Repr

/-- The snapshot S(k) (R285). -/
structure Snap where
  frame : Nat
  /-- applied matrices: ten Q2.13 elements by zone, K row by row and then k_W; identity where not listed -/
  zones : SMap (List Int)
  /-- β′ -/
  beta : Nat
  gains : GainTable
  /-- lamps masked (R363) -/
  masks : NSet
  /-- not corrected at throttle-2 (R454) -/
  skip : Bool
  deriving DecidableEq, Repr

/-- A back buffer written through, or the front buffer (R21, R286). -/
structure Back where
  frame : Nat
  port : Nat
  /-- drive words that are not 0, by lamp -/
  words : SMap Nat
  clipped : Nat
  sig : Nat
  prefixed : Bool
  epoch : Nat
  src : Nat
  /-- cycle in which the last word was written -/
  at_ : Nat
  /-- which of the three drive buffers it is -/
  slot : Nat := 0
  deriving DecidableEq, Repr

/-- Frames, correction and wear of a tile. -/
structure PartTile where
  /-- bindings, newest first, at most three and the shown frame's [records; 12_emitter_correction.md R284, 13_lamp_ports.md R321; none] -/
  binds : List Bind := []
  /-- snapshots, newest first, at most three [records; 12_emitter_correction.md R285; none] -/
  snaps : List Snap := []
  /-- back buffers written through [2 buffers; 12_emitter_correction.md R286; none] -/
  backs : List Back := []
  /-- the front buffer, with the binding it is shown under [2 MB; 01_architecture.md R21; cleared] -/
  front : Option Back := none
  frontBind : Option Bind := none
  /-- the binding of the frame shown before, in force on each port until its first boundary [record; 13_lamp_ports.md R321; none] -/
  prevBind : Option Bind := none
  /-- decision of the last cut-off: frame, and port of the copy chosen [48 + 2; 01_architecture.md R20; none] -/
  chosen : Option (Nat × Option Nat) := none
  /-- copies whose correction met a poisoned coefficient, map or drive-buffer read, 2 × frame + port [set; 01_architecture.md R24; none] -/
  corrMiss : NSet := []
  /-- frame of the last display tick, + 1, and its cycle [48 + count; 01_architecture.md R21; none] -/
  displayed : Nat := 0
  dtAt : Option Nat := none
  /-- shift source of the frame to come: frame and port [48 + 2; 13_lamp_ports.md R317; none] -/
  shift : Option (Nat × Nat) := none
  /-- β presented at the last snapshots: frame and value, newest first, at most 3 [list; 12_emitter_correction.md R291; none] -/
  betas : List (Nat × Nat) := []
  /-- paired tile: β received for a frame, with its cycle; β′ of the last snapshot [record + 16; 12_emitter_correction.md R291; none; 32,768] -/
  betaIn : List (Nat × Nat × Nat) := []
  betaLast : Nat := 32768
  /-- cycle in which targets for the next snapshot were delivered [count; 12_emitter_correction.md R300; none] -/
  targetsAt : Option Nat := none
  /-- targets delivered, and those in use before them: ten elements by zone [16 × 160; 12_emitter_correction.md R300; identity] -/
  targets : SMap (List Int) := []
  oldTargets : SMap (List Int) := []
  /-- last temperature of each zone since the last L0 reset, in 1/16 °C [16 × 16; 12_emitter_correction.md R298; none] -/
  zoneTemp : SMap (Option Int) := []
  /-- cycle + 1 of the last snapshot's zone temperatures, and the hottest zone before it [count + 16; 16_pump_loops.md R375; none] -/
  hotAt : Nat := 0
  hotWas : Option Int := none
  /-- cycle + 1 of each sensor's last reading; sensors whose staleness has been reported [16 counts + 16; 12_emitter_correction.md R298; none] -/
  sensorAt : SMap Nat := []
  staleTold : NSet := []
  /-- wear ledger by lamp [1,048,576 × 32; 12_emitter_correction.md R301; 0, loaded from flash (R305)] -/
  ledger : SMap Nat := []
  /-- gain table in use; table being built, for the boundary tick; table built, its boundary, and its cycle [2 tables; 12_emitter_correction.md R304; none] -/
  gains : GainTable := {}
  gainReady : Bool := false
  building : Option (Nat × GainTable) := none
  built : Option (Nat × Nat × GainTable) := none
  /-- a lamp at the ceiling has been reported since the last L0 reset [1; 12_emitter_correction.md R303; 0] -/
  ceilingTold : Bool := false
  /-- ledger as a running flush took it; slots in flash: sequence and ledger; slots in force [record; 12_emitter_correction.md R305; none; DESIGN CHOICE none stored, log entry 3; 12] -/
  flush : Option (SMap Nat) := none
  slots : SMap (Option (Nat × SMap Nat)) := []
  slotCount : Nat := 12
  /-- LEDGER_COMMAND values latched and waiting for a display instant, oldest first [list; 12_emitter_correction.md R306; none] -/
  ledgerCmds : List Nat := []
  /-- stored banks and the ledger wait to be loaded after an L0 reset [1; 12_emitter_correction.md R296, R305; 1] -/
  loadDue : Bool := true
  /-- quads held dark because they fail the checks at the received rate; the frame from which a new such set holds, and that set [8 + 48 + 8; 13_lamp_ports.md R322; none] -/
  unfit : NSet := []
  unfitDue : Option (Nat × NSet) := none
  deriving DecidableEq, Repr

/-- Who holds a driver bus (R325). -/
inductive BusOwner where
  | idle
  /-- the program's I2C instruction, its descriptor at a data address -/
  | program (addr : Nat)
  | sensor (s : Nat)
  /-- a health read of strand 4 × i + s -/
  | health (strand : Nat)
  deriving DecidableEq, Repr

/-- A driver bus. -/
structure Bus where
  owner : BusOwner := .idle
  /-- the transaction is the retry after a NACK -/
  retried : Bool := false
  /-- marked failed; `EV 423` raised and the bus not recovered since -/
  failed : Bool := false
  stuckTold : Bool := false
  deriving DecidableEq, Repr

/-- A pin operation in a shift unit (R336). -/
structure PinOp where
  /-- number in issue order -/
  num : Nat
  /-- 0 SHW, 1 SHB, 2 SHR, 3 LAT, 4 STRM, 5 OEC, 6 PRB, 7 FSD -/
  kind : Nat
  mask : Nat
  src : Nat
  latch : Nat
  /-- count, taken from ra where the field is 0 -/
  count : Nat
  /-- value of ra -/
  value : Nat
  /-- first cycle in which it may reach the pins (R340) -/
  from_ : Nat
  /-- cycle in which it started, once it has -/
  start : Option Nat := none
  deriving DecidableEq, Repr

/-- A drive sequencer (R332). -/
structure Seq where
  /-- 0 stopped, 1 running, 2 waiting, 3 faulted -/
  st : Nat := 0
  slot : Nat := 0
  /-- ENTRY_FRAME of the program -/
  entryFrame : Nat := 0
  pc : Nat := 0
  /-- registers q1–q15 -/
  regs : SMap Nat := []
  data : SMap Nat := []
  /-- cycle in which the next instruction may issue; destination of the last LD and the cycle from which it is usable -/
  next : Nat := 0
  ldReg : Nat := 0
  ldAt : Nat := 0
  /-- cycle of the last WAIT issued or of the start (R346, code 0x06) -/
  waitAt : Nat := 0
  /-- mask and destination of the WAIT under way -/
  mask : Nat := 0
  rd : Nat := 0
  /-- pending events by code; frame of a pending FRAME, and of the FRAME last taken; pending PLANE or BLANK opens a probe slot -/
  pending : NSet := []
  frameOf : Nat := 0
  frameNow : Nat := 0
  probeOpens : Bool := false
  probeNow : Bool := false
  /-- cycle of the last boundary event; cycle of the WAIT completion after which the first shift instruction is to align -/
  boundary : Nat := 0
  align : Option Nat := none
  /-- operations issued so far; those in the unit, executing one first; cycle in which the last one ended -/
  issued : Nat := 0
  ops : List PinOp := []
  idleAt : Nat := 0
  /-- cycles at which operations waiting in each port's replay queue leave it (R341) -/
  replay : SMap (List Nat) := []
  /-- ports whose `LPn_OE` the program holds low (OEC) -/
  held : NSet := []
  /-- cycle + 1 in which the program last released each port's `LPn_OE` -/
  heldTo : SMap Nat := []
  /-- drive stream: reading the shift source; row, word order, words taken of the row -/
  shifting : Bool := false
  row : Nat := 0
  order : Nat := 0
  taken : Nat := 0
  /-- plane cursor: frame + 1, and planes of it shifted; plane last shifted by source 0 -/
  planeFrame : Nat := 0
  planes : Nat := 0
  lastPlane : Option (Nat × Nat) := none
  /-- frame + 1 whose frame-start shift has completed, and the cycle -/
  shifted : Nat := 0
  shiftedAt : Nat := 0
  /-- row slot and subframe in progress; end of the blanking under way; number of the last LAT issued in it -/
  rowNow : Nat := 0
  subNow : Nat := 0
  blankEnd : Nat := 0
  mustEnd : Nat := 0
  /-- row slots counted since the last offer of a probe; PROBE_FIRST; words of the probe pattern taken of the row -/
  slotCount : Nat := 0
  probeFirst : Nat := 0
  patternAt : Nat := 0
  /-- result of the last bus instruction; first and last words of planes done -/
  busStatus : Nat := 0
  /-- dark since a fault: 0 lit, 1 restarts at the next frame boundary, 2 until a commit that changes it, 3 restarted and waiting for its first frame-start shift -/
  dark : Nat := 0
  restartAt : Option Nat := none
  deriving DecidableEq, Repr

/-- A shift of frame `k` begins again in cycle `now`: operations discarded, cursor rewound, FRAME alone pending, and the
program at ENTRY_FRAME (R345). -/
def Seq.again (d : Seq) (k now : Nat) : Seq :=
  if d.st = 1 ∨ d.st = 2 then
    { d with st := 1, ops := [], replay := [], idleAt := now, pending := [0], frameOf := k, pc := d.entryFrame, next := now
             planes := if d.planeFrame = k + 1 then 0 else d.planes, align := none, shifting := false, taken := 0
             shifted := if d.shifted = k + 1 then 0 else d.shifted }
  else d

/-- Lamp ports, buses and sequencers. -/
structure PartDrive where
  /-- ports whose `LPn_OE` may go high since their last subframe boundary [32; 13_lamp_ports.md R326; none] -/
  lit : NSet := []
  /-- ports whose first subframe boundary since the last swap has come [32; 13_lamp_ports.md R321; none] -/
  begun : NSet := []
  /-- refresh subframe each port is in, and the cycle + 1 in which it began [32 × (7 + count); 13_lamp_ports.md R313; none] -/
  subAt : SMap (Nat × Nat) := []
  /-- driver buses DB0–DB7 [8 records; 13_lamp_ports.md R323–R325; idle] -/
  buses : SMap Bus := []
  /-- sequencers DS0–DS7 [8 records: 16 × 32 registers, 1,024 × 32 data, shift unit, replay queues, bus unit; 14_drive_sequencers.md R332; stopped] -/
  seqs : SMap Seq := []
  deriving DecidableEq, Repr

/-- What the device knows of a lamp (R358, R368). -/
structure Lamp where
  /-- 0 OK, 1 OPEN, 2 SHORT, 3 UNTESTED -/
  status : Nat := 3
  strikes : Nat := 0
  /-- kind of the last strikes: 0 open, 1 short -/
  kind : Nat := 0
  age : Nat := 2047
  /-- frame from which a declared lamp is masked -/
  from_ : Nat := 0
  deriving DecidableEq, Repr

/-- Lamp diagnostics. -/
structure PartHealth where
  /-- lamps away from UNTESTED [1,048,576 × 16; 15_lamp_health.md R368; UNTESTED, no strikes, age 2,047] -/
  lamps : SMap Lamp := []
  /-- end of the previous read of each strand: cycle + 1, by 16 × quad + strand [128 counts; 15_lamp_health.md R356; none] -/
  readAt : SMap Nat := []
  /-- lamps tested in the window of each strand so far, keyed 2^20 × (16 × quad + strand) + lamp [bitmap; 15_lamp_health.md R356, R357; none] -/
  tested : NSet := []
  /-- lamps lit long enough in the frame the front buffer holds, which count once DT(k+1) has passed [set; 15_lamp_health.md R356; none] -/
  lit : NSet := []
  litAt : Nat := 0
  /-- cycle + 1 in which each strand's read under way started [128 counts; 15_lamp_health.md R355; none] -/
  started : SMap Nat := []
  /-- fault list in flash: lamp and status, oldest first [4,096 × 32; 15_lamp_health.md R364; DESIGN CHOICE empty, log entry 3] -/
  stored : List (Nat × Nat) := []
  /-- the fault list as it stands, to be written to flash [4,096 × 32; 15_lamp_health.md R364; as in flash] -/
  list : List (Nat × Nat) := []
  /-- the list is to be written; the full list has been reported since the last L0 reset [1 + 1; 15_lamp_health.md R364; 0] -/
  listDue : Bool := false
  fullTold : Bool := false
  /-- declaration and clear events of the running second: cycle it began, and count; declarations without an event [count + 5 + 32; 15_lamp_health.md R361, R369; 0] -/
  secondAt : Nat := 0
  told : Nat := 0
  untold : Nat := 0
  /-- HEALTH_COMMAND values latched and not yet carried out [list; 15_lamp_health.md R365; none] -/
  cmds : List Nat := []
  /-- paired tile: mask changes of the active member: lamp, status (3 for a clear), frame, cycle of arrival [list; 15_lamp_health.md R366; none] -/
  fromActive : List (Nat × Nat × Nat × Nat) := []
  deriving DecidableEq, Repr

/-- A loop of the pump engine (R371–R385). -/
structure Loop where
  /-- mode in force -/
  mode : Nat := 0
  u : Nat := 0
  integ : Int := 0
  /-- applied gain scale -/
  scale : Nat := 32768
  preset : Bool := false
  err : Int := 0
  saturated : Bool := false
  skipped : Bool := false
  acted : Bool := false
  /-- block: steps done, crossings, sign of the latest step beyond THRESHOLD (+ 1 and − 1, 0 none) -/
  steps : Nat := 0
  crossings : Nat := 0
  sign : Int := 0
  /-- a step waits in the queue; step slot in which it fell due -/
  waiting : Bool := false
  /-- cycle + 1 since which every step was cut at lo or hi; `EV 484` raised for this entry -/
  satSince : Nat := 0
  satTold : Bool := false
  /-- consecutive steps with the input below INPUT_ALARM -/
  low : Nat := 0
  deriving DecidableEq, Repr

/-- An analogue input (R373). -/
structure Ain where
  /-- last conversions, newest first, at most 16 -/
  codes : List Nat := []
  /-- cycle + 1 of the latest conversion; the value before it -/
  at_ : Nat := 0
  prev : Nat := 0
  prevAt : Nat := 0
  /-- consecutive conversions at 0 or 4,095; `EV 485` raised -/
  rail : Nat := 0
  told : Bool := false
  deriving DecidableEq, Repr

/-- A tachometer input (R374). -/
structure Tach where
  /-- cycle + 1 of the last edge -/
  edge : Nat := 0
  /-- `EV 486` raised and the fan not turned since -/
  told : Bool := false
  /-- cycle + 1 of the last change of speed, and the speed before that cycle -/
  at_ : Nat := 0
  was : Nat := 0
  deriving DecidableEq, Repr

/-- State of a loop as the active member sends it (R384). -/
structure LoopRec where
  loop : Nat
  u : Nat
  integ : Int
  scale : Nat
  deriving DecidableEq, Repr

/-- Loop states received for a frame, with the cycle of their arrival. -/
structure LoopMsg where
  frame : Nat
  at_ : Nat
  loops : List LoopRec
  deriving DecidableEq, Repr

/-- The pump engine. -/
structure PartPump where
  /-- step slot counter from the rise of PUMP [count; 16_pump_loops.md R371; 0] -/
  slot : Nat := 0
  /-- loops 0–15 [16 records; 16_pump_loops.md R378–R382; OFF, 0, scale 1.0] -/
  loops : SMap Loop := []
  /-- channels AIN0–AIN7 [8 records; 16_pump_loops.md R373; no conversion] -/
  ains : SMap Ain := []
  /-- TACH0, TACH1 [2 records; 16_pump_loops.md R374; no edge] -/
  tachs : SMap Tach := []
  /-- duty codes last given to PWO0–PWO9, in high cycles of the period; cycle + 1 in which each was given, and the code in force then, which
  holds to the end of its PWM period [10 × (14 + count + 14); 16_pump_loops.md R376; 0, low] -/
  duty : SMap Nat := []
  dutyAt : SMap Nat := []
  dutyWas : SMap Nat := []
  /-- the loops run; they have run since the last L0 reset [1 + 1; 16_pump_loops.md R383; 0] -/
  running : Bool := false
  ran : Bool := false
  /-- OSC_RESET bits written and waiting for their latch [16; 16_pump_loops.md R382; 0] -/
  oscReset : Nat := 0
  /-- paired tile: loop states received, newest first [list; 16_pump_loops.md R384; none] -/
  fromActive : List LoopMsg := []
  /-- the β loop's output is below 32,767 (R385) [1; 16_pump_loops.md R385; 0] -/
  capped : Bool := false
  deriving DecidableEq, Repr

end Sys2Proof.Machine
end

