-- ==== Sys2Proof/Machine/PartTime.lean ====
section
/-! DEFINITION. State of the time counter, the servo, PTP, the time-stamp queue, ticks and pulse outputs (chapter 08). -/

namespace Sys2Proof.Machine

/-- An entry of the transmit time-stamp queue (R202). -/
structure TsqEntry where
  /-- messageType in bits 15 to 12, sequenceId in bits 11 to 0 -/
  tag : Nat
  /-- 0 GbE, 1–8 T1S0–T1S7 -/
  port : Nat
  /-- nanoseconds -/
  time : Nat
  /-- cycle it was written -/
  at_ : Nat
  deriving DecidableEq, Repr

/-- What an Announce says of a master, for the comparison of the default BMCA (R200, R209). -/
structure Foreign where
  priority1 : Nat
  clockClass : Nat
  accuracy : Nat
  variance : Nat
  priority2 : Nat
  identity : Nat
  steps : Nat
  sender : Nat
  deriving DecidableEq, Repr

/-- A master that Announces have told of, with the cycles of the last two (R209). -/
structure ForeignRec where
  set : Foreign
  last : Nat
  prev : Option Nat := none
  deriving DecidableEq, Repr

/-- A pulse output (R216, R217). -/
structure Tpo where
  /-- in its active level, and inverted while it is, as when the pulse began -/
  active : Bool := false
  inv : Bool := false
  /-- counter value (2⁻⁴⁸ ns) at which the current width ends -/
  until_ : Nat := 0
  /-- a programme is running: it has rising edges to come -/
  armed : Bool := false
  /-- the counter value below or at which edges count as past -/
  from_ : Nat := 0
  deriving DecidableEq, Repr

/-- Time state. -/
structure PartTime where
  /-- the time counter in units of 2⁻⁴⁸ ns (48 bits of seconds, 30 of nanoseconds, 16 of fraction visible, its increment held to 2⁻⁴⁸ ns) [126; 08_time_and_tick.md R198; 0] -/
  counter : Nat := 0
  /-- frequency correction f applied, in 2⁻²⁶ ppb [signed; 08_time_and_tick.md R205; 0] -/
  freq : Int := 0
  /-- integrator I, in 2⁻²⁶ ppb [signed; 08_time_and_tick.md R205; 0] -/
  integ : Int := 0
  /-- the last applied values of f, newest first, at most 64 [64; 08_time_and_tick.md R207; none] -/
  hist : List Int := []
  /-- servo state: 0 free run, 1 acquiring, 2 locked, 3 holdover [2; 08_time_and_tick.md R206, R218; 0] -/
  servo : Nat := 0
  /-- consecutive samples within LOCK_THRESHOLD, and beyond 8 × LOCK_THRESHOLD [counts; 08_time_and_tick.md R206; 0] -/
  near : Nat := 0
  far : Nat := 0
  /-- TIME_SET has been written since the last L0 reset [1; 08_time_and_tick.md R204; 0] -/
  setDone : Bool := false
  /-- current tick and the highest tick strobed [48 + 48; 08_time_and_tick.md R211; 0] -/
  tick : Nat := 0
  strobed : Nat := 0
  /-- tick whose commit latch last ran, 0 for none [48; 04_object_dictionary.md R100, 08_time_and_tick.md R211; 0] -/
  latched : Nat := 0
  /-- tile: rate code taken from markers [4; 08_time_and_tick.md R218; 8] -/
  tileRate : Nat := 8
  /-- cycle of the last `REF_IN` edge; none when one is missing [count; 08_time_and_tick.md R204; none] -/
  refLast : Option Nat := none
  /-- PTP port: masters heard of [records; 08_time_and_tick.md R200, R209; none] -/
  foreigns : List ForeignRec := []
  /-- PTP port: best foreign master chosen [record; 08_time_and_tick.md R209; none] -/
  master : Option Foreign := none
  /-- two-step Sync waiting for its Follow_Up: sequenceId and arrival stamp [record; 08_time_and_tick.md R200; none] -/
  sync : Option (Nat × Nat) := none
  /-- last Sync: origin and arrival, in 2⁻¹⁶ ns [2 × 94; 08_time_and_tick.md R204; none] -/
  lastSync : Option (Nat × Nat) := none
  /-- Delay_Req sent: sequenceId and its stamp, once retrieved [record; 08_time_and_tick.md R203; none] -/
  delayReq : Option (Nat × Option Nat) := none
  /-- mean path delay in 2⁻¹⁶ ns, once measured [signed; 08_time_and_tick.md R204; none] -/
  path : Option Int := none
  /-- sequence numbers of Sync, Announce and Delay_Req sent [3 × 16; 08_time_and_tick.md R200; 0] -/
  syncSeq : Nat := 0
  announceSeq : Nat := 0
  delaySeq : Nat := 0
  /-- the head is eligible to be PTP master [1; 08_time_and_tick.md R209; 0] -/
  eligible : Bool := false
  /-- transmit time-stamp queue, oldest first [16 entries; 08_time_and_tick.md R202; empty] -/
  tsq : List TsqEntry := []
  /-- tile: consecutive close markers before TIME_LOCK; consecutive markers beyond 1 µs after it [counts; 08_time_and_tick.md R215; 0] -/
  close : Nat := 0
  wide : Nat := 0
  /-- tile: the counter has been stepped to its first usable marker [1; 08_time_and_tick.md R215; 0] -/
  stepped : Bool := false
  /-- tile: offset from each port's marker of the current tick, 2⁻¹⁶ ns [2; 08_time_and_tick.md R214; none] -/
  offsets : SMap (Option Int) := []
  /-- tile: port whose copy was ranked first in the previous tick, or else of the first usable marker, the cycle of that marker while no copy has been ranked, and the port ranked first in the tick under way [2 + count + 2; 08_time_and_tick.md R214; none] -/
  ranked : Option Nat := none
  firstAt : Option Nat := none
  rankNext : Option Nat := none
  /-- tile: a marker was used for the current tick [1; 08_time_and_tick.md R214; 0] -/
  used : Bool := false
  /-- TPO0–TPO7 [8 records; 08_time_and_tick.md R216; off] -/
  tpo : SMap Tpo := []
  deriving DecidableEq, Repr

end Sys2Proof.Machine
end

