-- ==== Sys2Proof/Machine/State.lean ====
section
/-! DEFINITION. The state of the TH-9480, its faults and refusals, and the state after reset. -/

namespace Sys2Proof.Machine

/-- Why a run stops with a fault. -/
inductive Fault where
  /-- Raised by no meaning of this model: the spec gives every command an effect, a refusal in its own response or
  no effect at all.  Safe: it can never occur. -/
  | neverRaised
  deriving DecidableEq, Repr

/-- Why a command is refused. -/
inductive Refusal where
  /-- A command whose meaning is not written yet, by its mnemonic, raised by the dispatch alone.  Safe: the run stops. -/
  | notModelled (mnemonic : String)
  deriving DecidableEq, Repr

/-- The whole state of the device and, as the model's own, its cycle count, its queue of commands, its free counter
and the record of what it sent. -/
structure State where
  /-- cycles of 4 ns of the Time region since the model began [count; model's own, log entry 1; 0] -/
  now : Nat := 0
  /-- quarters of a nanosecond of the Time region's cycle that have passed [4; model's own, log entry 1; 0] -/
  phase : Nat := 0
  /-- commands that wait, first in, first out [list; model's own; empty] -/
  pending : List Instr := []
  /-- number of free values taken so far [count; model's own, log entry 2; DESIGN CHOICE 0] -/
  free : Nat := 0
  /-- everything sent so far, newest first [list; model's own, log entry 6; empty] -/
  outbox : List Out := []
  /-- scalar parameters of the object dictionary away from their defaults, keyed 65,536 × parameter + index
  [widths of the parameter table; 04_object_dictionary.md R83, R538; none away from its default] -/
  dict : SMap Nat := []
  /-- bytes of BLOB and STR parameters away from their defaults, keyed 2^28 × (65,536 × parameter + index) + offset
  [widths of the parameter table; 04_object_dictionary.md R83, R538; none away from its default] -/
  blobs : SMap Nat := []
  start : PartStart := {}
  od : PartOd := {}
  ev : PartEv := {}
  lane : PartLane := {}
  time : PartTime := {}
  therm : PartTherm := {}
  chain : PartChain := {}
  red : PartRed := {}
  src : PartSrc := {}
  comp : PartComp := {}
  scan : PartScan := {}
  store : PartSeal := {}
  tile : PartTile := {}
  drive : PartDrive := {}
  health : PartHealth := {}
  pump : PartPump := {}
  fix : PartFix := {}
  eth : PartEth := {}
  dram : PartDram := {}
  security : PartSec := {}
  upd : PartUpd := {}
  perf : PartPerf := {}
  deriving DecidableEq, Repr

/-- The machine right after reset: supplies off, power-on reset asserted, every parameter at its default. -/
def State.reset : State := {}

end Sys2Proof.Machine
end

