-- ==== Sys2Proof/Machine/Ops.lean ====
section
/-! DEFINITION. The operations every meaning shares: parameters, option record, ready bits, events, free values, output. -/

namespace Sys2Proof.Machine

/-- The outcome of a step. -/
abbrev Res := Host.Outcome State Fault Refusal

/-! Time units -/

/-- Units of the time counter in one nanosecond (R198). -/
abbrev nsUnit : Nat := 281474976710656

/-- Cycles of the Time region in one microsecond, millisecond and second. -/
abbrev us : Nat := 250
abbrev ms : Nat := 250000
abbrev sec : Nat := 250000000

/-- The counter in whole nanoseconds. -/
def State.nowNs (s : State) : Nat := s.time.counter / nsUnit

/-- The cycle of the Image region's clock of 1 ns and of the Control region's clock of 1.25 ns (R29). -/
def State.imageNow (s : State) : Nat := (16 * s.now + s.phase) / 4
def State.controlNow (s : State) : Nat := (16 * s.now + s.phase) / 5

/-- Cycles of the Control region in one second. -/
abbrev controlSec : Nat := 800000000

/-- Whether something that was seen in a home-clock cycle `at_` counts before a deadline in cycle `now`; with `tie` it is
late in that very cycle (R27, R28). -/
def inTime (tie : Bool) (at_ now : Nat) : Bool := !tie || at_ < now

/-- Whether something that was seen in cycle `at_` counts before a deadline that falls now.  `tie` says that the
deadline falls in the very cycle `now`; then what was seen in this cycle is late (R27, log entry 1). -/
def State.onTime (s : State) (tie : Bool) (at_ : Nat) : Bool := inTime tie at_ s.now

/-! Option record (R69) -/

/-- The record the default of R69 spells: state 1 in every pin group, FORMAT 0x01, tile role. -/
def defaultRecord : List Byte :=
  [0x01, 0x02, 0, 0, 0x49, 0x92, 0x24, 0x49, 0x92, 0x24] ++ List.replicate 5 0 ++ [0xFF] ++ List.replicate 48 0

/-- The field of `w` bits of an option record whose lowest bit is `lo`; an unread record reads 0. -/
def recField (rec : List Byte) (lo w : Nat) : Nat := field (leNat rec) lo w

def State.paired (s : State) : Bool := recField s.start.record 11 1 == 1
def State.sideB (s : State) : Bool := recField s.start.record 10 1 == 1
def State.managerEn (s : State) : Bool := recField s.start.record 12 1 == 1
def State.isHead (s : State) : Bool := s.start.role == .head
def State.isTile (s : State) : Bool := s.start.role == .tile
/-- A paired tile (R9). -/
def State.isPairedTile (s : State) : Bool := s.isTile && s.paired

/-! Parameters -/

/-- Key of a scalar element in `State.dict`. -/
def pkey (id idx : Nat) : Nat := id * 65536 + idx

/-- Key of a byte of a BLOB or STR element in `State.blobs`. -/
def bkey (id idx off : Nat) : Nat := pkey id idx * 268435456 + off

/-- The row of a parameter. -/
def findParam (id : Nat) : Option Param := (paramsOf (id / 65536)).find? (fun p => p.id == id)

/-- Default of a scalar element in a role and on a side. -/
def dfltAt (tile sideB : Bool) (id idx : Nat) : Nat :=
  if id = P.ZONE_SENSORS then (if idx = 0 then 0xFFFF else 0)
  else if id = P.CLAIM_HOLDOFF then (if sideB then 500 else 0)
  else match findParam id with
    | some p => if tile then p.dfltTile else p.dflt
    | none => 0

/-- The value in force of a scalar element: what has been written, or its default. -/
def State.par (s : State) (id : Nat) (idx : Nat := 0) : Nat :=
  SMap.get (dfltAt s.isTile s.sideB id idx) s.dict (pkey id idx)

/-- Set a scalar element; a value equal to the default leaves no entry. -/
def State.setPar (s : State) (id idx v : Nat) : State :=
  { s with dict := SMap.set (dfltAt s.isTile s.sideB id idx) s.dict (pkey id idx) v }

/-- Advance a counter that rolls over at `w` bits. -/
def State.bump (s : State) (id : Nat) (idx : Nat := 0) (w : Nat := 32) : State :=
  s.setPar id idx ((s.par id idx + 1) % 2 ^ w)

/-- Advance a counter by `n`, rolling over at 32 bits. -/
def State.bumpBy (s : State) (id idx n : Nat) : State := s.setPar id idx ((s.par id idx + n) % 2 ^ 32)

/-- "TH-9480", the default of `#0C.0004`. -/
def defaultName : List Nat := [0x54, 0x48, 0x2D, 0x39, 0x34, 0x38, 0x30]

/-- Default of one byte of a BLOB or STR element. -/
def blobDflt (id idx off : Nat) : Nat :=
  if id = P.DP_EDID then Config.defaultEdid off % 256
  else if id = P.SACN_SOURCE_NAME then defaultName.getD off 0
  else if id = P.WEAR_CURVE then (if off % 2 = 1 then 0x80 else 0)
  else if id = P.LAYER_LOSS_FILL ∨ id = P.SOLID_COLOUR ∨ id = P.CANVAS_BACKGROUND then (if off = 9 then 255 else 0)
  else if id = P.OPTION_OVERLAY ∨ id = P.DUMP_COUNTERS ∨ id = P.FAULT_LIST then 255
  else if id = P.DUMP_RING then Config.ringByte off % 256
  else if id = P.TONE_CURVE then (Config.identityCurve (off / 2) / 256 ^ (off % 2)) % 256
  else Config.blobDefault id idx off % 256

/-- One byte in force of a BLOB or STR element. -/
def State.blobByte (s : State) (id idx off : Nat) : Nat :=
  SMap.get (blobDflt id idx off) s.blobs (bkey id idx off)

/-- `n` bytes in force from `off`. -/
def State.blob (s : State) (id idx off n : Nat) : List Byte :=
  (List.range n).map fun i => BitVec.ofNat 8 (s.blobByte id idx (off + i))

/-- The little-endian number in `n` bytes from `off`. -/
def State.blobNat (s : State) (id idx off n : Nat) : Nat := leNat (s.blob id idx off n)

/-- Write bytes from `off` upward. -/
def State.setBlob (s : State) (id idx : Nat) : Nat → List Byte → State
  | _, [] => s
  | off, b :: bs =>
    State.setBlob { s with blobs := SMap.set (blobDflt id idx off) s.blobs (bkey id idx off) b.toNat } id idx (off + 1) bs

/-- A parameter's reset level returns at a reset carried out at `lvl` (R63). -/
def Lvl.returns (l : Lvl) (lvl : Level) : Bool :=
  match l, lvl with
  | .none, _ => false
  | .l0, .l0 => true
  | .l0, _ => false
  | .l1, .l2 => false
  | .l1, _ => true
  | .l2, _ => true

/-- The level of a parameter; a parameter that is in no table has none. -/
def lvlOf (id : Nat) : Lvl := match findParam id with | some p => p.lvl | none => .none

/-- Every parameter of the reset's level or a shallower one back to its default (R63); a freeze of the counters ends with its
parameter (R507). -/
def State.resetParams (s : State) (lvl : Level) : State :=
  { s with
    perf := { s.perf with frozen := false }
    dict := s.dict.filter (fun e => !(lvlOf (e.1 / 65536)).returns lvl)
    blobs := s.blobs.filter (fun e => !(lvlOf (e.1 / 268435456 / 65536)).returns lvl) }

/-- A cluster is quiesced and serves nothing until its restart (R30, R31). -/
def State.clusterOut (s : State) (r : Region) (c : Nat) : Bool := s.start.quiesced.contains (32 * r.num + c)

/-! Counters (R498) -/

/-- A counter of `#38.0001` advances by `n`; while frozen the increment is lost (R504). -/
def State.count (s : State) (c : Nat) (n : Nat := 1) : State :=
  if s.perf.frozen then s
  else { s with perf := { s.perf with counters := SMap.set 0 s.perf.counters c ((SMap.get 0 s.perf.counters c + n) % 2 ^ 64) } }

/-- Counters of activity inside the device that the model does not step; free values make them advance (log entry 20). -/
def State.unseen (s : State) (c : Nat) : Bool :=
  [1, 2, 70, 72, 73, 192, 193, 257].contains c || (s.isHead && [7, 256, 258, 259, 261].contains c) || (s.isTile && c == 260)

/-- Codes that the role does not run (R498). -/
def State.counterAbsent (s : State) (c : Nat) : Bool :=
  (!s.isHead && [7, 8, 9].contains c) || (!s.isTile && c == 194) || (s.start.role == .none && decide (256 ≤ c))

/-- In a cycle of the Time region the counters of unseen activity advance in the regions that run (R498). -/
def State.unseenCycle (s : State) : State :=
  [1, 2, 7, 70, 72, 73, 192, 193, 256, 257, 258, 259, 260, 261].foldl (fun (s : State) c =>
    if s.unseen c && !s.counterAbsent c && SMap.get false s.start.released (c / 64) then s.count c (Config.unseenCount c s.now) else s) s

/-- `n` more bytes at a monitor in cycle `now` (R499, R500). -/
def Monitor.take (x : Monitor) (now n : Nat) : Monitor :=
  { x with inTick := x.inTick + n, last := now + 1, lastBytes := (if x.last = now + 1 then x.lastBytes else 0) + n }

/-- A bandwidth monitor's bytes in the current tick: `n` more for the monitors attached to a port of a class in a direction,
1 inbound or 2 outbound (R499). -/
def State.monCount (s : State) (cls idx dir n : Nat) : State :=
  (List.range 32).foldl (fun (s : State) m =>
    let v := s.par P.BW_SELECT m
    if field v 8 8 = cls ∧ field v 0 8 = idx ∧ (field v 24 2 = 0 ∨ field v 24 2 = dir) then
      { s with perf := { s.perf with monitors := SMap.upd {} s.perf.monitors m fun (x : Monitor) => x.take s.now n } }
    else s) s

/-! Free values and output -/

/-- A fresh free value (AN UNDEFINED VALUE of the spec, log entry 2) and the state with the counter advanced. -/
def State.takeFree (s : State) : Nat × State := (Config.freeValue s.free, { s with free := s.free + 1 })

/-- Record something sent. -/
def State.send (s : State) (o : Out) : State := { s with outbox := o :: s.outbox }

/-! Ready bits (R77, R78) -/

/-- Bit numbers of READY_MAP. -/
abbrev B.OD_MIN : Nat := 0
abbrev B.FORWARD : Nat := 1
abbrev B.DRAM : Nat := 2
abbrev B.FW : Nat := 3
abbrev B.TIME_LOCK : Nat := 4
abbrev B.LANES : Nat := 5
abbrev B.INPUTS : Nat := 6
abbrev B.COMPOSE : Nat := 7
abbrev B.SCANOUT : Nat := 8
abbrev B.CORRECTION : Nat := 9
abbrev B.DRIVE : Nat := 10
abbrev B.PUMP : Nat := 11
abbrev B.FIXTURE : Nat := 12
abbrev B.MAC : Nat := 13
abbrev B.REDUNDANCY_SYNC : Nat := 14
abbrev B.SHOW : Nat := 15

/-- A region is released (R74). -/
def State.isReleased (s : State) (r : Region) : Bool := SMap.get false s.start.released r.num

/-- A ready bit is set. -/
def State.rdy (s : State) (i : Nat) : Bool := bit s.start.ready i

/-- `#02.0005 START_STAGE` (R80).  Between the end of a reset and low-water, where R80 names no value, it reads 0 (DESIGN
CHOICE, log entry 14). -/
def State.startStage (s : State) : Nat :=
  if s.start.tripped then 5 else if s.start.safeHold then 4 else if s.start.resetting.isSome || !s.start.lowWater then 0
  else if s.start.stopped || s.start.noFirmware then 1 else if s.rdy B.SHOW then 3 else if s.start.highWater then 2 else 1

/-- Prerequisite bits of a ready bit in a role (R77). -/
def prereqs (head : Bool) (i : Nat) : List Nat :=
  match i with
  | 3 => [2, 0]
  | 4 => if head then [3] else [3, 1]
  | 5 => [3]
  | 6 => [5]
  | 7 => [3, 2, 4]
  | 8 => [7, 5]
  | 9 => [3, 2, 5]
  | 10 => [9, 4]
  | 11 => [3]
  | 12 => [7, 4]
  | 13 => [3]
  | 14 => if head then [8] else [10]
  | 15 => if head then [8] else [10]
  | _ => []

/-- Bits a role runs (R77); a device with no role in force keeps only OD_MIN, FORWARD and DRAM. -/
def roleBits (r : Role) (paired : Bool) : List Nat :=
  match r with
  | .head => [0, 2, 3, 4, 5, 6, 7, 8, 12, 13, 14, 15]
  | .tile => [0, 1, 2, 3, 4, 5, 9, 10, 11, 13] ++ (if paired then [14] else []) ++ [15]
  | .none => [0, 1, 2]

/-- The ready bits of `m` whose prerequisites, taken from the lowest upward, are all still set (R78). -/
def readyClosure (head : Bool) (m : Nat) : Nat :=
  (List.range 16).foldl (fun r i =>
    if bit m i && (prereqs head i).all (bit r) then r + 2 ^ i else r) 0

/-! Events (R509–R511) -/

/-- The raise as its collector stamps it. -/
def State.mkRaise (s : State) (ev idx detail cluster : Nat) : Raise :=
  { ev := ev, sev := evSev ev, region := evRegion ev, cluster := cluster, index := idx, detail := detail
    time := s.nowNs, tick := s.time.tick }

/-- Put a raise in its region's collector queue of 64, or lose it (R511); before low-water it is held (R67). -/
def State.enqueue (s : State) (r : Raise) : State × Bool :=
  if !s.start.lowWater then ({ s with ev := { s.ev with held := s.ev.held ++ [r] } }, true)
  else
    let q := SMap.get [] s.ev.collectors r.region
    if q.length < 64 then
      ({ s with ev := { s.ev with collectors := SMap.set [] s.ev.collectors r.region (q ++ [r]) } }, true)
    else (s, false)

/-- Whether a rate-limited event may be raised again: `cycles` have passed since its last raise. -/
def State.mayRaise (s : State) (ev idx cycles : Nat) : Bool :=
  match SMap.get 0 s.ev.limits (ev * 65536 + idx) with
  | 0 => true
  | n + 1 => n + cycles ≤ s.now

/-- Note that a rate-limited event is raised now. -/
def State.noteRaise (s : State) (ev idx : Nat) : State :=
  { s with ev := { s.ev with limits := SMap.set 0 s.ev.limits (ev * 65536 + idx) (s.now + 1) } }

/-- Raise what its collector has stamped: it is counted and queued; a full queue loses it and raises EV 24, at most once
per second (R510, R511). -/
def State.raiseRec (s : State) (r : Raise) : State :=
  let s := s.bump P.EVENT_COUNT r.ev
  match s.enqueue r with
  | (s, true) => s
  | (s, false) =>
    if s.mayRaise E.EVENT_OVERFLOW 0 sec then
      let s := (s.bump P.EVENT_COUNT E.EVENT_OVERFLOW).noteRaise E.EVENT_OVERFLOW 0
      (s.enqueue (s.mkRaise E.EVENT_OVERFLOW 0xFFFF 0 0)).1
    else s.bump P.EVENT_COUNT E.EVENT_OVERFLOW

/-- Raise an event in its own region. -/
def State.raise (s : State) (ev : Nat) (idx : Nat := 0xFFFF) (detail : Nat := 0) (cluster : Nat := 0) : State :=
  s.raiseRec (s.mkRaise ev idx detail cluster)

/-- Raise an event that its own rule limits to one per `cycles` (per index): a suppressed raise is only counted (R510). -/
def State.raiseLimited (s : State) (ev idx cycles : Nat) (detail : Nat := 0) : State :=
  if s.mayRaise ev idx cycles then (s.raise ev idx detail).noteRaise ev idx
  else s.bump P.EVENT_COUNT ev

/-- Raise an event that its own rule limits to one per tick (per index, or per `key` where the rule counts otherwise): a
suppressed raise is only counted (R510). -/
def State.raiseTick (s : State) (ev : Nat) (idx : Nat := 0xFFFF) (detail : Nat := 0) (key : Nat := idx) : State :=
  if SMap.get 0 s.ev.tickLimits (ev * 65536 + key) = s.time.tick + 1 then s.bump P.EVENT_COUNT ev
  else
    { s with ev := { s.ev with tickLimits := SMap.set 0 s.ev.tickLimits (ev * 65536 + key) (s.time.tick + 1) } }.raise ev idx detail

/-- Raise an event when a condition holds. -/
def State.raiseIf (s : State) (c : Bool) (ev : Nat) (idx : Nat := 0xFFFF) (detail : Nat := 0) : State :=
  if c then s.raise ev idx detail else s

/-- Apply `f` when a condition holds. -/
def State.when (s : State) (c : Bool) (f : State → State) : State := if c then f s else s

/-- Apply `f` for each element of a list in order. -/
def State.each {α : Type} (s : State) (l : List α) (f : State → α → State) : State := l.foldl f s

/-! Ready bits rise and clear (R78) -/

/-- The bits of `m` are kept as far as their prerequisites allow; a bit that clears outside a reset is reported by
EV 17, which names the lowest one lost (R78). -/
def State.keepReady (s : State) (m : Nat) : State :=
  let was := s.start.ready
  let r := readyClosure s.isHead (was &&& m)
  let s := { s with start := { s.start with ready := r } }
  match lowBit (was ^^^ r) 16 with
  | some i => s.raiseIf s.start.resetting.isNone E.READY_LOST i
  | none => s

/-- A ready bit clears, and with it every bit that needs it (R78). -/
def State.clearReady (s : State) (i : Nat) : State := s.keepReady (0xFFFF - 2 ^ i)

/-- A ready bit that its role runs rises once its prerequisites are set; READY_TIME takes the microseconds since the
last reset ended (R77, R78, R80). -/
def State.setReady (s : State) (i : Nat) : State :=
  if s.rdy i || !(roleBits s.start.role s.paired).contains i || !(prereqs s.isHead i).all s.rdy then s
  else
    let s := { s with start := { s.start with ready := s.start.ready + 2 ^ i
                                              highWater := s.start.highWater || (i != B.OD_MIN && i != B.FORWARD) } }
    let s := { s with start := { s.start with readyAt := SMap.set 0 s.start.readyAt i s.now } }
    s.setPar P.READY_TIME i (if s.start.resetting.isSome then 0 else min ((s.now - s.start.resetEnd) / us) 0xFFFFFFFE)

/-! The sluice as others see it (R176, R177) -/

/-- States of the sluice (R177). -/
abbrev SL.OFF : Nat := 0
abbrev SL.SINGLE : Nat := 1
abbrev SL.HOLDOFF : Nat := 2
abbrev SL.STANDBY : Nat := 3
abbrev SL.CLAIM : Nat := 4
abbrev SL.ACTIVE : Nat := 5
abbrev SL.YIELD : Nat := 6
abbrev SL.BLOCKED : Nat := 7

/-- `#12.0030 SLUICE_STATE`. -/
def State.sluice (s : State) : Nat := s.par P.SLUICE_STATE

/-- The device acts: in SINGLE or ACTIVE, and in YIELD until the named tick (R177). -/
def State.acting (s : State) : Bool := s.sluice == SL.SINGLE || s.sluice == SL.ACTIVE || s.sluice == SL.YIELD

/-- REDUNDANCY_MODE in force: a tile's follows PAIRED (R196). -/
def State.redMode (s : State) : Bool := if s.isTile then s.paired else s.par P.REDUNDANCY_MODE == 1

/-- Partner views (R196): 0 ABSENT, 1 STANDING_BY, 2 ACTING, 3 DOUBT. -/
abbrev V.ABSENT : Nat := 0
abbrev V.STANDING_BY : Nat := 1
abbrev V.ACTING : Nat := 2
abbrev V.DOUBT : Nat := 3

/-- The partner view from the level of `SLUICE_I` and the heartbeat class (R176). -/
def viewOf (sluiceI : Bool) (hb : Nat) : Nat :=
  if sluiceI then (if hb = 3 then V.ACTING else V.DOUBT)
  else if hb = 0 then V.ABSENT else if hb = 3 then V.DOUBT else V.STANDING_BY

/-- The partner view in force. -/
def State.view (s : State) : Nat := viewOf s.red.sluiceI s.red.hb

/-- A paired member drives its lamp nets only as R193 and R195 say; every other tile does. -/
def State.mayDrive (s : State) : Bool := !s.isPairedTile || s.red.drives

/-! Background pauses (R452) -/

/-- The thermal stage: 0 normal, 1 warn, 2 throttle-1, 3 throttle-2, 4 trip (R451). -/
def State.stage (s : State) : Nat := s.par P.THERMAL_STAGE

/-- A background operation waits out its pause (R452). -/
def State.bgPaused (s : State) (op : Nat) : Bool := s.therm.pauses.contains op

/-- A unit of a background operation has ended: at throttle-1 and above it waits BG_PAUSE (R452). -/
def State.bgPauseStart (s : State) (op : Nat) : State :=
  if s.stage ≥ 2 then { s with therm := { s.therm with pauses := NSet.add s.therm.pauses op } } else s

/-! Ticks (R210, R211) -/

/-- The exact period of a rate code as a fraction of a second: numerator and denominator (R210). -/
def ratePeriod (code : Nat) : Nat × Nat :=
  match code with
  | 0 => (1001, 24000) | 1 => (1, 24) | 2 => (1, 25) | 3 => (1001, 30000) | 4 => (1, 30) | 5 => (1, 48)
  | 6 => (1, 50) | 7 => (1001, 60000) | 8 => (1, 60) | 9 => (1, 100) | 10 => (1001, 120000) | 11 => (1, 120)
  | 12 => (1, 144) | 13 => (1, 200) | 14 => (1, 240) | _ => (1, 60)

/-- The rate code in force: the parameter in a head, the markers' in a tile (R218). -/
def State.rate (s : State) : Nat := if s.isTile then s.time.tileRate else s.par P.TICK_RATE

/-- Instant of tick `n` at a rate code, in nanoseconds truncated (R211). -/
def tickNs (code n : Nat) : Nat := n * (ratePeriod code).1 * 1000000000 / (ratePeriod code).2

/-- Instant of tick `n` in units of 2⁻⁴⁸ ns, rounded up: the first counter value at or above it (R211). -/
def tickUnits (code n : Nat) : Nat :=
  (n * (ratePeriod code).1 * 1000000000 * nsUnit + (ratePeriod code).2 - 1) / (ratePeriod code).2

/-- A value `x` ns is less than the tick period of a rate code. -/
def belowPeriod (code x : Nat) : Bool := x * (ratePeriod code).2 < (ratePeriod code).1 * 1000000000

/-- The tick period in ns, truncated. -/
def periodNs (code : Nat) : Nat := (ratePeriod code).1 * 1000000000 / (ratePeriod code).2

/-- The tick number an instant in nanoseconds falls in (R210). -/
def tickAt (code ns : Nat) : Nat := ns * (ratePeriod code).2 / ((ratePeriod code).1 * 1000000000)

/-- The count of ticks nearest to `now` whose low 48 bits are `x`: what a 48-bit tick number stands for, so that comparisons of
tick numbers wrap modulo 2⁴⁸ (R10; log entry 1). -/
def nearTick (now x : Nat) : Nat :=
  let d := (x + 2 ^ 48 - now % 2 ^ 48) % 2 ^ 48
  if d < 2 ^ 47 then now + d else now + d - 2 ^ 48

/-- The last tick whose instant the time counter has reached, and the units of 2⁻⁴⁸ ns to the next one. -/
def State.tickReached (s : State) : Nat :=
  s.time.counter * (ratePeriod s.rate).2 / ((ratePeriod s.rate).1 * 1000000000 * nsUnit)
def State.toTick (s : State) : Nat := tickUnits s.rate (s.tickReached + 1) - s.time.counter

/-- TIME80: seconds and nanoseconds of an instant in nanoseconds, as one little-endian number of 80 bits (R83). -/
def time80 (ns : Nat) : Nat := ns / 1000000000 % 2 ^ 48 + (ns % 1000000000) * 2 ^ 48

/-- The instant in nanoseconds a TIME80 number names. -/
def ofTime80 (v : Nat) : Nat := v % 2 ^ 48 * 1000000000 + v / 2 ^ 48 % 2 ^ 32

end Sys2Proof.Machine
end

