-- ==== Sys2Proof/Machine/Lanes.lean ====
section
/-! DEFINITION. Lanes L0–L31: states and bring-up, coding, equalisation, eye scans, patterns and injection (chapter 05). -/

namespace Sys2Proof.Machine

/-- States of a lane (R118). -/
abbrev L.OFF : Nat := 0
abbrev L.SIGNAL : Nat := 1
abbrev L.CDR : Nat := 2
abbrev L.ALIGN : Nat := 3
abbrev L.ADAPT : Nat := 4
abbrev L.UP : Nat := 5
abbrev L.RAW : Nat := 6
abbrev L.DP : Nat := 7

/-- A lane's hidden record. -/
def State.laneOf (s : State) (n : Nat) : Lane := SMap.get {} s.lane.lanes n

/-- Change a lane's hidden record. -/
def State.updLane (s : State) (n : Nat) (f : Lane → Lane) : State :=
  { s with lane := { s.lane with lanes := SMap.upd {} s.lane.lanes n f } }

/-- State of a lane as `#10.0010` shows it. -/
def State.laneState (s : State) (n : Nat) : Nat := s.par P.LANE_STATE n

/-- A lane is UP. -/
def State.laneUp (s : State) (n : Nat) : Bool := s.laneState n == L.UP

/-- Use and index of a lane: in a tile, and in a device stopped at low-water, the port lanes are chain lanes and
every other lane is off (R122, R141).  "Reads 1 on the port lanes" is read as use 1, chain, in bits [7:4] (DEDUCED, log entry 8). -/
def State.laneUse (s : State) (n : Nat) : Nat :=
  if s.isHead then s.par P.LANE_USE n
  else if n = s.lane.portW ∨ n = s.lane.portE then 0x10 else 0

/-- A lane runs on the built-in settings: the port lanes until the image's settings are applied, and in a stopped device (R122;
log entry 8). -/
def State.builtIn (s : State) : Bool := !s.isHead && (s.lane.builtIn || !s.isTile)

/-- Rate code, TX FIR, polarity and adaptation mode in force for a lane; built in are rate auto, the default FIR, automatic
receive polarity and continuous adaptation (R122). -/
def State.laneRate (s : State) (n : Nat) : Nat := if s.builtIn then 3 else s.par P.LANE_RATE n
def State.laneFir (s : State) (n : Nat) : Nat := if s.builtIn then 0x2342 else s.par P.TX_FIR n
def State.lanePolarity (s : State) (n : Nat) : Nat := if s.builtIn then 4 else s.par P.POLARITY n
def State.adaptMode (s : State) (n : Nat) : Nat := if s.builtIn then 0 else s.par P.ADAPT_MODE n

/-- The reference of a quad's PLL: `LREF0_P/N` or `LREF1_P/N`, as bit q of LANE_REF selects (R69, R113). -/
def State.quadRef (s : State) (q : Nat) : Nat := recField s.start.record (104 + q) 1

/-- The quad's PLL has no lock, or its cluster is quiesced: its lanes do not come up (R31, R114). -/
def State.quadOut (s : State) (q : Nat) : Bool := s.lane.pllLost.contains q || s.clusterOut .front q

/-- Rate a lane runs at: the configured one, or in auto the one the ports hunt at or have adopted (R122). -/
def State.laneRunRate (s : State) (n : Nat) : Nat :=
  if s.laneRate n = 3 then s.lane.hunt else s.laneRate n

/-- The lane that carries chain `c` of a head (16–19: span links 0–3), or port `c` of a tile (0 W, 1 E). -/
def State.chainLane (s : State) (c : Nat) : Option Nat :=
  if s.isHead then
    (List.range 32).find? (fun n => s.par P.LANE_USE n == (if c < 16 then 0x10 + c else 0x30 + (c - 16)))
  else if c = 0 then some s.lane.portW else if c = 1 then some s.lane.portE else none

/-- The chain or port a lane serves. -/
def State.laneChain (s : State) (n : Nat) : Option Nat :=
  if s.isHead then (if s.par P.LANE_USE n / 16 = 1 then some (s.par P.LANE_USE n % 16) else none)
  else if n = s.lane.portW then some 0 else if n = s.lane.portE then some 1 else none

/-- The lane of chain or port `c` is UP. -/
def State.chainUp (s : State) (c : Nat) : Bool :=
  match s.chainLane c with | some n => s.laneUp n | none => false

/-- A lane whose eye can be measured: UP, TEST_RAW or a trained DP lane (R126). -/
def State.eyeOpen (s : State) (n : Nat) : Bool :=
  let st := s.laneState n
  st == L.UP || st == L.RAW ||
    (st == L.DP && let t := (SMap.get {} s.lane.dp (n / 4)).train; t == 5 || t == 6)

/-- End the running full scan as done (2) or aborted (3) (R127). -/
def State.scanEnd (s : State) (st : Nat) : State :=
  match s.lane.scanLane with
  | none => s
  | some n =>
    let s := s.setPar P.EYE_SCAN_STATUS 0 (s.lane.scanPoints * 65536 + n * 256 + st)
    let s := { s with lane := { s.lane with scanLane := none } }
    s.raise E.EYE_SCAN_DONE n st

/-- A running scan ends as aborted when its lane has left the states of R126 (R127). -/
def State.scanCheck (s : State) : State :=
  match s.lane.scanLane with
  | none => s
  | some n => if s.eyeOpen n then s else s.scanEnd 3

/-- A lane enters a state: UP and leaving UP are reported (R118). -/
def State.laneGo (s : State) (n st : Nat) : State :=
  let was := s.laneState n
  let s := s.updLane n fun l => { l with enteredAt := s.now + 1 }
  let s := s.setPar P.LANE_STATE n st
  let s := s.setPar P.RATE_IN_USE n (if st = L.OFF then 0xFF else s.laneRunRate n)
  let s := s.raiseIf (was == L.UP && st != L.UP) E.LANE_DOWN n
  (s.raiseIf (was != L.UP && st == L.UP) E.LANE_UP n).scanCheck

/-- A lane entered its state in this very cycle, in which an open deadline makes it late (R27). -/
def State.enteredNow (s : State) (n : Nat) : Bool := (s.laneOf n).enteredAt == s.now + 1

/-- Quarters of a nanosecond since reset, the finest time of the model (log entry 1). -/
def State.quarterNow (s : State) : Nat := 16 * s.now + s.phase

/-- Start a lane again from SIGNAL, with full re-adaptation (R118, R119). -/
def State.laneRestart (s : State) (n : Nat) : State :=
  (s.updLane n fun l => { l with adapted := false, losses := [], invalid := [], polarityTold := false }).laneGo n L.SIGNAL

/-- A lane that is allocated leaves OFF: to SIGNAL, where it sends idles from negative running disparity, or to DP where it serves
a receiver (R115, R118, R133). -/
def State.laneStart (s : State) (n : Nat) : State :=
  if s.laneState n != L.OFF || s.laneUse n / 16 == 0 then s
  else if s.laneUse n / 16 = 4 then s.laneGo n (if s.quadOut (n / 4) then L.SIGNAL else L.DP)
  else
    ((s.updLane n fun l => { l with skipAt := s.quarterNow, fill := 8 }).laneRestart n).send
      (.firstIdle n (encodeSpecial false Sym.IDLE).1)

/-- Every allocated lane that is OFF and not held starts (R122). -/
def State.lanesStart (s : State) : State :=
  s.each (List.range 32) fun s n => if s.lane.hold.contains n then s else s.laneStart n

/-- A change of use or rate takes a lane to OFF for 1 µs (R132). -/
def State.laneOff (s : State) (n : Nat) : State :=
  let s := s.laneGo n L.OFF
  { s with lane := { s.lane with hold := NSet.add s.lane.hold n } }

/-- Sync is lost (R119): counted and reported, back to ALIGN; a third loss within 1 s restarts the lane. -/
def State.syncLoss (s : State) (n : Nat) : State :=
  let s := (s.bump P.SYNC_LOSS n).raise E.SYNC_LOST n
  let recent := (s.laneOf n).losses.filter (fun t => s.now < t + sec)
  if recent.length ≥ 2 then (s.raise E.LANE_RESTART n).laneRestart n
  else (s.updLane n fun l => { l with losses := s.now :: recent, invalid := [] }).laneGo n L.ALIGN

/-- States in which a lane decodes symbols. -/
def State.decoding (s : State) (n : Nat) : Bool := s.laneState n == L.ADAPT || s.laneState n == L.UP

/-- COMMA_TIMEOUT: an UP lane has seen no comma at its alignment for 16,384 symbols (R119). -/
def execCommaTimeout (n : Fin 32) (s : State) : Res :=
  .next (if s.laneUp n then s.syncLoss n else s)

/-- LANE_SIGNAL_DETECT: a lane in SIGNAL enters CDR (R118). -/
def execLaneSignalDetect (n : Fin 32) (s : State) : Res :=
  .next (if s.laneState n = L.SIGNAL ∧ s.laneUse n / 16 ≠ 4 ∧ s.quadOut (n.val / 4) = false then s.laneGo n L.CDR else s)

/-- CDR_LOCK: the clock is recovered and the lane enters ALIGN (R118). -/
def execCdrLock (n : Fin 32) (s : State) : Res :=
  .next (if s.laneState n = L.CDR then s.laneGo n L.ALIGN else s)

/-- CDR_TIMEOUT: no clock within 100 µs, back to SIGNAL; with `tie` a clock recovered in the cycle that ends the 100 µs is late
(R27, R118). -/
def execCdrTimeout (n : Fin 32) (s : State) (tie : Bool := false) : Res :=
  .next (if s.laneState n = L.CDR ∨ (tie ∧ s.laneState n = L.ALIGN ∧ s.enteredNow n) then s.laneGo n L.SIGNAL else s)

/-- LANE_ALIGN: four K28.5 at one alignment; `inverted` tells the polarity found, and EV 89 follows once per bring-up (R118, R121). -/
def execLaneAlign (n : Fin 32) (inverted : Bool) (s : State) : Res :=
  .next <|
  if s.laneState n ≠ L.ALIGN then s
  else
    let auto := bit (s.lanePolarity n) 2
    let told := (s.laneOf n).polarityTold
    let s := if auto then s.setBlob P.EQ_STATE n 6 [if inverted then 1 else 0] else s
    let s := if auto then s.updLane n fun l => { l with polarityTold := inverted } else s
    let s := s.raiseIf (auto && inverted && !told) E.RX_POLARITY_INVERTED n
    s.laneGo n L.ADAPT

/-- The byte of a signed code. -/
def codeByte (x : Int) : Byte := BitVec.ofNat 8 (unsigned 8 x)

/-- Limits of the taps h1 to h5 (R123). -/
def tapLimit (k : Nat) : Int := if k = 0 then 63 else 31

/-- Write the CTLE setting and the taps to `#10.0012 EQ_STATE`, within their limits (R123). -/
def State.setEq (s : State) (n : Nat) (ctle : Int) (taps : List Int) : State :=
  s.setBlob P.EQ_STATE n 0 (codeByte (clampI 0 15 ctle) ::
    (List.range 5).map fun k => codeByte (clampI (-(tapLimit k)) (tapLimit k) (taps.getD k 0)))

/-- When a port in auto reaches UP, its rate is adopted for both ports; the other port restarts at it if it runs
another (R122). -/
def State.adoptRate (s : State) (n : Nat) : State :=
  if s.isHead || s.laneRate n != 3 || (n != s.lane.portW && n != s.lane.portE) then s
  else
    let s := { s with lane := { s.lane with adopted := true } }
    let other := if n = s.lane.portW then s.lane.portE else s.lane.portW
    if s.laneUp other then s else
      s.setPar P.RATE_IN_USE other (if s.laneState other = L.OFF then 0xFF else s.lane.hunt)

/-- LANE_ADAPT_COMPLETE: adaptation (its CTLE and taps, unless the lane had kept them) and 1,024 valid symbols bring
the lane UP (R118, R119). -/
def execLaneAdaptComplete (n : Fin 32) (ctle : Fin 16) (taps : List Int) (s : State) : Res :=
  .next <|
  if s.laneState n ≠ L.ADAPT then s
  else
    let s := if (s.laneOf n).adapted then s else s.setEq n ctle.val taps
    let s := s.updLane n fun l => { l with adapted := true, invalid := [] }
    (s.laneGo n L.UP).adoptRate n

/-- LANE_BRINGUP_TIMER: a lane with signal has not reached UP within 100 ms; with `tie` an UP in the cycle that ends the 100 ms
is late (R27, R120). -/
def execLaneBringupTimer (n : Fin 32) (s : State) (tie : Bool := false) : Res :=
  .next <|
  if s.laneState n = L.CDR ∨ s.laneState n = L.ALIGN ∨ s.laneState n = L.ADAPT ∨ (tie ∧ s.laneUp n ∧ s.enteredNow n) then
    (s.raiseLimited E.LANE_BRINGUP_TIMEOUT n (10 * sec)).laneRestart n
  else s

/-- RATE_HUNT_TIMER: the ports in auto go on to the next of 12.5, 6.25 and 3.125 Gbaud after 2 ms without UP; with `tie` an UP
in the cycle that ends the 2 ms is late (R27, R122). -/
def execRateHuntTimer (s : State) (tie : Bool := false) : Res :=
  .next <|
  let up := [s.lane.portW, s.lane.portE].filter fun n => s.laneUp n
  if s.isHead || (s.lane.adopted && !(tie && up != [] && up.all fun n => s.enteredNow n)) then s
  else
    let s := { s with lane := { s.lane with hunt := (s.lane.hunt + 1) % 3, adopted := false } }
    s.each [s.lane.portW, s.lane.portE] fun s n =>
      if s.laneRate n = 3 ∧ s.laneState n ≠ L.OFF then s.laneRestart n else s

/-- LANE_OFF_HOLD_EXPIRY: the 1 µs OFF of a use or rate change ends and bring-up starts again (R132). -/
def execLaneOffHoldExpiry (n : Fin 32) (s : State) : Res :=
  .next <|
  if s.lane.hold.contains n.val then
    ({ s with lane := { s.lane with hold := NSet.del s.lane.hold n } }).laneStart n
  else s

/-- A streamer counts the symbols its lane sends beside its own packets (σ of R267). -/
def State.addSigma (s : State) (c k : Nat) : State :=
  { s with scan := { s.scan with streamers := SMap.upd {} s.scan.streamers c fun t => { t with sigma := t.sigma + k } } }

/-- Picoseconds of one symbol at a rate code (R112). -/
def symbolPs (rate : Nat) : Nat := 800 * 2 ^ rate

/-- 4,096 symbols of a lane have passed since its last SKIP, or since it left OFF (R117). -/
def State.skipDue (s : State) (n : Nat) : Bool :=
  decide (4096 * symbolPs (s.laneRunRate n) ≤ 250 * (s.quarterNow - (s.laneOf n).skipAt))

/-- SKIP_INSERT: the first gap between packets once 4,096 symbols have passed since the transmitter's last SKIP takes K23.7; every
lane that has left OFF transmits (R117, R118). -/
def execSkipInsert (n : Fin 32) (s : State) : Res :=
  .next <|
  if s.laneState n = L.OFF ∨ s.laneState n = L.DP ∨ s.laneState n = L.RAW ∨ s.laneUse n / 16 = 4 ∨ s.skipDue n = false then s
  else
    let s := (s.updLane n fun l => { l with skipAt := s.quarterNow }).send (.symbol n Sym.SKIP)
    match s.laneChain n with
    | some c => if s.isHead && (SMap.get {} s.scan.streamers c).active then s.addSigma c 1 else s
    | none => s

/-- The other port's lane of a tile, where it transmits. -/
def State.onwardLane (s : State) (n : Nat) : Option Nat :=
  if s.isHead then none
  else
    let other := if n = s.lane.portW then some s.lane.portE else if n = s.lane.portE then some s.lane.portW else none
    other.filter fun m => s.laneUp n && s.laneState m != L.OFF

/-- A K30.7 reaches the link layer of lane `n`; a tile forwards it like any other symbol (R115–R117). -/
def State.poisonSymbol (s : State) (n : Nat) : State :=
  match s.onwardLane n with
  | some m => s.send (.symbol m Sym.POISON)
  | none => s

/-- ELASTIC_BUFFER_SLIP: the buffer overflows and a symbol is lost, or it runs dry and a K30.7 is inserted (R117). -/
def execElasticBufferSlip (n : Fin 32) (overflow : Bool) (s : State) : Res :=
  .next <|
  if !s.decoding n then s
  else
    let s := (s.bump P.SLIPS n).raise E.ELASTIC_SLIP n
    let s := s.updLane n fun l => { l with fill := if overflow then 16 else 0 }
    if overflow then s else s.poisonSymbol n

/-- Taps standing at a limit since more than 1 s that have not been reported yet: each raises EV 85 once (R123). -/
def State.tapAlarms (s : State) (n : Nat) : State :=
  s.each (List.range 5) fun s k =>
    let v := signed 8 (s.blobByte P.EQ_STATE n (k + 1))
    let l := s.laneOf n
    if v = tapLimit k ∨ v = -(tapLimit k) then
      match SMap.get 0 l.limitSince k with
      | 0 => s.updLane n fun l => { l with limitSince := SMap.set 0 l.limitSince k (s.now + 1) }
      | t + 1 =>
        if t + sec ≤ s.now ∧ ¬ l.limitTold.contains k then
          (s.raise E.ADAPT_AT_LIMIT n (k + 1)).updLane n fun l => { l with limitTold := NSet.add l.limitTold k }
        else s
    else s.updLane n fun l => { l with limitSince := SMap.set 0 l.limitSince k 0, limitTold := NSet.del l.limitTold k }

/-- ADAPT_UPDATE: one sign-sign LMS update of the CTLE and the taps by the given signs; skipped in the cycle of a trim
tap, one taken in it (TRIM_STEP) or, by `trimTap`, still to come in it; while an UP lane's adaptation is frozen its taps stand, and one at a limit is still reported (R123, R125). -/
def execAdaptUpdate (n : Fin 32) (dCtle : Int) (dTaps : List Int) (trimTap : Bool) (s : State) : Res :=
  .next <|
  let st := s.laneState n
  if trimTap ∨ s.lane.trimAt = s.now + 1 ∨ ¬ (st = L.ADAPT ∨ st = L.UP ∨ st = L.DP) then s
  else if st = L.UP ∧ s.adaptMode n = 1 then s.tapAlarms n
  else
    let taps := (List.range 5).map fun k => signed 8 (s.blobByte P.EQ_STATE n (k + 1)) + (dTaps.getD k 0).sign
    (s.setEq n (s.blobByte P.EQ_STATE n 0 + dCtle.sign) taps).tapAlarms n

/-- EYE_MARGIN_MEASURE: height and width once per second; EV 86 on falling below the minimum, again only after both
have recovered; paused on the lane of a running full scan (R126, R127). -/
def execEyeMarginMeasure (n : Fin 32) (height : Fin 65) (width : Fin 129) (s : State) : Res :=
  .next <|
  if !s.eyeOpen n || s.lane.scanLane == some n.val then s
  else
    let s := s.setPar P.EYE_MARGIN n (height.val * 256 + width.val)
    let low := height.val < field (s.par P.EYE_MARGIN_MIN) 8 8 || width.val < field (s.par P.EYE_MARGIN_MIN) 0 8
    let s := s.raiseIf (low && !(s.laneOf n).marginLow) E.EYE_MARGIN_LOW n
    s.updLane n fun l => { l with marginLow := low }

/-- A write of `#10.0020 EYE_SCAN_CTRL`: DWELL and LANE are kept; START aborts a running scan and begins a new one,
which aborts at once on a lane that cannot be measured (R127). -/
def State.eyeScanWrite (s : State) (v : Nat) : State :=
  let s := s.setPar P.EYE_SCAN_CTRL 0 (v % 2 ^ 31)
  if !bit v 31 then s
  else
    let s := s.scanEnd 3
    let n := field v 0 5
    let s := { s with lane := { s.lane with scanLane := some n, scanPoints := 0 } }
    let s := s.setPar P.EYE_SCAN_STATUS 0 (n * 256 + 1)
    if s.eyeOpen n then s else s.scanEnd 3

/-- EYE_SCAN_POINT: the dwell of the next point ends with `count` disagreements; point i of the scan is byte 2i of the
map, the order the map's rows and columns give; the scan is done after 8,192 points (R127).  At throttle-1 it waits while a background pause runs (R452). -/
def execEyeScanPoint (count : Nat) (s : State) : Res :=
  .next <|
  match s.lane.scanLane with
  | none => s
  | some n =>
    if s.bgPaused Bg.EYE_SCAN then s
    else
      let i := s.lane.scanPoints
      let s := s.setBlob P.EYE_MAP 0 (2 * i) (leBytes 2 (min count 0xFFFF))
      let s := { s with lane := { s.lane with scanPoints := i + 1 } }
      let s := s.setPar P.EYE_SCAN_STATUS 0 ((i + 1) * 65536 + n * 256 + 1)
      let s := s.bgPauseStart Bg.EYE_SCAN
      if i + 1 = 8192 then s.scanEnd 2 else s

/-! Patterns (R128–R130) -/

/-- Bits of history a pattern's next bit depends on, and the taps of its recurrence (R128). -/
def patTaps (code : Nat) : Nat × Nat :=
  match code with
  | 1 => (7, 6) | 2 => (15, 14) | 3 => (23, 18) | 4 => (31, 28) | _ => (40, 40)

/-- The bit that follows a window of history (newest bit lowest): the recurrence of the polynomial, or for the user
pattern the bit 40 earlier. -/
def patNext (code w : Nat) : Nat :=
  if code = 5 then b2n (bit w 39)
  else (b2n (bit w ((patTaps code).1 - 1)) + b2n (bit w ((patTaps code).2 - 1))) % 2

/-- Shift a bit into a window of 40 bits of history. -/
def patShift (w b : Nat) : Nat := (w * 2 + b) % 2 ^ 40

/-- The next `k` bits of a pattern, first bit in the lowest place, and the window after them. -/
def patRun (code : Nat) : Nat → Nat → Nat × Nat
  | 0, w => (0, w)
  | k + 1, w =>
    let b := patNext code w
    let r := patRun code k (patShift w b)
    (b + 2 * r.1, r.2)

/-- A window of 40 bits whose oldest bit is bit 0 of the user pattern, so that the pattern restarts at bit 0. -/
def userWindow (user : Nat) : Nat := (List.range 40).foldl (fun w i => patShift w (b2n (bit user i))) 0

/-- `k` octets of a pattern, each sent from its lowest bit. -/
def patOctets (code : Nat) : Nat → Nat → List Byte × Nat
  | 0, w => ([], w)
  | k + 1, w =>
    let r := patRun code 8 w
    let q := patOctets code k r.2
    (BitVec.ofNat 8 r.1 :: q.1, q.2)

/-- TEST_BLOCK_SEND: an in-band generator on an UP lane sends K27.7, the sequence octet, 256 octets that continue the
pattern, and K28.3; it starts only when no packet waits, which the command says.  A raw generator on a lane in TEST_RAW sends
the next span of 2,048 pattern bits (R128). -/
def execTestBlockSend (n : Fin 32) (s : State) : Res :=
  .next <|
  let g := s.par P.PRBS_GEN n
  let p := (s.laneOf n).gen
  let r := patOctets (g % 8) 256 p.window
  if g % 8 = 0 then s
  else if bit g 3 = false then
    if s.laneState n = L.RAW then
      (s.updLane n fun l => { l with gen := { p with window := r.2 } }).send (.rawSpan n r.1)
    else s
  else if ¬ s.laneUp n then s
  else
    let sq := p.seq % 256
    let s := s.updLane n fun l => { l with gen := { p with window := r.2, seq := (sq + 1) % 256 } }
    s.send (.testBlock n sq r.1)

/-- What a checker has seen after some bits: its record, bits compared, bits wrong. -/
structure CheckRun where
  pat : Pattern
  locked : Bool
  compared : Nat
  wrong : Nat
  lockedNow : Bool

/-- One received bit: an unlocked checker seeds itself from the stream and locks after 2,048 correct bits; a locked one
compares with its own continuation (R130).  The user pattern also has to be a rotation of `#10.0032`. -/
def checkBit (code user : Nat) (r : CheckRun) (b : Nat) : CheckRun :=
  let deep := (patTaps code).1
  if r.locked then
    let e := patNext code r.pat.window
    { r with pat := { r.pat with window := patShift r.pat.window e }
             compared := r.compared + 1, wrong := r.wrong + (if e = b then 0 else 1) }
  else
    let e := patNext code r.pat.window
    let fits := code != 5 || (List.range 40).any fun k =>
      r.pat.window == ((userWindow user * 2 ^ k) % 2 ^ 40 + userWindow user / 2 ^ (40 - k))
    let good := r.pat.filled ≥ deep && e == b && fits && (code == 5 || r.pat.window % 2 ^ deep != 0)
    let run := if good then r.pat.run + 1 else 0
    { r with pat := { r.pat with window := patShift r.pat.window b, run := run, filled := min (r.pat.filled + 1) 40 }
             locked := run ≥ 2048, lockedNow := r.lockedNow || run ≥ 2048 }

/-- The bits of an octet, lowest first. -/
def octetBits (b : Byte) : List Nat := (List.range 8).map fun i => b2n (b.getLsbD i)

/-- A tile forwards a test block like any other symbols (R129). -/
def State.passTestBlock (s : State) (n : Nat) (seq : Option Byte) (data : List Byte) : State :=
  match seq, s.onwardLane n with
  | some q, some m => s.send (.testBlock m q.toNat data)
  | _, _ => s

/-- TEST_BLOCK_RECEIVE: a tile forwards a test block (with its sequence octet); a checker compares it, or a raw span of 2,048
bits (R129, R130). -/
def execTestBlockReceive (n : Fin 32) (seq : Option Byte) (data : List Byte) (s : State) : Res :=
  .next <|
  let s := s.passTestBlock n seq data
  let c := s.par P.PRBS_CHK n
  let ok := if bit c 3 then s.laneUp n && seq.isSome else s.laneState n == L.RAW && seq.isNone
  if c % 8 = 0 ∨ ¬ ok then s
  else
    let p := (s.laneOf n).chk
    let gap := match seq with
      | some q => p.seq != 256 && q.toNat != (p.seq + 1) % 256
      | none => false
    let sq := match seq with | some q => q.toNat | none => p.seq
    let locked := s.par P.PRBS_LOCK n == 1 && !gap
    let p := if gap then { p with run := 0, filled := 0 } else p
    let r := (data.flatMap octetBits).foldl (checkBit (c % 8) (s.par P.PRBS_USER))
      { pat := { p with seq := sq }, locked := locked, compared := 0, wrong := 0, lockedNow := false }
    let drop := r.wrong > 64
    let s := s.setPar P.PRBS_BITS n ((s.par P.PRBS_BITS n + r.compared) % 2 ^ 64)
    let s := s.setPar P.PRBS_ERRORS n (min (s.par P.PRBS_ERRORS n + r.wrong) 0xFFFFFFFF)
    let s := s.setPar P.PRBS_LOCK n (b2n (r.locked && !drop))
    let s := s.updLane n fun l => { l with chk := if drop then { r.pat with run := 0, filled := 0 } else r.pat }
    let s := s.raiseIf r.lockedNow E.PRBS_LOCKED n
    s.raiseIf drop E.PRBS_LOCK_LOST n

/-- A lane's pattern counters and lock are cleared; its checker seeds itself anew (R130, R141). -/
def State.prbsClear (s : State) (n : Nat) : State :=
  let s := s.updLane n fun l => { l with chk := {} }
  ((s.setPar P.PRBS_BITS n 0).setPar P.PRBS_ERRORS n 0).setPar P.PRBS_LOCK n 0

/-- A write of `#10.0030 PRBS_GEN`: a non-zero code clears the lane's counters and lock and starts the pattern; a raw
pattern takes the lane to TEST_RAW, and 0 ends it (R118, R128, R141). -/
def State.prbsGenWrite (s : State) (n v : Nat) : State :=
  let was := s.par P.PRBS_GEN n
  let s := s.setPar P.PRBS_GEN n v
  let raw := v % 8 != 0 && !bit v 3
  let s := if v % 8 = 0 then s
    else
      let w := if v % 8 = 5 then userWindow (s.par P.PRBS_USER) else Config.prbsSeed n % 2 ^ 40
      (s.updLane n fun l => { l with gen := { window := w, seq := 0 } }).prbsClear n
  if raw then s.laneGo n L.RAW
  else if was % 8 ≠ 0 ∧ ¬ bit was 3 ∧ s.laneState n = L.RAW then s.laneRestart n
  else s

/-- A write of `#10.0031 PRBS_CHK`: a non-zero code clears the lane's counters and lock (R141). -/
def State.prbsChkWrite (s : State) (n v : Nat) : State :=
  let s := s.setPar P.PRBS_CHK n v
  if v % 8 = 0 then s else s.prbsClear n

/-- A write of `#10.0036 INJECT`: the next `v` bits on the wire are inverted; a second write before the first has been
sent replaces it (R131). -/
def State.injectWrite (s : State) (n v : Nat) : State :=
  { s with lane := { s.lane with injects := SMap.set 0 s.lane.injects n v } }.raise E.ERROR_INJECTED n v

/-- The next symbol of each lane starts, and takes the inversion that waits for it: the model sends it in the next quarter of a
nanosecond that passes (R131, log entry 8). -/
def State.injectSend (s : State) : State :=
  { (s.each s.lane.injects fun s e => s.send (.injected e.1 e.2)) with lane := { s.lane with injects := [] } }

end Sys2Proof.Machine
end

