-- ==== Sys2Proof/Machine/Sluice.lean ====
section
/-! DEFINITION. The heartbeat, the partner view, the sluice, take-over, epochs and the switchover (chapter 07). -/

namespace Sys2Proof.Machine

/-! Levels at the pins (R175, R177) -/

/-- Level of `SLUICE_O` once its pin group has left its map state (R177). -/
def State.sluiceO (s : State) : Bool :=
  s.sluice == SL.SINGLE || s.sluice == SL.CLAIM || s.sluice == SL.ACTIVE

/-- Class of the sluice state for `HB_O`: 0 none, held low; 1 STANDBY_UNSYNCED, 2 STANDBY_SYNCED, 3 ACTIVE (R177). -/
def State.hbO (s : State) : Nat :=
  if s.sluice = SL.OFF then 0
  else if s.sluice = SL.SINGLE ∨ s.sluice = SL.ACTIVE then 3
  else if s.sluice = SL.BLOCKED then 1
  else if s.rdy B.REDUNDANCY_SYNC then 2 else 1

/-- High time of `HB_O` in its period of 250 cycles (R175). -/
def hbHigh (cls : Nat) : Nat := match cls with | 1 => 64 | 2 => 126 | 3 => 188 | _ => 0

/-- `HB_O` takes the class of the sluice state at a period boundary, every 250 cycles of the Time region; the boundaries fall on the
multiples of 250 of the cycle count (R175; DESIGN CHOICE, log entry 10). -/
def State.hbPeriod (s : State) : State :=
  if s.now % 250 = 0 ∧ s.red.hbOut ≠ s.hbO then { s with red := { s.red with hbOut := s.hbO } } else s

/-- Level of `HB_O` once its pin group has left its map state: high for the class's part of the period, low in OFF at once (R175,
R177). -/
def State.hbLevel (s : State) : Bool := s.hbO != 0 && decide (s.now % 250 < hbHigh s.red.hbOut)

/-- Class of a measured high time in ns (R175). -/
def hbClass (high : Nat) : Nat := if high < 380 then 1 else if high < 628 then 2 else 3

/-! Epochs (R182, R183) -/

/-- The smallest value above the highest epoch whose bit 0 is the side's (R182). -/
def nextEpoch (high side : Nat) : Nat := if (high + 1) % 2 = side then high + 1 else high + 2

/-- The head's next epoch would exceed its 32 bits (R182). -/
def State.spent (s : State) : Bool :=
  s.isHead && decide (0xFFFFFFFF < nextEpoch (s.par P.EPOCH_HIGHEST) (b2n s.sideB))

/-- `#12.0022` keeps the highest epoch the head has sent or seen (R182). -/
def State.keepEpoch (s : State) (e : Nat) : State :=
  if s.isHead && s.par P.EPOCH_HIGHEST < e then s.setPar P.EPOCH_HIGHEST 0 e else s

/-- The epoch a head sends: its lease epoch, or as standby the partner's higher one (R183). -/
def State.sendEpoch (s : State) : Nat :=
  if s.acting then s.par P.LEASE_EPOCH else max (s.par P.LEASE_EPOCH) s.red.partnerEpoch

/-- A manager of another trunk with a lower device ID has been heard, and it holds the lease still (R6). -/
def State.managerAbove (s : State) : Bool :=
  match s.red.otherManager with | some d => decide (d < s.par P.DEVICE_ID) | none => false

/-- The head becomes the acting manager: the new epoch is recorded, EV 182 is raised, and the lease of every device,
its own included, is claimed with it (R182, R94; log entry 10). -/
def State.becomeManager (s : State) : State :=
  if !s.isHead || !s.managerEn || s.red.manager || s.managerAbove || s.spent then s
  else
    let e := nextEpoch (s.par P.EPOCH_HIGHEST) (b2n s.sideB)
    let s := { s with red := { s.red with manager := true } }
    let s := (s.setPar P.EPOCH_HIGHEST 0 e).raise E.EPOCH_ADVANCED
    let s := { s with od := { s.od with holder := some (.chain (Fin.ofNat 4096 (s.par P.DEVICE_ID)))
                                        lastMsg := s.controlNow, txn := none } }
    ((s.setPar P.LEASE_EPOCH 0 e).raise E.LEASE_CHANGED).send (.leaseClaims e)

/-- A head that would act as manager but for the lower ID of another trunk's serves as a plain head (R6). -/
def State.managerConflict (s : State) : Bool := s.isHead && s.managerEn && s.acting && s.managerAbove

/-- Of the managers of two trunks the one with the lower device ID acts: the other gives up the function while it hears the claims of
the lower one, and takes it up again once that lease has ended (R6, log entry 10). -/
def State.managerEval (s : State) : State :=
  if s.managerConflict then { s with red := { s.red with manager := false } }
  else if s.acting && !s.red.switching then s.becomeManager else s

/-! REDUNDANCY_SYNC (R189) -/

/-- The partner's health report, one little-endian field. -/
def State.reportField (s : State) (off n : Nat) : Nat := s.blobNat P.PARTNER_REPORT 0 off n

/-- The epochs of the partners are equal: a head's and the one its partner sends, or the members' E_t. -/
def State.epochsEqual (s : State) : Bool :=
  if s.isHead then s.sendEpoch == s.red.partnerEpoch else s.par P.EPOCH == s.reportField 8 4

/-- The configuration digests are equal. -/
def State.digestsEqual (s : State) : Bool := s.par P.CONFIG_DIGEST == s.reportField 24 8

/-- The conditions under which REDUNDANCY_SYNC may be set (R189, R193, R366). -/
def State.syncDue (s : State) : Bool :=
  let pre := if s.isHead then s.rdy B.SCANOUT else s.rdy B.DRIVE
  if !pre || !s.redMode then false
  else if s.sluice = SL.ACTIVE then s.red.hb == 2
  else if s.sluice = SL.STANDBY || s.sluice = SL.CLAIM || s.sluice = SL.YIELD then
    s.view == V.ACTING && s.epochsEqual && s.digestsEqual && s.par P.SYNC_FRAMES ≤ s.red.run &&
      (s.isHead || (s.red.gotLedger && s.red.gotSlew && s.red.gotFaults && s.par P.SYNC_FRAMES ≤ s.red.matchTicks))
  else false

/-- REDUNDANCY_SYNC follows its conditions; EV 189 when a started standby first comes into step (R189, R191). -/
def State.syncEval (s : State) : State :=
  let due := s.syncDue
  if due == s.rdy B.REDUNDANCY_SYNC then s
  else if due then
    let s := s.setReady B.REDUNDANCY_SYNC
    if s.red.rejoin && s.sluice == SL.STANDBY then
      ({ s with red := { s.red with rejoin := false } }).raise E.REJOINED
    else s
  else s.clearReady B.REDUNDANCY_SYNC

/-! Transitions (R178) -/

/-- TAKEOVER_LOG: tick, cause, epoch and count of entries (R196). -/
def State.logTakeover (s : State) (cause : Nat) : State :=
  let n := (s.red.entries + 1) % 2 ^ 32
  let s := { s with red := { s.red with entries := n } }
  s.setBlob P.TAKEOVER_LOG 0 0
    (leBytes 6 s.time.tick ++ leBytes 1 cause ++ leBytes 4 (if s.isHead then s.sendEpoch else s.par P.EPOCH) ++ leBytes 4 n)

/-- A paired member becomes ACTIVE: it will drive from the next subframe boundary, the pending frame is shifted again, whole in a
G-mode quad and with its first plane in a B-mode quad, loops preset, and lamps that are not declared start UNTESTED (R195, R366,
R384). -/
def State.memberActive (s : State) : State :=
  let again (e : Nat × Seq) : Nat × Seq := match s.tile.shift with
    | some (k, _) => if field (s.par P.QUAD_CONFIG e.1) 0 2 ≠ 0 then (e.1, e.2.again k s.now) else e
    | none => e
  { s with
    red := { s.red with activeAt := some s.now }
    drive := { s.drive with seqs := s.drive.seqs.map again }
    pump := { s.pump with loops := (List.range 16).map fun l => (l, { SMap.get {} s.pump.loops l with preset := true }) }
    health := { s.health with lamps := s.health.lamps.filter fun e => e.2.status == 1 || e.2.status == 2 } }

/-- In SINGLE or ACTIVE, where a paired member drives its nets (R193). -/
def State.driving (s : State) : Bool := s.sluice == SL.SINGLE || s.sluice == SL.ACTIVE

/-- The PWO groups PG11 and PG12 of a paired member leave their map state while it drives, and return to it after (R193). -/
def State.pwoGroups (s : State) : State :=
  if !s.isPairedTile then s
  else
    let m := if s.driving && s.rdy B.PUMP then PinMode.configured else PinMode.map
    s.each [11, 12] fun s g =>
      let was := SMap.get PinMode.off s.start.groups g
      if was = .configured ∨ was = .map then { s with start := { s.start with groups := SMap.set .off s.start.groups g m } } else s

/-- The sluice enters a state, with what entering or leaving the acting states does at once: the manager function, the
end of fixture outputs, and the nets of a paired member, which leave with ACTIVE itself (R177, R181, R191, R193, R195). -/
def State.sluiceGo (s : State) (new : Nat) : State :=
  let was := s.acting
  let drove := s.driving
  let s := s.setPar P.SLUICE_STATE 0 new
  let s := { s with red := { s.red with
    window := s.red.window && new == SL.CLAIM
    bySwitch := s.red.bySwitch && new == SL.CLAIM
    actingAt := if new = SL.YIELD then s.red.actingAt else none } }
  let s := if drove && !s.driving then { s with red := { s.red with activeAt := none, drives := false } }
    else if !drove && s.driving && s.isPairedTile then s.memberActive else s
  let s := s.pwoGroups
  let s :=
    if s.acting && !was then
      let s := { s with red := { s.red with rejoin := false } }
      if s.red.switching then s else s.becomeManager
    else if was && !s.acting then
      { s with red := { s.red with manager := false, fixtures := false, switching := false } }
    else s
  s.syncEval

/-- The acting state a row leads to: ACTIVE, or SINGLE under mode 0 (R178). -/
def State.actState (s : State) : Nat := if s.redMode then SL.ACTIVE else SL.SINGLE

/-- FORCE_STANDBY or a spent epoch blocks the sluice (R178). -/
def State.blocked (s : State) : Bool := s.par P.FORCE_STANDBY == 1 || s.spent

/-- Enter BLOCKED; a spent epoch is reported (R182). -/
def State.block (s : State) : State := (s.raiseIf s.spent E.EPOCH_SPENT).sluiceGo SL.BLOCKED

/-- A cause of BLOCKED is judged as soon as it arises (R178, R182). -/
def State.blockCheck (s : State) : State :=
  if s.sluice ≠ SL.OFF ∧ s.sluice ≠ SL.BLOCKED ∧ s.blocked = true then s.block else s

/-- The head sees an epoch: it is kept, and may spend the next one (R182). -/
def State.seeEpoch (s : State) (e : Nat) : State := (s.keepEpoch e).blockCheck

/-- Raise `SLUICE_O` and claim, for the cause TAKEOVER_LOG names; the window runs at once, in a claim by switchover from the cycle in
which the view first reads STANDING_BY (R178, R179). -/
def State.claim (s : State) (cause : Nat) (bySwitch : Bool) : State :=
  let s := { s with red := { s.red with
    cause := cause, lostPartner := s.sluice == SL.STANDBY && cause != 1 && cause != 3, evidence := 0
    leftAt := if !bySwitch || s.view != V.ACTING then some s.now else none } }
  let s := s.sluiceGo SL.CLAIM
  { s with red := { s.red with window := !bySwitch || s.view == V.STANDING_BY, bySwitch := bySwitch } }

/-- The rows of R178 that lead from STANDBY by the partner view. -/
def State.standbyEval (s : State) : State :=
  if s.sluice ≠ SL.STANDBY then s
  else if s.view = V.ABSENT then s.claim 0 false
  else if s.view = V.STANDING_BY ∧ s.par P.CLAIM_HOLDOFF = 0 then s.claim 1 false
  else s

/-- Enter STANDBY, where the view may lead on at once (R178). -/
def State.goStandby (s : State) : State := (s.sluiceGo SL.STANDBY).standbyEval

/-- Judge the rows of R178 that hang on the partner view and on the block causes. -/
def State.sluiceEval (s : State) : State :=
  let st := s.sluice
  if st = SL.OFF then s
  else if st ≠ SL.BLOCKED ∧ s.blocked then s.block
  else if st = SL.BLOCKED then
    if s.blocked then s else if s.redMode then s.goStandby else (s.sluiceGo SL.SINGLE).blockCheck
  else if st = SL.HOLDOFF then
    if s.view = V.ACTING then s.goStandby else s
  else if st = SL.STANDBY then s.standbyEval
  else if st = SL.CLAIM then
    if s.red.bySwitch && s.red.leftAt.isNone then
      if s.view = V.ACTING then s
      else { s with red := { s.red with leftAt := some s.now, window := s.view == V.STANDING_BY } }
    else if s.view = V.ACTING then s.goStandby
    else if s.red.window then s
    else { s with red := { s.red with window := s.view == V.STANDING_BY } }
  else if st = SL.YIELD then
    if s.view = V.ACTING ∧ s.red.actingAt = none then { s with red := { s.red with actingAt := some s.now } } else s
  else s

/-- CLAIM_HOLDOFF has elapsed (R178). -/
def State.holdoffOver (s : State) : State :=
  if s.sluice = SL.HOLDOFF then
    if s.view = V.ABSENT then s.claim 0 false
    else if s.view = V.STANDING_BY then s.claim 1 false
    else if s.view = V.DOUBT then s.goStandby else s
  else if s.sluice = SL.STANDBY ∧ s.view = V.STANDING_BY then s.claim 1 false
  else s

/-- FW rises, or after an L2 reset or a pipeline restart SCANOUT or DRIVE rises again: the sluice leaves OFF (R178). -/
def State.sluiceStart (s : State) : State :=
  if s.sluice ≠ SL.OFF then s
  else
    let s := { s with red := { s.red with rejoin := true } }
    if s.blocked then s.block
    else if !s.redMode then (s.sluiceGo SL.SINGLE).blockCheck
    else
      let s := (s.sluiceGo SL.HOLDOFF).sluiceEval
      if s.par P.CLAIM_HOLDOFF = 0 then s.holdoffOver.sluiceEval else s

/-- A reset of any level, a pipeline restart, safe hold or thermal trip takes the sluice to OFF (R178). -/
def State.sluiceOff (s : State) : State :=
  let s := s.sluiceGo SL.OFF
  { s with red := { s.red with switchTick := none, switching := false, evidence := 0, broken := true, streams := false } }

/-- A change of REDUNDANCY_MODE applied at a latch (R178). -/
def State.redModeChanged (s : State) : State :=
  if s.redMode then (if s.sluice = SL.SINGLE then s.sluiceGo SL.ACTIVE else s)
  else if s.sluice = SL.ACTIVE then s.sluiceGo SL.SINGLE else s

/-- A claim's window has passed clean: the device acts, with the events of R178 and R189 unless a switchover led here;
a switchover whose named tick has passed is then done at once (R190). -/
def State.enterActive (s : State) : State :=
  let sw := s.red.bySwitch
  let cause := s.red.cause
  let s := s.raiseIf (!sw && s.redMode) E.TAKEOVER
  let s := s.raiseIf (!sw && s.redMode && s.red.lostPartner && !s.red.syncAtLoss) E.TAKEOVER_UNSYNCED
  let s := { s with red := { s.red with switching := sw && s.red.switchTick.isSome } }
  let s := s.raiseIf (sw && s.red.switchTick.isNone) E.SWITCHOVER_DONE
  ((s.sluiceGo s.actState).logTakeover cause).blockCheck

/-! The wires (R175, R176) -/

/-- The level of `SLUICE_I` or the heartbeat class has changed: the view and what hangs on it follow (R176, R178). -/
def State.viewChanged (s : State) (was : Nat) : State :=
  if s.view = was then s.syncEval
  else
    let s := if was = V.ACTING then
        { s with red := { s.red with syncAtLoss := s.rdy B.REDUNDANCY_SYNC } } else s
    let s := if s.view = V.DOUBT then
        { s with red := { s.red with doubtTold := s.red.doubtTold && s.now < s.red.consistentAt + sec } }
      else if was = V.DOUBT then { s with red := { s.red with consistentAt := s.now, broken := true } }
      else s
    s.syncEval.sluiceEval

/-- The believed heartbeat class changes; a loss is reported in redundant mode (R197). -/
def State.hbGo (s : State) (cls : Nat) : State :=
  let was := s.view
  let lost := cls == 0 && s.red.hb != 0
  let s := { s with red := { s.red with hb := cls } }
  (s.raiseIf (lost && s.redMode) E.HEARTBEAT_LOST).viewChanged was

/-- HEARTBEAT_EDGE: a rising edge on `HB_I` ends a period whose high time was `high` ns; a class is believed after two
periods that agree (R175).  The first edge after a loss starts a period and ends none. -/
def execHeartbeatEdge (high : Nat) (s : State) : Res :=
  .next <|
  let first := s.red.hbEdge.isNone
  let s := { s with red := { s.red with hbEdge := some s.now } }
  if first then s
  else
    let c := hbClass high
    let agree := s.red.hbLast == c
    let s := { s with red := { s.red with hbLast := c } }
    if agree && s.red.hb != c then s.hbGo c else s

/-- HEARTBEAT_TIMEOUT: 750 cycles without a rising edge; one in the 750th cycle is late (R175, R27). -/
def execHeartbeatTimeout (s : State) : Res :=
  .next (({ s with red := { s.red with hbEdge := none, hbLast := 0 } }).hbGo 0)

/-- SLUICE_I_CHANGE: the level changes; a rise during a claim withdraws side B, but not a claim by switchover
(R176, R178, R179). -/
def execSluiceIChange (high : Bool) (s : State) : Res :=
  .next <|
  if s.red.sluiceI = high then s
  else
    let was := s.view
    let tie := high && s.sluice == SL.CLAIM && s.sideB && !s.red.bySwitch
    let s := { s with red := { s.red with sluiceI := high } }
    let s := if tie then (s.raise E.CLAIM_TIE).goStandby else s
    s.viewChanged was

/-- DOUBT_TIMER: DOUBT has lasted 10 µs; EV 175, again only after the view has been consistent for 1 s (R176). -/
def execDoubtTimer (s : State) : Res :=
  .next <|
  if s.view = V.DOUBT ∧ s.red.doubtTold = false then
    ({ s with red := { s.red with doubtTold := true } }).raise E.SLUICE_INCONSISTENT
  else s

/-- CLAIM_HOLDOFF_EXPIRY (R178). -/
def execClaimHoldoffExpiry (s : State) : Res := .next s.holdoffOver

/-- CLAIM_WINDOW_END: judged after any other event of its cycle (R178, R179, R27). -/
def execClaimWindowEnd (s : State) : Res :=
  .next (if s.sluice = SL.CLAIM ∧ s.red.window then s.enterActive else s)

/-- LAMP_NET_ACTIVITY: a claiming paired member withdraws; the activity also breaks the evidence of R180 (R195). -/
def execLampNetActivity (s : State) : Res :=
  .next <|
  if !s.isPairedTile then s
  else
    let s := { s with red := { s.red with broken := true } }
    if s.sluice = SL.CLAIM then (s.raise E.LISTEN_BUSY).goStandby else s

/-- The view counts as DOUBT for a claim on evidence (R180, R194). -/
def State.doubting (s : State) : Bool := s.view == V.DOUBT || s.red.readback

/-- A tick boundary counts a whole tick of doubt without partner activity, or starts the count again (R180). -/
def State.evidenceTick (s : State) : State :=
  { s with red := { s.red with
    evidence := if s.doubting && !s.red.broken then s.red.evidence + 1 else 0
    broken := !s.doubting } }

/-- EVIDENCE_TIMEOUT: EVIDENCE_TICKS whole ticks of doubt without partner activity: a claim on evidence (R180). -/
def execEvidenceTimeout (s : State) : Res :=
  .next <|
  if s.sluice = SL.STANDBY ∧ s.par P.EVIDENCE_TICKS ≤ s.red.evidence ∧ s.doubting then
    (s.raise E.EVIDENCE_TAKEOVER).claim (if s.view = V.DOUBT then 2 else 4) false
  else s

/-! Switchover (R190) and split (R186) -/

/-- A switchover applies at the latch of tick `j` (R190). -/
def State.switchoverLatch (s : State) (j : Nat) : State :=
  if s.sluice = SL.ACTIVE then
    (({ s with red := { s.red with switchTick := some j } }).sluiceGo SL.YIELD).sluiceEval
  else if s.sluice = SL.STANDBY then ({ s with red := { s.red with switchTick := some j } }).claim 3 true
  else s.raise E.SWITCHOVER_REFUSED

/-- The view of a claim by switchover has not left ACTING by this tick; leaving in its very cycle is late (R27, R179). -/
def State.claimNotLeft (s : State) (tie : Bool) : Bool :=
  match s.red.leftAt with | none => true | some t => !s.onTime tie t

/-- The named tick of a switchover arrives (R178, R179, R190): a yield ends, a claim whose view never left ACTING is
refused, and a device that became active by it takes up the manager function. -/
def State.namedTick (s : State) (tie : Bool) : State :=
  match s.red.switchTick with
  | none => s
  | some _ =>
    let s := { s with red := { s.red with switchTick := none } }
    if s.sluice = SL.YIELD then
      match s.red.actingAt with
      | some t =>
        if s.onTime tie t then (s.raise E.SWITCHOVER_DONE).goStandby
        else ((s.raise E.SWITCHOVER_REFUSED).sluiceGo s.actState).logTakeover 3
      | none => ((s.raise E.SWITCHOVER_REFUSED).sluiceGo s.actState).logTakeover 3
    else if s.sluice = SL.CLAIM ∧ s.red.bySwitch ∧ s.claimNotLeft tie = true then
      (s.raise E.SWITCHOVER_REFUSED).goStandby
    else if s.acting && s.red.switching then
      ((({ s with red := { s.red with switching := false } }).raise E.SWITCHOVER_DONE).becomeManager).blockCheck
    else s

/-- YIELD_TICK_REACHED: the named tick arrives; a view that becomes ACTING in its very cycle comes too late (R27). -/
def execYieldTickReached (tie : Bool) (s : State) : Res := .next (s.namedTick tie)

/-- An active head compares epochs with its partner's unprefixed packet: the loser goes to STANDBY, and both raise
EV 180, once per tick (R186). -/
def State.splitJudge (s : State) (epoch src : Nat) : State :=
  if s.sluice ≠ SL.ACTIVE then s
  else
    let own := s.par P.LEASE_EPOCH
    let lose := decide (own < epoch) || (own == epoch && decide (src < s.par P.DEVICE_ID))
    let s := s.raiseTick E.SPLIT_DETECTED
    if lose then s.goStandby else s

/-- A write to `#12.0023 EPOCH_FLOOR` sets a tile's E_t, even lower (R184). -/
def State.epochFloorWrite (s : State) (v : Nat) : State := if s.isTile then (s.setPar P.EPOCH 0 v).syncEval else s

/-- E_t keeps the highest epoch in a head packet that passed its CRC (R184). -/
def State.seeHeadEpoch (s : State) (e : Nat) : State :=
  if !s.isHead && s.par P.EPOCH < e then (s.setPar P.EPOCH 0 e).syncEval else s

/-! Configuration digest (R189) -/

/-- A parameter the digest covers: RWS or RWSA (R189). -/
def digested (p : Param) : Bool := match p.acc with | .rws => true | .rwsa => true | _ => false

/-- Area, item, index and value of one element as digest bytes, in the encodings of R83 and R89 (log entry 11). -/
def State.digestItem (s : State) (p : Param) (i : Nat) : List Byte :=
  leBytes 1 (p.id / 65536) ++ leBytes 2 (p.id % 65536) ++ leBytes 2 (if p.arr then i else 0xFFFF) ++
  (match p.ty.size with
   | some n => s.blob p.id i 0 n
   | none => leBytes p.ty.width (s.par p.id i))

/-- `#12.0034 CONFIG_DIGEST` (R189). -/
def State.configDigest (s : State) : Nat :=
  let areas := if s.isTile then [0x28, 0x29, 0x2A, 0x2B] else [0x0C, 0x20, 0x21, 0x22]
  let ps := (areas.flatMap paramsOf).filter digested
  crc64 (ps.flatMap fun p => (List.range (if s.isTile then p.tile else p.head)).flatMap (s.digestItem p))

end Sys2Proof.Machine
end

