-- ==== Sys2Proof/Machine/Sample.lean ====
section
/-! DEFINITION. The precise-sampling buffer: entries of instructions and trace marks (R505, R506). -/

namespace Sys2Proof.Machine

/-- An entry of the sample buffer, its 32 bytes in order (R506). -/
structure SampleRec where
  source : Nat
  /-- 0 sample, 1 trace mark -/
  kind : Nat
  latency : Nat
  word : Nat
  pc : Nat
  addr : Nat
  frame : Nat
  cycles : Nat
  deriving DecidableEq, Repr

def State.sampleBytes (s : State) (r : SampleRec) : List Byte :=
  leBytes 1 r.source ++ leBytes 1 r.kind ++ leBytes 2 (min r.latency 0xFFFF) ++ leBytes 4 r.word ++ leBytes 4 r.pc ++
    leBytes 4 r.addr ++ leBytes 6 s.time.tick ++ leBytes 2 r.frame ++ leBytes 4 r.cycles ++ leBytes 4 0

/-- An entry is lost: counted, and reported at most once per second. -/
def State.sampleDrop (s : State) : State := (s.bump P.SAMPLES_DROPPED).raiseLimited E.SAMPLES_DROPPED 0xFFFF sec

/-- The buffer takes the entry of this cycle of the Control region, of 1,024 that it holds at most. -/
def State.sampleWrite (s : State) (bs : List Byte) : State :=
  let s := { s with perf := { s.perf with cycle := s.controlNow + 1 } }
  if s.perf.held = 1024 ∧ s.par P.SAMPLE_MODE = 0 then (s.raise E.SAMPLE_BUFFER_FULL).sampleDrop
  else
    let e := s.par P.SAMPLE_HEAD
    let s := (s.setBlob P.SAMPLE_BUFFER 0 (32 * (e % 1024)) bs).bump P.SAMPLE_HEAD
    { s with perf := { s.perf with held := min (s.perf.held + 1) 1024 } }

/-- An entry takes its place among those that wait: behind all of earlier cycles, and within its cycle in ascending source order. -/
def sampleInsert (e : Nat × Nat × List Byte) : List (Nat × Nat × List Byte) → List (Nat × Nat × List Byte)
  | [] => [e]
  | x :: l => if x.1 = e.1 ∧ e.2.1 < x.2.1 then e :: x :: l else x :: sampleInsert e l

/-- An entry is produced: the first of a cycle of the Control region is written in it while none waits, later ones wait in a queue of 16
(R506; of entries that one cycle produces, the one whose command comes first counts as the lowest source: DESIGN CHOICE, log entry 20). -/
def State.samplePut (s : State) (r : SampleRec) : State :=
  if s.perf.queue = [] ∧ s.perf.cycle ≠ s.controlNow + 1 then s.sampleWrite (s.sampleBytes r)
  else if 16 ≤ s.perf.queue.length then s.sampleDrop
  else { s with perf := { s.perf with queue := sampleInsert (s.controlNow, r.source, s.sampleBytes r) s.perf.queue } }

/-- A cycle of the Control region begins: the entry that has waited longest is written (R506). -/
def State.sampleNext (s : State) : State :=
  match s.perf.queue with
  | [] => s
  | e :: l => { s with perf := { s.perf with queue := l } }.sampleWrite e.2.2

/-- Instructions to a source's next sample: P + r with r a free value of four bits (R505). -/
def State.sampleDraw (s : State) (i : Nat) : State :=
  let (r, s) := s.takeFree
  { s with perf := { s.perf with left := SMap.set 0 s.perf.left i (s.par P.SAMPLE_PERIOD i + r % 16 + 1) } }

/-- A source issues an instruction: one fewer to its next sample. -/
def State.sampleIssue (s : State) (i : Nat) : State :=
  if s.par P.SAMPLE_PERIOD i = 0 then { s with perf := { s.perf with left := SMap.set 0 s.perf.left i 0 } }
  else
    let s := if SMap.get 0 s.perf.left i = 0 then s.sampleDraw i else s
    { s with perf := { s.perf with left := SMap.upd 0 s.perf.left i fun n => if 1 < n then n - 1 else 1 } }

end Sys2Proof.Machine
end

