-- ==== Sys2Proof/Machine/Time.lean ====
section
/-! DEFINITION. The time counter, the servo, PTP on the GbE port, the time-stamp queue, `REF_IN` and pulse outputs
(chapter 08). -/

namespace Sys2Proof.Machine

/-! The counter (R198) -/

/-- The increment of one cycle in 2⁻⁴⁸ ns: 4 ns × (1 − f × 10⁻⁹), held to the unit (R198). -/
def increment (f : Int) : Nat :=
  let num : Int := 4 * 281474976710656 * 1000000000 - 4 * 4194304 * f
  let q := Int.fdiv num 1000000000
  (if Int.fmod num 1000000000 ≠ 0 ∧ Config.incrementUp f then q + 1 else q).toNat

/-- One cycle of the Time region passes; the counter stands while the region is held (R198). -/
def State.timeCycle (s : State) : State :=
  let up := SMap.get false s.start.released Region.time.num
  let s := if up then s.count 128 else s
  let s := s.unseenCycle.hbPeriod
  { s with
    perf := { s.perf with prev := s.perf.counters }
    now := s.now + 1
    phase := 0
    time := { s.time with counter := if up then s.time.counter + increment s.time.freq else s.time.counter } }

/-- A quarter of a nanosecond passes, in which 5 make a cycle of the Control region and 16 one of the Time region (R29). -/
def State.cycle (s : State) : State :=
  let s := s.injectSend
  let ends : Bool := (16 * s.now + s.phase) % 5 == 4
  let s := if ends ∧ SMap.get false s.start.released Region.control.num = true then s.count 0 else s
  let s := if s.phase < 15 then { s with phase := s.phase + 1 } else s.timeCycle
  if ends then s.sampleNext else s

/-- The counter in units of 2⁻¹⁶ ns. -/
def State.now16 (s : State) : Nat := s.time.counter / 4294967296

/-- A step is allowed while TIME_LOCK is clear, and after it only under STEP_POLICY 1 while SHOW is clear (R206). -/
def State.stepAllowed (s : State) : Bool :=
  !s.rdy B.TIME_LOCK || (s.par P.STEP_POLICY == 1 && !s.rdy B.SHOW)

/-- Step the counter to a value of 2⁻⁴⁸ ns; edges of pulse outputs that the step crosses are not emitted (R199, R217). -/
def State.stepTo (s : State) (c : Nat) : State :=
  let s := { s with time := { s.time with counter := c
                                          tpo := s.time.tpo.map fun (e : Nat × Tpo) => (e.1, { e.2 with from_ := max e.2.from_ c }) } }
  s.raise E.TIME_STEPPED

/-! The servo (R205–R207) -/

/-- Put a value in picoseconds into an I32 parameter, saturating. -/
def sat32 (x : Int) : Nat := unsigned 32 (clampI (-2147483648) 2147483647 x)

/-- Picoseconds of a value in 2⁻¹⁶ ns. -/
def ps16 (e : Int) : Int := Int.fdiv (e * 1000) 65536

/-- Apply a frequency correction from the next cycle and keep it among the last 64 (R205, R207). -/
def State.applyFreq (s : State) (f : Int) : State :=
  { s with time := { s.time with freq := f, hist := (f :: s.time.hist).take 64 } }

/-- The servo state after a sample: 16 close samples lock it, 4 far ones return it to acquiring (R206). -/
def State.servoState (s : State) (e : Int) : State :=
  let thr : Int := s.par P.LOCK_THRESHOLD * 65536
  let near := if |e| ≤ thr then s.time.near + 1 else 0
  let far := if |e| > 8 * thr then s.time.far + 1 else 0
  let s := { s with time := { s.time with near := near, far := far } }
  if s.time.servo ≠ 2 ∧ near ≥ 16 then
    ({ s with time := { s.time with servo := 2, far := 0 } }).raise E.TIME_LOCKED
  else if s.time.servo = 2 ∧ far ≥ 4 then
    ({ s with time := { s.time with servo := 1, near := 0 } }).raise E.TIME_OFFSET_HIGH
  else s

/-- One offset sample e = local − reference in 2⁻¹⁶ ns (R205).  `tile` samples may step only as R215 says. -/
def State.servoSample (s : State) (e : Int) (mayStep : Bool) : State :=
  let s := (s.count 130).setPar P.OFFSET 0 (sat32 (ps16 e))
  let s := if s.time.servo = 3 then
      ({ s with time := { s.time with servo := 1, near := 0, far := 0 } }).raise E.HOLDOVER_EXIT
    else if s.time.servo = 0 then { s with time := { s.time with servo := 1 } } else s
  if mayStep && (s.par P.STEP_THRESHOLD * 65536 : Int) ≤ |e| then
    ((({ s with time := { s.time with integ := 0 } }).count 131).stepTo ((s.time.counter : Int) - e * 4294967296).toNat).servoState e
  else
    let g := s.par P.SERVO_GAINS
    let iNew := s.time.integ + (field g 0 16 : Int) * e
    let f := (field g 16 16 : Int) * e + iNew
    let lim : Int := s.par P.MAX_SLEW * 1000 * 67108864
    let s := if lim < |f| then (s.applyFreq (f.sign * lim)).raiseLimited E.SLEW_LIMITED 0xFFFF sec
      else (({ s with time := { s.time with integ := iNew } }).applyFreq f)
    s.servoState e

/-- The mean of the last applied values (R207). -/
def meanFreq (l : List Int) : Int := if l.length = 0 then 0 else Int.fdiv (l.foldl (· + ·) 0) l.length

/-- Enter holdover: f is held at the mean of the last 64 applied values (R207). -/
def State.holdover (s : State) : State :=
  if s.time.servo = 3 then s
  else ({ s with time := { s.time with servo := 3, near := 0, far := 0, close := 0, freq := meanFreq s.time.hist } }).raise
    E.TIME_SOURCE_LOST

/-- A change of TIME_SOURCE in a head: the samples of another source begin new counts, and a free run holds f at 0 in state 0
(R204, R206). -/
def State.sourceChanged (s : State) : State :=
  let s := { s with time := { s.time with near := 0, far := 0, refLast := none, sync := none } }
  if s.par P.TIME_SOURCE = 3 then { s with time := { s.time with servo := 0, freq := 0, hist := [] } } else s

/-- SERVO_SAMPLE_TIMEOUT: the source has delivered no sample for three of its intervals (R207); a free-running head and
a servo that has had no sample yet have none to lose. -/
def execServoSampleTimeout (s : State) : Res :=
  .next (if s.time.servo = 0 then s else s.holdover)

/-- A write of `#08.0021 TIME_SET`, in a head where a step is allowed (R208). -/
def State.timeSetWrite (s : State) (v : Nat) : State :=
  let s := s.setPar P.TIME_SET 0 v
  let s := { s with time := { s.time with setDone := true } }
  s.stepTo (ofTime80 v * nsUnit)

/-- Reduce an offset modulo a period in 2⁻¹⁶ ns, given as a fraction, into half a period either side of 0 (R204). -/
def wrapOffset (t : Int) (num den : Nat) : Int :=
  let n := Int.fdiv (t * den) num
  let r := t - Int.fdiv (n * num) den
  if (num : Int) ≤ 2 * r * den then t - Int.fdiv ((n + 1) * num) den else r

/-- The period of the pulses on `REF_IN` in ns, as a fraction: 1 s, or the tick period (R204). -/
def State.refPeriod (s : State) : Nat × Nat :=
  if s.par P.TIME_SOURCE = 1 then (1000000000, 1) else ((ratePeriod s.rate).1 * 1000000000, (ratePeriod s.rate).2)

/-- 1.5 periods have passed since the last edge, in cycles of 4 ns (R204). -/
def State.refOver (s : State) : Bool :=
  match s.time.refLast with
  | some t => decide (3 * s.refPeriod.1 ≤ 8 * (s.now - t) * s.refPeriod.2)
  | none => false

/-- An edge is missing: EV 205 and holdover (R204). -/
def State.refMissing (s : State) : State :=
  (({ s with time := { s.time with refLast := none } }).raise E.REF_IN_LOST).holdover

/-- REF_IN_EDGE: a rising edge is stamped, moved by REF_IN_DELAY, and yields one sample for sources 1 and 2; one in the cycle in which
the 1.5 periods end is missing (R27, R204). -/
def execRefInEdge (s : State) : Res :=
  .next <|
  let src := s.par P.TIME_SOURCE
  if !s.isHead || (src != 1 && src != 2) then s
  else if s.refOver then { s.refMissing with time := { s.refMissing.time with refLast := some s.now } }
  else
    let t : Int := s.now16 - Int.fdiv (signed 32 (s.par P.REF_IN_DELAY) * 65536) 1000
    let s := { s with time := { s.time with refLast := some s.now } }
    let e := if src = 1 then wrapOffset t (65536 * 1000000000) 1
      else wrapOffset t ((ratePeriod s.rate).1 * 1000000000 * 65536) (ratePeriod s.rate).2
    s.servoSample e s.stepAllowed

/-- REF_IN_TIMEOUT: 1.5 periods without an edge: EV 205 and holdover (R204). -/
def execRefInTimeout (s : State) : Res :=
  .next <|
  let src := s.par P.TIME_SOURCE
  if !s.isHead || (src != 1 && src != 2) then s
  else s.refMissing

/-! The transmit time-stamp queue (R202, R203) -/

/-- A frame waits for a MAC port: 0 GbE, 1–8 T1S0–T1S7. -/
def State.macPush (s : State) (p : Nat) (k : TxKind) : State :=
  { s with eth := { s.eth with macs := SMap.upd {} s.eth.macs p fun (m : Mac) => { m with queue := m.queue ++ [{ kind := k }] } } }

/-- A stamp enters the queue of 16, or is dropped, counted and reported at most once per second (R202). -/
def State.tsqPush (s : State) (tag port time : Nat) : State :=
  if s.time.tsq.length < 16 then
    { s with time := { s.time with tsq := s.time.tsq ++ [{ tag := tag, port := port, time := time, at_ := s.now }] } }
  else (s.bump P.TSQ_DROPPED).raiseLimited E.TSQ_OVERFLOW 0xFFFF sec

/-- The oldest entry is removed as expired (R203); a lost Delay_Req stamp discards that
exchange, and a lost T1S stamp counts as late (R399). -/
def State.tsqExpire (s : State) : State :=
  match s.time.tsq with
  | [] => s
  | e :: q =>
    let s := { s with time := { s.time with
      tsq := q
      delayReq := if e.port = 0 ∧ e.tag / 4096 = 1 then none else s.time.delayReq } }
    let s := (s.bump P.TSQ_EXPIRED).raise E.TSQ_EXPIRED e.port
    if 1 ≤ e.port then s.raiseLimited E.T1S_EMIT_LATE (e.port - 1) sec else s

/-- TSQ_ENTRY_EXPIRY: the oldest entry was not retrieved within 2 ms (R203). -/
def execTsqEntryExpiry (s : State) : Res := .next s.tsqExpire

/-- The PTP stack takes a GbE stamp: a Sync of a master is followed by its Follow_Up, a Delay_Req's stamp is kept. -/
def State.ptpStamp (s : State) (e : TsqEntry) : State :=
  if e.tag / 4096 = 0 ∧ s.par P.PTP_PORT_STATE = 6 then s.macPush 0 (.ptp 8 (e.tag % 4096) e.time)
  else if e.tag / 4096 = 1 then
    match s.time.delayReq with
    | some (q, _) =>
      if q % 4096 = e.tag % 4096 then { s with time := { s.time with delayReq := some (q, some (e.time * 65536)) } } else s
    | none => s
  else s

/-! PTP (R200, R204, R209) -/

/-- A message is handled: in a head with PTP, within the scope and in its domain; what is outside the scope is counted. -/
def State.ptpTakes (s : State) (m : PtpMsg) : Bool := s.isHead && m.inScope && m.domain == s.par P.PTP_DOMAIN

/-- A message outside the scope of R200 is dropped and counted. -/
def State.ptpDrop (s : State) (m : PtpMsg) : State :=
  if s.isHead && (!m.inScope || 127 < m.domain) then s.bump P.PTP_DROPPED else s

/-- The port state changes, reported by EV 215 (R209). -/
def State.portGo (s : State) (st : Nat) : State :=
  if s.par P.PTP_PORT_STATE = st then s else (s.setPar P.PTP_PORT_STATE 0 st).raise E.PTP_STATE_CHANGED 0xFFFF st

/-- A message of the chosen master. -/
def State.fromMaster (s : State) (m : PtpMsg) : Bool :=
  match s.time.master with | some f => f.sender == m.sender | none => false

/-- A message's arrival, of 1 ns resolution at the RGMII, moved to the wire by the PHY's receive latency, in 2⁻¹⁶ ns (R201). -/
def State.rxStamp (s : State) (m : PtpMsg) : Nat :=
  (m.arrival / 65536 * 1000 - s.par P.PHY_LATENCY % 65536) / 1000 * 65536

/-- Origin and arrival of a Sync are known: one servo sample, once a path delay has been measured (R204). -/
def State.syncSample (s : State) (origin : Int) (arrival : Nat) : State :=
  let s := { s with time := { s.time with sync := none, lastSync := some (origin.toNat, arrival) } }
  match s.time.path with
  | none => s
  | some d =>
    if s.par P.TIME_SOURCE ≠ 0 then s
    else (s.portGo 9).servoSample ((arrival : Int) - origin - d) s.stepAllowed

/-- PTP_SYNC: a Sync of the master; a one-step Sync yields its sample, a two-step one waits (R200, R204). -/
def execPtpSync (m : PtpMsg) (s : State) : Res :=
  .next <|
  if !s.ptpTakes m then s.ptpDrop m
  else if !s.fromMaster m then s
  else if m.twoStep then { s with time := { s.time with sync := some (m.seq, s.rxStamp m) } }
  else s.syncSample (m.origin + m.correction) (s.rxStamp m)

/-- PTP_FOLLOW_UP: the precise origin of the two-step Sync that waits (R200). -/
def execPtpFollowUp (m : PtpMsg) (s : State) : Res :=
  .next <|
  if !s.ptpTakes m then s.ptpDrop m
  else if !s.fromMaster m then s
  else match s.time.sync with
    | some (q, arr) => if q = m.seq then s.syncSample (m.origin + m.correction) arr else s
    | none => s

/-- PTP_DELAY_REQ: a master answers with the receive stamp, a unicast request by unicast (R200). -/
def execPtpDelayReq (m : PtpMsg) (s : State) : Res :=
  .next <|
  if !s.ptpTakes m then s.ptpDrop m
  else if s.par P.PTP_PORT_STATE ≠ 6 then s
  else
    let t := s.rxStamp m / 65536
    s.macPush 0 (if m.unicast then .ptpTo 9 m.seq t m.sender else .ptp 9 m.seq t)

/-- PTP_DELAY_RESP: the path delay from the Sync and the Delay_Req of the exchange (R204). -/
def execPtpDelayResp (m : PtpMsg) (s : State) : Res :=
  .next <|
  if !s.ptpTakes m then s.ptpDrop m
  else if !s.fromMaster m then s
  else match s.time.delayReq, s.time.lastSync with
    | some (q, some t3), some (t1, t2) =>
      if q ≠ m.seq then s
      else
        let d : Int := Int.fdiv (((t2 : Int) - t1) + ((m.origin : Int) - m.correction - t3)) 2
        let s := { s with time := { s.time with path := some d, delayReq := none } }
        s.setPar P.MEAN_PATH_DELAY 0 (ps16 d).toNat
    | _, _ => s

/-- The clockIdentity of the head: its MAC address as an EUI-64 (R110, R200). -/
def State.clockIdentity (s : State) : Nat :=
  let a := s.par P.MAC_ADDRESS
  a / 16777216 * 2 ^ 40 + 0xFFFE * 16777216 + a % 16777216

/-- The order of the default BMCA's data set comparison: lower is better. -/
def Foreign.rank (f : Foreign) : List Nat :=
  [f.priority1, f.clockClass, f.accuracy, f.variance, f.priority2, f.identity, f.steps, f.sender]

/-- The first list is lexicographically smaller. -/
def lexLt : List Nat → List Nat → Bool
  | [], [] => false
  | [], _ => true
  | _, [] => false
  | a :: as, b :: bs => a < b || (a == b && lexLt as bs)

/-- The data set the head announces of itself. -/
def State.ownSet (s : State) : Foreign :=
  { priority1 := field (s.par P.PTP_PRIORITY) 8 8, clockClass := Config.clockQuality / 16777216 % 256
    accuracy := Config.clockQuality / 65536 % 256, variance := Config.clockQuality % 65536
    priority2 := field (s.par P.PTP_PRIORITY) 0 8, identity := s.clockIdentity, steps := 0, sender := s.clockIdentity }

/-- The grandmaster in use changes: EV 204; the integrator is kept (R207). -/
def State.gmGo (s : State) (id : Nat) : State :=
  if s.par P.GM_IDENTITY = id then s else (s.setPar P.GM_IDENTITY 0 id).raise E.GM_CHANGED

/-- Take the state the default BMCA gives from the best foreign master known: an eligible head that is better is master, otherwise
a slave of it.  With none known, a master stays one while it is eligible, and any other port listens until its announce receipt
timeout (R200, R209). -/
def State.bmca (s : State) : State :=
  match s.time.master with
  | none => if s.time.eligible && s.par P.PTP_PORT_STATE == 6 then s else s.portGo 4
  | some f =>
    if s.time.eligible && lexLt s.ownSet.rank f.rank then (s.portGo 6).gmGo s.clockIdentity
    else
      let s := if s.par P.PTP_PORT_STATE = 9 then s else s.portGo 8
      s.gmGo f.identity

/-- The Announce interval in cycles (R200, R218). -/
def State.announceCycles (s : State) : Nat :=
  match signed 8 (field (s.par P.PTP_INTERVALS) 16 8) with
  | .ofNat n => sec * 2 ^ n
  | .negSucc n => sec / 2 ^ (n + 1)

/-- A foreign master is qualified by two Announces within four of their intervals, and by fewer than 255 steps (IEEE 1588 as R200 takes
it; PRESUMED, log entry 13). -/
def State.qualified (s : State) (r : ForeignRec) : Bool :=
  decide (r.set.steps < 255) && (match r.prev with | some t => decide (r.last ≤ t + 4 * s.announceCycles) | none => false)

/-- The best of the qualified masters. -/
def State.bestForeign (s : State) : Option Foreign :=
  (s.time.foreigns.filter s.qualified).foldl (fun m (r : ForeignRec) => match m with
    | some f => if lexLt r.set.rank f.rank then some r.set else m
    | none => some r.set) none

/-- The best master is chosen; the measurements of another one end with it. -/
def State.chooseMaster (s : State) : State :=
  let m := s.bestForeign
  let same := m.isSome && m.map (·.sender) == s.time.master.map (·.sender)
  ({ s with time := { s.time with master := m, sync := if same then s.time.sync else none
                                  lastSync := if same then s.time.lastSync else none
                                  path := if same then s.time.path else none } }).bmca

/-- PTP_ANNOUNCE: the sender's data set is taken, the best master is chosen, and the port state follows (R209). -/
def execPtpAnnounce (m : PtpMsg) (a : AnnounceInfo) (s : State) : Res :=
  .next <|
  if !s.ptpTakes m then s.ptpDrop m
  else
    let f : Foreign := { priority1 := a.priority1, clockClass := a.clockClass, accuracy := a.accuracy
                         variance := a.variance, priority2 := a.priority2, identity := a.identity, steps := a.steps
                         sender := m.sender }
    let old := s.time.foreigns.find? fun (r : ForeignRec) => r.set.sender == m.sender
    let rest := s.time.foreigns.filter fun (r : ForeignRec) => r.set.sender != m.sender
    ({ s with time := { s.time with
      foreigns := { set := f, last := s.now, prev := old.map fun (r : ForeignRec) => r.last } :: rest } }).chooseMaster

/-- PTP_ANNOUNCE_TIMEOUT: no Announce of the master for its receipt timeout, or of any while the port listens: the master is gone, the
best of the others is chosen, and with none left an eligible head becomes master itself (R200, R209). -/
def execPtpAnnounceTimeout (s : State) : Res :=
  .next <|
  if !s.isHead then s
  else
    let s := ({ s with time := { s.time with
      foreigns := s.time.foreigns.filter fun (r : ForeignRec) => some r.set.sender != s.time.master.map fun (f : Foreign) => f.sender } }).chooseMaster
    if s.time.master.isNone && s.time.eligible then (s.portGo 6).gmGo s.clockIdentity else s

/-- PTP_SYNC_SEND: a master sends a two-step Sync (R200). -/
def execPtpSyncSend (s : State) : Res :=
  .next <|
  if !s.isHead || s.par P.PTP_PORT_STATE != 6 then s
  else ({ s with time := { s.time with syncSeq := (s.time.syncSeq + 1) % 65536 } }).macPush 0 (.ptp 0 s.time.syncSeq 0)

/-- PTP_ANNOUNCE_SEND: a master sends an Announce; an ineligible head sends none (R209). -/
def execPtpAnnounceSend (s : State) : Res :=
  .next <|
  if !s.isHead || s.par P.PTP_PORT_STATE != 6 || !s.time.eligible then s
  else ({ s with time := { s.time with announceSeq := (s.time.announceSeq + 1) % 65536 } }).macPush 0 (.ptp 11 s.time.announceSeq 0)

/-- PTP_DELAY_REQ_SEND: a slave, or a port on its way to be one, sends a Delay_Req, in hybrid mode by unicast to its master (R200,
R218). -/
def execPtpDelayReqSend (s : State) : Res :=
  .next <|
  if !s.isHead || (s.par P.PTP_PORT_STATE != 8 && s.par P.PTP_PORT_STATE != 9) then s
  else
    let k : TxKind := match s.par P.PTP_DELAY_MODE, s.time.master with
      | 1, some f => .ptpTo 1 s.time.delaySeq 0 f.sender
      | _, _ => .ptp 1 s.time.delaySeq 0
    ({ s with time := { s.time with delaySeq := (s.time.delaySeq + 1) % 65536
                                    delayReq := some (s.time.delaySeq, none) } }).macPush 0 k

/-- Eligibility to be PTP master begins and ends at a tick boundary (R209); `active`: sluice state SINGLE or ACTIVE. -/
def State.ptpEligibility (s : State) (active : Bool) : State :=
  let e := s.isHead && s.par P.PTP_MASTER_EN == 1 && active
  if s.time.eligible == e then s
  else
    let s := { s with time := { s.time with eligible := e } }
    s.bmca

/-! Pulse outputs (R216, R217) -/

def State.tpoOf (s : State) (n : Nat) : Tpo := SMap.get {} s.time.tpo n

def State.updTpo (s : State) (n : Nat) (f : Tpo → Tpo) : State :=
  { s with time := { s.time with tpo := SMap.upd {} s.time.tpo n f } }

/-- Mode of a pulse output. -/
def State.tpoMode (s : State) (n : Nat) : Nat := s.par P.TPO_MODE n % 4

/-- Level of `TPOn` once it has left its map state: inactive low, or high when inverted; a pulse under way ends at the level it has
(R216, R217). -/
def State.tpoLevel (s : State) (n : Nat) : Bool :=
  let t := s.tpoOf n
  if t.active then !t.inv else bit (s.par P.TPO_MODE n) 7

/-- The period of a pulse programme in 2⁻¹⁶ ns, as a fraction (R216): 0 for once. -/
def State.tpoPeriod (s : State) (n : Nat) : Nat × Nat :=
  if s.tpoMode n = 2 then (s.par P.TPO_PERIOD n, 1)
  else ((ratePeriod s.rate).1 * 1000000000 * 65536 * (s.par P.TPO_PERIOD n % 65536), (ratePeriod s.rate).2)

/-- A programme R217 refuses with CONSISTENCY: width not less than the period, width below 8 ns, period below 1 µs,
tick divisor 0; an offset beyond one tick period; nothing is asked of an output that is off. -/
def State.tpoBad (s : State) (n : Nat) : Bool :=
  let m := s.tpoMode n
  let w := s.par P.TPO_WIDTH n
  let p := s.tpoPeriod n
  if m = 0 then false
  else w < 8 ||
    (m == 2 && (p.1 < 1000 * 65536 || p.1 ≤ w * 65536)) ||
    (m == 3 && (s.par P.TPO_PERIOD n % 65536 == 0 || 65536 ≤ s.par P.TPO_PERIOD n || p.1 ≤ w * 65536 * p.2 ||
      p.1 < 1000 * 65536 * p.2 ||
      !belowPeriod s.rate ((signed 32 (s.par P.TPO_TICK_OFFSET n)).natAbs - 1)))

/-- A new programme applies at its latch (R217): once with its edge in the past, or in the latch's own cycle, emits
nothing and raises EV 212; the series of the other modes starts at its first later edge. -/
def State.tpoApply (s : State) (n : Nat) : State :=
  let m := s.tpoMode n
  if m = 0 then s.updTpo n fun t => { t with armed := false }
  else if m = 1 ∧ ofTime80 (s.par P.TPO_START n) * nsUnit ≤ s.time.counter then
    (s.updTpo n fun t => { t with armed := false }).raise E.TPO_MISSED n
  else s.updTpo n fun t => { t with armed := true, from_ := s.time.counter }

/-- The programmed time of the next rising edge of a running programme, in 2⁻⁴⁸ ns; edges at or before `from_` are past (R216, R217). -/
def State.tpoNext (s : State) (n : Nat) : Option Nat :=
  let f := (s.tpoOf n).from_
  let start := ofTime80 (s.par P.TPO_START n) * nsUnit
  match s.tpoMode n with
  | 1 => if f < start then some start else none
  | 2 =>
    let p := s.par P.TPO_PERIOD n * 4294967296
    if f < start then some start else if p = 0 then none else some (start + ((f - start) / p + 1) * p)
  | 3 =>
    let d := s.par P.TPO_PERIOD n % 65536
    let off := signed 32 (s.par P.TPO_TICK_OFFSET n) * nsUnit
    let g := (f : Int) - off
    let k := if g < 0 then 0 else (g.toNat * (ratePeriod s.rate).2 / ((ratePeriod s.rate).1 * 1000000000 * nsUnit) / max d 1 + 1) * d
    if d = 0 then none else some ((tickUnits s.rate k : Int) + off).toNat
  | _ => none

/-- TPO_EDGE: the output's next edge falls in the first cycle in which the counter has reached its programmed time: the end of its
width, or a rising edge of a running programme (R216). -/
def execTpoEdge (n : Fin 8) (s : State) : Res :=
  .next <|
  let t := s.tpoOf n
  if t.active then
    if s.time.counter < t.until_ then s else (s.updTpo n fun t => { t with active := false }).count 133
  else if !t.armed then s
  else match s.tpoNext n with
  | none => s
  | some e =>
    if s.time.counter < e then s
    else
      (s.updTpo n fun t => { t with active := true, inv := bit (s.par P.TPO_MODE n) 7, until_ := e + s.par P.TPO_WIDTH n * nsUnit
                                    armed := s.tpoMode n != 1, from_ := e }).count 133

/-! Ticks and changes of rate (R211, R212) -/

/-- Tick `n` of the rate `old` is also a tick of the rate `new`. -/
def commonTick (old new n : Nat) : Bool :=
  n * (ratePeriod old).1 * (ratePeriod new).2 % ((ratePeriod old).2 * (ratePeriod new).1) == 0

/-- The tick of the new rate at a common instant. -/
def newTick (old new n : Nat) : Nat :=
  n * (ratePeriod old).1 * (ratePeriod new).2 / ((ratePeriod old).2 * (ratePeriod new).1)

/-- Old ticks between two common instants of two rates: the step by which common ticks repeat. -/
def commonStep (old new : Nat) : Nat :=
  (ratePeriod old).2 * (ratePeriod new).1 /
    Nat.gcd ((ratePeriod old).2 * (ratePeriod new).1) ((ratePeriod old).1 * (ratePeriod new).2)

/-- The first common tick at or after `n` (R212). -/
def commonFrom (old new n : Nat) : Nat :=
  let c := commonStep old new
  (n + c - 1) / c * c

end Sys2Proof.Machine
end

