-- ==== Sys2Proof/Machine/Chain.lean ====
section
/-! DEFINITION. Link management and latency, addressing, own packets, proxies and marker timing of the chain protocol
(chapter 06). -/

namespace Sys2Proof.Machine

def State.linkOf (s : State) (p : Nat) : Link := SMap.get {} s.chain.links p

def State.updLink (s : State) (p : Nat) (f : Link → Link) : State :=
  { s with chain := { s.chain with links := SMap.upd {} s.chain.links p f } }

/-- Kinds of packet recorded as sent: the TYPEs of R159, 16 a TICK marker, 17 a grant, 18 a video packet, 19 a control
packet, 20 a control packet relayed to the partner. -/
abbrev K.MARKER : Nat := 16
abbrev K.GRANT : Nat := 17
abbrev K.VIDEO : Nat := 18
abbrev K.CONTROL : Nat := 19
abbrev K.RELAY : Nat := 20

/-- Send one link-management packet on a port, with the port's SEQ unless `seq` is given (R159). -/
def State.sendLink (s : State) (p type : Nat) (seq : Option Nat) (body : List Nat) : State :=
  let n := (s.linkOf p).seq
  let s := s.updLink p fun l => { l with seq := (l.seq + 1) % 65536 }
  s.send (.packet p type (seq.getD n :: body))

/-- A packet that fails its CRC or its length is discarded and counted (R159, R169). -/
def State.crcFail (s : State) (p : Nat) : State := s.bump P.CRC_ERRORS p

/-- No packet starts now on a port or chain: in a tile no link-management packet within 5 µs before its local time of a tick (R146),
in a head no packet at all on a chain within the time of 4,200 symbols before a tick (R158).  A span lane carries no marker and has
no guard (DEDUCED, log entry 12). -/
def State.linkQuiet (s : State) (p : Nat) : Bool :=
  if s.isTile then s.time.stepped && decide (s.toTick ≤ 5000 * nsUnit)
  else s.isHead && decide (p < 16) && (match s.chainLane p with
    | some n => decide (s.toTick * 1000 ≤ 4200 * symbolPs (s.laneRunRate n) * nsUnit)
    | none => false)

/-- A packet waits for the end of the guard (R146, R158). -/
def State.hold (s : State) (k : HeldPkt) : State :=
  { s with chain := { s.chain with guarded := s.chain.guarded ++ [{ k with since := s.time.counter }] } }

/-- P of R146 in picoseconds at a rate code: fixed, and at most 220 ns. -/
def passPs (rate : Nat) : Nat := min (Config.passLatency rate) 220000

/-! Delays and latencies (R160–R162) -/

/-- LINK_ASYMMETRY in 2⁻¹⁶ ns (R160). -/
def State.asymmetry (s : State) (p : Nat) : Int :=
  if 16 ≤ p then 0 else Int.fdiv (signed 16 (s.par P.LINK_ASYMMETRY p) * 65536) 1000

/-- The upstream neighbour's packet of the direction that arrives on port `p` is valid, so L is (R160). -/
def State.latValid (s : State) (p : Nat) : Bool := s.isTile && (s.linkOf p).up.isSome && (s.linkOf p).measured

/-- L of the direction that arrives on port `p`, in 2⁻¹⁶ ns, without the stale flag. -/
def State.latency (s : State) (p : Nat) : Nat := s.par P.LATENCY p % 2 ^ 40

/-- The tile's own L and POSITION follow its neighbour's packet and the link's delay (R160). -/
def State.deriveLatency (s : State) (p : Nat) : State :=
  if !s.isTile then s
  else match (s.linkOf p).up with
    | some (_, pos, lout) =>
      if (s.linkOf p).measured then
        let s := s.setPar P.POSITION p ((pos + 1) % 256)
        s.setPar P.LATENCY p ((lout + (s.linkOf p).d) % 2 ^ 40 + (if (s.linkOf p).stale then 2 ^ 63 else 0))
      else s
    | none => (s.setPar P.POSITION p 0).setPar P.LATENCY p 0

/-- Two measurements lie within 1 ns of each other (R161). -/
def within1ns (a b : Int) : Bool := |a - b| ≤ 65536

/-- A new measurement of d passes the filter of R161; the first of a link is taken at once (log entry 12). -/
def State.measure (s : State) (p : Nat) (d : Int) : State :=
  let l := s.linkOf p
  let use (s : State) : State :=
    let v := min d.toNat 0xFFFFFFFF
    let s := if p < 16 then s.setPar P.LINK_DELAY p v else s
    (s.updLink p fun l => { l with measured := true, d := v, cand := [] }).deriveLatency p
  if !l.measured || within1ns d l.d then use s
  else match l.cand with
    | a :: b :: _ =>
      if within1ns d a && within1ns d b && within1ns a b then (use s).raise E.LATENCY_STEP p
      else s.updLink p fun l => { l with cand := [d, a] }
    | c => s.updLink p fun l => { l with cand := d :: c }

/-- An ECHO_REQ leaves, stamped `t1` (R159, R160). -/
def State.sendEcho (s : State) (p t1 : Nat) : State :=
  let n := (s.linkOf p).seq
  (s.sendLink p 1 none []).updLink p fun l => { l with echo := some (n, t1) }

/-- ECHO_REQ: answered with its own SEQ and TURN, the time from its first bit to the answer's; an answer that waits out the guard
takes that wait into its TURN (R146, R158, R159). -/
def execEchoReq (p : Fin 20) (seq : BitVec 16) (crcOk : Bool) (turn : BitVec 40) (s : State) : Res :=
  .next <|
  if !s.chainUp p then s
  else if !crcOk then s.crcFail p
  else if s.linkQuiet p then s.hold { port := p, kind := 2, seq := some seq.toNat, arg := turn.toNat }
  else s.sendLink p 2 (some seq.toNat) [turn.toNat]

/-- ECHO_SEND_TIMER: once a second on each UP port; `t1` is the stamp of the request leaving (R159, R160). -/
def execEchoSendTimer (p : Fin 20) (t1 : Nat) (s : State) : Res :=
  .next <|
  if !s.chainUp p then s
  else if s.linkQuiet p then s.hold { port := p, kind := 1, arg := t1 }
  else s.sendEcho p t1

/-- ECHO_RESP: d = ((t₂ − t₁) − TURN) / 2 + A (R160). -/
def execEchoResp (p : Fin 20) (seq : BitVec 16) (turn : BitVec 40) (crcOk : Bool) (t2 : Nat) (s : State) : Res :=
  .next <|
  if !s.chainUp p then s
  else if !crcOk then s.crcFail p
  else match (s.linkOf p).echo with
    | some (n, t1) =>
      if n ≠ seq.toNat then s
      else
        (s.updLink p fun l => { l with echo := none }).measure p
          (Int.fdiv ((t2 : Int) - t1 - turn.toNat) 2 + s.asymmetry p)
    | none => s

/-- LATENCY: the neighbour's LOUT, POSITION and ORIGIN; the tile derives its own (R160). -/
def execLatency (p : Fin 20) (body : LatencyBody) (crcOk : Bool) (s : State) : Res :=
  .next <|
  if !s.chainUp p then s
  else if !crcOk then s.crcFail p
  else
    (s.updLink p fun l => { l with
      up := if body.valid then some (body.origin.toNat, body.position.toNat, body.lout.toNat) else none
      upAt := s.now, stale := false }).deriveLatency p

/-- A LATENCY packet: a head's LOUT 0 and POSITION 0; out of port `p` of a tile the LOUT = L + P of the direction that arrives on
its other port (R160).  LOUT is 40 bits wide. -/
def State.sendLatency (s : State) (p : Nat) : State :=
  if s.isHead then s.sendLink p 3 none [s.par P.DEVICE_ID, 0, 0, 1]
  else
    let q := 1 - p
    let pass := passPs (s.laneRunRate (if p = 0 then s.lane.portW else s.lane.portE)) * 65536 / 1000
    match (s.linkOf q).up with
    | some (o, _, _) =>
      s.sendLink p 3 none [o, s.par P.POSITION q, (s.latency q + pass) % 2 ^ 40, b2n (s.latValid q)]
    | none => s.sendLink p 3 none [0, 0, 0, 0]

/-- LATENCY_SEND_TIMER (R159, R160). -/
def execLatencySendTimer (p : Fin 20) (s : State) : Res :=
  .next <|
  if !s.chainUp p then s
  else if s.linkQuiet p then s.hold { port := p, kind := 3 }
  else s.sendLatency p

/-- IDENT: the neighbour record; one that differs from the last raises EV 173 (R159). -/
def execIdent (p : Fin 20) (body : BitVec 40) (crcOk : Bool) (s : State) : Res :=
  .next <|
  if !s.chainUp p then s
  else if !crcOk then s.crcFail p
  else
    let differs := (s.linkOf p).known && s.blobNat P.NEIGHBOUR p 0 5 != body.toNat
    let s := (s.setBlob P.NEIGHBOUR p 0 (leBytes 5 body.toNat)).updLink p fun l => { l with known := true }
    s.raiseIf differs E.NEIGHBOUR_CHANGED p

/-- An IDENT packet: device ID, role, SIDE, PAIRED and link version (R159). -/
def State.sendIdent (s : State) (p : Nat) : State :=
  s.sendLink p 4 none
    [s.par P.DEVICE_ID, (if s.isHead then 1 else if s.isTile then 2 else 0) + 4 * b2n s.sideB + 8 * b2n s.paired,
      s.par P.LINK_VERSION]

/-- IDENT_SEND_TIMER: on entry to UP and once a second (R159). -/
def execIdentSendTimer (p : Fin 20) (s : State) : Res :=
  .next <|
  if !s.chainUp p then s
  else if s.linkQuiet p then s.hold { port := p, kind := 4 }
  else s.sendIdent p

/-- LATENCY_STALE_TIMER: an UP port had no LATENCY for 3 s: its values are kept and marked stale; with `tie` a LATENCY of the cycle
that ends the 3 s is late, and takes the mark away again (R27, R161). -/
def execLatencyStaleTimer (p : Fin 20) (s : State) (tie : Bool := false) : Res :=
  .next <|
  if !s.chainUp p || (s.linkOf p).stale then s
  else if tie && (s.linkOf p).upAt == s.now then s.raise E.LATENCY_STALE p
  else
    let s := s.updLink p fun l => { l with stale := true }
    let s := if s.isTile then s.setPar P.LATENCY p (s.latency p + 2 ^ 63) else s
    s.raise E.LATENCY_STALE p

/-- L of a chain in 2⁻¹⁶ ns as the head uses it: the last valid value read, or LATENCY_ASSUMED (R162). -/
def State.chainL (s : State) (c : Nat) : Nat :=
  if s.chain.lValid.contains c then s.par P.CHAIN_L c else s.par P.LATENCY_ASSUMED * 65536

/-! Addressing (R147) -/

/-- A DEST or TARGET names the device: its ID or 0xFFF, and both members or its own. -/
def State.idMatch (s : State) (dest : Nat) : Bool :=
  let sel := field dest 12 2
  let id := dest % 4096
  (id == s.par P.DEVICE_ID || id == 0xFFF) && (sel == 0 || sel == (if s.sideB then 2 else 1))

/-- The device takes a packet by DEST; one that holds the unassigned ID 0xFFE takes none. -/
def State.destMatch (s : State) (dest : Nat) : Bool := s.par P.DEVICE_ID != 0xFFE && s.idMatch dest

/-- The device takes a positional control packet that comes in on port `p`. -/
def State.posMatch (s : State) (p dest pos : Nat) : Bool :=
  let sel := field dest 12 2
  s.isTile && s.latValid p && pos == s.par P.POSITION p && (sel == 0 || sel == (if s.sideB then 2 else 1))

/-! Own packets and proxies (R155, R156) -/

/-- Symbols of a control packet whose message has `len` bytes (R153). -/
def controlSymbols (len : Nat) : Nat := 26 + len

/-- Message bytes of a control packet of `size` symbols (R153). -/
def messageBytes (size : Nat) : Nat := size - 26

/-- The header of a control packet the device sends: DEST, SRC, EPOCH, TICK, POS, FLAGS, LENGTH; the device sends none by position
(R153, log entry 12). -/
def State.controlHeader (s : State) (dest size : Nat) : List Nat :=
  [dest, s.par P.DEVICE_ID, if s.isHead then s.sendEpoch else s.par P.EPOCH, s.time.tick % 2 ^ 48, 0, 64 * b2n (!s.isHead),
    messageBytes size]

/-- There is room for a packet in the tile's own queue of 16 KB (R155). -/
def State.ownFits (s : State) (k : OwnPkt) : Bool := decide ((s.chain.own.map (·.size)).sum + k.size ≤ 16384)

/-- Put a packet of the tile's own into its queue of 16 KB, or drop it (R155). -/
def State.ownQueue (s : State) (k : OwnPkt) : State :=
  if s.ownFits k then { s with chain := { s.chain with own := s.chain.own ++ [k] } } else s.raise E.OWN_QUEUE_FULL

/-- The port joined to the partner member, by its neighbour's IDENT (R192). -/
def State.partnerPort (s : State) : Option Nat :=
  (List.range 2).find? fun p => (s.linkOf p).known && s.blobNat P.NEIGHBOUR p 0 2 % 4096 == s.par P.DEVICE_ID

/-- The port an own packet leaves by: the one on which the head's stream arrives, or the other while that one is not
UP; to the partner member, the port joined to it (R155, R291). -/
def State.ownPort (s : State) (k : OwnPkt) : Option Nat :=
  if k.dest % 4096 = s.par P.DEVICE_ID then s.partnerPort
  else
    let p := match SMap.get 0 s.chain.headPort (k.dest % 4096) with | 0 => none | n + 1 => some n
    match p with
    | some p => if s.chainUp p then some p else some (1 - p)
    | none => none

/-- Waiting data for the partner member move into the own queue as far as it has room (R155). -/
def State.memberFeed (s : State) : List OwnPkt → State
  | [] => s
  | k :: l =>
    if s.ownFits k then
      State.memberFeed { s with chain := { s.chain with own := s.chain.own ++ [k], backlog := l } } l
    else s

/-- The chain on which a head reaches a device: the one its packets come in on, else the lowest that is UP (log entry 12). -/
def State.chainTo (s : State) (dest : Nat) : Option Nat :=
  match SMap.get 0 s.chain.headPort (dest % 4096) with
  | n + 1 => some n
  | 0 => (List.range 16).find? s.chainUp

/-- Symbols of control and relay packets a head has sent on a chain in this tick (R486). -/
def State.ctrlSpent (s : State) (c : Nat) : Nat :=
  let u := SMap.get (0, 0) s.chain.ctrlUsed c
  if u.1 = s.time.tick then u.2 else 0

/-- A head's packet takes its symbols of HEAD_CTRL_SYMBOLS in this tick (R486). -/
def State.ctrlSpend (s : State) (c size : Nat) : State :=
  { s with chain := { s.chain with ctrlUsed := SMap.set (0, 0) s.chain.ctrlUsed c (s.time.tick, s.ctrlSpent c + size) } }

/-- A head's control packet leaves on a chain, after the guard where one runs (R153, R158). -/
def State.headSend (s : State) (c dest size : Nat) (o : Out) : State :=
  let s := s.ctrlSpend c size
  if s.linkQuiet c then s.hold { port := c, kind := K.CONTROL, dest := dest, size := size, out := some o }
  else (s.send (.packet c K.CONTROL (s.controlHeader dest size))).send o

/-- A response or event of a tile leaves over the chain through its own-packet queue, a head's on the chain of its addressee; what a
head has to say to itself, and what goes over the MACs, needs no packet. -/
def State.sendOn (s : State) (path : Path) (len : Nat) (positional : Bool) (o : Out) : State :=
  match path with
  | .chain src =>
    if s.isTile then s.ownQueue { dest := src, size := controlSymbols len, positional := positional, out := o }
    else if src.val = s.par P.DEVICE_ID then s.send o
    else match s.chainTo src with
      | some c => s.headSend c src (controlSymbols len) o
      | none => s
  | _ => s.send o

/-- A packet held back by the guard leaves; an answer's TURN and a request's stamp take in the wait (R146, R158). -/
def State.sendHeld (s : State) (k : HeldPkt) : State :=
  let wait := (s.time.counter - k.since) / 4294967296
  if !s.chainUp k.port then s
  else match k.kind with
    | 1 => s.sendEcho k.port (k.arg + wait)
    | 2 => s.sendLink k.port 2 k.seq [(k.arg + wait) % 2 ^ 40]
    | 3 => s.sendLatency k.port
    | 4 => s.sendIdent k.port
    | _ =>
      let s := s.send (.packet k.port k.kind (s.controlHeader k.dest k.size))
      match k.out with | some o => s.send o | none => s

/-- The tick has come, and what its guard held back leaves behind the marker. -/
def State.guardEnd (s : State) : State :=
  let l := s.chain.guarded
  ({ s with chain := { s.chain with guarded := [] } }).each l State.sendHeld

/-- Data for the partner member wait for the first reserved stretch on the port joined to it (R291). -/
def State.memberPkt (s : State) (len : Nat) (o : Out) : OwnPkt :=
  { dest := (if s.sideB then 1 else 2) * 4096 + s.par P.DEVICE_ID, size := controlSymbols len, positional := false, out := o }

def State.sendMember (s : State) (len : Nat) (o : Out) : State := s.ownQueue (s.memberPkt len o)

/-- Data of more than one packet for the partner member: 170 values, of 8 bytes each, in a packet; `frame` counts the packets still to
come, and what finds no room in the queue follows as it empties (R153, R155, R193; DESIGN CHOICE, log entry 6). -/
def State.sendMemberList (s : State) (kind : Nat) (values : List (Nat × Int)) : State :=
  let n := (values.length + 169) / 170
  let pkts := (List.range (max n 1)).map fun i =>
    let part := (values.drop (170 * i)).take 170
    s.memberPkt (28 + 8 * part.length) (.member kind (max n 1 - 1 - i) part)
  let l := s.chain.backlog ++ pkts
  ({ s with chain := { s.chain with backlog := l } }).memberFeed l

/-- At each tick boundary a proxied direction gets a grant for every DEST seen in the opposite stream in the tick before,
and one to 0xFFF (R156). -/
def State.proxyGrants (s : State) : State :=
  s.each s.chain.proxy fun s p =>
    let gap := s.par P.TILE_GAP
    let dests := (s.chain.seenBefore.filter fun k => k / 65536 == 1 - p).map (· % 65536)
    let s := s.each dests fun s d =>
      let s := s.send (.packet (1 - p) K.GRANT [d, gap])
      if s.destMatch d then { s with chain := { s.chain with stretch := SMap.set none s.chain.stretch p (some { left := gap, grant := true }) } }
      else s
    s.send (.packet (1 - p) K.GRANT [0xFFF, gap])

/-- Proxy duty is judged at each tick boundary: an input without a valid marker for two ticks, while the same port
transmits (R156; log entry 12). -/
def State.proxyTick (s : State) : State :=
  if !s.isTile || !s.rdy B.FORWARD then s
  else
    let s := s.each [0, 1] fun s p =>
      let n := if s.chain.got.contains p then 0 else SMap.get 0 s.chain.dry p + 1
      let s := { s with chain := { s.chain with dry := SMap.set 0 s.chain.dry p n } }
      let sends : Bool := match s.chainLane p with | some l => s.laneState l != L.OFF | none => false
      if decide (2 ≤ n) && sends && !s.chain.proxy.contains p then
        ({ s with chain := { s.chain with proxy := NSet.add s.chain.proxy p } }).raise E.STREAM_PROXY p 1
      else s
    let s := { s with chain := { s.chain with seenBefore := s.chain.seen, seen := [], got := [], missed := [], posReq := false } }
    s.proxyGrants

/-- A valid marker on an input ends the proxy duty for it (R156). -/
def State.proxyEnd (s : State) (p : Nat) : State :=
  if s.chain.proxy.contains p then
    ({ s with chain := { s.chain with proxy := NSet.del s.chain.proxy p } }).raise E.STREAM_PROXY p 0
  else s

/-! The partner path (R173) -/

/-- The GbE link is up. -/
def State.linkUp (s : State) : Bool := bit (s.par P.LINK_STATUS) 0

/-- The GbE path to the partner is usable (R173). -/
def State.gbePath (s : State) : Bool :=
  s.linkUp && s.par P.IPV4_IN_USE != 0 && s.blobNat P.PARTNER_IP 0 0 16 != 0

/-- The partner path: the lowest chain whose ring is whole, else the GbE port as 16, else none (R173). -/
def State.partnerPath (s : State) : Option Nat :=
  match s.red.rings with
  | c :: _ => some c
  | [] => if s.gbePath then some 16 else none

/-- A control packet for the partner, whose message has `len` bytes, leaves over the partner path; a datagram waits for the MAC
(R173). -/
def State.sendPartner (s : State) (len : Nat) (o : Out) : State :=
  let dest := s.par P.PARTNER_ID
  let size := controlSymbols len
  match s.partnerPath with
  | none => s
  | some c =>
    if c < 16 then s.headSend c dest size o
    else ((s.macPush 0 .od).send (.partnerUdp (s.par P.OD_UDP_PORT + 1) (s.controlHeader dest size))).send o

/-- Bytes of a READ of `n` scalar or string elements (R88, R89). -/
def readSize (n : Nat) : Nat := 28 + 13 * n

/-! Marker timing (R214, R215) -/

/-- The marker used for the tick: the first steps the counter; close ones in a row are counted towards TIME_LOCK; after it, sixteen
wide ones in a row step again; every other one is a servo sample, which before TIME_LOCK may step too (R206, R215). -/
def State.useMarker (s : State) (e : Int) : State :=
  let s := { s with time := { s.time with used := true } }
  let step (s : State) : State := s.stepTo ((s.time.counter : Int) - e * 4294967296).toNat
  if !s.time.stepped then step { s with time := { s.time with stepped := true, close := 0, wide := 0 } }
  else
    let close := if |e| ≤ s.par P.LOCK_THRESHOLD * 65536 then s.time.close + 1 else 0
    let wide := if 1000 * 65536 < |e| then s.time.wide + 1 else 0
    let s := { s with time := { s.time with close := close, wide := wide } }
    let s := if s.rdy B.TIME_LOCK && 16 ≤ wide then step { s with time := { s.time with wide := 0 } }
      else s.servoSample e (!s.rdy B.TIME_LOCK)
    s

/-- A port's marker of this tick is missing or bad: the other direction's is used if this was the one in use (R214). -/
def State.markerMissed (s : State) (p : Nat) : State :=
  let s := { s with chain := { s.chain with missed := NSet.add s.chain.missed p } }
  match s.time.ranked, SMap.get none s.time.offsets (1 - p) with
  | some r, some e => if r = p ∧ s.time.used = false then s.useMarker e else s
  | _, _ => s

/-- The marker of the awaited tick arrives in the cycle in which t_n + L + 2 µs is reached, or later: it is missing (R27, R158).  A
marker that names neither the awaited tick nor the one before is none that was awaited (DEDUCED, log entry 12). -/
def State.markerLate (s : State) (p : Nat) (m : Marker) : Bool :=
  let n := nearTick s.time.tick m.tick.toNat
  s.latValid p && s.time.stepped && (n == s.time.tick || n + 1 == s.time.tick) &&
    decide (tickUnits m.rate.toNat n + s.latency p * 4294967296 + 2000 * nsUnit ≤ s.time.counter)

/-- A valid marker's offset e = t_arrival − (TIME + PHASE + L), used if its direction is the one in use or the other's is
missing or bad; the offsets of the two directions are compared.  Of two first usable markers in one cycle port W's is taken (R214,
R215). -/
def State.markerTime (s : State) (p : Nat) (m : Marker) : State :=
  let t : Int := ofTime80 m.time.toNat * 65536 + (m.phase.toNat * 65536 / 1000 : Nat)
  let e : Int := m.arrival - t - s.latency p
  let both := s.time.firstAt == some s.now && p == 0 && s.time.ranked == some 1
  let s := if both then { s with time := { s.time with ranked := none, used := false, stepped := false } } else s
  let first := s.time.ranked.isNone
  let s := { s with time := { s.time with
    offsets := SMap.set none s.time.offsets p (some e), ranked := some (s.time.ranked.getD p)
    firstAt := if first then some s.now else s.time.firstAt } }
  let s := s.setPar P.MARKER_OFFSET p (sat32 (ps16 e))
  let s := s.setPar P.MARKER_SOURCE 0 (s.time.ranked.getD p + 1)
  let s := match SMap.get none s.time.offsets (1 - p) with
    | some f => if s.par P.HEAD_SPLIT_LIMIT * 65536 < |e - f| then s.raiseLimited E.HEAD_TIME_SPLIT 0xFFFF sec else s
    | none => s
  if !s.time.used && (s.time.ranked == some p || s.chain.missed.contains (1 - p)) then s.useMarker e else s

/-- At a tick boundary the direction in use becomes that of the copy ranked first in the tick before, and the markers of
the new tick are awaited (R214). -/
def State.markerTick (s : State) : State :=
  { s with time := { s.time with
    offsets := [], used := false, rankNext := none, firstAt := if s.time.rankNext.isSome then none else s.time.firstAt
    ranked := s.time.rankNext.orElse fun _ => s.time.ranked } }

end Sys2Proof.Machine
end

