-- ==== Sys2Proof/Machine/DpRx.lean ====
section
/-! DEFINITION. DisplayPort receivers DP0–DP3: HPD, AUX, link training and the stream format (R133–R143). -/

namespace Sys2Proof.Machine

/-- A receiver's record. -/
def State.dpOf (s : State) (n : Nat) : DpRx := SMap.get {} s.lane.dp n

/-- Change a receiver's record. -/
def State.updDp (s : State) (n : Nat) (f : DpRx → DpRx) : State :=
  { s with lane := { s.lane with dp := SMap.upd {} s.lane.dp n f } }

/-- HPD may be high: receiver enabled, INPUTS set, HPD mode 0 (R139). -/
def State.hpdEnabled (s : State) (n : Nat) : Bool :=
  s.par P.DP_ENABLE n == 1 && s.rdy B.INPUTS && s.par P.DP_HPD_MODE n == 0

/-- Level of `DPn_HPD` (R136, R139). -/
def State.hpd (s : State) (n : Nat) : Bool := s.hpdEnabled n && !(s.dpOf n).pulse && !(s.dpOf n).cycling

/-- STATE of `#18.0020` (R143). -/
def State.dpState (s : State) (n : Nat) : Nat :=
  if s.par P.DP_ENABLE n ≠ 1 then 0 else if ¬ s.hpdEnabled n ∨ (s.dpOf n).cycling then 1 else (s.dpOf n).train

/-- `#18.0020 DP_LINK_STATUS`: STATE as it stands, and while trained the fields that training left; else the rate of no training
(R143). -/
def State.dpLinkStatus (s : State) (n : Nat) : Nat :=
  let st := s.dpState n
  (if st = 5 ∨ st = 6 then s.par P.DP_LINK_STATUS n / 16 * 16 else 0xF0) + st

/-- A byte the source set in the DPCD, 0 before. -/
def State.dpcd (s : State) (n a : Nat) : Nat := SMap.get 0 (s.dpOf n).dpcd a

def State.setDpcd (s : State) (n a v : Nat) : State := s.updDp n fun d => { d with dpcd := SMap.set 0 d.dpcd a v }

/-- LINK_BW codes of RBR to HBR3 (R134). -/
def bwCode (rate : Nat) : Nat := match rate with | 0 => 0x06 | 1 => 0x0A | 2 => 0x14 | _ => 0x1E

/-- The rate a LINK_BW code names; 15 for none of the four. -/
def bwRate (code : Nat) : Nat := if code = 0x06 then 0 else if code = 0x0A then 1 else if code = 0x14 then 2 else if code = 0x1E then 3 else 15

/-- What an AUX read of a DPCD address answers: the advertised values of R134, else what has been stored. -/
def State.dpcdRead (s : State) (n a : Nat) : Nat :=
  match a with
  | 0x00000 => 0x14
  | 0x00001 => bwCode (s.par P.DP_MAX_RATE n)
  | 0x00002 => 0xC4
  | 0x00003 => 0x81
  | 0x00021 => 0
  | 0x00060 => 0
  | _ => if 0x68000 ≤ a ∧ a < 0x69000 then 0 else s.dpcd n a

/-- The source has asked for four lanes at a rate no higher than DP_MAX_RATE (R135). -/
def State.trainable (s : State) (n : Nat) : Bool :=
  field (s.dpcd n 0x101) 0 5 == 4 && bwRate (s.dpcd n 0x100) ≤ s.par P.DP_MAX_RATE n

/-- Put the lane status of all four lanes: `v` in each nibble of 0x202 and 0x203, `al` in 0x204. -/
def State.laneStatus (s : State) (n v al : Nat) : State :=
  ((s.setDpcd n 0x202 (v * 17)).setDpcd n 0x203 (v * 17)).setDpcd n 0x204 al

/-- The frame a receiver is writing is damaged: its fence will not be signalled (R226). -/
def State.dpDamage (s : State) (n : Nat) : State :=
  if SMap.get 0 s.src.dpFill n = 0 ∨ s.src.dpBad.contains n then s
  else ({ s with src := { s.src with dpBad := NSet.add s.src.dpBad n } }).raise E.DP_FRAME_DAMAGED n

/-- A receiver is no longer trained, and has the state `st` of R143: its stream is not delivered, and a scan of one of its lanes
ends (R127, R143). -/
def State.dpUntrain (s : State) (n st : Nat) : State :=
  let was := (s.dpOf n).train
  let s := s.updDp n fun d => { d with train := st, delivered := false }
  if was = 5 ∨ was = 6 then ((s.setPar P.DP_LINK_STATUS n 0xF0).dpDamage n).scanCheck else s

/-- A write of TRAINING_PATTERN_SET: pattern 1 is clock recovery, the others equalisation, 0 ends training with or
without success (R135).  `cr` and `eq` say whether the lanes recover the clock and equalise. -/
def State.dpTrain (s : State) (n pat : Nat) (cr eq : Bool) : State :=
  let crOk := cr && s.trainable n
  let s := s.setDpcd n 0x102 pat
  if pat % 16 = 1 then
    (s.dpUntrain n 3).laneStatus n (b2n crOk) 0
  else if pat % 16 ≠ 0 then
    let done := crOk && eq
    (s.dpUntrain n 4).laneStatus n (if done then 7 else b2n crOk) (b2n done)
  else if (s.dpOf n).train = 3 ∨ (s.dpOf n).train = 4 then
    if s.trainable n = true ∧ s.dpcd n 0x202 = 0x77 ∧ s.dpcd n 0x203 = 0x77 ∧ s.dpcd n 0x204 % 2 = 1 then
      let v := b2n (bit (s.dpcd n 0x107) 4) * 4096 + b2n (bit (s.dpcd n 0x101) 7) * 2048 + 4 * 256
        + bwRate (s.dpcd n 0x100) * 16
      ((s.setPar P.DP_LINK_STATUS n v).updDp n fun d => { d with train := 5 }).raise E.DP_TRAINED n
    else
      ((s.setPar P.DP_LINK_STATUS n 0xF0).updDp n fun d => { d with train := 7 }).raise E.DP_TRAINING_FAILED n
  else s

/-- Native writes byte by byte; TRAINING_PATTERN_SET drives training.  The capability fields, and the lane status and error counts
at 0x202 to 0x217, are the receiver's own (PRESUMED of the DPCD, log entry 8). -/
def State.auxWrite (s : State) (n : Nat) (cr eq : Bool) : Nat → List Byte → State
  | _, [] => s
  | a, b :: bs =>
    let s := if a = 0x102 then s.dpTrain n b.toNat cr eq
      else if a < 0x100 ∨ (0x202 ≤ a ∧ a < 0x218) then s else s.setDpcd n a b.toNat
    State.auxWrite s n cr eq (a + 1) bs

/-- AUX_REQUEST: answered from the DPCD, or over I2C from the EDID at 0x50 with the segment pointer at 0x30; every
other I2C address is answered with NACK; while HPD is low nothing is answered (R138, R139).  The segment pointer holds from one
transaction to the next, and a byte beyond the 512 reads 0 (DESIGN CHOICE, log entry 8). -/
def execAuxRequest (n : Fin 4) (req : AuxReq) (cr eq : Bool) (s : State) : Res :=
  .next <|
  if !s.hpdEnabled n || (s.dpOf n).cycling || (s.dpOf n).pulse then s
  else match req with
  | .nativeRead a len => s.send (.aux n true ((List.range len).map fun i => BitVec.ofNat 8 (s.dpcdRead n (a + i))))
  | .nativeWrite a data => (s.auxWrite n cr eq a data).send (.aux n true [])
  | .i2cWrite dev data =>
    if dev = 0x50#7 then
      (s.updDp n fun d => { d with offset := (data.getD 0 0).toNat }).send (.aux n true [])
    else if dev = 0x30#7 then
      (s.updDp n fun d => { d with segment := (data.getD 0 0).toNat }).send (.aux n true [])
    else s.send (.aux n false [])
  | .i2cRead dev len =>
    if dev = 0x50#7 then
      let d := s.dpOf n
      let out := (List.range len).map fun i =>
        let o := d.segment * 256 + (d.offset + i) % 256
        BitVec.ofNat 8 (if o < 512 then s.blobByte P.DP_EDID n o else 0)
      (s.updDp n fun d => { d with offset := (d.offset + len) % 256 }).send (.aux n true out)
    else s.send (.aux n false [])

/-- Symbol lock or clock recovery is lost on a lane of a trained receiver: lane status, IRQ_HPD pulse, EV 122 (R136). -/
def State.dpLinkLoss (s : State) (n lane : Nat) : State :=
  if (s.dpOf n).train ≠ 5 ∧ (s.dpOf n).train ≠ 6 then s
  else
    let a := 0x202 + lane / 2
    let v := s.dpcd n a
    let v := if lane % 2 = 0 then v / 16 * 16 else v % 16
    let s := (s.setDpcd n a v).setDpcd n 0x204 0
    ((s.updDp n fun d => { d with pulse := true }).raise E.DP_LINK_LOST n lane).dpUntrain n 2

/-- DP_LANE_LOCK_LOSS (R136). -/
def execDpLaneLockLoss (n : Fin 4) (lane : Fin 4) (s : State) : Res := .next (s.dpLinkLoss n lane)

/-! Quad PLLs (R114) -/

/-- Every lane of a quad leaves its state at once: a Kryper lane to SIGNAL, and a DP lane with it, whose trained receiver loses its
link (R114, R136; log entry 8). -/
def State.quadLeaves (s : State) (q : Nat) : State :=
  s.each [0, 1, 2, 3] fun s i =>
    let n := q * 4 + i
    if s.laneState n = L.OFF then s
    else if s.laneState n = L.DP then (s.dpLinkLoss q i).laneGo n L.SIGNAL
    else s.laneGo n L.SIGNAL

/-- Each lane of a quad that had left its state starts again from CDR, and a DP lane serves its receiver again (R114). -/
def State.quadReturns (s : State) (q : Nat) : State :=
  s.each [0, 1, 2, 3] fun s i =>
    let n := q * 4 + i
    if s.laneState n ≠ L.SIGNAL then s
    else if s.laneUse n / 16 = 4 then s.laneGo n L.DP
    else (s.updLane n fun l => { l with adapted := false, polarityTold := false }).laneGo n L.CDR

/-- QUAD_PLL_LOCK_LOSS: every lane of the quad leaves its state at once (R114). -/
def execQuadPllLockLoss (q : Fin 8) (s : State) : Res :=
  .next <|
  if s.lane.pllLost.contains q.val then s
  else
    let s := { s with lane := { s.lane with pllLost := NSet.add s.lane.pllLost q } }
    (s.raise E.QUAD_PLL_LOST q 0).quadLeaves q

/-- QUAD_PLL_RELOCK: each lane of the quad that had left its state starts again from CDR (R114), unless its cluster is quiesced. -/
def execQuadPllRelock (q : Fin 8) (s : State) : Res :=
  .next <|
  if !s.lane.pllLost.contains q.val then s
  else
    let s := { s with lane := { s.lane with pllLost := NSet.del s.lane.pllLost q } }
    if s.clusterOut .front q then s else s.quadReturns q

/-- Symbol errors of one lane since the last call, counted in the DPCD error count and in `#18.0004` (R135). -/
def State.dpSymbolErrors (s : State) (n lane k : Nat) : State :=
  let s := s.bumpBy P.DP_SYMBOL_ERRORS (4 * n + lane) k
  let c := min (s.dpcd n (0x210 + 2 * lane) + 256 * (s.dpcd n (0x211 + 2 * lane) % 128) + k) 0x7FFF
  (s.setDpcd n (0x210 + 2 * lane) (c % 256)).setDpcd n (0x211 + 2 * lane) (0x80 + c / 256)

/-- HPD_PULSE_END: after 0.75 ms HPD returns high (R136). -/
def execHpdPulseEnd (n : Fin 4) (s : State) : Res :=
  .next (s.updDp n fun d => { d with pulse := false })

/-- HPD_CYCLE_END: after the 250 ms of a configuration latch HPD rises again (R139). -/
def execHpdCycleEnd (n : Fin 4) (s : State) : Res :=
  .next (s.updDp n fun d => { d with cycling := false })

/-- A stream format lies within the limits of R137. -/
def msaSupported (m : MsaInfo) : Bool :=
  m.format ≤ 2 && (m.bits == 6 || m.bits == 8 || m.bits == 10 || m.bits == 12) &&
  m.width ≤ 8192 && m.height ≤ 8192 && m.clock ≤ 1200000

/-- The format a stream's MSA and SDPs give: colorimetry and transfer from the VSC SDP when one is sent, else from the MSA's MISC
fields (R137). -/
def msaFmt (m : MsaInfo) : DpFormat :=
  let c := m.vsc.getD (m.colorimetry, m.transfer)
  { width := m.width, height := m.height, totalWidth := m.totalWidth, totalHeight := m.totalHeight, clock := m.clock
    rate := m.rate, bits := m.bits, format := m.format, colorimetry := c.1, transfer := c.2, range := m.range }

/-- The 32 bytes of `#18.0021 DP_VIDEO_FORMAT` (R142). -/
def DpFormat.bytes (f : DpFormat) : List Byte :=
  leBytes 2 f.width ++ leBytes 2 f.height ++ leBytes 2 f.totalWidth ++ leBytes 2 f.totalHeight ++ leBytes 4 f.clock ++
  leBytes 4 f.rate ++ leBytes 1 f.bits ++ leBytes 1 f.format ++ leBytes 1 f.colorimetry ++ leBytes 1 f.transfer ++
  leBytes 1 f.range ++ leBytes 11 0

/-- MSA_RECEIVED: on a trained link the format is read; a change raises EV 123; a stream outside the limits is not delivered and
raises EV 124 when it begins or changes; HDR metadata is kept (R137). -/
def execMsaReceived (n : Fin 4) (m : MsaInfo) (s : State) : Res :=
  .next <|
  let d := s.dpOf n
  if d.train ≠ 5 ∧ d.train ≠ 6 then s
  else
    let changed := d.format != (msaFmt m)
    let fresh := changed || d.train == 5
    let s := s.updDp n fun d => { d with format := (msaFmt m), delivered := (msaSupported m), train := 6
                                         hdr := match m.hdr with | some h => h | none => d.hdr }
    let s := if changed then ((s.setBlob P.DP_VIDEO_FORMAT n 0 (msaFmt m).bytes).raise E.DP_FORMAT_CHANGED n).dpDamage n
      else s
    s.raiseIf (!msaSupported m && fresh) E.DP_FORMAT_UNSUPPORTED n

/-- A latch changed the EDID or DP_MAX_RATE of a receiver whose HPD is high: HPD is driven low for 250 ms (R139). -/
def State.hpdCycle (s : State) (n : Nat) : State :=
  if s.hpd n then ((s.updDp n fun d => { d with cycling := true }).raise E.DP_HPD_CYCLED n).dpUntrain n 2 else s

/-- A latch took HPD away from a receiver: it is untrained (R139, R143). -/
def State.hpdDrop (s before : State) (n : Nat) : State :=
  if before.hpdEnabled n && !s.hpdEnabled n then s.dpUntrain n 2 else s

/-- INVALID_SYMBOL: a symbol with the code `code` arrives `gap` symbols after the lane's previous invalid one, at the receiver's
running disparity `pos`; `misaligned` says that it shows a comma at another alignment.  If it is invalid it is replaced by K30.7
and counted (R115); EV 83 above the limit in a second (R144); a fourth within 64 symbols loses sync (R119).  On a DP lane the
error is counted for its receiver (R135). -/
def execInvalidSymbol (n : Fin 32) (gap : Nat) (s : State) (pos : Bool := false) (code : BitVec 10 := 0)
    (misaligned : Bool := false) : Res :=
  .next <|
  if !symbolInvalid pos code.toNat misaligned then s
  else if s.laneState n = L.DP then s.dpSymbolErrors (n.val / 4) (n.val % 4) 1
  else if !s.decoding n then s
  else
    let s := ((s.bump P.CODE_ERRORS n).count 197).poisonSymbol n
    let l := s.laneOf n
    let pos := l.symbols + gap
    let fresh := l.secStart + sec ≤ s.now
    let cnt := if fresh then 1 else l.secCount + 1
    let near := (l.invalid.filter (fun p => pos < p + 64))
    let s := s.updLane n fun l => { l with
      symbols := pos, invalid := (pos :: near).take 4
      secStart := if fresh then s.now else l.secStart, secCount := cnt }
    let s := if s.par P.CODE_ERROR_LIMIT < cnt then s.raiseLimited E.CODE_ERROR_RATE n sec else s
    if s.laneUp n && near.length ≥ 3 then s.syncLoss n else s

end Sys2Proof.Machine
end

