-- ==== Sys2Proof/Machine/Source.lean ====
section
/-! DEFINITION. Sources, ingress fills, fences, stills, DP frames and flips (chapter 09). -/

namespace Sys2Proof.Machine

/-! Video packets (R148, R149) -/

/-- FLAGS of a video header (R149). -/
def VideoHead.flags (h : VideoHead) : Nat := 128 * b2n h.last + 64 * b2n h.incomplete + 32 * b2n h.repeated

/-- The 26 header bytes (R149). -/
def videoHeadBytes (h : VideoHead) : List Byte :=
  leBytes 2 h.dest.toNat ++ leBytes 2 h.src.toNat ++ leBytes 4 h.epoch.toNat ++ leBytes 6 h.tick.toNat ++
  leBytes 4 h.offset.toNat ++ leBytes 2 h.index.toNat ++ leBytes 2 h.count.toNat ++ leBytes 1 (VideoHead.flags h) ++
  [h.format] ++ leBytes 2 h.gap.toNat

/-- The bytes the CRC-32 of a video packet covers: header, payload and SIGNATURE (R148). -/
def videoCovered (v : VideoPacket) : List Byte :=
  videoHeadBytes v.head ++ v.payload ++ (if v.head.last then leBytes 8 v.signature.toNat else [])

/-- A video packet passes its CRC-32; one that carries K30.7 cannot (R116, R148). -/
def videoOk (v : VideoPacket) : Bool := !v.poison && crc32 (videoCovered v) == v.crc.toNat

/-! Buffers (R220) -/

/-- Key of a source: 16 × kind + index. -/
abbrev srcKey (kind idx : Nat) : Nat := 16 * kind + idx

/-- Bytes per pixel of a surface format (R223); 0 for a reserved code. -/
def fmtBytes (f : Nat) : Nat := match f with | 0 => 4 | 1 => 4 | 2 => 8 | 3 => 6 | _ => 0

/-- Rows are stored with a stride of whole 64 bytes (chapter 09, Surfaces). -/
def stride (w bpp : Nat) : Nat := (w * bpp + 63) / 64 * 64

/-- Geometry of a surface or still as one number (R234). -/
def State.geometry (s : State) (src : Nat) : Nat :=
  if src / 16 = 2 then s.par P.SURFACE_GEOMETRY (src % 16) else if src / 16 = 3 then s.par P.STILL_GEOMETRY (src % 16) else 0

/-- Number of buffers of a source (R220). -/
def State.bufCount (s : State) (src : Nat) : Nat :=
  if src / 16 = 2 then field (s.geometry src) 36 4 else if src / 16 = 1 ∨ src / 16 = 3 then 3 else 0

def bufKey (src b : Nat) : Nat := 4 * src + b

def State.bufOf (s : State) (src b : Nat) : Buf := SMap.get {} s.src.bufs (bufKey src b)

def State.updBuf (s : State) (src b : Nat) (f : Buf → Buf) : State :=
  { s with src := { s.src with bufs := SMap.upd {} s.src.bufs (bufKey src b) f } }

/-- Width, height and format code of a buffer's contents. -/
def State.bufShape (s : State) (src b : Nat) : Nat × Nat × Nat :=
  if src / 16 = 1 then ((s.bufOf src b).width, (s.bufOf src b).height, (s.bufOf src b).format)
  else (field (s.geometry src) 0 16, field (s.geometry src) 16 16, field (s.geometry src) 32 4)

/-- Bytes of a buffer. -/
def State.bufSize (s : State) (src b : Nat) : Nat :=
  let q := s.bufShape src b
  stride q.1 (fmtBytes q.2.2) * q.2.1

/-- One byte of a buffer: what was written, else its undefined contents, which are free (log entry 2). -/
def State.bufByte (s : State) (src b off : Nat) : Nat :=
  match SMap.get 0 s.src.bytes (bufKey src b * 2 ^ 32 + off) with
  | 0 => if (s.bufOf src b).undef = 0 then 0 else Config.undefinedByte ((s.bufOf src b).undef - 1) off % 256
  | n + 1 => n

/-- Write bytes into a buffer. -/
def State.putBuf (s : State) (src b : Nat) : Nat → List Byte → State
  | _, [] => s
  | off, x :: xs =>
    State.putBuf { s with src := { s.src with
      bytes := SMap.put s.src.bytes (bufKey src b * 2 ^ 32 + off) (x.toNat + 1) } } src b (off + 1) xs

/-- The contents of a buffer become undefined. -/
def State.undefBuf (s : State) (src b : Nat) : State :=
  let id := s.free
  let s := { s with free := s.free + 1, src := { s.src with
    bytes := SMap.keep (fun k => k / 2 ^ 32 != bufKey src b) s.src.bytes } }
  s.updBuf src b fun x => { x with undef := id + 1 }

/-- `g` is a newer fill number than `f`, modulo `m` (R221). -/
def newer (m g f : Nat) : Bool := let d := (g + m - f % m) % m; 1 ≤ d && d ≤ m / 2

/-- Identity `g` is newer than `f` for a source of this kind: fill numbers, seal counts or times. -/
def newerFor (src g f : Nat) : Bool :=
  if src / 16 = 2 then newer (2 ^ 48) g f else if src / 16 = 3 then newer (2 ^ 32) g f else decide (f < g)

/-! Layers -/

def State.layerOf (s : State) (n : Nat) : Layer := SMap.get {} s.src.layers n

def State.updLayer (s : State) (n : Nat) (f : Layer → Layer) : State :=
  { s with src := { s.src with layers := SMap.upd {} s.src.layers n f } }

/-- A buffer is in use: shown by a layer, or still read by the canvas under composition (R220, R230). -/
def State.inUse (s : State) (src b : Nat) : Bool :=
  s.src.leaving.contains (bufKey src b) ||
    (List.range 16).any fun n => let l := s.layerOf n; l.src == src && l.buf == some b

/-- The newest identity in use of a source. -/
def State.usedIdent (s : State) (src : Nat) : Option Nat :=
  (List.range (s.bufCount src)).foldl (fun r b =>
    if s.inUse src b && (s.bufOf src b).st == 2 then
      match r with
      | none => some (s.bufOf src b).ident
      | some i => if newerFor src (s.bufOf src b).ident i then some (s.bufOf src b).ident else r
    else r) none

/-- State of a buffer as area 20 shows it: 0 free, 1 filling, 2 ready, 3 in use (R220). -/
def State.bufState (s : State) (src b : Nat) : Nat :=
  if s.inUse src b then 3
  else if (s.bufOf src b).st = 2 then
    match s.usedIdent src with
    | some i => if newerFor src (s.bufOf src b).ident i then 2 else 0
    | none => 2
  else (s.bufOf src b).st

/-- The newest ready buffer of a source among those that satisfy `ok`. -/
def State.readyBuf (s : State) (src : Nat) (ok : Buf → Bool) : Option Nat :=
  (List.range (s.bufCount src)).foldl (fun r b =>
    if s.bufState src b == 2 && ok (s.bufOf src b) then
      match r with
      | none => some b
      | some c => if newerFor src (s.bufOf src b).ident (s.bufOf src c).ident then some b else r
    else r) none

/-- `#20.0033 BUFFER_STATE/s`: two bits per buffer (R234). -/
def State.bufferState (s : State) (i : Nat) : Nat :=
  (List.range (s.bufCount (srcKey 2 i))).foldl (fun v b => v + s.bufState (srcKey 2 i) b * 4 ^ b) 0

/-! Ingress (R167, R221–R225) -/

/-- The lane of ingress channel `c` is UP. -/
def State.ingressUp (s : State) (c : Nat) : Bool :=
  s.isHead && (List.range 32).any fun n => s.par P.LANE_USE n == 0x20 + c && s.laneUp n

def State.chanOf (s : State) (c : Nat) : Chan := SMap.get {} s.src.chans c

def State.updChan (s : State) (c : Nat) (f : Chan → Chan) : State :=
  { s with src := { s.src with chans := SMap.upd {} s.src.chans c f } }

/-- Fill `f` of surface `i` is damaged. -/
def State.isDamaged (s : State) (i f : Nat) : Bool := (SMap.get [] s.src.damaged i).contains f

/-- Damage a fill, once: counted, EV 320, and its buffer is free again (R222). -/
def State.damageFill (s : State) (i f : Nat) : State :=
  if s.isDamaged i f then s
  else
    let s := { s with src := { s.src with
      damaged := SMap.set [] s.src.damaged i ((f :: SMap.get [] s.src.damaged i).take 16) } }
    let b := if s.bufCount (srcKey 2 i) = 0 then 0 else f % s.bufCount (srcKey 2 i)
    let s := if (s.bufOf (srcKey 2 i) b).st = 1 ∧ (s.bufOf (srcKey 2 i) b).ident = f then
        s.updBuf (srcKey 2 i) b fun x => { x with st := 0 } else s
    (s.bump P.FILLS_DAMAGED i).raise E.SURFACE_FILL_DAMAGED i

/-- A packet is discarded: counted, EV 171, and its fill is damaged (R167, R222). -/
def State.ingressDrop (s : State) (c : Nat) (v : VideoPacket) : State :=
  let i := s.par P.INGRESS_SURFACE c
  let s := (s.bump P.INGRESS_DROPS c).raise E.INGRESS_DROPPED c
  if 15 < i then s
  else if videoOk v then s.damageFill i v.head.tick.toNat
  else match (s.chanOf c).parts.head? with
    | some p => if p.fenced then s else s.damageFill i p.fill
    | none => s

/-- The packet fails a check of R167 or R222: CRC, DEST, SRC, a bound surface, FLAGS, FORMAT, and its end in the buffer. -/
def State.ingressBad (s : State) (c : Nat) (v : VideoPacket) : Bool :=
  let src := srcKey 2 (s.par P.INGRESS_SURFACE c)
  !videoOk v || v.head.dest.toNat % 4096 != s.par P.DEVICE_ID ||
  (s.par P.INGRESS_SOURCE c != 0xFFF && v.head.src.toNat % 4096 != s.par P.INGRESS_SOURCE c) ||
  decide (15 < s.par P.INGRESS_SURFACE c) || VideoHead.flags v.head != 0 ||
  v.head.format.toNat != field (s.geometry src) 32 4 || s.geometry src == 0 ||
  decide (s.bufSize src 0 < v.head.offset.toNat + v.payload.length)

/-- A fence packet: COUNT 0, INDEX 0, OFFSET 0, FLAGS 0 and no payload (R224). -/
def isFence (v : VideoPacket) : Bool :=
  v.head.count.toNat == 0 && v.head.index.toNat == 0 && v.head.offset.toNat == 0 && VideoHead.flags v.head == 0 && v.payload.isEmpty

/-- The buffer that fill `f` of a surface is written to (R221). -/
def State.fillBuf (s : State) (src f : Nat) : Nat := if s.bufCount src = 0 then 0 else f % s.bufCount src

/-- The channel's part of fill `f`, if a packet of it has come. -/
def Chan.part (ch : Chan) (f : Nat) : Option FillPart := ch.parts.find? fun p => p.fill == f

/-- Change the channel's part of fill `f`. -/
def State.updPart (s : State) (c f : Nat) (g : FillPart → FillPart) : State :=
  s.updChan c fun ch => { ch with parts := ch.parts.map fun p => if p.fill == f then g p else p }

/-- The first packet of fill `f` on a channel opens its part; an older fill that is incomplete there is abandoned as damaged
(R222). -/
def State.openPart (s : State) (c i f : Nat) : State :=
  if ((s.chanOf c).part f).isSome then s
  else
    let old := (s.chanOf c).parts.filter fun p => newer (2 ^ 48) f p.fill && !p.fenced
    let s := s.each old fun s p => s.damageFill i p.fill
    s.updChan c fun ch => { ch with parts := ({ fill := f } :: ch.parts).take 16 }

/-- A packet of a fill whose buffer is ready or in use is discarded, with EV 322 once per fill, and damages it (R222). -/
def State.fillBusy (s : State) (i f : Nat) : State :=
  let told := SMap.get [] s.src.busyTold i
  let s := if told.contains f then s
    else ({ s with src := { s.src with busyTold := SMap.set [] s.src.busyTold i ((f :: told).take 16) } }).raise E.INGRESS_BUFFER_BUSY i
  s.damageFill i f

/-- The fence value of a surface, if valid. -/
def State.fenceOf (s : State) (i : Nat) : Option Nat :=
  if bit (s.par P.SURFACE_FENCE i) 63 then some (s.par P.SURFACE_FENCE i % 2 ^ 48) else none

/-- A data packet that passed its checks is written into its buffer; those of a damaged fill are not followed (R221, R222). -/
def State.takeData (s : State) (c i : Nat) (v : VideoPacket) : State :=
  let f := v.head.tick.toNat
  let src := srcKey 2 i
  let s := s.openPart c i f
  if s.isDamaged i f then s
  else
    let s := (s.count 195).updBuf src (s.fillBuf src f) fun x => { x with st := 1, ident := f }
    let s := s.putBuf src (s.fillBuf src f) v.head.offset.toNat v.payload
    s.updPart c f fun p =>
      let first := p.count == 0 && p.indices.isEmpty
      { p with
        count := if first then v.head.count.toNat else p.count
        format := if first then v.head.format.toNat else p.format
        indices := NSet.add p.indices v.head.index.toNat
        mixed := p.mixed || (!first && (p.count != v.head.count.toNat || p.format != v.head.format.toNat)) }

/-- All packets of a part have been taken, with one COUNT and FORMAT (R224). -/
def FillPart.whole (p : FillPart) : Bool := !p.mixed && p.count != 0 && p.indices == List.range p.count

/-- A fence packet that passed its checks: the channel's part is complete once all its packets have been taken, and its fence write
is issued behind its data; with a packet missing the fill is damaged (R167, R224, R225). -/
def State.takeFence (s : State) (c i f : Nat) : State :=
  let old := match s.fenceOf i with | some g => !newer (2 ^ 48) f g | none => false
  if old || s.isDamaged i f then s.raise E.FENCE_REFUSED i
  else
    let s := s.openPart c i f
    let all := match (s.chanOf c).part f with | some p => p.whole | none => false
    let s := s.updPart c f fun p => { p with fenced := true }
    if all then s.updChan c fun ch => { ch with complete := some f, writing := ch.writing ++ [f] }
    else (s.damageFill i f).raise E.FENCE_REFUSED i

/-- A packet of an ingress lane: discarded, taken as a fence packet, or written into its surface buffer (R222, R224). -/
def State.takeIngress (s : State) (c : Nat) (v : VideoPacket) : State :=
  let i := s.par P.INGRESS_SURFACE c
  let src := srcKey 2 i
  let f := v.head.tick.toNat
  let fenced := match (s.chanOf c).part f with | some p => p.fenced | none => false
  if !s.ingressUp c then s
  else if s.ingressBad c v then s.ingressDrop c v
  else if fenced && !(isFence v && s.isDamaged i f) then s.damageFill i f
  else if isFence v then s.takeFence c i f
  else if 2 ≤ s.bufState src (s.fillBuf src f) then s.fillBusy i f
  else s.takeData c i v

/-- INGRESS_PACKET: written into its surface buffer, or discarded (R222). -/
def execIngressPacket (c : Fin 16) (v : VideoPacket) (s : State) : Res := .next (s.takeIngress c v)

/-- FENCE_PACKET: it completes the channel's part of the fill and its fence write is issued (R224, R225). -/
def execFencePacket (c : Fin 16) (v : VideoPacket) (s : State) : Res := .next (s.takeIngress c v)

/-- The fence of surface `i` advances when all its signalling channels have completed one newer fill (R225). -/
def State.advanceFence (s : State) (i f : Nat) : State :=
  let chans := (List.range 16).filter fun c => s.par P.INGRESS_SURFACE c == i
  let fresh := match s.fenceOf i with | some g => newer (2 ^ 48) f g | none => true
  if chans.isEmpty || !chans.all (fun c => (s.chanOf c).complete == some f && (s.chanOf c).done == some f) || !fresh || s.isDamaged i f || s.geometry (srcKey 2 i) == 0 then s
  else
    let src := srcKey 2 i
    let s := s.each (List.range (s.bufCount src)) fun s b =>
      if s.bufState src b = 2 then (s.updBuf src b fun x => { x with st := 0 }).bump P.FILLS_SKIPPED i else s
    let s := s.updBuf src (f % s.bufCount src) fun x => { x with st := 2, ident := f, at_ := s.now }
    (s.setPar P.SURFACE_FENCE i (2 ^ 63 + f)).setPar P.SURFACE_FENCE_TIME i (time80 s.nowNs)

/-- FENCE_WRITE_ACK: the channel's fence write has landed behind its data (R225). -/
def execFenceWriteAck (c : Fin 16) (s : State) : Res :=
  .next <|
  match (s.chanOf c).writing with
  | [] => s
  | f :: rest =>
    let s := s.updChan c fun x => { x with writing := rest, done := some f }
    if 15 < s.par P.INGRESS_SURFACE c then s else s.advanceFence (s.par P.INGRESS_SURFACE c) f

/-- A channel bound to another surface starts anew there; the channels left to a surface may all have completed one fill (R225). -/
def State.channelsMoved (s before : State) : State :=
  let moved := (List.range 16).filter fun c => s.par P.INGRESS_SURFACE c != before.par P.INGRESS_SURFACE c
  let s := s.each moved fun s c => s.updChan c fun _ => {}
  s.each moved fun s c =>
    let i := before.par P.INGRESS_SURFACE c
    match (List.range 16).find? fun d => s.par P.INGRESS_SURFACE d == i with
    | some d => (match (s.chanOf d).done with | some f => if i ≤ 15 then s.advanceFence i f else s | none => s)
    | none => s

/-! Stills (R227) -/

/-- A write of bytes to a still's load buffer (R227). -/
def State.stillDataWrite (s : State) (i off : Nat) (bs : List Byte) : State :=
  s.putBuf (srcKey 3 i) (SMap.get 0 s.src.stillLoad i) off bs

/-- The CRC-32 over the whole load buffer of a still (R227). -/
def State.stillCrc (s : State) (i : Nat) : Nat :=
  let src := srcKey 3 i
  let b := SMap.get 0 s.src.stillLoad i
  crc32 ((List.range (s.bufSize src b)).map fun o => BitVec.ofNat 8 (s.bufByte src b o))

/-- A write of the matching CRC signals the still's fence: the load buffer becomes ready, the seal count advances, and
the former ready buffer, or the free one, is loaded next, with undefined contents (R227). -/
def State.stillSealWrite (s : State) (i : Nat) : State :=
  let src := srcKey 3 i
  let b := SMap.get 0 s.src.stillLoad i
  let next := match s.readyBuf src (fun _ => true) with
    | some c => c
    | none => ((List.range 3).find? fun c => c != b && !s.inUse src c).getD b
  let s := s.bump P.STILL_SEALS i
  let s := s.updBuf src b fun x => { x with st := 2, ident := s.par P.STILL_SEALS i, at_ := s.now }
  let s := { s with src := { s.src with stillLoad := SMap.set 0 s.src.stillLoad i next } }
  (s.updBuf src next fun x => { x with st := 0 }).undefBuf src next

/-! DP frames (R226, R257, R442) -/

/-- Format of the buffers a receiver writes: RGB10A2 up to 10 bits per component, else RGB16 (R226). -/
def dpBufFormat (f : DpFormat) : Nat := if f.bits ≤ 10 then 1 else 3

/-- The buffer a DP frame is written to: a free one, else the older of the ready and the filling buffers (R226). -/
def State.dpBuffer (s : State) (src : Nat) : Option Nat :=
  match (List.range 3).find? fun b => s.bufState src b == 0 with
  | some b => some b
  | none => (List.range 3).foldl (fun r b =>
      if s.bufState src b == 3 then r
      else match r with
        | none => some b
        | some c => if (s.bufOf src b).ident < (s.bufOf src c).ident then some b else r) none

/-- DP_FRAME_START: the first active line of a delivered stream: the frame is written to a buffer, or dropped for its
rate or its size (R226, R257, R442). -/
def execDpFrameStart (n : Fin 4) (s : State) : Res :=
  .next <|
  let d := s.dpOf n
  if d.train ≠ 6 ∨ d.delivered = false then s
  else
    let src := srcKey 1 n
    let px := d.format.width * d.format.height
    let t := s.nowNs
    let tooFast := match SMap.get 0 s.src.dpStart n with
      | 0 => false
      | t0 + 1 => decide (s.par P.DP_BUDGET n * 1010 * (t - t0) < px * 1000000000)
    let s := { s with src := { s.src with dpStart := SMap.set 0 s.src.dpStart n (t + 1), dpBad := NSet.del s.src.dpBad n } }
    let f := dpBufFormat d.format
    if tooFast then ({ s with src := { s.src with dpFill := SMap.set 0 s.src.dpFill n 0 } }).raise E.DP_RATE_OVER n
    else if s.par P.DP_BUFFER n < px * fmtBytes f then
      ({ s with src := { s.src with dpFill := SMap.set 0 s.src.dpFill n 0 } }).raiseLimited E.DP_BUFFER_SMALL n sec
    else match s.dpBuffer src with
      | none => { s with src := { s.src with dpFill := SMap.set 0 s.src.dpFill n 0 } }
      | some b =>
        let s := s.updBuf src b fun _ =>
          { st := 1, ident := t, width := d.format.width, height := d.format.height, format := f }
        { s with src := { s.src with dpFill := SMap.set 0 s.src.dpFill n (b + 1) } }

/-- DP_FRAME_END: the last active line has been written and acknowledged.  `pixels` are the buffer's bytes as delivered
(YCbCr already converted, R226); `clean` says that no symbol error fell in the active video.  A damaged frame's fence
is not signalled. -/
def execDpFrameEnd (n : Fin 4) (clean : Bool) (pixels : List Byte) (s : State) : Res :=
  .next <|
  match SMap.get 0 s.src.dpFill n with
  | 0 => s
  | b + 1 =>
    let s := if clean then s else s.dpDamage n
    let bad := s.src.dpBad.contains n.val
    let src := srcKey 1 n
    let s := { s with src := { s.src with dpFill := SMap.set 0 s.src.dpFill n 0, dpBad := NSet.del s.src.dpBad n } }
    if bad then s.updBuf src b fun x => { x with st := 0 }
    else
      let s := (s.putBuf src b 0 pixels).updBuf src b fun x => { x with st := 2, at_ := s.now }
      let s := { s with src := { s.src with dpDone := SMap.set 0 s.src.dpDone n (s.now + 1) } }
      s.bump P.DP_FRAMES n

/-! Flips at the latch (R228–R233) -/

/-- Kind of the source a layer is bound to (R220). -/
def layerKind (src : Nat) : Nat := src / 16

/-- A layer's source has buffers: DP, surface or still. -/
def buffered (src : Nat) : Bool := 1 ≤ layerKind src && layerKind src ≤ 3

/-- A layer takes part in the polder run: LAYER_POLDER set, source a still, a fill or none, blended OVER or REPLACE. -/
def State.runLayer (s : State) (n : Nat) : Bool :=
  let k := layerKind (s.par P.LAYER_SOURCE n)
  let m := s.par P.LAYER_BLEND n % 4
  s.par P.LAYER_POLDER n == 1 && (k == 0 || k == 3 || k == 4) && (m == 0 || m == 2)

/-- Layers of the polder run: 0 to m for the largest m ≥ 1 (R248); 0 when there is no run. -/
def State.runLength (s : State) : Nat :=
  let n := (List.range 16).foldl (fun r n => if r == n && s.runLayer n then r + 1 else r) 0
  if n < 2 then 0 else n

/-- The buffer a layer could flip to at a latch: ready, its fence visible before the latch cycle, and for a run still
included in a complete polder build (R229, R249). -/
def State.flipBuf (s : State) (n : Nat) (tie : Bool) : Option Nat :=
  let src := s.par P.LAYER_SOURCE n
  match s.readyBuf src fun b => s.onTime tie b.at_ with
  | some b =>
    if n < s.runLength && layerKind src == 3 && !s.comp.builtStills.contains (bufKey src b) then none else some b
  | none => none

/-- Members of a flip group that have a buffered source and are not left out as starved without a ready buffer (R228). -/
def State.groupMembers (s : State) (g : Nat) (tie : Bool) : List Nat :=
  (List.range 16).filter fun n =>
    s.par P.LAYER_GROUP n == g && buffered (s.par P.LAYER_SOURCE n) &&
      !((s.layerOf n).starved && (s.flipBuf n tie).isNone)

/-- A flip group is ready under its mode (R228). -/
def State.groupReady (s : State) (g : Nat) (tie : Bool) : Bool :=
  let ms := s.groupMembers g tie
  let ids := ms.filterMap fun n => (s.flipBuf n tie).map fun b => (s.bufOf (s.par P.LAYER_SOURCE n) b).ident
  !ms.isEmpty && ms.all (fun n => (s.flipBuf n tie).isSome) &&
    (s.par P.GROUP_MODE g == 0 || ids.all (· == ids.headD 0))

/-- The layers that flip at this latch, with their new buffers, judged before any of them flips (R228). -/
def State.flips (s : State) (tie : Bool) : List (Nat × Nat) :=
  (List.range 16).filterMap fun n =>
    let g := s.par P.LAYER_GROUP n
    if !buffered (s.par P.LAYER_SOURCE n) then none
    else if 8 ≤ g || ((s.groupMembers g tie).contains n && s.groupReady g tie) then
      (s.flipBuf n tie).map fun b => (n, b)
    else none

/-- Show a buffer in a layer: the one it leaves becomes free at the tick unless another layer shows it (R230). -/
def State.showBuf (s : State) (n : Nat) (b : Option Nat) : State :=
  let l := s.layerOf n
  let s := match l.buf with
    | some c => if some c = b ∧ l.src = s.par P.LAYER_SOURCE n then s
      else { s with src := { s.src with leaving := NSet.add s.src.leaving (bufKey l.src c) } }
    | none => s
  let src := s.par P.LAYER_SOURCE n
  let s := s.updLayer n fun l => { l with src := src, buf := b }
  s.setPar P.LAYER_SHOWN n (match b with | some b => (s.bufOf src b).ident % 2 ^ 64 | none => 0)

/-- The newest buffer in use of a source. -/
def State.newestInUse (s : State) (src : Nat) : Option Nat :=
  (List.range (s.bufCount src)).foldl (fun r b =>
    if s.bufState src b == 3 then
      match r with
      | none => some b
      | some c => if newerFor src (s.bufOf src b).ident (s.bufOf src c).ident then some b else r
    else r) none

/-- A layer that the transaction rebound shows the new source's ready buffer, else its newest buffer in use, else its
loss fill with EV 330 (R229). -/
def State.rebind (s : State) (k n : Nat) (tie : Bool) : State :=
  let src := s.par P.LAYER_SOURCE n
  if (s.layerOf n).src = src then s
  else if !buffered src then (s.showBuf n none).updLayer n fun l => { l with held := 0, starved := false }
  else
    let b := match s.readyBuf src fun b => s.onTime tie b.at_ with
      | some b => some b
      | none => s.newestInUse src
    let s := (s.showBuf n b).updLayer n fun l => { l with held := 0, starved := false, flipAt := k }
    s.raiseIf b.isNone E.SOURCE_CHANGED n

/-- A DP layer's tick is stale: no video, or no frame within twice the source's frame period (R232). -/
def State.dpStale (s : State) (i : Nat) : Bool :=
  let d := s.dpOf i
  d.train != 6 || (match SMap.get 0 s.src.dpDone i with
    | 0 => true
    | t + 1 => decide (t + 500000000000 / max d.format.rate 1 < s.now))

/-- A layer's held or stale count, its starvation and its status after the flips for frame `k` (R232, R233). -/
def State.judgeLayer (s : State) (k n : Nat) : State :=
  let l := s.layerOf n
  let src := s.par P.LAYER_SOURCE n
  let c := s.par P.LAYER_CADENCE n
  let expects := (layerKind src == 2 || layerKind src == 3) && c != 0 && decide (l.flipAt + c ≤ k)
  let miss := !l.flipped && (if layerKind src = 1 then s.dpStale (src % 16) else expects)
  let held := if l.flipped || (layerKind src == 1 && !miss) then 0 else if miss then min (l.held + 1) 0xFFFF else l.held
  let s := s.raiseIf (miss && layerKind src != 1) E.FLIP_HELD n
  let resumed := l.starved && l.flipped
  let limit := s.par P.LAYER_HOLD_LIMIT n
  let starves := !l.starved && limit != 0 && decide (limit < held) && buffered src
  let s := s.raiseIf resumed E.LAYER_RESUMED n
  let s := s.raiseIf starves E.LAYER_STARVED n
  let st := (l.starved || starves) && !resumed
  let s := s.updLayer n fun l => { l with held := held, starved := st, flipAt := if l.flipped then k else l.flipAt }
  s.setPar P.LAYER_STATUS n (held * 65536 + (if st then 2 else if 0 < held then 1 else 0))

/-- A geometry change frees all buffers of a surface or still and makes its fence invalid; layers bound to it show their
loss fill (R229). -/
def State.sourceReset (s : State) (src : Nat) : State :=
  let s := s.each (List.range 4) fun s b => (s.updBuf src b fun _ => {}).undefBuf src b
  let s := s.each (List.range 16) fun s n =>
    if (s.layerOf n).src = src then (s.updLayer n fun l => { l with buf := none }).setPar P.LAYER_SHOWN n 0 else s
  let s := { s with src := { s.src with leaving := s.src.leaving.filter fun k => k / 4 != src } }
  if src / 16 = 2 then
    let i := src % 16
    let s := s.each (List.range 16) fun s c => if s.par P.INGRESS_SURFACE c = i then s.updChan c fun _ => {} else s
    { (s.setPar P.SURFACE_FENCE i 0) with src := { s.src with damaged := SMap.set [] s.src.damaged i [] } }
  else { s with src := { s.src with stillLoad := SMap.set 0 s.src.stillLoad (src % 16) 0 } }

/-- Identities of a layer's ready and in-use buffers, the one it shows first (R231). -/
def State.flipIdents (s : State) (n : Nat) : List Nat :=
  let l := s.layerOf n
  let own := match l.buf with | some b => [(s.bufOf l.src b).ident] | none => []
  own ++ ((List.range (s.bufCount l.src)).filter fun b => l.buf != some b && (s.bufState l.src b == 2 || s.bufState l.src b == 3)).map
    fun b => (s.bufOf l.src b).ident

/-- Span lanes that are UP with a delay of at most SPAN_GUARD − 1 µs: `#22.0044 SPAN_LANES` (R278). -/
def State.spanLanes (s : State) : Nat :=
  (List.range 4).foldl (fun m i =>
    let l := s.linkOf (16 + i)
    if s.chainUp (16 + i) && l.measured && decide (l.d ≤ (s.par P.SPAN_GUARD - 1000) * 65536) then setBit m i true else m) 0

/-- The flip set of frame `k` leaves: over the partner path to a redundant partner, over the span lanes to a span partner (R231,
R278). -/
def State.sendFlipSet (s : State) (k : Nat) : State :=
  let sets := (List.range 16).map s.flipIdents
  let len := 36 + 8 * (sets.map fun l => l.length + 1).sum
  let s := if s.redMode then s.sendPartner len (.flipSet k sets) else s
  if s.par P.SPAN_ROLE = 0 then s
  else
    let shown := (List.range 16).map fun n => s.par P.LAYER_SHOWN n
    let s := s.each ((List.range 4).filter (bit s.spanLanes)) fun s i => s.sendLink (16 + i) 6 none (k :: shown)
    s.send (.flipSet k sets)

/-- A head that decides with its partner's set: the standby of a redundant pair, and a head of a span pair (R231). -/
def State.flipsWait (s : State) : Bool := (s.redMode && !s.acting) || s.par P.SPAN_ROLE != 0

/-- The flips of frame `k` are settled: the groups that flipped are counted, and every layer's holds and starvation follow
(R228, R232, R233). -/
def State.settleFlips (s : State) (k : Nat) : State :=
  let groups := (List.range 8).filter fun g => (List.range 16).any fun n => s.par P.LAYER_GROUP n == g && (s.layerOf n).flipped
  let s := s.each groups fun s g => s.bump P.GROUP_FLIPS g
  s.each (List.range 16) fun s n => s.judgeLayer k n

/-- Flips at the latch of frame `k`: rebound layers first, then every ready group and ungrouped layer together; a head with a partner
sends its set, and one that waits for the partner's settles its flips with it, or with the next latch at the latest (R228–R233). -/
def State.flipLatch (s : State) (k : Nat) (tie : Bool) : State :=
  let s := if s.src.setDue = 0 then s else s.settleFlips (s.src.setDue - 1)
  let s := s.each (List.range 16) fun s n => s.updLayer n fun l => { l with
    flipped := false, before := l.buf.map fun b => bufKey l.src b }
  let fl := (s.flips tie).filter fun p => (s.layerOf p.1).src = s.par P.LAYER_SOURCE p.1
  let s := s.each (List.range 16) fun s n => s.rebind k n tie
  let s := s.each fl fun s p => (s.showBuf p.1 (some p.2)).updLayer p.1 fun l => { l with flipped := true }
  let s := if s.redMode || s.par P.SPAN_ROLE != 0 then s.sendFlipSet k else s
  if s.flipsWait then { s with src := { s.src with setDue := k + 1, setFrom := s.now } }
  else ({ s with src := { s.src with setDue := 0 } }).settleFlips k

/-- Two identities correspond (R231): DP times less than a quarter of a frame period apart, others equal. -/
def State.correspond (s : State) (src a b : Nat) : Bool :=
  if layerKind src = 1 then decide (4 * ((a : Int) - b).natAbs * max (s.dpOf (src % 16)).format.rate 1 < 1000000000000)
  else a == b

/-- A buffer of a layer's source, ready or in use, that corresponds to an identity of the partner's. -/
def State.matchBuf (s : State) (src ident : Nat) : Option Nat :=
  (List.range (s.bufCount src)).find? fun b =>
    (s.bufState src b == 2 || s.bufState src b == 3) && s.correspond src (s.bufOf src b).ident ident

/-- The identities a set names for layer `n`. -/
def setIdents (set : List (Fin 16 × List Nat)) (n : Nat) : List Nat :=
  match set.find? fun p => p.1.val == n with | some p => p.2 | none => []

/-- The newest of a list of buffers of a source. -/
def State.newestBuf (s : State) (src : Nat) (bs : List Nat) : Option Nat :=
  bs.foldl (fun r b => match r with
    | none => some b
    | some c => if newerFor src (s.bufOf src b).ident (s.bufOf src c).ident then some b else r) none

/-- The buffer a span head shows in layer `n`: the newest both heads have.  In a MATCH group it is the newest fill that every member
with a set has in both (R231; log entry 15). -/
def State.spanBuf (s : State) (set : List (Fin 16 × List Nat)) (n : Nat) : Option Nat :=
  let src := s.par P.LAYER_SOURCE n
  let g := s.par P.LAYER_GROUP n
  let both := fun m => (setIdents set m).filterMap (s.matchBuf (s.par P.LAYER_SOURCE m))
  let peers := (List.range 16).filter fun m => s.par P.LAYER_GROUP m == g && buffered (s.par P.LAYER_SOURCE m) && !(both m).isEmpty
  let fits := fun b => decide (8 ≤ g) || s.par P.GROUP_MODE g == 0 ||
    peers.all fun m => (both m).any fun c => (s.bufOf (s.par P.LAYER_SOURCE m) c).ident == (s.bufOf src b).ident
  s.newestBuf src ((both n).filter fits)

/-- Layer `n` follows the partner's set: a span head shows the newest buffer both have, a standby the one that corresponds to the
active's, with EV 336 where it has none (R231). -/
def State.followSet (s : State) (set : List (Fin 16 × List Nat)) (n : Nat) : State :=
  let src := s.par P.LAYER_SOURCE n
  if !buffered src || (setIdents set n).isEmpty then s
  else if s.par P.SPAN_ROLE ≠ 0 then
    match s.spanBuf set n with
    | some b => s.showBuf n (some b)
    | none => s
  else match s.matchBuf src ((setIdents set n).headD 0) with
    | some b => s.showBuf n (some b)
    | none => s.raise E.FLIP_PARTNER_DIFFER n

/-- What layers left at the latch is judged anew after they followed a set: a layer flipped when it shows another buffer of its
source than before the latch, and the buffers shown before are the ones that leave use (R230, R231). -/
def State.judgeFlips (s : State) : State :=
  let s := s.each (List.range 16) fun s n => s.updLayer n fun l => { l with
    flipped := match l.before, l.buf with
      | some x, some b => x != bufKey l.src b && x / 4 == l.src
      | none, some _ => l.flipped
      | _, none => false }
  { s with src := { s.src with
    leaving := ((List.range 16).filterMap fun n => (s.layerOf n).before).foldl NSet.add [] } }

/-- Buffers that left use at the latch of the tick become free at the tick (R230). -/
def State.freeLeaving (s : State) : State :=
  let ks := s.src.leaving
  let s := { s with src := { s.src with leaving := [] } }
  s.each ks fun s k => if s.inUse (k / 4) (k % 4) then s else s.updBuf (k / 4) (k % 4) fun b => { b with st := 0 }

end Sys2Proof.Machine
end

