-- ==== Sys2Proof/Machine/Compose.lean ====
section
/-! DEFINITION. Composition of a canvas: placing, decoding, scaling, tone mapping and blending layers; polder, dike,
shedding and budgets (chapter 10). -/

namespace Sys2Proof.Machine

/-- A colour in working units (R236). -/
abbrev Rgb := Nat × Nat × Nat

/-- Round a value in working units and clamp it to U24 (R236; halves upward, log entry 13). -/
def unit24 (q : ℚ) : Nat := (clampI 0 16777215 ⌊q + 1 / 2⌋).toNat

/-! Areas (R238, R254) -/

/-- A rectangle: left, top, width, height. -/
abbrev Rect := Int × Int × Nat × Nat

/-- Common part of two rectangles. -/
def Rect.meet (a b : Rect) : Rect :=
  let x0 := max a.1 b.1
  let y0 := max a.2.1 b.2.1
  let x1 := min (a.1 + a.2.2.1) (b.1 + b.2.2.1)
  let y1 := min (a.2.1 + a.2.2.2) (b.2.1 + b.2.2.2)
  (x0, y0, (x1 - x0).toNat, (y1 - y0).toNat)

def Rect.area (a : Rect) : Nat := a.2.2.1 * a.2.2.2

/-- Columns this head composes, and those it streams: first and width (R254, R260). -/
def State.composedCols (s : State) : Nat × Nat :=
  let w := s.par P.CANVAS_WIDTH
  let m := s.par P.SPAN_SEAM
  let o := s.par P.SPAN_OVERLAP
  match s.par P.SPAN_ROLE with
  | 1 => (0, min w (m + o))
  | 2 => (m - o, w - (m - o))
  | _ => (0, w)

def State.streamedCols (s : State) : Nat × Nat :=
  let w := s.par P.CANVAS_WIDTH
  match s.par P.SPAN_ROLE with
  | 1 => (0, min w (s.par P.SPAN_SEAM))
  | 2 => (s.par P.SPAN_SEAM, w - s.par P.SPAN_SEAM)
  | _ => (0, w)

/-- The composed and the streamed area. -/
def State.composedArea (s : State) : Rect := (s.composedCols.1, 0, s.composedCols.2, s.par P.CANVAS_HEIGHT)
def State.streamedArea (s : State) : Rect := (s.streamedCols.1, 0, s.streamedCols.2, s.par P.CANVAS_HEIGHT)

/-! Layers (R239) -/

/-- Kind of the source bound to a layer. -/
def State.kindOf (s : State) (n : Nat) : Nat := layerKind (s.par P.LAYER_SOURCE n)

/-- Size of what a layer's source holds: the frame shown for DP, else the geometry; 1 × 1 for a fill. -/
def State.sourceSize (s : State) (n : Nat) : Nat × Nat :=
  let src := s.par P.LAYER_SOURCE n
  if s.kindOf n = 1 then
    match (s.layerOf n).buf with
    | some b => ((s.bufOf src b).width, (s.bufOf src b).height)
    | none => ((s.dpOf (src % 16)).format.width, (s.dpOf (src % 16)).format.height)
  else (field (s.geometry src) 0 16, field (s.geometry src) 16 16)

/-- The crop as configured: x, y, width, height; width or height 0 means the whole source. -/
def State.cropSet (s : State) (n : Nat) : Nat × Nat × Nat × Nat :=
  let r := s.par P.LAYER_SRC_RECT n
  let q := s.sourceSize n
  if field r 32 16 = 0 ∨ field r 48 16 = 0 then (0, 0, q.1, q.2)
  else (field r 0 16, field r 16 16, field r 32 16, field r 48 16)

/-- The crop in force: a DP frame smaller than it crops it (R239). -/
def State.crop (s : State) (n : Nat) : Nat × Nat × Nat × Nat :=
  let c := s.cropSet n
  if s.kindOf n = 1 then
    let q := s.sourceSize n
    (c.1, c.2.1, min c.2.2.1 (q.1 - c.1), min c.2.2.2 (q.2 - c.2.1))
  else c

/-- Destination in global canvas coordinates (R239). -/
def State.dst (s : State) (n : Nat) : Rect :=
  let r := s.par P.LAYER_DST_RECT n
  (signed 16 (field r 0 16), signed 16 (field r 16 16), field r 32 16, field r 48 16)

/-- Visible destination within the composed area. -/
def State.visible (s : State) (n : Nat) : Rect := Rect.meet (s.dst n) s.composedArea

/-- A layer is scaled when crop and destination differ in size (R239); fills and empty layers are not. -/
def State.scaled (s : State) (n : Nat) : Bool :=
  buffered (s.par P.LAYER_SOURCE n) && Rect.area (s.dst n) != 0 &&
    ((s.crop n).2.2.1 != (s.dst n).2.2.1 || (s.crop n).2.2.2 != (s.dst n).2.2.2)

/-- Layers that hold a scaler: scaled, with a non-empty visible destination or in the polder run (R244). -/
def State.scalerLayers (s : State) : List Nat :=
  (List.range 16).filter fun n => s.scaled n && (Rect.area (s.visible n) != 0 || decide (n < s.runLength))

/-- `#21.0021 SCALER_MAP`: the first eight such layers, in layer order. -/
def State.scalerMap (s : State) : Nat :=
  leNat ((List.range 8).map fun i => BitVec.ofNat 8 (s.scalerLayers.getD i 0xFF))

/-- Ratios and line store of a scaled layer break the limits of R245. -/
def State.scaleBad (s : State) (n : Nat) : Bool :=
  let c := s.crop n
  let d := s.dst n
  let v := field (s.par P.LAYER_SCALE n) 0 3
  decide (c.2.2.1 * 32 < d.2.2.1) || decide (d.2.2.1 * 4 < c.2.2.1) ||
  (if v = 1 then c.2.2.2 != d.2.2.2 else decide (c.2.2.2 * 32 < d.2.2.2) || decide (d.2.2.2 * v < c.2.2.2 * 2)) ||
  decide (49152 < (s.visible n).2.2.1 * v) || c.2.2.1 == 0 || c.2.2.2 == 0

/-- A DP layer's frame crop breaks the scaler's limits, or needs a scaler the layer was not given (R239). -/
def State.dpUnfit (s : State) (n : Nat) : Bool :=
  s.kindOf n == 1 && s.scaled n && Rect.area (s.visible n) != 0 &&
    (s.scaleBad n || !(List.range 8).any fun i => field (s.par P.SCALER_MAP) (8 * i) 8 == n)

/-- At a latch a DP layer whose new frame does not fit shows its loss fill, until the first frame that fits (R239). -/
def State.judgeScale (s : State) (n : Nat) : State :=
  let bad := s.dpUnfit n
  let s := s.raiseIf (bad && !(s.layerOf n).outOfRange) E.SCALE_OUT_OF_RANGE n
  s.updLayer n fun l => { l with outOfRange := bad }

/-! Decoding (R241) -/

/-- A normalised code value E′ (R241). -/
def normalise (limited : Bool) (bits v : Nat) : ℚ :=
  if limited then
    let b : ℚ := 2 ^ (bits - 8)
    max 0 (min 1 (((v : ℚ) - 16 * b) / (219 * b)))
  else (v : ℚ) / (2 ^ bits - 1)

/-- The transfer tag of a layer: limited range, BT.2020 primaries, transfer 1 SDR, 2 PQ, 3 HLG; a DP layer with bit 7
takes it from its stream (R241). -/
def State.tag (s : State) (n : Nat) : Bool × Bool × Nat :=
  let t := s.par P.LAYER_TRANSFER n
  if bit t 7 && s.kindOf n == 1 then
    let f := (s.dpOf (s.par P.LAYER_SOURCE n % 16)).format
    (f.range == 1, f.colorimetry == 1, f.transfer + 1)
  else (bit t 6, field t 4 2 == 1, t % 16)

/-- Linear light of three codes in working units (R241, step 2). -/
def State.decode (s : State) (tag : Bool × Bool × Nat) (bits : Nat) (c : Rgb) : Rgb :=
  let e (v : Nat) := normalise tag.1 bits v
  match tag.2.2 with
  | 2 =>
    let f (v : Nat) := unit24 (Config.pqInv (e v) * 10000 * 1024)
    (f c.1, f c.2.1, f c.2.2)
  | 3 =>
    let i (v : Nat) := Config.hlgInverse (e v)
    let o := Config.hlgOotf (s.par P.HLG_PEAK) (i c.1, i c.2.1, i c.2.2)
    (unit24 (o.1 * 1024), unit24 (o.2.1 * 1024), unit24 (o.2.2 * 1024))
  | _ =>
    let f (v : Nat) := unit24 (s.par P.SDR_WHITE * Config.pow24 (e v) * 1024)
    (f c.1, f c.2.1, f c.2.2)

/-- A sum of Q2.13 products rounded once (R241, R246). -/
def q13 (x : Int) : Nat := (clampI 0 16777215 ((x + 4096) / 8192)).toNat

/-- BT.709 to BT.2020 by the matrix of R241 in Q2.13. -/
def to2020 (c : Rgb) : Rgb :=
  let f (a b d : Int) := q13 (a * c.1 + b * c.2.1 + d * c.2.2)
  (f 5140 2698 355, f 566 7533 93, f 134 721 7337)

/-- Pixel (x, y) of a buffer as codes, bits per component and alpha widened to 16 bits (R223, R240). -/
def State.fetch (s : State) (src b x y : Nat) : Rgb × Nat × Nat :=
  let q := s.bufShape src b
  let bpp := fmtBytes q.2.2
  let off := y * stride q.1 bpp + x * bpp
  let v := leNat ((List.range bpp).map fun i => BitVec.ofNat 8 (s.bufByte src b (off + i)))
  let alpha (a : Nat) := if src / 16 = 1 then 65535 else a
  match q.2.2 with
  | 0 => ((field v 0 8, field v 8 8, field v 16 8), 8, alpha (field v 24 8 * 0x0101))
  | 1 => ((field v 0 10, field v 10 10, field v 20 10), 10, alpha (field v 30 2 * 0x5555))
  | 2 => ((field v 0 16, field v 16 16, field v 32 16), 16, alpha (field v 48 16))
  | _ => ((field v 0 16, field v 16 16, field v 32 16), 16, 65535)

/-- A decoded pixel in BT.2020 working units with its alpha (R241, steps 1 to 3). -/
def State.linear (s : State) (n b x y : Nat) : Nat × Nat × Nat × Nat :=
  let p := s.fetch (s.par P.LAYER_SOURCE n) b x y
  let t := s.tag n
  let c := s.decode t p.2.1 p.1
  let c := if t.2.1 then c else to2020 c
  (c.1, c.2.1, c.2.2, p.2.2)

/-! Scaling (R246, R247) -/

/-- A coefficient of a scaler table, a Q2.13 field of 15 bits in its slot (R14): horizontal rows of 8, then vertical rows of 6. -/
def State.coeff (s : State) (t i : Nat) : Int := signed 15 (s.blobNat P.SCALER_COEFF t (2 * i) 2)

/-- Horizontal weights of a phase: offset from the centre tap and weight. -/
def State.hTaps (s : State) (t ph : Nat) : List (Int × Int) :=
  (List.range 8).map fun (i : Nat) => (((i : Nat) : Int) - 3, s.coeff t (ph * 8 + i))

/-- First and last vertical offset used for V taps (R246). -/
def vSpan (v : Nat) : Int × Int :=
  match v with | 1 => (0, 0) | 2 => (0, 1) | 3 => (-1, 1) | 4 => (-1, 2) | 5 => (-2, 2) | _ => (-2, 3)

/-- Vertical weights of a phase: a tap left out gives its weight to the nearest tap used (R246). -/
def State.vTaps (s : State) (t ph v : Nat) : List (Int × Int) :=
  (List.range 6).map fun (i : Nat) => (clampI (vSpan v).1 (vSpan v).2 (((i : Nat) : Int) - 2), s.coeff t (512 + ph * 6 + i))

/-- Source position of a destination coordinate: centre tap and phase (R246). -/
def scalePos (srcN dstN src0 : Nat) (rel : Int) : Int × Nat :=
  let step : Int := (2 * srcN * 16777216 + dstN) / (2 * dstN)
  let p : Int := src0 * 16777216 + rel * step + step / 2 - 8388608
  (p / 16777216, (p / 262144 % 64).toNat)

/-- Weighted sum of pixels with alpha, each component rounded once (R246). -/
def weigh (l : List (Int × Nat × Nat × Nat × Nat)) : Nat × Nat × Nat × Nat :=
  let f (g : Nat × Nat × Nat × Nat → Nat) : Int := (l.map fun p => p.1 * ((g p.2 : Nat) : Int)).sum
  (q13 (f (·.1)), q13 (f (·.2.1)), q13 (f (·.2.2.1)), min 65535 (q13 (f (·.2.2.2))))

/-- The pixel of a layer's buffer at a canvas position, scaled where the layer is (R241, step 4).  A tap beyond the crop,
or beyond the source columns that map into the composed area, reads the nearest pixel inside (R246). -/
def State.layerSample (s : State) (n b : Nat) (x y : Int) : Nat × Nat × Nat × Nat :=
  let c := s.crop n
  let d := s.dst n
  if !s.scaled n then s.linear n b (c.1 + (x - d.1).toNat) (c.2.1 + (y - d.2.1).toNat)
  else
    let t := field (s.par P.LAYER_SCALE n) 4 2
    let v := field (s.par P.LAYER_SCALE n) 0 3
    let vis := s.visible n
    let px := scalePos c.2.2.1 d.2.2.1 c.1 (x - d.1)
    let py := scalePos c.2.2.2 d.2.2.2 c.2.1 (y - d.2.1)
    let lo := max (c.1 : Int) (scalePos c.2.2.1 d.2.2.1 c.1 (vis.1 - d.1)).1
    let hi := min (c.1 + c.2.2.1 - 1 : Int) (scalePos c.2.2.1 d.2.2.1 c.1 (vis.1 + vis.2.2.1 - 1 - d.1)).1
    let col (r : Nat) : Nat × Nat × Nat × Nat :=
      weigh ((s.hTaps t px.2).map fun w => (w.2, s.linear n b (clampI lo hi (px.1 + w.1)).toNat r))
    weigh ((s.vTaps t py.2 v).map fun w =>
      (w.2, col (clampI c.2.1 (c.2.1 + c.2.2.2 - 1) (py.1 + w.1)).toNat))

/-! Tone mapping (R242, R243) -/

/-- PQ of a luminance in cd/m². -/
def pqOf (l : ℚ) : ℚ := Config.pq (l / 10000)

/-- The static curve at x: 1,024 points, interpolated linearly (R242). -/
def State.toneCurve (s : State) (x : ℚ) : ℚ :=
  let p := max 0 (min 1 x) * 1023
  let i := ⌊p⌋.toNat
  let pt (j : Nat) : ℚ := s.blobNat P.TONE_CURVE 0 (2 * min j 1023) 2
  (pt i + (pt (i + 1) - pt i) * (p - i)) / 65535

/-- Source maximum of a layer's tag (R243); the mastering maximum of a DP stream's metadata is the 16-bit field at byte
18 of the static metadata (log entry 13). -/
def State.sourceMax (s : State) (n : Nat) : ℚ :=
  match (s.tag n).2.2 with
  | 2 =>
    let m := if s.kindOf n = 1 then leNat (bytesAt (s.dpOf (s.par P.LAYER_SOURCE n % 16)).hdr 18 2) else 0
    if m = 0 then 1 else pqOf m
  | 3 => pqOf (s.par P.HLG_PEAK)
  | _ => pqOf (s.par P.SDR_WHITE)

/-- The knee top in force for a layer (R243). -/
def State.kneeTop (s : State) (n : Nat) : ℚ :=
  let v := SMap.get 0 s.comp.xhi n
  if v = 0 then s.sourceMax n else min (v - 1) (s.sourceMax n)

/-- The knee start x_k (R242). -/
def State.kneeStart (s : State) : ℚ := pqOf ((s.par P.KNEE_START : ℚ) / 100 * s.par P.WALL_PEAK)

/-- Tone mapping by one gain on the greatest primary (R242); also answers x for the statistics. -/
def State.toneMap (s : State) (n : Nat) (c : Rgb) : Rgb × ℚ :=
  let t := s.par P.LAYER_TONE n
  let m := max c.1 (max c.2.1 c.2.2)
  let x := pqOf ((m : ℚ) / 1024)
  let curve (v : ℚ) := if bit t 0 then s.toneCurve v else v
  let xk := s.kneeStart
  let xh := s.kneeTop n
  let yp := pqOf (s.par P.WALL_PEAK)
  let y := if bit t 1 && decide (xk < xh) && decide (xk < x) then
      let u := min ((x - xk) / (xh - xk)) 1
      s.toneCurve xk + (yp - s.toneCurve xk) * (1 - (1 - u) ^ 2)
    else curve x
  let y := min y yp
  let y := y + pqOf ((s.par P.WALL_BLACK : ℚ) / 1000) * (1 - y) ^ 4
  let l := Config.pqInv y * 10000 * 1024
  if m = 0 then ((unit24 l, unit24 l, unit24 l), x)
  else
    let g := l / m
    ((unit24 (c.1 * g), unit24 (c.2.1 * g), unit24 (c.2.2 * g)), x)

/-! Blending (R240) -/

/-- Effective alpha under an opacity. -/
def effAlpha (a op : Nat) : Nat := (a * op + 32767) / 65535

/-- One primary blended (R240). -/
def blend1 (mode a cl cb : Nat) : Nat :=
  match mode with
  | 0 => (cl * a + cb * (65535 - a) + 32767) / 65535
  | 1 => min (cb + (cl * a + 32767) / 65535) 16777215
  | _ => cl

/-- A fill of working units and its alpha, from the 12 bytes of R234. -/
def State.fillOf (s : State) (id n : Nat) : Rgb × Nat :=
  ((s.blobNat id n 0 3, s.blobNat id n 3 3, s.blobNat id n 6 3), s.blobByte id n 9 * 0x0101)

/-- What a layer shows: nothing, a fill, or a buffer (R220, R229, R233, R239, R253). -/
inductive Shows where
  | nothing
  | fill (c : Rgb) (alpha : Nat)
  | buffer (b : Nat)
  deriving DecidableEq, Repr

def State.shows (s : State) (n : Nat) : Shows :=
  let l := s.layerOf n
  let k := s.kindOf n
  let loss := Shows.fill (s.fillOf P.LAYER_LOSS_FILL n).1 (s.fillOf P.LAYER_LOSS_FILL n).2
  if s.comp.shed.contains n then .nothing
  else if k = 4 then .fill (s.fillOf P.SOLID_COLOUR n).1 (s.fillOf P.SOLID_COLOUR n).2
  else if k = 0 ∨ 4 < k then .nothing
  else if l.starved && s.par P.LAYER_STARVED_ACTION n == 2 then .nothing
  else if l.starved && s.par P.LAYER_STARVED_ACTION n == 1 then loss
  else if l.outOfRange then loss
  else match l.buf with
    | some b => .buffer b
    | none => loss

/-- A layer's colour and alpha at a canvas position inside its destination, and the x it counts with. -/
def State.layerAt (s : State) (n : Nat) (x y : Int) : Option (Rgb × Nat × Option ℚ) :=
  match s.shows n with
  | .nothing => none
  | .fill c a => some (c, a, none)
  | .buffer b =>
    let p := s.layerSample n b x y
    let t := s.toneMap n (p.1, p.2.1, p.2.2.1)
    some (t.1, p.2.2.2, some t.2)

/-- A position lies in a rectangle. -/
def Rect.has (r : Rect) (x y : Int) : Bool :=
  decide (r.1 ≤ x) && decide (x < r.1 + r.2.2.1) && decide (r.2.1 ≤ y) && decide (y < r.2.1 + r.2.2.2)

/-- The background or the polder below, then the layers bottom to top (R237, R240). -/
def State.composePixel (s : State) (x y : Int) : Rgb :=
  (List.range 16).foldl (fun c n =>
    if !Rect.has (s.dst n) x y then c
    else match s.layerAt n x y with
      | none => c
      | some (l, a, _) =>
        let m := s.par P.LAYER_BLEND n
        let a := effAlpha a (field m 16 16)
        (blend1 (m % 4) a l.1 c.1, blend1 (m % 4) a l.2.1 c.2.1, blend1 (m % 4) a l.2.2 c.2.2))
    (s.fillOf P.CANVAS_BACKGROUND 0).1

/-! Transport codes (R262) -/

/-- Threshold T_c of the loadable transport curve. -/
def State.threshold (s : State) (c : Nat) : Nat := s.blobNat P.TRANSPORT_CURVE 0 (4 * c) 3

/-- The greatest c below 4,096 with T_c ≤ v, by halving steps. -/
def State.curveIndex (s : State) (v : Nat) : Nat :=
  (List.range 12).foldl (fun c i => if s.threshold (c + 2 ^ (11 - i)) ≤ v then c + 2 ^ (11 - i) else c) 0

/-- Bits per code of a pixel format: P30, P36, P48 (R262). -/
def codeBits (fmt : Nat) : Nat := match fmt % 16 with | 0 => 10 | 1 => 12 | _ => 16

/-- The transport code of a working value (R262). -/
def State.code (s : State) (fmt v : Nat) : Nat :=
  if fmt / 16 = 0 then
    ⌊Config.pq ((v : ℚ) / 1024 / 10000) * (2 ^ codeBits fmt - 1) + 1 / 2⌋.toNat
  else
    let c := s.curveIndex v
    match fmt % 16 with | 0 => c / 4 | 1 => c | _ => c * 16

/-! Opaque cover and statistics (R243, R252) -/

/-- A layer covers a block of 64 × 64 opaquely (R252). -/
def State.covers (s : State) (n : Nat) (block : Rect) : Bool :=
  let m := s.par P.LAYER_BLEND n
  let src := s.par P.LAYER_SOURCE n
  let vis := Rect.meet (s.visible n) block
  Rect.area vis == Rect.area (Rect.meet block s.composedArea) &&
  (match s.shows n with
   | .nothing => false
   | .fill _ a => m % 4 == 2 || (m % 4 == 0 && field m 16 16 == 65535 && a == 65535)
   | .buffer b => m % 4 == 2 ||
      (m % 4 == 0 && field m 16 16 == 65535 && (src / 16 == 1 || (s.bufShape src b).2.2 == 3)))

/-- The block a canvas position lies in, counted from the first composed column. -/
def State.blockOf (s : State) (x y : Int) : Rect :=
  let x0 : Int := s.composedCols.1
  (x0 + (x - x0) / 64 * 64, y / 64 * 64, 64, 64)

/-- The pixel of layer `n` at a position is hidden by a higher layer that covers its block (R251, R252). -/
def State.hidden (s : State) (n : Nat) (x y : Int) : Bool :=
  (List.range 16).any fun m => decide (n < m) && s.covers m (s.blockOf x y)

/-- Positions of an area in row order. -/
def positions (r : Rect) : List (Int × Int) :=
  (List.range r.2.2.2).flatMap fun j => (List.range r.2.2.1).map fun i => (r.1 + i, r.2.1 + j)

/-- The 64-bin histograms of the layers over the streamed pixels they show (R243). -/
def State.histogram (s : State) : SMap Nat :=
  (List.range 16).foldl (fun h n =>
    (positions (Rect.meet (s.dst n) s.streamedArea)).foldl (fun h p =>
      match s.layerAt n p.1 p.2 with
      | some (_, _, some x) =>
        if s.hidden n p.1 p.2 then h
        else SMap.upd 0 h (64 * n + min 63 ⌊x * 64⌋.toNat) (· + 1)
      | _ => h) h) []

/-- The raw top of a layer's histogram: upper edge of the bin that brings the count to 99.9 % (R243). -/
def rawTop (h : SMap Nat) (n : Nat) : Option ℚ :=
  let cnt (i : Nat) := SMap.get 0 h (64 * n + i)
  let total := ((List.range 64).map cnt).sum
  if total = 0 then none
  else ((List.range 64).find? fun i => 999 * total ≤ 1000 * ((List.range (i + 1)).map cnt).sum).map
    fun i => ((i + 1 : Nat) : ℚ) / 64

/-- x_hi for frame `k` moves toward the raw top of frame k − 2 by at most KNEE_SLEW (R243). -/
def State.kneeStep (s : State) (k : Nat) : State :=
  let s := match s.comp.hists.find? fun p => p.1 + 2 == k with
    | none => s
    | some (_, h) => s.each (List.range 16) fun s n =>
      match rawTop h n with
      | none => s
      | some top =>
        let d : ℚ := (s.par P.KNEE_SLEW : ℚ) / 65536
        let cur := s.kneeTop n
        let x := min (s.sourceMax n) (if cur < top then min top (cur + d) else max top (cur - d))
        { s with comp := { s.comp with xhi := SMap.set 0 s.comp.xhi n (x + 1) } }
  s.each (List.range 16) fun s n =>
    if (s.kindOf n) = 0 then s
    else s.setPar P.LAYER_KNEE_STATE n
      (⌊s.kneeTop n * 65535 + 1 / 2⌋.toNat % 65536 * 65536 + ⌊s.kneeStart * 65535 + 1 / 2⌋.toNat % 65536)

/-! Composing a canvas (R17, R237) -/

def State.canvasOf (s : State) (k : Nat) : Canvas := SMap.get {} s.comp.canvases (k % 2)

def State.putCanvas (s : State) (k : Nat) (c : Canvas) : State :=
  { s with comp := { s.comp with canvases := SMap.set {} s.comp.canvases (k % 2) c } }

/-- The code triple of a canvas pixel as one number. -/
def State.codeAt (s : State) (fmt : Nat) (x y : Int) : Nat :=
  let c := s.composePixel x y
  s.code fmt c.1 + 65536 * s.code fmt c.2.1 + 4294967296 * s.code fmt c.2.2

/-- The compositor starts canvas `k` at tick k: what it will write is fixed by the latch (R17, R18, R273). -/
def State.composeStart (s : State) (k : Nat) : State :=
  let s := s.kneeStep k
  let a := s.composedArea
  let fmt := s.par P.CANVAS_FORMAT
  let s := { s with comp := { s.comp with startedAt := s.imageNow, poisoned := false }
                    therm := { s.therm with composePauses := if 3 ≤ s.stage ∧ s.par P.COMPOSE_PAUSE ≠ 0 then [0, 1, 2, 3] else [] } }
  s.putCanvas k
    { frame := k, started := true, complete := false, x0 := s.composedCols.1, width := a.2.2.1, height := a.2.2.2
      pixels := (positions a).map fun p => s.codeAt fmt p.1 p.2, hist := s.histogram }

/-- `#21.0061 SHED_MASK`. -/
def State.shedMask (s : State) : Nat := s.comp.shed.foldl (fun m n => setBit m n true) 0

/-- The composed, unshed layer of the highest non-zero rank above the run; ties to the higher layer (R253). -/
def State.shedNext (s : State) : Option Nat :=
  (List.range 16).foldl (fun r n =>
    let rank := s.par P.LAYER_SHED_RANK n
    if rank == 0 || s.comp.shed.contains n || decide (n < s.runLength) || s.kindOf n == 0 || Rect.area (s.visible n) == 0 then r
    else match r with
      | none => some n
      | some m => if s.par P.LAYER_SHED_RANK m ≤ rank then some n else r) none

/-- Shedding and restoring at the start of a frame (R253). -/
def State.shedTick (s : State) : State :=
  if 3 ≤ s.stage then
    let p := ratePeriod s.rate
    if 3 * p.1 * 1000000000 < 4 * s.par P.COMPOSE_TIME * p.2 then
      match s.shedNext with
      | some n => ({ s with comp := { s.comp with shed := n :: s.comp.shed } }).raise E.LAYER_SHED n
      | none => s
    else s
  else match s.comp.shed with
    | [] => s
    | n :: l => ({ s with comp := { s.comp with shed := l } }).raise E.LAYER_RESTORED n

/-- The dike mask runs in this frame (R251). -/
def State.dikeRuns (s : State) : Bool :=
  match s.par P.DIKE_MODE with
  | 1 => false
  | 2 => true
  | _ => !s.rdy B.SHOW || s.comp.recovery != 0

/-- The dike is judged at the start of a frame, with EV 346 on entry and exit (R251). -/
def State.dikeTick (s : State) : State :=
  let r := s.dikeRuns
  let was := s.comp.dike
  let s := { s with comp := { s.comp with dike := r, recovery := s.comp.recovery - 1 } }
  s.raiseIf (r != was) E.DIKE_ENGAGED 0xFFFF (b2n r)

/-- A compose miss for frame `k`: counted, once, and the dike runs in the frames that follow (R251). -/
def State.composeMiss (s : State) (k : Nat) : State :=
  if s.scan.missed.contains k then s
  else
    let s := s.bump P.COMPOSE_MISSES
    { s with comp := { s.comp with recovery := s.par P.RECOVERY_FRAMES }
             scan := { s.scan with missed := NSet.add s.scan.missed k } }

/-! The polder (R248–R250) -/

/-- The newest ready buffer, else the buffer shown, of every still in the run. -/
def State.runStills (s : State) : List Nat :=
  (List.range s.runLength).filterMap fun n =>
    let src := s.par P.LAYER_SOURCE n
    if s.kindOf n = 3 then
      match s.readyBuf src (fun _ => true) with
      | some b => some (bufKey src b)
      | none => (s.layerOf n).buf.map (bufKey src)
    else none

/-- Earliest of the applied ticks that builds are due for. -/
def State.polderNext (s : State) : Nat := s.comp.due.foldl min (s.comp.due.headD 0)

/-- A new cause starts a build, or restarts the one that runs or waits: a build for the earliest transaction while one is due, else
for the stills (R249).  At throttle-1 it pauses after each of its blocks (R452, `State.bgSlow`). -/
def State.polderBuild (s : State) : State :=
  { s with comp := { s.comp with building := if s.comp.due.isEmpty then 1 else 2, built := none } }.bgPauseStart Bg.POLDER

/-- A still has gained a ready buffer (R249, case 1). -/
def State.polderStill (s : State) (i : Nat) : State :=
  if (List.range s.runLength).any fun n => s.par P.LAYER_SOURCE n == srcKey 3 i then s.polderBuild else s

/-- A transaction of case 2 is committed for tick `k` (R249). -/
def State.polderCommit (s : State) (k : Nat) : State := ({ s with comp := { s.comp with due := s.comp.due ++ [k] } }).polderBuild

/-- Pending transactions are cancelled: builds for them are due no longer (R102, R249). -/
def State.polderCancel (s : State) : State :=
  let due := s.comp.due.filter fun t => s.od.pending.any fun (p : PendTxn) => p.tick == t
  let waits := match s.comp.built with | some (2, t, _) => due.contains t || decide (t ≤ s.time.latched) | _ => true
  { s with comp := { s.comp with
    due := due, building := if s.comp.building = 2 ∧ due = [] then 0 else s.comp.building
    built := if waits then s.comp.built else none } }

/-- Cause of the build that runs: after a restart the first one, until it is complete, as long as there is a run; then 1 for stills, 2
for a transaction; 0 for none (R249). -/
def State.buildCause (s : State) : Nat :=
  if s.runLength = 0 then (if s.comp.building = 2 then 2 else 0)
  else if s.isHead && s.isReleased .image && !s.rdy B.COMPOSE && !s.comp.polder then 3
  else s.comp.building

/-- POLDER_BUILD_COMPLETE: the build is in use at once after a restart, at its tick after a transaction, and at the latch
at which its stills flip otherwise (R249); at throttle-1 it waits while its pause runs (R452). -/
def execPolderBuildComplete (s : State) : Res :=
  .next <|
  if s.buildCause = 0 ∨ s.bgPaused Bg.POLDER then s
  else
    let c := s.buildCause
    let l := s.runStills
    let s := { s with comp := { s.comp with
      building := if c = 3 ∧ s.comp.building = 2 then 2 else 0, builtAt := s.now + 1
      builtStills := l.foldl NSet.add s.comp.builtStills
      polder := s.comp.polder || c == 3, polderLate := false
      due := if c = 2 then s.comp.due.erase s.polderNext else s.comp.due
      built := if c = 3 then none else some (c, if c = 2 then s.polderNext else 0, l) } }
    (s.raise E.POLDER_BUILT).bgPauseStart Bg.POLDER

/-- At a latch a build of case 1 comes into use when the stills it was built from flip (R249). -/
def State.polderLatch (s : State) : State :=
  match s.comp.built with
  | some (1, _, l) =>
    if l.all fun k => s.inUse (k / 4) (k % 4) then { s with comp := { s.comp with built := none, polder := true } } else s
  | _ => s

/-- At tick `k` a build of case 2 comes into use, and the build for the next transaction starts; one that the frame needs and that
is not complete, or completes in this very cycle, is late (R27, R249, R250). -/
def State.polderTick (s : State) (k : Nat) (tie : Bool) : State :=
  let mine := match s.comp.built with | some (2, t, _) => decide (t ≤ k) | _ => false
  let late := (s.comp.building == 2 && s.comp.due.any fun t => decide (t ≤ k)) || (mine && !s.onTime tie (s.comp.builtAt - 1))
  let s := if mine then { s with comp := { s.comp with
      built := none, polder := s.runLength != 0, building := if s.comp.due.isEmpty then 0 else 2 } } else s
  if late then ({ s with comp := { s.comp with polderLate := true } }).raise E.POLDER_LATE else s

/-- `#21.0060 POLDER_STATE` (R258). -/
def State.polderState (s : State) : Nat :=
  s.runLength * 256 + (if s.comp.polderLate then 3 else if s.buildCause ≠ 0 then 2 else if s.comp.polder && s.runLength != 0 then 1 else 0)

/-- Parameters of the whole canvas whose change starts a build of case 2 (R249). -/
def polderWide : List Nat :=
  [P.CANVAS_BACKGROUND, P.WALL_PEAK, P.WALL_BLACK, P.SDR_WHITE, P.HLG_PEAK, P.TONE_CURVE, P.KNEE_START, P.KNEE_SLEW,
   P.SPAN_ROLE, P.SPAN_SEAM, P.SPAN_OVERLAP, P.CANVAS_WIDTH, P.CANVAS_HEIGHT]

/-- Layers of the run before or after a transaction, and whether one of them uses a scaler table or a still. -/
def State.runUses (s : State) (id idx : Nat) : Bool :=
  (List.range s.runLength).any fun n =>
    if id == P.SCALER_COEFF then s.scaled n && field (s.par P.LAYER_SCALE n) 4 2 == idx
    else if id == P.STILL_GEOMETRY then s.par P.LAYER_SOURCE n == srcKey 3 idx
    else n == idx && ((0x200001 ≤ id && id ≤ 0x200009) || (0x210010 ≤ id && id ≤ 0x210017))

/-- A written element changes what the polder shows (R249, case 2): `t` is the state the transaction would leave. -/
def State.polderTouched (s t : State) (id idx : Nat) : Bool :=
  (t.par id idx != s.par id idx || t.blobs != s.blobs) && (polderWide.contains id || s.runUses id idx || t.runUses id idx) &&
    (s.runLength != 0 || t.runLength != 0)

/-! What a latch and a partner's set leave to show (R231, R239, R249) -/

/-- What the layers show is judged: scalers of DP frames, and the polder whose stills have flipped (R239, R249). -/
def State.judgeShown (s : State) : State := (s.each (List.range 16) State.judgeScale).polderLatch

/-- FLIP_SET: the partner's set for frame `k`: per layer the identities of its ready and in-use buffers, the one it
shows first.  One that comes in the cycle in which the 200 µs end, or later, is missing (R27, R231). -/
def execFlipSet (k : Nat) (set : List (Fin 16 × List Nat)) (s : State) : Res :=
  .next <|
  if !s.isHead || s.src.setDue != k + 1 || decide (s.src.setFrom + 50000 ≤ s.now) then s
  else
    let s := { s with src := { s.src with setDue := 0 } }
    let s := if s.flipsWait then (s.each (List.range 16) fun s n => s.followSet set n).judgeFlips else s
    (s.settleFlips k).judgeShown

/-- FLIP_SET_DEADLINE: at latch + 200 µs a set that has not arrived is missing, and the head keeps its own flips; a span head then
counts the frame as a compose miss (R231). -/
def execFlipSetDeadline (k : Nat) (s : State) : Res :=
  .next <|
  if s.src.setDue ≠ k + 1 ∨ s.isHead = false then s
  else
    let s := ({ s with src := { s.src with setDue := 0 } }).raise E.FLIP_PARTNER_LATE
    let s := if s.par P.SPAN_ROLE ≠ 0 then s.composeMiss k else s
    s.settleFlips k

/-! Budgets (R256, R257) -/

/-- Layer-pixels of one frame, with the run replaced by its polder or composed directly (R256). -/
def State.composeLoad (s : State) (direct : Bool) : Nat :=
  let r := s.runLength
  let px (n : Nat) := if s.kindOf n = 0 then 0 else Rect.area (s.visible n)
  if direct ∨ r = 0 then ((List.range 16).map px).sum
  else Rect.area s.composedArea + ((List.range 16).map fun n => if n < r then 0 else px n).sum

/-- Bytes a layer fetches in one frame: its crop clipped to what is visible (R257). -/
def State.layerBytes (s : State) (n : Nat) : Nat :=
  let c := s.cropSet n
  let d := s.dst n
  let v := s.visible n
  let src := s.par P.LAYER_SOURCE n
  let bpp := if s.kindOf n = 1 then 6 else fmtBytes (field (s.geometry src) 32 4)
  if !buffered src || d.2.2.1 == 0 || d.2.2.2 == 0 then 0
  else ((c.2.2.1 * v.2.2.1 + d.2.2.1 - 1) / d.2.2.1) * ((c.2.2.2 * v.2.2.2 + d.2.2.2 - 1) / d.2.2.2) * bpp

/-- Payload rate of a lane rate code in bytes per second (R257). -/
def laneBytes (rate : Nat) : Nat := match rate with | 0 => 1250000000 | 1 => 625000000 | _ => 312500000

/-- Bytes per canvas pixel (R237). -/
def canvasBytes (fmt : Nat) : Nat := if fmt % 16 = 0 then 4 else 6

/-- DRAM demand D in bytes per second (R257). -/
def State.dramDemand (s : State) (direct : Bool) : Nat :=
  let r := s.runLength
  let p := ratePeriod s.rate
  let dp := ((List.range 4).map fun i => if s.par P.DP_ENABLE i = 1 then s.par P.DP_BUDGET i * 6000 else 0).sum
  let ing := ((List.range 32).map fun n => if s.par P.LANE_USE n / 16 = 2 then laneBytes (s.par P.LANE_RATE n) else 0).sum
  let f := if direct ∨ r = 0 then ((List.range 16).map s.layerBytes).sum
    else 9 * Rect.area s.composedArea + ((List.range 16).map fun n => if n < r then 0 else s.layerBytes n).sum
  dp + ing + (f + 2 * Rect.area s.streamedArea * canvasBytes (s.par P.CANVAS_FORMAT)) * p.2 / p.1 + s.par P.DRAM_OTHER * 100000000

/-- The compose load exceeds the limit (R256). -/
def State.composeOver (s : State) : Bool :=
  let p := ratePeriod s.rate
  decide (32000000000 * p.1 * s.par P.COMPOSE_LIMIT < s.composeLoad false * 100 * p.2)

/-- The DRAM demand exceeds the budget (R257). -/
def State.dramOver (s : State) : Bool := decide (s.par P.DRAM_BUDGET * 100000000 < s.dramDemand false)

/-- `#21.0044 BUDGET_STATE` and `#21.0021 SCALER_MAP` after a latch (R258; values rounded to nearest). -/
def State.budgetLatch (s : State) : State :=
  let p := ratePeriod s.rate
  let d (b : Bool) := min ((s.dramDemand b + 50000000) / 100000000) 0xFFFF
  let l (b : Bool) := min ((s.composeLoad b * 10000 * p.2 + 16000000000 * p.1) / (32000000000 * p.1)) 0xFFFF
  let s := s.setPar P.SCALER_MAP 0 s.scalerMap
  s.setBlob P.BUDGET_STATE 0 0 (leBytes 2 (d false) ++ leBytes 2 (l false) ++ leBytes 2 (d true) ++ leBytes 2 (l true) ++
    leBytes 1 (min s.scalerLayers.length 8))

/-! What a transaction may not leave behind (R228, R234, R238–R247, R254, R256, R257) -/

/-- Bytes the sources would take from DRAM (R220, R234, R442). -/
def State.sourceBytes (s : State) : Nat :=
  let surf (i : Nat) := let g := s.geometry (srcKey 2 i)
    field g 36 4 * stride (field g 0 16) (fmtBytes (field g 32 4)) * field g 16 16
  let still (i : Nat) := let g := s.geometry (srcKey 3 i)
    3 * stride (field g 0 16) (fmtBytes (field g 32 4)) * field g 16 16
  ((List.range 16).map fun i => surf i + still i).sum +
  ((List.range 4).map fun i => if s.par P.DP_ENABLE i = 1 then 3 * s.par P.DP_BUFFER i else 0).sum

/-- Size of the DRAM die in bytes by ordering code (R71, R441). -/
def State.dieBytes (s : State) : Nat := if s.par P.ORDERING_CODE = 4 then 4294967296 else 8589934592

/-- DRAM left for sources in the head (R441). -/
def State.sourcePool (s : State) : Nat :=
  s.dieBytes - (134217728 + 817889280 + 18 * Rect.area s.composedArea + 4194304)

/-- A flip group in MATCH mode mixes kinds (R228). -/
def State.matchBad (s : State) (g : Nat) : Bool :=
  let ks := ((List.range 16).filter fun n => s.par P.LAYER_GROUP n == g).map s.kindOf
  s.par P.GROUP_MODE g == 1 && !(ks.all (· == 2) || ks.all (· == 3))

/-- The crop of a surface or still reaches beyond its geometry (R239). -/
def State.cropBad (s : State) (n : Nat) : Bool :=
  let c := s.cropSet n
  let q := s.sourceSize n
  (s.kindOf n == 2 || s.kindOf n == 3) && (decide (q.1 < c.1 + c.2.2.1) || decide (q.2 < c.2.1 + c.2.2.2))

/-- A scaler table with a slot whose bit 15 does not copy the sign (R14), or a row that does not sum to 8,192 (R247). -/
def State.tableBad (s : State) (t : Nat) : Bool :=
  (List.range 896).any (fun i => let v := s.blobNat P.SCALER_COEFF t (2 * i) 2; bit v 15 != bit v 14) ||
  (List.range 64).any (fun r => ((List.range 8).map fun i => s.coeff t (r * 8 + i)).sum != 8192) ||
  (List.range 64).any (fun r => ((List.range 6).map fun i => s.coeff t (512 + r * 6 + i)).sum != 8192)

/-- The static curve decreases somewhere (R242). -/
def State.toneBad (s : State) : Bool :=
  (List.range 1023).any fun i => s.blobNat P.TONE_CURVE 0 (2 * i + 2) 2 < s.blobNat P.TONE_CURVE 0 (2 * i) 2

/-- Canvas limits (R238, R254, R260). -/
def State.canvasBad (s : State) : Bool :=
  let p := ratePeriod s.rate
  let role := s.par P.SPAN_ROLE
  let w := s.par P.CANVAS_WIDTH
  decide ((if role = 0 then 16384 else 16640) < s.composedCols.2) || decide (16384 < s.streamedCols.2) ||
  decide ((if role = 0 then 16384 else 32768) < w) || decide (4096 < s.par P.CANVAS_HEIGHT) ||
  decide (4026531840 * p.1 < Rect.area s.streamedArea * p.2) ||
  (role != 0 && (decide (w < s.par P.SPAN_SEAM) ||
    (List.range 16).any fun n =>
      let d := s.dst n
      let c := s.crop n
      s.scaled n && decide (d.1 ≤ s.par P.SPAN_SEAM) && decide ((s.par P.SPAN_SEAM : Int) < d.1 + d.2.2.1) &&
        decide (s.par P.SPAN_OVERLAP * c.2.2.1 < 4 * d.2.2.1)))

/-- Something of areas 20 or 21 breaks a rule that refuses a transaction; tables are judged when they are written. -/
def State.composeBad (s : State) : Bool :=
  (List.range 8).any s.matchBad || decide (s.sourcePool < s.sourceBytes) || s.canvasBad ||
  (List.range 16).any s.cropBad ||
  decide (8 < s.scalerLayers.length) ||
  s.scalerLayers.any (fun n => s.kindOf n != 1 && s.scaleBad n) ||
  s.composeOver || s.dramOver

end Sys2Proof.Machine
end

