-- ==== Sys2Proof/Machine/Scanout.lean ====
section
/-! DEFINITION. Bindings, streamers, line wells, packets, span pairs and the health report of a head
(chapter 11, R168, R187, R188). -/

namespace Sys2Proof.Machine

/-! Regions and bindings (R264, R273) -/

/-- One entry of `#22.0020 REGION` (R264). -/
def State.regionOf (s : State) (r : Nat) : TileRegion :=
  { number := r, chain := s.blobByte P.REGION r 0 % 16, order := s.blobByte P.REGION r 1, dest := s.blobNat P.REGION r 2 2
    x := s.blobNat P.REGION r 4 2, y := s.blobNat P.REGION r 6 2, width := s.blobNat P.REGION r 8 2
    height := s.blobNat P.REGION r 10 2 }

/-- Insert a region in stream order: by chain, then by ORDER. -/
def insertRegion (r : TileRegion) : List TileRegion → List TileRegion
  | [] => [r]
  | q :: l =>
    if r.chain < q.chain ∨ (r.chain = q.chain ∧ r.order < q.order) then r :: q :: l else q :: insertRegion r l

/-- The enabled regions in stream order.  An enabled region's first byte is not 0, so it is listed in `blobs`. -/
def State.regions (s : State) : List TileRegion :=
  let ns := s.blobs.filterMap fun e =>
    if e.1 / 2 ^ 28 / 65536 = P.REGION ∧ e.1 % 2 ^ 28 = 0 ∧ 128 ≤ e.2 then some (e.1 / 2 ^ 28 % 65536) else none
  ns.foldl (fun l r => insertRegion (s.regionOf r) l) []

/-- Regions of one chain. -/
def onChain (l : List TileRegion) (c : Nat) : List TileRegion := l.filter fun r => r.chain == c

/-- Pixels per group, bytes per group and P_max of a pixel format (R150). -/
def groupOf (fmt : Nat) : Nat × Nat × Nat :=
  match fmt % 16 with | 0 => (4, 15, 4095) | 1 => (2, 9, 4095) | _ => (1, 6, 4092)

/-- Bytes of a region's payload (R150). -/
def regionBytes (fmt w h : Nat) : Nat := (w * h + (groupOf fmt).1 - 1) / (groupOf fmt).1 * (groupOf fmt).2.1

/-- Packets of a region (R150). -/
def regionPackets (fmt w h : Nat) : Nat := (regionBytes fmt w h + (groupOf fmt).2.2 - 1) / (groupOf fmt).2.2

/-- Symbols a lane of a rate code carries per ns (R168). -/
def symbolRate (code : Nat) : ℚ := match code with | 0 => 5 / 4 | 1 => 5 / 8 | _ => 5 / 16

/-- Symbols a streamer sends per tick: S of R168 for prefix length `p`, its SKIPs rounded up. -/
def chainSymbols (fmt gap ctrl p : Nat) (l : List TileRegion) : Nat :=
  let base := (l.map fun r => regionBytes fmt r.width r.height + regionPackets fmt r.width r.height * (33 + p) + 8).sum
    + l.length * gap + ctrl + 25 + 4200
  base + (base + 4095) / 4096

/-- The tick period in ns. -/
def periodQ (code : Nat) : ℚ := ((ratePeriod code).1 : ℚ) * 1000000000 / (ratePeriod code).2

/-- The window W from tick k+1 to E in ns (R19, R168). -/
def State.window (s : State) (delay c : Nat) : ℚ :=
  let t := periodQ s.rate
  min t (t + delay - 40000) - (s.chainL c : ℚ) / 65536

/-- Symbols the lane of chain `c` carries in W. -/
def State.chainCarries (s : State) (c : Nat) : ℚ :=
  match s.chainLane c with
  | some n => s.window (s.par P.DISPLAY_DELAY) c * symbolRate (s.par P.LANE_RATE n)
  | none => 0

/-- S of chain `c` as the head computes it, with s = 1 (R168). -/
def State.chainS (s : State) (c : Nat) : Nat :=
  chainSymbols (s.par P.CANVAS_FORMAT) (s.par P.TILE_GAP) (s.par P.HEAD_CTRL_SYMBOLS) 1 (onChain s.regions c)

/-- The load of a chain exceeds what its lane carries in the window (R168). -/
def State.chainOver (s : State) (c : Nat) : Bool := (s.chainLane c).isSome && decide (s.chainCarries c < s.chainS c)

/-- `#11.0020 CHAIN_LOAD` of every chain with a lane, in 0.01 %, rounded to nearest (R168). -/
def State.chainLoads (s : State) : State :=
  s.each (List.range 16) fun s c =>
    if (s.chainLane c).isNone then s.setPar P.CHAIN_LOAD c 0
    else
      let w := s.chainCarries c
      s.setPar P.CHAIN_LOAD c (if w ≤ 0 then 0xFFFF else min ⌊(s.chainS c : ℚ) * 10000 / w + 1 / 2⌋.toNat 0xFFFF)

/-- CHAIN_LATENCY_READ: the head sends its READ of `#11.0011` to the last tile of the chain and takes the result, `none` when the read
failed; a failed read, a stale value and the 0 of a tile without a valid L leave the value in use.  The READ names both of the tile's
elements, since its wiring decides which port the head's stream comes in on (R162, log entry 12). -/
def execChainLatencyRead (c : Fin 16) (result : Option (BitVec 64)) (s : State) : Res :=
  .next <|
  if !s.isHead then s
  else
    let s := match (onChain s.regions c).getLast? with
      | some r => s.headSend c (r.dest % 4096) (controlSymbols (readSize 2)) (.odRead (r.dest % 4096) [(P.LATENCY, 0), (P.LATENCY, 1)])
      | none => s
    match result with
    | none => s
    | some v =>
      let l := v.toNat % 2 ^ 40
      if bit v.toNat 63 || l == 0 then s
      else ({ s with chain := { s.chain with lValid := NSet.add s.chain.lValid c } }).setPar P.CHAIN_L c l

/-- CHAIN_LOAD_RECOMPUTE: once a second with the L then in use (R168). -/
def execChainLoadRecompute (s : State) : Res := .next (if s.isHead then s.chainLoads else s)

/-- A region entry uses a reserved field: bits 6:4 of byte 0, an ORDER above 63, bits 15:14 of DEST, or bytes 12 to 15 (R12, R147,
R264). -/
def State.regionFieldBad (s : State) (r : Nat) : Bool :=
  field (s.blobByte P.REGION r 0) 4 3 != 0 || decide (63 < s.blobByte P.REGION r 1) || field (s.blobNat P.REGION r 2 2) 14 2 != 0 ||
    s.blobNat P.REGION r 12 4 != 0

/-- The enabled regions break a rule of R265. -/
def State.regionsBad (s : State) : Bool :=
  let l := s.regions
  let a := s.streamedCols
  (List.range 16).any (fun c =>
    (onChain l c).map (·.order) != List.range (onChain l c).length ||
    ((s.chainLane c).isNone && !(onChain l c).isEmpty)) ||
  l.any (fun r => (l.filter fun q => q.dest % 4096 == r.dest % 4096).length != 1 || field r.dest 12 2 != 0 ||
    r.dest % 4096 == 0xFFE || r.dest % 4096 == 0xFFF || decide (1048576 < r.width * r.height) ||
    r.width == 0 || r.height == 0 || decide (4096 < r.width) || decide (4096 < r.height) ||
    decide (r.x < a.1) || decide (a.1 + a.2 < r.x + r.width) || decide (s.par P.CANVAS_HEIGHT < r.y + r.height))

/-- The transport curve does not start at 0, does not rise strictly, or sets a bit above 23 (R12, R263). -/
def State.curveBad (s : State) : Bool :=
  s.threshold 0 != 0 || (List.range 4096).any fun i =>
    (i != 0 && decide (s.threshold i ≤ s.threshold (i - 1))) || s.blobByte P.TRANSPORT_CURVE 0 (4 * i + 3) != 0

/-- `#22.0043 SPAN_DIGEST` (R280). -/
def State.spanDigest (s : State) : Nat :=
  let ps := ((paramsOf 0x20 ++ paramsOf 0x21).filter fun p =>
      digested p && p.id != P.INGRESS_SURFACE && p.id != P.INGRESS_SOURCE) ++
    ([P.TICK_RATE, P.CANVAS_WIDTH, P.CANVAS_HEIGHT, P.CANVAS_FORMAT, P.TRANSPORT_CURVE].filterMap findParam)
  let ps := (ps.filter fun p => p.id / 65536 == 0x08) ++ (ps.filter fun p => p.id / 65536 != 0x08)
  crc64 (ps.flatMap fun p => (List.range p.head).flatMap (s.digestItem p))

/-- The binding of canvas `k` is taken at its latch, with the span digest and the region counts (R273, R281). -/
def State.bindLatch (s : State) (k : Nat) : State :=
  let l := s.regions
  let s := s.setPar P.SPAN_DIGEST 0 s.spanDigest
  let s := s.each (List.range 16) fun s c => s.setPar P.REGION_COUNT c (onChain l c).length
  let b : Binding :=
    { frame := k, width := s.par P.CANVAS_WIDTH, height := s.par P.CANVAS_HEIGHT, format := s.par P.CANVAS_FORMAT
      delay := s.par P.DISPLAY_DELAY, pace := s.par P.SCAN_PACE, dry := s.par P.DRY_LIMIT, gap := s.par P.TILE_GAP
      regions := l, digest := s.par P.SPAN_DIGEST, configDigest := s.par P.CONFIG_DIGEST }
  { s with scan := { s.scan with binds := (b :: s.scan.binds).take 4 } }

def State.bindingOf (s : State) (k : Nat) : Option Binding := s.scan.binds.find? fun b => b.frame == k

/-! Payloads (R150, R151) -/

/-- The code triple of a canvas pixel; 0 outside it. -/
def Canvas.at_ (c : Canvas) (x y : Nat) : Nat :=
  if x < c.x0 ∨ c.x0 + c.width ≤ x ∨ c.height ≤ y then 0 else c.pixels.getD (y * c.width + (x - c.x0)) 0

/-- One group of pixels as bytes: its codes side by side as one little-endian number (R150). -/
def packGroup (fmt : Nat) (px : List Nat) : List Byte :=
  let n := codeBits fmt
  let codes := px.flatMap fun p => [p % 2 ^ n, p / 65536 % 2 ^ n, p / 4294967296 % 2 ^ n]
  leBytes (groupOf fmt).2.1 (codes.foldr (fun c r => c + 2 ^ n * r) 0)

/-- Split a pixel list into groups, the last one completed with zero pixels (R150). -/
def groups (k : Nat) : Nat → List Nat → List (List Nat)
  | 0, _ => []
  | n + 1, l => (l.take k ++ List.replicate (k - l.length) 0) :: groups k n (l.drop k)

/-- A region's payload: its pixels row by row, packed (R150). -/
def regionPayload (c : Canvas) (fmt : Nat) (r : TileRegion) : List Byte :=
  let px := (List.range r.height).flatMap fun j => (List.range r.width).map fun i => c.at_ (r.x + i) (r.y + j)
  let k := (groupOf fmt).1
  (groups k ((px.length + k - 1) / k) px).flatMap (packGroup fmt)

/-! Streamers (R266–R272) -/

def State.streamerOf (s : State) (c : Nat) : Streamer := SMap.get {} s.scan.streamers c

def State.updStreamer (s : State) (c : Nat) (f : Streamer → Streamer) : State :=
  { s with scan := { s.scan with streamers := SMap.upd {} s.scan.streamers c f } }

/-- Pump urgency of a well after a change of its level (R269): it rises below a waterline and falls back 1,024 bytes
above it; 0 while everything left is in the well. -/
def urgencyOf (was level unread : Nat) : Nat :=
  if unread = 0 then 0
  else if level < 8192 then 3
  else if was = 3 ∧ level < 9216 then 3
  else if level < 16384 then 2
  else if 2 ≤ was ∧ level < 17408 then 2
  else 0

/-- Note a changed level in a streamer. -/
def Streamer.relevel (t : Streamer) : Streamer :=
  let u := urgencyOf t.urgency t.level t.unread
  { t with urgency := u, highest := max t.highest u, lowest := if t.unread = 0 then t.lowest else min t.lowest t.level }

/-- The fetcher stores `n` more payload bytes of the frame in the well of 32 KB (R268). -/
def State.wellFill (s : State) (c n : Nat) : State :=
  s.updStreamer c fun t =>
    let m := min n (min t.unread (32768 - t.level))
    Streamer.relevel { t with
      level := t.level + m, unread := t.unread - m, fillAt := s.imageNow
      levelWas := if t.fillAt = s.imageNow then t.levelWas else t.level }

/-- Bytes of the first region not yet started. -/
def Streamer.left (t : Streamer) : Nat :=
  match t.regions with
  | [] => 0
  | r :: _ => regionBytes t.format r.width r.height - t.packet * (groupOf t.format).2.2

/-- Payload bytes of the next packet. -/
def Streamer.nextLen (t : Streamer) : Nat := min t.left (groupOf t.format).2.2

/-- Time now in ns, exactly: the counter and the place in its cycle. -/
def State.nowQ (s : State) : ℚ := (s.time.counter : ℚ) / nsUnit + (s.phase : ℚ) / 4

/-- The cycle of the Image region's clock, of 1 ns, that an instant falls in (R29). -/
def imageCycle (t : ℚ) : Int := ⌊t⌋

/-- The instant of a tick in ns, exactly (R211). -/
def State.tickQ (s : State) (n : Nat) : ℚ := n * periodQ s.rate

/-- The instant of a tick of the rate a frame was started at, in ns, exactly: a change of rate leaves its streaming as it was (R213). -/
def Streamer.tickQ (t : Streamer) (n : Nat) : ℚ := n * periodQ t.rate

/-- When the next packet is due (R267). -/
def dueAt (t : Streamer) : ℚ :=
  let t0 := t.tickQ (t.frame + 1)
  let e : ℚ := (t.endPoint : ℚ) / 65536
  let te := t0 + (e - t0) * t.pace / 100
  t0 + (te - t0) * t.sigma / t.total

/-- The next packet is past due by DRY_LIMIT (R270). -/
def State.dryReached (s : State) (t : Streamer) : Bool := decide (imageCycle (dueAt t + t.dry) ≤ imageCycle s.nowQ)

/-- The well lacks part of the next packet's payload; one that completes in this very cycle is late (R27, R270). -/
def State.wellLacks (s : State) (t : Streamer) : Bool :=
  decide (t.level < t.nextLen) || (t.fillAt == s.imageNow && decide (t.levelWas < t.nextLen))

/-- Time `n` symbols take on the lane of chain `c`, in ns. -/
def State.symbolTime (s : State) (c n : Nat) : ℚ :=
  match s.chainLane c with | some l => n / symbolRate (s.par P.LANE_RATE l) | none => n

/-- Symbols of a video packet with the idle after it (R168). -/
def packetSymbols (len : Nat) (last prefixed : Bool) : Nat := 33 + len + 8 * b2n last + b2n prefixed

/-- The slot in which the lane is free for the streamer's next packet, in ns. -/
def State.slotQ (s : State) (t : Streamer) : ℚ := max s.nowQ ((t.lastEnd : ℚ) / 65536)

/-- A packet started in the next slot ends before the Image cycle of E (R27, R29), and starts outside the guard before the next tick
(R158, R267). -/
def State.fitsE (s : State) (c : Nat) (t : Streamer) (symbols : Nat) : Bool :=
  decide (imageCycle (s.slotQ t + s.symbolTime c (symbols - 1)) < imageCycle ((t.endPoint : ℚ) / 65536)) &&
    decide (s.slotQ t < t.tickQ (t.frame + 2) - s.symbolTime c 4200)

/-- Drop the bytes of the first region that the well holds or that are still to come, and go on to the next (R270). -/
def Streamer.dropRegion (t : Streamer) : Streamer :=
  let inWell := min t.level t.left
  Streamer.relevel { t with level := t.level - inWell, unread := t.unread - (t.left - inWell), regions := t.regions.tail, packet := 0 }

/-- Grants for the relay of an update after the last region, as many as end by E and before the guard of R158; the rest follow in the next tick (R487). -/
def State.relayGrants (s : State) (c : Nat) : State :=
  let t := s.streamerOf c
  let ds := (onChain s.regions c).flatMap fun r => [0x1000 + r.dest % 4096, 0x2000 + r.dest % 4096]
  if (s.upd.st ≠ 1 ∧ (SMap.get {} s.upd.neighbours c).st ≠ 1) ∨ ds = [] then s
  else
    let each := s.symbolTime c (packetSymbols 0 true t.prefixed + 4200)
    let stop := min ((t.endPoint : ℚ) / 65536) (t.tickQ (t.frame + 2) - s.symbolTime c 4200)
    let n := min ds.length ⌊(stop - (t.lastEnd : ℚ) / 65536) / each⌋.toNat
    let i := SMap.get 0 s.upd.relayNext c
    let s := s.each (List.range n) fun s j => s.send (.packet c K.GRANT [ds.getD ((i + j) % ds.length) 0, 4200])
    { s with upd := { s.upd with relayNext := SMap.set 0 s.upd.relayNext c ((i + n) % ds.length) } }

/-- The frame's streamer is done: its margin and its well's extremes are shown (R281). -/
def State.streamerDone (s : State) (c : Nat) : State :=
  let t := s.streamerOf c
  if !t.active || !t.regions.isEmpty then s
  else
    let s := s.updStreamer c fun t => { t with active := false, urgency := 0 }
    let s := (s.relayGrants c).setPar P.WELL_STATE c (min t.lowest 0xFFFF * 65536 + t.highest)
    s.setPar P.SCAN_MARGIN c (unsigned 32 (clampI (-2147483648) 2147483647 ((t.endPoint - t.packetEnd) / 65536)))

/-- Send one video packet of the first region on chain `c` and account for it; the LAST packet's signature is kept for
the comparison of R187. -/
def State.sendVideo (s : State) (c : Nat) (len index count flags : Nat) (last : Bool) (sig : Nat) (payload : List Byte) : State :=
  let t := s.streamerOf c
  match t.regions with
  | [] => s
  | r :: _ =>
    let n := packetSymbols len last t.prefixed
    let s := s.send (.packet c K.VIDEO
      ([b2n t.prefixed, r.dest, s.par P.DEVICE_ID, t.epoch, t.frame, index * (groupOf t.format).2.2, index, count, flags,
        t.format, (if last then t.gap else 0), sig] ++ payload.map (·.toNat)))
    let ends (m : Nat) : Int := ⌊(s.slotQ t + s.symbolTime c m) * 65536⌋
    let s := if last then
        { s with red := { s.red with sigOwn := (({ tick := t.frame, chain := c, dest := r.dest % 4096, order := r.order,
                                                   sig := sig, unfit := flags % 128 / 32 != 0, at_ := s.now } : SigRec)
                                                 :: s.red.sigOwn).take 4096 } }
      else s
    s.updStreamer c fun t => { t with 
      sigma := t.sigma + n + (if last then t.gap else 0), packetEnd := ends (n - 1)
      lastEnd := ends (n + (if last then t.gap else 0)) }

/-- End the first region at once with an incomplete packet, if it ends by E, and go on to the next (R152). -/
def State.endRegion (s : State) (c : Nat) : State :=
  let t := s.streamerOf c
  let n := packetSymbols 0 true t.prefixed
  let count := match t.regions with | r :: _ => regionPackets t.format r.width r.height | [] => 0
  let s := if s.fitsE c t n then
      s.sendVideo c 0 t.packet count (128 + 64 + 32 * b2n t.repeat_) true 0 []
    else s
  (s.updStreamer c Streamer.dropRegion).streamerDone c

/-- Regions not finished by E are left: the one in progress is closed if that packet too ends by E; the count and
EV 362, once per tick (R271). -/
def State.scanLate (s : State) (c : Nat) : State :=
  let t := s.streamerOf c
  if !t.active || t.regions.isEmpty then s
  else
    let n := t.regions.length
    let s := if t.packet ≠ 0 then s.endRegion c else s
    let s := s.bumpBy P.LATE_REGIONS c n
    let s := s.raiseIf (!t.lateTold) E.SCANOUT_LATE c
    (s.updStreamer c fun t => { t with lateTold := true, regions := [], level := 0, unread := 0 }).streamerDone c

/-- The well of chain `c` is dry: counted, EV 361 once per tick, and the region ends (R270). -/
def State.wellDry (s : State) (c : Nat) : State :=
  let s := (s.bump P.DRY_COUNT c).count 260
  let s := s.raiseIf (!(s.streamerOf c).dryTold) E.WELL_DRY c
  (s.updStreamer c fun t => { t with dryTold := true }).endRegion c

/-- SCANOUT_PACKET_START: the next packet starts once it is due, the last one and its gap are over, the well holds its
payload, and it ends by E outside the guard (R266, R267); a packet that is due and cannot end by E ends the frame
(R271); a region whose read was poisoned ends in its place (R272).  While the scan-out cluster, 4 of Image/Drive, is quiesced
nothing starts (R31). -/
def execScanoutPacketStart (c : Fin 16) (s : State) : Res :=
  .next <|
  let t := s.streamerOf c
  match t.regions with
  | [] => s
  | r :: _ =>
    let free := decide (t.lastEnd ≤ ⌊s.nowQ * 65536⌋)
    if !t.active || !s.chainUp c || s.clusterOut .image 4 || decide (s.nowQ < dueAt t) || !free then s
    else if t.poisoned.contains r.number then s.endRegion c
    else match t.content with
      | none =>
        if s.fitsE c t (packetSymbols 0 true t.prefixed) then s.endRegion c else s.scanLate c
      | some k =>
        let canvas := match s.scan.last with
          | some (cv, _) => if cv.frame = k then cv else s.canvasOf k
          | none => s.canvasOf k
        let count := regionPackets t.format r.width r.height
        let last := decide (t.packet + 1 = count)
        let len := t.nextLen
        if !s.fitsE c t (packetSymbols len last t.prefixed) then s.scanLate c
        else if s.dryReached t && s.wellLacks t then s.wellDry c
        else if t.level < len then s
        else
          let all := regionPayload canvas t.format r
          let pay := (all.drop (t.packet * (groupOf t.format).2.2)).take len
          let s := s.sendVideo c len t.packet count (128 * b2n last + 32 * b2n t.repeat_) last
            (if last then crc64 all else 0) pay
          let s := s.updStreamer c fun t =>
            Streamer.relevel { t with level := t.level - len, levelWas := t.levelWas - len, packet := if last then 0 else t.packet + 1
                                      regions := if last then t.regions.tail else t.regions }
          s.streamerDone c

/-- DRY_LIMIT_EXPIRY: a packet is past due by DRY_LIMIT and the well lacks part of its payload: the well is dry, and the
region ends (R270). -/
def execDryLimitExpiry (c : Fin 16) (s : State) : Res :=
  .next <|
  let t := s.streamerOf c
  if !t.active || t.regions.isEmpty || !s.dryReached t || !s.wellLacks t then s else s.wellDry c

/-- SCAN_END_POINT: E of the chain is reached (R271). -/
def execScanEndPoint (c : Fin 16) (s : State) : Res := .next (s.scanLate c)

/-- A canvas read of a region on chain `c` came back poisoned (R272). -/
def State.canvasPoisoned (s : State) (c region : Nat) : State :=
  let t := s.streamerOf c
  if !t.active || !t.regions.any (fun r => r.number == region) then s
  else
    let s := s.raise E.CANVAS_POISONED c
    match t.regions with
    | r :: _ =>
      if r.number = region ∧ t.packet ≠ 0 then s.endRegion c
      else s.updStreamer c fun t => { t with poisoned := NSet.add t.poisoned region }
    | [] => s

/-! Span pairs (R278–R280) -/

/-- Fewer than two span lanes are usable: EV 372 once per second (R278). -/
def State.spanCheck (s : State) : State :=
  let n := ((List.range 4).filter (bit s.spanLanes)).length
  if s.par P.SPAN_ROLE ≠ 0 ∧ n < 2 then s.raiseLimited E.SPAN_LINK_DEGRADED 0xFFFF sec else s

/-- SPAN_DIGEST bound to frame `k` (R278). -/
def State.spanDigestOf (s : State) (k : Nat) : Nat := match s.bindingOf k with | some b => b.digest | none => s.par P.SPAN_DIGEST

/-- The compose deadline of a span head for frame `k` has come: tick k+1 − SPAN_GUARD, in the Image clock (R279). -/
def State.spanDeadlinePast (s : State) (k : Nat) : Bool :=
  decide (imageCycle (s.tickQ (k + 1) - s.par P.SPAN_GUARD) ≤ imageCycle s.nowQ)

/-- The head's record for frame `k` leaves on every usable span lane (R278, R279). -/
def State.spanSend (s : State) (k : Nat) (done : Bool) : State :=
  let r : SpanRec := { tick := k, role := s.par P.SPAN_ROLE, done := done, rate := s.rate, digest := s.spanDigestOf k,
                       hist := (s.canvasOf k).hist, at_ := s.now }
  let s := { s with scan := { s.scan with own := some r } }
  s.each (List.range 4) fun s i =>
    if bit s.spanLanes i then s.sendLink (16 + i) 5 none [k, r.role * 2 + b2n done, r.rate, r.digest] else s

/-- SPAN_DEADLINE: at tick k+1 − SPAN_GUARD a canvas that is not complete, or completes in this very cycle, is sent as
not done; one complete before it has left its record.  A canvas that completed in the cycle of the deadline was judged late when it
completed, so `_tie` adds nothing (R279, R27). -/
def execSpanDeadline (k : Nat) (_tie : Bool) (s : State) : Res :=
  .next <|
  if s.par P.SPAN_ROLE = 0 ∨ s.isHead = false then s
  else match s.scan.own with
    | some r => if r.tick = k then s else s.spanSend k false
    | none => s.spanSend k false

/-- SPAN_RECORD: the first valid copy of the partner's record for a frame is taken (R278, R279). -/
def execSpanRecord (k : Nat) (role : Fin 4) (done : Bool) (rate : Fin 16) (digest : BitVec 64) (hist : List (Nat × Nat))
    (s : State) : Res :=
  .next <|
  if s.par P.SPAN_ROLE = 0 ∨ s.isHead = false then s
  else match s.scan.partner with
    | some r => if k ≤ r.tick then s else
        { s with scan := { s.scan with partner := some { tick := k, role := role, done := done, rate := rate,
                                                         digest := digest.toNat, hist := hist, at_ := s.now } } }
    | none =>
        { s with scan := { s.scan with partner := some { tick := k, role := role, done := done, rate := rate,
                                                         digest := digest.toNat, hist := hist, at_ := s.now } } }

/-- The partner's record for frame `k`, if it came before this tick's cycle (R279, R27). -/
def State.spanPartner (s : State) (k : Nat) (tie : Bool) : Option SpanRec :=
  s.scan.partner.filter fun r => r.tick == k && s.onTime tie r.at_

/-- The record matches the head in role, rate and digest, both digests bound to its frame (R278, R280). -/
def State.spanGood (s : State) (r : SpanRec) : Bool :=
  r.role == 3 - s.par P.SPAN_ROLE && r.rate == s.rate && r.digest == s.spanDigestOf r.tick

/-- The histogram of frame `k` merged with the partner's; none when the partner did not complete the frame (R243, R255). -/
def mergeHist (k : Nat) (r : SpanRec) (p : Nat × SMap Nat) : Option (Nat × SMap Nat) :=
  if p.1 ≠ k then some p
  else if r.done = true then some (k, r.hist.foldl (fun h (e : Nat × Nat) => SMap.upd 0 h e.1 (· + e.2)) p.2)
  else none

/-- At tick k+1 a span head judges lock, merges histograms, and learns whether frame `k` may be streamed (R255, R279,
R280).  A histogram of a frame that one of the two did not complete serves neither (R243).  At a change of rate frame k_c − 1 is not
judged (log entry 15). -/
def State.spanTick (s : State) (k : Nat) (tie : Bool) : State :=
  if s.par P.SPAN_ROLE = 0 then
    if s.par P.SPAN_STATE = 0 then s else s.setPar P.SPAN_STATE 0 0
  else if s.scan.skip == k + 1 then s.spanCheck
  else
    let s := s.spanCheck
    let rec_ := s.spanPartner k tie
    let good := match rec_ with | some r => s.spanGood r | none => false
    let s := match rec_ with
      | some r => { s with comp := { s.comp with hists := s.comp.hists.filterMap (mergeHist k r) } }
      | none => (s.composeMiss (k + 2)).raise E.SPAN_STATS_LATE
    if good then
      let n := s.scan.goodTicks + 1
      let s := { s with scan := { s.scan with goodTicks := n } }
      if s.par P.SPAN_STATE ≠ 2 ∧ s.par P.SPAN_LOCK_TICKS ≤ n then
        (({ s with scan := { s.scan with everLocked := true } }).setPar P.SPAN_STATE 0 2).raise E.SPAN_LOCKED
      else if s.par P.SPAN_STATE = 0 then s.setPar P.SPAN_STATE 0 1 else s
    else
      let was := s.par P.SPAN_STATE
      let s := ({ s with scan := { s.scan with goodTicks := 0 } }).setPar P.SPAN_STATE 0 1
      s.raiseIf (was == 2) E.SPAN_LOCK_LOST

/-- Frame `k` may be streamed as far as the span pair is concerned: both done and locked (R279). -/
def State.spanAllows (s : State) (k : Nat) (tie : Bool) : Bool :=
  s.par P.SPAN_ROLE == 0 ||
    (s.par P.SPAN_STATE == 2 && (match s.scan.own with | some r => r.tick == k && r.done | none => false) &&
      (match s.spanPartner k tie with | some r => r.done | none => false))

/-! Canvas completion and the compose deadline (R17, R279) -/

/-- CANVAS_COMPLETE: the compositor has finished writing canvas `k`; a poisoned read makes it a miss, and so does a quiesced
compositor cluster, 0 to 3 of Image/Drive (R24, R31).  At throttle-2 each cluster has waited out its pauses first (R453); the stage
is judged for the whole frame at its start (DESIGN CHOICE, log entry 21). -/
def execCanvasComplete (k : Nat) (s : State) : Res :=
  .next <|
  let cv := s.canvasOf k
  if !s.isHead || !cv.started || cv.frame != k || cv.complete || s.comp.poisoned || !s.therm.composePauses.isEmpty ||
      (List.range 4).any (s.clusterOut .image) then s
  else
    let s := s.putCanvas k { cv with complete := true, doneAt := s.imageNow }
    let s := s.setPar P.COMPOSE_TIME 0 (min (s.imageNow - s.comp.startedAt) 0xFFFFFFFF)
    let s := { s with comp := { s.comp with hists := ((k, cv.hist) :: s.comp.hists).take 3 } }
    if s.par P.SPAN_ROLE != 0 && !s.spanDeadlinePast k && (match s.scan.own with | some r => r.tick != k | none => true) then s.spanSend k true else s

/-- COMPOSE_DEADLINE: at tick k+1, in a span head SPAN_GUARD earlier, a canvas that is not complete, or completes in this
very cycle of the Image clock, is discarded whole (R17, R23, R27, R29). -/
def execComposeDeadline (k : Nat) (tie : Bool) (s : State) : Res :=
  .next <|
  let cv := s.canvasOf k
  if !s.isHead || !cv.started || cv.frame != k then s
  else if cv.complete && inTime tie cv.doneAt s.imageNow then s
  else
    let s := s.putCanvas k { cv with started := false, complete := false }
    let s := { s with comp := { s.comp with hists := s.comp.hists.filter fun p => p.1 != k } }
    (s.composeMiss k).raise E.COMPOSE_LATE

/-! The start of a frame's scan-out at tick k+1 (R267, R274) -/

/-- E of a chain for frame `k` in 2⁻¹⁶ ns (R19). -/
def State.endPoint (s : State) (k delay c : Nat) : Int :=
  ⌊(s.tickQ (k + 1) + s.window delay c) * 65536⌋

/-- Streamer of chain `c` for frame `k`. -/
def State.startStreamer (s : State) (k c : Nat) (b : Binding) (own : Binding) (content : Option Nat) (rep : Bool) : State :=
  let l := onChain b.regions c
  let pre := !s.red.streams
  let bytes := if content.isNone then 0 else (l.map fun r => regionBytes b.format r.width r.height).sum
  s.updStreamer c fun _ =>
    { rate := s.rate, frame := k, content := content, repeat_ := rep, prefixed := pre, epoch := s.sendEpoch, format := b.format
      regions := l, gap := b.gap, pace := own.pace, dry := own.dry, sigma := 25
      total := max 1 (chainSymbols b.format b.gap (s.par P.HEAD_CTRL_SYMBOLS) (b2n pre) l)
      endPoint := s.endPoint k own.delay c, lastEnd := 0, unread := bytes, urgency := if bytes = 0 then 0 else 3
      active := !l.isEmpty }

/-- At tick k+1 the streamers start canvas `k`, or repeat the one last streamed, or say that there is none (R17, R274). -/
def State.scanStart (s : State) (k : Nat) (tie : Bool) : State :=
  if !s.rdy B.SCANOUT || s.scan.skip == k + 1 then s
  else match s.bindingOf k with
    | none => s
    | some b =>
      if b.width = 0 ∨ b.height = 0 then s
      else
        let cv := s.canvasOf k
        let ok := cv.started && cv.complete && cv.frame == k && !s.scan.missed.contains k && s.spanAllows k tie
        let s := if !ok && !s.scan.missed.contains k && s.par P.SPAN_ROLE != 0 then s.composeMiss k else s
        let s := { s with scan := { s.scan with
          missed := s.scan.missed.filter fun n => decide (k < n)
          epochs := ((k, s.sendEpoch) :: s.scan.epochs).take 4 } }
        let from_ := if ok then some (cv, b) else s.scan.last
        let s := { s with scan := { s.scan with last := from_ } }
        s.each (List.range 16) fun s c =>
          if (s.chainLane c).isNone then s
          else match from_ with
            | some (cw, bw) => s.startStreamer k c bw b (some cw.frame) (!ok)
            | none => s.startStreamer k c b b none true

/-! The health report (R187, R188) -/

/-- A partner's LAST packet of a region arrives at the standby's own end of the ring, or fails its CRC (R187). -/
def State.sigArrived (s : State) (k c dest sig : Nat) (unfit : Bool) : State :=
  if k < s.red.sigDone then s
  else { s with red := { s.red with
    sigPartner := (({ tick := k, chain := c, dest := dest % 4096, order := 0, sig := sig, unfit := unfit
                      at_ := s.now } : SigRec) :: s.red.sigPartner).take 4096 } }

/-- SIGNATURE_COMPARE_DEADLINE: at tick k+2 + 200 µs what has not arrived is skipped, a packet of this very cycle
included (R187, R27). -/
def execSignatureCompareDeadline (k : Nat) (tie : Bool) (s : State) : Res :=
  .next <|
  { s with red := { s.red with
    sigDone := k + 1
    sigPartner := s.red.sigPartner.filter fun r => r.tick != k || s.onTime tie r.at_ } }

/-- Regions of frame `k` compared, differing and skipped, and the first that differs in stream order (R187). -/
def State.compareSigs (s : State) (k : Nat) : Nat × Nat × Nat × Option Nat :=
  let l := match s.bindingOf k with | some b => b.regions | none => []
  l.foldl (fun a r =>
    let own := s.red.sigOwn.find? fun x => x.tick == k && x.dest == r.dest % 4096
    let par := s.red.sigPartner.find? fun x => x.tick == k && x.chain == r.chain && x.dest == r.dest % 4096
    match own, par with
    | some o, some p =>
      if o.unfit || p.unfit then (a.1, a.2.1, a.2.2.1 + 1, a.2.2.2)
      else if o.sig = p.sig then (a.1 + 1, a.2.1, a.2.2.1, a.2.2.2)
      else (a.1 + 1, a.2.1 + 1, a.2.2.1, a.2.2.2.orElse fun _ => some (r.dest % 4096))
    | _, _ => (a.1, a.2.1, a.2.2.1 + 1, a.2.2.2)) (0, 0, 0, none)

/-- HEALTH_REPORT_PUBLISH: at tick k+2 + 250 µs; a standby head compares regions, a paired member counts subframes, an
active head only reports (R171, R187, R188, R194). -/
def execHealthReportPublish (k : Nat) (s : State) : Res :=
  .next <|
  if !s.redMode then s
  else
    let q : Nat × Nat × Nat × Option Nat :=
      if s.isHead then (if s.acting then (0, 0, 0, none) else s.compareSigs k)
      else (s.red.subCompared, s.red.subDiffered, s.red.subSkipped,
        if s.red.subDiffered = 0 then none else some (s.par P.DEVICE_ID % 4096))
    let run := if 0 < q.1 ∧ q.2.1 = 0 then min (s.red.run + 1) 0xFFFF else 0
    let s := { s with red := { s.red with
      run := run, subCompared := 0, subDiffered := 0, subSkipped := 0
      sigOwn := s.red.sigOwn.filter fun r => decide (k < r.tick)
      sigPartner := s.red.sigPartner.filter fun r => decide (k < r.tick) } }
    let flags := 16 * b2n (s.rdy B.REDUNDANCY_SYNC) + 8 * b2n s.digestsEqual + 4 * b2n s.epochsEqual +
      2 * b2n (s.view != V.DOUBT) + b2n (s.red.hb != 0)
    let epoch := if s.isHead then ((s.scan.epochs.find? fun p => p.1 == k).map (·.2)).getD s.sendEpoch else s.par P.EPOCH
    let dig := match s.bindingOf k with | some b => b.configDigest | none => s.par P.CONFIG_DIGEST
    let s := s.setBlob P.HEALTH_REPORT 0 0
      (leBytes 6 k ++ leBytes 1 s.sluice ++ leBytes 1 flags ++ leBytes 4 epoch ++ leBytes 2 (min q.1 0xFFFF) ++
        leBytes 2 (min q.2.1 0xFFFF) ++ leBytes 2 (min q.2.2.1 0xFFFF) ++
        leBytes 2 (match q.2.2.2 with | some d => d | none => 0x8000) ++ leBytes 2 run ++
        leBytes 2 (s.red.rings.foldl (fun m c => setBit m c true) 0) ++ leBytes 8 dig)
    let s := match q.2.2.2 with | some d => s.raiseIf s.isHead E.SIGNATURE_DIFFER d | none => s
    s.syncEval

/-- The partner's report arrives over the partner path (R187). -/
def State.partnerReport (s : State) (bs : List Byte) : State := (s.setBlob P.PARTNER_REPORT 0 0 (bytesAt bs 0 32)).syncEval

end Sys2Proof.Machine
end

