-- ==== Sys2Proof/Machine/Sealed.lean ====
section
/-! DEFINITION. Banks that are loaded in pieces, sealed by a CRC-32, bound to frames and copied to flash: coefficients
(R294–R296), lamp maps (R312), fixture records (R388) and sequencer programs (R342, R343). -/

namespace Sys2Proof.Machine

/-- Kinds of bank. -/
abbrev BK.COEFF : Nat := 0
abbrev BK.MAP : Nat := 1
abbrev BK.FIX : Nat := 2
abbrev BK.PROG : Nat := 3

/-- Key of a bank in the tables of `PartSeal`. -/
def bankKey (kind b : Nat) : Nat := 16 * kind + b

def State.bank (s : State) (kind b : Nat) : Sealed := SMap.get {} s.store.banks (bankKey kind b)

def State.putBank (s : State) (kind b : Nat) (v : Sealed) : State :=
  { s with store := { s.store with banks := SMap.set {} s.store.banks (bankKey kind b) v } }

/-! Lamps (R283) -/

/-- W, H and P in force. -/
def State.regionW (s : State) : Nat := field (s.par P.TILE_REGION) 0 16
def State.regionH (s : State) : Nat := field (s.par P.TILE_REGION) 16 16
def State.perPixel (s : State) : Nat := field (s.par P.LAMP_LAYOUT) 0 3
/-- The number of lamps W × H × P. -/
def State.lampCount (s : State) : Nat := s.regionW * s.regionH * s.perPixel
/-- Primary of a slot in a layout: 0 R, 1 G, 2 B, 3 W. -/
def slotPrimary (layout slot : Nat) : Nat := field layout (8 + 2 * slot) 2

/-- The default coefficient record of a lamp of a primary (R294). -/
def defaultCoeff (primary : Nat) : Nat :=
  match primary with
  | 0 => 0x2000 | 1 => 0x20000000 | 2 => 0x200000000000
  | _ => 2152 + 5554 * 65536 + 486 * 4294967296

/-- A byte of a bank. -/
def Sealed.byte (d : Sealed) (off : Nat) : Nat :=
  match SMap.get 0 d.bytes off with
  | n + 1 => n
  | 0 =>
    if d.fill = 1 then
      let p := field d.layout 0 3
      defaultCoeff (slotPrimary d.layout (off / 8 % (if p = 0 then 1 else p))) / 256 ^ (off % 8) % 256
    else 0

/-- The little-endian number in `n` bytes. -/
def Sealed.num (d : Sealed) (off : Nat) : Nat → Nat
  | 0 => 0
  | n + 1 => d.byte off + 256 * d.num (off + 1) n

/-- Bytes written from `off` upward. -/
def Sealed.write (d : Sealed) : Nat → List Byte → Sealed
  | _, [] => d
  | off, b :: bs => Sealed.write { d with bytes := SMap.set 0 d.bytes off (b.toNat + 1) } (off + 1) bs

/-- Coefficient record of a lamp, map entry of a slot address, word `i` of a program. -/
def Sealed.coeff (d : Sealed) (lamp : Nat) : Nat := d.num (8 * lamp) 8
def Sealed.mapEntry (d : Sealed) (a : Nat) : Nat := d.num (4 * a) 4

/-- Used entries of a map: slot address and lamp (R312).  A used entry's last byte is not 0, so it is listed. -/
def Sealed.used (d : Sealed) : List (Nat × Nat) :=
  d.bytes.filterMap fun (e : Nat × Nat) =>
    if e.1 % 4 = 3 ∧ 129 ≤ e.2 then some (e.1 / 4, d.mapEntry (e.1 / 4) % 1048576) else none

/-! Programs (R342, R343) -/

def Sealed.nI (d : Sealed) : Nat := d.num 2 2
def Sealed.nD (d : Sealed) : Nat := d.num 4 2
/-- Instruction word at an address. -/
def Sealed.instr (d : Sealed) (pc : Nat) : Nat := d.num (64 + 4 * pc) 4
/-- Initial data word. -/
def Sealed.dataWord (d : Sealed) (a : Nat) : Nat := if a < d.nD then d.num (64 + 4 * d.nI + 4 * a) 4 else 0
def Sealed.hFrame (d : Sealed) : Nat := d.num 12 4
def Sealed.hPlane (d : Sealed) : Nat := d.num 16 2
def Sealed.probeShifts (d : Sealed) : Nat := d.byte 18
def Sealed.probeCk (d : Sealed) : Nat := d.num 20 2

/-- An instruction word breaks a rule of R334 or R335, or branches to `n` or beyond. -/
def badInstr (n w : Nat) : Bool :=
  let o := field w 26 6
  if o == 0 || (3 ≤ o && o ≤ 4) || (6 ≤ o && o ≤ 8) then
    field w 0 14 != 0 || (o == 0 && field w 14 12 != 0)
  else if o == 1 || o == 2 then field w 18 4 != 0 || (o == 2 && field w 16 2 != 0)
  else if o == 5 || o == 11 || o == 12 then false
  else if o == 9 || o == 10 then field w 5 13 != 0
  else if o == 13 then field w 18 4 != 0 || field w 8 10 != 0
  else if 16 ≤ o && o ≤ 21 then
    field w 22 4 != 0 || field w 12 6 != 0 ||
      (if o == 21 then field w 0 12 != 0 || field w 18 4 != 0
       else n ≤ field w 0 12 || ((o == 16 || o == 20) && field w 18 4 != 0))
  else if o == 24 then field w 16 6 != 0
  else if o == 25 then field w 18 8 != 0
  else if o == 26 then field w 16 10 != 0
  else if o == 27 then field w 7 19 != 0
  else if o == 32 || o == 33 then false
  else if o == 34 then field w 16 2 != 0
  else if o == 35 then field w 22 4 != 0 || field w 16 2 != 0 || field w 11 5 != 0
  else if o == 36 then field w 18 4 != 0 || field w 17 1 != 0 || field w 5 11 != 0
  else if o == 37 then field w 22 4 != 0 || field w 17 1 != 0 || field w 0 16 != 0
  else if o == 38 then field w 22 4 != 0 || field w 0 18 != 0
  else if o == 39 then field w 0 26 != 0
  else if o == 40 then field w 22 4 != 0
  else if o == 41 || o == 42 then field w 18 4 != 0 || field w 6 12 != 0
  else true

/-- First word of a program image that fails a check of its own: header words 0–15, then instruction words (R343). -/
def badProgram (d : Sealed) : Option Nat :=
  if d.num 0 2 != 1 || d.nI == 0 || decide (4096 < d.nI) then some 0
  else if decide (1024 < d.nD) || decide (2 < d.byte 6) || d.byte 7 != 0 then some 1
  else if decide (d.nI ≤ d.num 8 2) || decide (d.nI ≤ d.num 10 2) then some 2
  else if d.byte 19 != 0 then some 4
  else if d.num 22 2 != 0 then some 5
  else if d.num 56 4 != 0 then some 14
  else if d.num 60 4 != 0 then some 15
  else ((List.range d.nI).find? fun i => badInstr d.nI (d.instr i)).map (· + 16)

/-! Checks of a seal (R295, R312, R343, R388) -/

/-- A coefficient record has a reserved bit set, or a slot whose bits 15 and 14 differ (R295). -/
def badCoeff (r : Nat) : Bool :=
  field r 48 11 != 0 || [0, 16, 32].any fun lo => bit r (lo + 15) != bit r (lo + 14)

/-- A fixture record fails a check of its own (R388). -/
def badFixture (d : Sealed) (f : Nat) : Bool :=
  let o := 32 * f
  let c := d.byte (o + 8)
  let n := c % 16 + 1
  let src := d.num (o + 16) 8
  field c 4 2 != 0 || field (d.byte (o + 9)) 6 2 != 0 || field (d.num (o + 10) 2) 11 5 != 0 || d.num (o + 14) 2 != 0 ||
    d.num (o + 25) 7 != 0 || src / 16 ^ n != 0 ||
    (List.range n).any (fun i => let v := field src (4 * i) 4; v == 6 || v == 7 || decide (13 ≤ v)) ||
    (bit c 7 &&
      (d.num (o + 4) 2 == 0 || decide (4096 < d.num (o + 4) 2) || d.num (o + 6) 2 == 0 || decide (4096 < d.num (o + 6) 2) ||
       d.num (o + 12) 2 == 0 || decide (512 < d.num (o + 12) 2)))

/-- Lowest slot address whose entry fails: a reserved bit, a lamp index not below `n`, or one that a further used
entry names (R312). -/
def badMap (d : Sealed) (n : Nat) : Option Nat :=
  let us := d.used
  ((List.range 4194304).filter fun a => SMap.get 0 d.bytes (4 * a + 2) != 0 || SMap.get 0 d.bytes (4 * a + 3) != 0).find?
    fun a =>
      let e := d.mapEntry a
      field e 20 11 != 0 ||
        (bit e 31 && (decide (n ≤ e % 1048576) || (us.any fun u => u.2 == e % 1048576 && u.1 != a)))

/-- Bytes a seal covers. -/
def State.sealSize (s : State) (kind : Nat) (d : Sealed) : Nat :=
  match kind with
  | 0 => 8 * s.lampCount
  | 1 => 16777216
  | 2 => 2097152
  | _ => 64 + 4 * d.nI + 4 * d.nD

/-- CRC-32 of the bytes a seal covers. -/
def State.sealCrc (s : State) (kind : Nat) (d : Sealed) : Nat :=
  crc32 ((List.range (s.sealSize kind d)).map fun o => BitVec.ofNat 8 (d.byte o))

/-- Lowest record that fails a check of its own. -/
def State.badRecord (s : State) (kind : Nat) (d : Sealed) : Option Nat :=
  match kind with
  | 0 => (List.range s.lampCount).find? fun i => badCoeff (d.coeff i)
  | 1 => badMap d s.lampCount
  | 2 => (List.range 65536).find? (badFixture d)
  | _ => badProgram d

/-! Bound banks and states -/

/-- The value of a parameter in a binding. -/
def Bind.par (b : Bind) (tile : Bool) (id : Nat) (idx : Nat := 0) : Nat :=
  SMap.get (dfltAt tile false id idx) b.dict (pkey id idx)

/-- Parameters that are bound to frames together (R284, R321, R344, R391). -/
def boundPar (tile : Bool) (id : Nat) : Bool :=
  if tile then (id / 65536 == 0x28 && id != P.LEDGER_STAGE) || id / 65536 == 0x29 || id == P.QUAD_PROGRAM || id == P.DISPLAY_DELAY
  else id / 65536 == 0x0C || id == P.TRANSPORT_CURVE

/-- The state under the values of a binding: the bound parameters read as bound, the others as they stand. -/
def State.under (s : State) (b : Bind) : State :=
  { s with
    dict := b.dict ++ s.dict.filter fun e => !boundPar s.isTile (e.1 / 65536)
    blobs := b.blobs ++ s.blobs.filter fun e => !boundPar s.isTile (e.1 / 268435456 / 65536) }

/-- The values in force of the bound parameters, taken for frame `k` (R284, R321, R391). -/
def State.takeBind (s : State) (k : Nat) : Bind :=
  { frame := k
    dict := s.dict.filter fun e => boundPar s.isTile (e.1 / 65536)
    blobs := s.blobs.filter fun e => boundPar s.isTile (e.1 / 268435456 / 65536) }

/-- Parameter that names the bank of a kind. -/
def bankParam (kind : Nat) : Nat := match kind with | 0 => P.COEFF_BANK | 1 => P.MAP_BANK | _ => P.FIX_BANK

/-- A bank or slot is named by a binding. -/
def Bind.names (b : Bind) (tile : Bool) (kind bank : Nat) : Bool :=
  if kind = BK.PROG then (List.range 8).any fun q => b.par tile P.QUAD_PROGRAM q == bank
  else b.par tile (bankParam kind) == bank

/-- A bank is bound to a frame that has not reached its display tick (R295). -/
def State.bankBound (s : State) (kind b : Nat) : Bool :=
  s.tile.binds.any fun x => decide (s.tile.displayed ≤ x.frame) && x.names s.isTile kind b

/-- The bank that writes reach: the one not named in force; for a program the slot itself. -/
def State.loadBank (s : State) (kind slot : Nat) : Nat :=
  if kind = BK.PROG then slot else 1 - s.par (bankParam kind)

/-- State code of a bank: 0 empty, 1 loading, 2 sealed, 3 bound. -/
def State.bankState (s : State) (kind b : Nat) : Nat := if s.bankBound kind b then 3 else (s.bank kind b).st

def State.bankSealed (s : State) (kind b : Nat) : Bool := (s.bank kind b).st == 2

/-! Loading and sealing -/

/-- A write of bytes lands in the load bank and clears its seal (R295). -/
def State.bankWrite (s : State) (kind slot off : Nat) (bs : List Byte) : State :=
  let b := s.loadBank kind slot
  let d := s.bank kind b
  s.putBank kind b ({ d.write off bs with st := 1, copied := if d.st = 1 then d.copied else false })

/-- Events of a seal and of its failure. -/
def sealEvents (kind : Nat) : Nat × Nat :=
  match kind with
  | 0 => (E.COEFF_SEALED, E.COEFF_SEAL_FAILED)
  | 1 => (E.MAP_SEALED, E.MAP_SEAL_FAILED)
  | 2 => (E.FIX_SEALED, E.FIX_SEAL_FAILED)
  | _ => (E.PROG_SEALED, E.PROG_SEAL_FAILED)

/-- Parameter that reports a failed seal; its hidden index 256 + slot holds the failure fields. -/
def stateParam (kind : Nat) : Nat :=
  match kind with | 0 => P.COEFF_STATE | 1 => P.MAP_STATE | 2 => P.FIX_STATE | _ => P.PROG_STATE

/-- Whether a seal with this CRC succeeds, and if not the record it names and whether the CRC differs (R295). -/
def State.sealFails (s : State) (kind slot crc : Nat) : Option (Nat × Bool) :=
  let d := s.bank kind (s.loadBank kind slot)
  let bad := s.badRecord kind d
  let differs := s.sealCrc kind d != crc
  if bad.isNone && !differs then none else some (bad.getD 0, differs)

/-- The bank is sealed. -/
def State.bankSeal (s : State) (kind slot crc : Nat) : State :=
  let b := s.loadBank kind slot
  let d := s.bank kind b
  let s := s.putBank kind b { d with st := 2, crc := crc, copied := false }
  let s := if kind = BK.COEFF then s.setPar P.COEFF_CRC b crc
    else if kind = BK.PROG then s.setPar P.PROG_CRC b crc else s
  s.raise (sealEvents kind).1 b

/-- A failed seal is reported (R295).  A first bad word from 4,096 on, which the 12 bits of PROG_STATE cannot hold, shows a free value
(the spec states none; log entry 15). -/
def State.sealReport (s : State) (kind slot : Nat) (f : Nat × Bool) : State :=
  let (r, s) := if kind = BK.PROG ∧ 4096 ≤ f.1 then (let x := s.takeFree; (x.1 % 4096, x.2)) else (f.1, s)
  (s.setPar (stateParam kind) (256 + slot) (2 * r + b2n f.2)).raise (sealEvents kind).2 (s.loadBank kind slot)

/-- `COEFF_STATE`, `MAP_STATE`, `FIX_STATE` and `PROG_STATE` as they read. -/
def State.sealState (s : State) (kind slot : Nat) : Nat :=
  let f := s.par (stateParam kind) (256 + slot)
  match kind with
  | 0 => (f % 2) * 2 ^ 28 + (f / 2) * 2 ^ 8 + s.bankState 0 1 * 16 + s.bankState 0 0
  | 1 => (f % 2) * 2 ^ 30 + (f / 2) * 2 ^ 8 + s.bankState 1 1 * 16 + s.bankState 1 0
  | 2 => (f % 2) * 2 ^ 24 + (f / 2) * 2 ^ 8 + s.bankState 2 1 * 16 + s.bankState 2 0
  | _ => (f % 2) * 2 ^ 16 + (f / 2) * 2 ^ 4 + s.bankState 3 slot

/-! Copies in flash (R296) -/

/-- Keys of the two stored copies a bank shares. -/
def storedKeys (kind b : Nat) : Nat × Nat :=
  let k := if kind = BK.PROG then bankKey kind b else bankKey kind 0
  (2 * k, 2 * k + 1)

/-- The newest valid stored copy, if there is one. -/
def State.newestStored (s : State) (kind b : Nat) : Option (Nat × Stored) :=
  let k := storedKeys kind b
  let x := SMap.get {} s.store.flash k.1
  let y := SMap.get {} s.store.flash k.2
  match x.valid, y.valid with
  | true, true => if x.seq < y.seq then some (k.2, y) else some (k.1, x)
  | true, false => some (k.1, x)
  | false, true => some (k.2, y)
  | false, false => none

/-- A bank newly bound to a frame is to be copied to flash (R296). -/
def State.copyDue (s : State) : State :=
  match s.tile.binds with
  | [] => s
  | b :: _ =>
    let keys := (List.range 4).flatMap fun kind =>
      (List.range (if kind = BK.PROG then 8 else 2)).filterMap fun bank =>
        if ((kind = BK.FIX) ↔ s.isHead) ∧ b.names s.isTile kind bank = true ∧ (s.bank kind bank).copied = false ∧
          s.bankSealed kind bank = true then some (bankKey kind bank) else none
    { s with store := { s.store with due := keys.foldl NSet.add s.store.due } }

/-- BANK_FLASH_COPY: the copy of a bank newly bound to a frame is complete in the stored copy that is not the newest;
flash writes wait out their pause at throttle-1 (R296, R452). -/
def execBankFlashCopy (kind : Fin 4) (bank : Fin 8) (s : State) : Res :=
  .next <|
  let key := bankKey kind bank
  if !s.store.due.contains key || s.bgPaused Bg.FLASH then s
  else
    let d := s.bank kind bank
    let k := storedKeys kind bank
    let goal : Nat × Nat := match s.newestStored kind bank with
      | none => (k.1, 1)
      | some (at_, c) => (if at_ = k.1 then k.2 else k.1, c.seq + 1)
    let copy : Stored := { seq := goal.2, valid := true, data := d }
    let s := { s with store := { s.store with
      due := NSet.del s.store.due key
      flash := SMap.set {} s.store.flash goal.1 copy } }
    (s.putBank kind bank { d with copied := true }).bgPauseStart Bg.FLASH

/-- The bank named by the stored settings takes the newest valid stored copy, or its default filling (R296, R312, R388);
a program slot without one stays empty.  EV 401 is for coefficients alone, the one event R296 names (DESIGN CHOICE, log entry 16:
R312, R343 and R388 name events of seals only). -/
def State.loadStored (s : State) (kind b : Nat) : State :=
  match s.newestStored kind b with
  | some (_, c) => s.putBank kind b { c.data with st := 2, copied := true }
  | none =>
    if kind = BK.PROG then s
    else
      let s := s.putBank kind b { fill := if kind = BK.COEFF then 1 else 0, layout := s.par P.LAMP_LAYOUT, st := 2 }
      s.raiseIf (kind == BK.COEFF) E.COEFF_SEAL_FAILED b

/-- After an L0 reset the stored banks of the role are loaded (R296). -/
def State.loadBanks (s : State) : State :=
  if s.isTile then
    let s := s.loadStored BK.COEFF (s.par P.COEFF_BANK)
    let s := s.loadStored BK.MAP (s.par P.MAP_BANK)
    s.each (List.range 8) fun s i => s.loadStored BK.PROG i
  else if s.isHead then s.loadStored BK.FIX (s.par P.FIX_BANK)
  else s

end Sys2Proof.Machine
end

