-- ==== Sys2Proof/Machine/Correct.lean ====
section
/-! DEFINITION. Correction of a tile's frames: bindings, the arithmetic of the drive words, zones and their matrices, and
the wear ledger (chapter 12). -/

namespace Sys2Proof.Machine

/-! Arithmetic (R287) -/

/-- rnd_s(x) = (x + 2^(s−1)) >> s, arithmetic. -/
def rnd (s : Nat) (x : Int) : Int := (x + (2 : Int) ^ (s - 1)) / (2 : Int) ^ s

/-- ⌊√n⌋ for n below 2^(2b): the bits of the root from the highest down. -/
def isqrt (n : Nat) : Nat → Nat → Nat
  | 0, r => r
  | b + 1, r => isqrt n b (if (r + 2 ^ b) * (r + 2 ^ b) ≤ n then r + 2 ^ b else r)

/-- Half-even rounding of a rational to an integer. -/
def roundEven (q : ℚ) : Int :=
  let f := ⌊q⌋
  let d := q - f
  if d < 1 / 2 then f else if 1 / 2 < d then f + 1 else if f % 2 = 0 then f else f + 1

/-- The binary exponent of a positive rational: the greatest e with 2^e ≤ a. -/
def binExp (a : ℚ) : Int :=
  let k : Int := (Nat.log2 a.num.natAbs : Int) - (Nat.log2 a.den : Int)
  if a < (2 : ℚ) ^ k then k - 1 else k

/-- The IEEE 754 binary64 number nearest to a rational in the normal range, ties to even (R299). -/
def f64 (q : ℚ) : ℚ :=
  if q = 0 then 0
  else
    let u : ℚ := (2 : ℚ) ^ (binExp |q| - 52)
    roundEven (q / u) * u

/-! The pixel path -/

/-- The number in `n` payload bytes of a copy. -/
def payloadNum (data : SMap Nat) (off : Nat) : Nat → Nat
  | 0 => 0
  | n + 1 => SMap.get 0 data off + 256 * payloadNum data (off + 1) n

/-- Codes R, G, B of pixel `px` of a payload (R150, step 1). -/
def unpackPixel (fmt : Nat) (data : SMap Nat) (px : Nat) : Nat × Nat × Nat :=
  let n := codeBits fmt
  let g := groupOf fmt
  let w := payloadNum data (px / g.1 * g.2.1) g.2.1
  let o := 3 * n * (px % g.1)
  (field w o n, field w (o + n) n, field w (o + 2 * n) n)

/-- X[i] of the expansion table. -/
def State.expansion (s : State) (i : Nat) : Nat := s.blobNat P.EXPANSION_LUT 0 (4 * min i 4095) 4 % 16777216

/-- Step 2: the linear value of a code (R288). -/
def State.expand (s : State) (fmt c : Nat) : Nat :=
  match fmt % 16 with
  | 0 => s.expansion (4 * c + c / 256)
  | 1 => s.expansion c
  | _ =>
    let i := c / 16
    let a := s.expansion i
    (clampI 0 16777215 (a + rnd 4 (((s.expansion (i + 1) : Int) - a) * (c % 16)))).toNat

/-- Q2.13 coefficient of a record on a target: the 15-bit field of its slot (R14, R294). -/
def coeffOf (r t : Nat) : Int := signed 15 (field r (16 * t) 15)

/-- Step 3: the lamp row. -/
def lampRow (r : Nat) (n : Nat × Nat × Nat) : Nat :=
  (clampI 0 16777215 (rnd 13 (coeffOf r 0 * n.1 + coeffOf r 1 * n.2.1 + coeffOf r 2 * n.2.2))).toNat

/-- K and k_W of the identity. -/
def identityK : List Int := [8192, 0, 0, 0, 8192, 0, 0, 0, 8192, 8192]

/-- Step 4: the zone matrix for a lamp of primary `j`, over the pixel's step-3 results by primary (R290). -/
def zoneRow (k : List Int) (j : Nat) (d : List (Nat × Nat)) : Nat :=
  let acc : Int :=
    if j = 3 then (d.filter fun p => p.1 == 3).foldl (fun a p => a + k.getD 9 0 * (p.2 : Int)) 0
    else (d.filter fun p => p.1 != 3).foldl (fun a p => a + k.getD (3 * j + p.1) 0 * (p.2 : Int)) 0
  (clampI 0 16777215 (rnd 13 acc)).toNat

/-- ρ at a dose, for primary `j`, 1.0 = 32,768 (R303). -/
def State.wearRho (s : State) (j dose : Nat) : ℚ :=
  let p (i : Nat) : ℚ := s.blobNat P.WEAR_CURVE j (2 * i) 2
  let i := dose / 134217728
  p i + (p (i + 1) - p i) * (dose % 134217728 : Nat) / 134217728

/-- ρ_ref / ρ with 1.0 = 16,384, before the ceiling (R303). -/
def State.wearGainRaw (s : State) (j dose : Nat) : ℚ := (s.par P.WEAR_REFERENCE : ℚ) * 16384 / s.wearRho j dose

/-- The gain g of a lamp, rounded to nearest, under the values the table was built with (R303, R304). -/
def State.wearGain (s : State) (g : GainTable) (j lamp : Nat) : Nat :=
  let t := { s with dict := g.dict, blobs := g.blobs }
  min ⌊t.wearGainRaw j (SMap.get 0 g.ledger lamp) + 1 / 2⌋.toNat (t.par P.WEAR_CEILING)

/-- Point `i` of low-grey curve `c`. -/
def State.curvePoint (s : State) (c i : Nat) : Nat := s.blobNat P.LOWGREY_CURVES 0 (4 * (257 * c + i)) 4 % 262144

/-- Step 7 (R292). -/
def State.lowgrey (s : State) (c u : Nat) : Nat :=
  if u = 0 then 0
  else
    let t := isqrt (u * 4194304) 23 0
    let i := t / 16384
    if i = 256 then s.curvePoint c 256
    else (s.curvePoint c i + rnd 14 (((s.curvePoint c (i + 1) : Int) - s.curvePoint c i) * (t % 16384 : Nat))).toNat

/-- Step 8 (R293). -/
def ditherWord (on : Bool) (frame lamp w : Nat) : Nat :=
  if on then
    let q := (frame + (lamp + lamp / 4) % 4) % 4
    if q < w % 4 then min (w / 4 + 1) 65535 else w / 4
  else min ((w + 2) / 4) 65535

/-- The zone a pixel of the region belongs to (R297). -/
def State.zoneOf (s : State) (x y : Nat) : Nat :=
  ((List.range 16).find? fun z =>
    let r := s.par P.ZONE_RECT z
    decide (field r 0 16 ≤ x) && decide (x < field r 0 16 + field r 32 16) &&
      decide (field r 16 16 ≤ y) && decide (y < field r 16 16 + field r 48 16)).getD 0

/-- Words of one pixel's lamps, and which of them were clipped (R287, R291).  The state is under the frame's binding;
`used` says whether the map names a lamp. -/
def State.pixelWords (s : State) (b : Sealed) (snap : Snap) (used : Nat → Bool) (fmt frame px : Nat) (data : SMap Nat) :
    List (Nat × Nat × Bool) :=
  let c := unpackPixel fmt data px
  let n := (s.expand fmt c.1, s.expand fmt c.2.1, s.expand fmt c.2.2)
  let p := s.perPixel
  let lay := s.par P.LAMP_LAYOUT
  let lamps := (List.range p).map fun i => (p * px + i, slotPrimary lay i)
  let rows := lamps.map fun l => (l.2, lampRow (b.coeff l.1) n)
  let z := SMap.get identityK snap.zones (s.zoneOf (px % s.regionW) (px / s.regionW))
  lamps.map fun l =>
    let r := b.coeff l.1
    let e := zoneRow z l.2 rows
    let g := if s.par P.WEAR_MODE = 0 then s.wearGain snap.gains l.2 l.1 else 16384
    let v := min (rnd 14 ((e * g : Nat) : Int)).toNat 16777215
    let u := (rnd 15 ((v * snap.beta : Nat) : Int)).toNat
    let dark := bit r 59 || snap.masks.contains l.1
    let w := s.lowgrey (field r 60 4) (min u 4194304)
    (l.1, if dark then 0 else ditherWord (s.par P.DITHER == 1) frame l.1 w, decide (4194304 < u) && !dark && used l.1)

/-- Drive words that are not 0 of a whole region, and the number of clipped lamps. -/
def State.regionWords (s : State) (snap : Snap) (fmt frame : Nat) (data : SMap Nat) : SMap Nat × Nat :=
  let b := s.bank BK.COEFF (s.par P.COEFF_BANK)
  let us := (s.bank BK.MAP (s.par P.MAP_BANK)).used
  let ws := (List.range (s.regionW * s.regionH)).flatMap fun px =>
    s.pixelWords b snap (fun l => us.any fun u => u.2 == l) fmt frame px data
  (ws.filterMap (fun w => if w.2.1 = 0 then none else some (w.1, w.2.1)), (ws.filter fun w => w.2.2).length)

/-! Bindings (R284, R289) -/

/-- The expansion table filled for the full scale in force (R289). -/
def State.fillExpansion (s : State) : State :=
  s.setBlob P.EXPANSION_LUT 0 0 ((List.range 4096).flatMap fun i => leBytes 4 (Config.expansionPoint (s.par P.FULL_SCALE) i))

/-- The values in force are bound to frame `k`; at most three bindings of frames to come are held (R284). -/
def State.corrBind (s : State) (k : Nat) : State :=
  let b := s.takeBind k
  { s with tile := { s.tile with binds := (b :: s.tile.binds.filter fun x => x.frame != k).take 4 } }.copyDue

/-- At the latch of tick `k` area 28 and its companions are bound to frame `k`, once CORRECTION has risen (R284). -/
def State.corrLatch (s : State) (k : Nat) : State := if s.isTile && s.rdy B.CORRECTION then s.corrBind k else s

/-- In the cycle CORRECTION rises, every frame whose latch has passed and whose display tick has not takes the values
then in force (R284), and every frame received in part until then fails (R79). -/
def State.corrRise (s : State) : State :=
  let n := s.time.latched
  let s := { s with chain := { s.chain with copies := s.chain.copies.map fun (c : Copy) => { c with barred := true } } }
  s.each [n - 2, n - 1, n] fun s k => if 0 < k ∧ s.tile.displayed ≤ k ∧ n - 2 ≤ k then s.corrBind k else s

def State.bindFor (s : State) (k : Nat) : Option Bind := s.tile.binds.find? fun b => b.frame == k
def State.snapFor (s : State) (k : Nat) : Option Snap := s.tile.snaps.find? fun x => x.frame == k
def State.backFor (s : State) (k p : Nat) : Option Back := s.tile.backs.find? fun b => b.frame == k && b.port == p

/-! Zones (R297–R300) -/

/-- Ten Q2.13 elements of a BLOB of 20 bytes. -/
def State.kList (s : State) (id z : Nat) : List Int := (List.range 10).map fun j => signed 16 (s.blobNat id z (2 * j) 2)

def State.putK (s : State) (id z : Nat) (k : List Int) : State := s.setBlob id z 0 (k.flatMap fun x => leBytes 2 (unsigned 16 x))

/-- A zone in use: zone 0 and every zone with a rectangle. -/
def State.zoneUsed (s : State) (z : Nat) : Bool := z == 0 || field (s.par P.ZONE_RECT z) 32 16 != 0

/-- A sensor's reading is no older than SENSOR_STALE. -/
def State.sensorFresh (s : State) (i : Nat) : Bool :=
  match SMap.get 0 s.tile.sensorAt i with
  | 0 => false
  | t + 1 => decide (s.now - t ≤ s.par P.SENSOR_STALE * ms)

/-- A reading that has grown too old is no longer valid and is reported once (R298). -/
def State.sensorsJudge (s : State) : State :=
  s.each (List.range 16) fun s i =>
    if SMap.get 0 s.tile.sensorAt i = 0 || s.sensorFresh i then s
    else
      let s := s.setPar P.SENSOR_TEMP i 0x8000
      if s.tile.staleTold.contains i then s
      else ({ s with tile := { s.tile with staleTold := NSet.add s.tile.staleTold i } }).raise E.SENSOR_STALE i

/-- The highest valid zone temperature (R375). -/
def State.hottest (s : State) : Option Int :=
  match (List.range 16).filterMap fun z => if s.par P.ZONE_TEMP z = 0x8000 then none else some (signed 16 (s.par P.ZONE_TEMP z)) with
  | [] => none
  | t :: ts => some (ts.foldl max t)

/-- The highest valid zone temperature as it was complete in the cycle before this one (R375). -/
def State.hottestSeen (s : State) : Option Int := if s.tile.hotAt = s.now + 1 then s.tile.hotWas else s.hottest

/-- The temperatures of the zones at a snapshot (R298). -/
def State.zoneTemps (s : State) : State :=
  let s := { s with tile := { s.tile with hotWas := s.hottestSeen, hotAt := s.now + 1 } }
  s.each ((List.range 16).filter s.zoneUsed) fun s z =>
    let m := s.par P.ZONE_SENSORS z
    let vs := (List.range 16).filterMap fun i =>
      if bit m i && s.sensorFresh i then some (signed 16 (s.par P.SENSOR_TEMP i)) else none
    if vs.isEmpty then s.raise E.ZONE_NO_SENSOR z
    else
      let t := roundDiv vs.sum vs.length
      { s with tile := { s.tile with zoneTemp := SMap.set none s.tile.zoneTemp z (some t) } }.setPar P.ZONE_TEMP z (unsigned 16 t)

/-- Component `i` of the column of primary `j` at a temperature in 1/16 °C (R299). -/
def State.primaryCol (s : State) (j i : Nat) (t : Int) : ℚ :=
  let x := f64 (((clampI (-640) 1680 t : Int) : ℚ) / 16 + 40)
  let x := f64 (x / 5)
  let m := (min ⌊x⌋ 28).toNat
  let p (m : Nat) : ℚ := s.blobNat P.PRIMARY_XYZ j (12 * m + 4 * i) 4
  f64 (p m + f64 (f64 (x - m) * (p (m + 1) - p m)))

/-- det of a matrix given by element, expanded along its first row, in binary64. -/
def det64 (a : Nat → Nat → ℚ) : ℚ :=
  let c (i j k l : Nat) : ℚ := f64 (f64 (a 1 i * a 2 j) - f64 (a 1 k * a 2 l))
  f64 (f64 (f64 (a 0 0 * c 1 2 2 1) - f64 (a 0 1 * c 0 2 2 0)) + f64 (a 0 2 * c 0 1 1 0))

/-- Element (i, j) of the adjugate, in binary64. -/
def adj64 (a : Nat → Nat → ℚ) (i j : Nat) : ℚ :=
  let r0 := (j + 1) % 3; let r1 := (j + 2) % 3
  let c0 := (i + 1) % 3; let c1 := (i + 2) % 3
  f64 (f64 (a r0 c0 * a r1 c1) - f64 (a r0 c1 * a r1 c0))

/-- The target of a zone from its temperature, none when it is not valid (R299). -/
def State.zoneTarget (s : State) (z : Nat) : Option (List Int) :=
  let tr := signed 16 (s.par P.T_REF)
  let t := (SMap.get none s.tile.zoneTemp z).getD tr
  let lay := s.par P.LAMP_LAYOUT
  let prims := (List.range s.perPixel).map (slotPrimary lay)
  let ratio (j : Nat) : ℚ := f64 (s.primaryCol j 1 tr / s.primaryCol j 1 t)
  let elems : Option (List ℚ) :=
    if [0, 1, 2].all prims.contains then
      let p (i j : Nat) : ℚ := s.primaryCol j i t
      let p0 (i j : Nat) : ℚ := s.primaryCol j i tr
      let d := det64 p
      if d = 0 then none
      else some ((List.range 9).map fun e =>
        let i := e / 3; let j := e % 3
        f64 (f64 (f64 (f64 (adj64 p i 0 * p0 0 j) + f64 (adj64 p i 1 * p0 1 j)) + f64 (adj64 p i 2 * p0 2 j)) / d))
    else some ((List.range 9).map fun e => if e / 3 = e % 3 then (if prims.contains (e / 3) then ratio (e / 3) else 1) else 0)
  match elems with
  | none => none
  | some l =>
    let k := (l ++ [ratio 3]).map fun q => roundEven (q * 8192)
    if k.all fun x => decide (-16384 ≤ x) && decide (x ≤ 16383) then some k else none

/-- K_TARGET_COMPUTE: the firmware delivers every zone's target for the next snapshot (R299). -/
def execKTargetCompute (s : State) : Res :=
  .next <|
  if !s.isTile || s.tile.targetsAt.isSome then s
  else
    let s := { s with tile := { s.tile with oldTargets := s.tile.targets, targetsAt := some s.now } }
    s.each ((List.range 16).filter s.zoneUsed) fun s z =>
      match s.zoneTarget z with
      | some k => { s with tile := { s.tile with targets := SMap.set identityK s.tile.targets z k } }.putK P.K_TARGET z k
      | none => s.raise E.K_INVALID z

/-- One element one tick nearer to its target. -/
def slewTo (step x t : Int) : Int := clampI (x - step) (x + step) t

/-- The applied matrices at S(k): targets delivered in time, or the ones before, under the slew limit (R300). -/
def State.slewZones (s : State) (tie : Bool) : State :=
  let fresh := match s.tile.targetsAt with | some t => s.onTime tie t | none => false
  let tg := if fresh || s.tile.targetsAt.isNone then s.tile.targets else s.tile.oldTargets
  let s := s.raiseIf (!fresh && !s.tile.snaps.isEmpty) E.K_UPDATE_LATE
  let s := { s with tile := { s.tile with targetsAt := none } }
  match s.par P.K_MODE with
  | 0 => s.each (List.range 16) fun s z =>
      let k := s.kList P.K_APPLIED z
      let t := SMap.get identityK tg z
      s.putK P.K_APPLIED z ((List.range 10).map fun i => slewTo (s.par P.K_SLEW) (k.getD i 0) (t.getD i 0))
  | 1 => s
  | _ => s.each (List.range 16) fun s z => s.putK P.K_APPLIED z identityK

/-! Wear (R301–R306) -/

/-- CRC-32 that decides the carry of a dose (R302). -/
def doseHash (lamp tick : Nat) : Nat := crc32 (leBytes 4 lamp ++ leBytes 4 (tick % 4294967296)) % 65536

/-- D of R302: 64 × T × 2^19, rounded. -/
def doseUnit (code : Nat) : Nat :=
  let p := ratePeriod code
  (64 * p.1 * 524288 * 2 + p.2) / (2 * p.2)

/-- One lamp's entry after the update at tick `n` with word `w` (R302). -/
def doseAdd (code n lamp w old : Nat) : Nat :=
  let f := w * doseUnit code / 65536
  min (old + f / 65536 + b2n (decide (doseHash lamp n < f % 65536))) 0xFFFFFFFF

/-- The wear ledger's update at the display instant of tick `n`; `dark` says which lamps' ports are held dark
(R301, R302). -/
def State.wearUpdate (s : State) (n : Nat) (dark : Nat → Bool) : State :=
  if !s.rdy B.SHOW || s.par P.WEAR_MODE = 2 then s
  else
    let words := match s.tile.front with | some f => f.words | none => []
    s.each (words.filter fun (e : Nat × Nat) => e.1 % 64 == n % 64 && !dark e.1) fun s (e : Nat × Nat) =>
      let old := SMap.get 0 s.tile.ledger e.1
      let new := doseAdd s.rate n e.1 e.2 old
      ({ s with tile := { s.tile with ledger := SMap.set 0 s.tile.ledger e.1 new } }).raiseIf
        (new == 0xFFFFFFFF && old != 0xFFFFFFFF) E.LEDGER_SATURATED 0xFFFF e.1

/-- What a gain table is built from: the ledger and area 28 as they stand (R304). -/
def State.takeGains (s : State) : GainTable :=
  { ledger := s.tile.ledger
    dict := s.dict.filter fun e => e.1 / 65536 == P.WEAR_REFERENCE || e.1 / 65536 == P.WEAR_CEILING || e.1 / 65536 == P.LAMP_LAYOUT
    blobs := s.blobs.filter fun e => e.1 / 268435456 / 65536 == P.WEAR_CURVE }

/-- After the update at tick 1,024q − 512 the build for boundary 1,024q begins (R304). -/
def State.gainStart (s : State) (n : Nat) : State :=
  if n % 1024 = 512 then { s with tile := { s.tile with building := some (n + 512, s.takeGains) } } else s

/-- GAIN_TABLE_BUILD_COMPLETE: a build ends; the first one after a start makes the first table.  Lamps whose uncapped
gain exceeds the ceiling are counted and reported once, and the lowest ratio of ceiling to uncapped gain over all lamps is shown
(R303, R304, R307). -/
def execGainTableBuildComplete (s : State) : Res :=
  .next <|
  if !s.isTile || !s.rdy B.FW then s
  else
    let job : Option (Nat × GainTable) :=
      match s.tile.building with
      | some j => some j
      | none => if s.tile.gainReady then none else some (0, s.takeGains)
    match job with
    | none => s
    | some (q, g) =>
      let t := { s with dict := g.dict, blobs := g.blobs }
      let lay := s.par P.LAMP_LAYOUT
      let p := s.perPixel
      let top := (List.range s.lampCount).filter fun i =>
        decide ((t.par P.WEAR_CEILING : ℚ) < t.wearGainRaw (slotPrimary lay (i % p)) (SMap.get 0 g.ledger i))
      let low := if s.lampCount = 0 then 0 else (List.range s.lampCount).foldl (fun (m : Nat) i =>
        min m ⌊(t.par P.WEAR_CEILING : ℚ) * 16384 / t.wearGainRaw (slotPrimary lay (i % p)) (SMap.get 0 g.ledger i) + 1 / 2⌋.toNat) 0xFFFF
      let hi := g.ledger.foldl (fun m (e : Nat × Nat) => max m e.2) 0
      let s := s.setBlob P.WEAR_STATE 0 0 (leBytes 4 top.length ++ leBytes 2 low ++ leBytes 4 hi)
      let s := { s with tile := { s.tile with building := none } }
      let s := if s.tile.gainReady then { s with tile := { s.tile with built := some (q, s.now, g) } }
        else { s with tile := { s.tile with gains := g, gainReady := true } }
      match top with
      | [] => s
      | i :: _ =>
        if s.tile.ceilingTold then s
        else ({ s with tile := { s.tile with ceilingTold := true } }).raise E.WEAR_AT_CEILING 0xFFFF i

/-- At S(1,024q) a table built in time comes into use; otherwise the one in use stays (R304). -/
def State.gainSwap (s : State) (k : Nat) (tie : Bool) : State :=
  if k % 1024 ≠ 0 || !s.tile.gainReady then s
  else match s.tile.built with
    | some (q, t, g) =>
      if q = k ∧ s.onTime tie t = true then { s with tile := { s.tile with gains := g, built := none } }
      else ({ s with tile := { s.tile with built := none } }).raise E.GAIN_REFRESH_LATE
    | none => s.raise E.GAIN_REFRESH_LATE

/-- LEDGER_FLUSH_TIMER: every 10 minutes a flush begins, or is skipped while one runs (R305). -/
def execLedgerFlushTimer (s : State) : Res :=
  .next <|
  if !s.isTile || !s.rdy B.FW then s
  else if s.tile.flush.isSome then s.raise E.LEDGER_FLUSH_SKIPPED
  else { s with tile := { s.tile with flush := some s.tile.ledger } }.bgPauseStart Bg.FLASH

/-- Highest sequence number among the slots, and the slot after that one. -/
def State.lastSlot (s : State) : Option (Nat × Nat × SMap Nat) :=
  (List.range s.tile.slotCount).foldl (fun r i =>
    match SMap.get none s.tile.slots i with
    | some (q, l) => (match r with | some (_, q0, _) => if q0 < q then some (i, q, l) else r | none => some (i, q, l))
    | none => r) none

/-- LEDGER_FLUSH_COMPLETE: the ledger is whole in the next slot (R305). -/
def execLedgerFlushComplete (s : State) : Res :=
  .next <|
  match s.tile.flush with
  | none => s
  | some l =>
    if s.bgPaused Bg.FLASH then s
    else
      let seq := match s.lastSlot with | some (_, q, _) => q + 1 | none => 1
      let slot := match s.lastSlot with | some (i, _, _) => (i + 1) % s.tile.slotCount | none => 0
      let s := { s with tile := { s.tile with flush := none, slots := SMap.set none s.tile.slots slot (some (seq, l)) } }
      let s := s.setBlob P.WEAR_STATE 0 10 (leBytes 4 seq ++ leBytes 1 slot)
      (s.raise E.LEDGER_FLUSHED).bgPauseStart Bg.FLASH

/-- After an L0 reset the ledger is the newest slot's, or empty (R305). -/
def State.loadLedger (s : State) : State :=
  let s := { s with tile := { s.tile with slotCount := s.par P.LEDGER_SLOTS } }
  match s.lastSlot with
  | some (_, _, l) => { s with tile := { s.tile with ledger := l } }
  | none => ({ s with tile := { s.tile with ledger := [] } }).raise E.LEDGER_LOST

/-- The oldest latched LEDGER_COMMAND is due: it was latched before this display instant (R306). -/
def State.ledgerDue (s : State) (op : Nat) : Option Nat :=
  match s.tile.ledgerCmds with
  | v :: _ => if field v 56 8 = op ∧ s.tile.dtAt = some s.now then some v else none
  | [] => none

/-- LEDGER_REPLACE: at the display instant the ledger takes the stage's contents (R306). -/
def execLedgerReplace (s : State) : Res :=
  .next <|
  match s.ledgerDue 1 with
  | none => s
  | some _ =>
    let l : SMap Nat := (List.range s.lampCount).filterMap fun i =>
      let v := s.blobNat P.LEDGER_STAGE 0 (4 * i) 4
      if v = 0 then none else some (i, v)
    { s with tile := { s.tile with ledger := l, ledgerCmds := s.tile.ledgerCmds.drop 1 } }

/-- LEDGER_ZERO: at the display instant the named entries become 0 (R306). -/
def execLedgerZero (s : State) : Res :=
  .next <|
  match s.ledgerDue 2 with
  | none => s
  | some v =>
    let a := field v 0 21
    let l := s.tile.ledger.filter fun (e : Nat × Nat) => !(decide (a ≤ e.1) && decide (e.1 < a + field v 32 21))
    { s with tile := { s.tile with ledger := l, ledgerCmds := s.tile.ledgerCmds.drop 1 } }

/-! Checks of a commit (R283, R289, R292, R295, R299, R303) -/

/-- A rule of area 28 that the values in force break. -/
def State.corrBad (s : State) : Bool :=
  let p := s.perPixel
  let prims := (List.range p).map (slotPrimary (s.par P.LAMP_LAYOUT))
  p == 0 || decide (4 < p) || decide (1048576 < s.lampCount) || !decide prims.Nodup

/-- The loaded expansion table breaks R289. -/
def State.expansionBad (s : State) : Bool :=
  s.par P.TILE_FORMAT / 16 == 1 &&
    (let x (i : Nat) : Nat := s.blobNat P.EXPANSION_LUT 0 (4 * i) 4
     x 0 != 0 || (List.range 4096).any (fun i => decide (16777216 ≤ x i)) ||
       (List.range 4095).any (fun i => decide (x (i + 1) < x i)))

/-- A low-grey curve breaks R292. -/
def State.lowgreyBad (s : State) : Bool :=
  let p (c i : Nat) : Nat := s.blobNat P.LOWGREY_CURVES 0 (4 * (257 * c + i)) 4
  (List.range 16).any fun c =>
    (List.range 257).any (fun i => decide (262140 < p c i)) || (List.range 256).any fun i => decide (p c (i + 1) < p c i)

/-- The primaries break R299. -/
def State.primariesBad (s : State) : Bool :=
  let tr := signed 16 (s.par P.T_REF)
  decide (det64 (fun i j => s.primaryCol j i tr) = 0) ||
    (List.range 4).any fun j => (List.range 30).any fun m => s.blobNat P.PRIMARY_XYZ j (12 * m + 4) 4 == 0

/-- A wear curve has a point of 0 (R303). -/
def State.wearCurveBad (s : State) : Bool :=
  (List.range 4).any fun j => (List.range 33).any fun i => s.blobNat P.WEAR_CURVE j (2 * i) 2 == 0

end Sys2Proof.Machine
end

