-- ==== Sys2Proof/Machine/DriveGrid.lean ====
section
/-! DEFINITION. The refresh grid of the lamp ports: quads, phases, row slots, planes, the checks of a commit, and the
values derived from them (R309–R322, R195, R353, R355, R360). -/

namespace Sys2Proof.Machine

/-! Configuration of quads and ports (R328–R330) -/

def State.qMode (s : State) (q : Nat) : Nat := field (s.par P.QUAD_CONFIG q) 0 2
def State.qRows (s : State) (q : Nat) : Nat := field (s.par P.QUAD_CONFIG q) 8 8
def State.qDiv (s : State) (q : Nat) : Nat := field (s.par P.QUAD_CONFIG q) 16 8
def State.qBits (s : State) (q : Nat) : Nat := field (s.par P.QUAD_CONFIG q) 24 5
def State.portOn (s : State) (p : Nat) : Bool := bit (s.par P.PORT_ENABLE) p
def State.drivers (s : State) (p : Nat) : Nat := field (s.par P.PORT_CONFIG p) 0 7
def State.strands (s : State) (p : Nat) : Nat := field (s.par P.PORT_CONFIG p) 8 3
/-- Enabled ports of a quad. -/
def State.qPorts (s : State) (q : Nat) : List Nat := ((List.range 4).map (4 * q + ·)).filter s.portOn
/-- D: the largest DRIVERS of the quad's enabled ports (R317). -/
def State.qD (s : State) (q : Nat) : Nat := (s.qPorts q).foldl (fun m p => max m (s.drivers p)) 0
/-- The quad is in G or B mode and has an enabled port (R322). -/
def State.qLive (s : State) (q : Nat) : Bool := (s.qMode q == 1 || s.qMode q == 2) && !(s.qPorts q).isEmpty
/-- M. -/
def State.subframes (s : State) : Nat := s.par P.SUBFRAMES
/-- c = log₂ M. -/
def State.logM (s : State) : Nat := Nat.log2 s.subframes
/-- The program image bound to a quad. -/
def State.qImage (s : State) (q : Nat) : Sealed := s.bank BK.PROG (s.par P.QUAD_PROGRAM q)

/-- `LPn_CK` period in drive cycles: CK_DIV (R310). -/
def State.ckCycles (s : State) (q : Nat) : Nat := s.qDiv q
/-- `LPn_CK` period in ns. -/
def State.ckNs (s : State) (q : Nat) : Nat := 4 * s.qDiv q

/-- T_row in ns at a rate code (R313). -/
def State.rowNs (s : State) (code q : Nat) : ℚ := periodQ code / s.subframes / s.qRows q

/-! Phases (R314, R315) -/

/-- PO_j of a port's primary; 0 for a port marked mixed. -/
def State.primaryPhase (s : State) (p : Nat) : Nat :=
  let j := field (s.par P.PORT_CONFIG p) 12 3
  if j < 4 then s.par P.PHASE_PRIMARY j else 0

def State.portPhase (s : State) (p : Nat) : Nat := field (s.par P.PORT_CONFIG p) 16 5

/-- (PH_p + PO_j) mod N. -/
def State.phaseStep (s : State) (p : Nat) : Nat := (s.portPhase p + s.primaryPhase p) % s.par P.PHASE_COUNT

/-- φ_p in drive cycles of 4 ns. -/
def State.phaseCycles (s : State) (code p : Nat) : Nat :=
  ⌊s.phaseStep p * s.rowNs code (p / 4) / s.par P.PHASE_COUNT / 4⌋.toNat

/-- The enabled port of a quad with the smallest φ (R338). -/
def State.refPort (s : State) (code q : Nat) : Nat :=
  match s.qPorts q with
  | [] => 4 * q
  | p :: l => l.foldl (fun r x => if s.phaseCycles code x < s.phaseCycles code r then x else r) p

/-! G and B mode (R316–R319) -/

/-- h of the quad's image, in CK periods: H_FRAME in G mode, H_PLANE in B mode (R342). -/
def State.qOverhead (s : State) (q : Nat) : Nat := if s.qMode q = 1 then (s.qImage q).hFrame else (s.qImage q).hPlane

/-- G_row / f_GK in ns (R316). -/
def State.gRowNs (s : State) (q : Nat) : ℚ := (2 : ℚ) ^ s.qBits q / s.subframes * 1000000 / s.par P.GK_FREQ q

/-- t_sh in ns (R319). -/
def State.planeNs (s : State) (q : Nat) : Nat := (16 * s.qD q + (s.qImage q).hPlane) * s.ckNs q

/-- The planes of a row slot with `low` low planes at t_L, in ns (R319). -/
def State.planesNs (s : State) (q tl low : Nat) : Nat :=
  let c := s.logM
  let t := s.planeNs q
  ((List.range (s.qBits q - c)).map fun i => max (2 ^ i * tl) t + 2 * s.ckNs q).sum + low * (max tl t + 2 * s.ckNs q)

/-- Left side of the slot inequality in ns (R316, R319). -/
def State.slotNs (s : State) (q tl : Nat) : ℚ :=
  (if s.qMode q = 1 then s.gRowNs q else (s.planesNs q tl s.logM : ℚ)) + s.par P.BLANK_TIME

/-- T_fs in ns (R317, R319). -/
def State.frameShiftNs (s : State) (q : Nat) : Nat :=
  if s.qMode q = 1 then (256 * s.qRows q * s.qD q + (s.qImage q).hFrame) * s.ckNs q else s.planeNs q

/-- Low planes of subframe `m`, ascending (R318). -/
def State.lowPlanes (s : State) (m : Nat) : List Nat :=
  (List.range s.logM).filter fun j => m % 2 ^ (s.logM - j) == 2 ^ (s.logM - j) - 1

/-- The plane schedule of a frame: subframe, row and bit (R318). -/
def State.planeList (s : State) (q : Nat) : List (Nat × Nat × Nat) :=
  let c := s.logM
  let high := ((List.range (s.qBits q - c)).map (c + ·)).reverse
  (List.range s.subframes).flatMap fun m => (List.range (s.qRows q)).flatMap fun r =>
    (high ++ s.lowPlanes m).map fun j => (m, r, j)

/-! Checks (R322) -/

/-- M × tick rate exceeds 30,720 Hz. -/
def State.refreshBad (s : State) (code : Nat) : Bool :=
  decide (30720 * (ratePeriod code).1 < s.subframes * (ratePeriod code).2)

/-- A live quad fails the slot, frame-start shift or stagger check at a rate. -/
def State.quadBad (s : State) (code q : Nat) : Bool :=
  s.qLive q &&
    (s.refreshBad code ||
     decide (s.rowNs code q < s.slotNs q (s.par P.B_LSB q)) || (s.qMode q == 2 && decide (s.qBits q < s.logM)) ||
     decide (max (s.par P.DISPLAY_DELAY) 40000 < s.frameShiftNs q + 20000) ||
     (decide (1 < s.qRows q) && (s.qPorts q).any fun p => s.phaseStep p != s.phaseStep ((s.qPorts q).headD 0)))

/-- A phase is not below N (R322, R330). -/
def State.phaseBad (s : State) : Bool :=
  let n := s.par P.PHASE_COUNT
  (List.range 32).any (fun p => decide (n ≤ s.portPhase p)) || (List.range 4).any fun j => decide (n ≤ s.par P.PHASE_PRIMARY j)

/-- Parts of a slot address (R311): port, row, strand, driver, channel. -/
def slotParts (a : Nat) : Nat × Nat × Nat × Nat × Nat := (a / 131072, a / 4096 % 32, a / 1024 % 4, a / 16 % 64, a % 16)

def slotAddr (p r st d c : Nat) : Nat := (((p * 32 + r) * 4 + st) * 64 + d) * 16 + c

/-- The bound map uses a slot that the configuration does not have. -/
def State.mapBad (s : State) : Bool :=
  (s.bank BK.MAP (s.par P.MAP_BANK)).used.any fun u =>
    let (p, r, st, d, _) := slotParts u.1
    !s.portOn p || s.qMode (p / 4) == 0 || decide (s.qRows (p / 4) ≤ r) || decide (s.strands p ≤ st) || decide (s.drivers p ≤ d)

/-- An I2C-compatible bus (R323). -/
def State.busI2c (s : State) (b : Nat) : Bool := decide (1 ≤ s.par P.DB_MODE b) && decide (s.par P.DB_MODE b ≤ 3)

def State.sensorOn (s : State) (i : Nat) : Bool := bit (s.par P.SENSOR_SOURCE i) 31
def State.sensorBus (s : State) (i : Nat) : Nat := field (s.par P.SENSOR_SOURCE i) 24 3

def State.sensorsBad (s : State) : Bool :=
  (List.range 16).any (fun i => s.sensorOn i && !s.busI2c (s.sensorBus i)) ||
    decide (s.par P.SENSOR_STALE ≤ s.par P.SENSOR_PERIOD)

/-- A live quad's program is not sealed or does not suit its mode (R344). -/
def State.programBad (s : State) : Bool :=
  (List.range 8).any fun q =>
    s.qMode q != 0 &&
      (s.par P.QUAD_PROGRAM q == 0xFF || !s.bankSealed BK.PROG (s.par P.QUAD_PROGRAM q) ||
       ((s.qImage q).byte 6 != 0 && (s.qImage q).byte 6 != s.qMode q))

/-- A health source names an unfit bus or address, or takes too much bus time (R353, R355). -/
def State.healthBad (s : State) : Bool :=
  (List.range 8).any fun q =>
    bit (s.par P.HEALTH_SOURCE q) 31 &&
      (!s.busI2c q || decide (127 < field (s.par P.HEALTH_SOURCE q) 16 7 + 15) ||
       (let bits := ((s.qPorts q).map fun p => s.strands p * (9 * (3 + 4 * s.drivers p) + 2)).sum
        let khz := match s.par P.DB_MODE q with | 1 => 100 | 2 => 400 | _ => 1000
        decide (s.par P.HEALTH_PERIOD * khz < 2 * bits)))

/-- A check of R322, R344, R353 or R355 fails at the rate in force. -/
def State.driveBad (s : State) : Bool :=
  s.refreshBad s.rate || s.phaseBad || (List.range 8).any (s.quadBad s.rate) || s.mapBad || s.sensorsBad ||
    s.programBad || s.healthBad

/-! Listen window (R195) -/

/-- Insert a span into a list sorted by its start. -/
def insertSpan (x : ℚ × ℚ) : List (ℚ × ℚ) → List (ℚ × ℚ)
  | [] => [x]
  | y :: l => if x.1 ≤ y.1 then x :: y :: l else y :: insertSpan x l

/-- The longest interval of one period, taken circularly, that no span covers. -/
def longestGap (spans : List (ℚ × ℚ)) (period : ℚ) : ℚ :=
  let cut := spans.flatMap fun x =>
    let k := (⌊x.1 / period⌋ : ℚ) * period
    let a := x.1 - k
    let b := x.2 - k
    if b ≤ period then [(a, b)] else [(a, period), (0, b - period)]
  match cut.foldl (fun l x => insertSpan x l) [] with
  | [] => period
  | x :: l =>
    let r := l.foldl (fun (acc : ℚ × ℚ) y => (max acc.1 (y.1 - acc.2), max acc.2 y.2)) (0, x.2)
    max r.1 (x.1 + period - r.2)

/-- Spans of edges of one row slot from the end of its blanking: `LPn_GK` runs in G mode; `LPn_OE` rises and falls with
each plane in B mode. -/
def State.slotEdges (s : State) (q m : Nat) : List (ℚ × ℚ) :=
  if s.qMode q = 1 then [(0, s.gRowNs q)]
  else
    let c := s.logM
    let tl := s.par P.B_LSB q
    let shown := ((List.range (s.qBits q - c)).reverse.map fun i => 2 ^ i * tl) ++ (s.lowPlanes m).map fun _ => tl
    (shown.foldl (fun (acc : Nat × List (ℚ × ℚ)) w =>
      (acc.1 + max w (s.planeNs q) + 2 * s.ckNs q,
        ((acc.1 : ℚ), (acc.1 : ℚ)) :: ((acc.1 + w : Nat), ((acc.1 + w : Nat) : ℚ)) :: acc.2)) (0, [])).2

/-- Q, the longest quiet interval of the refresh timing over a whole tick, in ns. -/
def State.quietNs (s : State) (code : Nat) : ℚ :=
  let t := periodQ code
  let tsub := t / s.subframes
  let spans := ((List.range 8).filter s.qLive).flatMap fun q => (s.qPorts q).flatMap fun p =>
    let phi : ℚ := 4 * s.phaseCycles code p
    (List.range s.subframes).flatMap fun (m : Nat) => (List.range (s.qRows q)).flatMap fun (r : Nat) =>
      let a : ℚ := phi + m * tsub + r * s.rowNs code q
      (if 1 < s.qRows q then [(a, a)] else []) ++
        (s.slotEdges q m).map fun e => (a + s.par P.BLANK_TIME + e.1, a + s.par P.BLANK_TIME + e.2)
  if spans.isEmpty then 0 else longestGap spans t

/-- W_L in ns: 4 µs, or Q + 1 µs, rounded up (R195). -/
def State.listenNs (s : State) (code : Nat) : Nat := max 4000 (⌈s.quietNs code⌉.toNat + 1000)

/-! Derived parameters (R195, R319, R320, R328, R360) -/

/-- The largest t_L / 4 below 2^b more than `r` that fits. -/
def State.lsbSearch (s : State) (code q : Nat) : Nat → Nat → Nat
  | 0, r => r
  | b + 1, r => State.lsbSearch s code q b
      (if s.slotNs q (4 * (r + 2 ^ b)) ≤ s.rowNs code q ∧ 4 * (r + 2 ^ b) ≤ 65532 then r + 2 ^ b else r)

def State.lsbMax (s : State) (code q : Nat) : Nat :=
  if s.qMode q = 2 ∧ s.qLive q = true ∧ s.logM ≤ s.qBits q then 4 * s.lsbSearch code q 14 0 else 0

/-- I of R360; 0 when no probe is offered. -/
def State.probeInterval (s : State) (code q : Nat) : Nat :=
  if !s.qLive q || s.par P.PROBE_BUDGET = 0 || (s.qImage q).probeShifts = 0 then 0
  else
    let pmax : ℚ := (s.par P.PROBE_BUDGET : ℚ) / 1000000 * (16 * s.qD q : Nat) /
      ((s.par P.PROBE_WINDOW : ℚ) * s.par P.T_OD / 1000000000 * s.par P.PROBE_DIM / 256)
    let slots : ℚ := (s.qRows q * s.subframes * (ratePeriod code).2 : Nat) / ((ratePeriod code).1 : ℚ)
    max 1 ⌈slots / pmax⌉.toNat

/-- The values a commit of area 29 or a change of rate leaves to be read. -/
def State.driveDerive (s : State) : State :=
  let code := s.rate
  let s := s.each (List.range 8) fun s q =>
    let s := s.setPar P.B_LSB_MAX q (s.lsbMax code q)
    let s := s.setPar P.FRAME_SHIFT q (if s.qLive q then s.frameShiftNs q else 0)
    let s := s.setPar P.PROBE_INTERVAL q (min (s.probeInterval code q) 0xFFFF)
    s.setPar P.ROW_LOAD q (if s.qLive q then
      min ⌊s.slotNs q (s.par P.B_LSB q) * 10000 / s.rowNs code q + 1 / 2⌋.toNat 0xFFFF else 0)
  s.setPar P.LISTEN_WINDOW 0 (s.listenNs code)

/-- At a change of the received rate the checks are made again: the quads that fail are reported, and held dark from the first
frame at that rate (R322). -/
def State.rateRecheck (s : State) : State :=
  if !s.isTile then s
  else
    let bad := (List.range 8).filter (s.quadBad s.rate)
    let new := bad.filter fun q => !s.tile.unfit.contains q
    (({ s with tile := { s.tile with unfitDue := some (s.time.tick, bad) } }).each new fun s q =>
      s.raise E.DRIVE_RATE_UNFIT q).driveDerive

/-- At the display tick of the first frame at the new rate the quads that fail go dark, and the others may light (R322). -/
def State.unfitFrom (s : State) (k : Nat) : State :=
  match s.tile.unfitDue with
  | some (n, bad) => if n ≤ k ∧ k < s.time.tick then { s with tile := { s.tile with unfit := bad, unfitDue := none } } else s
  | none => s

end Sys2Proof.Machine
end

