-- ==== Sys2Proof/Machine/EventLog.lean ====
section
/-! DEFINITION. The event service: records, merging, the log and its head, the manager queue, `IRQ_N` and `FAULT_N`
(R509–R516). -/

namespace Sys2Proof.Machine

/-- Row of the range table of R517 an event number lies in. -/
def evRange (ev : Nat) : Nat :=
  if ev < 40 then 0 else if ev < 80 then 1 else if ev < 160 then 2 else if ev < 200 then 3 else if ev < 240 then 4
  else if ev < 320 then 5 else if ev < 360 then 6 else if ev < 400 then 7 else if ev < 480 then 8
  else if ev < 520 then 9 else if ev < 560 then 10 else if ev < 600 then 11 else 12

/-- The 32 bytes of a record (R509). -/
def EvRec.bytes (r : EvRec) : List Byte :=
  leBytes 4 r.seq ++ leBytes 10 (time80 r.body.time) ++ leBytes 6 r.body.tick ++
  leBytes 2 (r.body.sev * 16384 + r.body.ev) ++ leBytes 1 (r.body.region * 32 + r.body.cluster) ++ leBytes 1 r.repeats ++
  leBytes 2 r.body.index ++ leBytes 6 r.body.detail

/-- DRAM takes log records: usable, not in safe hold, not tripped (R512). -/
def State.logDram (s : State) : Bool := s.rdy B.DRAM && !s.start.safeHold && !s.start.tripped

/-- A record still held, by its SEQ: in the log head or in the ring (R512). -/
def State.recOf (s : State) (seq : Nat) : Option EvRec :=
  match SMap.get none s.ev.head (seq % 128) with
  | some r => if r.seq = seq then some r else (SMap.get none s.ev.log (seq % 4096)).filter (fun (r : EvRec) => r.seq == seq)
  | none => (SMap.get none s.ev.log (seq % 4096)).filter (fun (r : EvRec) => r.seq == seq)

/-- Store a record under its SEQ: always in the log head, and in the ring while DRAM takes it (R512). -/
def State.storeRec (s : State) (r : EvRec) : State :=
  let s := { s with ev := { s.ev with head := SMap.set none s.ev.head (r.seq % 128) (some r) } }
  if s.logDram then
    { s with ev := { s.ev with log := SMap.set none s.ev.log (r.seq % 4096) (some r), ringTo := max s.ev.ringTo (r.seq + 1) } }
  else s

/-- A record that the log holds is amended wherever it still stands: in the log head, and in the ring while DRAM takes it (R510, R512). -/
def State.amendRec (s : State) (r : EvRec) : State :=
  let held (o : Option EvRec) : Bool := match o with | some x => x.seq == r.seq | none => false
  let s := if held (SMap.get none s.ev.head (r.seq % 128)) then
      { s with ev := { s.ev with head := SMap.set none s.ev.head (r.seq % 128) (some r) } } else s
  if s.logDram && held (SMap.get none s.ev.log (r.seq % 4096)) then
    { s with ev := { s.ev with log := SMap.set none s.ev.log (r.seq % 4096) (some r) } }
  else s

/-- The service has written in this cycle of the Control region (R511). -/
def State.wroteNow (s : State) : Bool := s.ev.cycle == s.controlNow + 1

/-- The service writes in this cycle of the Control region. -/
def State.noteWrite (s : State) : State :=
  if s.wroteNow then s
  else { s with ev := { s.ev with cycle := s.controlNow + 1, cycleSeq := s.par P.LOG_SEQ, cycleBits := 0 } }

/-- Take a record into the manager queue of 256; when it is full the oldest info record makes room, and with none the
new record is lost (R514). -/
def State.queueRec (s : State) (r : EvRec) : State :=
  if r.body.sev < s.par P.DELIVER_MIN ∨ r.body.ev = E.DELIVERY_LOST then s
  else if s.ev.queue.length < 256 then { s with ev := { s.ev with queue := s.ev.queue ++ [r] } }
  else
    let q := match s.ev.queue.find? (fun (x : EvRec) => x.body.sev == 0) with
      | some x => s.ev.queue.erase x ++ [r]
      | none => s.ev.queue
    let s := { s with ev := { s.ev with queue := q, lost := s.ev.lost + 1 } }
    s.raiseLimited E.DELIVERY_LOST 0xFFFF sec

/-- The record sets its range's pending bit and, when the latch is empty and it is fault or critical, the fault latch
(R515, R516). -/
def State.pinsRec (s : State) (r : EvRec) : State :=
  let m := s.par P.IRQ_MASK
  let s := if field m 30 2 ≤ r.body.sev ∧ bit m (evRange r.body.ev) then
      ({ s with ev := { s.ev with cycleBits := setBit s.ev.cycleBits (evRange r.body.ev) true } }).setPar P.IRQ_PENDING 0
        (setBit (s.par P.IRQ_PENDING) (evRange r.body.ev) true) else s
  if r.body.sev ≥ 2 ∧ s.par P.FAULT_LATCH = 0xFFFFFFFF then s.setPar P.FAULT_LATCH 0 r.seq else s

/-- The service writes one raise: merged into the last record of the same event and index that is less than 1 s old and
repeats below 255, else as a new record (R510). -/
def State.writeRaise (s : State) (r : Raise) : State :=
  let s := s.noteWrite
  let key := r.ev * 65536 + r.index
  let old : Option EvRec := match SMap.get none s.ev.lastOf key with
    | some q => (s.recOf q).filter (fun (x : EvRec) => x.body.ev == r.ev && x.body.index == r.index &&
        r.time < x.body.time + 1000000000 && x.repeats < 255)
    | none => none
  match old with
  | some x =>
    let y := { x with repeats := x.repeats + 1 }
    let s := s.amendRec y
    { s with ev := { s.ev with queue := s.ev.queue.map fun (q : EvRec) => if q.seq = x.seq then y else q } }
  | none =>
    let x : EvRec := { seq := s.par P.LOG_SEQ, repeats := 0, body := r }
    let s := (s.bump P.LOG_SEQ).count 6
    let s := { s with ev := { s.ev with lastOf := SMap.set none s.ev.lastOf key (some x.seq) } }
    ((s.storeRec x).queueRec x).pinsRec x

/-- EVENT_SERVICE_WRITE: the oldest raise of one region's collector is written, one in a cycle of the Control region (R511). -/
def execEventServiceWrite (r : Region) (s : State) : Res :=
  .next <|
  if !s.start.lowWater || !SMap.get false s.start.released Region.control.num || s.wroteNow then s
  else match SMap.get [] s.ev.collectors r.num with
    | [] => s
    | x :: q => ({ s with ev := { s.ev with collectors := SMap.set [] s.ev.collectors r.num q } }).writeRaise x

/-- The events held since before the Control region ran are written in the order raised (R67). -/
def State.writeHeld (s : State) : State :=
  let h := s.ev.held
  h.foldl State.writeRaise { s with ev := { s.ev with held := [] } }

/-- DRAM is usable again: the records of the log head that the ring lacks are copied in SEQ order; EV 26 only when DRAM
had been usable since the last L0 reset and was lost (R512). -/
def State.logRecover (s : State) : State :=
  let from_ := max s.ev.ringTo (s.par P.LOG_SEQ - 128)
  let s := s.each (List.range (s.par P.LOG_SEQ - from_)) fun s i =>
    match SMap.get none s.ev.head ((from_ + i) % 128) with
    | some r => if r.seq = from_ + i then
        { s with ev := { s.ev with log := SMap.set none s.ev.log (r.seq % 4096) (some r), ringTo := r.seq + 1 } } else s
    | none => s
  let back := s.ev.dramWas && s.ev.dramLost
  let s := { s with ev := { s.ev with dramWas := true, dramLost := false } }
  s.raiseIf back E.LOG_RECOVERED

/-- DRAM becomes unusable (R512). -/
def State.logDramLost (s : State) : State := { s with ev := { s.ev with dramLost := s.ev.dramLost || s.ev.dramWas } }

/-- The bytes of `#05.0002 EVENT_LOG`: the record with SEQ s at byte 32 × (s mod 4,096) (R512). -/
def State.logByte (s : State) (off : Nat) : Byte :=
  match SMap.get none s.ev.log (off / 32) with
  | some r => r.bytes.getD (off % 32) 0
  | none => 0

/-- A record counts as above `v` in a clear of the fault latch: a later SEQ, or written in this very cycle (R515). -/
def State.above (s : State) (v : Nat) (r : EvRec) : Bool := decide (v < r.seq) || (s.wroteNow && decide (s.ev.cycleSeq ≤ r.seq))

/-- A write of `v` to `#05.0006 FAULT_CLEAR`, below LOG_SEQ: the latch clears and points at the oldest fault or critical
record above `v`, if one exists (R515). -/
def State.faultClear (s : State) (v : Nat) : State :=
  let recs := (s.ev.log ++ s.ev.head).filterMap (·.2)
  let above := (recs.filter fun (r : EvRec) => decide (2 ≤ r.body.sev) && s.above v r).map (·.seq)
  let s := s.setPar P.FAULT_LATCH 0 (above.foldl min 0xFFFFFFFF)
  s.raise E.FAULT_CLEARED

/-- A write of 1 bits to `#05.0004 IRQ_PENDING` clears them, but for those a record has set in this very cycle (R516). -/
def State.irqClear (s : State) (v : Nat) : State :=
  s.setPar P.IRQ_PENDING 0 ((List.range 13).foldl (fun m i =>
    if bit v i && !(s.wroteNow && bit s.ev.cycleBits i) then setBit m i false else m) (s.par P.IRQ_PENDING))

/-- `IRQ_N` is asserted while any pending bit is set and Control runs (R516). -/
def State.irqAsserted (s : State) : Bool :=
  SMap.get false s.start.released 0 && s.par P.IRQ_PENDING != 0

/-- `FAULT_N` is asserted while the latch names a record, in safe hold and at thermal trip (R515). -/
def State.faultAsserted (s : State) : Bool :=
  (SMap.get false s.start.released 0 && s.par P.FAULT_LATCH != 0xFFFFFFFF) || s.start.safeHold || s.start.tripped

/-- `#05.0021 DELIVER_STATE` (R522). -/
def State.deliverState (s : State) : List Byte :=
  leBytes 2 s.ev.queue.length ++ leBytes 4 s.ev.lost ++ leBytes 4 s.ev.lastAck ++ leBytes 6 0

/-- EVENT_ACK: the manager's response to an EVENT message, by the SEQ it echoes: its records leave the queue.  In the cycle that ends
the 500 ms it is late, and the records are sent again (R27, R514). -/
def execEventAck (seq : Nat) (s : State) : Res :=
  .next <|
  match s.ev.sent.find? (fun (m : EvMsg) => m.seq == seq) with
  | none => s
  | some m =>
    if m.sentAt + controlSec / 2 ≤ s.controlNow then s
    else
    { s with ev := { s.ev with
      sent := s.ev.sent.filter (fun (x : EvMsg) => x.seq != seq)
      queue := s.ev.queue.filter (fun (r : EvRec) => !m.recs.contains r.seq)
      lastAck := seq } }

end Sys2Proof.Machine
end

