-- ==== Sys2Proof/Machine/Fixture.lean ====
section
/-! DEFINITION. Fixture outputs of a head: sampling, sACN and DMX512-A emission, the RDM subset (chapter 17). -/

namespace Sys2Proof.Machine

/-! Values bound to a frame (R391) -/

/-- The state under the fixture values bound to frame `k`, or in force when the frame has no binding. -/
def State.fixUnder (s : State) (k : Nat) : State :=
  match s.tile.binds.find? fun b => b.frame == k with
  | some b => s.under b
  | none => s

/-! The emission instant (R392) -/

/-- `EMIT_OFFSET` in ns. -/
def State.emitOffset (s : State) : Int := signed 32 (s.par P.EMIT_OFFSET)

/-- X(k) in nanoseconds, under the values in force. -/
def State.emitAt (s : State) (k : Nat) : Int := (tickNs s.rate (k + 2) : Nat) + s.emitOffset

/-- S(k) − tick k+1 in ns, exact. -/
def State.sampleWindow (s : State) : ℚ :=
  let t := periodQ s.rate
  min (t + s.emitOffset - s.par P.SACN_LEAD - 100000) t

/-- `EMIT_OFFSET` outside −T/2 to below T, or `SACN_LEAD` above T/2, at the rate in force (R392, R405). -/
def State.emitBad (s : State) : Bool :=
  let t := periodQ s.rate
  decide ((s.emitOffset : ℚ) < -(t / 2)) || decide (t ≤ s.emitOffset) || decide (t / 2 < s.par P.SACN_LEAD)

/-- The head emits: FIXTURE is set and the outputs are this head's (R171, R181, R403). -/
def State.fixEmits (s : State) : Bool := s.isHead && s.rdy B.FIXTURE && s.red.fixtures

/-! Records and sampling (R388–R390) -/

/-- A fixture record. -/
structure FixRec where
  x : Nat
  y : Nat
  w : Nat
  h : Nat
  point : Bool
  slots : Nat
  curve : Nat
  univ : Nat
  first : Nat
  sources : Nat
  constant : Nat
  deriving DecidableEq, Repr

/-- Record `f` of a bank, when it is enabled. -/
def Sealed.fixRec (d : Sealed) (f : Nat) : Option FixRec :=
  let o := 32 * f
  let c := d.byte (o + 8)
  if bit c 7 then
    some { x := d.num o 2, y := d.num (o + 2) 2, w := d.num (o + 4) 2, h := d.num (o + 6) 2, point := bit c 6, slots := c % 16 + 1
           curve := d.byte (o + 9) % 64, univ := d.num (o + 10) 2 % 2048, first := d.num (o + 12) 2
           sources := d.num (o + 16) 8, constant := d.byte (o + 24) }
  else none

/-- The enabled records of the bank in force, in ascending index.  An enabled record's CONTROL byte is not 0, so it is listed. -/
def State.fixRecs (s : State) : List FixRec :=
  let d := s.bank BK.FIX (s.par P.FIX_BANK)
  (d.bytes.filter fun (e : Nat × Nat) => e.1 % 32 == 8).filterMap fun (e : Nat × Nat) => d.fixRec (e.1 / 32)

/-- The working value of a canvas code (R389). -/
def State.fixDecode (s : State) (fmt c : Nat) : Nat :=
  if fmt / 16 = 0 then ⌊Config.pqInv ((c : ℚ) / (2 ^ codeBits fmt - 1)) * 10240000 + 1 / 2⌋.toNat
  else s.threshold (match fmt % 16 with | 0 => 4 * c | 1 => c | _ => c / 16)

/-- The mean of a record's pixels, or its one point, per primary. -/
def State.gather (s : State) (fmt : Nat) (c : Canvas) (r : FixRec) : Nat × Nat × Nat :=
  let px : List Nat := if r.point then [c.at_ (r.x + r.w / 2) (r.y + r.h / 2)]
    else (List.range r.h).flatMap fun j => (List.range r.w).map fun i => c.at_ (r.x + i) (r.y + j)
  let n := px.length
  let mean (sh : Nat) : Nat := ((px.map fun p => s.fixDecode fmt (p / 65536 ^ sh % 2 ^ codeBits fmt)).sum + n / 2) / n
  (mean 0, mean 1, mean 2)

/-- Point `i` of a fixture curve. -/
def State.fixPoint (s : State) (c i : Nat) : Nat := s.blobNat P.FIX_CURVES 0 (2 * (257 * c + i)) 2

/-- The curve's value of a working value (R389, steps 4 and 5). -/
def State.fixValue (s : State) (curve v : Nat) : Nat :=
  let f := s.par P.FIX_FULL_SCALE * 1024
  let x := min ((2 * v * 65535 + f) / (2 * f)) 65535
  let p := s.fixPoint curve (x / 256)
  ((p : Int) + rnd 8 (((s.fixPoint curve (x / 256 + 1) : Int) - p) * (x % 256 : Nat))).toNat

/-- The byte of a source code (R388, R389). -/
def State.fixByte (s : State) (r : FixRec) (v : Nat × Nat × Nat) (code : Nat) : Nat :=
  if code = 5 then r.constant
  else
    let y := (rnd 13 (2152 * (v.1 : Int) + 5554 * (v.2.1 : Int) + 486 * (v.2.2 : Int))).toNat
    let w := match code % 8 with
      | 0 => v.1 | 1 => v.2.1 | 2 => v.2.2 | 3 => y | _ => min v.1 (min v.2.1 v.2.2)
    let u := s.fixValue r.curve w
    if code < 8 then u / 256 else u % 256

/-- Slot values of a canvas under the values in force: records in ascending order, later ones prevail (R390). -/
def State.fixSlots (s : State) (fmt : Nat) (c : Canvas) : SMap Nat :=
  s.fixRecs.foldl (fun m r =>
    let v := s.gather fmt c r
    (List.range r.slots).foldl (fun m i =>
      SMap.set 0 m (1024 * r.univ + r.first + i) (s.fixByte r v (field r.sources (4 * i) 4))) m) []

/-- At tick k+1 sampling of canvas `k` starts, once FIXTURE is set (R392, R403); a frame that is not emitted at a change of
rate is not sampled. -/
def State.fixStart (s : State) (k : Nat) : State :=
  if !s.isHead then s
  else if !s.rdy B.FIXTURE then { s with fix := { s.fix with sampling := none, doneAt := none, fresh := none, frames := [] } }
  else if s.scan.skip = k + 1 then s
  else { s with fix := { s.fix with sampling := some k, doneAt := none, fresh := none } }

/-- FIX_SAMPLING_COMPLETE: the sampler finishes canvas `k` (R389, R392). -/
def execFixSamplingComplete (k : Nat) (s : State) : Res :=
  .next <|
  if !s.isHead || s.fix.sampling ≠ some k || s.fix.doneAt.isSome then s
  else
    let fmt := match s.bindingOf k with | some b => b.format | none => s.par P.CANVAS_FORMAT
    { s with fix := { s.fix with doneAt := some s.now
                                 fresh := some { frame := k, slots := (s.fixUnder k).fixSlots fmt (s.canvasOf k) } } }

/-- FIX_SAMPLE_DEADLINE: S(k): sampling that is not complete, or whose canvas was discarded, leaves frame k the slot values
of frame k − 1; only late sampling is reported (R392). -/
def execFixSampleDeadline (k : Nat) (tie : Bool) (s : State) : Res :=
  .next <|
  if !s.isHead || s.fix.sampling ≠ some k then s
  else
    let done := match s.fix.doneAt with | some t => s.onTime tie t | none => false
    let gone := s.scan.missed.contains k
    let old : SMap Nat := match s.fix.frames with | f :: _ => f.slots | [] => []
    let new : Universes := match done && !gone, s.fix.fresh with
      | true, some f => f
      | _, _ => { frame := k, slots := old }
    let s := { s with fix := { s.fix with sampling := none, doneAt := none, fresh := none, frames := (new :: s.fix.frames).take 3 } }
    if !done && !gone then (s.bump P.SAMPLE_LATE_COUNT).raise E.FIX_SAMPLE_LATE else s

/-! Universes (R395) -/

/-- An enabled entry of the universe table. -/
structure Univ where
  entry : Nat
  number : Nat
  path : Nat
  port : Nat
  slots : Nat
  priority : Nat
  synced : Bool
  dest : Nat
  deriving DecidableEq, Repr

/-- Entry `u` of the table. -/
def State.univOf (s : State) (u : Nat) : Univ :=
  let b (o n : Nat) : Nat := s.blobNat P.UNIVERSES 0 (16 * u + o) n
  { entry := u, number := b 0 2, path := b 2 1 % 16, port := b 3 1, slots := b 4 2, priority := b 6 1
    synced := bit (b 7 1) 0, dest := b 8 4 }

/-- The enabled entries in ascending order.  An enabled entry's PATH byte is not 0, so it is listed. -/
def State.univs (s : State) : List Univ :=
  (s.blobs.filter fun (e : Nat × Nat) =>
    e.1 / 268435456 == pkey P.UNIVERSES 0 && e.1 % 268435456 % 16 == 2 && decide (128 ≤ e.2)).map
    fun (e : Nat × Nat) => s.univOf (e.1 % 268435456 / 16)

/-- The entry waits for no emission instant: it is synchronised and there is a synchronisation universe (R397). -/
def State.univEarly (s : State) (u : Univ) : Bool := u.synced && s.par P.SYNC_UNIVERSE != 0

/-- Sequence number of every packet of frame `k` (R396). -/
def State.fixSeq (s : State) (k : Nat) : Nat := tickNs s.rate k / 1000000 % 256

/-! Emission (R397) -/

def TxKind.isDataOf (k : Nat) : TxKind → Bool | .data f _ => f == k | _ => false
def TxKind.isOf (k : Nat) : TxKind → Bool | .data f _ => f == k | .sync f => f == k | _ => false

/-- Data packets of frame `k` of the universes `p` picks are handed to their paths in ascending order. -/
def State.pushData (s : State) (k : Nat) (pick : Univ → Bool) : State :=
  s.each (((s.fixUnder k).univs.filter fun u => decide (u.path ≤ 8)).filter pick) fun s u => s.macPush u.path (.data k u.entry)

/-- Frame `k` has slot values to emit. -/
def State.hasFrame (s : State) (k : Nat) : Bool := s.fix.frames.any fun f => f.frame == k

/-- SACN_DATA_START: at X(k) − SACN_LEAD the data packets of the synchronised universes start (R397). -/
def execSacnDataStart (k : Nat) (s : State) : Res :=
  .next <|
  if !s.fixEmits || !s.hasFrame k || s.fix.started = some k then s
  else { (s.pushData k (s.fixUnder k).univEarly) with fix := { s.fix with started := some k } }

/-- The DMX ports that start a frame at X(k): enabled, with a universe, k a multiple of the divisor, and idle (R400). -/
def State.dmxStart (s : State) (k : Nat) : State :=
  let v := s.fixUnder k
  let slots : SMap Nat := match s.fix.frames.find? fun f => f.frame == k with | some f => f.slots | none => []
  s.each (v.univs.filter fun u => u.path == 9 && bit (s.par P.DMX_ENABLE) u.port) fun s u =>
    let q := s.par P.DMX_DIVISOR u.port
    if q = 0 ∨ k % q ≠ 0 ∨ (SMap.get {} s.fix.dmx u.port).sending.isSome = true then s
    else
      let body : List Byte := 0 :: (List.range u.slots).map fun i => BitVec.ofNat 8 (SMap.get 0 slots (1024 * u.entry + i + 1))
      ({ s with fix := { s.fix with dmx := SMap.upd {} s.fix.dmx u.port fun (d : Dmx) => { d with sending := some k } } }).send
        (.dmx u.port body)

/-- EMISSION_INSTANT: at X(k) the sync packets are queued, with EV 623 when data still waits, held universes are sent, and
DMX breaks start (R397, R400); from X(k) on frame `k` counts as emitted. -/
def execEmissionInstant (k : Nat) (s : State) : Res :=
  .next <|
  if !s.isHead then s
  else
    let s := { s with tile := { s.tile with displayed := max s.tile.displayed (k + 1) } }
    if !s.fixEmits || !s.hasFrame k then s
    else
      let v := s.fixUnder k
      let late := (List.range 9).any fun p => (SMap.get {} s.eth.macs p).queue.any fun f => f.kind.isDataOf k
      let s := if late then s.raiseTick E.SACN_LATE else s
      let s := if s.fix.started = some k then s
        else { (s.pushData k v.univEarly) with fix := { s.fix with started := some k } }
      let s := s.each ((List.range 9).filter fun p => v.univs.any fun u => u.path == p && v.univEarly u) fun s p =>
        s.macPush p (.sync k)
      let s := s.pushData k fun u => !v.univEarly u
      s.dmxStart k

/-- SACN_DROP_DEADLINE: packets of frame `k` still waiting at X(k+1) − SACN_LEAD are dropped and counted (R397). -/
def execSacnDropDeadline (k : Nat) (s : State) : Res :=
  .next <|
  if !s.isHead then s
  else s.each (List.range 9) fun s p =>
    let m := SMap.get {} s.eth.macs p
    let n := (m.queue.filter fun f => f.kind.isOf k).length
    if n = 0 then s
    else
      let front := match m.queue with | f :: _ => f.kind.isOf k | [] => false
      let m' : Mac := { m with queue := m.queue.filter fun f => !f.kind.isOf k
                               attempts := if front then 0 else m.attempts, backoff := if front then none else m.backoff }
      (({ s with eth := { s.eth with macs := SMap.set {} s.eth.macs p m' } }).bumpBy P.EMIT_LATE_COUNT p n).raise
        E.SACN_DROPPED p n

/-- UNIVERSE_DISCOVERY_SEND: every 10 s, on every sACN path that carries a universe (R394). -/
def execUniverseDiscoverySend (s : State) : Res :=
  .next <|
  if !s.fixEmits then s
  else s.each ((List.range 9).filter fun p => s.univs.any fun u => u.path == p) fun s p => s.macPush p .discovery

/-- A commit that disables a universe sends Stream_Terminated for it three times (R394); `old`: the entries before. -/
def State.fixTerminate (s : State) (old : List Univ) : State :=
  if !s.fixEmits then s
  else s.each (old.filter fun u => decide (u.path ≤ 8) && !(s.univs.any fun v => v.number == u.number && v.path == u.path))
    fun s u => ((s.macPush u.path (.terminated u.number)).macPush u.path (.terminated u.number)).macPush u.path (.terminated u.number)

/-! Commits (R391–R393, R395, R398, R400) -/

/-- Sampler cycles of a frame (R393). -/
def State.samplerCycles (s : State) : Nat :=
  (s.fixRecs.map fun r => if r.point then 17 else r.h * ((r.w + 7) / 8) + 16).sum

/-- Wire time in ns of one frame's data on a path (R398). -/
def State.pathNs (s : State) (p : Nat) : Nat :=
  ((s.univs.filter fun u => u.path == p).map fun u => (192 + u.slots) * (if p = 0 then 8 else 800)).sum

/-- The share of `SACN_LEAD` a path may take, in ns. -/
def State.pathLimit (s : State) : ℚ := (s.par P.SACN_LEAD : ℚ) * s.par P.PATH_SHARE / 100

/-- An entry of the universe table is out of its own ranges (R395). -/
def badUniverse (u : Univ) (raw : Nat → Nat) : Bool :=
  u.number == 0 || decide (63999 < u.number) || field (raw 2) 4 3 != 0 || decide (9 < u.path) || decide (15 < u.port) ||
    (u.path != 9 && u.port != 0) || u.slots == 0 || decide (512 < u.slots) || decide (200 < u.priority) ||
    decide (1 < raw 7) || raw 12 + raw 13 + raw 14 + raw 15 != 0

/-- An entry of the table that no setting makes good: a reserved bit or a reserved PATH, or for an enabled one any field out of its
range (R12, R395, R538). -/
def State.universesBad (s : State) : Bool :=
  (s.blobs.filter fun (e : Nat × Nat) => e.1 / 268435456 == pkey P.UNIVERSES 0).any fun (e : Nat × Nat) =>
    let u := e.1 % 268435456 / 16
    let raw (o : Nat) : Nat := s.blobNat P.UNIVERSES 0 (16 * u + o) 1
    field (raw 2) 4 3 != 0 || decide (9 < raw 2 % 16) || decide (1 < raw 7) || raw 12 + raw 13 + raw 14 + raw 15 != 0 ||
      (bit (raw 2) 7 && badUniverse (s.univOf u) raw)

/-- The fixture settings break a rule of R391, R392, R393, R395 or R398. -/
def State.fixBad (s : State) : Bool :=
  let us := s.univs
  let a := s.composedCols
  s.emitBad ||
  us.any (fun u => (us.filter fun v => v.number == u.number && v.path == u.path).length != 1) ||
  s.fixRecs.any (fun r =>
    decide (r.x < a.1) || decide (a.1 + a.2 < r.x + r.w) || decide (s.par P.CANVAS_HEIGHT < r.y + r.h) ||
    !(us.any fun u => u.entry == r.univ && decide (r.first + r.slots - 1 ≤ u.slots))) ||
  decide (s.sampleWindow < (s.samplerCycles : ℚ)) ||
  (List.range 9).any fun p => decide (s.pathLimit < (s.pathNs p : ℚ))

/-- `FIX_LOAD`, `PATH_LOAD` and `DMX_DIVISOR` at each commit (R393, R398, R400). -/
def State.fixLoads (s : State) : State :=
  let pct (a b : ℚ) : Nat := if b ≤ 0 then 0xFFFF else min ⌊a * 10000 / b + 1 / 2⌋.toNat 0xFFFF
  let s := s.setPar P.FIX_LOAD 0 (if s.samplerCycles = 0 then 0 else pct s.samplerCycles s.sampleWindow)
  let s := s.each (List.range 9) fun s p => s.setPar P.PATH_LOAD p (if s.pathNs p = 0 then 0 else pct (s.pathNs p) s.pathLimit)
  s.each (List.range 16) fun s p =>
    match s.univs.find? fun u => u.path == 9 && u.port == p with
    | none => s.setPar P.DMX_DIVISOR p 0
    | some u =>
      if !bit (s.par P.DMX_ENABLE) p then s.setPar P.DMX_DIVISOR p 0
      else
        let t := s.par P.DMX_TIMING p
        let us := field t 16 16 + field t 8 8 + (u.slots + 1) * 44
        s.setPar P.DMX_DIVISOR p ⌈(us : ℚ) * 1000 / periodQ s.rate⌉.toNat

/-! DMX and RDM (R400–R402) -/

def State.dmxOf (s : State) (p : Nat) : Dmx := SMap.get {} s.fix.dmx p
def State.updDmx (s : State) (p : Nat) (f : Dmx → Dmx) : State := { s with fix := { s.fix with dmx := SMap.upd {} s.fix.dmx p f } }

/-- `DMXn_DE` is high: a frame is being sent; a head that stops emitting ends it with the slot in progress (R400, R401). -/
def State.dmxDe (s : State) (p : Nat) : Bool := (s.dmxOf p).sending.isSome

/-- DMX_FRAME_END: the last stop bit, or in a head that has stopped emitting that of the slot in progress, ends and DE falls; a frame
cut short is not counted (R400, R401). -/
def execDmxFrameEnd (p : Fin 16) (s : State) : Res :=
  .next <|
  if (s.dmxOf p).sending.isNone then s
  else
    let s := s.updDmx p fun d => { d with sending := none }
    if s.fixEmits then (s.bump P.DMX_FRAMES p).count 9 else s

/-- `RDM_RESPONSE` shows a result (R404). -/
def State.rdmShow (s : State) (p code : Nat) (data : List Byte) : State :=
  s.setBlob P.RDM_RESPONSE p 0 ([BitVec.ofNat 8 code, 0] ++ leBytes 2 (min data.length 260) ++ bytesAt data 0 260)

/-- The result of the request that was sent appears in `RDM_RESPONSE` (R402, R404). -/
def State.rdmResult (s : State) (p code : Nat) (data : List Byte) : State :=
  (s.rdmShow p code data).updDmx p fun d => { d with awaiting := 0 }

/-- The bytes of an RDM request on the line: start codes, length, message and checksum (R402). -/
def rdmBytes (msg : List Byte) : List Byte :=
  let body : List Byte := [0xCC, 0x01, BitVec.ofNat 8 (msg.length + 3)] ++ msg
  let sum := (body.map (·.toNat)).sum
  body ++ [BitVec.ofNat 8 (sum / 256), BitVec.ofNat 8 sum]

/-- 2.8 ms and 11 ms in cycles. -/
abbrev rdmWait : Nat := 700000
abbrev rdmRoomAfter : Nat := 2750000

/-- The next scheduled break of a port, in ns: the first X(k) not yet past of a frame its divisor lets it send (R400). -/
def State.nextBreak (s : State) (p : Nat) : Option Int :=
  let q := s.par P.DMX_DIVISOR p
  if q = 0 then none
  else (((List.range (q + 4)).map (s.time.tick - 3 + ·)).filter fun k => k % q == 0 && decide ((s.nowNs : Int) ≤ s.emitAt k)).head?.map
    s.emitAt

/-- Time a request takes on the line in ns: break and mark as the port's timing gives, then 44 µs a byte (DEDUCED from R400, log
entry 15: R402 gives requests no timing of their own). -/
def State.rdmNs (s : State) (p : Nat) (msg : List Byte) : Nat :=
  let t := s.par P.DMX_TIMING p
  (field t 16 16 + field t 8 8 + 44 * (rdmBytes msg).length) * 1000

/-- The idle stretch is long enough for a request that has just been sent: 2.8 ms and 11 ms remain before the next scheduled break
(R402). -/
def State.rdmRoom (s : State) (p : Nat) : Bool :=
  match s.nextBreak p with
  | none => true
  | some t => decide ((s.nowNs + 4 * (rdmWait + rdmRoomAfter) : Nat) ≤ t)

/-- RDM_SEND: the oldest queued request is sent in an idle stretch of the port; the command stands for its end, so the stretch has
held the request, and 2.8 ms and 11 ms are left of it (R402). -/
def execRdmSend (p : Fin 16) (s : State) : Res :=
  .next <|
  let d := s.dmxOf p
  match d.requests with
  | [] => s
  | (msg, at_) :: rest =>
    if !s.fixEmits || d.sending.isSome || d.awaiting ≠ 0 || !s.rdmRoom p || decide (4 * (s.now - at_) < s.rdmNs p msg) then s
    else (((s.updDmx p fun d => { d with requests := rest, awaiting := s.now + 1 }).bump P.RDM_COUNT p)).send (.rdm p (rdmBytes msg))

/-- RDM_RESPONSE: a response that started, in cycle `start`, before 2.8 ms had passed is stored; one that starts in the cycle that
ends them has timed out (R27, R402). -/
def execRdmResponse (p : Fin 16) (r : RdmEnd) (data : List Byte) (s : State) (start : Nat := 0) : Res :=
  .next <|
  let d := s.dmxOf p
  if d.awaiting = 0 ∨ d.awaiting + rdmWait ≤ start + 1 then s
  else s.rdmResult p (match r with | .ok => 1 | .checksumBad => 3 | .collision => 4) data

/-- RDM_RESPONSE_TIMEOUT: no response started within 2.8 ms of the request's end (R402). -/
def execRdmResponseTimeout (p : Fin 16) (s : State) : Res :=
  .next <|
  if (s.dmxOf p).awaiting = 0 then s else (s.rdmResult p 2 []).raise E.RDM_TIMEOUT p

/-- RDM_REQUEST_EXPIRY: a request not sent within 1 s is dropped (R402). -/
def execRdmRequestExpiry (p : Fin 16) (s : State) : Res :=
  .next <|
  if (s.dmxOf p).requests.isEmpty then s
  else ((s.rdmShow p 5 []).updDmx p fun d => { d with requests := d.requests.drop 1 }).raise E.RDM_DROPPED p

/-! Retrieving time stamps (R203, R399) -/

/-- The frame a T1S sync stamp belongs to: the newest with its sequence number. -/
def State.syncFrame (s : State) (seq : Nat) : Option Nat :=
  (s.tile.binds.map (·.frame)).find? fun k => s.fixSeq k == seq

/-- TSQ_RETRIEVE: the firmware takes the oldest entry: a PTP stamp, or a sync stamp judged against X(k) + EMIT_TOLERANCE; one
that is 2 ms old has expired (R203, R399). -/
def execTsqRetrieve (s : State) : Res :=
  .next <|
  match s.time.tsq with
  | [] => s
  | e :: q =>
    if e.at_ + 2 * ms ≤ s.now then s.tsqExpire
    else
      let s := { s with time := { s.time with tsq := q } }
      if e.port = 0 then s.ptpStamp e
      else match s.syncFrame (e.tag % 256) with
        | none => s
        | some k =>
          let v := s.fixUnder k
          if v.emitAt k + v.par P.EMIT_TOLERANCE < e.time then s.raiseLimited E.T1S_EMIT_LATE (e.port - 1) sec else s

/-! What a packet carries (R396, R397) -/

/-- Body of a data packet: universe, sequence number, synchronisation address, priority, destination, then the slots. -/
def State.dataBody (s : State) (k entry : Nat) : List Nat :=
  let v := s.fixUnder k
  let u := v.univOf entry
  let slots : SMap Nat := match s.fix.frames.find? fun f => f.frame == k with | some f => f.slots | none => []
  [u.number, s.fixSeq k, if u.synced then v.par P.SYNC_UNIVERSE else 0, u.priority, u.dest, 0] ++
    (List.range u.slots).map fun i => SMap.get 0 slots (1024 * entry + i + 1)

end Sys2Proof.Machine
end

