-- ==== Sys2Proof/Machine/Lms.lean ====
section
/-! DEFINITION. Verification of HSS signatures of two LMS levels, LMS_SHA256_M32_H10 with LMOTS_SHA256_N32_W8, which R466, R467 and
R485 name (PRESUMED as RFC 8554 defines them, log entry 4).  R466's sizes, 60 bytes for a key and 2,964 for a signature, are those of
this layout. -/

namespace Sys2Proof.Machine

/-- `n` steps of the hash chain of digit `i`, from step `j` on. -/
def lmotsChain (pre : List Byte) (i : Nat) : Nat → Nat → List Byte → List Byte
  | 0, _, x => x
  | n + 1, j, x => lmotsChain pre i n (j + 1) (sha256 (pre ++ beBytes 2 i ++ beBytes 1 j ++ x))

/-- The one-time public key that a one-time signature over `m` leads to; `pre` is the key's identifier and the leaf's number. -/
def lmotsKey (pre sig m : List Byte) : List Byte :=
  let d := sha256 (pre ++ beBytes 2 0x8181 ++ bytesAt sig 4 32 ++ m)
  let digits := d ++ beBytes 2 (d.foldl (fun n b => n + (255 - b.toNat)) 0)
  sha256 (pre ++ beBytes 2 0x8080 ++ (List.range 34).flatMap fun i =>
    let a := (digits.getD i 0).toNat
    lmotsChain pre i (255 - a) a (bytesAt sig (36 + 32 * i) 32))

/-- The root of a tree from node `n`, whose value is `x`, up along a path. -/
def lmsClimb (ident : List Byte) : List (List Byte) → Nat → List Byte → List Byte
  | [], _, x => x
  | p :: l, n, x =>
    lmsClimb ident l (n / 2) (sha256 (ident ++ beBytes 4 (n / 2) ++ beBytes 2 0x8383 ++ (if n % 2 = 1 then p ++ x else x ++ p)))

/-- An LMS signature of 1,452 bytes over `m` verifies under a public key of 56. -/
def lmsVerify (pub m sig : List Byte) : Bool :=
  let ident := bytesAt pub 8 16
  let q := beNat (bytesAt sig 0 4)
  let pre := ident ++ beBytes 4 q
  let leaf := sha256 (ident ++ beBytes 4 (1024 + q) ++ beBytes 2 0x8282 ++ lmotsKey pre (bytesAt sig 4 1124) m)
  let path := (List.range 10).map fun i => bytesAt sig (1132 + 32 * i) 32
  pub.length == 56 && sig.length == 1452 && beNat (bytesAt pub 0 4) == 6 && beNat (bytesAt pub 4 4) == 4 && decide (q < 1024) &&
    beNat (bytesAt sig 4 4) == 4 && beNat (bytesAt sig 1128 4) == 6 && lmsClimb ident path (1024 + q) leaf == bytesAt pub 24 32

/-- An HSS signature of 2,964 bytes over `m` verifies under a public key of 60: the upper tree signs the lower tree's public key. -/
def hssVerify (key m sig : List Byte) : Bool :=
  let lower := bytesAt sig 1456 56
  key.length == 60 && sig.length == 2964 && beNat (bytesAt key 0 4) == 2 && beNat (bytesAt sig 0 4) == 1 &&
    lmsVerify (bytesAt key 4 56) lower (bytesAt sig 4 1452) && lmsVerify lower m (bytesAt sig 1512 1452)

end Sys2Proof.Machine
end

