-- ==== Sys2Proof/Machine/Dram.lean ====
section
/-! DEFINITION. The stacked DRAM's controller and the cistern scrubber: requests, arbitration, refresh, the row-disturbance
tracker, ECC, training and standby (chapter 19). -/

namespace Sys2Proof.Machine

/-! Geometry (R424) -/

/-- Channel, bank within the channel (4 × group + bank, log entry 18), row and burst of an address. -/
def dramChan (a : Nat) : Nat := field a 6 4
def dramBank (a : Nat) : Nat := 4 * field a 10 2 + field a 17 2
def dramRow (a : Nat) : Nat := a / 524288
def burstOf (a : Nat) : Nat := a / 64

def State.dChan (s : State) (c : Nat) : DramChan := SMap.get {} s.dram.chans c
def State.updDram (s : State) (c : Nat) (f : DramChan → DramChan) : State :=
  { s with dram := { s.dram with chans := SMap.upd {} s.dram.chans c f } }
def State.dBank (s : State) (c b : Nat) : DramBank := SMap.get {} s.dram.banks (16 * c + b)
def State.updBank (s : State) (c b : Nat) (f : DramBank → DramBank) : State :=
  { s with dram := { s.dram with banks := SMap.upd {} s.dram.banks (16 * c + b) f } }

/-- The controller serves requests: `#30.0001` reads ready or standby. -/
def State.dramRuns (s : State) : Bool := s.par P.DRAM_STATE == 2 || s.par P.DRAM_STATE == 4

/-- Entries of a bank's queue (R429). -/
abbrev bankDepth : Nat := 16

/-! Requests (R425, R428, R429) -/

/-- Whose order a request keeps: its requester's, and its streamer's for requester 21 (R428). -/
def orderKey (r part : Nat) : Nat := if r = 21 then 32 + part else r

/-- A request is in flight. -/
def State.fly (s : State) (q : DramReq) : State :=
  { s with dram := { s.dram with
    flying := SMap.upd [] s.dram.flying (orderKey q.requester q.part) fun (l : List DramReq) => l ++ [q] } }

/-- A request enters its bank's queue and is in flight. -/
def State.enterBank (s : State) (q : DramReq) : State :=
  (s.updBank (dramChan q.addr) (dramBank q.addr) fun b => { b with queue := b.queue ++ [q] }).fly q

/-- A requester's stalled requests enter in order while their queues have room. -/
def State.unstall (s : State) (r : Nat) : Nat → State
  | 0 => s
  | n + 1 =>
    match SMap.get [] s.dram.stalled r with
    | [] => s
    | q :: l =>
      if bankDepth ≤ (s.dBank (dramChan q.addr) (dramBank q.addr)).queue.length then s
      else
        let s := { s with dram := { s.dram with stalled := SMap.set [] s.dram.stalled r l } }
        (s.enterBank { q with at_ := s.now }).unstall r n

/-- DRAM_REQUEST: a request enters its bank's queue, or stalls behind a full one with all that follow it; one beyond the die is
not issued, and its read comes back poisoned (R425, R429).  A request wakes its channel from standby (R440).  `part` names the
streamer of requester 21, and 1 the scrubber among requester 23's reads, which pauses in standby and at throttle-1 (R437, R452). -/
def execDramRequest (r : Fin 24) (write : Bool) (addr : Nat) (urgency : Fin 4) (background : Bool) (s : State) (part : Fin 16 := 0) : Res :=
  .next <|
  if !s.dramRuns || (r.val == 23 && part.val == 1 && (s.dram.standby || s.bgPaused Bg.DRAM_SCRUB)) then s
  else
    let q : DramReq := { requester := r, part := part, write := write, addr := addr, rank := if background then 0 else urgency.val + 1, at_ := s.now }
    if s.dieBytes ≤ addr then
      let s := s.raiseLimited E.DRAM_ADDRESS_FAULT r sec (addr % 2 ^ 48)
      if write then s else s.fly q
    else
      let s := s.updDram (dramChan addr) fun c => { c with selfRefresh := false }
      let waits := SMap.get [] s.dram.stalled r.val
      if waits.isEmpty && decide ((s.dBank (dramChan addr) (dramBank addr)).queue.length < bankDepth) then s.enterBank q
      else { s with dram := { s.dram with stalled := SMap.set [] s.dram.stalled r.val (waits ++ [q]) } }

/-- REQUEST_AGE_EXPIRY: entries at urgency 0 that have waited 20 µs are raised to urgency 1 (R429). -/
def execRequestAgeExpiry (c b : Fin 16) (s : State) : Res :=
  .next <| s.updBank c b fun k =>
    { k with queue := k.queue.map fun (q : DramReq) => (if q.rank = 1 ∧ q.at_ + 20 * us ≤ s.now then { q with rank := 2 } else q) }

/-! The row tracker (R433–R435) -/

/-- Pause between a throttled requester's activates, in cycles. -/
def throttlePause (step : Nat) : Nat := match step with | 0 => 0 | 1 => 50 | 2 => 200 | 3 => 800 | _ => 3200

/-- The requester whose activates dominate an entry. -/
def RowEntry.dominant (e : RowEntry) : Nat :=
  (e.acts.foldl (fun (m : Nat × Nat) (x : Nat × Nat) => if m.2 < x.2 then x else m) (0, 0)).1

/-- Index of the entry with the lowest count; ties go to the lower index. -/
def lowestRow (l : List RowEntry) : Nat :=
  let m := l.foldl (fun m e => min m e.count) (match l with | e :: _ => e.count | [] => 0)
  (l.findIdx? fun e => e.count == m).getD 0

/-- The tracker after an activate of `row` by `r`. -/
def trackRow (l : List RowEntry) (row r : Nat) : List RowEntry :=
  match l.findIdx? fun e => e.row == row with
  | some i => match l[i]? with
    | some e => listSet l i { e with count := e.count + 1, acts := SMap.upd 0 e.acts r (· + 1) }
    | none => l
  | none =>
    if l.length < 32 then l ++ [{ row := row, count := 1, acts := [(r, 1)] }]
    else
      let i := lowestRow l
      let n := match l[i]? with | some e => e.count | none => 0
      listSet l i { row := row, count := n + 1, acts := [(r, 1)] }

/-- An activate by a requester: the tracker counts it, and at every 2,048th activate of a row its neighbours are to be refreshed
and the dominant requester is throttled (R433–R435). -/
def State.activate (s : State) (c b : Nat) (q : DramReq) : State :=
  let row := dramRow q.addr
  let s := (s.updBank c b fun k => { k with row := some row, acted := true, rows := trackRow k.rows row q.requester
                                            lastAct := SMap.set 0 k.lastAct q.requester (s.now + 1) }).count 66
  match (s.dBank c b).rows.find? fun e => e.row == row with
  | none => s
  | some e =>
    if e.count % 2048 ≠ 0 then s
    else
      let d := e.dominant
      let near := [row - 2, row - 1, row + 1, row + 2].filter fun (x : Nat) => x != row && decide (x < s.dieBytes / 524288) && decide (x + 2 ≥ row)
      let near := if row = 0 then near.filter (· ≠ 0) else near
      let s := s.updBank c b fun k => { k with victims := k.victims ++ near.eraseDups
                                               steps := SMap.set 0 k.steps d (min (SMap.get 0 k.steps d + 1) 4) }
      let key := 16 * d + c
      if s.dram.throttleTold.contains key then s
      else ({ s with dram := { s.dram with throttleTold := NSet.add s.dram.throttleTold key } }).raise E.ROW_THROTTLE d
        (row * 256 + b * 16 + c)

/-- `#30.0040 ROW_THROTTLE/r`: the highest step of the requester. -/
def State.rowThrottle (s : State) (r : Nat) : Nat :=
  s.dram.banks.foldl (fun m (e : Nat × DramBank) => max m (SMap.get 0 e.2.steps r)) 0

/-- DISTURB_WINDOW_RESTART: the bank's tracker clears, and a requester that reached 2,048 activates of no row falls by one step
(R433, R435). -/
def execDisturbWindowRestart (c b : Fin 16) (s : State) : Res :=
  .next <|
  let s := s.updBank c b fun k =>
    let hot (r : Nat) : Bool := k.rows.any fun e => decide (2048 ≤ SMap.get 0 e.acts r)
    let fall := k.steps.filterMap fun (e : Nat × Nat) => if hot e.1 then some e else if e.2 ≤ 1 then none else some (e.1, e.2 - 1)
    { k with rows := [], steps := fall }
  { s with dram := { s.dram with throttleTold := s.dram.throttleTold.filter fun k => k % 16 != c.val } }

/-! Refresh (R431, R432) -/

/-- REFRESH_TICK: the debt rises by one; at 8 a REFRESH is forced.  A changed interval applies from here (R431, R432). -/
def execRefreshTick (c : Fin 16) (s : State) : Res :=
  .next <|
  if !s.dramRuns || (s.dChan c).selfRefresh then s
  else
    let s := s.setPar P.REFRESH_INTERVAL 0 (b2n s.dram.nextFast)
    let d := (s.dChan c).debt
    let s := s.updDram c fun k => { k with debt := min (d + 1) 8 }
    if d = 7 then ((s.bump P.REFRESH_FORCED c).count 69).raiseLimited E.REFRESH_FORCED c sec else s

/-- The open rows of a channel close and a REFRESH issues. -/
def State.refresh (s : State) (c : Nat) : State :=
  let s := s.each (List.range 16) fun s b => s.updBank c b fun k => { k with row := none, acted := false }
  (s.updDram c fun k => { k with debt := k.debt - 1 }).count 68

/-! Arbitration (R430) -/

/-- Highest urgency of a bank's entries, as a rank. -/
def DramBank.rank (b : DramBank) : Nat := b.queue.foldl (fun m (q : DramReq) => max m q.rank) 0

/-- The first entry may issue: its requester's pause is over. -/
def State.unpaused (s : State) (k : DramBank) : Bool :=
  match k.queue with
  | [] => false
  | q :: _ =>
    match SMap.get 0 k.lastAct q.requester with
    | 0 => true
    | t + 1 => decide (t + throttlePause (SMap.get 0 k.steps q.requester) ≤ s.now)

/-- Issue the next command of bank `b`'s first entry: PRECHARGE, ACTIVATE, READ or WRITE. -/
def State.issueNext (s : State) (c b : Nat) : State :=
  let k := s.dBank c b
  match k.queue with
  | [] => s
  | q :: rest =>
    match k.row with
    | none => s.activate c b q
    | some row =>
      if row ≠ dramRow q.addr then s.updBank c b fun k => { k with row := none, acted := false }
      else
        let s := if k.acted then s else s.count 67
        let s := (s.updBank c b fun k => { k with queue := rest, acted := false }).count (if q.write then 65 else 64)
        let s := s.updDram c fun k => { k with last := b }
        let s := if q.write then { s with dram := { s.dram with poisoned := NSet.del s.dram.poisoned (burstOf q.addr) } } else s
        s.each (List.range 24) fun s r =>
          if (SMap.get [] s.dram.stalled r).isEmpty then s else s.unstall r (SMap.get [] s.dram.stalled r).length

/-- COMMAND_SLOT: the channel issues one command; `able` names the banks whose first entry the DRAM's timing lets issue (R430). -/
def execCommandSlot (c : Fin 16) (able : List (Fin 16)) (s : State) : Res :=
  .next <|
  let ch := s.dChan c
  if !s.dramRuns || ch.selfRefresh then s
  else if 8 ≤ ch.debt then s.refresh c
  else
    let ready := (List.range 16).filter fun b => (able.any fun x => x.val == b) && s.unpaused (s.dBank c b)
    let top := ready.foldl (fun m b => max m (s.dBank c b).rank) 0
    match (List.range 16).find? fun b => !(s.dBank c b).victims.isEmpty with
    | some b =>
      if top < 4 then (s.count 66 (s.dBank c b).victims.length).updBank c b fun k => { k with victims := [], row := none, acted := false }
      else
        match ((List.range 16).map fun i => (ch.last + 1 + i) % 16).find? fun b => ready.contains b && (s.dBank c b).rank == top with
        | some b => s.issueNext c b
        | none => s
    | none =>
      if ready.isEmpty then (if -8 < ch.debt then s.refresh c else s)
      else if 0 < ch.debt ∧ top < 3 then s.refresh c
      else
        match ((List.range 16).map fun i => (ch.last + 1 + i) % 16).find? fun b => ready.contains b && (s.dBank c b).rank == top with
        | some b => s.issueNext c b
        | none => s

/-! Returns (R428, R436, R437) -/

/-- A poisoned coefficient, map or drive-buffer read makes the correction of the copy of frame `k` on port `p` a miss (R24). -/
def State.corrPoison (s : State) (k p : Nat) : State :=
  { s with tile := { s.tile with corrMiss := NSet.add s.tile.corrMiss (2 * k + p) } }

/-- The consumer of poisoned data treats its frame as missed at its own stage: before the cut-off a receive ring's copy does not
qualify (R20), and after it the correction misses; `what` names the region of requester 21, the lamp of requester 12,
the frame of a tile's receive-ring, correction and map reads (R24, R272, R296, R302). -/
def State.poisonTo (s : State) (r what : Nat) : State :=
  if s.isHead then
    if r = 20 then { s with comp := { s.comp with poisoned := true } }
    else if r = 21 then
      match (List.range 16).find? fun c => (s.streamerOf c).active && (s.streamerOf c).regions.any fun x => x.number == what with
      | some c => s.canvasPoisoned c what
      | none => s
    else s
  else if s.isTile then
    if r ≤ 1 ∧ s.chain.cutDone ≤ what then
      { s with chain := { s.chain with copies := s.chain.copies.map fun (c : Copy) =>
                                         (if c.tick = what ∧ c.port = r then { c with poisoned := true } else c) } }
    else if r ≤ 3 then s.corrPoison what (r % 2)
    else if r ≤ 11 then (s.corrPoison what 0).corrPoison what 1
    else if r = 12 then
      match s.lastSlot with
      | some (_, _, l) => { s with tile := { s.tile with ledger := SMap.set 0 s.tile.ledger what (SMap.get 0 l what) } }
      | none => s
    else s
  else s

/-- A scrub read came back: progress of the pass, the end of a unit of 64 KB, and the end of a pass (R437, R452). -/
def State.scrubbed (s : State) (addr : Nat) : State :=
  let v := s.par P.SCRUB_PROGRESS
  let s := if (addr / 64 * 64 + 64) % 65536 = 0 then s.bgPauseStart Bg.DRAM_SCRUB else s
  if addr / 64 * 64 + 64 = s.dieBytes then
    (({ s with dram := { s.dram with corrections := [] } }).setPar P.SCRUB_PROGRESS 0 ((v / 65536 + 1) % 65536 * 65536)).raise
      E.SCRUB_PASS_DONE
  else s.setPar P.SCRUB_PROGRESS 0 (v / 65536 * 65536 + addr * 65536 / s.dieBytes)

/-- Take the first read or write of a requester's requests in flight. -/
def takeFirst (write : Bool) : List DramReq → Option (DramReq × List DramReq)
  | [] => none
  | q :: l => if q.write = write then some (q, l) else (takeFirst write l).map fun x => (x.1, q :: x.2)

/-- DRAM_READ_RETURN: the requester's oldest read returns, corrected or poisoned; a burst that read uncorrectable stays poisoned
until it is written, and a read beyond the die is poisoned (R425, R428, R436).  `part` names the streamer of requester 21. -/
def execDramReadReturn (r : Fin 24) (ce ue : Bool) (what : Nat) (s : State) (part : Fin 16 := 0) : Res :=
  .next <|
  match takeFirst false (SMap.get [] s.dram.flying (orderKey r part)) with
  | none => s
  | some (q, l) =>
    let s := { s with dram := { s.dram with flying := SMap.set [] s.dram.flying (orderKey r part) l } }
    if s.dieBytes ≤ q.addr then s.poisonTo r what
    else
      let s := s.monCount 1 r 1 64
      let c := dramChan q.addr
      let burst := burstOf q.addr
      let s := if ue then
          let s := (s.bump P.ECC_UE c).setPar P.ECC_LAST_UE 0 (r.val * 2 ^ 53 + q.addr)
          ({ s with dram := { s.dram with poisoned := NSet.add s.dram.poisoned burst } }).raise E.DRAM_UNCORRECTABLE c q.addr
        else if ce then
          let s := (s.bump P.ECC_CE c).count 71
          let n := SMap.get 0 s.dram.corrections burst + 1
          let s := { s with dram := { s.dram with corrections := SMap.set 0 s.dram.corrections burst n } }
          s.raiseIf (n == s.par P.CE_RECUR_LIMIT) E.DRAM_CE_RECURRING c q.addr
        else s
      let s := if r.val = 23 ∧ q.part = 1 then s.scrubbed q.addr else s
      if s.dram.poisoned.contains burst then s.poisonTo r what else s

/-- DRAM_WRITE_ACK: the requester's oldest write is acknowledged and visible (R428). -/
def execDramWriteAck (r : Fin 24) (s : State) (part : Fin 16 := 0) : Res :=
  .next <|
  match takeFirst true (SMap.get [] s.dram.flying (orderKey r part)) with
  | none => s
  | some (_, l) => ({ s with dram := { s.dram with flying := SMap.set [] s.dram.flying (orderKey r part) l } }).monCount 1 r 2 64

/-! Training (R438) -/

/-- DRAM_TRAINING_COMPLETE: the results of the 16 channels are in; DRAM may rise, or a failed channel keeps the device at
low-water (R438). -/
def execDramTrainingComplete (results : List (BitVec 32)) (s : State) : Res :=
  .next <|
  if s.par P.DRAM_STATE ≠ 1 then s
  else
    let s := s.each (List.range 16) fun s c => s.setPar P.TRAIN_RESULT c (results.getD c 0).toNat
    match (List.range 16).find? fun c => bit (results.getD c 0).toNat 31 with
    | some c => (({ s with start := { s.start with stopped := true } }).setPar P.DRAM_STATE 0 5).raise E.DRAM_TRAIN_FAIL c
    | none => (s.setPar P.DRAM_STATE 0 2).setPar P.TRAIN_TIME 0 ((s.now - s.dram.releasedAt) / ms)

/-- DRAM_RECAL_TIMER: one channel a second repeats its calibration and read-gate training (R438). -/
def execDramRecalTimer (s : State) : Res :=
  .next <|
  if s.par P.DRAM_STATE ≠ 2 then s else { s with dram := { s.dram with recal := (s.dram.recal + 1) % 16 } }

/-! Self-refresh (R439, R440) -/

/-- A channel has no queued request. -/
def State.chanIdle (s : State) (c : Nat) : Bool := (List.range 16).all fun b => (s.dBank c b).queue.isEmpty

/-- A channel pays its debt and enters self-refresh. -/
def State.chanSleep (s : State) (c : Nat) : State :=
  let d := (s.dChan c).debt.toNat
  (s.updDram c fun k => { k with debt := min k.debt 0, selfRefresh := true }).count 68 d

/-- An L1 reset: accepted writes are completed, requests not accepted are discarded, and every channel goes into self-refresh
(R439). -/
def State.dramSleep (s : State) : State :=
  if !s.dramRuns then s
  else
    let writes := s.dram.banks.flatMap fun (e : Nat × DramBank) => e.2.queue.filter fun (q : DramReq) => q.write
    let s := { s with dram := { s.dram with
      banks := [], flying := [], stalled := [], entering := true, standby := false, nextFast := false, hotTold := false
      poisoned := writes.foldl (fun (m : NSet) (q : DramReq) => NSet.del m (burstOf q.addr)) s.dram.poisoned
      corrections := [], throttleTold := [] } }
    ((s.each (List.range 16) State.chanSleep).setPar P.DRAM_STATE 0 3)

/-- The exit from self-refresh (R439): the refresh debt and credit of before the reset are gone with their parameter's level. -/
def State.dramWake (s : State) : State :=
  if s.par P.DRAM_STATE ≠ 3 then s
  else ({ s with dram := { s.dram with chans := [], entering := false } }).setPar P.DRAM_STATE 0 2

/-- `#30.0050 PASR_STATE`. -/
def State.pasr (s : State) : Nat := s.dram.chans.foldl (fun m (e : Nat × DramChan) => if e.2.selfRefresh then setBit m e.1 true else m) 0

/-- What the DRAM held is lost (R62). -/
def State.dramLost (s : State) : State :=
  { s with
    dram := { dieMb := s.dram.dieMb }
    src := {}
    store := { s.store with banks := [], due := [] }
    tile := { s.tile with ledger := [], gains := {}, gainReady := false, flush := none, ledgerCmds := [], loadDue := true }
    health := { s.health with lamps := [], list := [], cmds := [] }
    blobs := s.blobs.filter fun (e : Nat × Nat) => e.1 / 268435456 / 65536 != P.LEDGER_STAGE }

/-- A channel enters self-refresh with partial-array refresh: consecutive bursts rotate through the channels (R424), so what the die
holds outside segment 0 is lost, and reads as after the zeroing that ends standby (R440).  Stored copies are loaded again as after
an L0 reset (DESIGN CHOICE, log entry 18: the spec names the loss and the zeros, and no reload). -/
def State.pasrSleep (s : State) (c : Nat) : State :=
  let s := s.chanSleep c
  { s.dramLost with dram := s.dram }

/-- STANDBY_ENTRY_TIMER: START_STAGE has stayed at 1 for STANDBY_DELAY; idle channels enter self-refresh (R440). -/
def execStandbyEntryTimer (s : State) : Res :=
  .next <|
  if s.par P.STANDBY_EN ≠ 1 ∨ s.startStage ≠ 1 ∨ s.par P.DRAM_STATE ≠ 2 then s
  else
    let s := s.each (List.range 16) fun s c => if s.chanIdle c then s.pasrSleep c else s
    (({ s with dram := { s.dram with standby := true } }).setPar P.DRAM_STATE 0 4).raise E.STANDBY_ENTERED

/-- CHANNEL_IDLE_TIMEOUT: a woken channel has had no request for 100 µs (R440). -/
def execChannelIdleTimeout (c : Fin 16) (s : State) : Res :=
  .next <|
  if !s.dram.standby || (s.dChan c).selfRefresh || !s.chanIdle c then s else s.pasrSleep c

/-- Standby ends when START_STAGE leaves 1 (R440). -/
def State.standbyCheck (s : State) : State :=
  if !s.dram.standby || s.startStage == 1 then s
  else
    let s := s.each (List.range 16) fun s c => s.updDram c fun k => { k with selfRefresh := false }
    (({ s with dram := { s.dram with standby := false } }).setPar P.DRAM_STATE 0 2).raise E.STANDBY_LEFT

/-! The cistern (R443, R444) -/

/-- Owner of a cistern bank: 0 power gated, 1 Control, 2 Image/Drive (R444). -/
def State.cisternOwner (s : State) (b : Nat) : Nat :=
  if b ≤ 8 then 1
  else if s.isHead then (if b ≤ 38 then 2 else 0)
  else if s.isTile then (if b ≤ 39 then 2 else 0)
  else 0

/-- A poisoned cistern word hits what its bank holds: in a head a line well or the composition under way, in a tile a drive buffer,
the tables of the newest snapshot's frame, or the staging of a port (R24, R443, R444; the order of words within a use is the model's,
DESIGN CHOICE, log entry 28). -/
def State.cisternPoison (s : State) (b word : Nat) : State :=
  let at_ := (b - 9) * 32768 + word
  if b < 9 then s
  else if s.isHead then
    if b ≤ 10 then
      match (s.streamerOf (at_ / 4096)).regions with
      | r :: _ => if 0 < (s.streamerOf (at_ / 4096)).level then s.canvasPoisoned (at_ / 4096) r.number else s
      | [] => s
    else if b ≤ 28 then { s with comp := { s.comp with poisoned := true } }
    else s
  else
    let frame := match s.tile.snaps with | x :: _ => x.frame | [] => 0
    if b ≤ 32 then
      s.each (s.tile.backs.filter fun (x : Back) => x.slot == at_ / 262144) fun s (x : Back) => s.corrPoison x.frame x.port
    else if b = 34 then (s.corrPoison frame 0).corrPoison frame 1
    else if 35 ≤ b ∧ b ≤ 38 then s.corrPoison frame ((b - 35) / 2)
    else s

/-- CISTERN_SCRUB: a word is read and written back corrected; an uncorrectable one is poisoned, and a correction that recurs on
three consecutive passes is reported (R443).  A pause of throttle-1 holds the scrubber (R452). -/
def execCisternScrub (b : Fin 96) (word : BitVec 15) (corrected bad : Bool) (s : State) : Res :=
  .next <|
  if s.cisternOwner b = 0 ∨ s.bgPaused Bg.CISTERN_SCRUB = true then s
  else
    let key := b.val * 32768 + word.toNat
    let s := if bad then
        if s.dram.cisternBad.contains key then s
        else
          let s := { s with dram := { s.dram with cisternBad := NSet.add s.dram.cisternBad key } }
          let s := ((s.bump P.CISTERN_UE).setPar P.CISTERN_LAST_UE 0 (b.val * 2 ^ 25 + word.toNat)).raise E.CISTERN_UNCORRECTABLE b word.toNat
          s.cisternPoison b word.toNat
      else if corrected then
        let n := SMap.get 0 s.dram.cisternCe key + 1
        let s := ({ s with dram := { s.dram with cisternCe := SMap.set 0 s.dram.cisternCe key n } }).bump P.CISTERN_CE
        s.raiseIf (n == 3) E.CISTERN_CE_RECURRING b word.toNat
      else { s with dram := { s.dram with cisternCe := SMap.del s.dram.cisternCe key
                                          cisternBad := NSet.del s.dram.cisternBad key } }
    if word.toNat = 32767 then s.bgPauseStart Bg.CISTERN_SCRUB else s

end Sys2Proof.Machine
end

