-- ==== Sys2Proof/Machine/Ethernet.lean ====
section
/-! DEFINITION. The GbE MAC and the 10BASE-T1S segments: link, address, flow control, LPI, speed policy, collisions, PLCA,
underruns and statistics (chapter 18). -/

namespace Sys2Proof.Machine

def State.mac (s : State) (p : Nat) : Mac := SMap.get {} s.eth.macs p
def State.updMac (s : State) (p : Nat) (f : Mac → Mac) : State := { s with eth := { s.eth with macs := SMap.upd {} s.eth.macs p f } }

/-! Statistics (R420) -/

/-- Statistic `i` of port `p` advances by `n`; the increment that sets its bit 31 raises EV 260 with the counter's item. -/
def State.stat (s : State) (p i : Nat) (n : Nat := 1) : State :=
  let id := if p = 0 then P.MAC_STATS else P.T1S_STATS
  let idx := if p = 0 then i else 16 * (p - 1) + i
  let old := s.par id idx
  let s := s.bumpBy id idx n
  s.raiseIf (decide (old < 2 ^ 31) && bit (s.par id idx) 31) E.STATS_HALF idx id

/-- Microseconds from a cycle to now. -/
def State.usSince (s : State) (t : Nat) : Nat := (s.now - t) / us

/-! The link (R407, R408) -/

/-- Fields of `LINK_STATUS`. -/
def State.speed (s : State) : Nat := field (s.par P.LINK_STATUS) 1 2
def State.downshifted (s : State) : Bool := bit (s.par P.LINK_STATUS) 6

/-- Segment `n` is enabled in a head. -/
def State.segOn (s : State) (n : Nat) : Bool := s.isHead && bit (s.par P.T1S_ENABLE) n

/-- A port may transmit at all: the GbE link is up in full duplex, or the segment is enabled (R408, R416). -/
def State.macOpen (s : State) (p : Nat) : Bool :=
  if p = 0 then s.linkUp && bit (s.par P.LINK_STATUS) 3 && !s.eth.mdioFail else s.segOn (p - 1)

/-! EEE: the wake time (R414) -/

/-- Tw in use in ns: the speed's minimum or the partner's request, whichever is larger. -/
def State.twNs (s : State) : Nat :=
  if !s.linkUp then 0
  else max (match s.speed with | 2 => 16500 | 1 => 30500 | _ => 0) (s.eth.partnerTw.getD 0)

/-- A time in ns as EEE_TW shows it in µs. -/
def twMicros (ns : Nat) : Nat := min (if ns % 1000 = 0 then ns / 1000 else Config.twMicros ns) 0xFFFF

/-- EEE_TW follows, and a change of the Tw in use is reported (R414). -/
def State.twShow (s : State) (before : Nat) : State :=
  let s := s.setPar P.EEE_TW 0 (twMicros s.twNs * 65536 + twMicros (s.eth.partnerTw.getD 0))
  s.raiseIf (s.twNs != before) E.EEE_TW_CHANGED

/-- Low-power idle ends, and its time is counted. -/
def State.lpiEnd (s : State) : State :=
  match s.eth.lpi with
  | none => s
  | some t => ({ s with eth := { s.eth with lpi := none } }).stat 0 16 (s.usSince t)

/-! The address (R410) -/

/-- A link-local address that has not been tried: a free value. -/
def State.linkLocalTry (s : State) : State :=
  let (r, s) := s.takeFree
  let a := 0xA9FE0100 + r % 0xFE00
  { s with eth := { s.eth with candidate := some (a, 2), linkLocal := true } }.macPush 0 (.arp a)

/-- The port sets out to get an address, as IP_MODE says; every address is probed before use (R410). -/
def State.ipAcquire (s : State) : State :=
  match s.par P.IP_MODE with
  | 0 =>
    let a := s.par P.IPV4_ADDRESS
    if a = 0 ∨ s.eth.conflict = true then s
    else { s with eth := { s.eth with candidate := some (a, 0) } }.macPush 0 (.arp a)
  | 1 => s.macPush 0 .dhcp
  | _ => s.linkLocalTry

/-- A commit changes how the port gets its address: it starts again (R410). -/
def State.ipRestart (s : State) : State :=
  let s := { s with eth := { s.eth with candidate := none, conflict := false, linkLocal := false } }
  if s.linkUp then s.ipAcquire else s

/-- DHCP_TIMEOUT: no lease arrived within 10 s and the port falls back to a link-local address (R410). -/
def execDhcpTimeout (s : State) : Res :=
  .next <|
  if s.par P.IP_MODE ≠ 1 ∨ s.eth.linkLocal = true ∨ s.eth.candidate.isSome = true ∨ s.par P.IPV4_IN_USE ≠ 0 then s
  else s.linkLocalTry

/-- ARP_PROBE_END: no other station uses the candidate and the port takes it into use (R410). -/
def execArpProbeEnd (s : State) : Res :=
  .next <|
  match s.eth.candidate with
  | none => s
  | some (a, _) =>
    let was := s.par P.IPV4_IN_USE
    let s := ({ s with eth := { s.eth with candidate := none } }).setPar P.IPV4_IN_USE 0 a
    s.raiseIf (was != a) E.IP_ADDRESS_CHANGED

/-- Another station uses an address: the candidate is held unused and, where it was not static, another one is sought; a
segment's static address is held unused (R410, R416). -/
def State.arpSeen (s : State) (p a : Nat) : State :=
  if p = 0 then
    match s.eth.candidate with
    | none => s
    | some (c, src) =>
      if c ≠ a then s
      else
        let s := ({ s with eth := { s.eth with candidate := none, conflict := src == 0 } }).raise E.IP_CONFLICT 0
        match src with
        | 0 => s
        | 1 => s.macPush 0 .dhcp
        | _ => s.linkLocalTry
  else if a ≠ 0 ∧ a = leNat ((s.blob P.T1S_IPV4 (p - 1) 0 4)) ∧ s.eth.segHeld.contains (p - 1) = false then
    ({ s with eth := { s.eth with segHeld := NSet.add s.eth.segHeld (p - 1) } }).raise E.IP_CONFLICT p
  else s

/-! The speed policy (R415) -/

/-- PTP uses the port: a head whose time source is PTP or that may be master, with a port state that is not INITIALIZING,
FAULTY or DISABLED. -/
def State.ptpUses (s : State) : Bool :=
  s.isHead && (s.par P.TIME_SOURCE == 0 || s.par P.PTP_MASTER_EN == 1) && !([1, 2, 3].contains (s.par P.PTP_PORT_STATE))

/-- Show traffic uses the port. -/
def State.showUses (s : State) : Bool := s.isHead && s.rdy B.FIXTURE && s.univs.any fun u => u.path == 0

/-- Every condition of R415 but the delay. -/
def State.mayDownshift (s : State) : Bool :=
  s.par P.DOWNSHIFT_EN == 1 && (s.startStage == 1 || (s.par P.DARK_SERVICE == 1 && !s.rdy B.SHOW)) && !s.ptpUses && !s.showUses

/-- DOWNSHIFT_TIMER: the conditions have held for DOWNSHIFT_DELAY seconds and the link drops to 100 Mb/s (R415). -/
def execDownshiftTimer (s : State) : Res :=
  .next <|
  if !s.mayDownshift || s.downshifted then s
  else ((s.setPar P.LINK_STATUS 0 (setBit (s.par P.LINK_STATUS) 6 true)).raise E.SPEED_DOWNSHIFT).send (.autoneg true)

/-- In the same pass in which a condition fails the full advertisement is restored (R415). -/
def State.speedPass (s : State) : State :=
  if s.downshifted && !s.mayDownshift then
    ((s.setPar P.LINK_STATUS 0 (setBit (s.par P.LINK_STATUS) 6 false)).raise E.SPEED_RESTORED).send (.autoneg false)
  else s

/-! Reading the PHY (R407) -/

/-- The link goes up or down, with its event; a link that comes up starts the search for an address. -/
def State.linkGo (s : State) (status : Nat) : State :=
  let was := s.linkUp
  let tw := s.twNs
  let s := s.setPar P.LINK_STATUS 0 status
  let s := s.twShow tw
  if s.linkUp && !was then
    let s := s.raise E.GBE_LINK_UP
    if s.eth.candidate.isNone && s.par P.IPV4_IN_USE == 0 then s.ipAcquire else s
  else if was && !s.linkUp then ((s.lpiEnd).stat 0 18).raise E.GBE_LINK_DOWN
  else s

/-- The port's view of the PHY after one read; three reads of 0xFFFF in a row take the port down (R407, R408). -/
def State.phyRead (s : State) (r : PhyStatus) : State :=
  if !s.start.lowWater then s
  else
    let keep := s.par P.LINK_STATUS &&& 64
    if !r.valid then
      let n := min (s.eth.mdioBad + 1) 3
      let s := { s with eth := { s.eth with mdioBad := n } }
      if n = 3 ∧ s.eth.mdioFail = false then
        (({ s with eth := { s.eth with mdioFail := true, half := false } }).raise E.MDIO_FAIL).linkGo keep
      else s.speedPass
    else
      let half := r.link && !r.full
      let was := s.eth.half
      let s := ({ s with eth := { s.eth with mdioBad := 0, mdioFail := false, half := half } }).stat 0 17 r.rxLpi
      let eee := r.link && r.full && r.eee && s.par P.EEE_MODE == 1 && r.speed != 0
      let pause := r.link && r.full && r.pause && s.par P.PAUSE_MODE == 1
      let s := s.linkGo (if r.link then
          keep + 32 * b2n eee + 16 * b2n pause + 8 * b2n r.full + 2 * r.speed + 1
        else keep)
      let s := s.when (!eee) State.lpiEnd
      (s.raiseIf (half && !was) E.GBE_DUPLEX_REFUSED).speedPass

/-- PHY_INT: a fall of `PHY_INT_N` makes the device read the PHY (R407). -/
def execPhyInt (r : PhyStatus) (s : State) : Res := .next (s.phyRead r)

/-- PHY_POLL_TIMER: every 100 ms the device reads the PHY (R407). -/
def execPhyPollTimer (r : PhyStatus) (s : State) : Res := .next (s.phyRead r)

/-- AUTONEG_RETRY: every 10 s on a half-duplex link autonegotiation restarts (R408). -/
def execAutonegRetry (s : State) : Res := .next (if s.eth.half then s.send (.autoneg s.downshifted) else s)

/-! Transmission (R202, R411, R419) -/

/-- The frame in front of a queue leaves or is dropped. -/
def State.macPop (s : State) (p : Nat) : State :=
  s.updMac p fun m => { m with queue := m.queue.tail, attempts := 0, backoff := none }

/-- What goes out on the wire for a frame. -/
def State.frameOut (s : State) (p : Nat) (k : TxKind) : Out :=
  match k with
  | .data f e => .frame p 1 (s.dataBody f e)
  | .sync f => .frame p 2 [(s.fixUnder f).par P.SYNC_UNIVERSE, s.fixSeq f]
  | .terminated u => .frame p 3 [u]
  | .discovery => .frame p 4 (s.univs.map (·.number))
  | .ptp m q t => .ptp m q t
  | .ptpTo m q t a => .ptpTo m q t a
  | .lldp => .frame p 5 [s.par P.MAC_ADDRESS, 120, twMicros s.twNs]
  | .arp a => .frame p 6 [a]
  | .dhcp => .frame p 7 []
  | .od => .frame p 8 []

/-- The tag a frame's stamp carries, for the frames that take one: PTP event messages and T1S sync packets (R202, R399). -/
def State.stampTag (s : State) (p : Nat) (k : TxKind) : Option Nat :=
  match k with
  | .ptp m q _ => if m = 0 ∨ m = 1 then some (m * 4096 + q % 4096) else none
  | .ptpTo m q _ _ => if m = 0 ∨ m = 1 then some (m * 4096 + q % 4096) else none
  | .sync f => if 1 ≤ p then some (0xF000 + s.fixSeq f) else none
  | _ => none

/-- An sACN frame whose head no longer emits is not sent (R403). -/
def State.silent (s : State) (k : TxKind) : Bool :=
  match k with
  | .data _ _ => !s.fixEmits
  | .sync _ => !s.fixEmits
  | .terminated _ => !s.fixEmits
  | .discovery => !s.fixEmits
  | _ => false

/-- A transmit stamp in ns, moved from the RGMII to the wire by the PHY's transmit latency on the GbE port (R201). -/
def State.txStamp (s : State) (p stamp : Nat) : Nat :=
  if p = 0 then (stamp * 1000 + field (s.par P.PHY_LATENCY) 16 16) / 1000 else stamp

/-- MAC_FRAME_TRANSMIT: the frame in front leaves, unless the port may not transmit, a pause holds it or it waits out a
backoff; `size` is its length in bytes, `stamp` the time its stamp takes in ns, and `deferred` says that a segment's carrier made it
wait (R202, R408, R411, R417, R420). -/
def execMacFrameTransmit (p : Fin 9) (size stamp : Nat) (s : State) (deferred : Bool := false) : Res :=
  .next <|
  let m := s.mac p
  match m.queue with
  | [] => s
  | f :: _ =>
    if s.silent f.kind then s.macPop p
    else if !s.macOpen p || (p.val == 0 && s.eth.pause.isSome) || m.backoff.isSome then s
    else
      let s := (s.when (p.val == 0) State.lpiEnd).macPop p
      let s := s.when (p.val != 0 && deferred) fun s => s.stat p 6
      let s := ((s.stat p 0).stat p 1 size).monCount (if p.val = 0 then 3 else 4) (p.val - 1) 2 size
      let s := match f.kind with
        | .data _ _ => s.count 8 | .sync _ => s.count 8 | .terminated _ => s.count 8 | .discovery => s.count 8 | _ => s
      let s := s.send (s.frameOut p f.kind)
      match s.stampTag p f.kind with
      | some t => s.tsqPush t p (s.txStamp p stamp)
      | none => s

/-- Step of a port's transmit threshold (R419). -/
def State.txStep (s : State) (p : Nat) : Nat := if p = 0 then s.par P.TX_THRESHOLD else s.par P.T1S_THRESHOLD (p - 1)
def State.setTxStep (s : State) (p v : Nat) : State :=
  let was := s.txStep p
  let s := if p = 0 then s.setPar P.TX_THRESHOLD 0 v else s.setPar P.T1S_THRESHOLD (p - 1) v
  s.raiseIf (v == 8 && was != 8) E.TX_STORE_FORWARD p

/-- TX_FIFO_UNDERRUN: the frame ends with a wrong FCS, the port's step rises, and the frame is sent once more; a retry that
underruns is dropped.  At step 8 none can occur (R419). -/
def execTxFifoUnderrun (p : Fin 9) (s : State) : Res :=
  .next <|
  match (s.mac p).queue with
  | [] => s
  | f :: q =>
    if s.txStep p = 8 then s
    else
      let s := (s.stat p 2).raiseLimited E.TX_UNDERRUN p sec
      let s := s.setTxStep p (s.txStep p + 1)
      if f.retry then (s.macPop p).when (p.val == 0) fun s => s.stat 0 3
      else s.updMac p fun m => { m with queue := { f with retry := true } :: q }

/-! Reception (R409) -/

/-- The address a port's frames come to: fused, and + 1 + n on segment n (R410). -/
def State.macAddr (s : State) (p : Nat) : Nat := s.par P.MAC_ADDRESS + p

/-- A frame passes the filter of R409: its address, its VLAN, and no PFC. -/
def State.macTakes (s : State) (p : Nat) (f : RxFrame) : Bool :=
  f.body != .pfc &&
  ([s.macAddr p, 0xFFFFFFFFFFFF, 0x01005E000181, 0x0180C200000E, 0x0180C2000001].contains f.dest.toNat) &&
  (match f.vid with
   | none => true
   | some v => p != 0 || !bit (s.par P.VLAN) 12 || v.toNat == field (s.par P.VLAN) 0 12)

/-! PAUSE (R411, R412) -/

/-- A running pause ends, and the time it held is counted. -/
def State.pauseEnd (s : State) : State :=
  match s.eth.pause with
  | none => s
  | some (t, _) => ({ s with eth := { s.eth with pause := none } }).stat 0 13 (s.usSince t)

/-- PAUSE_FRAME, on a link that is up: with PAUSE_MODE 1 it starts, restarts or ends the pause; else it is only counted (R411, R412). -/
def execPauseFrame (quanta : BitVec 16) (s : State) : Res :=
  .next <|
  if !s.linkUp then s
  else
    let s := s.stat 0 12
    if s.par P.PAUSE_MODE ≠ 1 then s
    else
      let s := s.pauseEnd
      if quanta.toNat = 0 then s else { s with eth := { s.eth with pause := some (s.now, quanta.toNat) } }

/-- PAUSE_EXPIRY: the quanta have elapsed (R411). -/
def execPauseExpiry (s : State) : Res := .next s.pauseEnd

/-- PAUSE_CAP_EXPIRY: a pause is cut after PAUSE_CAP µs; 0 sets no limit (R412). -/
def execPauseCapExpiry (s : State) : Res :=
  .next <|
  if s.par P.PAUSE_CAP = 0 ∨ s.eth.pause.isNone = true then s
  else (s.pauseEnd.stat 0 14).raiseLimited E.PAUSE_CAPPED 0xFFFF sec

/-! Energy-efficient Ethernet and LLDP (R413, R414) -/

/-- LPI_ENTRY: the queues have been empty for EEE_IDLE and nothing is scheduled soon (R413). -/
def execLpiEntry (s : State) : Res :=
  .next <|
  if s.eth.lpi.isSome || s.eth.twRefused || !bit (s.par P.LINK_STATUS) 5 || s.par P.EEE_MODE != 1 || !(s.mac 0).queue.isEmpty then s
  else ({ s with eth := { s.eth with lpi := some s.now } }).stat 0 15

/-- LPI_EXIT: Tw before a scheduled transmission the port leaves LPI (R413). -/
def execLpiExit (s : State) : Res := .next s.lpiEnd

/-- LLDP_SEND: every 30 s an LLDPDU is queued (R414). -/
def execLldpSend (s : State) : Res := .next (if s.linkUp then s.macPush 0 .lldp else s)

/-- LLDP_TTL_EXPIRY: the partner's TLV lapses and the minimum Tw is used (R414). -/
def execLldpTtlExpiry (s : State) : Res :=
  .next (({ s with eth := { s.eth with partnerTw := none, twRefused := false } }).twShow s.twNs)

/-! 10BASE-T1S (R417, R418) -/

/-- PLCA status of segment `n` is true. -/
def State.plcaUp (s : State) (n : Nat) : Bool :=
  s.segOn n && bit (s.par P.PLCA_CONFIG n) 63 && bit (s.par P.T1S_STATUS n) 1

/-- `T1S_STATUS/n` as it reads (R422). -/
def State.t1sStatus (s : State) (n : Nat) : Nat :=
  b2n (s.segOn n && s.rdy B.MAC) + 2 * b2n (s.plcaUp n) +
    4 * b2n (s.segOn n && bit (s.par P.PLCA_CONFIG n) 63 && field (s.par P.PLCA_CONFIG n) 0 8 == 0)

/-- NODE_ID is not below NODE_COUNT on a coordinator, of a segment that uses PLCA (R418). -/
def State.plcaBad (s : State) : Bool :=
  (List.range 8).any fun n =>
    let c := s.par P.PLCA_CONFIG n
    field c 0 8 == 0 && decide (field c 8 8 ≤ field c 0 8)

/-- T1S_COLLISION: counted; under PLCA the frame waits for the next opportunity, under CSMA/CD it waits r slot times, r a free
value below 2^min(n,10), and is dropped after its 16th attempt (R417, R418). -/
def execT1sCollision (n : Fin 8) (late : Bool) (s : State) : Res :=
  .next <|
  let p := n.val + 1
  let m := s.mac p
  if !s.segOn n || m.queue.isEmpty then s
  else
    let s := s.stat p 3
    if s.plcaUp n then s
    else
      let s := if late then (s.stat p 4).raiseLimited E.T1S_LATE_COLLISION n sec else s
      let k := m.attempts + 1
      if 16 ≤ k then ((s.macPop p).stat p 5).raiseLimited E.T1S_EXCESS_COLLISION n sec
      else
        let (r, s) := s.takeFree
        s.updMac p fun m => { m with attempts := k, backoff := some (r % 2 ^ min k 10) }

/-- T1S_BACKOFF_EXPIRY: the frame may be tried again (R417). -/
def execT1sBackoffExpiry (n : Fin 8) (s : State) : Res := .next (s.updMac (n.val + 1) fun m => { m with backoff := none })

/-- PLCA_STATUS_CHANGE: the status of a segment that uses PLCA becomes true or false; `beacons` were sent or received on it since the
command before (R418, R420). -/
def execPlcaStatusChange (n : Fin 8) (up : Bool) (s : State) (beacons : Nat := 0) : Res :=
  .next <|
  if !s.segOn n || !bit (s.par P.PLCA_CONFIG n) 63 then s
  else
    let s := s.stat (n.val + 1) 12 beacons
    if s.plcaUp n == up then s else
    let s := s.setPar P.T1S_STATUS n (setBit (s.par P.T1S_STATUS n) 1 up)
    if up then s.raise E.T1S_PLCA_UP n else (s.stat (n.val + 1) 13).raise E.T1S_PLCA_LOST n

end Sys2Proof.Machine
end

