-- ==== Sys2Proof/Machine/Shift.lean ====
section
/-! DEFINITION. Drive sequencers: start, events, faults, the drive stream, the shift unit and the replay queues (R332–R349). -/

namespace Sys2Proof.Machine

/-! Sequencers -/

def State.seq (s : State) (q : Nat) : Seq := SMap.get {} s.drive.seqs q

def State.updSeq (s : State) (q : Nat) (f : Seq → Seq) : State :=
  { s with drive := { s.drive with seqs := SMap.upd {} s.drive.seqs q f } }

/-- Register n of a sequencer: q0 reads 0 (R332). -/
def Seq.reg (d : Seq) (n : Nat) : Nat := if n = 0 then 0 else SMap.get 0 d.regs n

/-- A write to register n: one to q0 is ignored (R332). -/
def Seq.setReg (d : Seq) (n v : Nat) : Seq := if n = 0 then d else { d with regs := SMap.set 0 d.regs n (v % 2 ^ 32) }

/-- Running or waiting. -/
def Seq.alive (d : Seq) : Bool := d.st == 1 || d.st == 2

/-- `#2A.0020 SEQ_STATE/q` (R351). -/
def State.seqState (s : State) (q : Nat) : Nat := let d := s.seq q; d.pc % 4096 * 256 + d.slot * 16 + d.st

/-! What a quad runs under (R321) -/

/-- The state under the binding that ports show: a frame's binding takes effect on a port at its first subframe boundary of that
frame, and till then the binding of the frame before it stands. -/
def State.shownOn (s : State) (ps : List Nat) : State :=
  let b := if ps.any s.drive.begun.contains || s.tile.prevBind.isNone then s.tile.frontBind else s.tile.prevBind
  match b with
  | some b => s.under b
  | none => s

/-- The state under the binding a port shows, and under that of a quad's reference grid, whose port is the first to begin. -/
def State.portCfg (s : State) (p : Nat) : State := s.shownOn [p]
def State.gridCfg (s : State) (q : Nat) : State := s.shownOn ((List.range 4).map (4 * q + ·))

/-- The state under the binding of frame `k`, as a quad shifts it. -/
def State.frameCfg (s : State) (q k : Nat) : State :=
  match s.bindFor k, s.tile.front, s.tile.frontBind with
  | some b, _, _ => s.under b
  | none, some f, some b => if f.frame = k then s.under b else s.gridCfg q
  | _, _, _ => s.gridCfg q

/-- The state under the binding of the frame a quad is shifting, else of the frame its grid shows. -/
def State.seqCfg (s : State) (q : Nat) : State :=
  if (s.seq q).shifting then s.frameCfg q (s.seq q).frameNow else s.gridCfg q

/-- The buffer the drive stream reads: the shift source from FRAME to FSD, else the front buffer (R336). -/
def State.streamBack (s : State) (q : Nat) : Option Back :=
  if (s.seq q).shifting then (match s.tile.shift with | some (k, p) => s.backFor k p | none => s.tile.front) else s.tile.front

/-- Frame number the drive stream reads. -/
def State.streamFrame (s : State) (q : Nat) : Nat := match s.streamBack q with | some b => b.frame | none => 0

/-- Word of a lamp in a buffer. -/
def Back.word (b : Option Back) (lamp : Nat) : Nat := match b with | some b => SMap.get 0 b.words lamp | none => 0

/-- The lamp a slot drives under the bound map (R312). -/
def State.slotLamp (s : State) (p r st d c : Nat) : Option Nat :=
  let e := (s.bank BK.MAP (s.par P.MAP_BANK)).mapEntry (slotAddr p r st d c)
  if bit e 31 && decide (r < 32) then some (e % 1048576) else none

/-! Masks (R363) -/

def State.lampOf (s : State) (i : Nat) : Lamp := SMap.get {} s.health.lamps i

def State.updLamp (s : State) (i : Nat) (f : Lamp → Lamp) : State :=
  { s with health := { s.health with lamps := SMap.upd {} s.health.lamps i f } }

/-- MASK_MODE masks a status. -/
def State.maskMode (s : State) (st : Nat) : Bool := (st == 1 && s.par P.MASK_MODE != 0) || (st == 2 && s.par P.MASK_MODE == 2)

/-- A lamp is masked in frame `k`. -/
def State.masked (s : State) (k i : Nat) : Bool := s.maskMode (s.lampOf i).status && decide ((s.lampOf i).from_ ≤ k)

/-- A lamp that is masked or disabled by its trim word is never tested nor probed (R357, R359). -/
def State.neverTested (s : State) (i : Nat) : Bool :=
  s.masked (s.tile.displayed - 1) i || bit ((s.bank BK.COEFF (s.par P.COEFF_BANK)).coeff i) 59

/-! Faults (R346, R327) -/

/-- A quad stops with its operations and events gone, and is dark until it restarts (R326, R327). -/
def State.quadStop (s : State) (q : Nat) : State :=
  let again := match (s.seq q).restartAt with | some t => decide (s.now < t + sec) | none => false
  let s := s.updSeq q fun d => { d with
    st := 3, ops := [], replay := [], pending := [], align := none, shifting := false
    dark := if again then 2 else 1 }
  let b := SMap.get {} s.drive.buses q
  match b.owner with
  | .program _ => { s with drive := { s.drive with buses := SMap.set {} s.drive.buses q { b with owner := .idle } } }
  | _ => s

/-- A sequencer fault: recorded, reported, the sequencer stopped and the quad dark until it restarts, or until the next
commit when it faults again within 1 s of a restart. -/
def State.seqFault (s : State) (q code : Nat) : State :=
  let s := s.setPar P.SEQ_FAULT q (code * 65536 + (s.seq q).pc % 4096)
  let s := s.setBlob P.SEQ_REGS q 0 ((List.range 16).flatMap fun n => leBytes 4 ((s.seq q).reg n))
  (s.quadStop q).raise E.SEQ_FAULT q code

/-! Events (R338, R339) -/

/-- An event becomes pending at a sequencer whose program runs; one that is pending already is counted, but FRAME is
replaced. -/
def State.present (s : State) (q code : Nat) : State :=
  let d := s.seq q
  if !d.alive then s
  else if d.pending.contains code then
    if code = 0 then s else (s.bump P.EVENT_MISSED q).raiseTick E.SEQ_EVENT_MISSED q
  else s.updSeq q fun d => { d with pending := NSet.add d.pending code }

/-- The slot frame `k` is bound to. -/
def State.slotFor (s : State) (q k : Nat) : Nat :=
  match s.bindFor k with
  | some b => b.par true P.QUAD_PROGRAM q
  | none => s.par P.QUAD_PROGRAM q

/-- The program bound to frame `k` starts at ENTRY_RESET with its data memory loaded and OEC's hold released; FRAME stays
pending for it (R344). -/
def State.startSeq (s : State) (q k : Nat) : State :=
  let slot := s.slotFor q k
  if 7 < slot || !s.bankSealed BK.PROG slot then s
  else
    let img := s.bank BK.PROG slot
    s.updSeq q fun d => { d with
      st := 1, slot := slot, pc := img.num 8 2, entryFrame := img.num 10 2, held := [], next := s.now, waitAt := s.now
      data := (List.range img.nD).filterMap fun i => if img.dataWord i = 0 then none else some (i, img.dataWord i)
      pending := NSet.add d.pending 0, frameOf := k, align := none, ldAt := 0, shifting := false }

/-- FRAME for frame `k`: it starts a stopped program (R344), and replaces an unconsumed FRAME (R339). -/
def State.presentFrame (s : State) (q k : Nat) : State :=
  let d := s.seq q
  if d.st = 0 then
    if s.rdy B.DRIVE && d.dark != 2 then (s.updSeq q fun d => { d with pending := [] }).startSeq q k else s
  else if d.alive then (s.updSeq q fun d => { d with frameOf := k }).present q 0
  else s

/-- The cycle of a boundary event, on the reference grid. -/
def State.boundary (s : State) (q : Nat) : State := s.updSeq q fun d => { d with boundary := s.now }

/-- What a plane boundary, or the start of a row slot's blanking, presents in B mode: at the one that latches the last
plane of a frame, FRAME when a shift source exists, and else the same frame's schedule again (R318, R338).  FRAME then
stands in PLANE's place, as the reference program takes it (log entry 17). -/
def State.planeEvent (s : State) (q : Nat) : State :=
  let d := s.seq q
  let all := d.planeFrame == 0 || decide (((s.frameCfg q (d.planeFrame - 1)).planeList q).length ≤ d.planes)
  match s.tile.shift, all with
  | some (k, _), true =>
    if d.planeFrame = k + 1 then s.present q 2
    else (s.updSeq q fun d => { d with planeFrame := k + 1, planes := 0 }).presentFrame q k
  | none, true => (s.updSeq q fun d => { d with planes := 0 }).present q 2
  | _, false => s.present q 2

/-! The shift restart (R345) -/

/-- A quad shifts frame `k` again from its start: operations discarded, cursor rewound, FRAME alone pending, and the
program at ENTRY_FRAME.  A restart in the cycle in which FSD completes is too late, and a B-mode quad that has not begun frame `k`
has nothing to shift again. -/
def State.restartShift (s : State) (q k : Nat) : State :=
  let d := s.seq q
  if (d.shifted = k + 1 ∧ d.shiftedAt = s.now) ∨ ((s.frameCfg q k).qMode q = 2 ∧ d.planeFrame ≠ k + 1) then s
  else s.updSeq q fun d => d.again k s.now

/-! Words on the strands (R336) -/

/-- Driver and channel of position `i` in a row of `D` drivers, in a word order. -/
def wordPlace (order dd i : Nat) : Nat × Nat :=
  if order = 0 then (dd - 1 - i / 16, 15 - i % 16) else (dd - 1 - i % dd, 15 - i / dd)

/-- The words of one strand from position `i`: 0 beyond DRIVERS, and nothing but low beyond STRANDS.  The state is the
quad's configuration. -/
def State.strandWords (s : State) (f : Nat → Nat → Nat → Nat → Nat) (q p st order i n : Nat) : List Nat :=
  let dd := s.qD q
  (List.range n).map fun j =>
    let (d, c) := wordPlace order dd ((i + j) % (16 * dd))
    if s.strands p ≤ st || s.drivers p ≤ d then 0 else f p st d c

/-- The probe pattern at a place: on for the window's channels, but for lamps that are never tested (R336, R359). -/
def State.inWindow (s : State) (q first r p st d c : Nat) : Bool :=
  let n := 16 * d + c
  decide (first ≤ n) && decide (n < first + s.par P.PROBE_WINDOW) && decide (n < 16 * s.qD q) &&
    (match s.slotLamp p r st d c with | some l => !s.neverTested l | none => false)

/-! A standby member's own drive (R194) -/

/-- A paired member that does not drive keeps what it would have driven, to compare it with what it hears. -/
def State.listens (s : State) : Bool := s.isPairedTile && !s.mayDrive

/-- Bits of one word of a shift operation: 16 of SHW, one of SHB, the count of SHR (R336). -/
def PinOp.width (o : PinOp) : Nat := match o.kind with | 0 => 16 | 1 => 1 | _ => o.count

/-- One bit more in a running CRC-32. -/
def crcBit (c : BitVec 32) (b : Bool) : BitVec 32 :=
  if c.getLsbD 0 != b then (c >>> 1) ^^^ 0xEDB88320#32 else c >>> 1

/-- The bits of words of `w` bits, each from its highest bit (R335, PPW's order; DEDUCED, log entry 18), enter a running CRC-32. -/
def crcWords (c : BitVec 32) (w : Nat) (ws : List Nat) : BitVec 32 :=
  ws.foldl (fun c x => (List.range w).reverse.foldl (fun c i => crcBit c (bit x i)) c) c

def State.updOwn (s : State) (p : Nat) (f : OwnSub → OwnSub) : State :=
  { s with red := { s.red with own := SMap.upd {} s.red.own p f } }

/-- Words a strand of a port would have carried in the subframe under way (log entry 18: the subframe in which their operation
ends). -/
def State.ownShift (s : State) (p st w : Nat) (ws : List Nat) : State :=
  if !s.listens then s
  else s.updOwn p fun r => { r with crcs := SMap.set 0xFFFFFFFF#32 r.crcs st (crcWords (SMap.get 0xFFFFFFFF#32 r.crcs st) w ws) }

/-- Edges of `LPn_LT` of an operation that runs from `a` to `b` on the reference grid: LAT holds the line high throughout, a shift in
its last `latch` periods; each port follows by its stagger (R336, R341). -/
def State.ownLatch (s : State) (q : Nat) (o : PinOp) (a b : Nat) : State :=
  let c := s.seqCfg q
  let rise := if o.kind = 3 then some a else if o.kind < 3 ∧ o.latch ≠ 0 then some (b - o.latch * c.qDiv q) else none
  match rise with
  | none => s
  | some r =>
    if !s.listens then s
    else
      let g := s.gridCfg q
      let base := g.phaseCycles s.rate (g.refPort s.rate q)
      s.each (((List.range 4).filter (bit o.mask)).map (4 * q + ·)) fun s p =>
        let lag := g.phaseCycles s.rate p - base
        if g.portOn p then s.updOwn p fun x => { x with lts := (b + lag) :: (r + lag) :: x.lts } else s

/-- What a shift operation sends on every strand of the ports in its mask. -/
def State.sendShift (s : State) (q : Nat) (o : PinOp) (f : Nat → Nat → List Nat) : State :=
  s.each (((List.range 4).filter (bit o.mask)).map (4 * q + ·)) fun s p =>
    if (s.seqCfg q).portOn p then s.each (List.range 4) fun s st =>
      if s.mayDrive then s.send (.shift p st o.latch (f p st)) else s.ownShift p st o.width (f p st)
    else s

/-! Operations (R336, R341, R349) -/

/-- Cycles an operation takes. -/
def State.opCycles (s : State) (q : Nat) (o : PinOp) : Nat :=
  let ck := (s.seqCfg q).qDiv q
  match o.kind with
  | 0 => 16 * o.count * ck
  | 1 => o.count * ck
  | 2 => o.count * ck
  | 3 => o.count * ck
  | 6 => s.par P.T_OD / 4 + ck
  | _ => 0

/-- Cycle at which everything in the unit has ended, played without a gap. -/
def State.unitEnd (s : State) (q : Nat) : Nat :=
  let d := s.seq q
  d.ops.foldl (fun t o => max t o.from_ + s.opCycles q o) d.idleAt

/-- Each port's copy of an operation that starts at `st` waits out the port's stagger; more than 64 overflow its queue
(R341). -/
def State.replayPush (s : State) (q : Nat) (o : PinOp) (st : Nat) : State × Bool :=
  let c := s.gridCfg q
  let base := c.phaseCycles s.rate (c.refPort s.rate q)
  ((List.range 4).filter (bit o.mask)).foldl (fun (acc : State × Bool) i =>
    let p := 4 * q + i
    let due := st + (c.phaseCycles s.rate p - base)
    let l := (SMap.get [] (acc.1.seq q).replay i).filter (st < ·)
    let l := if st < due ∧ c.portOn p = true then l ++ [due] else l
    (acc.1.updSeq q fun d => { d with replay := SMap.set [] d.replay i l }, acc.2 || decide (64 < l.length))) (s, false)

/-- PRB: the pulse, when it ends before the blanking does; else it is counted as skipped.  A pulse tests the window's
lamps in the row of its slot and advances the rotation (R349, R359). -/
def State.probePulse (s : State) (q : Nat) (o : PinOp) (e : Nat) : State :=
  let d := s.seq q
  if d.blankEnd ≤ e then s.bump P.PROBE_SKIPPED q
  else
    let c := s.gridCfg q
    let dd := c.qD q
    let s := s.each (((List.range 4).filter (bit o.mask)).map (4 * q + ·)) fun s p =>
      if !c.portOn p then s
      else
        let s := s.when s.mayDrive fun s => s.send (.lamp p 6 (s.par P.T_OD))
        s.each (List.range (c.strands p)) fun s st =>
          let ls := (List.range (16 * c.drivers p)).filterMap fun n =>
            if c.inWindow q d.probeFirst d.rowNow p st (n / 16) (n % 16) then c.slotLamp p d.rowNow st (n / 16) (n % 16) else none
          { s with health := { s.health with
            tested := ls.foldl (fun t l => NSet.add t ((16 * q + 4 * (p % 4) + st) * 1048576 + l)) s.health.tested } }
    let nxt := d.probeFirst + s.par P.PROBE_WINDOW
    (s.updSeq q fun d => { d with probeFirst := if 16 * dd ≤ nxt then 0 else nxt }).count 261

/-- SHB of a plane: the bit of each lamp's value, in descending driver and channel order (R318, R336). -/
def State.planeBit (s : State) (q : Nat) (b : Option Back) (r j p st d c : Nat) : Nat :=
  match s.slotLamp p r st d c with
  | some l => b2n (bit (Back.word b l >>> (16 - s.qBits q)) j)
  | none => 0

/-- Plane index `n` of frame `k` is shifted. -/
def State.shiftPlane (s : State) (q : Nat) (o : PinOp) (k n : Nat) : State :=
  let c := s.frameCfg q k
  let b := match s.tile.front with
    | some f => if f.frame = k then some f else (match s.tile.shift with | some (k', p) => s.backFor k' p | none => some f)
    | none => (match s.tile.shift with | some (k', p) => s.backFor k' p | none => none)
  match (c.planeList q)[n]? with
  | none => s
  | some (_, r, j) =>
    s.sendShift q o fun p st => (c.strandWords (c.planeBit q b r j) q p st 0 0 o.count)

/-- An operation that started at `st` and ends at `e` leaves the unit, with its effect (R336, R340, R347). -/
def State.finishOp (s : State) (q : Nat) (o : PinOp) (st e : Nat) : State :=
  let late := decide (o.num < (s.seq q).mustEnd) && decide ((s.seq q).blankEnd ≤ e)
  let s := (s.updSeq q fun d => { d with ops := d.ops.drop 1, idleAt := e }).ownLatch q o st e
  let (s, full) := if o.kind = 4 ∨ o.kind = 7 then (s, false) else s.replayPush q o st
  let d := s.seq q
  let c := s.seqCfg q
  let dd := c.qD q
  if full then s.seqFault q 3
  else if late then s.seqFault q 5
  else match o.kind with
  | 0 =>
    match o.src with
    | 0 =>
      if 16 * dd < d.taken + o.count then s.seqFault q 4
      else
        let b := s.streamBack q
        let word (p st d' ch : Nat) : Nat := match c.slotLamp p d.row st d' ch with | some l => Back.word b l | none => 0
        (s.sendShift q o fun p st => c.strandWords word q p st d.order d.taken o.count).updSeq q
          fun d => { d with taken := d.taken + o.count }
    | 1 =>
      let word (p st d' ch : Nat) : Nat := if c.inWindow q d.probeFirst d.rowNow p st d' ch then 0xFFFF else 0
      (s.sendShift q o fun p st => c.strandWords word q p st d.order d.patternAt o.count).updSeq q
        fun d => { d with patternAt := (d.patternAt + o.count) % (16 * max dd 1) }
    | 2 => s.sendShift q o fun _ _ => List.replicate o.count 0
    | _ => s.sendShift q o fun p st => if c.strands p ≤ st then List.replicate o.count 0 else List.replicate o.count 0xFFFF
  | 1 =>
    match o.src with
    | 0 =>
      if d.planeFrame = 0 ∨ ((s.frameCfg q (d.planeFrame - 1)).planeList q).length ≤ d.planes then s.seqFault q 4
      else (s.shiftPlane q o (d.planeFrame - 1) d.planes).updSeq q
        fun d => { d with lastPlane := some (d.planeFrame - 1, d.planes), planes := d.planes + 1 }
    | 1 => match d.lastPlane with | some (k, n) => s.shiftPlane q o k n | none => s
    | 2 => s.sendShift q o fun p st =>
        c.strandWords (fun p st d' ch => b2n (c.inWindow q d.probeFirst d.rowNow p st d' ch)) q p st 0 0 o.count
    | _ => s.sendShift q o fun _ _ => List.replicate o.count 0
  | 2 => s.sendShift q o fun p st => if c.strands p ≤ st then [0] else [o.value % 2 ^ o.count]
  | 3 => if !s.mayDrive then s else s.each (((List.range 4).filter (bit o.mask)).map (4 * q + ·)) fun s p =>
      if c.portOn p then s.send (.lamp p 3 o.count) else s
  | 4 => s.updSeq q fun d => { d with row := (o.value + o.count % 32) % 2 ^ 32, order := o.src % 2, taken := 0, patternAt := 0 }
  | 5 =>
    let ps := (List.range 4).filter (bit o.mask)
    let s := s.updSeq q fun d => { d with
                                         held := if o.src % 2 = 1 then ps.foldl NSet.add d.held else d.held.filter (fun i => !ps.contains i)
                                         heldTo := if o.src % 2 = 1 then d.heldTo
                                           else (ps.filter d.held.contains).foldl (fun m i => SMap.set 0 m i (e + 1)) d.heldTo }
    if !s.mayDrive then s else s.each ps fun s i => s.send (.lamp (4 * q + i) 5 (o.src % 2))
  | 6 => s.probePulse q o e
  | _ =>
    if !d.shifting then s
    else
      let s := s.updSeq q fun d => { d with shifted := d.frameNow + 1, shiftedAt := e, shifting := false }
      match s.tile.dtAt with
      | some t =>
        if s.tile.displayed = d.frameNow + 1 then s.setPar P.SHIFT_MARGIN q (unsigned 32 (max (-(4 * (e - t) : Nat) : Int) (-(2 ^ 31)))) else s
      | none => s

/-- Zero-time operations at the front take effect as soon as their time has come. -/
def State.settleUnit (s : State) (q : Nat) : Nat → State
  | 0 => s
  | n + 1 =>
    let d := s.seq q
    match d.ops with
    | [] => s
    | o :: _ =>
      let st := max d.idleAt o.from_
      if (o.kind = 4 ∨ o.kind = 5 ∨ o.kind = 7) ∧ st ≤ s.now then (s.finishOp q o st st).settleUnit q n else s

/-- SHIFT_OPERATION_END: the operation at the front of the unit has run its time. -/
def execShiftOperationEnd (q : Fin 8) (s : State) : Res :=
  .next <|
  let d := s.seq q
  match d.ops with
  | [] => s
  | o :: _ =>
    let st := max d.idleAt o.from_
    let e := st + s.opCycles q o
    if s.now < e then s else (s.finishOp q o st e).settleUnit q 4

end Sys2Proof.Machine
end

