-- ==== Sys2Proof/Machine/Sequencer.lean ====
section
/-! DEFINITION. The instructions of the drive sequencers (R332–R350): a command stands for the issue of the instruction at
the pc of sequencer `q`, which decodes its operands from the word.  A command that names another opcode than the word's, or
that comes while the sequencer does not issue, changes nothing (log entry 1). -/

namespace Sys2Proof.Machine

/-! Fields (R334) -/

def iRd (w : Nat) : Nat := field w 22 4
def iRa (w : Nat) : Nat := field w 18 4
def iRb (w : Nat) : Nat := field w 14 4
def iImm (w : Nat) : Nat := field w 0 18
/-- The 18-bit immediate, sign-extended to 32 bits. -/
def iSImm (w : Nat) : Nat := unsigned 32 (signed 18 (iImm w))

/-- Registers an instruction word reads. -/
def readsOf (w : Nat) : List Nat :=
  let o := field w 26 6
  if o = 2 then [iRd w]
  else if o = 3 ∨ o = 4 ∨ o = 6 ∨ o = 7 ∨ o = 8 then [iRa w, iRb w]
  else if o = 5 ∨ o = 9 ∨ o = 10 ∨ o = 11 then [iRa w]
  else if o = 12 then [iRd w, iRa w]
  else if 17 ≤ o ∧ o ≤ 19 then [iRa w]
  else if o = 21 then [15]
  else if o = 32 ∨ o = 33 then (if field w 0 11 = 0 then [iRd w] else [])
  else if o = 34 ∨ o = 36 then [iRd w]
  else if o = 40 then [iRa w]
  else if o = 41 then [iRd w]
  else []

/-! Issue -/

/-- The word sequencer `q` may issue now, if its opcode is `op` and no load it reads is outstanding (R337). -/
def State.issueWord (s : State) (q op : Nat) : Option Nat :=
  let d := s.seq q
  let w := (s.bank BK.PROG d.slot).instr d.pc
  if d.st == 1 && decide (d.next ≤ s.now) && field w 26 6 == op &&
      !((readsOf w).any fun r => r != 0 && r == d.ldReg && decide (s.now < d.ldAt)) then some w
  else none

/-- One instruction of a sequencer: counted and sampled as it issues. -/
def State.issue (s : State) (q op : Nat) (f : State → Nat → State) : State :=
  match s.issueWord q op with
  | none => s
  | some w => f ((s.count 259).sampleIssue q) w

/-- The pc goes to `target`, and the next instruction may issue after `n` cycles; a pc that reaches N_I is a fault
(R346). -/
def State.seqGo (s : State) (q target n : Nat) : State :=
  let s := s.updSeq q fun d => { d with pc := target, next := s.now + n }
  if (s.bank BK.PROG (s.seq q).slot).nI ≤ target then s.seqFault q 1 else s

/-- On to the next word. -/
def State.seqNext (s : State) (q n : Nat) : State := s.seqGo q ((s.seq q).pc + 1) n

def State.seqSet (s : State) (q r v : Nat) : State := s.updSeq q fun d => d.setReg r v

/-- An instruction that writes rd from its word and the registers. -/
def State.alu (s : State) (q op : Nat) (f : Seq → Nat → Nat) : Res :=
  .next (s.issue q op fun s w => (s.seqSet q (iRd w) (f (s.seq q) w)).seqNext q 1)

/-! Moves and arithmetic (R335) -/

/-- NOP. -/
def execSeqNop (q : Fin 8) (s : State) : Res := .next (s.issue q 0x00 fun s _ => s.seqNext q 1)
/-- MOVI: rd = imm. -/
def execSeqMovi (q : Fin 8) (s : State) : Res := s.alu q 0x01 fun _ w => iImm w
/-- MOVH: rd[31:16] = imm[15:0]. -/
def execSeqMovh (q : Fin 8) (s : State) : Res := s.alu q 0x02 fun d w => iImm w % 65536 * 65536 + d.reg (iRd w) % 65536
/-- ADD. -/
def execSeqAdd (q : Fin 8) (s : State) : Res := s.alu q 0x03 fun d w => d.reg (iRa w) + d.reg (iRb w)
/-- SUB. -/
def execSeqSub (q : Fin 8) (s : State) : Res := s.alu q 0x04 fun d w => d.reg (iRa w) + 2 ^ 32 - d.reg (iRb w)
/-- ADDI: the immediate is sign-extended. -/
def execSeqAddi (q : Fin 8) (s : State) : Res := s.alu q 0x05 fun d w => d.reg (iRa w) + iSImm w
/-- AND. -/
def execSeqAnd (q : Fin 8) (s : State) : Res := s.alu q 0x06 fun d w => d.reg (iRa w) &&& d.reg (iRb w)
/-- OR. -/
def execSeqOr (q : Fin 8) (s : State) : Res := s.alu q 0x07 fun d w => d.reg (iRa w) ||| d.reg (iRb w)
/-- XOR. -/
def execSeqXor (q : Fin 8) (s : State) : Res := s.alu q 0x08 fun d w => d.reg (iRa w) ^^^ d.reg (iRb w)
/-- SHLI. -/
def execSeqShli (q : Fin 8) (s : State) : Res := s.alu q 0x09 fun d w => d.reg (iRa w) * 2 ^ (w % 32)
/-- SHRI: logical. -/
def execSeqShri (q : Fin 8) (s : State) : Res := s.alu q 0x0A fun d w => d.reg (iRa w) / 2 ^ (w % 32)

/-! Data memory -/

/-- The data address an instruction forms from ra and its signed immediate. -/
def Seq.dataAddr (d : Seq) (w : Nat) : Nat := (d.reg (iRa w) + iSImm w) % 2 ^ 32

/-- LD: the result is usable 2 cycles after issue; an address outside 0 to 1,023 is a fault. -/
def execSeqLd (q : Fin 8) (s : State) : Res :=
  .next <| s.issue q 0x0B fun s w =>
    let a := (s.seq q).dataAddr w
    if 1023 < a then s.seqFault q 2
    else
      let s := s.seqSet q (iRd w) (SMap.get 0 (s.seq q).data a)
      (s.updSeq q fun d => { d with ldReg := iRd w, ldAt := s.now + 2 }).seqNext q 1

/-- ST. -/
def execSeqSt (q : Fin 8) (s : State) : Res :=
  .next <| s.issue q 0x0C fun s w =>
    let a := (s.seq q).dataAddr w
    if 1023 < a then s.seqFault q 2
    else (s.updSeq q fun d => { d with data := SMap.set 0 d.data a (d.reg (iRd w)) }).seqNext q 1

/-! Special registers (R333) -/

/-- Value of a selector in the cycle of issue. -/
def State.special (s : State) (q sel : Nat) : Nat :=
  let d := s.seq q
  let c := s.seqCfg q
  match sel with
  | 0 => d.rowNow
  | 1 => d.subNow
  | 2 => match ((s.frameCfg q (d.planeFrame - 1)).planeList q)[d.planes]? with | some (_, _, j) => j | none => 0
  | 3 => s.streamFrame q % 2 ^ 32
  | 4 => c.qD q
  | 5 => c.qRows q
  | 6 => c.subframes
  | 7 => c.qBits q
  | 8 => field (c.par P.PORT_ENABLE) (4 * q) 4
  | 9 => q
  | 10 => b2n d.probeNow
  | 11 => d.probeFirst
  | 12 => min (s.par P.PROBE_WINDOW) (16 * c.qD q - d.probeFirst)
  | 13 => d.busStatus
  | 14 => (s.now - d.boundary) % 2 ^ 32
  | 15 => if !s.paired then 0 else if s.sluice = SL.ACTIVE then 1 else 2
  | _ => 0

/-- MFS: rd = special register imm[7:0]. -/
def execSeqMfs (q : Fin 8) (s : State) : Res :=
  .next <| s.issue q 0x0D fun s w => (s.seqSet q (iRd w) (s.special q (w % 256))).seqNext q 1

/-! Branches -/

/-- A branch is taken in 2 cycles, and else costs 1. -/
def State.branch (s : State) (q w : Nat) (taken : Bool) : State :=
  if taken then s.seqGo q (w % 4096) 2 else s.seqNext q 1

/-- BR. -/
def execSeqBr (q : Fin 8) (s : State) : Res := .next (s.issue q 0x10 fun s w => s.branch q w true)
/-- BZ. -/
def execSeqBz (q : Fin 8) (s : State) : Res := .next (s.issue q 0x11 fun s w => s.branch q w ((s.seq q).reg (iRa w) == 0))
/-- BNZ. -/
def execSeqBnz (q : Fin 8) (s : State) : Res := .next (s.issue q 0x12 fun s w => s.branch q w ((s.seq q).reg (iRa w) != 0))
/-- DBNZ: ra = ra − 1; branch if the result is not 0. -/
def execSeqDbnz (q : Fin 8) (s : State) : Res :=
  .next <| s.issue q 0x13 fun s w =>
    let v := ((s.seq q).reg (iRa w) + 2 ^ 32 - 1) % 2 ^ 32
    (s.seqSet q (iRa w) v).branch q w (v != 0)
/-- CALL: q15 = pc + 1. -/
def execSeqCall (q : Fin 8) (s : State) : Res :=
  .next <| s.issue q 0x14 fun s w => (s.seqSet q 15 ((s.seq q).pc + 1)).branch q w true
/-- RET: pc = q15[11:0]. -/
def execSeqRet (q : Fin 8) (s : State) : Res :=
  .next <| s.issue q 0x15 fun s _ => s.seqGo q ((s.seq q).reg 15 % 4096) 2

/-! Waiting -/

/-- WAIT: issue stops until an event of the mask is taken. -/
def execSeqWait (q : Fin 8) (s : State) : Res :=
  .next <| s.issue q 0x18 fun s w =>
    s.updSeq q fun d => { d with st := 2, mask := w % 65536, rd := iRd w, waitAt := s.now }

/-- WAIT_EVENT_TAKEN: the WAIT completes on the lowest pending event its mask enables, unless that is the FRAME of a
frame bound to another slot, whose program then starts (R338, R344). -/
def execWaitEventTaken (q : Fin 8) (s : State) : Res :=
  .next <|
  let d := s.seq q
  match d.pending.find? fun c => bit d.mask c with
  | none => s
  | some c =>
    if d.st ≠ 2 then s
    else if c = 0 ∧ s.slotFor q d.frameOf ≠ d.slot then (s.startSeq q d.frameOf).raise E.PROG_SWITCHED q
    else
      let bmode := (s.seqCfg q).qMode q == 2
      let s := s.updSeq q fun d => { (d.setReg d.rd c) with
        st := 1, pending := NSet.del d.pending c
        align := if (1 ≤ c ∧ c ≤ 4) ∨ (c = 0 ∧ bmode = true) then some s.now else none
        probeNow := d.probeOpens && (c == 2 || c == 3)
        probeOpens := d.probeOpens && !(c == 2 || c == 3) }
      let s := if c = 0 then s.updSeq q fun d => { d with shifting := true, frameNow := d.frameOf, taken := 0 } else s
      s.seqNext q 1

/-- DLY: nothing issues for imm cycles, at least 1. -/
def execSeqDly (q : Fin 8) (s : State) : Res := .next (s.issue q 0x19 fun s w => s.seqNext q (max (iImm w) 1))

/-- SEQ_WATCHDOG_EXPIRY: 2²⁴ cycles pass with no WAIT issued; one issued in the last cycle is late (R346, R27). -/
def execSeqWatchdogExpiry (q : Fin 8) (s : State) : Res :=
  .next (if (s.seq q).st = 1 ∧ (s.seq q).waitAt + 16777216 ≤ s.now then s.seqFault q 6 else s)

/-! Trace and fault (R348) -/

/-- TRACE: a mark in the sample buffer when enabled, and EV 606 when imm[15] is set; else a NOP. -/
def execSeqTrace (q : Fin 8) (s : State) : Res :=
  .next <| s.issue q 0x1A fun s w =>
    if !bit (s.par P.TRACE_ENABLE) q then s.seqNext q 1
    else
      let d := s.seq q
      let s := s.samplePut
        { source := q, kind := 1, latency := 1, word := w, pc := d.pc, addr := 0xFFFFFFFF
          frame := s.streamFrame q % 65536, cycles := s.now - d.boundary }
      let s := if bit w 15 then s.raiseTick E.SEQ_TRACE q (w % 65536) else s
      s.seqNext q 1

/-- FAULT: a sequencer fault with code 0x80 + imm[6:0]. -/
def execSeqFault (q : Fin 8) (s : State) : Res := .next (s.issue q 0x1B fun s w => s.seqFault q (0x80 + w % 128))

/-! Shift-unit instructions (R336, R340) -/

/-- The count of a shift operation or LAT.  One outside 1 to 1,024 words or periods, or 1 to 32 bits of SHR, is a free count within
that range: the spec gives no effect for it and names no fault (DESIGN CHOICE, log entry 17). -/
def State.opCount (s : State) (op raw : Nat) : Nat × State :=
  let top := if op = 0x22 then 32 else 1024
  if op ≤ 0x23 ∧ (raw = 0 ∨ top < raw) then let x := s.takeFree; (x.1 % top + 1, x.2) else (raw, s)

/-- A shift-unit instruction enters the unit, unless three operations wait; the first one after a WAIT on a boundary
event is aligned to it when it issues within 8 cycles, and a later one is counted as slipped (R337, R340). -/
def State.shiftIssue (s : State) (q op : Nat) : Res :=
  .next <|
  if 4 ≤ (s.seq q).ops.length then s
  else s.issue q op fun s w =>
    let d := s.seq q
    let aligned := match d.align with | some t => decide (s.now ≤ t + 8) | none => false
    let slip := d.align.isSome && !aligned
    let s := if slip then (s.bump P.ALIGN_SLIP q).raiseLimited E.SEQ_ALIGN_SLIP q sec else s
    let cnt := field w 0 11
    let (n, s) := s.opCount op (if cnt = 0 ∧ (op = 0x20 ∨ op = 0x21) then d.reg (iRd w) else cnt)
    let o : PinOp :=
      { num := d.issued, kind := op - 0x20, mask := iRa w, src := field w 16 2, latch := field w 11 5
        count := n
        value := d.reg (iRd w), from_ := if aligned then d.boundary + 8 else s.now + 8 }
    let s := s.updSeq q fun d => { d with
      ops := d.ops ++ [o], issued := d.issued + 1, align := none
      mustEnd := if op = 0x23 ∧ s.now < d.blankEnd ∧ (s.gridCfg q).qMode q = 2 then d.issued else d.mustEnd }
    (s.settleUnit q 4).seqNext q 1

/-- SHW. -/
def execSeqShw (q : Fin 8) (s : State) : Res := s.shiftIssue q 0x20
/-- SHB. -/
def execSeqShb (q : Fin 8) (s : State) : Res := s.shiftIssue q 0x21
/-- SHR. -/
def execSeqShr (q : Fin 8) (s : State) : Res := s.shiftIssue q 0x22
/-- LAT. -/
def execSeqLat (q : Fin 8) (s : State) : Res := s.shiftIssue q 0x23
/-- STRM. -/
def execSeqStrm (q : Fin 8) (s : State) : Res := s.shiftIssue q 0x24
/-- OEC. -/
def execSeqOec (q : Fin 8) (s : State) : Res := s.shiftIssue q 0x25
/-- PRB. -/
def execSeqPrb (q : Fin 8) (s : State) : Res := s.shiftIssue q 0x26
/-- FSD. -/
def execSeqFsd (q : Fin 8) (s : State) : Res := s.shiftIssue q 0x27

/-! Bus instructions (R335, R346, R350) -/

def State.bus (s : State) (b : Nat) : Bus := SMap.get {} s.drive.buses b

def State.updBus (s : State) (b : Nat) (f : Bus → Bus) : State :=
  { s with drive := { s.drive with buses := SMap.upd {} s.drive.buses b f } }

/-- A paired member that is not ACTIVE drives no bus. -/
def State.busSilent (s : State) : Bool := s.isPairedTile && s.sluice != SL.ACTIVE

/-- The bytes of an I2C descriptor from word `a`. -/
def Seq.descBytes (d : Seq) (a n : Nat) : List Byte :=
  (List.range n).map fun i => BitVec.ofNat 8 (SMap.get 0 d.data (a + i / 4) / 256 ^ (i % 4))

/-- I2C: starts the transaction described at data[ra + imm]; stalls while the bus is busy (R337). -/
def execSeqI2c (q : Fin 8) (s : State) : Res :=
  .next <|
  if (s.bus q).owner ≠ .idle then s
  else s.issue q 0x28 fun s w =>
    let d := s.seq q
    let a := d.dataAddr w
    let e := SMap.get 0 d.data a
    if 1023 < a then s.seqFault q 2
    else if !s.busI2c q || 1019 < a || 8 < field e 8 4 || 8 < field e 0 4 then s.seqFault q 7
    else
      let s := s.updBus q fun b => { b with owner := .program a, retried := false }
      let s := if s.busSilent then s
        else s.send (.bus q (field e 16 7) (field e 0 4 != 0) (d.descBytes (a + 1) (field e 8 4)))
      s.seqNext q 1

/-- Push-pull instructions need a push-pull bus and 1 to 32 bits, and take 1 + 2 × DB_DIV × n cycles. -/
def State.pushPull (s : State) (q op : Nat) (f : State → Nat → Nat → State) : Res :=
  .next <| s.issue q op fun s w =>
    let n := w % 64
    if s.par P.DB_MODE q ≠ 4 ∨ n = 0 ∨ 32 < n then s.seqFault q 7
    else (f s w n).seqNext q (1 + 2 * s.par P.DB_DIV q * n)

/-- PPW: the low n bits of rd, most significant first; silent members send nothing and report status 4. -/
def execSeqPpw (q : Fin 8) (s : State) : Res :=
  s.pushPull q 0x29 fun s w n =>
    let v := (s.seq q).reg (iRd w) % 2 ^ n
    if s.busSilent then s.updSeq q fun d => { d with busStatus := 4 }
    else (s.send (.pushPull q n v)).updSeq q fun d => { d with busStatus := 0 }

/-- PPR: n bits into rd, most significant first; `bits` is what stands on `DBn_D`. -/
def execSeqPpr (q : Fin 8) (bits : BitVec 32) (s : State) : Res :=
  s.pushPull q 0x2A fun s w n =>
    if s.busSilent then (s.seqSet q (iRd w) 0).updSeq q fun d => { d with busStatus := 4 }
    else (s.seqSet q (iRd w) (bits.toNat % 2 ^ n)).updSeq q fun d => { d with busStatus := 0 }

/-! Sampling (R505) -/

/-- SAMPLE_TAKE: the (P + r)th instruction of a source after its previous sample is recorded, and the next one is drawn.
The instructions of the fixture sequencer and the control processor are not the model's (log entry 20). -/
def execSampleTake (i : Fin 10) (word pc addr : BitVec 32) (latency : Nat) (s : State) : Res :=
  .next <|
  if s.par P.SAMPLE_PERIOD i = 0 || (decide (i.val < 8) && (!s.isTile || SMap.get 0 s.perf.left i != 1)) ||
      (i.val == 8 && !s.isHead) then s
  else
    let d := s.seq i
    (s.samplePut
      { source := i, kind := 0, latency := latency, word := word.toNat, pc := pc.toNat, addr := addr.toNat
        frame := if i.val < 8 then s.streamFrame i % 65536 else 0, cycles := if i.val < 8 then s.now - d.boundary else 0 }).sampleDraw i

end Sys2Proof.Machine
end

