-- ==== Sys2Proof/Machine/Lamps.lean ====
section
/-! DEFINITION. Lamp ports: driver buses and sensor reads, subframes, row slots, plane boundaries, and quads that restart
(R313–R327, R338, R347, R349). -/

namespace Sys2Proof.Machine

/-! Driver buses (R323–R325) -/

/-- A fault on a bus is counted (R324). -/
def State.busError (s : State) (b : Nat) : State := s.bump P.DB_ERRORS b

/-- What an end is to the transaction: none while it is retried, else its result code and bytes (R324). -/
def State.busEnd (s : State) (b : Nat) (r : BusEnd) : State × Option (Nat × List Byte) :=
  match r with
  | .ok bytes => (s.updBus b fun x => { x with failed := false, stuckTold := false }, some (0, bytes))
  | .nack =>
    let s := s.busError b
    if (s.bus b).retried then (s.raise E.DB_NACK b, some (1, []))
    else (s.updBus b fun x => { x with retried := true }, none)
  | .freed => (s.busError b, none)
  | .stuck =>
    let s := s.busError b
    let s := s.raiseIf (!(s.bus b).stuckTold) E.DB_STUCK b
    (s.updBus b fun x => { x with failed := true, stuckTold := true }, some (3, []))

/-- The bus is free again. -/
def State.busFree (s : State) (b : Nat) : State := s.updBus b fun x => { x with owner := .idle, retried := false }

/-- A program transaction ends: read bytes and result in the descriptor, BUS_STATUS, and the BUS event (R338, R350). -/
def State.programDone (s : State) (q a st : Nat) (bytes : List Byte) : State :=
  let st := if s.busSilent then 4 else st
  let s := s.updSeq q fun d =>
    let e := SMap.get 0 d.data a
    let n := if st = 0 ∨ st = 4 then field e 0 4 else 0
    let put (m : SMap Nat) (i : Nat) : SMap Nat :=
      let b := if st = 4 then 0 else (bytes.getD i 0).toNat
      SMap.upd 0 m (a + 3 + i / 4) fun w => w - field w (8 * (i % 4)) 8 * 256 ^ (i % 4) + b * 256 ^ (i % 4)
    let data := (List.range n).foldl put d.data
    { d with data := SMap.set 0 data a (e % 2 ^ 28 + st * 2 ^ 28), busStatus := st }
  (s.busFree q).present q 5

/-- BUS_TRANSACTION_END: the program's I2C transaction on a bus ends (R324). -/
def execBusTransactionEnd (b : Fin 8) (r : BusEnd) (s : State) : Res :=
  .next <|
  match (s.bus b).owner with
  | .program a =>
    if s.busSilent then s.programDone b a 4 []
    else match s.busEnd b r with
      | (s, none) => s
      | (s, some (st, bytes)) => s.programDone b a st bytes
  | _ => s

/-- A sensor's word in 1/16 °C (R325). -/
def sensorTemp (fmt x : Nat) : Int :=
  let v := signed 16 x
  match fmt with | 0 => v / 16 | 1 => rnd 3 v | 2 => v / 32 * 2 | _ => v / 8

/-- SENSOR_READ_START: an enabled sensor's read begins once its bus is free and not marked failed; a member that is not ACTIVE only listens
(R193, R325). -/
def execSensorReadStart (i : Fin 16) (s : State) : Res :=
  .next <|
  let b := s.sensorBus i
  if !s.isTile || !s.rdy B.FW || !s.sensorOn i || !s.busI2c b || (s.bus b).failed || (s.bus b).owner != .idle then s
  else
    let c := s.par P.SENSOR_SOURCE i
    let s := s.updBus b fun x => { x with owner := .sensor i, retried := false }
    if s.busSilent then s else s.send (.bus b (field c 16 7) true [BitVec.ofNat 8 (field c 8 8)])

/-- SENSOR_READ_COMPLETE: the reading is converted; a failed read leaves the previous one in place (R325). -/
def execSensorReadComplete (i : Fin 16) (r : BusEnd) (s : State) : Res :=
  .next <|
  let b := s.sensorBus i
  if (s.bus b).owner ≠ .sensor i then s
  else match s.busEnd b r with
    | (s, none) => s
    | (s, some (st, bytes)) =>
      let s := s.busFree b
      if st ≠ 0 then s
      else
        let x := (bytes.getD 0 0).toNat * 256 + (bytes.getD 1 0).toNat
        let t := sensorTemp (field (s.par P.SENSOR_SOURCE i) 0 2) x + signed 16 (s.par P.SENSOR_OFFSET i)
        let s := s.setPar P.SENSOR_TEMP i (unsigned 16 (clampI (-32767) 32767 t))
        { s with tile := { s.tile with sensorAt := SMap.set 0 s.tile.sensorAt i (s.now + 1)
                                       staleTold := NSet.del s.tile.staleTold i } }

/-- A health read gives no result: counted and reported, at most once per second per bus (R355). -/
def State.healthFailed (s : State) (q strand : Nat) : State :=
  let s := { s with health := { s.health with
    tested := s.health.tested.filter fun x => x / 1048576 != 16 * q + strand
    started := SMap.set 0 s.health.started (16 * q + strand) 0
    readAt := SMap.set 0 s.health.readAt (16 * q + strand) (s.now + 1) } }
  (s.bump P.READ_ERRORS q).raiseLimited E.HEALTH_READ_FAILED q sec

/-- BUS_STRETCH_TIMEOUT: the clock has been stretched for 1 ms, and the transaction ends (R324). -/
def execBusStretchTimeout (b : Fin 8) (s : State) : Res :=
  .next <|
  match (s.bus b).owner with
  | .idle => s
  | .program a => ((s.busError b).raise E.DB_TIMEOUT b).programDone b a 2 []
  | .sensor _ => ((s.busError b).raise E.DB_TIMEOUT b).busFree b
  | .health n => (((s.busError b).raise E.DB_TIMEOUT b).busFree b).healthFailed b n

/-- BUS_STUCK_RETRY: a failed bus is tried again once a second; `released` says that `DBn_D` went high (R324). -/
def execBusStuckRetry (b : Fin 8) (released : Bool) (s : State) : Res :=
  .next <|
  if !(s.bus b).failed then s
  else if released then s.updBus b fun x => { x with failed := false, stuckTold := false }
  else s.busError b

/-! Boundaries of the refresh grid (R313, R314, R338) -/

/-- The grid of a quad runs. -/
def State.gridRuns (s : State) (q : Nat) : Bool := s.isTile && s.rdy B.DRIVE && (s.gridCfg q).qLive q

/-- Nothing keeps `LPn_OE` of a port low (R326). -/
def State.mayLight (s : State) (p : Nat) : Bool :=
  s.start.oeFree.contains p && (s.portCfg p).qLive (p / 4) && (s.portCfg p).portOn p && (s.seq (p / 4)).dark == 0 && !s.tile.unfit.contains (p / 4) &&
    s.mayDrive && !s.start.restarting

/-- Insert a number into an ascending list. -/
def insertQ (x : ℚ) : List ℚ → List ℚ
  | [] => [x]
  | y :: l => if x ≤ y then x :: y :: l else y :: insertQ x l

/-- Edges of `LPn_OE` that the refresh timing gives a port in subframe `m`, in ns from its start: up after each row slot's blanking and
down as the row has had its cycles in G mode, up and down with each plane in B mode; none on a port that is dark (R316, R318, R326). -/
def State.ownOe (s : State) (p m : Nat) : List ℚ :=
  let q := p / 4
  let c := s.portCfg p
  if !s.start.oeFree.contains p || (s.seq q).dark != 0 || s.tile.unfit.contains q || (s.seq q).held.contains (p % 4) then []
  else
    let es := (List.range (c.qRows q)).flatMap fun (r : Nat) =>
      let a : ℚ := r * c.rowNs s.rate q + c.par P.BLANK_TIME
      if c.qMode q = 1 then [a, a + c.gRowNs q] else (c.slotEdges q m).map fun e => a + e.1
    es.foldl (fun l x => insertQ x l) []

/-- A pin that rises and falls at the edges of a list in turn is high from `a` to `b`. -/
def highBetween (a b : ℚ) : List ℚ → Bool
  | u :: d :: l => (decide (u ≤ a) && decide (b ≤ d)) || highBetween a b l
  | [u] => decide (u ≤ a)
  | [] => false

/-- `LPn_OE` of port `p` has been high for the last `ns`: within the refresh subframe it is in, with the program holding it low neither now
nor since (R316, R318, R326). -/
def State.oeHighFor (s : State) (p ns : Nat) : Bool :=
  let c := SMap.get (0, 0) s.drive.subAt p
  let x : ℚ := 4 * (s.now + 1 - c.2 : Nat)
  s.drive.lit.contains p && c.2 != 0 && highBetween (x - ns) x (s.ownOe p c.1) &&
    decide (SMap.get 0 (s.seq (p / 4)).heldTo (p % 4) + ns / 4 ≤ s.now + 1)

/-- Edges agree: as many, each within 8 ns of its own (R194). -/
def edgesNear (a : List ℚ) (b : List Nat) : Bool :=
  a.length == b.length && (a.zip b).all fun (e : ℚ × Nat) => decide (|e.1 - (e.2 : ℚ)| ≤ 8)

/-- A port's subframe `m` as heard agrees with the member's own computed drive: the bits of every strand, the cycles of `LPn_GK`, and
the edges of `LPn_LT` and `LPn_OE` (R194). -/
def State.subMatches (s : State) (p m : Nat) (h : SubHeard) : Bool :=
  let q := p / 4
  let c := s.portCfg p
  let own := SMap.get {} s.red.own p
  let gk := if c.qMode q = 1 then 2 ^ c.qBits q / c.subframes * c.qRows q else 0
  ((List.range (c.strands p)).all fun st => h.crcs.getD st 0 == (SMap.get 0xFFFFFFFF#32 own.crcs st) ^^^ 0xFFFFFFFF#32) && h.gk == gk &&
    edgesNear (own.lts.reverse.map fun t => (4 : ℚ) * (t - own.start : Nat)) h.lt && edgesNear (s.ownOe p m) h.oe

/-- The verdicts of all ports on a subframe are in: it counts as mismatched with any difference, and is skipped where a port was not
heard; the strikes, and the whole ticks in which every subframe matched, follow.  `first` says that a new tick's first subframe has
begun (R188, R193, R194). -/
def State.subVerdict (s : State) (first : Bool) : State :=
  let vs := s.red.verdicts.map (·.2)
  let s := { s with red := { s.red with verdicts := [] } }
  let r := s.red
  let next (ok : Bool) : Nat := if first then 1 else if r.tickClean = 1 ∧ ok = false then 2 else r.tickClean
  if vs.contains 2 then
    let s : State := { s with red := { r with
      subCompared := r.subCompared + 1, subDiffered := r.subDiffered + 1, strikes := r.strikes + 1, matchTicks := 0, tickClean := next false } }
    let s := if s.red.strikes = s.par P.READBACK_STRIKES then
        ({ s with red := { s.red with run := 0, readback := s.par P.READBACK_ACTION == 1 } }).raise E.READBACK_MISMATCH
      else s
    s.syncEval
  else if vs.contains 3 then
    { s with red := { r with subSkipped := r.subSkipped + 1, matchTicks := 0, tickClean := next false } }.syncEval
  else
    { s with red := { r with
      subCompared := r.subCompared + 1, strikes := 0, readback := false
      matchTicks := r.matchTicks + b2n (first && r.tickClean == 1), tickClean := next true } }.syncEval

/-- A port of a member that does not drive ends a subframe: what it heard is judged, its own record begins anew, and the last port to
do so ends the subframe (R194). -/
def State.readback (s : State) (p m : Nat) (heard : Option SubHeard) : State :=
  if !s.isPairedTile || s.driving then s
  else
    let c := s.portCfg p
    let was := (m + c.subframes - 1) % max c.subframes 1
    let v := match heard with | none => 3 | some h => if s.subMatches p was h then 1 else 2
    let s := { s with red := { s.red with
      verdicts := SMap.set 0 s.red.verdicts p v, own := SMap.set {} s.red.own p { start := s.now } } }
    if (List.range 32).all fun x => !((s.portCfg x).qLive (x / 4) && (s.portCfg x).portOn x) || SMap.get 0 s.red.verdicts x != 0 then
      s.subVerdict (m == 0)
    else s

/-- A port's next refresh-subframe boundary after a pipeline restart drives its `LPn_OE` low; the group follows with the last of its
ports (R32, R46). -/
def State.oeLow (s : State) (p : Nat) : State :=
  if !s.start.oeLowDue.contains p then s
  else
    let due := NSet.del s.start.oeLowDue p
    { s with start := { s.start with
      oeLowDue := due, oeFree := NSet.del s.start.oeFree p
      groups := if due.any fun x => x / 8 == p / 8 then s.start.groups else SMap.set .off s.start.groups (4 + p / 8) .drivenLow } }

/-- Port `p` enters subframe `m` in this cycle: an `LPn_OE` that is due goes low, and subframe 0 begins a frame's binding on the port (R32, R321). -/
def State.subframeIn (s : State) (p m : Nat) : State :=
  let s := { s with drive := { s.drive with subAt := SMap.set (0, 0) s.drive.subAt p (m, s.now + 1) } }
  (s.oeLow p).when (m == 0) fun s => { s with drive := { s.drive with begun := NSet.add s.drive.begun p } }

/-- SUBFRAME_BOUNDARY: subframe `m` of frame `k` begins on port `p`: a member that has become ACTIVE before this cycle
begins to drive, the port lights or goes dark, a G-mode driver's bank swap is issued in subframe 0 of a frame that was
swapped, and SUBFRAME is presented on the quad's reference grid (R195, R313, R317, R326, R338). -/
def execSubframeBoundary (p : Fin 32) (k : Nat) (m : Fin 128) (heard : Option SubHeard) (s : State) : Res :=
  .next <|
  let q := p.val / 4
  let s := s.subframeIn p m
  if !s.isTile then s
  else if !s.gridRuns q || !(s.portCfg p).portOn p then
    { s with drive := { s.drive with lit := NSet.del s.drive.lit p } }
  else
    let s := match s.red.activeAt with
      | some t => if t < s.now ∧ s.driving = true then
          { s with red := { s.red with drives := true, activeAt := none } } else s
      | none => s
    let s := s.readback p m heard
    let s := { s with drive := { s.drive with
      lit := if s.mayLight p then NSet.add s.drive.lit p else NSet.del s.drive.lit p } }
    let swapped := match s.tile.front with | some f => f.frame == k | none => false
    let s := s.when (m.val == 0 && swapped && (s.portCfg p).qMode q == 1 && s.mayDrive) fun s => s.send (.lamp p 8 k)
    if (s.gridCfg q).refPort s.rate q = p.val then
      ((s.boundary q).updSeq q fun d => { d with subNow := m }).present q 4
    else s

/-- R349's condition for a probe in a blanking interval. -/
def State.probeFits (s : State) (q : Nat) : Bool :=
  let img := s.qImage q
  let tsh := if s.qMode q = 1 then 16 * s.qD q * s.ckNs q else s.planeNs q
  img.probeShifts != 0 &&
    decide (img.probeShifts * tsh + img.probeCk * s.ckNs q + s.par P.T_OD + s.ckNs q ≤ s.par P.BLANK_TIME)

/-- A probe is offered in one row slot out of I; one that does not fit is counted as skipped (R349, R360). -/
def State.probeOffer (s : State) (q : Nat) : State :=
  let i := s.par P.PROBE_INTERVAL q
  let s := s.updSeq q fun d => { d with slotCount := d.slotCount + 1, probeOpens := false }
  if s.par P.HEALTH_MODE ≠ 1 ∨ i = 0 ∨ (s.seq q).slotCount < i then s
  else
    let s := s.updSeq q fun d => { d with slotCount := 0 }
    if (s.gridCfg q).probeFits q then s.updSeq q fun d => { d with probeOpens := true }
    else s.bump P.PROBE_SKIPPED q

/-- ROW_SLOT_BOUNDARY: row slot `r` of a quad begins with its blanking: the row group of a quad of several rows switches, a probe may be
offered, and BLANK, and in B mode PLANE, are presented (R313, R338). -/
def execRowSlotBoundary (q : Fin 8) (r : Fin 32) (s : State) : Res :=
  .next <|
  if !s.gridRuns q then s
  else
    let c := s.gridCfg q
    let s := (s.boundary q).updSeq q fun d => { d with
      rowNow := r, blankEnd := s.now + 8 + c.par P.BLANK_TIME / 4 }
    let s := s.probeOffer q
    let s := s.when (s.mayDrive && decide (1 < c.qRows q)) fun s => s.send (.lamp (4 * q.val) 9 r)
    let s := if c.qMode q = 2 then s.planeEvent q else s
    s.present q 3

/-- PLANE_BOUNDARY: in B mode the unit must be idle, an operation ending in the boundary cycle being late; then the
boundary's event is presented (R318, R338, R347). -/
def execPlaneBoundary (q : Fin 8) (s : State) : Res :=
  .next <|
  if !s.gridRuns q || (s.gridCfg q).qMode q != 2 then s
  else
    let s := (s.boundary q).updSeq q fun d => { d with probeOpens := false }
    if (s.seq q).alive && !(s.seq q).ops.isEmpty && decide (s.now + 8 ≤ s.unitEnd q) then s.seqFault q 5
    else (s.when s.mayDrive fun s => s.send (.lamp (4 * q.val) 10 (s.seq q).planes)).planeEvent q

/-- A faulted quad restarts from the committed configuration at a frame boundary; it lights again at the first display tick
that finds its frame-start shift complete (R326, R327). -/
def State.quadRestart (s : State) (q : Nat) : State :=
  if (s.seq q).st ≠ 3 ∨ (s.seq q).dark ≠ 1 then s
  else
    let s := s.updSeq q fun d => { d with st := 0, dark := 3, restartAt := some s.now, planeFrame := 0, planes := 0 }
    let s := s.raise E.QUAD_RESTART q
    match s.tile.shift with
    | some (k, _) => if (s.seqCfg q).qMode q = 1 then s.presentFrame q k else s
    | none => s

/-- QUAD_RESTART_AT_BOUNDARY (R326, R327). -/
def execQuadRestartAtBoundary (q : Fin 8) (s : State) : Res := .next (s.quadRestart q)

end Sys2Proof.Machine
end

