-- ==== Sys2Proof/Machine/Frames.lean ====
section
/-! DEFINITION. A tile's frames from the chain to the lamps: copies judged at the cut-off, write-through, the shift source,
the display tick with its snapshot, and paired members' data (R20–R26, R164–R166, R185, R285–R291, R317, R320, R454). -/

namespace Sys2Proof.Machine

/-! Copies (R20, R185) -/

/-- Complete and valid, as of a deadline: every packet in time, one accepted epoch, no flag, no poison. -/
def State.copyValid (s : State) (tie : Bool) (eAcc : Nat) (c : Copy) : Bool :=
  (match c.doneAt with | some t => s.onTime tie t | none => false) &&
    c.oneEpoch && decide (eAcc ≤ c.epoch) && !c.incomplete && !c.repeated && !c.poisoned && !c.barred

/-- Ranks before: unprefixed, then the higher epoch, then the lower source (R185). -/
def ranksBefore (a b : Copy) : Bool :=
  if a.prefixed != b.prefixed then !a.prefixed
  else if a.epoch ≠ b.epoch then decide (b.epoch < a.epoch)
  else decide (a.src < b.src)

/-- The first of the copies in rank. -/
def bestCopy : List Copy → Option Copy
  | [] => none
  | c :: l => match bestCopy l with | some d => if ranksBefore d c then some d else some c | none => some c

def State.copiesOf (s : State) (k : Nat) : List Copy := s.chain.copies.filter fun c => c.tick == k

/-- The tile has a region. -/
def State.hasRegion (s : State) : Bool := s.regionW != 0 && s.regionH != 0

/-- A frame whose number is of the rate in force: the tile's tick has passed it (R213). -/
def State.thisRate (s : State) (k : Nat) : Bool := decide (k < s.time.tick)

/-- No frame `k` is expected, because the tick rate has changed (R213). -/
def State.unexpected (s : State) (k : Nat) : Bool := s.scan.skip == k + 1

/-- CUT_OFF: at display tick − 40 µs the copy of frame `k` is chosen, and E_acc of the next frame is fixed; a copy that
completes in the cut-off's cycle is not complete (R20, R165, R185, R214). -/
def execCutOff (k : Nat) (tie : Bool) (s : State) : Res :=
  .next <|
  if !s.isTile || s.unexpected k then s
  else
    let ok := (s.copiesOf k).filter (s.copyValid tie s.red.eAcc)
    let best := bestCopy ok
    let judged := s.rdy B.CORRECTION && s.hasRegion && decide (s.chain.cutDone ≤ k)
    let s := { s with
      tile := { s.tile with chosen := some (k, best.map (·.port)) }
      chain := { s.chain with cutDone := if s.thisRate k then max s.chain.cutDone (k + 1) else s.chain.cutDone }
      red := { s.red with eAcc := s.par P.EPOCH }
      time := { s.time with rankNext := match best with | some c => some c.port | none => s.time.rankNext } }
    if !judged then s
    else
      let s := s.raiseIf best.isNone E.NO_VALID_COPY
      s.raiseIf (decide (2 ≤ (ok.filter fun c => !c.prefixed).length)) E.SPLIT_DETECTED

/-! Write-through (R22, R286, R287, R317) -/

/-- Live quads under the binding of a frame. -/
def State.liveQuads (s : State) (k : Nat) : List Nat :=
  let c := match s.bindFor k with | some b => s.under b | none => s
  (List.range 8).filter c.qLive

def State.quadModeFor (s : State) (k q : Nat) : Nat :=
  let c := match s.bindFor k with | some b => s.under b | none => s
  c.qMode q

/-- A copy written through becomes the shift source if it is the first of its frame; one that ranks higher and differs
restarts the shift from itself (R317). -/
def State.offerSource (s : State) (k p : Nat) : State :=
  let rankOf (p : Nat) : Option Copy := (s.copiesOf k).find? fun c => c.port == p
  match s.tile.shift with
  | some (k', p') =>
    if k' ≠ k ∨ p' = p then s
    else match rankOf p, rankOf p' with
      | some a, some b =>
        let inTime := decide (s.chain.cutDone ≤ k) || s.tile.chosen == some (k, some p)
        if ranksBefore a b && inTime && a.sig != b.sig then
          ({ s with tile := { s.tile with shift := some (k, p) } }).each (s.liveQuads k) fun s q => s.restartShift q k
        else s
      | _, _ => s
  | none =>
    ({ s with tile := { s.tile with shift := some (k, p) } }).each (s.liveQuads k) fun s q =>
      if s.quadModeFor k q = 1 then s.presentFrame q k else s

/-- A drive buffer that neither the front nor another copy's back buffer holds (R286). -/
def State.freeSlot (s : State) (k p : Nat) : Nat :=
  let used := (match s.tile.front with | some f => [f.slot] | none => []) ++
    ((s.tile.backs.filter fun (b : Back) => !(b.frame == k && b.port == p)).map fun (b : Back) => b.slot)
  ((List.range 3).find? fun i => !used.contains i).getD 0

/-- CORRECTION_WRITE_THROUGH: the copy of frame `k` that came on port `p` has passed the correction pipeline whole, under
binding and snapshot of its frame (R285–R287); at throttle-2 odd frames are not corrected (R454), and
while the correction cluster, 8 of Image/Drive, is quiesced none is (R31). -/
def execCorrectionWriteThrough (p : Fin 2) (k : Nat) (s : State) : Res :=
  .next <|
  match (s.copiesOf k).find? (fun c => c.port == p.val), s.bindFor k, s.snapFor k with
  | some c, some b, some sn =>
    if !s.rdy B.CORRECTION || s.clusterOut .image 8 || c.doneAt.isNone || c.written.isSome || sn.skip then s
    else
      let w := (s.under b).regionWords sn c.format k c.data
      let back : Back :=
        { frame := k, port := p, words := w.1, clipped := w.2, sig := c.sig.getD 0, prefixed := c.prefixed, epoch := c.epoch
          src := c.src, at_ := s.now, slot := s.freeSlot k p }
      let s := { s with
        tile := { s.tile with backs := back :: s.tile.backs.filter fun x => !(x.frame == k && x.port == p.val) }
        chain := { s.chain with copies := s.chain.copies.map fun (x : Copy) =>
                                          (if x.tick = k ∧ x.port = p.val then { x with written := some s.now } else x) } }
      let s := (s.count 256 (s.regionW * s.regionH)).count 258 s.lampCount
      if s.copyValid false s.red.eAcc c then s.offerSource k p else s
  | _, _, _ => s

/-! The snapshot (R285, R291, R300, R363, R366, R384) -/

/-- A paired member that is not ACTIVE. -/
def State.isSecond (s : State) : Bool := s.isPairedTile && s.sluice != SL.ACTIVE

/-- β′ of a presented β (R291). -/
def betaPrime (b : Nat) : Nat := if b = 0x7FFF then 32768 else if 0x8000 ≤ b then 0 else b

/-- The β of snapshot `n`: what the loop presented two snapshots before, or what the partner sent for it. -/
def State.snapBeta (s : State) (n : Nat) (tie : Bool) : State :=
  let shown := s.par P.BETA_PRESENTED
  let own := ((s.tile.betas.find? fun e => e.1 + 2 == n).map (·.2)).getD 0x7FFF
  let got := s.tile.betaIn.find? fun e => e.1 == n && s.onTime tie e.2.2
  let beta := if s.isSecond then (match got with | some e => betaPrime e.2.1 | none => s.tile.betaLast) else betaPrime own
  let s := s.raiseIf (s.isSecond && got.isNone) E.SCALE_MISSING
  let s := { s with tile := { s.tile with
    betas := ((n, shown) :: s.tile.betas).take 3, betaLast := beta, betaIn := s.tile.betaIn.filter fun e => decide (n < e.1) } }
  s.setPar P.SCALE_IN_USE 0 beta

/-- Loop states of the active member come into use at the snapshot they are for (R384). -/
def State.loadLoops (s : State) (n : Nat) (tie : Bool) : State :=
  if !s.isSecond then s
  else match s.pump.fromActive.find? fun m => m.frame == n && s.onTime tie m.at_ with
    | none => s.raise E.PUMP_STATE_LATE
    | some m =>
      let s := { s with pump := { s.pump with fromActive := s.pump.fromActive.filter fun x => decide (n < x.frame) } }
      let load (l : Loop) (r : LoopRec) : Loop := { l with u := r.u, integ := r.integ, scale := r.scale }
      s.each m.loops fun s r =>
        { s with pump := { s.pump with loops := SMap.upd {} s.pump.loops r.loop fun l => load l r } }

/-- What the active member sends its partner after a snapshot: β for two snapshots on, and every loop (R291, R384). -/
def State.sendScale (s : State) (n : Nat) : State :=
  if !s.isPairedTile || s.sluice != SL.ACTIVE then s
  else
    let loops := (List.range 16).flatMap fun i =>
      let l := SMap.get {} s.pump.loops i
      [(4 * i, (l.u : Int)), (4 * i + 1, l.integ), (4 * i + 2, (l.scale : Int))]
    s.sendMember 152 (.member 0 (n + 2) ((64, (s.par P.BETA_PRESENTED : Int)) :: loops))

/-- Mask changes of the active member come into use; one that comes after its own snapshot is reported (R366). -/
def State.takeMasks (s : State) (n : Nat) (tie : Bool) : State :=
  if !s.isSecond then s
  else
    let due := s.health.fromActive.filter fun e => decide (e.2.2.1 ≤ n) && s.onTime tie e.2.2.2
    let s := { s with health := { s.health with fromActive := s.health.fromActive.filter fun e => !due.contains e } }
    let s := s.each due fun s e => s.updLamp e.1 fun l =>
      if e.2.1 = 3 then { l with status := 3, strikes := 0, from_ := 0 } else { l with status := e.2.1, from_ := e.2.2.1 }
    s.raiseIf (due.any fun e => decide (e.2.2.1 < n)) E.MASK_SYNC_LATE

/-- Throttle-2 as it acts on the snapshot (R454). -/
def State.throttle2 (s : State) (tie : Bool) : Bool :=
  match s.therm.t2At with
  | 0 => decide (3 ≤ s.stage)
  | t + 1 => if s.onTime tie t then decide (3 ≤ s.stage) else s.therm.t2Was

/-- The snapshot S(n), at the display tick of frame n − 1. -/
def State.snapshot (s : State) (n : Nat) (tie : Bool) : State :=
  let s := (s.sensorsJudge.zoneTemps.slewZones tie).snapBeta n tie
  let s := ((s.loadLoops n tie).takeMasks n tie).gainSwap n tie
  let masks := (s.health.lamps.filter fun e => s.masked n e.1).map (·.1)
  let zones : SMap (List Int) := (List.range 16).filterMap fun z =>
    let k := s.kList P.K_APPLIED z
    if k = identityK then none else some (z, k)
  let sn : Snap :=
    { frame := n, zones := zones, beta := s.tile.betaLast, gains := s.tile.gains, masks := masks
      skip := s.throttle2 tie && n % 2 == 1 }
  ({ s with
    tile := { s.tile with snaps := (sn :: s.tile.snaps.filter fun x => x.frame != n).take 3 }
    chain := { s.chain with copies := s.chain.copies.map fun (c : Copy) => (if c.tick = n then { c with entered := true } else c) } }).sendScale n

/-! The display tick (R21, R165, R320) -/

/-- A lamp's slot in the bound map: port, row, strand, driver, channel. -/
def State.lampSlots (s : State) : SMap Nat :=
  (s.bank BK.MAP (s.par P.MAP_BANK)).used.foldl (fun m u => SMap.put m u.2 u.1) []

/-- Quads whose frame-start shift the swap of a frame waits for: those that are live, but for quads held dark. -/
def State.needsShift (s : State) (k : Nat) : List Nat :=
  (s.liveQuads k).filter fun q => (s.seq q).dark == 0 && !s.tile.unfit.contains q

/-- The shift of frame `k` is complete in a quad. -/
def State.shiftDone (s : State) (k q : Nat) (tie : Bool) : Bool :=
  (s.seq q).shifted == k + 1 && s.onTime tie (s.seq q).shiftedAt

/-- A swap that is withheld: B-mode planes go on reading the front buffer (R320). -/
def State.revertCursors (s : State) (k : Nat) : State :=
  let f := match s.tile.front with | some b => b.frame + 1 | none => 0
  s.each (s.liveQuads k) fun s q =>
    if (s.seq q).planeFrame = k + 1 then s.updSeq q fun d => { d with planeFrame := f } else s

/-- The swap of frame `k` goes ahead: the buffer is in front under its binding, quads that restarted light again, pins may
raise `LPn_OE`, SHOW rises and DISPLAY is presented. -/
def State.swapFrame (s : State) (k : Nat) (b : Back) (tie : Bool) : State :=
  let back := (s.liveQuads k).filter fun q => (s.seq q).dark == 3 && s.shiftDone k q tie
  let s := { s with tile := { s.tile with front := some b, frontBind := s.bindFor k, prevBind := s.tile.frontBind }
                    drive := { s.drive with begun := [] } }
  let s := s.each back fun s q => s.updSeq q fun d => { d with dark := 0 }
  let s := (s.bump P.COPY_COUNT (b2n b.prefixed)).raiseIf b.prefixed E.STANDBY_COPY_SHOWN
  let s := s.setPar P.CLIPPED_LAMPS 0 b.clipped
  let s := { s with start := { s.start with oeFree := (List.range 32).filter fun p => SMap.get BankMode.off s.start.banks (p / 8) == BankMode.normal } }
  let s := s.setReady B.SHOW
  s.each (s.liveQuads k) fun s q => (s.boundary q).present q 1

/-- The swap of frame `k` is decided, with the miss that withholds it counted and reported. -/
def State.displaySwap (s : State) (k : Nat) (tie : Bool) : State :=
  let noCopy (s : State) : State := s.bump P.COPY_COUNT 2
  let skip := match s.snapFor k with | some sn => sn.skip | none => false
  if !s.rdy B.CORRECTION || !s.hasRegion then s
  else if !s.rdy B.DRIVE then noCopy s
  else match s.tile.chosen with
    | some (k', some p) =>
      if k' ≠ k then noCopy s
      else if skip then noCopy (s.bump P.FRAMES_SKIPPED)
      else match s.backFor k p with
        | none => noCopy (s.raise E.CORRECT_LATE)
        | some b =>
          let late := (s.needsShift k).filter fun q => !s.shiftDone k q tie
          if !s.onTime tie b.at_ || s.tile.corrMiss.contains (2 * k + p) then noCopy (s.raise E.CORRECT_LATE)
          else match late with
            | q :: _ => (noCopy ((s.bump P.SHIFT_LATE_COUNT).raise E.SHIFT_LATE q)).revertCursors k
            | [] => s.swapFrame k b tie
    | _ => if skip then noCopy (s.bump P.FRAMES_SKIPPED) else noCopy s

/-- Frame-start shift margins in ns (R328); a shift that ends after its display tick gives a negative one as it ends. -/
def State.shiftMargins (s : State) (k : Nat) : State :=
  s.each (s.liveQuads k) fun s q =>
    if (s.seq q).shifted ≠ k + 1 then s
    else s.setPar P.SHIFT_MARGIN q (unsigned 32 (min (4 * (s.now - (s.seq q).shiftedAt) : Nat) 0x7FFFFFFF : Int))

/-- t_on of a lamp with word `w` in a quad reaches t_od (R357). -/
def State.litEnough (s : State) (q w : Nat) : Bool :=
  let v := w >>> (16 - s.qBits q)
  let tod := s.par P.T_OD
  if s.qMode q = 1 then
    decide (tod * s.par P.GK_FREQ q ≤ v / (s.subframes * s.par P.ONTIME_SPLIT q) * 1000000)
  else if v = 0 then false
  else
    let c := s.logM
    decide (tod ≤ (if c ≤ Nat.log2 v then 2 ^ (Nat.log2 v - c) else 1) * s.par P.B_LSB q)

/-- At a display tick the frame that ends counts for every strand whose window holds it whole, and the lamps the new one
lights long enough are noted (R356, R357). -/
def State.healthFrame (s : State) : State :=
  let open_ (n : Nat) : Bool :=
    (match SMap.get 0 s.health.readAt n with | 0 => true | t + 1 => decide (t ≤ s.health.litAt)) &&
      (match SMap.get 0 s.health.started n with | 0 => true | t + 1 => decide (s.now ≤ t))
  let tested := (s.health.lit.filter fun x => open_ (x / 1048576)).foldl NSet.add s.health.tested
  let c := match s.tile.frontBind with | some b => s.under b | none => s
  let slots := c.lampSlots
  let lit := match s.tile.front with
    | none => []
    | some f => f.words.filterMap fun (e : Nat × Nat) =>
        match SMap.get 0 slots e.1 with
        | 0 => if slots.any (fun u => u.1 == e.1) && c.litEnough 0 e.2 && !s.neverTested e.1 then some e.1 else none
        | a =>
          let (p, _, st, _, _) := slotParts a
          if c.litEnough (p / 4) e.2 && !s.neverTested e.1 then some ((4 * p + st) * 1048576 + e.1) else none
  { s with health := { s.health with tested := tested, lit := lit.foldl NSet.add [], litAt := s.now } }

/-- Ports whose lamps gain no dose: held dark, or named by no used map entry (R302, R312). -/
def State.lampDark (s : State) (slots : SMap Nat) (i : Nat) : Bool :=
  match slots.find? fun u => u.1 == i with
  | some u => !s.drive.lit.contains (slotParts u.2).1 || (s.seq ((slotParts u.2).1 / 4)).held.contains ((slotParts u.2).1 % 4)
  | none => true

/-- DISPLAY_TICK: the swap of frame `k` is decided, the snapshot of frame k + 1 is taken, the wear ledger is updated, and
the back buffers are released (R21, R285, R302, R320). -/
def execDisplayTick (k : Nat) (tie : Bool) (s : State) : Res :=
  .next <|
  if !s.isTile || s.unexpected k then s
  else
    let later (f : Nat) : Bool := if s.thisRate k then decide (k < f) else f != k
    let s := { s with scan := { s.scan with skip := if s.scan.skip ≤ k + 2 ∧ k ≤ s.scan.skip then s.scan.skip else 0 } }
    let s := { s with start := { s.start with
      banks := s.start.banks.map fun (e : Nat × BankMode) => (e.1, if e.2 == BankMode.map then BankMode.normal else e.2) } }
    let s := ((s.unfitFrom k).displaySwap k tie).shiftMargins k
    let s := { s with tile := { s.tile with
      displayed := if s.thisRate k then k + 1 else s.tile.displayed, dtAt := some s.now, shift := none, chosen := none, backs := []
      corrMiss := s.tile.corrMiss.filter fun x => later (x / 2) }
                      chain := { s.chain with copies := s.chain.copies.filter fun (c : Copy) => later c.tick } }
    let s := if s.rdy B.CORRECTION then s.snapshot (k + 1) tie else s
    let slots := (match s.tile.frontBind with | some b => s.under b | none => s).lampSlots
    let s := ((s.wearUpdate k (s.lampDark slots)).gainStart k).healthFrame
    { s with tile := { s.tile with binds := s.tile.binds.filter fun b => later b.frame } }

end Sys2Proof.Machine
end

