-- ==== Sys2Proof/Machine/Health.lean ====
section
/-! DEFINITION. Lamp diagnostics: health reads and their results, declarations, the fault list and commands (chapter 15). -/

namespace Sys2Proof.Machine

/-! Reads (R353–R355) -/

/-- Port of strand index `i` of a quad, and its strand. -/
def strandPort (q i : Nat) : Nat := 4 * q + i / 4

/-- Health reads run in a quad, and the strand is in use on an enabled port. -/
def State.healthRuns (s : State) (q i : Nat) : Bool :=
  s.isTile && s.par P.HEALTH_MODE == 1 && s.rdy B.DRIVE && bit (s.par P.HEALTH_SOURCE q) 31 && !s.isSecond &&
    s.portOn (strandPort q i) && decide (i % 4 < s.strands (strandPort q i))

/-- HEALTH_READ_START: the read of a strand begins once its bus is free: REG is written and 4 × D bytes are read. -/
def execHealthReadStart (q : Fin 8) (i : Fin 16) (s : State) : Res :=
  .next <|
  if !s.healthRuns q i || !s.busI2c q || (s.bus q).failed || (s.bus q).owner != .idle then s
  else
    let h := s.par P.HEALTH_SOURCE q
    let s := s.updBus q fun b => { b with owner := .health i, retried := false }
    let s := { s with health := { s.health with started := SMap.set 0 s.health.started (16 * q.val + i.val) (s.now + 1) } }
    s.send (.bus q (field h 16 7 + i.val) true [BitVec.ofNat 8 (field h 8 8)])

/-! Declarations (R361, R364, R366) -/

/-- An event of R361's limit of 16 per second: raised, or only counted. -/
def State.healthTell (s : State) (ev lamp : Nat) : State × Bool :=
  let fresh := decide (s.health.secondAt + sec ≤ s.now)
  let n := if fresh then 0 else s.health.told
  let at_ := if fresh then s.now else s.health.secondAt
  if n < 16 then
    (({ s with health := { s.health with secondAt := at_, told := n + 1 } }).raise ev 0xFFFF lamp, true)
  else (({ s with health := { s.health with secondAt := at_, told := n } }).bump P.EVENT_COUNT ev, false)

/-- A change of a mask goes to the partner member with the frame from which it holds (R366). -/
def State.sendMask (s : State) (lamp status frame : Nat) : State :=
  if s.isPairedTile && s.sluice == SL.ACTIVE then s.sendMember 12 (.member 1 frame [(lamp, (status : Int))]) else s

/-- A lamp enters the fault list, or finds it full (R364). -/
def State.listAdd (s : State) (lamp status : Nat) : State :=
  let l := s.health.list.filter fun e => e.1 != lamp
  if l.length < 4096 then { s with health := { s.health with list := l ++ [(lamp, status)], listDue := true } }
  else if s.health.fullTold then s
  else ({ s with health := { s.health with fullTold := true } }).raise E.FAULT_LIST_FULL

def State.listDrop (s : State) (lamp : Nat) : State :=
  { s with health := { s.health with list := s.health.list.filter fun e => e.1 != lamp, listDue := true } }

/-- Frame the front buffer holds. -/
def State.frontFrame (s : State) : Nat := match s.tile.front with | some f => f.frame | none => 0

/-- The third consecutive fail of a kind declares a lamp: 1 OPEN, 2 SHORT, masked from frame j + 2 (R361, R363). -/
def State.declare (s : State) (lamp status : Nat) : State :=
  let k := s.frontFrame + 2
  let s := s.updLamp lamp fun l => { l with status := status, from_ := k }
  let p := s.healthTell (if status = 1 then E.LAMP_OPEN else E.LAMP_SHORT) lamp
  let s := p.1
  let s := if p.2 then s else { s with health := { s.health with untold := s.health.untold + 1 } }
  (s.listAdd lamp status).sendMask lamp status k

/-! Results (R358, R362) -/

/-- Open and short flag of a channel in the bytes of a read of `D` drivers. -/
def healthFlags (bytes : List Byte) (dd d c : Nat) : Bool × Bool :=
  let o := 4 * (dd - 1 - d)
  let b (i : Nat) : Nat := (bytes.getD (o + i) 0).toNat
  (bit (b 0 * 256 + b 1) c, bit (b 2 * 256 + b 3) c)

/-- One tested lamp's result: passed, or failed with a kind, 0 open and 1 short (R358). -/
def State.lampResult (s : State) (lamp : Nat) (flags : Bool × Bool) : State :=
  if flags.2 || flags.1 then
    let kind := if flags.2 then 1 else 0
    let l := s.lampOf lamp
    let n := if l.strikes ≠ 0 ∧ l.kind ≠ kind then 1 else l.strikes + 1
    let s := s.updLamp lamp fun l => { l with strikes := min n 2, kind := kind, age := 0 }
    if n = 3 ∧ (l.status = 0 ∨ l.status = 3) then s.declare lamp (kind + 1) else s
  else s.updLamp lamp fun l => { l with
    strikes := 0, kind := 0, age := 0, status := if l.status = 1 ∨ l.status = 2 then l.status else 0 }

/-- HEALTH_READ_COMPLETE: a read ends: it gives no result, or each lamp tested in the strand's window takes one; too many
fails on one strand condemn none (R355, R358, R362). -/
def execHealthReadComplete (q : Fin 8) (i : Fin 16) (r : BusEnd) (s : State) : Res :=
  .next <|
  if (s.bus q).owner ≠ .health i then s
  else match s.busEnd q r with
    | (s, none) => s
    | (s, some (st, bytes)) =>
      let s := s.busFree q
      let n := 16 * q.val + i.val
      if st ≠ 0 then s.healthFailed q i
      else
        let p := strandPort q i
        let mine := (s.bank BK.MAP (s.par P.MAP_BANK)).used.filter fun u =>
          (slotParts u.1).1 == p && (slotParts u.1).2.2.1 == i.val % 4
        let tested := mine.filterMap fun u =>
          let (_, _, _, d, c) := slotParts u.1
          if s.health.tested.contains (n * 1048576 + u.2) && !s.neverTested u.2 then
            some (u.2, healthFlags bytes (s.drivers p) d c) else none
        let fails := (tested.filter fun t => t.2.1 || t.2.2).length
        let s := { s with health := { s.health with
          tested := s.health.tested.filter fun x => x / 1048576 != n
          started := SMap.set 0 s.health.started n 0, readAt := SMap.set 0 s.health.readAt n (s.now + 1) } }
        if s.par P.STRAND_SUSPECT < fails then s.raise E.STRAND_SUSPECT n
        else s.each tested fun s t => s.lampResult t.1 t.2

/-! The second, the list and the commands (R358, R364, R365) -/

/-- LAMP_AGE_SECOND: every lamp's age counts on, to 2,047; an OK lamp that reaches HEALTH_STALE becomes UNTESTED. -/
def execLampAgeSecond (s : State) : Res :=
  .next <|
  if !s.isTile || !s.rdy B.FW then s
  else
    let age (l : Lamp) : Lamp :=
      let a := min (l.age + 1) 2047
      { l with age := a, status := if l.status = 0 ∧ s.par P.HEALTH_STALE ≤ a then 3 else l.status }
    { s with health := { s.health with lamps :=
      (s.health.lamps.map fun e => (e.1, age e.2)).filter fun e => e.2 != {} } }

/-- FAULT_LIST_WRITE: the list is written to flash, within 1 s of a change (R364). -/
def execFaultListWrite (s : State) : Res :=
  .next <|
  if !s.isTile || !s.health.listDue then s
  else { s with health := { s.health with stored := s.health.list, listDue := false } }

/-- After an L0 reset the list is read back, with statuses and masks; every other lamp is UNTESTED (R364). -/
def State.loadFaults (s : State) : State :=
  { s with health := { s.health with
    list := s.health.stored
    lamps := s.health.stored.foldl (fun m e => SMap.put m e.1 { status := e.2 }) [] } }

/-- The oldest latched HEALTH_COMMAND of an operation. -/
def State.healthDue (s : State) (op : Nat) : Option Nat :=
  match s.health.cmds with
  | v :: _ => if field v 56 8 = op then some v else none
  | [] => none

/-- HEALTH_CLEAR: op 1 at its latch clears the lamps of the range to UNTESTED (R365). -/
def execHealthClear (s : State) : Res :=
  .next <|
  match s.healthDue 1 with
  | none => s
  | some v =>
    let s := { s with health := { s.health with cmds := s.health.cmds.drop 1 } }
    s.each ((List.range (field v 32 21)).map (field v 0 21 + ·)) fun s i =>
      let s := { s with health := { s.health with lamps := SMap.del s.health.lamps i } }
      ((s.healthTell E.LAMP_CLEARED i).1.listDrop i).sendMask i 3 (s.frontFrame + 2)

/-- HEALTH_DECLARE: op 2 at its latch declares the lamps of the range OPEN (R365). -/
def execHealthDeclare (s : State) : Res :=
  .next <|
  match s.healthDue 2 with
  | none => s
  | some v =>
    let s := { s with health := { s.health with cmds := s.health.cmds.drop 1 } }
    s.each ((List.range (field v 32 21)).map (field v 0 21 + ·)) fun s i =>
      let s := s.updLamp i fun l => { l with status := 1, from_ := 0 }
      (s.listAdd i 1).sendMask i 1 (s.frontFrame + 2)

/-! Status (R368, R369) -/

/-- U16 of a lamp in `#2B.0030 LAMP_STATUS`. -/
def State.lampWord (s : State) (i : Nat) : Nat :=
  let l := s.lampOf i
  l.status * 16384 + b2n (s.masked (s.frontFrame + 1) i) * 8192 + l.strikes * 2048 + l.age

/-- `#2B.0031 HEALTH_SUMMARY`. -/
def State.healthSummary (s : State) : List Byte :=
  let n := s.lampCount
  let l := s.health.lamps.filter fun e => decide (e.1 < n)
  let c (st : Nat) : Nat := (l.filter fun e => e.2.status == st).length
  let masked := (l.filter fun e => s.masked (s.frontFrame + 1) e.1).length
  leBytes 4 (c 0) ++ leBytes 4 (c 1) ++ leBytes 4 (c 2) ++ leBytes 4 (n - c 0 - c 1 - c 2) ++ leBytes 4 masked ++
    leBytes 4 s.health.untold

end Sys2Proof.Machine
end

