-- ==== Sys2Proof/Machine/Pump.lean ====
section
/-! DEFINITION. The pump engine: inputs, outputs, the loop step, the oscillation detector, start and alarms (chapter 16). -/

namespace Sys2Proof.Machine

def State.loopOf (s : State) (l : Nat) : Loop := SMap.get {} s.pump.loops l

def State.updLoop (s : State) (l : Nat) (f : Loop → Loop) : State :=
  { s with pump := { s.pump with loops := SMap.upd {} s.pump.loops l f } }

/-! Configuration (R377, R386) -/

def State.loopMode (s : State) (l : Nat) : Nat := field (s.par P.LOOP_CONFIG l) 16 2
def State.loopDir (s : State) (l : Nat) : Bool := bit (s.par P.LOOP_CONFIG l) 15
def State.loopInvert (s : State) (l : Nat) : Bool := bit (s.par P.LOOP_CONFIG l) 14
def State.loopOut (s : State) (l : Nat) : Nat := field (s.par P.LOOP_CONFIG l) 8 4
def State.loopIn (s : State) (l : Nat) : Nat := field (s.par P.LOOP_CONFIG l) 0 5

/-- u as the output takes it. -/
def State.outLevel (s : State) (l u : Nat) : Nat := if s.loopInvert l then 32767 - u else u

/-! Inputs (R373–R375) -/

def State.ainOf (s : State) (a : Nat) : Ain := SMap.get {} s.pump.ains a
def State.ainOn (s : State) (a : Nat) : Bool := bit (s.par P.AIN_CONFIG a) 15

/-- Mean of the last 2ⁿ conversions, rounded to nearest; of those there are, while there are fewer (DESIGN CHOICE, log entry 29:
R373 names no value before 2ⁿ). -/
def meanCode (n : Nat) (l : List Nat) : Nat :=
  let m := l.take (2 ^ n)
  if m.isEmpty then 0 else (2 * m.sum + m.length) / (2 * m.length)

/-- A channel's value and the cycle of its latest conversion, as complete in the cycle before this one; none before
the first. -/
def State.ainSeen (s : State) (a : Nat) : Option (Nat × Nat) :=
  let x := s.ainOf a
  let n := field (s.par P.AIN_CONFIG a) 0 3
  if x.at_ = 0 then none
  else if x.at_ = s.now + 1 then (if x.prevAt = 0 then none else some (x.prev, x.prevAt - 1))
  else some (meanCode n x.codes, x.at_ - 1)

/-- A gated channel's port has kept its `LPm_OE` high through the conversion that ends, and for 1 µs before it: 2 µs (R373). -/
def State.gateOpen (s : State) (a : Nat) : Bool :=
  let c := s.par P.AIN_CONFIG a
  !bit c 7 || s.oeHighFor (field c 8 5) 2000

/-- AIN_CONVERSION: a conversion of the channel in turn completes; the turn of one whose gate is not met passes (R373). -/
def execAinConversion (a : Fin 8) (code : BitVec 12) (s : State) : Res :=
  .next <|
  if !s.isTile || !s.rdy B.FW || !s.ainOn a || !s.gateOpen a then s
  else
    let x := s.ainOf a
    let n := field (s.par P.AIN_CONFIG a) 0 3
    let codes := (code.toNat :: x.codes).take 16
    let rail := code.toNat == 0 || code.toNat == 4095
    let run := if rail then x.rail + 1 else 0
    let tell := decide (64 ≤ run) && !x.told
    let y : Ain :=
      { codes := codes, at_ := s.now + 1, prev := meanCode n x.codes, prevAt := x.at_, rail := run, told := rail && (x.told || tell) }
    let s := { s with pump := { s.pump with ains := SMap.set {} s.pump.ains a y } }
    (s.setPar P.AIN_VALUE a (meanCode n codes)).raiseIf tell E.AIN_AT_RAIL a

def State.tachOf (s : State) (t : Nat) : Tach := SMap.get {} s.pump.tachs t

def State.putTach (s : State) (t : Nat) (x : Tach) : State :=
  { s with pump := { s.pump with tachs := SMap.set {} s.pump.tachs t x } }

/-- A fan's record and speed as an edge, or its absence, leaves them; the speed before this cycle is kept (R374, R375). -/
def State.putSpeed (s : State) (t : Nat) (x : Tach) (rpm : Nat) : State :=
  let x := if x.at_ = s.now + 1 then x else { x with at_ := s.now + 1, was := s.par P.TACH_RPM t }
  (s.putTach t x).setPar P.TACH_RPM t rpm

/-- The speed that was complete in the cycle before this one (R375). -/
def State.tachSeen (s : State) (t : Nat) : Nat := if (s.tachOf t).at_ = s.now + 1 then (s.tachOf t).was else s.par P.TACH_RPM t

/-- TACH_EDGE: a rising edge ends a period; rpm = 60 / (period × PPR) (R374). -/
def execTachEdge (t : Fin 2) (s : State) : Res :=
  .next <|
  if !s.isTile || !s.rdy B.FW then s
  else
    let x := s.tachOf t
    if x.edge = 0 ∨ x.edge = s.now + 1 then s.putTach t { x with edge := s.now + 1 }
    else
      let rpm := min (60 * sec / ((s.now + 1 - x.edge) * field (s.par P.TACH_CONFIG t) 28 4)) 65535
      s.putSpeed t { x with edge := s.now + 1, told := x.told && decide (rpm < s.par P.TACH_STALL t) } rpm

/-- TACH_TIMEOUT: 1 s without an edge; one in the last cycle is late, and begins the next period (R374, R27). -/
def execTachTimeout (t : Fin 2) (s : State) : Res :=
  .next <|
  if !s.isTile || !s.rdy B.FW then s
  else s.putSpeed t { s.tachOf t with edge := if (s.tachOf t).edge = s.now + 1 then s.now + 1 else 0 } 0

/-- TACH_STALL_TIMER: the speed has been below TACH_STALL for 2 s with its PWM duty above 0 (R385). -/
def execTachStallTimer (t : Fin 2) (s : State) : Res :=
  .next <|
  let x := s.tachOf t
  if s.par P.TACH_RPM t < s.par P.TACH_STALL t ∧ 0 < SMap.get 0 s.pump.duty (8 + t.val) ∧ x.told = false then
    (s.putTach t { x with told := true }).raise E.FAN_STALL t
  else s

/-- The enabled power terms: channels x_V and x_I, and w. -/
def State.powerTerms (s : State) : List (Nat × Nat × Nat) :=
  (List.range 4).filterMap fun t =>
    let v := s.par P.POWER_TERM t
    if bit v 31 then some (field v 24 3, field v 20 3, field v 0 16) else none

/-- Channels an input reads. -/
def State.inputAins (s : State) (code : Nat) : List Nat :=
  if 1 ≤ code ∧ code ≤ 8 then [code - 1]
  else if code = 11 then s.powerTerms.flatMap fun t => [t.1, t.2.1] else []

/-- The power input (R375). -/
def State.power (s : State) : Nat :=
  let x (a : Nat) : Int := match s.ainSeen a with | some v => ((v.1 * 8 : Nat) : Int) | none => 0
  (min (s.powerTerms.map fun t => rnd 15 (rnd 15 (x t.1 * x t.2.1) * (t.2.2 : Int))).sum 32767).toNat

/-- Saturate to 16 bits. -/
def sat16 (x : Int) : Int := clampI (-32768) 32767 x

/-- The die temperature that was complete in the cycle before this one (R375). -/
def State.dieSeen (s : State) : Nat := if s.therm.dieAt = s.now + 1 then s.therm.dieWas else s.par P.DIE_TEMP

/-- An input's value, with the free counter advanced where no zone has a temperature (log entry 2); none when stale. -/
def State.loopInput (s : State) (l : Nat) : Option Int × State :=
  let code := s.loopIn l
  let age := s.par P.LOOP_PERIOD l * 625
  let stale := (s.inputAins code).any fun a => match s.ainSeen a with | some v => decide (age < s.now - v.2) | none => true
  if stale then (none, s)
  else if code ≤ 8 then (match s.ainSeen (code - 1) with | some v => (some ((v.1 * 8 : Nat) : Int), s) | none => (none, s))
  else if code ≤ 10 then
    (some ((min (s.tachSeen (code - 9) * 32768 / max (field (s.par P.TACH_CONFIG (code - 9)) 0 16) 1) 32767 : Nat) : Int), s)
  else if code = 11 then (some (s.power : Int), s)
  else if code = 12 then
    match s.hottestSeen with
    | none => let (v, s) := s.takeFree; (some (signed 16 v), s)
    | some t => (some (sat16 (t * 8)), s)
  else (some (sat16 (signed 16 s.dieSeen * 8)), s)

/-! The step (R378, R379, R380) -/

/-- A gain at an error under an applied scale (R378). -/
def State.lut (s : State) (id l gs : Nat) (e : Int) : Int :=
  let eu := (e + 32768).toNat
  let g (i : Nat) : Int := s.blobNat id l (2 * i) 2
  let i := eu / 2048
  let k := g i + rnd 11 ((g (i + 1) - g i) * (eu % 2048 : Nat))
  rnd 15 (k * gs)

def sat40 (x : Int) : Int := clampI (-549755813888) 549755813887 x

/-- The oscillation detector takes an error (R382). -/
def State.detector (s : State) (l : Nat) (e : Int) : State :=
  let c := s.par P.OSC_CONFIG l
  let d := s.loopOf l
  let sg : Int := if (field c 0 15 : Int) < |e| then e.sign else 0
  let cross := sg != 0 && d.sign != 0 && sg != d.sign
  let n := d.crossings + b2n cross
  if d.steps + 1 < 256 then
    s.updLoop l fun d => { d with steps := d.steps + 1, crossings := n, sign := if sg = 0 then d.sign else sg }
  else
    let s := s.updLoop l fun d => { d with steps := 0, crossings := 0, sign := 0 }
    if n < field c 16 8 then s
    else
      let s := s.raise E.LOOP_OSCILLATION l
      let act := field c 24 2
      if act = 1 ∧ 512 ≤ d.scale / 2 then
        (s.updLoop l fun d => { d with scale := d.scale / 2, preset := true, acted := true }).raise E.LOOP_GAIN_HALVED l
      else if act = 0 then s
      else (s.updLoop l fun d => { d with mode := if act = 3 then 1 else 3, acted := true }).raise E.LOOP_STOPPED l

/-- Cycles of a PWM pin's period (R376). -/
def pwmPeriod (o : Nat) : Nat := if o < 8 then 4096 else 10240

/-- The code of the PWM period in force: a new one waits for the next period (R376).  Periods begin on the multiples of their length in the
cycle count (DESIGN CHOICE, log entry 29). -/
def State.pwmCode (s : State) (o : Nat) : Nat :=
  let t := SMap.get 0 s.pump.dutyAt o
  if t ≠ 0 ∧ (t - 1) / pwmPeriod o = s.now / pwmPeriod o then SMap.get 0 s.pump.dutyWas o else SMap.get 0 s.pump.duty o

/-- The level of a PWM pin: high for its code's cycles from the start of the period (R376). -/
def State.pwmHigh (s : State) (o : Nat) : Bool := decide (s.now % pwmPeriod o < s.pwmCode o)

/-- A PWM pin is given a code. -/
def State.setDuty (s : State) (o code : Nat) : State :=
  if SMap.get 0 s.pump.duty o = code then s
  else { s with pump := { s.pump with
    duty := SMap.set 0 s.pump.duty o code, dutyAt := SMap.set 0 s.pump.dutyAt o (s.now + 1)
    dutyWas := SMap.set 0 s.pump.dutyWas o (s.pwmCode o) } }

/-- The output of a loop reaches its pin, or β (R376, R385). -/
def State.writeOut (s : State) (l : Nat) : State :=
  let v := s.outLevel l (s.loopOf l).u
  let o := s.loopOut l
  if 1 ≤ o ∧ o ≤ 8 then s.setDuty (o - 1) (v / 8)
  else if o = 9 ∨ o = 10 then s.setDuty (o - 1) (v / 8 * 5 / 2)
  else if o = 11 then
    let low := decide (v < 32767)
    let was := s.pump.capped
    let s := { (s.setPar P.BETA_PRESENTED 0 v) with pump := { s.pump with capped := low } }
    s.raiseIf (low != was) E.POWER_CAP_ACTIVE 0xFFFF (b2n low)
  else s

/-- A loop's output in TRACK from an error (R379). -/
def State.track (s : State) (l : Nat) (e : Int) : State :=
  let d := s.loopOf l
  let lim := s.par P.OUT_LIMITS l
  let lo : Int := field lim 0 16
  let hi : Int := field lim 16 16
  let sl : Int := s.par P.OUT_SLEW l
  let kp := s.lut P.KP_LUT l d.scale e
  let ki := s.lut P.KI_LUT l d.scale e
  let p := e * kp
  let i0 := if d.preset then (d.u : Int) * 4096 - p else d.integ
  let iw := sat40 (i0 + e * ki)
  let w := rnd 12 (p + iw)
  let v0 := clampI lo hi w
  let v := if sl ≠ 0 then clampI (d.u - sl) (d.u + sl) v0 else v0
  let iw := if v ≠ w ∧ 0 < (w - v) * e then i0 else iw
  let cut := v0 != w
  let since := if cut then (if d.satSince = 0 then s.now + 1 else d.satSince) else 0
  let told := cut && !d.satTold && decide (since + sec ≤ s.now + 1)
  let s := s.updLoop l fun d => { d with
    u := v.toNat, integ := iw, preset := false, saturated := v != w, satSince := since, satTold := cut && (d.satTold || told) }
  s.raiseIf told E.LOOP_SATURATED l

/-- One step of a loop in the mode in force (R379, R380). -/
def State.loopStep (s : State) (l : Nat) : State :=
  let (x, s) := if s.loopIn l = 0 then (none, s) else s.loopInput l
  let s := s.updLoop l fun d => { d with skipped := x.isNone && s.loopIn l != 0 }
  let s := match x with
    | none => s
    | some x =>
      let r : Int := signed 16 (s.par P.SETPOINT l)
      let e := if s.loopDir l then sat16 (x - r) else sat16 (r - x)
      let al := signed 16 (s.par P.INPUT_ALARM l)
      let low := if al ≠ 0 ∧ x < al then (s.loopOf l).low + 1 else 0
      let s := s.updLoop l fun d => { d with err := e, low := low }
      let s := if 16 ≤ low then s.raiseLimited E.INPUT_LOW l sec else s
      let s := s.detector l e
      if (s.loopOf l).mode = 2 then s.track l e else s
  let s := match (s.loopOf l).mode with
    | 1 =>
      let t : Int := s.par P.FIXED_OUT l
      let sl : Int := s.par P.OUT_SLEW l
      s.updLoop l fun d =>
        let u := (if sl = 0 then t else clampI (d.u - sl) (d.u + sl) t).toNat
        { d with u := u, integ := u * 4096, saturated := false, satSince := 0, satTold := false }
    | 3 => s.updLoop l fun d => { d with integ := d.u * 4096, saturated := false, satSince := 0, satTold := false }
    | _ => s
  s.writeOut l

/-- PUMP_STEP_SLOT: in step slot t the loops with (t + l) mod P_l = 0 fall due, a step still waiting is dropped, and the
lowest waiting loop is served; a member that is not ACTIVE does not use its own results (R371, R372, R384). -/
def execPumpStepSlot (s : State) : Res :=
  .next <|
  if !s.pump.running then s
  else
    let t := s.pump.slot
    let s := { s with pump := { s.pump with slot := t + 1 } }
    let s := s.each (List.range 16) fun s l =>
      if (s.loopOf l).mode = 0 ∨ (t + l) % s.par P.LOOP_PERIOD l ≠ 0 then s
      else
        let was := (s.loopOf l).waiting
        let s := s.updLoop l fun d => { d with waiting := true }
        if was then (s.bump P.OVERRUNS l).raiseLimited E.LOOP_OVERRUN l sec else s
    match (List.range 16).find? fun l => (s.loopOf l).waiting with
    | none => s
    | some l =>
      let s := s.updLoop l fun d => { d with waiting := false }
      let s := s.setPar P.POWER_NOW 0 s.power
      if s.isSecond then s else s.loopStep l

/-! Start, stop and latch (R381–R384) -/

/-- Outputs no running loop drives are low, and β is 0x7FFF where no loop drives it (R376). -/
def State.idleOutputs (s : State) : State :=
  let driven (o : Nat) : Bool := (List.range 16).any fun l => s.loopOut l == o && (s.loopOf l).mode != 0
  let s := { s with pump := { s.pump with duty := SMap.keep (fun o => driven (o + 1)) s.pump.duty
                                          dutyAt := SMap.keep (fun o => driven (o + 1)) s.pump.dutyAt } }
  if driven 11 then s
  else
    let s := s.setPar P.BETA_PRESENTED 0 0x7FFF
    if s.pump.capped then ({ s with pump := { s.pump with capped := false } }).raise E.POWER_CAP_ACTIVE 0xFFFF 0 else s

/-- u a pin's duty stands for, INVERT undone (R383). -/
def State.dutyLevel (s : State) (l : Nat) : Nat :=
  let o := s.loopOut l
  let d := SMap.get 0 s.pump.duty (o - 1)
  let v := if o = 9 ∨ o = 10 then min ((2 * d + 4) / 5 * 8) 32767 else d * 8
  s.outLevel l v

/-- PUMP rises: after an L0 reset every loop starts at its FIXED_OUT; after an L1 or L2 reset each takes u from the duty
its pin holds, β's loop from 32,767 (R383), and one without an output from the 0 that the reset left of it (R386). -/
def State.pumpStart (s : State) : State :=
  let again := s.pump.ran
  let s := { s with pump := { s.pump with slot := 0, running := true, ran := true } }
  let s := s.each (List.range 16) fun s l =>
    let u := if !again then s.par P.FIXED_OUT l
      else if s.loopOut l = 11 then 32767
      else if s.loopOut l = 0 then 0 else s.dutyLevel l
    s.updLoop l fun d => { d with
      mode := s.loopMode l, u := u, integ := u * 4096, scale := s.par P.GAIN_SCALE l, preset := true, waiting := false
      steps := 0, crossings := 0, sign := 0, satSince := 0, satTold := false, low := 0, acted := false
      err := 0, saturated := false, skipped := false }
  (s.each (List.range 16) fun s l => if (s.loopOf l).mode = 0 then s else s.writeOut l).idleOutputs

/-- The loops stop; pins go on as R47 gives (R383). -/
def State.pumpStop (s : State) : State :=
  { s with pump := { s.pump with running := false, loops := s.pump.loops.map fun e => (e.1, { e.2 with waiting := false }) } }

/-- A latch that has changed area 2C: scale and mode in force return to the configured ones where the loop's
configuration, gain tables or scale were written or its OSC_RESET bit is set, and presets are armed (R381, R382).
`written` names the elements the latch wrote, and `before` is the state before it. -/
def State.pumpLatch (s before : State) (written : List (Nat × Nat)) : State :=
  if !s.pump.running then s
  else
    let resets := s.pump.oscReset
    let s := { s with pump := { s.pump with oscReset := 0 } }
    let wrote (l : Nat) (ids : List Nat) : Bool := written.any fun w => ids.contains w.1 && w.2 == l
    let s := s.each (List.range 16) fun s l =>
      let restore := bit resets l || wrote l [P.LOOP_CONFIG, P.KP_LUT, P.KI_LUT, P.GAIN_SCALE]
      let old := s.loopOf l
      let mode := if restore then s.loopMode l else old.mode
      let tables := s.blob P.KP_LUT l 0 66 != before.blob P.KP_LUT l 0 66 || s.blob P.KI_LUT l 0 66 != before.blob P.KI_LUT l 0 66
      let arm := (mode == 2 && old.mode != 2) || tables || s.par P.GAIN_SCALE l != before.par P.GAIN_SCALE l ||
        s.loopIn l != before.loopIn l || s.loopDir l != before.loopDir l
      let u := if old.mode = 0 ∧ mode ≠ 0 then s.outLevel l 0 else old.u
      s.updLoop l fun d => { d with
        mode := mode, scale := if restore then s.par P.GAIN_SCALE l else d.scale, acted := d.acted && !restore, u := u
        preset := d.preset || arm, waiting := d.waiting && mode != 0 }
    s.idleOutputs

/-! Checks of a commit and status (R371, R373, R375, R376, R386) -/

/-- Σ 1/P over the loops that are not OFF. -/
def State.engineLoad (s : State) : ℚ :=
  ((List.range 16).filter fun l => s.loopMode l != 0).foldl (fun (a : ℚ) l => a + 1 / (s.par P.LOOP_PERIOD l : ℚ)) 0

/-- The input a code names is enabled for a loop of a mode. -/
def State.inputOk (s : State) (mode code : Nat) : Bool :=
  if code = 0 then mode == 1
  else if code = 11 then !s.powerTerms.isEmpty && (s.inputAins 11).all s.ainOn
  else (s.inputAins code).all s.ainOn

/-- A rule of area 2C that the values in force break. -/
def State.pumpBad (s : State) : Bool :=
  decide (1 < s.engineLoad) ||
  (List.range 8).any (fun a =>
    let c := s.par P.AIN_CONFIG a
    bit c 7 && (!s.portOn (field c 8 5) || (s.qMode (field c 8 5 / 4) != 1 && s.qMode (field c 8 5 / 4) != 2))) ||
  (List.range 16).any (fun l => s.loopMode l != 0 && !s.inputOk (s.loopMode l) (s.loopIn l)) ||
  (List.range 16).any fun l => s.loopOut l != 0 && (List.range l).any fun m => s.loopOut m == s.loopOut l

/-- `#2C.0020 LOOP_STATE/l`. -/
def State.loopState (s : State) (l : Nat) : List Byte :=
  let d := s.loopOf l
  leBytes 1 (d.mode + 4 * b2n d.saturated + 8 * b2n d.skipped + 16 * b2n d.acted) ++ leBytes 1 d.crossings ++ leBytes 2 d.u ++
    leBytes 2 (unsigned 16 d.err) ++ leBytes 5 (unsigned 40 d.integ) ++ leBytes 1 0 ++ leBytes 2 d.scale ++ leBytes 2 0

end Sys2Proof.Machine
end

