-- ==== Sys2Proof/Machine/Regions.lean ====
section
/-! DEFINITION. What a region loses when it stops, the pin groups' map state, safe hold, the pipeline restart, the resets of
the three levels and the thermal trip's hardware actions (R30–R33, R43–R49, R57–R66, R445, R455). -/

namespace Sys2Proof.Machine

/-! Pin groups (R43–R47) -/

/-- Fused map state of a pin group. -/
def State.fusedState (s : State) (g : Nat) : Nat := recField s.start.record (32 + 3 * g) 3

/-- States a group accepts (R43). -/
def acceptedStates (g : Nat) : List Nat :=
  if g ≤ 3 then [0, 1, 2, 3, 4, 5] else if g ≤ 7 then [0, 1, 3] else if g = 8 then [0, 1, 2, 3, 4, 5]
  else if g = 9 then [0, 1, 2, 5] else if g = 10 then [0, 1, 3, 5] else if g ≤ 13 then [0, 1, 2, 3, 4, 5]
  else if g = 14 then [1, 3] else [0, 1, 3]

/-- The state a group takes as its map state (R45). -/
def State.appliedState (s : State) (g : Nat) : Nat :=
  let f := s.fusedState g
  if !(acceptedStates g).contains f then 1
  else if s.paired && decide (g ≤ 9) && decide (3 ≤ f) then 1 else f

/-- `#01.0020 PIN_RESET_MAP` and `#01.0021 PIN_RESET_APPLIED` (R44). -/
def State.pinMap (s : State) : Nat := recField s.start.record 32 48
def State.pinApplied (s : State) : Nat := (List.range 16).foldl (fun m g => m + s.appliedState g * 8 ^ g) 0

/-- Pulse outputs whose pin is high as a reset is entered (R47). -/
def State.tpoHigh (s : State) : NSet :=
  match SMap.get PinMode.off s.start.groups 13 with
  | .configured => (List.range 8).filter fun n => s.tpoLevel n
  | _ => if s.start.keeps.contains 13 then s.start.tpoHeld else []

/-- Groups take their map state; state 5 keeps levels when `keep`, else it acts as 1 (R46). -/
def State.takeMap (s : State) (gs : List Nat) (keep : Bool) : State :=
  s.each gs fun s g =>
    { s with start := { s.start with
      tpoHeld := if g = 13 then s.tpoHigh else s.start.tpoHeld
      oeLowDue := s.start.oeLowDue.filter fun p => 4 + p / 8 != g
      groups := SMap.set .off s.start.groups g .map
      keeps := if keep && s.appliedState g == 5 then NSet.add s.start.keeps g else NSet.del s.start.keeps g
      oeFree := if 4 ≤ g ∧ g ≤ 7 then s.start.oeFree.filter fun p => p / 8 != g - 4 else s.start.oeFree } }

/-- The ready bit whose rise lets a group leave its map state (R43); after an L2 reset or a pipeline restart PG14 waits for
SCANOUT or DRIVE.  FW does not clear at L2, and PG9 waits for its next rise all the same (DESIGN CHOICE, log entry 14).  The PWO groups of a member that
does not act stay in their map state (R193). -/
def State.groupBit (s : State) (g : Nat) : Option Nat :=
  if g ≤ 8 then (if s.isTile then some B.DRIVE else none)
  else if g = 9 then (if s.isTile then some B.FW else none)
  else if g = 10 then (if s.isHead then some B.FIXTURE else none)
  else if g ≤ 12 then (if s.isTile && (!s.paired || s.driving) then some B.PUMP else none)
  else if g = 13 then some B.TIME_LOCK
  else if g = 14 then (if s.isHead then some (if s.start.pg14Late then B.SCANOUT else B.FW)
    else if s.isTile then some (if s.start.pg14Late then B.DRIVE else B.FW) else none)
  else if s.isHead then some B.INPUTS else none

/-- Groups whose ready bit is `i` leave their map state in one step; `LPn_OE` is then low until a display tick (R49). -/
def State.leaveMap (s : State) (i : Nat) : State :=
  s.each ((List.range 16).filter fun g => s.groupBit g == some i) fun s g =>
    { s with start := { s.start with
      groups := SMap.set .off s.start.groups g .configured, keeps := NSet.del s.start.keeps g
      leftAt := SMap.set 0 s.start.leftAt g (s.now + 1)
      oeLowDue := s.start.oeLowDue.filter fun p => 4 + p / 8 != g
      oeFree := if 4 ≤ g ∧ g ≤ 7 then s.start.oeFree.filter fun p => p / 8 != g - 4 else s.start.oeFree } }

/-- Groups that left their map state in this very cycle, over which a reset in it prevails (R49). -/
def State.justLeft (s : State) : List Nat := (List.range 16).filter fun g => SMap.get 0 s.start.leftAt g == s.now + 1

/-- Groups that an L2 reset or a pipeline restart puts into their map state (R46, R49). -/
def State.pipelineGroups (s : State) : List Nat := [0, 1, 2, 3, 4, 5, 6, 7, 8, 9, 11, 12, 14] ++ s.justLeft

/-- Pins during a pipeline restart: as for L2, but a tile's `LPn_OE` that may light goes on until its port's next refresh-subframe boundary drives it
low, and a paired member releases its nets to the states of R193 (R32, R46). -/
def State.clampPins (s : State) : State :=
  if s.isPairedTile then
    (s.takeMap (s.pipelineGroups.filter fun g => decide (10 ≤ g)) true).each (List.range 10) fun s g =>
      { s with start := { s.start with
        groups := SMap.set .off s.start.groups g .released, keeps := NSet.del s.start.keeps g
        oeFree := if 4 ≤ g ∧ g ≤ 7 then s.start.oeFree.filter fun p => p / 8 != g - 4 else s.start.oeFree } }
  else
    let driven := (List.range 16).filter fun g => decide (4 ≤ g) && decide (g ≤ 7) &&
      SMap.get PinMode.off s.start.groups g == .configured && !s.justLeft.contains g
    let s := s.takeMap (s.pipelineGroups.filter fun g => !driven.contains g) true
    let due := s.start.oeFree.filter fun p => s.drive.lit.contains p && driven.contains (4 + p / 8)
    s.each driven fun s g =>
      { s with start := { s.start with
        oeLowDue := due, oeFree := s.start.oeFree.filter due.contains
        groups := if due.any fun p => 4 + p / 8 == g then s.start.groups else SMap.set .off s.start.groups g .drivenLow } }

/-! What the regions lose (R62, R445) -/

/-- Bits of READY_MAP that the Image/Drive region carries, with FIXTURE, REDUNDANCY_SYNC and SHOW (R62). -/
abbrev imageBits : Nat := 0xDF80

/-- Ready bits clear with what depends on them; in a reset without EV 17 (R78). -/
def State.dropReady (s : State) (m : Nat) : State := s.keepReady (0xFFFF - m)

/-- The program slots take their stored copies again, and those without one are empty; one whose copies fail their CRC is reported;
a quad whose bound program names an empty slot stays dark as after a repeated fault (R445). -/
def State.refillSlots (s : State) : State :=
  let s := s.each (List.range 8) fun s i =>
    let s := (s.putBank BK.PROG i {}).loadStored BK.PROG i
    let b := s.bank BK.PROG i
    let k := storedKeys BK.PROG i
    let bad := b.st == 0 && [k.1, k.2].any fun k => SMap.get {} s.store.flash k != {}
    (s.setPar P.PROG_CRC i (if b.st = 2 then b.crc else 0)).raiseIf bad E.PROG_SEAL_FAILED i
  s.each (List.range 8) fun s q =>
    let slot := s.par P.QUAD_PROGRAM q
    if s.qMode q != 0 && decide (slot < 8) && !s.bankSealed BK.PROG slot then s.updSeq q fun d => { d with st := 3, dark := 2 } else s

/-- Image/Drive stops: its registers and its cistern banks are lost; the slots, the gain tables, the ledger and the lamp status
map in DRAM are kept, and pins go on as their groups say (R32, R62, R445). -/
def State.imageLost (s : State) : State :=
  let s := (s.sluiceOff).pumpStop
  let s := { s with
    comp := {}
    scan := { s.scan with binds := [], streamers := [], last := none, goodTicks := 0, everLocked := false, own := none, partner := none, missed := [] }
    src := { s.src with layers := [], leaving := [], setDue := 0 }
    tile := { s.tile with
      binds := [], snaps := [], backs := [], front := none, frontBind := none, prevBind := none, chosen := none, dtAt := none, shift := none
      betas := [], betaIn := [], betaLast := 32768, targetsAt := none, targets := [], oldTargets := [], building := none
      built := none, corrMiss := [] }
    drive := {}
    dram := { s.dram with cisternBad := s.dram.cisternBad.filter fun k => decide (k / 32768 ≤ 8) }
    health := { s.health with readAt := [], tested := [], lit := [], started := [], fromActive := [] }
    pump := { s.pump with loops := [], ains := [], tachs := [], fromActive := [], oscReset := 0, capped := false }
    fix := { s.fix with sampling := none, doneAt := none, fresh := none, frames := [], started := none }
    red := { s.red with strikes := 0, subCompared := 0, subDiffered := 0, subSkipped := 0, matchTicks := 0, gotLedger := false
                        own := [], verdicts := [], tickClean := 0, memberIn := []
                        gotSlew := false, gotFaults := false, activeAt := none, drives := false, run := 0
                        sigOwn := [], sigPartner := [] }
    start := { s.start with quiesced := s.start.quiesced.filter fun c => c / 32 != 4 } }
  if s.isTile then s.refillSlots else s

/-- Front stops: lanes, link state, chain protocol, DP receivers and ingress channels (R75). -/
def State.frontLost (s : State) : State :=
  let s := s.each (List.range 32) fun s n => if s.laneState n = L.OFF then s else s.laneGo n L.OFF
  { s with
    lane := { portW := s.lane.portW, portE := s.lane.portE, pllLost := s.lane.pllLost }
    chain := { cutDone := s.chain.cutDone, dropped := s.chain.dropped, lValid := s.chain.lValid }
    start := { s.start with quiesced := s.start.quiesced.filter fun c => c / 32 != 3 }
    src := { s.src with chans := [], dpFill := [], dpBad := [], dpStart := [], dpDone := [] } }

/-- Fields of the update state that the flash holds (R490). -/
def PartUpd.flashOnly (u : PartUpd) : PartUpd :=
  { st := u.st, confirmed := u.confirmed, trial := u.trial, boots := u.boots, manifest := u.manifest, slots := u.slots
    format := u.format, frozenFormat := u.frozenFormat, frozen := u.frozen
    flashUnits := u.flashUnits }

/-- The next signature index as flash and the checkpoint bits give it (R475). -/
def PartSec.startIndex (u : PartSec) : Nat :=
  max u.flashQ (4096 * ((List.range 256).filter (bit u.checkpoints)).length)

/-- Fields of the security state that fuses, OTP and flash hold, with the index they give. -/
def PartSec.flashOnly (u : PartSec) : PartSec :=
  { fuses := u.fuses, burning := u.burning, keys := u.keys, keysValid := u.keysValid, flashQ := u.flashQ, checkpoints := u.checkpoints, rootHash := u.rootHash, floor := u.floor
    jtag := u.jtag, cells := u.cells, lowTold := u.lowTold, q := u.startIndex }

/-- Control stops: the dictionary's transactions, the MACs, the DMX ports and the boot; the lease is kept (R62, R96). -/
def State.controlLost (s : State) : State :=
  { s with
    od := { stored := s.od.stored, storedBlobs := s.od.storedBlobs, dirty := s.od.dirty, holder := s.od.holder, lastMsg := s.od.lastMsg
            lastCounter := s.od.lastCounter, lastResp := s.od.lastResp }
    ev := { s.ev with collectors := s.ev.collectors.filter fun (e : Nat × List Raise) => e.1 == 2, queue := [], sent := [], received := [], lost := 0, lastAck := 0 }
    eth := {}
    fix := {}
    upd := s.upd.flashOnly
    security := { s.security.flashOnly with requestAt := s.security.requestAt }
    tile := { s.tile with flush := none }
    perf := { s.perf with monitors := [], writing := none, left := [], held := 0, cycle := 0, queue := [] } }

/-- The counters of the restarted regions return to 0 (R498). -/
def State.countersLost (s : State) (rs : List Nat) : State :=
  { s with perf := { s.perf with counters := s.perf.counters.filter fun (e : Nat × Nat) => !rs.contains (e.1 / 64) } }

/-- Regions are held; their clocks run on (R74, R80). -/
def State.holdRegions (s : State) (rs : List Nat) : State :=
  s.each rs fun s r => { s with start := { s.start with released := SMap.set false s.start.released r false } }

/-! Carrying out a reset (R62) -/

/-- A counter of `#02.0004`. -/
def State.countReset (s : State) (l : Level) : State :=
  s.bump P.RESET_COUNT (match l with | .l0 => 0 | .l1 => 1 | .l2 => 2)

/-- What of the time state a reset at L1 ends: the servo's state and correction, the PTP port, the time-stamp queue and what a tile
knows of its markers; the counter and the integrator stay (R62, R214, R215, R218). -/
def PartTime.l1 (t : PartTime) : PartTime :=
  { t with servo := 0, near := 0, far := 0, freq := 0, hist := [], foreigns := [], master := none, sync := none, lastSync := none
           delayReq := none, path := none, eligible := false, tsq := [], refLast := none, close := 0, wide := 0
           offsets := [], ranked := none, firstAt := none, rankNext := none, used := false }

/-- L2: Image/Drive restarts; PG0–PG9, PG11, PG12 and PG14 take their map state and keep as state 5 says (R46, R62). -/
def State.resetL2 (s : State) : State :=
  let s := { s with start := { s.start with resetting := some .l2, pg14Late := true, latchHold := true } }
  let gs := s.pipelineGroups
  let s := ((s.dropReady imageBits).takeMap gs true).imageLost
  let s := (s.resetParams .l2).countersLost [4]
  let s := s.holdRegions [4]
  { s with start := { s.start with turn := 4, restarting := false }
           time := { s.time with ranked := none, firstAt := none, rankNext := none } }

/-- L1: Control, Memory, Front and Image/Drive restart; Time runs on and DRAM is held in self-refresh (R62, R439).  A request
that still waits its 10 ms does not outlive the reset (DESIGN CHOICE, log entry 14). -/
def State.resetL1 (s : State) : State :=
  let s := { s with start := { s.start with resetting := some .l1, lowWater := false, pg14Late := false, latchHold := false } }
  let s := s.takeMap (List.range 16) true
  let s := ((((s.dropReady 0xFFFF).dramSleep).imageLost).frontLost).controlLost
  let s := { s with red := { sluiceI := s.red.sluiceI, entries := s.red.entries, eAcc := s.red.eAcc, otherManager := s.red.otherManager }
                    chain := { s.chain with lValid := [] }, time := s.time.l1, health := { s.health with untold := 0 } }
  let s := (s.resetParams .l1).countersLost [0, 1, 3, 4]
  let s := s.holdRegions [0, 1, 3, 4]
  { s with start := { s.start with
    turn := 0, optionRead := false, porOut := false, highWater := false, quiesced := [], restarting := false, request := none, safeHold := false
    stopped := false, noFirmware := false }, od := { s.od with dirty := false } }

/-- Pin groups before the option bytes are read after power-on: weak pull-down or high impedance once `VDDIO_G` is valid (R48). -/
def State.weakGroups (s : State) : SMap PinMode :=
  if SMap.get false s.start.valid 5 then (List.range 16).map fun g => (g, if g = 9 ∨ 13 ≤ g then .highZ else .weakDown) else []

/-- L0: everything restarts; flash, fuses and OTP are kept (R62).  Every pin group takes its map state, and out of a power-on
reset its state before the option bytes are read (R46, R48). -/
def State.resetL0 (s : State) : State :=
  let t := s.resetParams .l0
  { pending := s.pending, now := s.now, phase := s.phase, free := s.free, outbox := s.outbox
    dict := t.dict, blobs := t.blobs.filter fun (e : Nat × Nat) => e.1 / 268435456 / 65536 != P.LEDGER_STAGE
    start := { valid := s.start.valid, coreCleared := s.start.coreCleared, por := s.start.por, resetN := s.start.resetN
               lowSince := s.start.lowSince, heldByPin := s.start.heldByPin, longHeld := s.start.longHeld
               otpA := s.start.otpA, otpB := s.start.otpB, banks := s.start.banks, class33 := s.start.class33
               record := s.start.record, tripped := s.start.tripped
               groups := if s.start.por then s.weakGroups else (List.range 16).map fun g => (g, .map) }
    od := { stored := s.od.stored, storedBlobs := s.od.storedBlobs }
    therm := { fused := s.therm.fused, badSets := s.therm.badSets, roomValid := s.therm.roomValid, stageAt := s.now }
    red := { sluiceI := s.red.sluiceI }
    store := { flash := s.store.flash }
    tile := { slots := s.tile.slots }
    health := { stored := s.health.stored }
    dram := { dieMb := s.dram.dieMb }
    security := s.security.flashOnly
    upd := s.upd.flashOnly }

/-- The option record with its source code for `#01.0002` and the events of its reading, by the procedure of R67 and R68. -/
def copyOk (format : Byte) (c : List Byte) : Bool :=
  c.length == 64 && c.getD 0 0 == format && crc32 (c.take 60) == leNat (c.drop 60)

/-- The bits an overlay may change: FORMAT, MANAGER_EN, PIN_RESET_MAP, SHORT_LEVEL, LONG_LEVEL and LANE_REF (R72). -/
def overlayMask : Nat :=
  0xFF + 2 ^ 12 + (2 ^ 48 - 1) * 2 ^ 32 + 15 * 2 ^ 80 + 255 * 2 ^ 104

/-- An overlay meets every condition of R72 against an OTP record. -/
def overlayOk (ov base : List Byte) : Bool :=
  copyOk 0x81 ov && ((leNat (ov.take 60)) ||| overlayMask) == ((leNat (base.take 60)) ||| overlayMask)

/-- What the option-byte state machine chooses: record, `OPTION_SOURCE` and events; `flashOk` says that the flash answered within
the read (R67–R72). -/
def State.chooseRecord (s : State) (flashOk : Bool) : List Byte × Nat × List Nat :=
  let okA := copyOk 0x01 s.start.otpA
  let okB := copyOk 0x01 s.start.otpB
  let flags := b2n okA + 2 * b2n okB
  let base : List Byte × Nat × List Nat :=
    if okA then (s.start.otpA, flags, if okB && s.start.otpA == s.start.otpB then [] else [E.OPTION_COPY_BAD])
    else if okB then (s.start.otpB, flags + 4, [E.OPTION_COPY_BAD])
    else (defaultRecord, flags + 32, [E.OPTION_BYTES_INVALID])
  if recField base.1 98 1 = 0 then base
  else
    let ov := s.blob P.OPTION_OVERLAY 0 0 64
    if flashOk && overlayOk ov base.1 then (ov, base.2.1 + 8, base.2.2 ++ [E.OVERLAY_APPLIED])
    else (base.1, base.2.1 + 16, base.2.2 ++ [E.OVERLAY_REJECTED])

/-- Fields whose change at an L1 reset deepens it: ROLE, SIDE, PAIRED and DRAM_SIZE (R64). -/
def sameIdentity (a b : List Byte) : Bool :=
  recField a 8 4 == recField b 8 4 && recField a 112 8 == recField b 112 8

/-- The level a reset is carried out at, deepened as R64 says. -/
def State.deepen (s : State) (l : Level) : Level :=
  let l := if l = .l2 ∧ (!s.rdy B.FW || s.start.safeHold) = true then .l1 else l
  if l = .l1 ∧ (!s.rdy B.DRAM || !sameIdentity (s.chooseRecord true).1 s.start.record) = true then .l0 else l

def levelDepth : Level → Nat | .l0 => 2 | .l1 => 1 | .l2 => 0
def levelCode : Level → Nat | .l0 => 0 | .l1 => 1 | .l2 => 2

/-- A reset is carried out at a level already settled; RESET_CAUSE and RESET_COUNT record it (R80, R81). -/
def State.carryOut (s : State) (l : Level) (source : Nat) (escalated : Bool) : State :=
  let s := match l with | .l0 => s.resetL0 | .l1 => s.resetL1 | .l2 => s.resetL2
  let s := (s.setPar P.RESET_CAUSE 0 (16 * levelCode l + 8 * b2n escalated + source)).countReset l
  s.raiseIf escalated E.RESET_ESCALATED

/-- A reset of mapped level `l` from `source`: without effect while the trip is latched or while one as deep is carried out,
then only counted (R60, R66); else carried out, deepened as R64 says, with EV 1 or EV 2. -/
def State.enterReset (s : State) (l : Level) (source : Nat) : State :=
  if s.start.tripped then s.countReset l
  else
    let blocked := match s.start.resetting with | some c => decide (levelDepth l ≤ levelDepth c) | none => false
    if blocked then s.countReset l
    else
      let m := s.deepen l
      let s := s.carryOut m source (m != l)
      let s := s.raiseIf (source == 1 || source == 3) E.RESET_SHORT
      s.raiseIf (source == 2 || source == 4) E.RESET_LONG

/-- Level of a class in the record in force (R61). -/
def levelOf (code : Nat) : Level := match code with | 1 => .l1 | 2 => .l2 | _ => .l0
def State.classLevel (s : State) (c : ResetClass) : Level :=
  levelOf (recField s.start.record (match c with | .short => 80 | .long => 82) 2)

/-! Pipeline restart and safe hold (R32, R33) -/

/-- The pipeline restarts with the effect of level L2, outside a reset (R32). -/
def State.pipelineRestart (s : State) : State :=
  let s := s.raise E.PIPELINE_RESTART
  let s := { s with start := { s.start with pg14Late := true, restarting := true, latchHold := true } }
  let s := ((s.dropReady imageBits).clampPins).imageLost
  let s := ((s.resetParams .l2).countersLost [4]).holdRegions [4]
  if s.isHead then { s with comp := { s.comp with recovery := s.par P.RECOVERY_FRAMES } } else s

/-- Safe hold: Image/Drive in reset, PG0–PG12 and PG14 in their map state with state 5 as 1, the sluice OFF (R33, R46). -/
def State.enterSafeHold (s : State) : State :=
  if s.start.safeHold then s
  else
    let s := { s with start := { s.start with safeHold := true } }
    let s := ((s.dropReady imageBits).takeMap [0, 1, 2, 3, 4, 5, 6, 7, 8, 9, 10, 11, 12, 14] false).imageLost
    let s := s.holdRegions [4]
    let s := { s with pump := { s.pump with duty := [], dutyAt := [] } }
    (s.logDramLost).raise E.SAFE_HOLD

/-! The thermal trip (R455) -/

/-- The trip latch is set: the hardware stops everything but OD_MIN; the entry goes to `TRIP_LOG` with its cause. -/
def State.trip (s : State) (cause : Nat) : State :=
  if s.start.tripped then s
  else
    let s := s.setBlob P.TRIP_LOG 0 0
      (leBytes 10 (time80 s.nowNs) ++ leBytes 2 (s.par P.DIE_TEMP) ++ leBytes 1 cause ++ leBytes 3 0)
    let s := (s.setPar P.THERMAL_STAGE 0 4).raise E.THERMAL_TRIP
    let s := { s with start := { s.start with tripped := true } }
    let s := (((s.dropReady 0xFFFE).imageLost).frontLost).dramLost
    let s := { s with ev := { s.ev with log := [], ringTo := 0 }, time := {}, pump := { s.pump with duty := [], dutyAt := [] } }
    let s := (s.setPar P.DRAM_STATE 0 0).takeMap (List.range 16) false
    s.holdRegions [1, 2, 3, 4]

end Sys2Proof.Machine
end

