-- ==== Sys2Proof/Machine/Thermal.lean ====
section
/-! DEFINITION. The temperature sensor, thermal stages, background pauses and the trims (chapter 20). -/

namespace Sys2Proof.Machine

/-! Stages (R449–R451), temperatures in 1/16 °C -/

/-- Entry temperature of a stage, and exit temperature of the stages that have one. -/
def stageEntry (st : Nat) : Int := match st with | 1 => 1760 | 2 => 1840 | 3 => 1920 | _ => 2080
def stageExit (st : Nat) : Option Int := match st with | 1 => some 1696 | 2 => some 1776 | 3 => some 1856 | _ => none

/-- The stage a valid sample leads to (R451). -/
def nextStage (st : Nat) (t : Int) : Nat :=
  let up := ([1, 2, 3, 4].filter fun x => decide (stageEntry x ≤ t)).foldl max 0
  if st < up then up
  else match stageExit st with
    | some e => if t ≤ e then st - 1 else st
    | none => st

/-- A sample lies within 8 °C of an active limit of a stage (R449). -/
def nearLimit (st : Nat) (t : Int) : Bool :=
  ([1, 2, 3, 4].any fun x => decide (st < x) && decide (|t - stageEntry x| ≤ 128)) ||
    (match stageExit st with | some e => decide (|t - e| ≤ 128) | none => false)

/-- Event on entry to a stage. -/
def stageEvent (st : Nat) : Nat :=
  match st with | 1 => E.THERMAL_WARN | 2 => E.THROTTLE_1 | 3 => E.THROTTLE_2 | _ => E.THERMAL_TRIP

/-- Whole seconds spent in the stage in force since they were last counted (R462). -/
def State.stageRun (s : State) : Nat := if s.stage < 4 then (s.now - s.therm.stageAt) / sec else 0

/-- Whole seconds spent in the stage in force are counted (R462). -/
def State.stageSeconds (s : State) : State :=
  let n := s.stageRun
  if 0 < n then
    ({ s with therm := { s.therm with stageAt := s.therm.stageAt + n * sec } }).bumpBy P.STAGE_TIME s.stage n
  else s

/-- `#04.0020 STAGE_TIME` as it reads: the seconds of the stage in force are counted up to now. -/
def State.stageTime (s : State) (x : Nat) : Nat :=
  (s.par P.STAGE_TIME x + if x = s.stage then s.stageRun else 0) % 2 ^ 32

/-- Throttle-1 begins: the background operations of several units that run have units left, and wait after the one in progress
(R452).  Their commands end the whole operation, so that one pause stands for the pauses between its units (DESIGN CHOICE, log
entry 21). -/
def State.bgSlow (s : State) : State :=
  let s := s.when (s.comp.building != 0) fun s => s.bgPauseStart Bg.POLDER
  s.when (s.tile.flush.isSome || !s.store.due.isEmpty) fun s => s.bgPauseStart Bg.FLASH

/-- `#04.0005 SAMPLE_FAST`: the last valid sample, if there is one, lies within 8 °C of an active limit of the stage in force (R449). -/
def State.sampleRate (s : State) : State :=
  let t := s.par P.DIE_TEMP
  s.setPar P.SAMPLE_FAST 0 (b2n (t != 0x8000 && nearLimit s.stage (signed 16 t)))

/-- The stage changes below trip, with its event and counts; a change across throttle-2 is stamped for R454. -/
def State.stageGo (s : State) (new : Nat) : State :=
  let was := s.stage
  if new = was then s
  else
    let s := s.stageSeconds
    let s := ((s.setPar P.THERMAL_STAGE 0 new).bump P.STAGE_ENTRIES new)
    let s := { s with therm := { s.therm with stageAt := s.now } }
    let s := if (3 ≤ was) ↔ (3 ≤ new) then s else { s with therm := { s.therm with t2At := s.now + 1, t2Was := decide (3 ≤ was) } }
    let s := s.when (decide (was < 2 ∧ 2 ≤ new)) State.bgSlow
    if was < new then s.raise (stageEvent new) else s.raise E.THERMAL_STAGE_DOWN 0xFFFF new

/-! Trims (R456–R459) -/

/-- Region whose release a domain's direct setting precedes (R458, log entry 21). -/
def domainRegion (d : Nat) : Nat := match d with | 2 => 1 | 3 => 3 | 4 => 1 | 5 => 4 | 6 => 4 | _ => 0

/-- Target of a trim at a temperature (R457). -/
def Trim.target (t : Trim) (d : Nat) (temp : Int) : Int :=
  let v := if d = 0 then t.room
    else if temp < -640 then t.cold
    else if temp ≤ 400 then t.cold + roundDiv ((temp + 640) * (t.room - t.cold)) 1040
    else t.room + roundDiv ((temp - 400) * (t.hot - t.room)) 1280
  clampI t.lo t.hi v

/-- A domain has failed: a fused set is missing or fails its CRC, or, in the lane domain, the termination could not be calibrated
(R125, R459). -/
def State.domainBad (s : State) (d : Nat) : Bool := s.therm.badSets.contains d || (d == 3 && s.lane.term.isNone)

/-- Target of a code; a failed domain's is its +25 °C set if that is valid, else the built-in nominal codes (R459).  A lane domain that
fails its self-check with sound sets has a valid +25 °C set. -/
def State.trimTarget (s : State) (key : Nat) (t : Trim) (temp : Int) : Int :=
  let d := key / 64
  if !s.domainBad d then t.target d temp
  else if s.therm.roomValid.contains d || !s.therm.badSets.contains d then t.room else Config.trimNominal d (key % 64)

/-- In a region that is not released, every code is at its target (R458). -/
def State.trimDirect (s : State) : State :=
  s.each s.therm.fused fun s e =>
    if SMap.get false s.start.released (domainRegion (e.1 / 64)) then s
    else { s with therm := { s.therm with codes := SMap.set 0 s.therm.codes e.1 (SMap.get 0 s.therm.targets e.1) } }

/-- The targets for a temperature; codes of regions not yet released take them directly (R457, R458). -/
def State.retarget (s : State) (temp : Int) : State :=
  let targets : SMap Int := s.therm.fused.filterMap fun (e : Nat × Trim) =>
    let v := s.trimTarget e.1 e.2 temp
    if v = 0 then none else some (e.1, v)
  { s with therm := { s.therm with targets := targets } }.trimDirect

/-- A domain fails: its pass bit clears and its event is raised once per L0 reset (R459). -/
def State.domainFail (s : State) (d : Nat) : State :=
  let s := s.setPar P.TRIM_PASS 0 (setBit (s.par P.TRIM_PASS) d false)
  if s.therm.failTold.contains d then s
  else
    let s := { s with therm := { s.therm with failTold := NSet.add s.therm.failTold d } }
    let s := s.raise (if d = 3 then E.LANE_TRIM_FAIL else E.TRIM_FAIL) d
    s.raiseIf (d == 0) E.THERMAL_SENSOR_FAULT

/-- The termination is calibrated against `LCAL`, whose reading in ohms is a free value; outside ±5 % of 4.99 kΩ the fused nominal
termination is used, and the domain of the lane trims fails (R125). -/
def State.calibrateTerm (s : State) : State :=
  let (r, s) := s.takeFree
  if 4741 ≤ r ∧ r ≤ 5239 then { s with lane := { s.lane with term := some r } }
  else { s with lane := { s.lane with term := none } }.domainFail 3

/-- The release of Front calibrates the termination; once the trims have been evaluated, the targets of the lane domain follow
(R125, R459). -/
def State.frontTrims (s : State) : State :=
  let s := s.calibrateTerm
  let last := s.par P.TRIM_TEMP
  if last = 0x8000 then s else s.retarget (signed 16 last)

/-- An evaluation at a temperature: the calibration of the termination, pass bits, and targets (R125, R457–R459). -/
def State.trimEvaluate (s : State) (temp : Int) : State :=
  let s := ((s.setPar P.TRIM_TEMP 0 (unsigned 16 temp)).bump P.TRIM_EVALUATIONS).calibrateTerm
  let s := s.each (List.range 8) fun s d =>
    if s.domainBad d then s.domainFail d
    else s.setPar P.TRIM_PASS 0 (setBit (s.par P.TRIM_PASS) d true)
  s.retarget temp

/-- `#03.0002 TRIM_WALKING`: domains of released regions with a code away from its target (R458, R460). -/
def State.trimWalking (s : State) : Nat :=
  s.therm.fused.foldl (fun m (e : Nat × Trim) =>
    if SMap.get false s.start.released (domainRegion (e.1 / 64)) = false ∨
      SMap.get 0 s.therm.codes e.1 = SMap.get 0 s.therm.targets e.1 then m else setBit m (e.1 / 64) true) 0

/-- TRIM_STEP: every code away from its target moves one step toward it (R458); a step of a lane trim is stamped (R125). -/
def execTrimStep (s : State) : Res :=
  .next <|
  let s := s.trimDirect
  let walks := s.trimWalking
  let s := s.each s.therm.fused fun s e =>
    let c := SMap.get 0 s.therm.codes e.1
    let t := SMap.get 0 s.therm.targets e.1
    if c = t then s
    else { s with therm := { s.therm with codes := SMap.set 0 s.therm.codes e.1 (if c < t then c + 1 else c - 1) } }
  if bit walks 3 then { s with lane := { s.lane with trimAt := s.now + 1 } } else s

/-! Samples (R431, R449–R451, R457, R462) -/

/-- The DRAM temperature estimate and the refresh interval it asks for (R431). -/
def State.dramEstimate (s : State) (t : Int) : State :=
  let e := t + Config.dramOffset + 32
  let s := s.setPar P.DRAM_TEMP 0 (unsigned 16 e)
  let fast := decide (1360 < e)
  let changed := fast != s.dram.nextFast
  let s := ({ s with dram := { s.dram with nextFast := fast } }).raiseIf changed E.REFRESH_RATE_CHANGED
  let hot := decide (1680 < e)
  let told := s.dram.hotTold
  let s := { s with dram := { s.dram with hotTold := (told && decide (1600 < e)) || hot } }
  s.raiseIf (hot && !told) E.DRAM_HOT

/-- The highest samples, since the L0 reset and ever; flash takes a new maximum at most once per minute (R462). -/
def State.tempMax (s : State) (t : Int) : State :=
  let s := if signed 16 (s.par P.TEMP_MAX) < t then s.setPar P.TEMP_MAX 0 (unsigned 16 t) else s
  let s := if signed 16 s.therm.lifeMax < t then { s with therm := { s.therm with lifeMax := unsigned 16 t } } else s
  let due := match s.therm.lifeAt with | none => true | some x => decide (x + 60 * sec ≤ s.now)
  if signed 16 (s.par P.TEMP_MAX_LIFE) < signed 16 s.therm.lifeMax ∧ due = true then
    ({ s with therm := { s.therm with lifeAt := some s.now } }).setPar P.TEMP_MAX_LIFE 0 s.therm.lifeMax
  else s

/-- `#04.0004 TEMP_MAX_LIFE` as it reads. -/
def State.lifeMax (s : State) : Nat :=
  if signed 16 (s.par P.TEMP_MAX_LIFE) < signed 16 s.therm.lifeMax then s.therm.lifeMax else s.par P.TEMP_MAX_LIFE

/-- THERMAL_SAMPLE: a sample in 1/16 °C, none when its conversion did not complete (R450, R451). -/
def execThermalSample (t : Option Int) (s : State) : Res :=
  .next <|
  if s.start.por || s.start.tripped then s
  else
    let bad (s : State) : State :=
      let n := min (s.therm.invalid + 1) 3
      let s := { s with therm := { s.therm with invalid := n } }
      if n = 3 ∧ s.therm.sensorFault = false then
        ((({ s with therm := { s.therm with sensorFault := true } }).raise E.THERMAL_SENSOR_FAULT).stageGo (max s.stage 3)).sampleRate
      else s.stageSeconds
    match t with
    | none => bad s
    | some t =>
      if t < -960 ∨ 2560 < t then bad s
      else
        let s := { s with therm := { s.therm with invalid := 0, sensorFault := false } }
        let s := { s with therm := { s.therm with dieWas := s.dieSeen, dieAt := s.now + 1 } }
        let s := ((s.setPar P.DIE_TEMP 0 (unsigned 16 t)).tempMax t).stageSeconds
        let new := nextStage s.stage t
        if 4 ≤ new then s.trip 0
        else
          let s := ((s.stageGo new).sampleRate).dramEstimate t
          let last := s.par P.TRIM_TEMP
          if last = 0x8000 ∨ 32 ≤ |t - signed 16 last| then s.trimEvaluate t else s

/-- TRIP_COMPARATOR: the analog comparator sets the trip latch (R450, R455). -/
def execTripComparator (s : State) : Res := .next (if s.start.por then s else s.stageSeconds.trip 1)

/-! Pauses (R452, R453) -/

/-- BG_PAUSE_EXPIRY: a background operation's pause ends (R452). -/
def execBgPauseExpiry (o : Fin 6) (s : State) : Res := .next { s with therm := { s.therm with pauses := NSet.del s.therm.pauses o } }

/-- COMPOSE_PAUSE_EXPIRY: a compositor cluster's pause ends (R453). -/
def execComposePauseExpiry (c : Fin 4) (s : State) : Res :=
  .next { s with therm := { s.therm with composePauses := NSet.del s.therm.composePauses c } }

end Sys2Proof.Machine
end

