-- ==== Sys2Proof/Machine/Security.lean ====
section
/-! DEFINITION. Lock states, keys, debug, JTAG and attestation (chapter 21).  The meanings of the writes of this area
are in `OdCommands.lean`; here is what each does once the dictionary has let it pass. -/

namespace Sys2Proof.Machine

/-! Lock states (R464, R465) -/

/-- Rank of an encoding, 0 OPEN to 3 SEALED; every other encoding acts as SEALED. -/
def lockRank (v : Nat) : Nat := if v = 0 then 0 else if v = 0x5A then 1 else if v = 0xA5 then 2 else 3
/-- Encoding of a rank. -/
def lockCode (r : Nat) : Nat := match r with | 0 => 0 | 1 => 0x5A | 2 => 0xA5 | _ => 0xFF

/-- The lock state in force: the more restrictive of the record's and the fuses' (R464). -/
def State.lock (s : State) : Nat := max (lockRank (recField s.start.record 120 8)) s.security.fuses

/-- Debug is open: in OPEN by its state, in FIELD by an unlock (R464, R473). -/
def State.debugOpen (s : State) : Bool := s.lock == 0 || bit (s.par P.DEBUG_STATE) 1

/-- A write of `#06.0002 LOCK_ADVANCE`: status, and the fuses' burn begins (R465). -/
def State.lockAdvance (s : State) (v : Nat) : Nat × State :=
  if (v = 0x5A ∨ v = 0xA5 ∨ v = 0xFF) ∧ s.lock < lockRank v then
    (0, { s with security := { s.security with burning := some (lockRank v) } })
  else (4, s)

/-- The burn is complete: the new state acts, debug closes, EV 564, and the write is answered (R465). -/
def State.burnDone (s : State) : State :=
  match s.security.burning with
  | none => s
  | some r =>
    let a := s.security.answer
    let s := { s with security := { s.security with fuses := r, burning := none, answer := none } }
    let s := (s.setPar P.DEBUG_STATE 0 (setBit (s.par P.DEBUG_STATE) 1 false)).raise E.LOCK_ADVANCED
    match a with
    | some (p, m) => s.send (.resp p m)
    | none => s

/-! Keys (R469, R470) -/

def State.key (s : State) (n : Nat) : Key := SMap.get {} s.security.keys n
def State.setKey (s : State) (n : Nat) (k : Key) : State :=
  { s with security := { s.security with keys := SMap.set {} s.security.keys n k, keysValid := true } }

/-- "KCV" and "KEY-LOAD" in ASCII. -/
def asciiKcv : List Byte := [0x4B, 0x43, 0x56]
def asciiKeyLoad : List Byte := [0x4B, 0x45, 0x59, 0x2D, 0x4C, 0x4F, 0x41, 0x44]

/-- Key check value: the first 4 bytes of HMAC-SHA-256(key, "KCV") (R469). -/
def Key.kcv (k : Key) : Nat := leNat (bytesAt (hmac k.key asciiKcv) 0 4)

/-- `#06.0020 KEY_SLOT` (R479). -/
def State.keySlot (s : State) (n : Nat) : Nat :=
  let k := s.key n
  if !k.loaded then 0 else 2 ^ 63 + b2n k.spent * 2 ^ 62 + k.perms * 2 ^ 32 + k.kcv

/-- A loaded slot holds the KEY permission. -/
def State.keyKept (s : State) : Bool := (List.range 8).any fun n => (s.key n).loaded && bit (s.key n).perms 4

/-- Byte-wise exclusive or of two 32-byte strings. -/
def xor32 (a b : List Byte) : List Byte := (List.range 32).map fun i => a.getD i 0 ^^^ b.getD i 0

/-- A load of a slot: any key there is replaced, its counter 0 and its spent state clear; status RANGE when no loaded slot
would hold KEY (R470). -/
def State.loadKey (s : State) (slot perms : Nat) (key : List Byte) : Nat × State :=
  let t := s.setKey slot { loaded := true, key := key, perms := perms }
  if t.keyKept then (0, t.raise E.KEY_LOADED slot) else (4, s)

/-- A write of `#06.0021 KEY_LOAD` whose 40 bytes are `v`, from GbE or not; `by_` names the authenticating key and its
counter (R464, R470). -/
def State.keyLoad (s : State) (v : List Byte) (gbe : Bool) (by_ : Option (Nat × Nat)) : Nat × State :=
  let slot := (v.getD 0 0).toNat
  let perms := (v.getD 1 0).toNat
  if v.length ≠ 40 ∨ 7 < slot ∨ 128 ≤ perms ∨ 1 < (v.getD 2 0).toNat ∨ ((v.drop 3).take 5).any (· ≠ 0) then (4, s)
  else if v.getD 2 0 = 0 then
    if !(s.lock == 0 || (s.lock == 1 && gbe)) then (19, s)
    else if (s.key slot).loaded then (4, s)
    else s.loadKey slot perms (v.drop 8)
  else match by_ with
    | none => (9, s)
    | some (k, c) =>
      s.loadKey slot perms
        (xor32 (v.drop 8) (hmac (s.key k).key (asciiKeyLoad ++ leBytes 1 slot ++ leBytes 8 c)))

/-- A write of `#06.0022 KEY_REVOKE` (R470). -/
def State.keyRevoke (s : State) (n : Nat) : Nat × State :=
  let t := s.setKey n {}
  if t.keyKept then (0, t.raise E.KEY_REVOKED n) else (4, s)

/-! Debug and JTAG (R473) -/

/-- A write of 1 to `#06.0030 DEBUG_UNLOCK`: refused in PROVISION and SEALED; in OPEN debug is open already (log entry 22). -/
def State.debugUnlock (s : State) : Nat × State :=
  match s.lock with
  | 0 => (0, s)
  | 2 => (0, (s.setPar P.DEBUG_STATE 0 3).raise E.DEBUG_OPENED)
  | _ => (19, s)

/-- `#06.0031 DEBUG_STATE`. -/
def State.debugState (s : State) : Nat := setBit (s.par P.DEBUG_STATE) 1 s.debugOpen

/-- The JTAG instruction in force. -/
def State.jtagGo (s : State) (i : Nat) : State := { s with security := { s.security with jtag := i } }

/-- BYPASS, in every lock state. -/
def execBypass (s : State) : Res := .next (s.jtagGo 0)
/-- SAMPLE/PRELOAD: the boundary cells are loaded and the pins go on as before. -/
def execSamplePreload (cells : List Byte) (s : State) : Res :=
  .next { s with security := { s.security with jtag := 1, cells := cells } }
/-- EXTEST: the pins follow the boundary cells. -/
def execExtest (s : State) : Res := .next (s.jtagGo 2)
/-- IDCODE: part number 0x9480 and the stepping. -/
def execIdcode (s : State) : Res := .next (s.jtagGo 3)

/-! Attestation (R475, R476) -/

/-- Signatures the identity key allows. -/
abbrev attestMax : Nat := 1048576

/-- EV 573 once, when the remainder has fallen to 65,536. -/
def State.attestLow (s : State) : State :=
  if attestMax - s.security.q ≤ 65536 ∧ s.security.lowTold = false then
    { s with security := { s.security with lowTold := true } }.raise E.ATTEST_LOW
  else s

/-- A write of the nonce `v`; `flashOk` says whether the flash took the index (R475, R476). -/
def State.attestRequest (s : State) (v : List Byte) (flashOk : Bool) : Nat × State :=
  let c := s.security
  if v.length ≠ 32 then (4, s)
  else if c.nonce.isSome ∨ (c.requestAt ≠ 0 ∧ s.now < c.requestAt - 1 + 10 * sec) then (13, s)
  else if c.q = attestMax then (1 + Config.attestStatus % 19, s.raise E.ATTEST_EXHAUSTED)
  else
    let burned := setBit c.checkpoints (c.q / 4096) true
    if !flashOk then
      (1 + Config.attestStatus % 19, { s with security := { c with checkpoints := burned } }.raise E.ATTEST_STATE_FAULT)
    else
      (0, { s with security := { c with
        checkpoints := burned, flashQ := c.q + 1, q := c.q + 1, nonce := some v, requestAt := s.now + 1 } }.attestLow)

/-- Bytes 0 to 143 of a report. -/
def State.attestBody (s : State) (nonce : List Byte) : List Byte :=
  leBytes 4 0x9480 ++ s.blob P.SERIAL 0 0 24 ++ leBytes 4 (s.par P.FW_VERSION) ++ s.blob P.FW_DIGEST 0 0 32 ++
    bytesAt (sha256 s.start.record) 0 32 ++ leBytes 1 (lockCode s.lock) ++ leBytes 1 (2 * b2n s.debugOpen + s.par P.DEBUG_STATE % 2) ++
    leBytes 2 s.security.floor ++ nonce ++ leBytes 10 (time80 s.nowNs) ++ leBytes 2 0

/-- The report is published and EV 566 raised: its signature begins with the index, most significant byte first. -/
def execAttestSignComplete (s : State) : Res := .next <|
  match s.security.nonce with
  | none => s
  | some n =>
    let body := s.attestBody n
    let q := s.security.q - 1
    let sig := (leBytes 4 q).reverse ++ (List.range 1768).map (Config.lmsSignature q body)
    let s := { s with security := { s.security with nonce := none } }
    (s.setBlob P.ATTEST_REPORT 0 0 (body ++ sig)).raise E.ATTEST_SIGNED

/-- The next index at a start (R475). -/
def State.attestStart (s : State) : State :=
  { s with security := { s.security with q := s.security.startIndex, nonce := none } }.attestLow

end Sys2Proof.Machine
end

