-- ==== Sys2Proof/Machine/Perf.lean ====
section
/-! DEFINITION. Counters as read, bandwidth monitors, the dump engine, freeze and snapshot (chapter 23). -/

namespace Sys2Proof.Machine

/-! Counters (R498) -/

/-- `#38.0001 COUNTER` from a table of counters. -/
def State.counterIn (s : State) (m : SMap Nat) (c : Nat) : Nat :=
  if s.counterAbsent c then 0 else SMap.get 0 m c

def State.counterNow (s : State) (c : Nat) : Nat := s.counterIn s.perf.counters c

/-! Bandwidth monitors (R499, R500) -/

/-- The whole part of a tick rate in ticks per second. -/
def rateFloor (code : Nat) : Nat := (ratePeriod code).2 / (ratePeriod code).1

def State.monitor (s : State) (m : Nat) : Monitor := SMap.get {} s.perf.monitors m
def State.setMonitor (s : State) (m : Nat) (v : Monitor) : State :=
  { s with perf := { s.perf with monitors := SMap.set {} s.perf.monitors m v } }

/-- Window of a monitor in ticks; 0 for one second, which a length above the rate also takes (R500). -/
def State.monWindow (s : State) (m : Nat) : Nat :=
  let w := field (s.par P.BW_SELECT m) 16 8
  if rateFloor s.rate < w then 0 else w

/-- A tick's bytes join the window, those of the strobe's own cycle the next one (R27, R500); what a lane carried is a free value. -/
def State.monTake (s : State) (m : Nat) : State :=
  let lane := field (s.par P.BW_SELECT m) 8 8 == 2
  let (v, s) := if lane then s.takeFree else (0, s)
  let x := s.monitor m
  let next := if x.last = s.now + 1 then x.lastBytes else 0
  let n := x.inTick - next + v
  s.setMonitor m { x with total := x.total + n, peak := max x.peak n, inTick := next }

/-- The window ends at tick `n`: the result is published, and the next window starts (R500). -/
def State.monPublish (s : State) (m n : Nat) (cut : Bool) : State :=
  let x := s.monitor m
  let flags := 2 * b2n (x.cut || cut) + b2n (!x.first)
  let s := s.setBlob P.BW_RESULT m 0
    (leBytes 8 x.total ++ leBytes 8 x.peak ++ leBytes 6 n ++ leBytes 1 flags ++ leBytes 1 0)
  s.setMonitor m { first := false, cut := x.cut, second := tickNs s.rate n / 1000000000, inTick := x.inTick, last := x.last, lastBytes := x.lastBytes }

/-- Monitors in use. -/
def State.monitorsOn (s : State) : List Nat := (List.range 32).filter fun m => field (s.par P.BW_SELECT m) 8 8 != 0

/-- At the strobe of tick `n` (R499). -/
def State.monTick (s : State) (n : Nat) : State :=
  s.each s.monitorsOn fun s m =>
    let s := s.monTake m
    let w := s.monWindow m
    let ends := if w = 0 then decide ((s.monitor m).second < tickNs s.rate n / 1000000000) else decide (n % w = 0)
    if ends then s.monPublish m n false else s

/-- At the common instant of a rate change, under the new rate (R500). -/
def State.monCut (s : State) (n : Nat) : State :=
  let s := s.each s.monitorsOn fun s m => (s.monTake m).monPublish m n true
  s.each s.monitorsOn fun s m =>
    let x := s.monitor m
    s.setMonitor m { x with cut := x.cut || decide (rateFloor s.rate < field (s.par P.BW_SELECT m) 16 8) }

/-- A commit changes `BW_SELECT`: the first window starts at its latch. -/
def State.monSelect (s : State) (m : Nat) : State := s.setMonitor m { second := s.nowNs / 1000000000 }

/-! Dumps (R501–R503) -/

/-- Counters named in `DUMP_COUNTERS`. -/
def State.dumpCodes (s : State) : List Nat :=
  ((List.range 64).map fun i => s.blobNat P.DUMP_COUNTERS 0 (2 * i) 2).takeWhile (· != 0xFFFF)

/-- Monitors selected. -/
def State.dumpMons (s : State) : List Nat := (List.range 32).filter (bit (s.par P.DUMP_MONITORS))

/-- Bytes of a record, and records the ring holds. -/
def State.dumpSize (s : State) : Nat := 64 * ((64 + 8 * s.dumpCodes.length + 24 * s.dumpMons.length + 63) / 64)
def State.dumpCap (s : State) : Nat := s.par P.DUMP_RING_SIZE * 65536 / s.dumpSize

/-- The record of tick `n`, with `r` as its number (R502). -/
def State.dumpRecord (s : State) (n r : Nat) : List Byte :=
  let flags := 8 * b2n s.perf.frozen + 4 * b2n (2 ≤ s.stage) + 2 * b2n (0 < s.perf.dropped) + b2n s.perf.rateChanged
  let head := leBytes 2 1 ++ leBytes 2 s.dumpSize ++ leBytes 4 r ++ leBytes 6 n ++ leBytes 10 (time80 (tickNs s.rate n)) ++
    leBytes 1 s.dumpCodes.length ++ leBytes 1 s.dumpMons.length ++ leBytes 1 s.rate ++ leBytes 1 flags ++
    leBytes 4 s.perf.dropped ++ leBytes 32 0
  let body := (s.dumpCodes.map fun c => leBytes 8 (s.counterIn s.perf.prev c)).flatten ++
    (s.dumpMons.map fun m => s.blob P.BW_RESULT m 0 24).flatten
  bytesAt (head ++ body) 0 s.dumpSize

/-- A record is lost: counted and reported at most once per second. -/
def State.dumpLost (s : State) : State := (s.bump P.DUMP_LOST).raiseLimited E.DUMP_DROPPED 0xFFFF sec

/-- A record is dropped before it is written. -/
def State.dumpDrop (s : State) : State := { s with perf := { s.perf with dropped := s.perf.dropped + 1 } }.dumpLost

/-- Records held in the ring and not yet read. -/
def State.dumpHeld (s : State) : Nat := (s.par P.DUMP_WRITE + 2 ^ 32 - s.par P.DUMP_READ) % 2 ^ 32

/-- At tick `n`: a record is latched, unless the last one is still being written or the ring is full in mode 1. -/
def State.dumpLatch (s : State) (n : Nat) : State :=
  let p := s.par P.DUMP_PERIOD
  if p = 0 ∨ n % p ≠ 0 ∨ s.rdy B.FW = false then s
  else if s.perf.writing.isSome then s.dumpDrop
  else if s.dumpHeld = s.dumpCap ∧ s.par P.DUMP_MODE = 1 then s.dumpDrop
  else
    let s := if s.dumpHeld = s.dumpCap then (s.setPar P.DUMP_READ 0 ((s.par P.DUMP_READ + 1) % 2 ^ 32)).dumpLost else s
    let rec_ := s.dumpRecord n (s.par P.DUMP_WRITE)
    { s with perf := { s.perf with writing := some rec_, dropped := 0, rateChanged := false } }

/-- DUMP_RECORD_WRITTEN: every write of the record has been acknowledged; DUMP_WRITE advances (R501). -/
def execDumpRecordWritten (s : State) : Res := .next <|
  match s.perf.writing with
  | none => s
  | some bs =>
    if s.bgPaused Bg.DUMP then s
    else
      let r := s.par P.DUMP_WRITE
      let s := s.setBlob P.DUMP_RING 0 (r % s.dumpCap * s.dumpSize) bs
      let s := s.setPar P.DUMP_WRITE 0 ((r + 1) % 2 ^ 32)
      { s with perf := { s.perf with writing := none } }.bgPauseStart Bg.DUMP

/-- A latch has applied a dump parameter: both indexes are 0 (R503). -/
def State.dumpRestart (s : State) : State :=
  { (s.setPar P.DUMP_WRITE 0 0).setPar P.DUMP_READ 0 0 with perf := { s.perf with writing := none, dropped := 0 } }

/-- A write of `#38.0026 DUMP_READ` (R503). -/
def State.dumpRead (s : State) (v : Nat) : Nat × State :=
  if s.par P.DUMP_WRITE < v then (4, s) else (0, s.setPar P.DUMP_READ 0 v)

/-! Freeze and snapshot (R504), samples (R506) -/

/-- A write of `#38.0040 COUNTER_FREEZE`. -/
def State.counterFreeze (s : State) (v : Nat) : State :=
  match v with
  | 1 => ({ s with perf := { s.perf with frozen := true } }).raise E.COUNTERS_FROZEN
  | 2 => ({ s with perf := { s.perf with frozen := false } }).raise E.COUNTERS_FROZEN
  | 3 =>
    let s := s.each (List.range 320) fun s c => s.setBlob P.SNAPSHOT 0 (8 * c) (leBytes 8 (s.counterNow c))
    s.setPar P.SNAPSHOT_TICK 0 (s.time.tick % 2 ^ 48)
  | _ => s

/-- A write of 1 to `#38.0054 SAMPLE_CLEAR` empties the buffer. -/
def State.sampleClear (s : State) : State :=
  { s.setPar P.SAMPLE_HEAD 0 0 with perf := { s.perf with held := 0 } }

end Sys2Proof.Machine
end

