-- ==== Sys2Proof/Machine/Update.lean ====
section
/-! DEFINITION. Field update (chapter 22): manifests, blocks, verification, relay, activation, confirmation.  Starting an
image is in `Boot.lean`; the meanings of the writes of area 07 are in `OdCommands.lean`. -/

namespace Sys2Proof.Machine

/-- Update states (R490). -/
abbrev U.IDLE : Nat := 0
abbrev U.LOADING : Nat := 1
abbrev U.READY : Nat := 2
abbrev U.TRIAL : Nat := 3
abbrev U.REVERTED : Nat := 4

/-! The manifest (R484) -/

/-- A little-endian field of a manifest. -/
def mfield (m : List Byte) (off n : Nat) : Nat := leNat (bytesAt m off n)

/-- MANIFEST_ID of the manifest held, 0 when there is none. -/
def State.manifestId (s : State) : Nat := mfield s.upd.manifest 8 4
/-- N_B of the manifest held. -/
def State.blockCount (s : State) : Nat := mfield s.upd.manifest 2 2

/-- A manifest meets R485. -/
def State.manifestOk (s : State) (m : List Byte) : Bool :=
  let key := bytesAt m 128 60
  m.length == 3152 && bytesAt (sha256 key) 0 32 == s.security.rootHash &&
    hssVerify key (m.take 128) (m.drop 188) && decide (s.security.floor ≤ mfield m 18 2) &&
    decide (1 ≤ mfield m 2 2) && decide (mfield m 2 2 ≤ 2048) && mfield m 2 2 == (mfield m 4 4 + 4063) / 4064 &&
    (bytesAt m 88 40).all (· == 0)

/-! Slots (R483) -/

/-- The slot that is not the confirmed one. -/
def State.inactive (s : State) : Nat := if s.upd.confirmed = 0 then 1 else 0

/-- The slot that holds the manifest's image: the confirmed one once it has been confirmed, else the inactive one. -/
def State.imageSlot (s : State) : Nat := if s.upd.st = U.IDLE then s.upd.confirmed else s.inactive

def State.slot (s : State) (n : Nat) : Slot := SMap.get {} s.upd.slots n
def State.setSlot (s : State) (n : Nat) (v : Slot) : State := { s with upd := { s.upd with slots := SMap.set {} s.upd.slots n v } }

/-- A block of 4,096 bytes that is not absent: one that reads 0xFF throughout is absent (R483). -/
def blockThere (b : List Byte) : Bool := b.length == 4096 && b.any (· ≠ 0xFF)

def Slot.block (v : Slot) (i : Nat) : List Byte := SMap.get [] v.blocks i
def Slot.held (v : Slot) (n : Nat) : List Nat := (List.range n).filter fun i => blockThere (v.block i)

/-- Blocks of the manifest's image that the device holds, verified or not. -/
def State.heldBlocks (s : State) : List Nat := (s.slot s.imageSlot).held s.blockCount

/-- Bytes of an image: bytes 0 to 4,063 of its blocks in order up to the first absent one, cut to `len`. -/
def Slot.image (v : Slot) (len : Nat) : List Byte :=
  (((List.range 2048).takeWhile fun i => blockThere (v.block i)).flatMap fun i => (v.block i).take 4064).take len

/-! States and outcomes -/

/-- The update state changes and the neighbours are to be told (R486). -/
def State.updGo (s : State) (st : Nat) : State :=
  { s with upd := { s.upd with st := st, stateDue := List.range 20 } }

/-- `#07.0030 LAST_OUTCOME`. -/
def State.outcome (s : State) (code : Nat) : State :=
  s.setBlob P.LAST_OUTCOME 0 0
    (leBytes 1 code ++ leBytes 4 s.manifestId ++ leBytes 4 (mfield s.upd.manifest 12 4) ++ leBytes 6 s.time.tick ++ leBytes 1 0)

/-- The inactive slot is erased and the device is IDLE without a manifest (R489, R493; log entry 23). -/
def State.dropImage (s : State) : State :=
  ({ s.setSlot s.inactive {} with upd := { (s.setSlot s.inactive {}).upd with manifest := [], verified := 0, part := [] } }).updGo U.IDLE

/-- The device reverts (R491, R493). -/
def State.revert (s : State) (code : Nat) : State :=
  ((s.updGo U.REVERTED).outcome code).raise E.REVERTED

/-! Verification (R489) -/

/-- Expected hash of block `i`. -/
def State.wantHash (s : State) (i : Nat) : List Byte :=
  if i = 0 then bytesAt s.upd.manifest 24 32 else bytesAt ((s.slot s.imageSlot).block (i - 1)) 4064 32

/-- Every block is verified: header and body are checked against the manifest, and the device is READY or starts again; without
firmware the image starts at once (R489, R491). -/
def State.imageDone (s : State) : State :=
  let m := s.upd.manifest
  let img := (s.slot s.imageSlot).image (mfield m 4 4)
  if Config.hdrFormat img = mfield m 0 2 ∧ Config.hdrSecurity img = mfield m 18 2 ∧
      bytesAt (sha256 (Config.imageBody img)) 0 32 = bytesAt m 56 32 then
    let s := (s.updGo U.READY).raise E.IMAGE_READY
    if s.start.noFirmware then { s with upd := { s.upd with bootDue := true } } else s
  else s.dropImage.raise E.MANIFEST_REJECTED

/-- Verify from the first block not yet verified, at most `n` blocks; one that fails is erased and reported.  In REVERTED the blocks
are verified and nothing follows (R488). -/
def State.verifyRun (s : State) : Nat → State
  | 0 => s
  | n + 1 =>
    let i := s.upd.verified
    let b := (s.slot s.imageSlot).block i
    if s.blockCount ≤ i then (if s.upd.st = U.LOADING then s.imageDone else s)
    else if !blockThere b then s
    else if bytesAt (sha256 b) 0 32 = s.wantHash i then
      State.verifyRun { s with upd := { s.upd with verified := i + 1 } } n
    else
      let v := s.slot s.imageSlot
      (s.setSlot s.imageSlot { v with blocks := SMap.set [] v.blocks i [] }).raiseLimited E.BLOCK_BAD 0xFFFF sec

/-- A whole block is stored and verified in its turn (R488, R489). -/
def State.storeBlock (s : State) (i : Nat) (b : List Byte) : State :=
  let v := s.slot s.imageSlot
  if s.upd.st ≠ U.LOADING ∨ s.blockCount ≤ i ∨ blockThere (v.block i) = true then s
  else (s.setSlot s.imageSlot { v with blocks := SMap.set [] v.blocks i b }).verifyRun 2049

/-- The slot is verified again from its first block (R485, R488). -/
def State.rescan (s : State) : State :=
  if s.upd.st = U.LOADING ∨ s.upd.st = U.REVERTED then
    State.verifyRun { s with upd := { s.upd with verified := 0 } } 2049
  else s

/-- An acceptable manifest is taken (R485): the one held changes nothing but in REVERTED, any other starts a download. -/
def State.takeManifest (s : State) (m : List Byte) : State :=
  if mfield m 8 4 = s.manifestId ∧ s.upd.manifest ≠ [] then
    if s.upd.st = U.REVERTED then (s.updGo U.LOADING).rescan else s
  else
    let s := s.setSlot s.inactive {}
    (({ s with upd := { s.upd with manifest := m, verified := 0, part := [], neighbours := s.upd.neighbours } }).updGo U.LOADING).raise
      E.MANIFEST_ACCEPTED

/-- A write of `#07.0010 MANIFEST`, in pieces: judged once all its bytes are there (R485). -/
def State.manifestWrite (s : State) (off : Nat) (bs : List Byte) : Nat × State :=
  if s.upd.st = U.TRIAL then (13, s)
  else
    let inc := (List.range bs.length).foldl (fun m i => SMap.set 0 m (off + i) ((bs.getD i 0).toNat + 1)) s.upd.incoming
    if inc.length < 3152 then (0, { s with upd := { s.upd with incoming := inc } })
    else
      let m := inc.map fun (e : Nat × Nat) => BitVec.ofNat 8 (e.2 - 1)
      let s := { s with upd := { s.upd with incoming := [] } }
      if s.manifestOk m then (0, s.takeManifest m) else (4, s.raise E.MANIFEST_REJECTED)

/-- A write of `#07.0011 IMAGE_DATA` in a head: a block is taken once all its bytes have been written (R488). -/
def State.imageWrite (s : State) (off : Nat) (bs : List Byte) : State :=
  if s.upd.st ≠ U.LOADING then s
  else
    let part := (List.range bs.length).foldl (fun m i => SMap.set 0 m (off + i) ((bs.getD i 0).toNat + 1)) s.upd.part
    let s := { s with upd := { s.upd with part := part } }
    let touched := ((List.range bs.length).map fun i => (off + i) / 4096).dedup
    s.each touched fun s i =>
      let mine := s.upd.part.filter fun (e : Nat × Nat) => e.1 / 4096 == i
      if mine.length < 4096 then s
      else
        let s := { s with upd := { s.upd with part := s.upd.part.filter fun (e : Nat × Nat) => e.1 / 4096 != i } }
        s.storeBlock i (mine.map fun (e : Nat × Nat) => BitVec.ofNat 8 (e.2 - 1))

/-! Relay (R486–R488) -/

def State.neighbour (s : State) (p : Nat) : Neighbour := SMap.get {} s.upd.neighbours p

/-- A port or chain that may carry a relay packet now: a chain lane or span lane that is UP, outside the guard (R146, R158, R486). -/
def State.relayUp (s : State) (p : Nat) : Bool := s.chainUp p && !s.linkQuiet p

/-- There is room on the way to a neighbour: for a tile in the reserved stretch of the stream that leaves by the port, which carries
at most one block; for a head within HEAD_CTRL_SYMBOLS (R486, R488). -/
def State.relayRoom (s : State) (p size : Nat) (block : Bool) : Bool :=
  if s.isTile then
    match SMap.get none s.chain.stretch (1 - p) with
    | some r => decide (size + 1 ≤ r.left) && !(block && r.block)
    | none => false
  else decide (16 ≤ p) || decide (s.ctrlSpent p + size ≤ s.par P.HEAD_CTRL_SYMBOLS)

/-- A relay packet uses its part of the stretch, or of HEAD_CTRL_SYMBOLS. -/
def State.relaySpend (s : State) (p size : Nat) (block : Bool) : State :=
  if !s.isTile then s.ctrlSpend p size
  else match SMap.get none s.chain.stretch (1 - p) with
    | some r => { s with chain := { s.chain with
        stretch := SMap.set none s.chain.stretch (1 - p) (some { r with left := r.left - size, block := r.block || block }) } }
    | none => s

/-- Symbols of an UPD_STATE and of an UPD_BLOCK. -/
def State.stateSize (s : State) : Nat := if s.upd.st = U.LOADING then 3426 else 274
abbrev blockSize : Nat := 4112

/-- An UPD_STATE is due on a port and can leave. -/
def State.stateReady (s : State) (p : Nat) : Bool := s.upd.stateDue.contains p && s.relayUp p && s.relayRoom p s.stateSize false

/-- An UPD_STATE leaves on a port when one is due and there is room for it (R486). -/
def State.sendState (s : State) (p : Nat) : State :=
  if !s.stateReady p then s
  else
    let s := (({ s with upd := { s.upd with stateDue := NSet.del s.upd.stateDue p } }).relaySpend p s.stateSize false)
    s.sendLink p 8 none
      ([s.manifestId, s.upd.st, s.par P.FW_VERSION / 65536] ++ s.heldBlocks ++
        (if s.upd.st = U.LOADING then s.upd.manifest.map (·.toNat) else []))

/-- UPD_STATE_TIMER: once a second, and after each change of state, an UPD_STATE is due on every UP port. -/
def execUpdStateTimer (s : State) : Res := .next <|
  let s := { s with upd := { s.upd with stateDue := List.range 20 } }
  s.each (List.range 20) fun s p => s.sendState p

/-- Toward this port side A's stream travels; a head's own stream is its own direction (R488).  A tile takes the lowest head ID
it hears as side A's, as R172 orders them; that stream leaves by the port opposite to the one it arrives on. -/
def State.ascending (s : State) (p : Nat) : Bool :=
  if s.isTile then (match s.chain.headPort with | [] => true | e :: _ => e.2 == (1 - p) + 1) else !s.sideB

/-- The block that may leave on a port: the neighbour has the same manifest and lacks it, and there is room (R488). -/
def State.blockReady (s : State) (p : Nat) : Option Nat :=
  let n := s.neighbour p
  if s.manifestId = 0 ∨ n.id ≠ s.manifestId ∨ s.relayUp p = false ∨ s.relayRoom p blockSize true = false then none
  else
    let cand := s.heldBlocks.filter fun i => !n.held.contains i && !n.sent.contains i
    if s.ascending p then cand.head? else cand.getLast?

/-- The relay of an update has a packet that can leave on a port now (R487). -/
def State.relayWaits (s : State) (p : Nat) : Bool := s.stateReady p || (s.blockReady p).isSome

/-- UPD_BLOCK_SEND: in a reserved stretch toward a neighbour with the same manifest one block that it lacks is sent, after
the state that may be due (R487, R488). -/
def execUpdBlockSend (p : Fin 20) (s : State) : Res := .next <|
    let s := s.sendState p
    match s.blockReady p with
    | none => s
    | some i =>
      let n := s.neighbour p
      let s := { s with upd := { s.upd with neighbours := SMap.set {} s.upd.neighbours p { n with sent := NSet.add n.sent i } } }
      (s.relaySpend p blockSize true).sendLink p 7 none
        (s.manifestId :: i :: ((s.slot s.imageSlot).block i).map (·.toNat))

/-- OWN_PACKET_SEND: the oldest queued packet that may leave in the reserved stretch of the stream arriving on port `p`
and ends at least one symbol before it ends; a grant to 0xFFF serves only answers to positional requests
(R155).  A grant serves first what the relay of an update can send in it (R487). -/
def execOwnPacketSend (p : Fin 2) (s : State) : Res :=
  .next <|
  match SMap.get none s.chain.stretch p with
  | none => s
  | some r =>
    let fits (k : OwnPkt) : Bool :=
      decide (k.size + 1 ≤ r.left) && (match s.ownPort k with | some q => q == 1 - p.val | none => true) &&
        (!r.open_ || (k.positional && s.chain.posReq)) && !(r.grant && s.relayWaits (1 - p))
    match s.chain.own.find? fits with
    | none => s
    | some k =>
      let s := { s with chain := { s.chain with own := s.chain.own.erase k
                                                stretch := SMap.set none s.chain.stretch p (some { r with left := r.left - k.size }) } }
      let s := s.send (.packet (1 - p) K.CONTROL (s.controlHeader k.dest k.size))
      ((s.send k.out).memberFeed s.chain.backlog)

/-- What UPD_BLOCK does before an image may start. -/
def State.updBlock (s : State) (p id i : Nat) (data : List Byte) (crcOk : Bool) : State :=
  if !crcOk then s.crcFail p
  else if id = 0 ∨ id ≠ s.manifestId ∨ data.length ≠ 4096 then s
  else s.storeBlock i data

/-- What UPD_STATE does before an image may start: the neighbour's state is noted and a relayed manifest judged (R485, R486). -/
def State.updState (s : State) (p id st version : Nat) (held : List Nat) (manifest : List Byte) (crcOk : Bool) : State :=
  if !crcOk then s.crcFail p
  else
    let n : Neighbour := { id := id, st := st, version := version, held := held.foldl NSet.add [], sent := [] }
    let s := { s with upd := { s.upd with neighbours := SMap.set {} s.upd.neighbours p n } }
    if st ≠ U.LOADING ∨ s.upd.st = U.TRIAL then s
    else if s.manifestOk manifest then s.takeManifest manifest
    else s.raise E.MANIFEST_REJECTED

/-! Activation and confirmation (R490–R494) -/

/-- LINK_VERSIONs that may work together: the same major, minors at most 1 apart. -/
def linkOk (a b : Nat) : Bool :=
  a / 256 == b / 256 && decide (a % 256 ≤ b % 256 + 1) && decide (b % 256 ≤ a % 256 + 1)

/-- LINK_VERSION in a neighbour's IDENT (R159). -/
def State.identLink (s : State) (p : Nat) : Nat := s.blobNat P.NEIGHBOUR p 3 2

/-- The neighbours of R490 all suit the manifest. -/
def State.neighboursOk (s : State) : Bool :=
  let v := mfield s.upd.manifest 16 2
  if s.isTile then (List.range 2).all fun p => s.chainUp p && (s.linkOf p).known && linkOk v (s.identLink p)
  else
    (List.range 20).all (fun p => !(s.linkOf p).known || linkOk v (s.identLink p)) &&
      (!s.redMode || (match s.upd.partnerLink with | some w => linkOk v w | none => false))

/-- A write of 1 to `#07.0020 ACTIVATE` (R490). -/
def State.updActivate (s : State) : Nat × State :=
  if s.upd.st = U.READY ∧ s.neighboursOk = true ∧ mfield s.upd.manifest 22 2 ≤ s.upd.format ∧ s.sluice ≠ SL.ACTIVE then
    let slot := s.inactive
    (0, (({ s with upd := { s.upd with trial := slot, boots := 3, resetDue := some s.now } }).updGo U.TRIAL).raise E.ACTIVATED)
  else (16, s)

/-- ACTIVATION_RESET: the L1 reset of an accepted activation, recorded as source 3 (R490). -/
def execActivationReset (s : State) : Res := .next <|
  match s.upd.resetDue with
  | none => s
  | some _ => s.enterReset .l1 3

/-- Floor fuses are burned up to a security version (R494). -/
def State.floorBurn (s : State) (version : Nat) : State :=
  if s.par P.FLOOR_ADVANCE = 1 ∧ s.security.floor < min version 255 then
    ({ s with security := { s.security with floor := min version 255 } }).raise E.FLOOR_ADVANCED
  else s

/-- The trial is confirmed (R494). -/
def State.confirm (s : State) : State :=
  let v := mfield s.upd.manifest 18 2
  let s := s.outcome 1
  let s := { s with upd := { s.upd with confirmed := s.upd.trial, trial := 255, boots := 0, windowAt := none, frozen := none, frozenFormat := 0 } }
  ((s.updGo U.IDLE).raise E.CONFIRMED).floorBurn v

/-- The confirmation window, counted in the Control region's clock, is over, or ends in this very cycle; before a trial start has opened
one there is none to confirm in (R27, R29, R493; DEDUCED, log entry 23). -/
def State.windowOver (s : State) : Bool :=
  match s.upd.windowAt with
  | some t => decide (t + s.par P.CONFIRM_WINDOW * controlSec ≤ s.controlNow)
  | none => true

/-- A write of 1 to `#07.0021 CONFIRM`: late ones are refused with TIMEOUT; outside TRIAL there is nothing to confirm. -/
def State.confirmWrite (s : State) : Nat × State :=
  if s.upd.st ≠ U.TRIAL then (0, s) else if s.windowOver then (15, s) else (0, s.confirm)

/-- AUTO_CONFIRM_TIMER: every bit of AUTO_CONFIRM has been set for 60 s (R493). -/
def execAutoConfirmTimer (s : State) : Res := .next <|
  let m := s.par P.AUTO_CONFIRM
  if s.upd.st = U.TRIAL ∧ s.windowOver = false ∧ m ≠ 0 ∧ (s.start.ready &&& m) = m ∧
      ((List.range 16).all fun i => !bit m i || decide (SMap.get 0 s.start.readyAt i + 60 * sec ≤ s.now)) = true then s.confirm
  else s

/-- CONFIRM_WINDOW_EXPIRY: the window ends unconfirmed and the device carries out an L1 reset (R493). -/
def execConfirmWindowExpiry (s : State) : Res := .next <|
  if s.upd.st = U.TRIAL ∧ s.upd.windowAt.isSome = true then s.enterReset .l1 3 else s

/-- A write of 1 to `#07.0012 UPDATE_ABORT` (R493). -/
def State.abortUpdate (s : State) : State :=
  if s.upd.st = U.TRIAL then
    let s := ((s.updGo U.REVERTED).outcome 5).raise E.UPDATE_ABORTED
    { s with upd := { s.upd with resetNow := true } }
  else if s.upd.st = U.LOADING ∨ s.upd.st = U.READY then ((s.outcome 5).dropImage).raise E.UPDATE_ABORTED
  else s

/-! Status (R482, R496) -/

/-- Sectors of 64 KB for `n` bytes of contents behind a header. -/
def sectors (n : Nat) : Nat := (n + 64 + 65535) / 65536

/-- Sectors the data store needs (R482). -/
def State.storeUnits (s : State) : Nat :=
  if s.isHead then 66
  else if s.isTile then
    let n := s.lampCount
    let u := max (s.bank BK.MAP 0).used.length (s.bank BK.MAP 1).used.length
    2 * sectors (8 * n) + 2 * sectors (8 * u) + 6 + s.par P.LEDGER_SLOTS * sectors (4 * n)
  else 0

/-- Everything fits the flash beside the fixed part of 20 MB. -/
def State.storeFits (s : State) : Bool := decide (320 + s.storeUnits ≤ s.upd.flashUnits)

/-- `#07.0005 FLASH_USE`. -/
def State.flashUse (s : State) : Nat := s.upd.flashUnits * 2 ^ 32 + s.storeUnits

def slotVersion (v : Slot) : Nat := if blockThere (v.block 0) then Config.hdrVersion (v.image 8323072) else 0

/-- `#07.0002 SLOT_INFO`. -/
def State.slotInfo (s : State) : List Byte :=
  leBytes 1 s.upd.running ++ leBytes 1 s.upd.confirmed ++ leBytes 1 s.upd.trial ++ leBytes 1 s.upd.boots ++
    leBytes 4 (slotVersion (s.slot 0)) ++ leBytes 4 (slotVersion (s.slot 1)) ++ leBytes 2 s.upd.format ++
    leBytes 2 s.upd.frozenFormat ++ leBytes 4 s.manifestId ++ leBytes 12 0

/-- `#07.0003 BLOCK_MAP` and `#07.0004 BLOCK_COUNT`. -/
def State.blockMap (s : State) : List Byte := leBytes 256 (2 ^ s.upd.verified - 1)
def State.blockCounts (s : State) : Nat := s.upd.verified * 65536 + s.heldBlocks.length

end Sys2Proof.Machine
end

