-- ==== Sys2Proof/Machine/Effects.lean ====
section
/-! DEFINITION. What a write of a parameter does: the value taken over, or the action the parameter stands for.  The same
operation serves a write that acts at once and one held in a transaction until its latch (R84, R100). -/

namespace Sys2Proof.Machine

/-- What a write carries besides its value: the key and counter that authenticated its message, whether it came by the
GbE port, and, for an attestation request, whether the flash takes its index. -/
structure WriteCtx where
  by_ : Option (Nat × Nat) := none
  gbe : Bool := false
  flashOk : Bool := true
  deriving DecidableEq, Repr

/-- Take a value over as it is (R83): a BLOB's bytes from its offset, a STR's with the rest cleared, else the number. -/
def State.putValue (s : State) (id idx : Nat) (v : List Byte) : State :=
  match findParam id with
  | none => s
  | some p =>
    match p.ty with
    | .blob _ => s.setBlob id idx (leNat (v.take 4)) (v.drop 4)
    | .str n => s.setBlob id idx (leNat (v.take 4)) (bytesAt (v.drop 4) 0 (n - leNat (v.take 4)))
    | _ => s.setPar id idx (leNat v)

/-- Bytes of a bank's load area (R295, R312, R343, R388). -/
def State.bankStep (s : State) (kind slot off : Nat) (bs : List Byte) : Nat × State :=
  if s.bankBound kind (s.loadBank kind slot) then (5, s) else (0, s.bankWrite kind slot off bs)

/-- A seal: status RANGE with its report when it fails, or when the flash could not hold the copies (R295, R482). -/
def State.sealStep (s : State) (kind slot crc : Nat) : Nat × State :=
  match s.sealFails kind slot crc with
  | some f => (4, s.sealReport kind slot f)
  | none => if (s.bankSeal kind slot crc).storeFits then (0, s.bankSeal kind slot crc) else (4, s)

/-- A write of the overlay: refused when the record forbids overlays or the bytes break R72 (R73). -/
def State.overlayStep (s : State) (off : Nat) (bs : List Byte) : Nat × State :=
  let t := s.setBlob P.OPTION_OVERLAY 0 off bs
  if recField s.start.record 98 1 = 1 ∧ overlayOk (t.blob P.OPTION_OVERLAY 0 0 64) s.start.record = true then (0, t) else (4, s)

/-- A write of `#02.0010 RESET_REQUEST`: carried out 10 ms after the response (R59); of two the deeper one stands. -/
def State.resetRequest (s : State) (v : Nat) : State :=
  let c : ResetClass := if v = 1 then .short else .long
  let keep := match s.start.request with
    | some d => decide (levelDepth (s.classLevel c) ≤ levelDepth (s.classLevel d))
    | none => false
  if keep then s else { s with start := { s.start with request := some c } }

/-- A write of bytes to a still's load buffer, within its geometry (R227). -/
def State.stillStep (s : State) (i off : Nat) (bs : List Byte) : Nat × State :=
  if s.bufSize (srcKey 3 i) (SMap.get 0 s.src.stillLoad i) < off + bs.length then (4, s) else (0, s.stillDataWrite i off bs)

/-- A still's seal; a still in the run gains a ready buffer (R227, R249). -/
def State.stillSealStep (s : State) (i crc : Nat) : Nat × State :=
  if s.stillCrc i = crc ∧ s.par P.STILL_GEOMETRY i ≠ 0 then (0, (s.stillSealWrite i).polderStill i)
  else (4, s.raise E.STILL_SEAL_FAILED i)

/-- A write of an RDM request in a head that acts queues the message, after the two bytes of its length (R402, R404). -/
def State.rdmStep (s : State) (p off : Nat) (bs : List Byte) : Nat × State :=
  if !s.acting then (5, s)
  else if off ≠ 0 ∨ bs.length < 2 ∨ bs.length < 2 + leNat (bs.take 2) then (4, s)
  else (0, s.updDmx p fun d => { d with requests := d.requests ++ [((bs.drop 2).take (leNat (bs.take 2)), s.now)] })

/-- A write of `#10.0030 PRBS_GEN`: not in a tile, and raw only on a lane whose use is test (R129, R141). -/
def State.prbsStep (s : State) (n v : Nat) : Nat × State :=
  if s.isTile then (4, s)
  else if v % 8 ≠ 0 ∧ bit v 3 = false ∧ s.laneUse n / 16 ≠ 5 then (16, s)
  else (0, s.prbsGenWrite n v)

/-- The effect of a write of element `idx` of parameter `id`: its status, 0 for accepted, and the state; with another
status the state holds only what the refusal itself reports. -/
def State.writeEffect (s : State) (c : WriteCtx) (id idx : Nat) (value : List Byte) : Nat × State :=
  let v := leNat value
  let off := leNat (value.take 4)
  let bs := value.drop 4
  if id = P.RESET_REQUEST then (0, s.resetRequest v)
  else if id = P.OPTION_OVERLAY then s.overlayStep off bs
  else if id = P.IRQ_PENDING then (0, s.irqClear v)
  else if id = P.FAULT_CLEAR then (if s.par P.LOG_SEQ ≤ v then (4, s) else (0, s.faultClear v))
  else if id = P.LOCK_ADVANCE then s.lockAdvance v
  else if id = P.ATTEST_REQUEST then (if off ≠ 0 then (4, s) else s.attestRequest bs c.flashOk)
  else if id = P.KEY_LOAD then (if off ≠ 0 then (4, s) else s.keyLoad bs c.gbe c.by_)
  else if id = P.KEY_REVOKE then s.keyRevoke v
  else if id = P.DEBUG_UNLOCK then s.debugUnlock
  else if id = P.MANIFEST then s.manifestWrite off bs
  else if id = P.IMAGE_DATA then (if s.isTile then (1, s) else (0, s.imageWrite off bs))
  else if id = P.UPDATE_ABORT then (0, s.abortUpdate)
  else if id = P.ACTIVATE then s.updActivate
  else if id = P.CONFIRM then s.confirmWrite
  else if id = P.TIME_SET then (if s.isTile || !s.stepAllowed then (4, s) else (0, s.timeSetWrite v))
  else if id = P.TX_THRESHOLD then (0, s.setTxStep 0 v)
  else if id = P.T1S_THRESHOLD then (0, s.setTxStep (idx + 1) v)
  else if id = P.RDM_REQUEST then s.rdmStep idx off bs
  else if id = P.FIX_DATA then s.bankStep BK.FIX 0 off bs
  else if id = P.FIX_SEAL then s.sealStep BK.FIX 0 v
  -- equal lanes are only said to be refused; the status is the model's (DESIGN CHOICE, log entry 8)
  else if id = P.TILE_PORT_MAP then (if field v 0 5 = field v 8 5 then (4, s) else (0, s.setPar id 0 v))
  else if id = P.EYE_SCAN_CTRL then (0, s.eyeScanWrite v)
  else if id = P.PRBS_GEN then s.prbsStep idx v
  else if id = P.PRBS_CHK then (0, s.prbsChkWrite idx v)
  else if id = P.INJECT then (if s.laneState idx = L.OFF then (4, s) else (0, s.injectWrite idx v))
  else if id = P.EPOCH_FLOOR then (0, s.epochFloorWrite v)
  else if id = P.STILL_DATA then s.stillStep idx off bs
  else if id = P.STILL_SEAL then s.stillSealStep idx v
  else if id = P.COEFF_DATA then s.bankStep BK.COEFF 0 off bs
  else if id = P.COEFF_SEAL then s.sealStep BK.COEFF 0 v
  else if id = P.MAP_DATA then s.bankStep BK.MAP 0 off bs
  else if id = P.MAP_SEAL then s.sealStep BK.MAP 0 v
  else if id = P.PROG_DATA then s.bankStep BK.PROG idx off bs
  else if id = P.PROG_SEAL then s.sealStep BK.PROG idx v
  else if id = P.LEDGER_COMMAND then (0, { s with tile := { s.tile with ledgerCmds := s.tile.ledgerCmds ++ [v] } })
  else if id = P.HEALTH_COMMAND then (0, { s with health := { s.health with cmds := s.health.cmds ++ [v] } })
  else if id = P.OSC_RESET then (0, { s with pump := { s.pump with oscReset := s.pump.oscReset ||| v } })
  else if id = P.DUMP_READ then s.dumpRead v
  else if id = P.COUNTER_FREEZE then (0, s.counterFreeze v)
  else if id = P.SAMPLE_CLEAR then (0, s.sampleClear)
  else if id = P.SWITCHOVER then (0, s)
  else (0, s.putValue id idx value)

end Sys2Proof.Machine
end

