-- ==== Sys2Proof/Machine/Latch.lean ====
section
/-! DEFINITION. The commit latch: pending transactions apply, what their parameters change takes effect, flips and bindings are
taken (R18, R65, R100, R211, R212, and the rules of each area). -/

namespace Sys2Proof.Machine

/-! Leases that end (R96, R108) -/

/-- The lease is free: an open transaction is discarded, committed ones stay pending (R96).  With the lease of another trunk's manager
the conflict of R6 ends. -/
def State.leaseFree (s : State) : State :=
  if s.od.holder.isNone then s
  else
    let s := { s with od := { s.od with holder := none, txn := none }, red := { s.red with otherManager := none } }.raise E.LEASE_CHANGED
    if s.isHead then s.managerEval else s

/-- A change of the dictionary's transport closes the holder's path (R108). -/
def State.transportChanged (s before : State) : State :=
  match s.od.holder with
  | some (.gbe _ _) => if s.par P.OD_UDP_PORT ≠ before.par P.OD_UDP_PORT then s.leaseFree else s
  | some (.t1s n _ _) =>
    if s.par P.OD_UDP_PORT ≠ before.par P.OD_UDP_PORT ∨ bit (s.par P.OD_T1S_ENABLE) n = false then s.leaseFree else s
  | _ => s

/-! Rate changes (R212) -/

/-- The rate code a list of writes leaves, when it differs from `code`. -/
def rateChange (code : Nat) (ws : List Write) : Option Nat :=
  match ws.reverse.find? fun w => w.id == P.TICK_RATE with
  | some w => if leNat w.value = code then none else some (leNat w.value)
  | none => none

/-- The rate change a pending transaction carries in a head. -/
def State.pendRate (s : State) (p : PendTxn) : Option Nat := if s.isHead then rateChange s.rate p.writes else none

/-! Applying transactions (R100) -/

/-- A parameter whose value in force the settings store holds (R85), with the device ID, which R110 keeps there too. -/
def storable (id : Nat) : Bool :=
  match findParam id with
  | some p => (p.acc == .rws || p.acc == .rwsa) && (p.lvl != .none || id == P.DEVICE_ID)
  | none => false

/-- One write of a transaction applies. -/
def State.applyWrite (s : State) (w : Write) : State :=
  match s.writeEffect { by_ := w.by_, gbe := w.gbe } w.id w.index w.value with
  | (0, t) => t
  | _ => s

/-- A transaction applies at the latch of tick `k` (R100, R65). -/
def State.applyTxn (s : State) (k : Nat) (p : PendTxn) : State :=
  let t := p.writes.foldl State.applyWrite s
  let changed := (p.writes.any fun w => storable w.id) && decide (t.dict ≠ s.dict ∨ t.blobs ≠ s.blobs)
  let t := { t with od := { t.od with dirty := t.od.dirty || changed } }
  let t := (t.setPar P.APPLIED_TXN 0 p.num).count 5
  if p.tick < k then t.setPar P.APPLIED_TICK 0 (k % 2 ^ 48) else t

/-- The transactions that apply at the latch of tick `k`, and those that stay pending: a rate change whose latch did not run
moves to the next common instant, with every later one (R212). -/
def State.applyDue (s : State) (k : Nat) : List PendTxn → State × List PendTxn × List Write
  | [] => (s, [], [])
  | p :: rest =>
    if k < p.tick then (s, p :: rest, [])
    else
      match s.pendRate p with
      | some new =>
        if p.tick = k ∨ commonFrom s.rate new k = k then
          let r := State.applyDue (s.applyTxn k p) k rest
          (r.1, r.2.1, p.writes ++ r.2.2)
        else
          let n := commonFrom s.rate new k
          (s.setPar P.APPLIED_TICK 0 (n % 2 ^ 48), (p :: rest).map fun q => { q with tick := max n q.tick }, [])
      | none =>
        let r := State.applyDue (s.applyTxn k p) k rest
        (r.1, r.2.1, p.writes ++ r.2.2)

/-- The earliest tick whose commit latch, at −250 µs, is still ahead of this cycle (R99). -/
def State.earliestTick (s : State) : Nat :=
  let p := ratePeriod s.rate
  max ((s.time.counter + 250000 * nsUnit) * p.2 / (p.1 * 1000000000 * nsUnit) + 1) (s.time.latched + 1)

/-- A pending change of rate whose applied tick passes without its latch moves, with every later transaction, to the next common
instant whose latch is still ahead (R212). -/
def State.moveMissed (s : State) (n : Nat) : List PendTxn → List PendTxn
  | [] => []
  | p :: rest =>
    match s.pendRate p with
    | some new =>
      if n ≤ p.tick then p :: rest
      else (p :: rest).map fun q => { q with tick := max (commonFrom s.rate new s.earliestTick) q.tick }
    | none => p :: State.moveMissed s n rest

/-- At tick `n` the changes of rate that have missed their latch move, and APPLIED_TICK names the new tick (R212). -/
def State.rateMissed (s : State) (n : Nat) : State :=
  let l := s.moveMissed (n + 1) s.od.pending
  if l = s.od.pending then s
  else
    let k := ((l.find? fun (p : PendTxn) => (s.pendRate p).isSome).map (·.tick)).getD 0
    ({ s with od := { s.od with pending := l } }).setPar P.APPLIED_TICK 0 (k % 2 ^ 48)

/-! What the changed parameters do -/

/-- An element of a scalar parameter differs. -/
def State.parDiff (s before : State) (id : Nat) (idx : Nat := 0) : Bool := s.par id idx != before.par id idx

/-- A parameter was written, at any index. -/
def wroteAny (ws : List Write) (ids : List Nat) : Bool := ws.any fun w => ids.contains w.id
/-- An element was written. -/
def wroteAt (ws : List Write) (ids : List Nat) (idx : Nat) : Bool := ws.any fun w => ids.contains w.id && w.index == idx

/-- Effects both roles have: lanes, of which a live one whose receive polarity changes loses sync once (R132; a change of its transmit
polarity costs the far end's, log entry 8), pulse outputs (R217), addresses, delay (R275), monitors and dumps (R500, R503),
the sluice (R178). -/
def State.latchBoth (s before : State) (k : Nat) (ws : List Write) : State :=
  let s := s.each (List.range 32) fun s n =>
    if s.parDiff before P.LANE_USE n || s.parDiff before P.LANE_RATE n then s.laneOff n
    else if s.lanePolarity n / 2 != before.lanePolarity n / 2 && s.laneUp n then s.syncLoss n else s
  let s := s.each (List.range 8) fun s n =>
    if wroteAt ws [P.TPO_MODE, P.TPO_START, P.TPO_PERIOD, P.TPO_WIDTH, P.TPO_TICK_OFFSET] n then s.tpoApply n else s
  let s := s.raiseIf (s.parDiff before P.DISPLAY_DELAY) E.DISPLAY_DELAY_CHANGED
  let s := if s.parDiff before P.IP_MODE || s.parDiff before P.IPV4_ADDRESS then s.ipRestart else s
  let s := s.each (List.range 32) fun s m => if wroteAt ws [P.BW_SELECT] m then s.monSelect m else s
  let s := if wroteAny ws [P.DUMP_PERIOD, P.DUMP_COUNTERS, P.DUMP_MONITORS, P.DUMP_RING_SIZE, P.DUMP_MODE] then s.dumpRestart else s
  let s := s.transportChanged before
  let s := if s.redMode != before.redMode then s.redModeChanged else s
  let s := if s.parDiff before P.FORCE_STANDBY then s.sluiceEval else s
  if wroteAny ws [P.SWITCHOVER] then s.switchoverLatch k else s

/-- Effects in a head: receivers (R139), geometries (R220), time source (R204), the rate (R212, R213). -/
def State.latchHead (s before : State) (nk : Nat) (ws : List Write) : State :=
  let s := s.each (List.range 4) fun s n =>
    let s := s.hpdDrop before n
    if s.parDiff before P.DP_MAX_RATE n || s.blob P.DP_EDID n 0 512 != before.blob P.DP_EDID n 0 512 then s.hpdCycle n else s
  let s := s.each (List.range 16) fun s n =>
    let s := if s.parDiff before P.SURFACE_GEOMETRY n then s.sourceReset (srcKey 2 n) else s
    if s.parDiff before P.STILL_GEOMETRY n then s.sourceReset (srcKey 3 n) else s
  let s := s.channelsMoved before
  let s := if s.parDiff before P.TIME_SOURCE then s.sourceChanged else s
  let s := if s.parDiff before P.TICK_RATE then { s with scan := { s.scan with skip := nk } } else s
  let s := if wroteAny ws [P.UNIVERSES] then s.fixTerminate before.univs else s
  s.speedPass

/-- Effects in a tile: expansion table (R289), grid values (R328), the pump engine (R380–R382), quads held dark (R346). -/
def State.latchTile (s before : State) (ws : List Write) : State :=
  let s := if (s.parDiff before P.TILE_FORMAT || s.parDiff before P.FULL_SCALE) && s.par P.TILE_FORMAT / 16 == 0 then s.fillExpansion else s
  let s := if (ws.any fun w => w.id / 65536 == 0x29 || w.id / 65536 == 0x2A || w.id / 65536 == 0x2B) || s.parDiff before P.DISPLAY_DELAY
    then ({ s with tile := { s.tile with unfit := s.tile.unfit.filter (s.quadBad s.rate) } }).driveDerive else s
  let s := s.each (List.range 8) fun s q =>
    let hit := [P.QUAD_CONFIG, P.QUAD_PROGRAM, P.B_LSB, P.GK_FREQ].any (fun id => s.parDiff before id q) ||
      field (s.par P.PORT_ENABLE) (4 * q) 4 != field (before.par P.PORT_ENABLE) (4 * q) 4 ||
      (List.range 4).any fun i => s.parDiff before P.PORT_CONFIG (4 * q + i)
    if hit && (s.seq q).dark == 2 then s.updSeq q fun d => { d with dark := 1 } else s
  s.pumpLatch before (ws.map fun w => (w.id, w.index))

/-! The latch -/

/-- The newest four bindings of area 0C, one per frame (R391). -/
def State.fixBind (s : State) (k : Nat) : State :=
  { s with tile := { s.tile with binds := (s.takeBind k :: s.tile.binds.filter fun x => x.frame != k).take 4 } }.copyDue

/-- The commit latch of tick `k` runs (R18, R100): transactions, their effects, then flips and bindings for the frame, which a
rate change numbers anew (R213). -/
def State.latch (s : State) (k : Nat) (tie : Bool) : State :=
  let before := s
  let r := s.applyDue k s.od.pending
  let ws := r.2.2
  let s := { r.1 with od := { r.1.od with pending := r.2.1 } }
  let n := if s.rate = before.rate then k else newTick before.rate s.rate k
  let s := { s with time := { s.time with latched := n
                                          strobed := if s.rate = before.rate then s.time.strobed else n - 1 } }
  let s := s.latchBoth before k ws
  if s.isTile then
    let s := s.latchTile before ws
    let s := s.setPar P.CONFIG_DIGEST 0 s.configDigest
    (s.corrLatch k).syncEval
  else if s.isHead then
    let s := s.latchHead before n ws
    let s := if s.rdy B.COMPOSE then (s.flipLatch n tie).judgeShown else s
    let s := s.setPar P.CONFIG_DIGEST 0 s.configDigest
    let s := ((s.budgetLatch).chainLoads).fixLoads
    let s := if s.rdy B.COMPOSE then s.bindLatch n else s
    (s.fixBind n).syncEval
  else s

/-- The L1 reset that a write of UPDATE_ABORT in TRIAL leaves due (R493). -/
def State.abortReset (s : State) : State :=
  if s.upd.resetNow then { s with upd := { s.upd with resetNow := false } }.enterReset .l1 3 else s

/-- COMMIT_LATCH: at tick k − 250 µs, unless a reset is being entered or carried out (R65); a latch runs once. -/
def execCommitLatch (k : Nat) (tie : Bool) (s : State) : Res := .next <|
  if s.start.resetting.isSome || s.start.latchHold || s.start.tripped || !s.rdy B.TIME_LOCK || decide (k ≤ s.time.latched) then s
  else (s.latch k tie).abortReset

end Sys2Proof.Machine
end

