-- ==== Sys2Proof/Machine/Boot.lean ====
section
/-! DEFINITION. Settings at a start (R63, R85, R492), secure boot (R467, R468) and the boot side of the update (R491), with the
link packets of the relay that may start an image. -/

namespace Sys2Proof.Machine

/-! Stored settings (R63, R85) -/

/-- A pulse programme takes effect with the settings; one whose single edge is past stays silent. -/
def State.tpoRestore (s : State) (n : Nat) : State :=
  if s.tpoMode n = 1 ∧ ofTime80 (s.par P.TPO_START n) * nsUnit ≤ s.time.counter then s else s.tpoApply n

/-- The built-in settings of the port lanes end with the settings of the image: a lane with an explicit rate starts again at it
(R122, R132; log entry 8). -/
def State.builtInEnd (s : State) : State :=
  if !s.lane.builtIn then s
  else
    let s := { s with lane := { s.lane with builtIn := false } }
    s.each [s.lane.portW, s.lane.portE] fun s n => if s.laneRate n ≠ 3 ∧ s.laneState n ≠ L.OFF then s.laneOff n else s

/-- What the settings in force leave to be read, and the lanes they allocate. -/
def State.settingsActive (s : State) : State :=
  let s := s.builtInEnd
  let s := if SMap.get false s.start.released Region.front.num then s.lanesStart else s
  let s := s.each (List.range 8) State.tpoRestore
  let s := if s.isTile then s.driveDerive else if s.isHead then ((s.budgetLatch).chainLoads).fixLoads else s
  s.setPar P.CONFIG_DIGEST 0 s.configDigest

/-- The firmware applies the last whole settings record at once (R63, R85); EV 614 is raised at every start of an image, also when
flash holds no record (DESIGN CHOICE, log entry 24). -/
def State.applyStored (s : State) : State :=
  let s := { s with
    dict := s.dict.filter fun (e : Nat × Nat) => !storable (e.1 / 65536)
    blobs := s.blobs.filter fun (e : Nat × Nat) => !storable (e.1 / 268435456 / 65536) }
  let s := s.each s.od.stored fun s (e : Nat × Nat) => s.setPar (e.1 / 65536) (e.1 % 65536) e.2
  let s := s.each s.od.storedBlobs fun s (e : Nat × Nat) =>
    s.setBlob (e.1 / 268435456 / 65536) (e.1 / 268435456 % 65536) (e.1 % 268435456) [BitVec.ofNat 8 e.2]
  (s.settingsActive).raise E.SETTINGS_RESTORED

/-- SETTINGS_STORE_WRITE: a whole record of the values in force is appended to flash (R85). -/
def execSettingsStoreWrite (s : State) : Res := .next <|
  if !s.od.dirty then s
  else
    { s with od := { s.od with
      dirty := false
      stored := s.dict.filter fun (e : Nat × Nat) => storable (e.1 / 65536)
      storedBlobs := s.blobs.filter fun (e : Nat × Nat) => storable (e.1 / 268435456 / 65536) } }

/-! Settings of a trial (R492) -/

/-- At the first start of a trial the area in force is frozen and converted; false when some parameter does not convert. -/
def State.convertTrial (s : State) (format : Nat) : State × Bool :=
  if s.upd.frozen.isSome then (s, true)
  else match Config.convertSettings s.upd.format format (s.od.stored, s.od.storedBlobs) with
    | none => (s, false)
    | some (d, b) =>
      ({ s with
        upd := { s.upd with frozen := some (s.od.stored, s.od.storedBlobs), frozenFormat := s.upd.format, format := format }
        od := { s.od with stored := d, storedBlobs := b } }, true)

/-- A start outside a trial uses the frozen area again, if there is one. -/
def State.unfreeze (s : State) : State :=
  match s.upd.frozen with
  | none => s
  | some (d, b) =>
    { s with
      upd := { s.upd with frozen := none, format := s.upd.frozenFormat, frozenFormat := 0 }
      od := { s.od with stored := d, storedBlobs := b } }

/-! The role in force (R70) -/

/-- The role the record names. -/
def recordRole (rec : List Byte) : Role := match recField rec 8 2 with | 1 => .head | 2 => .tile | _ => .none

/-- `#01.0003 ROLE_IN_FORCE`. -/
def roleCode : Role → Nat | .none => 0 | .head => 1 | .tile => 2

/-- Front starts in the role in force: in a tile and in a stopped device with the lanes of `TILE_PORT_MAP`, or L0 and L1 when the
flash cannot be read, on the built-in settings before an image runs (R70, R122, R141). -/
def State.frontStart (s : State) : State :=
  let m := if s.start.flashOk then s.par P.TILE_PORT_MAP else dfltAt s.isTile s.sideB P.TILE_PORT_MAP 0
  let s := if s.isHead then s
    else { s with lane := { s.lane with portW := field m 0 5, portE := field m 8 5, builtIn := !s.upd.started } }
  s.lanesStart

/-- The role in force changes while the regions run; parameters keep what has been written to them. -/
def State.roleGo (s : State) (r : Role) : State :=
  let moved := s.isHead || r == .head
  let s := { s with start := { s.start with role := r } }
  let s := { s with dict := s.dict.filter fun (e : Nat × Nat) => e.2 != dfltAt s.isTile s.sideB (e.1 / 65536) (e.1 % 65536) }
  let s := s.setPar P.ROLE_IN_FORCE 0 (roleCode r)
  let s := { s with start := { s.start with ready := (roleBits r s.paired).foldl (fun m i => if bit s.start.ready i then m + 2 ^ i else m) 0 } }
  if moved && SMap.get false s.start.released Region.front.num then s.frontLost.frontStart else s

/-! Verification (R467) -/

/-- Why an image is rejected: 1 format, 2 key, 3 security version, 4 signature. -/
def State.bootReject (s : State) (img : List Byte) : Option Nat :=
  let key := Config.hdrKey img
  if img = [] ∨ Config.hdrFormat img ≠ 1 then some 1
  else if bytesAt (sha256 key) 0 32 ≠ s.security.rootHash then some 2
  else if Config.hdrSecurity img < s.security.floor then some 3
  else if hssVerify key (bytesAt (sha256 (Config.imageBody img)) 0 32 ++ Config.hdrFields img) (Config.hdrSignature img)
    then none
  else some 4

/-- The bytes of a slot's image. -/
def State.slotImage (s : State) (n : Nat) : List Byte := (s.slot n).image 8323072

/-- The first candidate that passes, with a report for each that does not. -/
def State.bootWalk (s : State) (l : List Nat) : State × Option Nat :=
  let bad := l.takeWhile fun n => (s.bootReject (s.slotImage n)).isSome
  (s.each bad fun t n => t.raise E.IMAGE_REJECTED n ((s.bootReject (s.slotImage n)).getD 0), (l.drop bad.length).head?)

/-- The image of a slot starts: what it shows of itself, keys, attestation, the trial's state, settings and floor fuses
(R467, R469, R475, R491, R492, R494). -/
def State.startImage (s : State) (n : Nat) : State :=
  let img := s.slotImage n
  let s := s.setBlob P.FW_DIGEST 0 0 (bytesAt (sha256 (Config.imageBody img)) 0 32)
  let s := (s.setPar P.FW_VERSION 0 (Config.hdrVersion img % 2 ^ 32)).setPar P.LINK_VERSION 0 (Config.hdrLink img % 2 ^ 16)
  let s := ({ s with upd := { s.upd with running := n, started := true } }).raise E.SECURE_BOOT_OK n
  let s := s.attestStart
  let s := if s.security.keysValid then s
    else ({ s with security := { s.security with keys := [] } }).raise E.KEY_STORE_FAULT
  let s := if s.upd.st = U.TRIAL ∧ n ≠ s.upd.trial then s.revert 4 else s
  let r := if s.upd.st = U.TRIAL then s.convertTrial (Config.hdrSettings img % 2 ^ 16) else (s.unfreeze, true)
  if r.2 then (r.1.applyStored.floorBurn (Config.hdrSecurity (r.1.slotImage r.1.upd.confirmed))).rescan
  else (((r.1.updGo U.REVERTED).outcome 3).raise E.SETTINGS_UNREADABLE).enterReset .l1 3

/-- The candidates of R491, with the trial's boot used up or the trial reverted. -/
def State.bootCandidates (s : State) : State × List Nat :=
  let usual := [s.upd.confirmed, s.inactive] ++ (if recField s.start.record 96 2 = 2 then [2] else [])
  if s.upd.st ≠ U.TRIAL then (s, usual)
  else if s.upd.boots = 0 then (s.revert 2, usual)
  else (({ s with upd := { s.upd with boots := s.upd.boots - 1 } }).raise E.TRIAL_BOOT, s.upd.trial :: usual)

/-- SECURE_BOOT_VERIFY: the ROM starts the first image that verifies, or the device stays at low-water (R76, R467). -/
def execSecureBootVerify (s : State) : Res := .next <|
  if !s.start.lowWater || s.start.stopped || s.upd.started || s.start.noFirmware || s.start.role == .none || s.start.tripped then s
  else
    let c := s.bootCandidates
    let w := c.1.bootWalk c.2
    match w.2 with
    | some n => w.1.startImage n
    | none => (({ w.1 with start := { w.1.start with noFirmware := true } }).roleGo .none).raise E.NO_VALID_FIRMWARE

/-- A complete image on a device without firmware starts at once as its confirmed image (R491). -/
def State.bootIfDue (s : State) : State :=
  if !s.upd.bootDue then s
  else
    let n := s.inactive
    let s := { s with upd := { s.upd with bootDue := false } }
    match s.bootReject (s.slotImage n) with
    | some r => s.raise E.IMAGE_REJECTED n r
    | none =>
      let s := { s with upd := { s.upd with confirmed := n }, start := { s.start with noFirmware := false } }
      ((s.roleGo (recordRole s.start.record)).updGo U.IDLE).startImage n

/-- UPD_BLOCK: a relayed block arrives; it is stored and verified in order, and may complete an image (R488, R489). -/
def execUpdBlock (p : Fin 20) (id : BitVec 32) (i : Nat) (data : List Byte) (crcOk : Bool) (s : State) : Res := .next <|
  if !s.chainUp p then s else (s.updBlock p id.toNat i data crcOk).bootIfDue

/-- UPD_STATE: a neighbour's update state arrives, with its manifest when it is loading (R485, R486). -/
def execUpdState (p : Fin 20) (id : BitVec 32) (st : Fin 8) (version : BitVec 16) (held : List Nat) (manifest : List Byte)
    (crcOk : Bool) (s : State) : Res := .next <|
  if !s.chainUp p then s else (s.updState p id.toNat st version.toNat held manifest crcOk).bootIfDue

end Sys2Proof.Machine
end

