-- ==== Sys2Proof/Machine/Commit.lean ====
section
/-! DEFINITION. Committing a transaction: the rules that span parameters, judged on the values it would leave in force,
and its applied tick (R98, R99, R102, R212, R538). -/

namespace Sys2Proof.Machine

/-- The values that writes would leave in force. -/
def State.shadow (s : State) (ws : List Write) : State := ws.foldl State.applyWrite s

/-! Rules that span parameters -/

/-- The FIR taps exceed the swing, or MAIN is below 32 (R124). -/
def firBad (v : Nat) : Bool := decide (63 < field v 0 4 + field v 4 6 + field v 10 5) || decide (field v 4 6 < 32)

/-- Two lanes carry one chain or span index, or a receiver lacks its four lanes (R133, R141). -/
def State.lanesBad (t : State) : Bool :=
  let uses := ((List.range 32).map t.laneUse).filter fun u => u / 16 == 1 || u / 16 == 3
  !decide uses.Nodup ||
    (List.range 4).any fun n => t.par P.DP_ENABLE n == 1 && (List.range 4).any fun i => t.laneUse (4 * n + i) / 16 != 4

/-- An EDID breaks R140. -/
def State.edidBad (t : State) (n : Nat) : Bool :=
  let b (i : Nat) : Nat := t.blobByte P.DP_EDID n i
  let used := 128 * (b 126 + 1)
  (List.range 8).any (fun i => b i != if i = 0 ∨ i = 7 then 0 else 0xFF) || decide (3 < b 126) ||
    (List.range (b 126 + 1)).any (fun k => ((List.range 128).map fun i => b (128 * k + i)).sum % 256 != 0) ||
    (List.range 512).any fun i => decide (used ≤ i) && b i != 0

/-- A switchover that R190 refuses. -/
def State.switchBad (s : State) : Bool :=
  !s.redMode || !(s.sluice == SL.ACTIVE || s.sluice == SL.STANDBY) || (s.sluice == SL.ACTIVE && !s.rdy B.REDUNDANCY_SYNC)

/-- Reserved bytes of a fill colour are not 0 (R12, R234). -/
def State.fillBad (t : State) (id n : Nat) : Bool := t.blobByte id n 10 != 0 || t.blobByte id n 11 != 0

/-- Whether a commit changes what the chain load depends on (R168). -/
def State.loadTouched (s t : State) (ws : List Write) : Bool :=
  [P.CANVAS_FORMAT, P.TICK_RATE, P.DISPLAY_DELAY, P.TILE_GAP, P.HEAD_CTRL_SYMBOLS].any (fun id => t.parDiff s id) ||
    ws.any (fun w => w.id == P.REGION && t.blob w.id w.index 0 16 != s.blob w.id w.index 0 16) ||
    (List.range 32).any fun n =>
      (t.parDiff s P.LANE_USE n || t.parDiff s P.LANE_RATE n) && (t.laneUse n / 16 == 1 || s.laneUse n / 16 == 1)

/-- Rules of both roles. -/
def State.badBoth (s t : State) (ws : List Write) : Bool :=
  (List.range 8).any t.tpoBad || (List.range 32).any (fun n => firBad (t.par P.TX_FIR n)) ||
    (List.range 32).any (fun m => wroteAt ws [P.BW_SELECT] m && decide (rateFloor t.rate < field (t.par P.BW_SELECT m) 16 8)) ||
    !belowPeriod t.rate (t.par P.DISPLAY_DELAY) || (wroteAny ws [P.SWITCHOVER] && s.switchBad) || !t.storeFits

/-- Rules of the head. -/
def State.badHead (s t : State) (ws : List Write) : Bool :=
  t.lanesBad || (List.range 4).any (fun n => wroteAt ws [P.DP_EDID] n && t.edidBad n) ||
    (wroteAny ws [P.REDUNDANCY_MODE] && t.par P.REDUNDANCY_MODE == 1 &&
      (t.par P.PARTNER_ID == 0xFFE || t.par P.PARTNER_ID == t.par P.DEVICE_ID)) ||
    (List.range 16).any (fun n => wroteAt ws [P.LAYER_TRANSFER] n && bit (t.par P.LAYER_TRANSFER n) 7 && t.kindOf n != 1) ||
    (List.range 16).any (fun n => (wroteAt ws [P.LAYER_LOSS_FILL] n && t.fillBad P.LAYER_LOSS_FILL n) ||
      (wroteAt ws [P.SOLID_COLOUR] n && t.fillBad P.SOLID_COLOUR n)) ||
    (wroteAny ws [P.CANVAS_BACKGROUND] && t.fillBad P.CANVAS_BACKGROUND 0) ||
    (wroteAny ws [P.TONE_CURVE] && t.toneBad) ||
    (List.range 4).any (fun i => wroteAt ws [P.SCALER_COEFF] i && t.tableBad i) || t.composeBad ||
    (wroteAny ws [P.TRANSPORT_CURVE] && t.curveBad) || t.regionsBad ||
    ws.any (fun w => w.id == P.REGION && t.regionFieldBad w.index) ||
    (s.loadTouched t ws && (List.range 16).any t.chainOver) ||
    t.fixBad || (wroteAny ws [P.UNIVERSES] && t.universesBad) || (wroteAny ws [P.FIX_BANK] && !t.bankSealed BK.FIX (t.par P.FIX_BANK)) || t.plcaBad

/-- Rules of the tile. -/
def State.badTile (t : State) (ws : List Write) : Bool :=
  t.corrBad || (wroteAny ws [P.EXPANSION_LUT] && t.par P.TILE_FORMAT / 16 == 1 && t.expansionBad) ||
    (wroteAny ws [P.LOWGREY_CURVES] && t.lowgreyBad) ||
    (wroteAny ws [P.PRIMARY_XYZ, P.T_REF, P.LAMP_LAYOUT] && t.primariesBad) ||
    (wroteAny ws [P.WEAR_CURVE] && t.wearCurveBad) ||
    (wroteAny ws [P.COEFF_BANK] && !t.bankSealed BK.COEFF (t.par P.COEFF_BANK)) ||
    (wroteAny ws [P.MAP_BANK] && !t.bankSealed BK.MAP (t.par P.MAP_BANK)) || t.driveBad || t.pumpBad

/-- A rule that spans parameters is broken once the pending transactions and these writes apply (R99, R538). -/
def State.commitBad (s : State) (ws : List Write) : Bool :=
  let b := s.shadow (s.od.pending.flatMap fun (p : PendTxn) => p.writes)
  let t := b.shadow ws
  b.badBoth t ws || (s.isHead && b.badHead t ws) || (s.isTile && t.badTile ws)

/-- The first write with which the rules break: the item a refusal names (R99). -/
def State.badWrite (s : State) (ws : List Write) : Nat :=
  ((List.range ws.length).find? fun i => s.commitBad (ws.take (i + 1))).getD 0

/-! The applied tick -/

/-- The applied tick of a commit: the target or the earliest tick, not before an earlier commit's, and for a change of rate
the next common tick (R99, R212). -/
def State.appliedTick (s : State) (ws : List Write) (target : Nat) : Nat :=
  let k := s.od.pending.foldl (fun m (p : PendTxn) => max m p.tick) (max target s.earliestTick)
  match (if s.isHead then rateChange s.rate ws else none) with
  | some new => commonFrom s.rate new k
  | none => k

/-- The change of rate meets a pending transaction (R212), or a target names a tick while one is pending. -/
def State.rateClash (s : State) (ws : List Write) (target : Nat) : Bool :=
  (decide (target ≠ 0) && s.od.pending.any fun (p : PendTxn) => (s.pendRate p).isSome) ||
    (s.isHead && (rateChange s.rate ws).isSome && !s.od.pending.isEmpty)

/-- Refusal of a commit: its status and the item it names, or none (R99, R102, R212; log entry 24 for their order). -/
def State.commitRefused (s : State) (ws : List Write) (target : Nat) (strict : Bool) : Option (Nat × Nat) :=
  if !s.rdy B.TIME_LOCK then some (17, 0)
  else if 8 ≤ s.od.pending.length then some (13, 0)
  else if s.rateClash ws target then some (16, 0)
  else if s.commitBad ws then some (16, s.badWrite ws)
  else if s.time.tick + 65536 < target ∨ s.time.tick + 65536 < s.appliedTick ws target then some (4, 0)
  else if strict ∧ target ≠ 0 ∧ s.appliedTick ws target ≠ target then some (14, 0)
  else none

/-- An accepted commit: the transaction is pending at its applied tick, the chain loads are those it leaves, and the polder
is built anew where it must be (R99, R168, R249). -/
def State.commit (s : State) (num : Nat) (ws : List Write) (target : Nat) : State :=
  let k := s.appliedTick ws target
  let b := s.shadow (s.od.pending.flatMap fun (p : PendTxn) => p.writes)
  let t := b.shadow ws
  let s := if s.isHead && b.loadTouched t ws then
      let u := t.chainLoads
      s.each (List.range 16) fun s c => s.setPar P.CHAIN_LOAD c (u.par P.CHAIN_LOAD c)
    else s
  let s := { s with od := { s.od with pending := s.od.pending ++ [({ num := num, tick := k, at_ := s.now, writes := ws } : PendTxn)] } }
  let s := (s.setPar P.APPLIED_TICK 0 (k % 2 ^ 48)).raiseIf (target != 0 && k != target) E.TXN_LATE
  if s.isHead && ws.any fun w => b.polderTouched t w.id w.index then s.polderCommit k else s

end Sys2Proof.Machine
end

