-- ==== Sys2Proof/Machine/Start.lean ====
section
/-! DEFINITION. Supplies, power-on reset, `RESET_N`, option bytes, region release, clock-good, low-water, ready bits and
cluster restarts (chapters 01, 02 and 03). -/

namespace Sys2Proof.Machine

/-! Supplies (R53–R56) -/

/-- Place of a supply in `PartStart.valid`. -/
def supplyNum : Supply → Nat
  | .vddCore => 0 | .vddSram => 1 | .vddDram => 2 | .vddaLane09 => 3 | .vddaLane12 => 4 | .vddioG => 5 | .vddioE => 6

def State.valid (s : State) (n : Nat) : Bool := SMap.get false s.start.valid n

def State.setValid (s : State) (n : Nat) (b : Bool) : State :=
  { s with start := { s.start with valid := SMap.set false s.start.valid n b } }

/-- The three supplies that power-on reset monitors are valid. -/
def State.monitored (s : State) : Bool := s.valid 0 && s.valid 1 && s.valid 5

/-- The supplies of a region are valid (R55). -/
def State.regionSupplied (s : State) (r : Region) : Bool :=
  s.monitored && (match r with | .memory => s.valid 2 | .front => s.valid 3 && s.valid 4 | _ => true)

/-- Pins take the weak pull-down or high impedance when `VDDIO_G` becomes valid before the option bytes are read (R48). -/
def State.pinsWeak (s : State) : State :=
  if s.start.optionRead then s else { s with start := { s.start with groups := s.weakGroups } }

/-- SUPPLY_VALID: a supply has risen above its rising threshold (R53, R525). -/
def execSupplyValid (x : Supply) (s : State) : Res := .next <|
  let s := s.setValid (supplyNum x) true
  if x = .vddioG then s.pinsWeak else s

/-- A fuse burn that loses power leaves the old or the new state, which is a free value (R465, log entry 2). -/
def State.burnCut (s : State) : State :=
  match s.security.burning with
  | none => s
  | some r =>
    let (v, s) := s.takeFree
    { s with security := { s.security with burning := none, answer := none, fuses := if v % 2 = 1 then r else s.security.fuses } }

/-- Power-on reset is entered; under the trip latch only the pins' logic waits (R54, R66). -/
def State.enterPor (s : State) (deep : Bool) : State :=
  let s := s.burnCut
  let s := { s with start := { s.start with
    por := true, coreCleared := s.start.coreCleared || deep, lowSince := none, longHeld := false, heldByPin := false } }
  if s.start.tripped then s else s.resetL0

/-- SUPPLY_DIP: a monitored supply falls below its threshold; `deep` says that `VDD_CORE` falls below 0.3 V (R54, R66). -/
def execSupplyDip (x : Supply) (deep : Bool) (s : State) : Res := .next <|
  if x = .vddCore ∨ x = .vddSram ∨ x = .vddioG then
    (s.setValid (supplyNum x) false).enterPor (deep && x == .vddCore)
  else s

/-- SUPPLY_FALL: another supervised supply falls; a region that runs keeps running (R53, R55). -/
def execSupplyFall (x : Supply) (s : State) : Res := .next <|
  if x = .vddCore ∨ x = .vddSram ∨ x = .vddioG then s else s.setValid (supplyNum x) false

/-- POR_RELEASE: 10 µs after the last monitored supply became valid; a trip is left only when the core was cleared
(R54, R58, R66). -/
def execPorRelease (s : State) : Res := .next <|
  if !s.start.por || !s.monitored then s
  else
    let s :=
      if s.start.tripped then
        if s.start.coreCleared then
          ({ s with start := { s.start with tripped := false } }.carryOut .l0 5 false).setPar P.THERMAL_STAGE 0 0
        else s.countReset .l0
      else s.carryOut .l0 0 false
    { s with start := { s.start with por := false, coreCleared := false, heldByPin := !s.start.tripped && !s.start.resetN } }

/-! Lamp banks (R48, R56, R526) -/

/-- The supply of lamp bank `b` is lost: its pins, its ports and its buses (R56). -/
def State.bankLost (s : State) (b : Nat) : State :=
  let s := s.setValid (7 + b) false
  let s := { s with start := { s.start with
    banks := SMap.set .off s.start.banks b .off
    oeFree := s.start.oeFree.filter fun p => p / 8 != b } }
  let s := s.raiseIf s.start.optionRead E.BANK_SUPPLY_LOST b
  s.each [2 * b, 2 * b + 1] fun s q =>
    match (s.bus q).owner with
    | .idle => s
    | .program a => s.programDone q a 3 []
    | .health n => (s.busFree q).healthFailed q n
    | _ => s.busFree q

/-- BANK_SUPPLY_VALID: the bank's pins take the weak pull-down and it takes its class, `high` at or above 2.5 V; a valid
supply that crosses 2.5 V counts as lost first (R48, R526). -/
def execBankSupplyValid (b : Fin 4) (high : Bool) (s : State) : Res := .next <|
  let same := s.start.class33.contains b.val == high
  if s.valid (7 + b) && same then s
  else
    let s := if s.valid (7 + b) then s.bankLost b else s
    let s := s.setValid (7 + b) true
    { s with start := { s.start with
      banks := SMap.set .off s.start.banks b .weakDown
      class33 := if high then NSet.add s.start.class33 b else NSet.del s.start.class33 b } }

/-- BANK_MAP_APPLY: the pins of a bank that became valid after the option read take their map state; those whose groups are in
their configured function return to it at the next display tick (R48, R56; log entry 14). -/
def execBankMapApply (b : Fin 4) (s : State) : Res := .next <|
  if s.start.optionRead && SMap.get .off s.start.banks b == .weakDown then
    { s with start := { s.start with banks := SMap.set .off s.start.banks b .map } }
  else s

/-- BANK_SUPPLY_LEAVES_RANGE (R56). -/
def execBankSupplyLeavesRange (b : Fin 4) (s : State) : Res := .next <| if s.valid (7 + b) then s.bankLost b else s

/-! `RESET_N` and requests (R57–R60) -/

/-- RESET_N_ASSERT: the pin falls, and its low time is counted. -/
def execResetNAssert (s : State) : Res := .next <|
  if !s.start.resetN then s
  else { s with start := { s.start with resetN := false, lowSince := if s.start.por then none else some s.now } }

/-- A long press is settled: the long reset is entered and held until the pin is high. -/
def State.longPress (s : State) : State :=
  let s := { s with start := { s.start with lowSince := none, longHeld := true } }
  s.enterReset (s.classLevel .long) 2

/-- RESET_N_LONG_COUNT: the count reaches 200 ms, 50,000,000 cycles. -/
def execResetNLongCount (s : State) : Res := .next <|
  match s.start.lowSince with
  | some _ => s.longPress
  | none => s

/-- RESET_N_RELEASE: the pin is seen high; less than 10 µs is ignored, 200 ms in this very cycle is long, and so is every
assertion longer than 10 µs when `REFCLK_IN` is not running (R27, R57). -/
def execResetNRelease (s : State) (refclk : Bool := true) : Res := .next <|
  let s := match s.start.lowSince with
    | none => s
    | some t =>
      if s.now < t + 10 * us then s
      else if t + 200 * ms ≤ s.now ∨ (refclk = false ∧ t + 10 * us < s.now) then s.longPress
      else s.enterReset (s.classLevel .short) 1
  { s with start := { s.start with resetN := true, lowSince := none, longHeld := false, heldByPin := false } }

/-- RESET_REQUEST_EXECUTE: the requested reset is carried out at its mapped level (R59). -/
def execResetRequestExecute (s : State) : Res := .next <|
  match s.start.request with
  | none => s
  | some c =>
    { s with start := { s.start with request := none } }.enterReset (s.classLevel c) (match c with | .short => 3 | .long => 4)

/-- SELF_REFRESH_TIMEOUT: the DRAM did not enter self-refresh cleanly, and the L1 reset deepens to L0 (R64, R439). -/
def execSelfRefreshTimeout (s : State) : Res := .next <|
  if !s.dram.entering || s.start.resetting != some .l1 then s
  else
    let source := s.par P.RESET_CAUSE % 8
    let s := (s.carryOut .l0 source true).raise E.SELF_REFRESH_FAIL
    let s := s.raiseIf (source == 1 || source == 3) E.RESET_SHORT
    s.raiseIf (source == 2 || source == 4) E.RESET_LONG

/-! Option bytes (R67–R73) -/

/-- OPTION_BYTE_READ: the record is chosen, the role settled, and the pin reset map applies; `flashOk` says that the flash
answered within the read (R44–R48, R67–R73). -/
def execOptionByteRead (s : State) (flashOk : Bool := true) : Res := .next <|
  if s.start.por || s.start.optionRead || s.start.tripped then s
  else
    let (rec_, source, evs) := s.chooseRecord flashOk
    let role := if bit source 5 then Role.none else recordRole rec_
    let s := { s with start := { s.start with
      optionRead := true, flashOk := flashOk, record := rec_, role := role, stopped := role == Role.none
      banks := s.start.banks.map fun (e : Nat × BankMode) => (e.1, .normal) } }
    let s := s.each evs fun s e => s.raise e
    let s := (s.setPar P.OPTION_SOURCE 0 source).setPar P.ROLE_REQUESTED 0 (recField rec_ 8 2)
    let s := s.setPar P.ROLE_IN_FORCE 0 (roleCode role)
    s.takeMap (List.range 16) (s.start.resetting == some Level.l1)

/-! Regions (R74, R75) -/

/-- A region is released with its clock-good, its trims at their targets (R458). -/
def State.releaseRegion (s : State) (r : Region) : State :=
  let s := s.trimDirect
  { s with start := { s.start with released := SMap.set false s.start.released r.num true
                                   clockGood := SMap.set false s.start.clockGood r.num true } }

/-- The next region that is still to be released, 5 when none is. -/
def State.nextTurn (s : State) : Nat :=
  ((List.range 5).find? fun n => decide (s.start.turn < n) && !SMap.get false s.start.released n).getD 5

/-- The reset that is being carried out ends (R60); a power-on reset is then reported. -/
def State.resetDone (s : State) : State :=
  if s.start.resetting.isNone then s
  else
    let s := { s with start := { s.start with resetting := none, resetEnd := s.now } }
    s.raiseIf ([0, 5].contains (s.par P.RESET_CAUSE % 8)) E.POWER_ON

/-- The turn that ran is over (R60, R74). -/
def State.turnOver (s : State) : State :=
  let s := { s with start := { s.start with turn := s.nextTurn } }
  if s.start.turn = 5 then s.resetDone else s

/-- The device stops at low-water: no role is in force (R70). -/
def State.stopLow (s : State) : State := { s with start := { s.start with stopped := true } }.roleGo .none

/-- The checks at the release of Memory: size, then role (R3, R70, R71). -/
def State.memoryChecks (s : State) : State :=
  let gb := s.dram.dieMb / 1024
  let want := recField s.start.record 112 8
  let role := recField s.start.record 8 2
  let s := s.setPar P.DRAM_SIZE_FOUND 0 gb
  let s := if want ≠ 0 ∧ ¬((want = 4 ∨ want = 8) ∧ gb = want) then (s.raise E.DRAM_SIZE_MISMATCH).stopLow else s
  let s := if role = 1 ∧ gb = 4 then (s.raise E.ROLE_MISMATCH).stopLow else s
  s.raiseIf (role == 0 || role == 3) E.ROLE_INVALID

/-- What a region does as it is released. -/
def State.regionStart (s : State) (r : Region) : State :=
  match r with
  | .memory =>
    let s := s.memoryChecks
    if s.par P.DRAM_STATE = 3 then s.dramWake
    else ({ s with dram := { s.dram with releasedAt := s.now } }).setPar P.DRAM_STATE 0 1
  | .front => s.frontTrims.frontStart
  | .control => { s with start := { s.start with porOut := true } }
  | .image => { s with start := { s.start with restarting := false } }
  | _ => s

/-- REGION_RELEASE: the region whose turn it is, or one skipped earlier, has its supplies and its clock-good (R55, R74);
Image/Drive never before Memory, and not in safe hold.  With `tie` the clock-good arrives in the cycle that ends the region's
2 ms and is late: EV 16 is raised, the turn is over, and the region is released as a skipped one is (R27, R74). -/
def execRegionRelease (r : Region) (s : State) (tie : Bool := false) : Res := .next <|
  if !s.start.optionRead || s.start.por || s.start.tripped || s.start.heldByPin || s.start.longHeld || s.isReleased r ||
      decide (s.start.turn < r.num) || !s.regionSupplied r ||
      (r == .image && (!s.isReleased .memory || s.start.safeHold)) then s
  else
    let mine := s.start.turn == r.num
    let late := mine && tie && s.start.resetting.isSome
    let s := if late then (s.raise E.CLOCK_GOOD_TIMEOUT r.num).turnOver else s
    let s := (s.releaseRegion r).regionStart r
    if mine && !late then s.turnOver else s

/-- CLOCK_GOOD_TURN_EXPIRY: the region whose turn runs has not met its conditions within 2 ms (R60, R74). -/
def execClockGoodTurnExpiry (s : State) : Res := .next <|
  if !s.start.optionRead || s.start.heldByPin || s.start.longHeld || s.start.tripped || s.start.resetting.isNone || 4 < s.start.turn then s
  else (s.raise E.CLOCK_GOOD_TIMEOUT s.start.turn).turnOver

/-- Ready bits a region carries: those whose function R15 and R77 put into it, FIXTURE both with the fixture sequencer in
Control and with the canvas it samples in Image/Drive (DEDUCED, log entry 14). -/
def regionBits : Region → Nat
  | .control => 2 ^ 0 + 2 ^ 3 + 2 ^ 12 + 2 ^ 13
  | .memory => 2 ^ 2
  | .time => 2 ^ 4
  | .front => 2 ^ 1 + 2 ^ 5 + 2 ^ 6
  | .image => imageBits

/-- CLOCK_GOOD_DROP: the region is held again; Control, Memory and Time lead to safe hold (R75). -/
def execClockGoodDrop (r : Region) (s : State) : Res := .next <|
  let was := s.isReleased r
  let s := { s with start := { s.start with clockGood := SMap.set false s.start.clockGood r.num false } }
  if !was then s
  else
    let s := { s with start := { s.start with released := SMap.set false s.start.released r.num false } }
    let s := (s.raise E.CLOCK_GOOD_LOST r.num).dropReady (regionBits r)
    match r with
    | .front => s.frontLost
    | .image =>
      let s := { s with start := { s.start with restarting := true, pg14Late := true, latchHold := true } }
      s.clampPins.imageLost
    | _ => s.enterSafeHold

/-- CLOCK_GOOD_RETURN: Front is released again; Image/Drive begins the pipeline restart; a region that led to safe hold runs
again, and the device stays in safe hold (R75). -/
def execClockGoodReturn (r : Region) (s : State) : Res := .next <|
  let s := if s.start.por || s.start.tripped then s
    else { s with start := { s.start with clockGood := SMap.set false s.start.clockGood r.num true } }
  if s.isReleased r || s.start.resetting.isSome || s.start.por || s.start.tripped || !s.regionSupplied r ||
      decide (s.start.turn < 5) then s
  else match r with
    | .image => if s.start.restarting && !s.start.safeHold then s.pipelineRestart else s
    | .front => ((s.releaseRegion r).frontTrims).lanesStart
    | _ => s.releaseRegion r

/-! Low-water and ready bits (R76–R80) -/

/-- Groups whose fused state was replaced (R45). -/
def State.fixedGroups (s : State) : List Nat := (List.range 16).filter fun g => s.appliedState g != s.fusedState g

/-- LOW_WATER_ENTRY: OD_MIN and FORWARD are set, the held events are written, then EV 12 and EV 13 (R45, R67, R76).  A download's
slot is verified again before its first UPD_STATE (R488). -/
def execLowWaterEntry (s : State) : Res := .next <|
  if s.start.lowWater || !s.isReleased .control || s.start.resetting.isSome then s
  else
    let role := recField s.start.record 8 2
    let s := s.raiseIf (!s.isReleased .memory && (role == 0 || role == 3)) E.ROLE_INVALID
    let s := s.setReady B.OD_MIN
    let s := if s.isReleased .front then s.setReady B.FORWARD else s
    let s := { s with start := { s.start with lowWater := true } }.writeHeld
    let s := s.each s.fixedGroups fun s g => s.raise E.PIN_MAP_FIXED g
    (s.raise E.LOW_WATER).rescan

/-- Canvases stream to every configured chain (R77). -/
def State.streaming (s : State) : Bool :=
  s.scan.last.isSome && (List.range 16).all fun c => (s.chainLane c).isNone || s.chainUp c

/-- What TIME_LOCK waits for in a head: a locked servo, TIME_SET written, or both, as the source asks (R204). -/
def State.headLocked (s : State) : Bool :=
  match s.par P.TIME_SOURCE with
  | 0 => s.time.servo == 2
  | 3 => s.time.setDone
  | _ => s.time.servo == 2 && s.time.setDone

/-- The function of a ready bit is usable; its prerequisites apart (R77). -/
def State.usable (s : State) (i : Nat) : Bool :=
  match i with
  | 0 => s.isReleased .control
  | 1 => s.isReleased .front
  | 2 => s.isReleased .memory && s.par P.DRAM_STATE == 2 && !s.start.stopped
  | 3 => s.upd.started && !s.start.stopped
  | 4 => s.isReleased .time && (if s.isHead then s.headLocked else decide (8 ≤ s.time.close))
  | 5 => s.isReleased .front
  | 6 => s.isReleased .front
  | 7 => s.isReleased .image && (s.runLength == 0 || s.comp.polder)
  | 8 => s.isReleased .image && s.par P.CANVAS_WIDTH != 0 && s.par P.CANVAS_HEIGHT != 0 && (s.par P.SPAN_ROLE == 0 || s.scan.everLocked)
  | 9 => s.isReleased .image && s.tile.gainReady && s.bankSealed BK.COEFF (s.par P.COEFF_BANK)
  | 10 => s.isReleased .image
  | 11 => s.isReleased .image
  | 12 => s.isReleased .image
  | 13 => true
  | 14 => s.syncDue
  | _ => if s.isHead then s.streaming else s.tile.front.isSome

/-- After an L0 reset the firmware, once it runs, loads the stored banks, the ledger and the fault list (R296, R305, R364). -/
def State.loadTile (s : State) : State :=
  if !s.tile.loadDue then s else { s with tile := { s.tile with loadDue := false } }.loadBanks.loadLedger.loadFaults

/-- A tile's lock to its markers is reported (R215). -/
def State.lockTold (s : State) : State := s.raiseIf s.isTile E.MARKER_LOCKED

/-- TIME_LOCK rises at once when its condition is met and its prerequisites stand (R78, R215). -/
def State.lockAgain (s : State) : State :=
  if s.usable B.TIME_LOCK && !s.rdy B.TIME_LOCK then
    let s := s.setReady B.TIME_LOCK
    if s.rdy B.TIME_LOCK then (s.leaveMap B.TIME_LOCK).lockTold else s
  else s

/-- What follows the rise of a ready bit. -/
def State.risen (s : State) (i : Nat) : State :=
  match i with
  | 1 => s.lockAgain
  | 2 => s.logRecover
  | 3 =>
    let s := if s.upd.st = U.TRIAL then { s with upd := { s.upd with windowAt := some s.controlNow } } else s
    let s := if s.start.pg14Late then s else s.sluiceStart
    (if s.isTile then s.loadTile else s).lockAgain
  | 4 => s.lockTold
  | 7 => { s with start := { s.start with latchHold := false } }
  | 8 => s.sluiceStart
  | 9 => { s.corrRise with start := { s.corrRise.start with latchHold := false } }
  | 10 =>
    let s := s.sluiceStart
    if s.isPairedTile && !s.acting then s.sendMember 28 (.member 4 0 []) else s
  | 11 => s.pumpStart
  | _ => s

/-- READY_BIT_RISE: the function becomes usable, its pin groups leave their map state in one step (R49, R77, R78). -/
def execReadyBitRise (i : Fin 16) (s : State) : Res := .next <|
  if s.start.tripped || !(s.usable i) || s.rdy i then s
  else if i.val = 14 then (s.syncEval).speedPass
  else
    let s := if i.val = 12 ∧ s.isHead = true ∧ (s.bank BK.FIX (s.par P.FIX_BANK)).st = 0 then s.loadBanks else s
    let s := s.setReady i
    if !s.rdy i then s
    else (((s.leaveMap i).risen i).speedPass).standbyCheck

/-! Containment (R30–R33) -/

/-- What the spec's clusters do when they are quiesced: a lane quad's lanes leave their state (R114), a quad of lamp ports goes
dark (R327); compositor clusters, scan-out and correction serve no frame until they restart (R31).  Their numbers within the
region are the model's (DESIGN CHOICE, log entry 28): lane quads 0–7 of Front; in Image/Drive compositor clusters 0–3 and scan-out 4 of
a head, port quads 0–7 and correction 8 of a tile. -/
def State.quiesce (s : State) (r : Region) (c : Nat) : State :=
  let s := { s with start := { s.start with quiesced := NSet.add s.start.quiesced (32 * r.num + c) } }
  match r with
  | .front => if c < 8 then s.quadLeaves c else s
  | .image => if s.isTile && decide (c < 8) then s.quadStop c else s
  | _ => s

/-- The restart of a quiesced cluster (R30, R31): lanes start again from CDR, a port quad as R327 says, a scan-out cluster with its
streamers empty. -/
def State.restartCluster (s : State) (r : Region) (c : Nat) : State :=
  let s := { s with start := { s.start with quiesced := NSet.del s.start.quiesced (32 * r.num + c) } }
  match r with
  | .front => if c < 8 then s.quadReturns c else s
  | .image =>
    if s.isTile && decide (c < 8) then s.quadRestart c
    else if s.isHead && c == 4 then { s with scan := { s.scan with streamers := [] } }
    else s
  | _ => s

/-- CLUSTER_FAULT: the cluster is quiesced; the others run on (R30). -/
def execClusterFault (r : Region) (c : Fin 32) (s : State) : Res := .next <|
  if !s.isReleased r then s else s.quiesce r c

/-- CLUSTER_RESTART_AT_FRAME_BOUNDARY: the quiesced cluster restarts from the committed configuration, with EV 21, but a
quad of lamp ports with EV 421 (R31, R327, R518). -/
def execClusterRestartAtFrameBoundary (r : Region) (c : Fin 32) (s : State) : Res := .next <|
  if !s.start.quiesced.contains (32 * r.num + c) then s
  else
    let quad := r == .image && s.isTile && decide (c.val < 8)
    let s := s.restartCluster r c
    if quad then s else s.raiseRec { s.mkRaise E.CLUSTER_RESTART 0xFFFF 0 c with region := r.num }

/-- IMAGE_DRIVE_FAULT: the pipeline restarts (R32). -/
def execImageDriveFault (s : State) : Res := .next <|
  if !s.isReleased .image || s.start.restarting || s.start.safeHold then s else s.pipelineRestart

/-- UNCONTAINED_REGION_FAULT: a fault that Control, Memory or Time cannot contain leads to safe hold (R33). -/
def execUncontainedRegionFault (r : Region) (s : State) : Res := .next <|
  if (r == .control || r == .memory || r == .time) && s.isReleased r then s.enterSafeHold else s

end Sys2Proof.Machine
end

