-- ==== Sys2Proof/Machine/Strobe.lean ====
section
/-! DEFINITION. The tick strobe: what a head and a tile do at the instant of a tick (R156, R158, R173, R181, R211, R213). -/

namespace Sys2Proof.Machine

/-! Head -/

/-- PHASE of a marker in ps: the part of a nanosecond by which the tick follows TIME, and the wait for the lane's next symbol slot, a
free value below one symbol time (R157, R158; log entry 2). -/
def markerPhase (rate n slot free : Nat) : Nat := tickUnits rate n % nsUnit * 1000 / nsUnit + free % symbolPs slot

/-- One marker per tick leaves on every chain lane and every ingress lane (R157, R158). -/
def State.sendMarkers (s : State) (n : Nat) : State :=
  let lanes := (List.range 32).filter fun l => s.laneUp l && (s.laneUse l / 16 == 1 || s.laneUse l / 16 == 2)
  s.each lanes fun s l =>
    let (free, s) := s.takeFree
    (s.count 198).send (.packet (if s.laneUse l / 16 = 1 then s.laneUse l % 16 else 32 + s.laneUse l % 16) K.MARKER
      [n % 2 ^ 48, time80 (tickNs s.rate n), markerPhase s.rate n (s.laneRunRate l) free, s.rate])

/-- Rings that were whole in the tick that ends; a head in redundant mode without any partner path reports it, and one that has a
path reads its partner's report, and once a second its link version (R173, R187, R490). -/
def State.pathTick (s : State) (n : Nat) : State :=
  let s := { s with red := { s.red with rings := s.red.ringNow, ringNow := [] } }
  if !s.redMode then s
  else if s.partnerPath.isNone then s.raiseLimited E.PARTNER_PATH_LOST 0xFFFF sec
  else
    let dest := s.par P.PARTNER_ID
    let s := s.sendPartner (readSize 1) (.odRead dest [(P.HEALTH_REPORT, 0)])
    if tickNs s.rate n / 1000000000 = tickNs s.rate (n - 1) / 1000000000 then s
    else s.sendPartner (readSize 1) (.odRead dest [(P.LINK_VERSION, 0)])

/-- Duties change at the tick boundary: prefix, fixture outputs, PTP mastership (R181, R209). -/
def State.dutiesTick (s : State) : State :=
  { s with red := { s.red with streams := s.acting, fixtures := s.acting } }.ptpEligibility s.acting

/-- The plain head of two trunks' managers reports the conflict in every tick until it is removed (R6). -/
def State.managerTick (s : State) : State := s.managerEval.raiseIf s.managerConflict E.MANAGER_CONFLICT

/-- Tick `n` in a head: streamers start frame n − 1, composition of frame n and fixture sampling begin. -/
def State.headTick (s : State) (n : Nat) (tie : Bool) : State :=
  let s := ((s.namedTick tie).evidenceTick).freeLeaving
  let s := (((s.dutiesTick).managerTick).sendMarkers n).guardEnd
  let s := s.pathTick n
  let s := ((s.spanTick (n - 1) tie).scanStart (n - 1) tie)
  let s := if s.rdy B.COMPOSE then (((s.shedTick).dikeTick).polderTick n tie).composeStart n else s
  (s.fixStart (n - 1)).speedPass

/-! Tile -/

/-- Tick `n` in a tile: proxy duty, the next marker, the count of doubt (R156, R180, R214). -/
def State.tileTick (s : State) : State :=
  let s := ((s.proxyTick).markerTick).guardEnd
  if s.isPairedTile then s.evidenceTick else s

/-! The strobe -/

/-- Counters, monitors and dumps of the tick (R498–R501); at a rate change the monitors' windows are cut (R500). -/
def State.perfTick (s : State) (n : Nat) (changed : Bool) : State :=
  let s := s.count 129
  let s := if s.time.servo = 3 then s.count 132 else s
  let s := if changed then s.monCut n else s.monTick n
  s.dumpLatch n

/-- TICK_STROBE: tick `n` of the rate in force; no number is strobed twice (R211). -/
def execTickStrobe (n : Nat) (tie : Bool) (s : State) : Res := .next <|
  if !s.isReleased .time || s.start.tripped || decide (n ≤ s.time.strobed) then s
  else
    let changed := s.isHead && s.scan.skip == n
    let s := { s with time := { s.time with tick := n, strobed := n } }
    let s := if changed then { s.raise E.TICK_RATE_CHANGED with perf := { s.perf with rateChanged := true } } else s
    let s := (s.perfTick n changed).rateMissed n
    let s := if s.isHead then s.headTick n tie else s.tileTick
    if changed then { s with scan := { s.scan with skip := 0 } } else s

end Sys2Proof.Machine
end

