-- ==== Sys2Proof/Machine/Packets.lean ====
section
/-! DEFINITION. What arrives on the chain: video packets and grants, control packets, TICK markers (R145–R158, R164–R166, R173,
R184–R187, R213, R214), and EVENT messages to the lease holder (R513, R514). -/

namespace Sys2Proof.Machine

/-- A tile, or a device stopped at low-water, passes a packet on unchanged (R145). -/
def State.forwardOn (s : State) (p kind id : Nat) : State :=
  if s.isHead || !s.rdy B.FORWARD then s else (s.send (.forward (1 - p) kind id)).count 194

/-! Copies (R164, R166) -/

/-- A tile is collecting frame `k`: its cut-off has not passed and its stream has begun. -/
def State.late (s : State) (k : Nat) : Bool := decide (k < s.chain.cutDone) || decide (k + 2 < s.time.tick)

/-- The region a frame is bound to: format, width, height (R284). -/
def State.boundRegion (s : State) (k : Nat) : Nat × Nat × Nat :=
  let c := match s.bindFor k with | some b => s.under b | none => s
  (c.par P.TILE_FORMAT, c.regionW, c.regionH)

/-- A packet contradicts the binding of its frame (R284). -/
def State.mismatch (s : State) (k : Nat) (h : VideoHead) : Bool :=
  let r := s.boundRegion k
  h.format.toNat != r.1 || h.count.toNat != regionPackets (h.format.toNat % 16) r.2.1 r.2.2

/-- A packet contradicts its region (R164). -/
def contradicts (c : Copy) (size : Nat) (v : VideoPacket) : Bool :=
  let h := v.head
  let pmax := (groupOf (h.format.toNat % 16)).2.2
  h.format.toNat != c.format || h.count.toNat != c.count || decide (size < h.offset.toNat + v.payload.length) ||
    h.offset.toNat != h.index.toNat * pmax ||
    (SMap.get 0 c.crcs h.index.toNat != 0 && SMap.get 0 c.crcs h.index.toNat != v.crc.toNat + 1)

/-- A packet joins its copy; the copy is complete when every INDEX has arrived and the signature agrees (R164, R165). -/
def Copy.take (c : Copy) (v : VideoPacket) (now size : Nat) : Copy :=
  let h := v.head
  let put (m : SMap Nat) (i : Nat) : SMap Nat := SMap.set 0 m (h.offset.toNat + i) (v.payload.getD i 0).toNat
  let c := { c with
    oneEpoch := c.oneEpoch && h.epoch.toNat == c.epoch, incomplete := c.incomplete || h.incomplete
    repeated := c.repeated || h.repeated, sig := if h.last then some v.signature.toNat else c.sig }
  if h.incomplete then c
  else
    let c := { c with crcs := SMap.set 0 c.crcs h.index.toNat (v.crc.toNat + 1), data := (List.range v.payload.length).foldl put c.data }
    let whole := (List.range c.count).all fun i => SMap.get 0 c.crcs i != 0
    let same := c.sig == some (crc64 ((List.range size).map fun i => BitVec.ofNat 8 (SMap.get 0 c.data i)))
    if whole && same && c.doneAt.isNone then { c with doneAt := some now } else c

/-- The copy a packet of frame `k` on port `p` starts: barred with its whole frame where the frame's first packet came before
CORRECTION rose (R79). -/
def State.newCopy (s : State) (p k : Nat) (v : VideoPacket) : Copy :=
  let h := v.head
  { tick := k, port := p, prefixed := v.prefixed, src := h.src.toNat % 4096, epoch := h.epoch.toNat
    format := h.format.toNat, count := h.count.toNat, barred := !s.rdy B.CORRECTION || s.chain.copies.any fun c => c.tick == k && c.barred
    entered := decide (k ≤ s.tile.displayed) }

/-- A region packet addressed to the tile (R164). -/
def State.takePacket (s : State) (p : Nat) (v : VideoPacket) : State :=
  let k := nearTick s.time.tick v.head.tick.toNat
  if s.late k then (s.bump P.LATE_PACKETS p).raiseTick E.PACKET_LATE p 0 0xFFFF
  else if s.time.tick ≤ k then s
  else if s.mismatch k v.head then (s.raiseTick E.REGION_MISMATCH).raise E.PACKET_STRAY p
  else
    let r := s.boundRegion k
    let size := regionBytes (v.head.format.toNat % 16) r.2.1 r.2.2
    let old := s.chain.copies.find? fun (c : Copy) => c.tick == k && c.port == p
    let c := old.getD (s.newCopy p k v)
    if contradicts c size v then s.raise E.PACKET_STRAY p
    else if SMap.get 0 c.crcs v.head.index.toNat = v.crc.toNat + 1 then s
    else
      let s := (s.count 195).bump P.RX_PACKETS p
      { s with chain := { s.chain with
        copies := c.take v s.now size :: s.chain.copies.filter fun (x : Copy) => !(x.tick == k && x.port == p) } }

/-- A packet that passes its CRC, in a tile or a stopped device. -/
def State.tileVideo (s : State) (p : Nat) (v : VideoPacket) : State :=
  let h := v.head
  let dest := h.dest.toNat
  let s := s.seeHeadEpoch h.epoch.toNat
  let s := { s with chain := { s.chain with
    headPort := SMap.set 0 s.chain.headPort (h.src.toNat % 4096) (p + 1)
    stretch := SMap.set none s.chain.stretch p none
    seen := if h.count.toNat = 0 then s.chain.seen else NSet.add s.chain.seen (65536 * p + dest) } }
  if !s.destMatch dest then s
  else
    let gap := h.gap.toNat
    let s := if h.last && gap != 0 then
        { s with chain := { s.chain with stretch := SMap.set none s.chain.stretch p (some { left := gap, open_ := h.count.toNat == 0 && dest % 4096 == 0xFFF, grant := h.count.toNat == 0 }) } }
      else s
    if h.count.toNat = 0 then (if gap != 0 then (s.count 195).bump P.RX_PACKETS p else s)
    else if !s.isTile then s else s.takePacket p v

/-! The partner's stream in a head (R173, R180, R183, R186, R187) -/

/-- A packet of the partner has come round on chain `c`. -/
def State.ringSeen (s : State) (c src : Nat) : State :=
  if src = s.par P.PARTNER_ID then { s with red := { s.red with ringNow := NSet.add s.red.ringNow c } } else s

/-- A video packet at a head's end of a ring. -/
def State.headVideo (s : State) (c : Nat) (v : VideoPacket) (ok : Bool) : State :=
  let h := v.head
  let src := h.src.toNat % 4096
  if src ≠ s.par P.PARTNER_ID then s
  else
    let s := if h.last && h.count.toNat != 0 then
        s.sigArrived (nearTick s.time.tick h.tick.toNat) c h.dest.toNat v.signature.toNat (!ok || h.incomplete || h.repeated)
      else s
    if !ok then s
    else
      let s := (s.ringSeen c src).seeEpoch h.epoch.toNat
      if v.prefixed then s
      else
        let s := { s with red := { s.red with broken := true, partnerEpoch := max s.red.partnerEpoch h.epoch.toNat } }
        (s.splitJudge h.epoch.toNat src).syncEval

/-- VIDEO_PACKET: a video packet arrives whole on a port or at the end of a ring (R145, R164, R187). -/
def execVideoPacket (p : Fin 16) (v : VideoPacket) (s : State) : Res := .next <|
  if !s.chainUp p then s
  else
    let ok := videoOk v
    let s := s.forwardOn p K.VIDEO v.head.tick.toNat
    let s := if ok then s else (s.crcFail p).raiseLimited E.CHAIN_CRC_ERROR p sec
    if s.isHead then s.headVideo p v ok else if ok then s.tileVideo p v else s

/-! Control packets (R153, R154, R184) -/

/-- The active member's ledger, slew state and fault list go to the partner that asks for them (R193, R366). -/
def State.answerMember (s : State) : State :=
  let slew := (List.range 16).flatMap fun z =>
    (List.range 10).flatMap fun j =>
      [(10 * z + j, (s.kList P.K_APPLIED z).getD j 0), (160 + 10 * z + j, (SMap.get identityK s.tile.targets z).getD j 0)]
  let s := s.sendMemberList 2 (s.tile.ledger.map fun (e : Nat × Nat) => (e.1, (e.2 : Int)))
  let s := s.sendMemberList 3 slew
  s.sendMemberList 5 (s.health.list.map fun (e : Nat × Nat) => (e.1, (e.2 : Int)))

/-- The value of a place in a member's message. -/
def placeOf (l : List (Nat × Nat)) (i : Nat) : Nat := ((l.find? fun e => e.1 == i).map (·.2)).getD 0

/-- The whole of what a message of the other member brings, once its last packet has come; the parts before it are kept. -/
def State.takeMemberAll (s : State) (kind frame : Nat) (l : List (Nat × Nat)) : State :=
  match kind with
  | 0 =>
    let recs : List LoopRec := (List.range 16).map fun i =>
      { loop := i, u := placeOf l (4 * i), integ := signed 40 (placeOf l (4 * i + 1)), scale := placeOf l (4 * i + 2) }
    { s with pump := { s.pump with fromActive := ({ frame := frame, at_ := s.now, loops := recs } : LoopMsg) :: s.pump.fromActive } }
  | 1 => { s with health := { s.health with fromActive := s.health.fromActive ++ l.map fun (e : Nat × Nat) => (e.1, e.2, frame, s.now) } }
  | 2 =>
    ({ s with
      tile := { s.tile with ledger := l.foldl (fun (m : SMap Nat) (e : Nat × Nat) => SMap.set 0 m e.1 e.2) [] }
      red := { s.red with gotLedger := true } }).syncEval
  | 3 =>
    let s := s.each (List.range 16) fun s z =>
      let row (base : Nat) : List Int := (List.range 10).map fun j => signed 16 (placeOf l (base + 10 * z + j))
      { s with tile := { s.tile with targets := SMap.set identityK s.tile.targets z (row 160) } }.putK P.K_APPLIED z (row 0)
    ({ s with red := { s.red with gotSlew := true } }).syncEval
  | 4 => if s.acting then s.answerMember else s
  | _ =>
    ({ s with
      health := { s.health with list := l, listDue := true
                                lamps := l.foldl (fun (m : SMap Lamp) (e : Nat × Nat) => SMap.put m e.1 { status := e.2 }) [] }
      red := { s.red with gotFaults := true } }).syncEval

/-- A message of the other member of a paired tile; the ledger, the slew state and the fault list come in parts (R193, R291, R366,
R384; log entry 6). -/
def State.takeMember (s : State) (kind frame : Nat) (l : List (Nat × Nat)) : State :=
  if !s.isPairedTile then s
  else if kind = 2 ∨ kind = 3 ∨ kind = 5 then
    let all := SMap.get [] s.red.memberIn kind ++ l
    if frame = 0 then
      ({ s with red := { s.red with memberIn := SMap.set [] s.red.memberIn kind [] } }).takeMemberAll kind 0 all
    else { s with red := { s.red with memberIn := SMap.set [] s.red.memberIn kind all } }
  else s.takeMemberAll kind frame l

/-- What a control packet's message does on its way to the receiver; a dictionary request follows as a command of its own. -/
def State.takeBody (s : State) (b : ControlBody) : State :=
  match b with
  | .request => s
  | .response => s
  | .member kind frame l => s.takeMember kind frame l
  | .beta tick value =>
    if s.isPairedTile then { s with tile := { s.tile with betaIn := s.tile.betaIn ++ [(tick, value, s.now)] } } else s
  | .report bytes => s.partnerReport bytes
  | .linkVersion v => { s with upd := { s.upd with partnerLink := some v.toNat } }

/-- The control packet is taken. -/
def State.takeControl (s : State) (p : Nat) (c : ControlHead) (b : ControlBody) : State :=
  let s := (s.count 196).bump P.RX_PACKETS p
  let s := if c.positional then { s with chain := { s.chain with posReq := true } } else s
  s.takeBody b

/-- A head control packet whose EPOCH is below E_t is dropped and counted (R184). -/
def State.dropStale (s : State) : State := (s.bump P.STALE_PACKETS).raiseLimited E.EPOCH_STALE 0xFFFF sec

/-- A control packet at a tile: one of a head with a stale epoch is dropped; a stale dictionary request is counted where it would act
(R184). -/
def State.tileControl (s : State) (p : Nat) (c : ControlHead) (b : ControlBody) : State :=
  let stale := !c.fromTile && decide (c.epoch.toNat < s.par P.EPOCH)
  let s := if c.fromTile then s else s.seeHeadEpoch c.epoch.toNat
  let mine := if c.positional then s.posMatch p c.dest.toNat c.pos.toNat else s.destMatch c.dest.toNat
  if !mine then s
  else if stale then (if b = .request then s else s.dropStale)
  else s.takeControl p c b

/-- A control packet at a head's end of a ring: taken, relayed to the partner, or dropped (R154). -/
def State.headControl (s : State) (p : Nat) (c : ControlHead) (b : ControlBody) : State :=
  let src := c.src.toNat % 4096
  let s := s.ringSeen p src
  let s := { s with chain := { s.chain with headPort := SMap.set 0 s.chain.headPort src (p + 1) } }
  let s := if c.fromTile then s else s.seeEpoch c.epoch.toNat
  let drop (s : State) : State := { s with chain := { s.chain with dropped := s.chain.dropped + 1 } }
  if c.positional then drop s
  else if s.destMatch c.dest.toNat then s.takeControl p c b
  else if c.dest.toNat % 4096 = s.par P.PARTNER_ID then
    if s.partnerPath.isSome then s.sendPartner c.length (.packet 16 K.RELAY [c.dest.toNat, c.src.toNat, c.length]) else drop s
  else drop s

/-- CONTROL_PACKET: a control packet arrives whole; one whose LENGTH is wrong fails as by its CRC (R153). -/
def execControlPacket (p : Fin 16) (c : ControlHead) (b : ControlBody) (s : State) : Res := .next <|
  if !s.chainUp p then s
  else
    let s := s.forwardOn p K.CONTROL c.dest.toNat
    if !c.crcOk || c.length != c.received then s.crcFail p
    else if s.isHead then s.headControl p c b else s.tileControl p c b

/-- A control packet of the partner in a datagram: taken when it is addressed to the head (R173). -/
def State.takePartner (s : State) (c : ControlHead) (b : ControlBody) : State :=
  if !s.isHead || c.src.toNat % 4096 != s.par P.PARTNER_ID || !c.crcOk || c.length != c.received || !s.destMatch c.dest.toNat then s
  else (s.seeEpoch c.epoch.toNat).takeBody b

/-! TICK markers (R158, R213, R214) -/

/-- The first marker of a new rate: the tile's ticks are numbered anew, and the frame that is not streamed is not expected
(R213, R218, R322, R500). -/
def State.markerRate (s : State) (m : Marker) : State :=
  let r := m.rate.toNat
  let n := m.tick.toNat
  if r = s.time.tileRate then s
  else
    let old := s.time.tick
    let known := s.time.stepped
    let s := { s with time := { s.time with tileRate := r, tick := n, strobed := n, latched := n }
                      perf := { s.perf with rateChanged := true } }
    let s := if known then
        { s.raise E.TICK_RATE_CHANGED with
          scan := { s.scan with skip := old }
          chain := { s.chain with cutDone := 0 }
          tile := { s.tile with displayed := 0 } }
      else s
    (s.monCut n).rateRecheck

/-- MARKER_WAIT_EXPIRY: by t_n + L + 2 µs the marker of the tick has not arrived; one in that very cycle is missing
too (R158).  Without a valid L nothing is judged. -/
def execMarkerWaitExpiry (p : Fin 2) (s : State) : Res :=
  .next <|
  if !s.isTile || !s.latValid p || s.chain.got.contains p.val || s.chain.missed.contains p.val then s
  else ((s.raise E.MARKER_MISSING p).markerMissed p).lockAgain

/-- TICK_MARKER: a marker arrives; it is forwarded and, if it passes its CRC, used for the tile's time and rate. -/
def execTickMarker (p : Fin 16) (m : Marker) (s : State) : Res := .next <|
  if !s.chainUp p then s
  else
    let s := (s.forwardOn p K.MARKER m.tick.toNat).count 198
    if !m.crcOk then
      let s := s.crcFail p
      if s.isTile then ((s.raise E.MARKER_BAD p).markerMissed p).lockAgain else s
    else if !s.isTile then s
    else
      let gone := s.chain.missed.contains p.val
      let late := s.markerLate p m
      let s := { s.proxyEnd p with chain := { (s.proxyEnd p).chain with got := NSet.add s.chain.got p } }
      let s := s.markerRate m
      if gone then s
      else if late then ((s.raise E.MARKER_MISSING p).markerMissed p).lockAgain
      else if s.latValid p then (s.markerTime p m).lockAgain else s

/-! Frames at the MACs (R409) -/

/-- What a taken frame says to the port (R173, R410, R414). -/
def State.rxBody (s : State) (p : Nat) (b : RxBody) : State :=
  match b with
  | .plain => s
  | .pfc => s
  | .fragment => s
  | .dhcpAck a =>
    if p ≠ 0 ∨ s.par P.IP_MODE ≠ 1 ∨ a.toNat = s.par P.IPV4_IN_USE then s
    else { s with eth := { s.eth with candidate := some (a.toNat, 1), linkLocal := false } }.macPush 0 (.arp a.toNat)
  | .arpFrom a => s.arpSeen p a.toNat
  | .partner c b => if p = 0 then s.takePartner c b else s
  | .lldp tw =>
    if p ≠ 0 then s
    else
      let before := s.twNs
      let refused := decide (1000000 < tw)
      let was := s.eth.twRefused
      let s := ({ s with eth := { s.eth with partnerTw := some tw, twRefused := refused } }).twShow before
      let s := s.when refused State.lpiEnd
      s.raiseIf (refused && !was) E.EEE_TW_REFUSED

/-- MAC_FRAME_RECEIVE: a frame is dropped for its length or FCS, filtered, lost to a full buffer, or taken.  How much of the
buffer the firmware has emptied since is a free value (R409, R420). -/
def execMacFrameReceive (p : Fin 9) (f : RxFrame) (s : State) : Res :=
  .next <|
  let g := p.val = 0
  if !(if g then s.linkUp || s.eth.half else s.segOn (p.val - 1)) then s
  else
    let s := s.monCount (if g then 3 else 4) (p.val - 1) 1 f.length
    let s := if f.symbolError then s.stat p (if g then 10 else 14) else s
    if f.length < 64 then (if g then s.stat p 7 else s)
    else if 1522 < f.length then (if g then s.stat p 8 else s)
    else if !f.fcsOk then s.stat p (if g then 6 else 9)
    else if !s.macTakes p f then s.stat p 11
    else
      let (r, s) := s.takeFree
      let held := r % ((s.mac p).held + 1)
      if (if g then 65536 else 16384) < held + f.length then
        ((s.updMac p fun m => { m with held := held }).stat p (if g then 9 else 10)).raiseLimited E.RX_OVERFLOW p sec
      else
        let s := s.updMac p fun m => { m with held := held + f.length }
        let s := (s.stat p (if g then 4 else 7)).stat p (if g then 5 else 8) f.length
        s.rxBody p f.body

/-! EVENT messages (R513, R514) -/

/-- Bytes of an EVENT message with `n` records: the header and 45 bytes an item (R88, R513). -/
def eventSize (n : Nat) : Nat := 48 + 45 * n

/-- Records of the queue that no unacknowledged message carries, oldest first. -/
def State.unsent (s : State) : List EvRec :=
  s.ev.queue.filter fun (r : EvRec) => !s.ev.sent.any fun (m : EvMsg) => m.recs.contains r.seq

/-- Records go to the lease holder in one message. -/
def State.sendEvents (s : State) (path : Path) (seqs : List Nat) : State :=
  let n := s.ev.msgSeq
  let m : EvMsg := { seq := n, recs := seqs, sentAt := s.controlNow }
  let s := { s with ev := { s.ev with msgSeq := (n + 1) % 2 ^ 32, sent := s.ev.sent ++ [m] } }
  let s := match path with | .gbe _ _ => s.macPush 0 .od | .t1s g _ _ => s.macPush (g + 1) .od | _ => s
  s.sendOn path (eventSize seqs.length) false (.event path n seqs)

/-- A standby head sends no control packets but those R171 lists, and an EVENT over the chain is none of them. -/
def State.eventsWait (s : State) (path : Path) : Bool :=
  s.isHead && s.redMode && !s.acting && (match path with | .chain _ => true | _ => false)

/-- EVENT_MESSAGE_SEND: up to 30 records that wait go to the lease holder (R171, R513). -/
def execEventMessageSend (s : State) : Res := .next <|
  match s.od.holder, s.unsent.take 30 with
  | some path, r :: rs => if s.eventsWait path then s else s.sendEvents path ((r :: rs).map fun (x : EvRec) => x.seq)
  | _, _ => s

/-- EVENT_RESEND_TIMEOUT: the oldest message has had no answer for 500 ms, and its records are sent again (R514). -/
def execEventResendTimeout (s : State) : Res := .next <|
  match s.ev.sent, s.od.holder with
  | m :: rest, some path => if s.eventsWait path then s else { s with ev := { s.ev with sent := rest } }.sendEvents path m.recs
  | _ :: rest, none => { s with ev := { s.ev with sent := rest } }
  | [], _ => s

end Sys2Proof.Machine
end

