-- ==== Sys2Proof/Machine/Readers.lean ====
section
/-! DEFINITION. What a read of a parameter returns (R83–R86): the value in force, or the state it shows. -/

namespace Sys2Proof.Machine

/-- `#29.0060 PORT_STATE/p` (R328): 0 off, 1 map state, 2 held dark, 3 driving, 4 listening.  A port that a pipeline restart drives low
or releases reads held dark (DESIGN CHOICE, log entry 25: the row names neither). -/
def State.portState (s : State) (p : Nat) : Nat :=
  let on := (s.portCfg p).portOn p && (s.portCfg p).qMode (p / 4) != 0
  match SMap.get PinMode.off s.start.groups (4 + p / 8) with
  | .drivenLow | .released => if on then 2 else 0
  | .configured =>
    if !on then 0 else if !s.mayDrive then 4
    else if s.mayLight p && s.drive.lit.contains p then 3 else 2
  | .map => 1
  | _ => 0

/-- `#01.0006 MANAGER_STATE` (R73). -/
def State.managerState (s : State) : Nat :=
  if !s.managerEn then 0 else if !s.isHead then 3 else if s.red.manager then 1 else 2

/-- `#0E.0005 PENDING_TXN/i` (R107). -/
def State.pendingTxn (s : State) (i : Nat) : Nat :=
  match s.od.pending[i]? with
  | some (p : PendTxn) => p.num * 2 ^ 48 + p.tick % 2 ^ 48
  | none => 0

/-- `#0E.0010 LEASE_HOLDER` (R107): IPv4 addresses stand in the low 32 bits of a peer address. -/
def holderBytes (h : Option Path) : List Byte :=
  match h with
  | none => leBytes 24 0
  | some (.chain src) => leBytes 1 1 ++ leBytes 2 src.val ++ leBytes 21 0
  | some (.gbe ip port) => leBytes 1 2 ++ leBytes 2 0 ++ leBytes 16 ip.toNat ++ leBytes 2 port.toNat ++ leBytes 3 0
  | some (.t1s n ip port) => leBytes 1 (3 + n.val) ++ leBytes 2 0 ++ leBytes 16 ip.toNat ++ leBytes 2 port.toNat ++ leBytes 3 0

/-- A share in 0.01 %, to the nearest (R369). -/
def hundredths (q : ℚ) : Nat := min ⌊q * 10000 + 1 / 2⌋.toNat 0xFFFF

/-- The value a read of a scalar element returns.  CHAIN_L shows the L in use, and so LATENCY_ASSUMED before a valid read, where its
row gives 0 as the default (DEDUCED, log entry 12). -/
def State.readPar (s : State) (id idx : Nat) : Nat :=
  if id = P.MANAGER_STATE then s.managerState
  else if id = P.PIN_RESET_MAP then s.pinMap
  else if id = P.PIN_RESET_APPLIED then s.pinApplied
  else if id = P.READY_MAP then s.start.ready
  else if id = P.START_STAGE then s.startStage
  else if id = P.CLOCK_GOOD then (List.range 5).foldl (fun m r => setBit m r (SMap.get false s.start.clockGood r)) 0
  else if id = P.RESET_REQUEST ∨ id = P.LOCK_ADVANCE ∨ id = P.UPDATE_ABORT ∨ id = P.ACTIVATE ∨ id = P.CONFIRM ∨ id = P.INJECT ∨
    id = P.SWITCHOVER then 0
  else if id = P.TRIM_WALKING then s.trimWalking
  else if id = P.TEMP_MAX_LIFE then s.lifeMax
  else if id = P.STAGE_TIME then s.stageTime idx
  else if id = P.LOCK_STATE then lockCode s.lock
  else if id = P.SECURITY_FLOOR then s.security.floor
  else if id = P.ATTEST_INDEX then s.security.q
  else if id = P.ATTEST_REMAINING then 1048576 - s.security.q
  else if id = P.KEY_SLOT then s.keySlot idx
  else if id = P.DEBUG_STATE then s.debugState
  else if id = P.UPDATE_STATE then s.upd.st
  else if id = P.BLOCK_COUNT then s.blockCounts
  else if id = P.FLASH_USE then s.flashUse
  else if id = P.TIME_SOURCE then (if s.isTile then 4 else s.par P.TIME_SOURCE)
  else if id = P.TICK_RATE then s.rate
  else if id = P.TIME_NOW then time80 s.nowNs
  else if id = P.SERVO_STATE then s.time.servo
  else if id = P.FREQ_ADJ then unsigned 32 (s.time.freq / 16384)
  else if id = P.TICK_NOW then s.time.tick % 2 ^ 48
  else if id = P.TSQ_DEPTH then s.time.tsq.length
  else if id = P.T1S_STATUS then s.t1sStatus idx
  else if id = P.FIX_STATE then s.sealState BK.FIX 0
  else if id = P.TXN_STATE then s.od.pending.length * 16 + b2n s.od.txn.isSome
  else if id = P.PENDING_TXN then s.pendingTxn idx
  else if id = P.OD_T1S_ENABLE then (if s.isTile then 0 else s.par P.OD_T1S_ENABLE)
  else if id = P.AUTH_COUNTER then (s.key idx).counter
  else if id = P.LANE_USE then s.laneUse idx
  else if id = P.PASS_LATENCY then passPs (s.laneRunRate s.lane.portW)
  else if id = P.EPOCH ∧ s.isHead = true then s.sendEpoch
  else if id = P.CHAIN_L then s.chainL idx
  else if id = P.REDUNDANCY_MODE then b2n s.redMode
  else if id = P.PARTNER_VIEW then s.view * 4 + s.red.hb
  else if id = P.DP_LINK_STATUS then s.dpLinkStatus idx
  else if id = P.BUFFER_STATE then s.bufferState idx
  else if id = P.SENSOR_TEMP then (if s.sensorFresh idx then s.par id idx else 0x8000)
  else if id = P.STILL_GEOMETRY then (if s.par id idx = 0 then 0 else s.par id idx % 2 ^ 36 + 3 * 2 ^ 36)
  else if id = P.POLDER_STATE then s.polderState
  else if id = P.SHED_MASK then s.shedMask
  else if id = P.SPAN_LANES then s.spanLanes
  else if id = P.COEFF_STATE then s.sealState BK.COEFF 0
  else if id = P.MAP_STATE then s.sealState BK.MAP 0
  else if id = P.PROG_STATE then s.sealState BK.PROG idx
  else if id = P.PORT_STATE then s.portState idx
  else if id = P.SEQ_STATE then s.seqState idx
  else if id = P.ENGINE_LOAD then hundredths s.engineLoad
  else if id = P.REFRESH_DEBT then unsigned 8 (s.dChan idx).debt
  else if id = P.SOURCE_POOL then s.sourcePool / 65536 * 2 ^ 32 + (s.sourceBytes + 65535) / 65536
  else if id = P.ROW_THROTTLE then s.rowThrottle idx
  else if id = P.PASR_STATE then s.pasr
  else if id = P.COUNTER then s.counterNow idx
  else if id = P.COUNTER_FREEZE then b2n s.perf.frozen
  else s.par id idx

/-- One byte of a derived or stored BLOB or STR, at an offset within its stated size. -/
def State.readByte (s : State) (id idx off : Nat) : Byte :=
  let nat (n : Nat) : Byte := BitVec.ofNat 8 n
  if id = P.OPTION_RECORD then s.start.record.getD off 0
  else if id = P.EVENT_LOG then s.logByte off
  else if id = P.DELIVER_STATE then s.deliverState.getD off 0
  else if id = P.ROOT_KEY_HASH then s.security.rootHash.getD off 0
  else if id = P.SLOT_INFO then s.slotInfo.getD off 0
  else if id = P.BLOCK_MAP then s.blockMap.getD off 0
  else if id = P.MANIFEST then s.upd.manifest.getD off 0
  else if id = P.IMAGE_DATA then ((s.slot s.imageSlot).block (off / 4096)).getD (off % 4096) 0xFF
  else if id = P.FIX_DATA then nat ((s.bank BK.FIX (s.loadBank BK.FIX 0)).byte off)
  else if id = P.LEASE_HOLDER then (holderBytes s.od.holder).getD off 0
  else if id = P.STILL_DATA then nat (s.bufByte (srcKey 3 idx) (SMap.get 0 s.src.stillLoad idx) off)
  else if id = P.COEFF_DATA then nat ((s.bank BK.COEFF (s.loadBank BK.COEFF 0)).byte off)
  else if id = P.LEDGER then nat (SMap.get 0 s.tile.ledger (off / 4) / 256 ^ (off % 4))
  else if id = P.MAP_DATA then nat ((s.bank BK.MAP (s.loadBank BK.MAP 0)).byte off)
  else if id = P.PROG_DATA then nat ((s.bank BK.PROG idx).byte off)
  else if id = P.LAMP_STATUS then nat (s.lampWord (off / 2) / 256 ^ (off % 2))
  else if id = P.HEALTH_SUMMARY then s.healthSummary.getD off 0
  else if id = P.FAULT_LIST then
    match s.health.list[off / 4]? with
    | some (e : Nat × Nat) => nat ((e.2 * 2 ^ 30 + e.1) / 256 ^ (off % 4))
    | none => 0xFF
  else if id = P.LOOP_STATE then (s.loopState idx).getD off 0
  else if id = P.CISTERN_MAP then nat (s.cisternOwner off)
  else nat (s.blobByte id idx off)

/-- Length of a STR in force: its bytes without the zeros that end it (R83 names no terminator and no length). -/
def State.strLength (s : State) (id idx n : Nat) : Nat :=
  (List.range n).foldl (fun m i => if s.blobByte id idx i = 0 then m else i + 1) 0

end Sys2Proof.Machine
end

