-- ==== Sys2Proof/Machine/Od.lean ====
section
/-! DEFINITION. The object dictionary's service: framing, authentication, lease, order, items, transactions, and the response
(chapter 04; R464–R472; R539 for the order of the checks). -/

namespace Sys2Proof

/-- FLAGS[1]: the message is authenticated (R88). -/
def OdHead.authed (h : OdHead) : Bool := Machine.bit h.flags.toNat 1
/-- The request goes to every device and is not answered (R92). -/
def OdHead.broadcast (h : OdHead) : Bool := h.target.toNat % 4096 == 0xFFF
/-- Bytes of an item (R89). -/
def OdItem.size (i : OdItem) : Nat := 9 + i.value.length
/-- The parameter an item names. -/
def OdItem.id (i : OdItem) : Nat := i.area.toNat * 65536 + i.item.toNat

end Sys2Proof

namespace Sys2Proof.Machine

/-! Operations and status codes (R90, R91) -/

abbrev OP.READ : Nat := 1
abbrev OP.WRITE : Nat := 2
abbrev OP.TXN_OPEN : Nat := 3
abbrev OP.TXN_COMMIT : Nat := 4
abbrev OP.TXN_ABORT : Nat := 5
abbrev OP.TXN_CANCEL : Nat := 6
abbrev OP.LEASE_CLAIM : Nat := 7
abbrev OP.LEASE_RENEW : Nat := 8
abbrev OP.LEASE_RELEASE : Nat := 9
abbrev OP.EVENT : Nat := 0x20

abbrev ST.OK : Nat := 0
abbrev ST.UNKNOWN : Nat := 1
abbrev ST.INDEX : Nat := 2
abbrev ST.TYPE : Nat := 3
abbrev ST.RANGE : Nat := 4
abbrev ST.ACCESS : Nat := 5
abbrev ST.NO_LEASE : Nat := 6
abbrev ST.STALE_EPOCH : Nat := 7
abbrev ST.OUT_OF_ORDER : Nat := 8
abbrev ST.AUTH : Nat := 9
abbrev ST.REPLAY : Nat := 10
abbrev ST.TXN_STATE : Nat := 11
abbrev ST.TXN_FULL : Nat := 12
abbrev ST.BUSY : Nat := 13
abbrev ST.LATE : Nat := 14
abbrev ST.TIMEOUT : Nat := 15
abbrev ST.CONSISTENCY : Nat := 16
abbrev ST.NOT_READY : Nat := 17
abbrev ST.TOO_LONG : Nat := 18
abbrev ST.LOCKED : Nat := 19

/-- Operations whose Items column says None (R90, R91). -/
def noItems (op : Nat) : Bool := [3, 5, 7, 8, 9].contains op
/-- Operations of R90. -/
def knownOp (op : Nat) : Bool := decide (1 ≤ op ∧ op ≤ 9) || op == OP.EVENT

/-! Framing and addressing (R88, R92, R93) -/

/-- Bytes of the items and the tag, behind the header. -/
def bodySize (h : OdHead) (items : List OdItem) : Nat := (items.map OdItem.size).sum + (if h.authed then 16 else 0)

/-- The message passes R92. -/
def framed (h : OdHead) (items : List OdItem) : Bool :=
  h.version == 1 && h.length == h.received && decide (h.length ≤ 1400) && h.count == items.length &&
    h.length == 28 + bodySize h items && (!h.authed || h.tag.length == 16)

/-- An area that the boot ROM's minimal service answers (R87). -/
def minimalArea (area : Nat) : Bool := [0x00, 0x01, 0x02, 0x07, 0x0E].contains area

/-- The path is open to a message: OD_MIN answers; the GbE port, before MAC is set, serves OD_MIN parameters alone; a segment is
enabled for the dictionary in a head (R93, R107). -/
def State.pathOpen (s : State) (p : Path) (items : List OdItem) : Bool :=
  s.rdy B.OD_MIN && (match p with
    | .chain _ => true
    | .gbe _ _ => s.rdy B.MAC || items.all fun i => minimalArea i.area.toNat
    | .t1s n _ _ => s.isHead && s.rdy B.MAC && bit (s.par P.OD_T1S_ENABLE) n)

/-- The message is a request to this device; on the chain the control packet has decided (R88, R147; log entry 24). -/
def State.odTaken (s : State) (h : OdHead) (op : Nat) : Bool :=
  !bit h.flags.toNat 0 && (match h.path with | .chain _ => true | _ => op == OP.EVENT || s.idMatch h.target.toNat)

/-- The message from byte 0 up to its tag (R88, R89). -/
def msgBytes (h : OdHead) (op : Nat) (items : List OdItem) : List Byte :=
  [h.version] ++ leBytes 1 op ++ leBytes 2 h.length ++ leBytes 2 h.target.toNat ++ [h.flags] ++ [h.keyId] ++
    leBytes 4 h.epoch.toNat ++ leBytes 4 h.seq.toNat ++ leBytes 8 h.counter.toNat ++ leBytes 2 h.txn.toNat ++ leBytes 2 h.count ++
    items.flatMap fun (i : OdItem) =>
      leBytes 1 i.area.toNat ++ leBytes 2 i.item.toNat ++ leBytes 2 i.index.toNat ++ leBytes 1 i.ty.toNat ++ leBytes 1 0 ++
        leBytes 2 i.value.length ++ i.value

/-! Authority (R104–R106, R470, R472) -/

/-- The permission bit the table of R472 names for a parameter; `mode` is the MODE byte of a key load. -/
def listedPerm (id mode : Nat) : Option Nat :=
  if [P.DEVICE_ID, P.OPTION_OVERLAY, P.TILE_PORT_MAP, P.OD_UDP_PORT, P.OD_T1S_ENABLE, P.LEDGER_SLOTS].contains id then some 1
  else if [P.RESET_REQUEST, P.FORCE_STANDBY, P.SWITCHOVER, P.EPOCH_FLOOR, P.TIME_SET, P.PRBS_GEN, P.INJECT, P.LEDGER_STAGE,
    P.LEDGER_COMMAND, P.HEALTH_COMMAND].contains id then some 2
  else if id / 65536 = 7 then some 3
  else if id = P.LOCK_ADVANCE ∨ id = P.KEY_REVOKE ∨ (id = P.KEY_LOAD ∧ mode = 1) then some 4
  else if id = P.DEBUG_UNLOCK then some 5
  else if id = P.ATTEST_REQUEST then some 6
  else none

/-- The MODE byte of a key load, where the bytes written cover it. -/
def keyMode (v : List Byte) : Nat := if leNat (v.take 4) ≤ 2 then (v.getD (6 - leNat (v.take 4)) 0).toNat else 0

/-- The permission a write needs: the listed one, or CONFIG for an RWA or RWSA parameter. -/
def writePerm (i : OdItem) : Option Nat :=
  match listedPerm i.id (keyMode i.value) with
  | some p => some p
  | none => match findParam i.id with
    | some p => if p.acc == .rwa || p.acc == .rwsa || p.acc == .woa then some 1 else none
    | none => none

/-- A parameter that only an authenticated write to a transaction may change. -/
def rwsa (id : Nat) : Bool := match findParam id with | some p => p.acc == .rwsa | none => false
/-- A parameter that applies only at a latch. -/
def shadowed (id : Nat) : Bool := match findParam id with | some p => p.acc == .rws || p.acc == .rwsa | none => false

/-- The transaction a commit names holds an RWSA write. -/
def State.commitsRwsa (s : State) (num : Nat) : Bool :=
  match s.od.txn with
  | some t => t.num == num && t.writes.any fun w => rwsa w.id
  | none => false

/-- The message must be authenticated (R106). -/
def State.needsAuth (s : State) (h : OdHead) (op : Nat) (items : List OdItem) : Bool :=
  (op == OP.WRITE && items.any fun i => (writePerm i).isSome) || op == OP.LEASE_CLAIM ||
    (op == OP.TXN_COMMIT && s.commitsRwsa h.txn.toNat)

/-- Writes that need no lease (R470, R479). -/
def leaseFree (i : OdItem) : Bool := [P.KEY_LOAD, P.KEY_REVOKE, P.DEBUG_UNLOCK, P.ATTEST_REQUEST].contains i.id

/-- The operation needs the lease (R90). -/
def needsLease (op : Nat) (items : List OdItem) : Bool :=
  match op with
  | 2 => items.isEmpty || !items.all leaseFree
  | 3 | 4 | 5 | 6 | 8 | 9 => true
  | _ => false

/-- A refusal with status AUTH is reported with its cause (R104). -/
def State.authRefused (s : State) (h : OdHead) (cause : Nat) : State := s.raise E.AUTH_FAILED h.keyId.toNat cause

/-- Step 2 of R539: the cause of a refusal, if any.  A KEY_ID above 7, which names no slot, counts as an empty one (DESIGN CHOICE,
log entry 24). -/
def State.tagCause (s : State) (h : OdHead) (op : Nat) (items : List OdItem) : Option Nat :=
  if h.authed then
    let k := s.key h.keyId.toNat
    if 8 ≤ h.keyId.toNat ∨ k.loaded = false then some 1
    else if bytesAt (hmac k.key (msgBytes h op items)) 0 16 ≠ h.tag then some 0 else none
  else if s.needsAuth h op items then some 4 else none

/-- Steps 4 to 6 of R539: the status of a refusal, if any. -/
def State.orderStatus (s : State) (h : OdHead) (op : Nat) (items : List OdItem) : Option Nat :=
  let k := s.key h.keyId.toNat
  let held := s.od.holder == some h.path
  let stale : Bool := match h.path with | .chain _ => h.epoch != h.packetEpoch | _ => false
  if h.authed ∧ k.spent then some ST.AUTH
  else if h.authed ∧ h.counter.toNat ≤ k.counter then some ST.REPLAY
  else if op = OP.READ then none
  else if op = OP.LEASE_CLAIM then
    if stale || !(decide (s.par P.LEASE_EPOCH < h.epoch.toNat) ||
      (s.od.holder.isNone && decide (s.par P.LEASE_EPOCH ≤ h.epoch.toNat))) then some ST.STALE_EPOCH else none
  else if needsLease op items && !held then some ST.NO_LEASE
  else if stale then some ST.STALE_EPOCH
  else if !held then none
  else if h.epoch.toNat ≠ s.par P.LEASE_EPOCH then some ST.STALE_EPOCH
  else if h.seq.toNat ≠ (s.par P.LEASE_SEQ + 1) % 2 ^ 32 then some ST.OUT_OF_ORDER
  else none

/-- An accepted counter is recorded before the message acts; the last one spends the key (R105). -/
def State.acceptCounter (s : State) (h : OdHead) : State :=
  if !h.authed then s
  else
    let n := h.keyId.toNat
    let last := h.counter.toNat == 2 ^ 64 - 1
    (s.setKey n { s.key n with counter := h.counter.toNat, spent := last }).raiseIf last E.KEY_COUNTER_SPENT n

/-! Checks of an item (R83–R91, R538) -/

/-- The ready bit an area answers from, none for an area R87 does not list for the role (R86, R87). -/
def areaBit (tile : Bool) (area : Nat) : Option Nat :=
  if minimalArea area then some B.OD_MIN
  else if area = 0x22 then some (if tile then B.CORRECTION else B.FW)
  else if area = 0x2C then some B.PUMP
  else if [0x03, 0x04, 0x05, 0x06, 0x08, 0x09, 0x0A, 0x0B, 0x0C, 0x10, 0x11, 0x12, 0x18, 0x20, 0x21, 0x28, 0x29, 0x2A, 0x2B,
    0x30, 0x31, 0x38].contains area then some B.FW
  else none

/-- Elements a parameter has in the role; a device without a role counts what either role has. -/
def State.elements (s : State) (p : Param) : Nat :=
  match s.start.role with | .head => p.head | .tile => p.tile | .none => max p.head p.tile

/-- What an item names: its parameter, or the status that refuses it (R86, R91, R111). -/
def State.lookup (s : State) (i : OdItem) : Nat ⊕ Param :=
  if i.area = 0x3F then .inl (if s.debugOpen then ST.UNKNOWN else ST.LOCKED)
  else match areaBit s.isTile i.area.toNat, findParam i.id with
    | some b, some p =>
      if s.elements p = 0 then .inl ST.UNKNOWN
      else if !s.rdy b then .inl ST.NOT_READY
      else if p.arr then (if s.elements p ≤ i.index.toNat then .inl ST.INDEX else .inr p)
      else if i.index = 0xFFFF then .inr p else .inl ST.INDEX
    | _, _ => .inl ST.UNKNOWN

/-- The element an item names. -/
def elemOf (p : Param) (i : OdItem) : Nat := if p.arr then i.index.toNat else 0

/-- Bytes from `n` on continue a UTF-8 character of `k` more bytes. -/
def utf8 : Nat → List Byte → Bool
  | 0, [] => true
  | _ + 1, [] => false
  | 0, b :: bs =>
    if b.toNat < 0x80 then utf8 0 bs
    else if 0xC2 ≤ b.toNat ∧ b.toNat ≤ 0xDF then utf8 1 bs
    else if 0xE0 ≤ b.toNat ∧ b.toNat ≤ 0xEF then
      let c := (bs.getD 0 0).toNat
      !(b == 0xE0 && decide (c < 0xA0)) && !(b == 0xED && decide (0xA0 ≤ c)) && utf8 2 bs
    else if 0xF0 ≤ b.toNat ∧ b.toNat ≤ 0xF4 then
      let c := (bs.getD 0 0).toNat
      !(b == 0xF0 && decide (c < 0x90)) && !(b == 0xF4 && decide (0x90 ≤ c)) && utf8 3 bs
    else false
  | k + 1, b :: bs => 0x80 ≤ b.toNat && b.toNat < 0xC0 && utf8 k bs

/-- Encoding and range of a written value (R83, R538). -/
def valueStatus (p : Param) (v : List Byte) : Nat :=
  match p.ty with
  | .str n =>
    if v.length < 4 then ST.TYPE else if n < leNat (v.take 4) + (v.length - 4) then ST.RANGE
    else if utf8 0 (v.drop 4) then ST.OK else ST.TYPE
  | .blob n => if v.length < 4 then ST.TYPE else if n < leNat (v.take 4) + (v.length - 4) then ST.RANGE else ST.OK
  | .bool => if v.length ≠ 1 ∨ 1 < leNat v then ST.TYPE else ST.OK
  | .time80 => if v.length ≠ 10 ∨ 1000000000 ≤ leNat (v.drop 6) then ST.TYPE else if p.rng.ok (leNat v) then ST.OK else ST.RANGE
  | t => if v.length ≠ t.width then ST.TYPE else if p.rng.ok (leNat v) then ST.OK else ST.RANGE

/-- Checks a rule adds for one parameter when a write arrives; `t` holds what the open transaction would leave in force. -/
def State.arrivalStatus (s t : State) (id idx : Nat) (v : List Byte) : Nat :=
  let n := leNat v
  if id = P.LANE_USE then (if s.isTile ∨ (n / 16 = 4 ∧ 16 ≤ idx) then ST.RANGE else ST.OK)
  else if id = P.LANE_RATE then (if s.isTile = false ∧ n = 3 then ST.RANGE else ST.OK)
  else if id = P.REDUNDANCY_MODE then
    (if s.isTile = false then ST.OK else if s.paired then ST.ACCESS else if n = 1 then ST.RANGE else ST.OK)
  else if id = P.TIME_SOURCE ∨ id = P.TICK_RATE then (if s.isTile then ST.ACCESS else ST.OK)
  else if id = P.EXPANSION_LUT then (if t.par P.TILE_FORMAT / 16 = 0 then ST.ACCESS else ST.OK)
  else if id = P.HEALTH_COMMAND then
    (if t.lampCount < field n 0 21 + field n 32 21 then ST.RANGE else ST.OK)
  else if id = P.LEDGER_SLOTS then (if (t.setPar P.LEDGER_SLOTS 0 n).storeFits then ST.OK else ST.RANGE)
  else ST.OK

/-- A parameter that the role holds as read-only refuses before its value is looked at (R538). -/
def State.readOnly (s : State) (p : Param) : Bool :=
  p.acc == .ro || (s.isTile && (p.id == P.TIME_SOURCE || p.id == P.TICK_RATE)) || (s.isPairedTile && p.id == P.REDUNDANCY_MODE)

/-- Status of a write item before its effect: existence, class, type, encoding, range. -/
def State.writeStatus (s t : State) (i : OdItem) : Nat :=
  match s.lookup i with
  | .inl st => st
  | .inr p =>
    if s.readOnly p then ST.ACCESS
    else if i.ty.toNat ≠ p.ty.code then ST.TYPE
    else if valueStatus p i.value ≠ ST.OK then valueStatus p i.value
    else s.arrivalStatus t p.id (elemOf p i) i.value

/-! Reads (R84, R89, R97) -/

/-- What a read item yields: a status, a scalar's bytes, or a byte string's element, offset and bytes on hand. -/
inductive ReadOut where
  | refused (st : Nat)
  | scalar (bytes : List Byte)
  | string (id idx off left : Nat)

/-- Judgement of a read item.  A byte string's offset beyond its stated size gives RANGE, and a scalar's item that carries a value, or
a byte string's whose value is not the 4-byte offset, gives TYPE; R89 names no status (DESIGN CHOICE, log entry 24). -/
def State.readItem (s t : State) (i : OdItem) : ReadOut :=
  match s.lookup i with
  | .inl st => .refused st
  | .inr p =>
    if p.acc == .wo || p.acc == .woa then .refused ST.ACCESS
    else if i.ty.toNat ≠ p.ty.code then .refused ST.TYPE
    else match p.ty.size with
      | none => if i.value.isEmpty then .scalar (leBytes p.ty.width (t.readPar p.id (elemOf p i))) else .refused ST.TYPE
      | some n =>
        let off := leNat i.value
        if i.value.length ≠ 4 then .refused ST.TYPE
        else if n < off then .refused ST.RANGE
        else
          let top := match p.ty with | .str _ => t.strLength p.id (elemOf p i) n | _ => n
          .string p.id (elemOf p i) off (top - off)

/-- Bytes of a read's response that do not depend on the room left. -/
def ReadOut.fixed : ReadOut → Nat
  | .refused _ => 9
  | .scalar b => 9 + b.length
  | .string _ _ _ _ => 13

/-- Response items of a READ; byte strings take what room is left, in order (R89). -/
def State.readItems (t : State) (room : Nat) : List (OdItem × ReadOut) → List RespItem
  | [] => []
  | (i, r) :: rest =>
    let mk (st : Nat) (v : List Byte) : RespItem :=
      { area := i.area.toNat, item := i.item.toNat, index := i.index.toNat, ty := i.ty.toNat, status := st, value := v }
    match r with
    | .refused st => mk st [] :: State.readItems t room rest
    | .scalar b => mk ST.OK b :: State.readItems t room rest
    | .string id idx off left =>
      let n := min left room
      mk ST.OK (leBytes 4 off ++ (List.range n).map fun j => t.readByte id idx (off + j)) :: State.readItems t (room - n) rest

/-! Responses (R91) -/

/-- One status item (R91). -/
def statusItem (st : Nat) : RespItem := { area := 0x0E, item := 0, index := 0xFFFF, ty := 0, status := st, value := [] }

/-- The request's items with their statuses and no values; a status item where the operation carries none, and also where a READ,
WRITE, TXN_COMMIT or TXN_CANCEL came without its items, for which R91 names no form (DESIGN CHOICE, log entry 24). -/
def statusItems (op : Nat) (items : List OdItem) (sts : List Nat) : List RespItem :=
  if noItems op || !knownOp op || items.isEmpty then [statusItem (sts.headD 0)]
  else (items.zip sts).map fun (e : OdItem × Nat) =>
    { area := e.1.area.toNat, item := e.1.item.toNat, index := e.1.index.toNat, ty := e.1.ty.toNat, status := e.2, value := [] }

/-- Every item carries one status. -/
def allItems (op : Nat) (items : List OdItem) (st : Nat) : List RespItem := statusItems op items (items.map fun _ => st) |>.map fun r =>
  { r with status := st }

/-- Bytes of a response. -/
def Resp.size (r : Resp) : Nat := 28 + (r.items.map fun (i : RespItem) => 9 + i.value.length).sum

/-- A response leaves by the path its request came by (R93). -/
def State.respond (s : State) (p : Path) (r : Resp) : State :=
  let s := match p with | .gbe _ _ => s.macPush 0 .od | .t1s g _ _ => s.macPush (g + 1) .od | .chain _ => s
  s.sendOn p r.size s.chain.posReq (.resp p r)

/-! The transaction of a message (R97–R102) -/

/-- The open transaction is discarded by its timeout (R101). -/
def State.txnTimeout (s : State) : State :=
  match s.od.txn with
  | some t => { s with od := { s.od with txn := none, timedOut := some t.num } }.raise E.TXN_TIMEOUT
  | none => s

/-- What has run out by this cycle of the Control region's clock ends before a message of this cycle is looked at (R27, R29, R96,
R101). -/
def State.odDue (s : State) : State :=
  let s := if s.od.holder.isSome && decide (s.od.lastMsg + s.par P.LEASE_TIME * (controlSec / 1000) ≤ s.controlNow) then s.leaseFree else s
  match s.od.txn with
  | some t => if t.openedAt + 2 * controlSec ≤ s.controlNow then s.txnTimeout else s
  | none => s

/-- Status for a number that names no open transaction (R101). -/
def State.noTxn (s : State) (num : Nat) : Nat := if s.od.timedOut = some num then ST.TIMEOUT else ST.TXN_STATE

/-- The open transaction, when the number names it. -/
def State.openTxn (s : State) (num : Nat) : Option OpenTxn :=
  match s.od.txn with | some t => if t.num = num then some t else none | none => none

/-- The writes of the open transaction. -/
def State.openWrites (s : State) : List Write := match s.od.txn with | some t => t.writes | none => []

/-! Items of a WRITE -/

/-- The state of a WRITE as its items are judged: what they would leave in force, what their refusals report, statuses and
writes so far, newest first. -/
structure WriteRun where
  scratch : State
  base : State
  sts : List Nat := []
  writes : List Write := []

/-- One item: permission, checks, effect (R539 step 7). -/
def WriteRun.item (r : WriteRun) (h : OdHead) (flashOk : Bool) (i : OdItem) : WriteRun :=
  let k := r.base.key h.keyId.toNat
  let allowed := match writePerm i with | some p => !h.authed || bit k.perms p | none => true
  let idx := match findParam i.id with | some p => elemOf p i | none => 0
  let gbe := match h.path with | .gbe _ _ => true | _ => false
  let auth := if h.authed then some (h.keyId.toNat, h.counter.toNat) else none
  let w : Write := { id := i.id, index := idx, value := i.value, by_ := auth, gbe := gbe }
  if !allowed then { r with base := r.base.authRefused h 2, sts := ST.AUTH :: r.sts }
  else
    let st := r.base.writeStatus r.scratch i
    if st ≠ ST.OK then { r with sts := st :: r.sts }
    else
      let c : WriteCtx := { by_ := auth, gbe := gbe, flashOk := flashOk }
      match r.scratch.writeEffect c i.id idx i.value with
      | (0, t) => { r with scratch := t, sts := ST.OK :: r.sts, writes := w :: r.writes }
      | (st, _) => { r with base := (match r.base.writeEffect c i.id idx i.value with | (0, _) => r.base | (_, t) => t), sts := st :: r.sts }

/-- Outcome of an operation: statuses by item, state, the item a refusal names, and the response's items where they are not
plain statuses. -/
structure Done where
  state : State
  sts : List Nat
  named : Option Nat := none
  items : Option (List RespItem) := none

/-- WRITE: all items or none (R91, R97, R98, R100). -/
def State.odWrite (s : State) (h : OdHead) (items : List OdItem) (flashOk : Bool) : Done :=
  let num := h.txn.toNat
  let start : WriteRun := { scratch := if num = 0 then s else s.shadow s.openWrites, base := s }
  let r := items.foldl (fun (r : WriteRun) i => r.item h flashOk i) start
  let sts := r.sts.reverse
  let ws := r.writes.reverse
  let all (st : Nat) : Done := { state := r.base, sts := if items.isEmpty then [st] else items.map fun _ => st }
  if sts.any (· ≠ ST.OK) then { state := if sts.contains ST.AUTH then r.base else r.base.acceptCounter h, sts := sts }
  else
    let s := s.acceptCounter h
    if num = 0 then
      if ws.any fun w => shadowed w.id then
        match s.commitRefused ws 0 false with
        | some (st, i) => { all st with state := s, named := some i }
        | none => { state := s.commit 0 ws 0, sts := sts }
      else
        let done := ws.foldl (fun (s : State) (w : Write) => (s.writeEffect { by_ := w.by_, gbe := w.gbe, flashOk := flashOk } w.id w.index w.value).2) s
        { state := done, sts := sts }
    else match s.openTxn num with
      | none => { all (s.noTxn num) with state := s }
      | some t =>
        if 256 < t.writes.length + ws.length then
          { state := s, sts := (List.range ws.length).map fun i => if t.writes.length + i < 256 then ST.OK else ST.TXN_FULL }
        else { state := { s with od := { s.od with txn := some { t with writes := t.writes ++ ws } } }, sts := sts }

/-- READ: each item's value or status (R89, R91, R97). -/
def State.odRead (s : State) (h : OdHead) (items : List OdItem) : Done :=
  let sh := s.shadow s.openWrites
  let touched (i : OdItem) : Bool := bit h.flags.toNat 3 && s.openWrites.any fun w => w.id == i.id && (w.index == i.index.toNat || i.index == 0xFFFF)
  let outs := items.map fun i => (i, s.readItem (if touched i then sh else s) i)
  let size := 28 + (outs.map fun e => e.2.fixed).sum
  if 1400 < size then { state := s, sts := items.map fun _ => ST.TOO_LONG }
  else
    let room := 1400 - size
    let from_ := if bit h.flags.toNat 3 then sh else s
    let sts := outs.map fun e => match e.2 with | .refused st => st | _ => ST.OK
    { state := s, sts := sts, items := some (from_.readItems room outs) }

/-- TXN_COMMIT (R90, R99). -/
def State.odCommit (s : State) (h : OdHead) (items : List OdItem) : Done :=
  if items.length = 1 ∧ s.commitsRwsa h.txn.toNat = true ∧ bit (s.key h.keyId.toNat).perms 1 = false then
    { state := s.authRefused h 2, sts := [ST.AUTH] }
  else
    let s := s.acceptCounter h
    let bad (st : Nat) : Done := { state := s, sts := items.map fun _ => st }
    match items with
    | [i] =>
      if i.id ≠ P.TXN_TARGET_TICK ∨ i.ty ≠ 6 then bad ST.TYPE
      else if i.index ≠ 0xFFFF then bad ST.INDEX
      else if i.value.length ≠ 8 then bad ST.TYPE
      else if 2 ^ 48 ≤ leNat i.value then bad ST.RANGE
      else match s.openTxn h.txn.toNat with
        | none => bad (s.noTxn h.txn.toNat)
        | some t =>
          let target := if leNat i.value = 0 then 0 else max 1 (nearTick s.time.tick (leNat i.value))
          match s.commitRefused t.writes target (bit h.flags.toNat 2) with
          | some (st, n) => { state := s, sts := [st], named := some n }
          | none =>
            let s := { s with od := { s.od with txn := none } }.commit t.num t.writes target
            { state := s, sts := [ST.OK]
              items := some [{ area := 0x0E, item := 2, index := 0xFFFF, ty := 6, status := ST.OK
                               value := leBytes 8 (s.par P.APPLIED_TICK) }] }
    | _ => { bad ST.TYPE with sts := if items.isEmpty then [ST.TYPE] else items.map fun _ => ST.TYPE }

/-- TXN_CANCEL: the named pending transaction and every later one are discarded, unless its latch has come (R102). -/
def State.odCancel (s : State) (items : List OdItem) : Done :=
  let bad (st : Nat) : Done := { state := s, sts := items.map fun _ => st }
  match items with
  | [i] =>
    if i.id ≠ P.APPLIED_TXN ∨ i.ty ≠ 3 ∨ i.value.length ≠ 2 then bad ST.TYPE
    else if i.index ≠ 0xFFFF then bad ST.INDEX
    else match s.od.pending.findIdx? fun (p : PendTxn) => p.num == leNat i.value with
      | none => bad ST.TXN_STATE
      | some n =>
        if (s.od.pending.getD n { num := 0, tick := 0, at_ := 0, writes := [] }).tick < s.earliestTick then bad ST.TXN_STATE
        else { state := ({ s with od := { s.od with pending := s.od.pending.take n } }).polderCancel, sts := [ST.OK] }
  | _ => { bad ST.TYPE with sts := if items.isEmpty then [ST.TYPE] else items.map fun _ => ST.TYPE }

/-- TXN_OPEN and TXN_ABORT (R90, R97, R101, R102). -/
def State.odOpen (s : State) (h : OdHead) : Nat × State :=
  if h.txn = 0 then (ST.RANGE, s)
  else if s.od.txn.isSome then (ST.TXN_STATE, s)
  else (ST.OK, { s with od := { s.od with txn := some { num := h.txn.toNat, openedAt := s.controlNow, writes := [] }, timedOut := none } })

def State.odAbort (s : State) (h : OdHead) : Nat × State :=
  match s.openTxn h.txn.toNat with
  | none => (s.noTxn h.txn.toNat, s)
  | some _ => (ST.OK, { s with od := { s.od with txn := none } })

/-- LEASE_CLAIM: the lease is granted (R94); a manager's claim over the chain tells an enabled head of it (R6, log entry 10). -/
def State.odClaim (s : State) (h : OdHead) : State :=
  let s := { s with od := { s.od with holder := some h.path, txn := none } }
  let s := (s.setPar P.LEASE_EPOCH 0 h.epoch.toNat).raise E.LEASE_CHANGED
  let s := (s.seeEpoch h.epoch.toNat).syncEval
  match h.path with
  | .chain src =>
    let other := s.isHead && src.val != s.par P.DEVICE_ID && src.val != s.par P.PARTNER_ID
    ({ s with red := { s.red with otherManager := if other then some src.val else none } }).managerEval
  | _ => ({ s with red := { s.red with otherManager := none } }).managerEval

/-- EVENT: an acting manager keeps the records it does not hold yet (R513, R514). -/
def State.odEvent (s : State) (h : OdHead) (items : List OdItem) : Done :=
  if !s.red.manager then { state := s, sts := items.map fun _ => ST.UNKNOWN }
  else
    let from_ := h.target.toNat % 4096
    let s := items.foldl (fun (s : State) i =>
      let r := i.value.drop 4
      if s.ev.received.any fun (e : Nat × List Byte) => e.1 == from_ && e.2.take 4 == r.take 4 then s
      else { s with ev := { s.ev with received := s.ev.received ++ [(from_, r)] } }) s
    { state := s, sts := items.map fun _ => ST.OK }

/-- Step 7 of R539: the operation itself. -/
def State.odAct (s : State) (h : OdHead) (op : Nat) (items : List OdItem) (flashOk : Bool) : Done :=
  let one (r : Nat × State) : Done := { state := r.2, sts := [r.1] }
  if op = OP.WRITE then s.odWrite h items flashOk
  else if op = OP.TXN_COMMIT then s.odCommit h items
  else if op = OP.LEASE_CLAIM && !bit (s.key h.keyId.toNat).perms 0 then one (ST.AUTH, s.authRefused h 2)
  else
    let s := s.acceptCounter h
    if noItems op && !items.isEmpty then one (ST.TYPE, s)
    else match op with
      | 1 => s.odRead h items
      | 3 => one (s.odOpen h)
      | 5 => one (s.odAbort h)
      | 6 => s.odCancel items
      | 7 => one (ST.OK, s.odClaim h)
      | 8 | 9 => one (ST.OK, s)
      | 0x20 => s.odEvent h items
      | _ => one (ST.UNKNOWN, s)

/-! The service -/

/-- A refusal shows in `LAST_REFUSAL`, is counted, and a broadcast one raises EV 611 (R92, R107, R498). -/
def State.odRefused (s : State) (h : OdHead) (op : Nat) (sts : List Nat) (named : Option Nat) : State :=
  match sts.findIdx? (· ≠ ST.OK) with
  | none => s
  | some i =>
    let s := s.setPar P.LAST_REFUSAL 0 (op * 2 ^ 24 + sts.getD i 0 * 65536 + named.getD i % 65536)
    let s := s.count 4 (sts.filter (· ≠ ST.OK)).length
    s.raiseIf (h.broadcast && op != OP.READ) E.OD_REFUSED

/-- An accepted message of the holder renews the lease and, but for a READ, advances SEQ (R95, R96). -/
def State.odAccepted (s : State) (h : OdHead) (op : Nat) (r : Resp) : State :=
  let s := s.count 3
  if s.od.holder ≠ some h.path then s
  else
    let s := { s with od := { s.od with lastMsg := s.controlNow } }
    if op = OP.READ then s
    else
      let s := s.setPar P.LEASE_SEQ 0 h.seq.toNat
      { s with od := { s.od with lastCounter := if h.authed then some h.counter.toNat else none, lastResp := some r } }

/-- What a message leaves to be done at once: the reset of an abort, the start of an image that has become complete
(R490, R491, R493). -/
def State.odAfter (s : State) : State := s.bootIfDue.abortReset

/-- The response is sent, or held back while the fuses it reports burn (R92, R465). -/
def State.odAnswer (s : State) (h : OdHead) (r : Resp) (hold : Bool) : State :=
  if h.broadcast then s
  else if hold then { s with security := { s.security with answer := some (h.path, r) } }
  else s.respond h.path r

/-- The whole of R539 behind framing. -/
def State.odServe (s : State) (h : OdHead) (op : Nat) (items : List OdItem) (flashOk : Bool) : State :=
  let whole (s : State) (st : Nat) : State :=
    let r : Resp := { op := op, seq := h.seq.toNat, txn := h.txn.toNat, items := allItems op items st }
    (s.odRefused h op [st] none).odAnswer h r false
  match s.tagCause h op items with
  | some c => whole (s.authRefused h c) ST.AUTH
  | none =>
    let same : Bool := s.od.lastCounter == some h.counter.toNat
    let retry := op != OP.READ && s.od.holder == some h.path && h.seq.toNat == s.par P.LEASE_SEQ &&
      (!h.authed || same) && s.od.lastResp.isSome
    match retry, s.od.lastResp with
    | true, some r => s.odAnswer h r false
    | _, _ =>
      match s.orderStatus h op items with
      | some st =>
        let s := if st = ST.AUTH then s.authRefused h 3 else if st = ST.REPLAY then s.raise E.REPLAY_REFUSED h.keyId.toNat else s
        whole s st
      | none =>
        let burning := s.security.burning.isSome
        let d := s.odAct h op items flashOk
        let r : Resp := { op := op, seq := h.seq.toNat, txn := h.txn.toNat, items := d.items.getD (statusItems op items d.sts) }
        let ok := knownOp op && d.sts.all (· == ST.OK)
        let s := d.state.odRefused h op d.sts d.named
        let s := if ok then s.odAccepted h op r else s
        let s := s.odAnswer h r (!burning && s.security.burning.isSome)
        let s := if ok && op == OP.LEASE_RELEASE then s.leaseFree else s
        s.odAfter

/-- Place of a path in the order of R96. -/
def pathRank : Path → Nat
  | .chain _ => 0
  | .gbe _ _ => 1
  | .t1s n _ _ => 2 + n.val

/-- Claims of one cycle come in path order; a claim cannot come behind one of a later path in its cycle (R96, log entry 24). -/
def State.claimOutOfOrder (s : State) (h : OdHead) (op : Nat) : Bool :=
  op == OP.LEASE_CLAIM && (match s.od.claimAt with | some (t, r) => t == s.controlNow && decide (pathRank h.path < r) | none => false)

/-- The cycle and the path of the latest claim (R96). -/
def State.noteClaim (s : State) (h : OdHead) (op : Nat) : State :=
  if op = OP.LEASE_CLAIM then { s with od := { s.od with claimAt := some (s.controlNow, pathRank h.path) } } else s

/-- A head's control packet whose EPOCH is below E_t brings nothing to a tile's dictionary (R184). -/
def State.odStale (s : State) (h : OdHead) : Bool :=
  match h.path with | .chain _ => !s.isHead && decide (h.packetEpoch.toNat < s.par P.EPOCH) | _ => false

/-- A message has its turn: authenticated ones are carried out one at a time, in arrival order, and wait while lock-advance fuses
burn (R465, R471). -/
def State.odTurn (s : State) (h : OdHead) (op : Nat) (items : List OdItem) (flashOk : Bool) : State :=
  if h.authed && s.security.burning.isSome then { s with od := { s.od with waiting := s.od.waiting ++ [(h, op, items, flashOk)] } }
  else (s.odDue.noteClaim h op).odServe h op items flashOk

/-- LOCK_BURN_COMPLETE: the new state acts, the write is answered, and the messages that waited have their turn (R465, R471). -/
def execLockBurnComplete (s : State) : Res := .next <|
  if s.security.burning.isNone then s
  else
    let l := s.od.waiting
    let s := { s.burnDone with od := { s.od with waiting := [] } }
    s.each l fun s m => s.odTurn m.1 m.2.1 m.2.2.1 m.2.2.2

/-- A message of the object dictionary arrives (R184, R539). -/
def State.odMessage (s : State) (h : OdHead) (op : Nat) (items : List OdItem) (flashOk : Bool := true) : State :=
  if !s.pathOpen h.path items then s
  else if !framed h items then s.bump P.MALFORMED_COUNT
  else if !s.odTaken h op || s.claimOutOfOrder h op then s
  else if s.odStale h then s.dropStale
  else s.odTurn h op items flashOk

/-! The lease's and the transaction's clocks -/

/-- LEASE_LAPSE: LEASE_TIME has passed without an accepted message from the holder (R96). -/
def execLeaseLapse (s : State) : Res := .next s.leaseFree

/-- TRANSACTION_TIMEOUT_EXPIRY: 2 s have passed since TXN_OPEN (R101). -/
def execTransactionTimeoutExpiry (s : State) : Res := .next s.txnTimeout

end Sys2Proof.Machine
end

