-- ==== Sys2Proof/Machine/OdCommands.lean ====
section
/-! DEFINITION. The commands that are messages of the object dictionary: the operations of R90, and the writes the table lists
by themselves.  Each of those is a WRITE of one item and passes every check of R539 as any other write does. -/

namespace Sys2Proof.Machine

/-- A message whose one item writes `v` to a scalar element. -/
def State.odNum (s : State) (h : OdHead) (id idx ty width v : Nat) : State :=
  s.odMessage h OP.WRITE [{ area := BitVec.ofNat 8 (id / 65536), item := BitVec.ofNat 16 id, index := BitVec.ofNat 16 idx
                            ty := BitVec.ofNat 8 ty, value := leBytes width v }]

/-- A message whose one item writes bytes from an offset to a BLOB element. -/
def State.odBlob (s : State) (h : OdHead) (id idx off : Nat) (data : List Byte) (flashOk : Bool := true) : State :=
  s.odMessage h OP.WRITE [{ area := BitVec.ofNat 8 (id / 65536), item := BitVec.ofNat 16 id, index := BitVec.ofNat 16 idx
                            ty := 14, value := leBytes 4 off ++ data }] flashOk

/-- INDEX of a parameter that is not an array. -/
abbrev noIndex : Nat := 0xFFFF

/-! The operations (R90) -/

/-- READ (R89). -/
def execRead (h : OdHead) (items : List OdItem) (s : State) : Res := .next (s.odMessage h OP.READ items)
/-- WRITE (R100). -/
def execWrite (h : OdHead) (items : List OdItem) (s : State) : Res := .next (s.odMessage h OP.WRITE items)
/-- TXN_OPEN (R97). -/
def execTxnOpen (h : OdHead) (items : List OdItem) (s : State) : Res := .next (s.odMessage h OP.TXN_OPEN items)
/-- TXN_COMMIT (R99). -/
def execTxnCommit (h : OdHead) (items : List OdItem) (s : State) : Res := .next (s.odMessage h OP.TXN_COMMIT items)
/-- TXN_ABORT (R102). -/
def execTxnAbort (h : OdHead) (items : List OdItem) (s : State) : Res := .next (s.odMessage h OP.TXN_ABORT items)
/-- TXN_CANCEL (R102). -/
def execTxnCancel (h : OdHead) (items : List OdItem) (s : State) : Res := .next (s.odMessage h OP.TXN_CANCEL items)
/-- LEASE_CLAIM (R94). -/
def execLeaseClaim (h : OdHead) (items : List OdItem) (s : State) : Res := .next (s.odMessage h OP.LEASE_CLAIM items)
/-- LEASE_RENEW (R96). -/
def execLeaseRenew (h : OdHead) (items : List OdItem) (s : State) : Res := .next (s.odMessage h OP.LEASE_RENEW items)
/-- LEASE_RELEASE (R96). -/
def execLeaseRelease (h : OdHead) (items : List OdItem) (s : State) : Res := .next (s.odMessage h OP.LEASE_RELEASE items)
/-- EVENT (R513, R514). -/
def execEvent (h : OdHead) (items : List OdItem) (s : State) : Res := .next (s.odMessage h OP.EVENT items)
/-- UNKNOWN_OP: an OP that R90 does not list. -/
def execUnknownOp (h : OdHead) (o : BitVec 8) (items : List OdItem) (s : State) : Res :=
  .next (if knownOp o.toNat then s else s.odMessage h o.toNat items)

/-! Start and options (R59, R73) -/

def execResetRequestShort (h : OdHead) (s : State) : Res := .next (s.odNum h P.RESET_REQUEST noIndex 2 1 1)
def execResetRequestLong (h : OdHead) (s : State) : Res := .next (s.odNum h P.RESET_REQUEST noIndex 2 1 2)
def execOptionOverlay (h : OdHead) (off : Nat) (data : List Byte) (s : State) : Res := .next (s.odBlob h P.OPTION_OVERLAY noIndex off data)

/-! Banks, maps and programs (R295, R312, R343, R388) -/

def execCoeffData (h : OdHead) (off : Nat) (data : List Byte) (s : State) : Res := .next (s.odBlob h P.COEFF_DATA noIndex off data)
def execCoeffSeal (h : OdHead) (v : BitVec 32) (s : State) : Res := .next (s.odNum h P.COEFF_SEAL noIndex 5 4 v.toNat)
def execMapData (h : OdHead) (off : Nat) (data : List Byte) (s : State) : Res := .next (s.odBlob h P.MAP_DATA noIndex off data)
def execMapSeal (h : OdHead) (v : BitVec 32) (s : State) : Res := .next (s.odNum h P.MAP_SEAL noIndex 5 4 v.toNat)
def execProgData (h : OdHead) (i : Fin 8) (off : Nat) (data : List Byte) (s : State) : Res := .next (s.odBlob h P.PROG_DATA i off data)
def execProgSeal (h : OdHead) (i : Fin 8) (v : BitVec 32) (s : State) : Res := .next (s.odNum h P.PROG_SEAL i 5 4 v.toNat)
def execFixData (h : OdHead) (off : Nat) (data : List Byte) (s : State) : Res := .next (s.odBlob h P.FIX_DATA noIndex off data)
def execFixSeal (h : OdHead) (v : BitVec 32) (s : State) : Res := .next (s.odNum h P.FIX_SEAL noIndex 5 4 v.toNat)
def execOscReset (h : OdHead) (bits : BitVec 16) (s : State) : Res := .next (s.odNum h P.OSC_RESET noIndex 3 2 bits.toNat)

/-! Lanes (R127–R131) -/

def execEyeScanStart (h : OdHead) (ctrl : BitVec 32) (s : State) : Res := .next (s.odNum h P.EYE_SCAN_CTRL noIndex 5 4 ctrl.toNat)
def execPrbsGen (h : OdHead) (n : Fin 32) (code : BitVec 8) (s : State) : Res := .next (s.odNum h P.PRBS_GEN n 2 1 code.toNat)
def execPrbsChk (h : OdHead) (n : Fin 32) (code : BitVec 8) (s : State) : Res := .next (s.odNum h P.PRBS_CHK n 2 1 code.toNat)
def execInject (h : OdHead) (n : Fin 32) (bits : BitVec 8) (s : State) : Res := .next (s.odNum h P.INJECT n 2 1 bits.toNat)

/-! Sources (R227), redundancy (R184, R190), time (R208) -/

def execStillData (h : OdHead) (i : Fin 16) (off : Nat) (data : List Byte) (s : State) : Res := .next (s.odBlob h P.STILL_DATA i off data)
def execStillSeal (h : OdHead) (i : Fin 16) (v : BitVec 32) (s : State) : Res := .next (s.odNum h P.STILL_SEAL i 5 4 v.toNat)
def execSwitchover (h : OdHead) (v : BitVec 8) (s : State) : Res := .next (s.odNum h P.SWITCHOVER noIndex 2 1 v.toNat)
def execEpochFloor (h : OdHead) (v : BitVec 32) (s : State) : Res := .next (s.odNum h P.EPOCH_FLOOR noIndex 5 4 v.toNat)
def execTimeSet (h : OdHead) (v : BitVec 80) (s : State) : Res := .next (s.odNum h P.TIME_SET noIndex 12 10 v.toNat)

/-! Fixtures and Ethernet (R402, R419) -/

def execRdmRequest (h : OdHead) (p : Fin 16) (data : List Byte) (s : State) : Res := .next (s.odBlob h P.RDM_REQUEST p 0 data)
def execTxThreshold (h : OdHead) (v : BitVec 8) (s : State) : Res := .next (s.odNum h P.TX_THRESHOLD noIndex 2 1 v.toNat)
def execT1sThreshold (h : OdHead) (n : Fin 8) (v : BitVec 8) (s : State) : Res := .next (s.odNum h P.T1S_THRESHOLD n 2 1 v.toNat)

/-! Security (R465, R470, R473, R475) -/

def execLockAdvance (h : OdHead) (v : BitVec 8) (s : State) : Res := .next (s.odNum h P.LOCK_ADVANCE noIndex 2 1 v.toNat)
/-- KEY_LOAD in MODE 0: byte 2 of the 40 is the mode. -/
def execKeyLoadClear (h : OdHead) (value : List Byte) (s : State) : Res := .next (s.odBlob h P.KEY_LOAD noIndex 0 (listSet value 2 0))
/-- KEY_LOAD in MODE 1. -/
def execKeyLoadWrapped (h : OdHead) (value : List Byte) (s : State) : Res := .next (s.odBlob h P.KEY_LOAD noIndex 0 (listSet value 2 1))
def execKeyRevoke (h : OdHead) (v : BitVec 8) (s : State) : Res := .next (s.odNum h P.KEY_REVOKE noIndex 2 1 v.toNat)
def execDebugUnlock (h : OdHead) (v : BitVec 8) (s : State) : Res := .next (s.odNum h P.DEBUG_UNLOCK noIndex 2 1 v.toNat)
def execAttestRequest (h : OdHead) (nonce : List Byte) (flashOk : Bool) (s : State) : Res :=
  .next (s.odBlob h P.ATTEST_REQUEST noIndex 0 nonce flashOk)

/-! Update (R485, R488, R490, R493) -/

def execManifest (h : OdHead) (off : Nat) (data : List Byte) (s : State) : Res := .next (s.odBlob h P.MANIFEST noIndex off data)
def execImageData (h : OdHead) (off : Nat) (data : List Byte) (s : State) : Res := .next (s.odBlob h P.IMAGE_DATA noIndex off data)
def execActivate (h : OdHead) (v : BitVec 8) (s : State) : Res := .next (s.odNum h P.ACTIVATE noIndex 2 1 v.toNat)
def execConfirm (h : OdHead) (v : BitVec 8) (s : State) : Res := .next (s.odNum h P.CONFIRM noIndex 2 1 v.toNat)
def execUpdateAbort (h : OdHead) (v : BitVec 8) (s : State) : Res := .next (s.odNum h P.UPDATE_ABORT noIndex 2 1 v.toNat)

/-! Performance and events (R503–R506, R515, R516) -/

def execDumpRead (h : OdHead) (v : BitVec 32) (s : State) : Res := .next (s.odNum h P.DUMP_READ noIndex 5 4 v.toNat)
def execCounterFreeze (h : OdHead) (s : State) : Res := .next (s.odNum h P.COUNTER_FREEZE noIndex 2 1 1)
def execCounterRelease (h : OdHead) (s : State) : Res := .next (s.odNum h P.COUNTER_FREEZE noIndex 2 1 2)
def execCounterSnapshot (h : OdHead) (s : State) : Res := .next (s.odNum h P.COUNTER_FREEZE noIndex 2 1 3)
def execSampleClear (h : OdHead) (v : BitVec 8) (s : State) : Res := .next (s.odNum h P.SAMPLE_CLEAR noIndex 2 1 v.toNat)
def execFaultClear (h : OdHead) (v : BitVec 32) (s : State) : Res := .next (s.odNum h P.FAULT_CLEAR noIndex 5 4 v.toNat)
def execIrqPendingClear (h : OdHead) (bits : BitVec 16) (s : State) : Res := .next (s.odNum h P.IRQ_PENDING noIndex 3 2 bits.toNat)

end Sys2Proof.Machine
end

