-- ==== Sys2Proof/Machine/Dispatch.lean ====
section
/-! DEFINITION. The dispatch: one arm per command, each one direct call of its meaning. -/

namespace Sys2Proof.Machine

/-- The effect of a command on everything but the queue. -/
def exec (i : Instr) (s : State) : Host.Outcome State Fault Refusal :=
  match i with
  | .supplyValid x => Sys2Proof.Machine.execSupplyValid x s
  | .supplyDip x deep => Sys2Proof.Machine.execSupplyDip x deep s
  | .porRelease => Sys2Proof.Machine.execPorRelease s
  | .optionByteRead flashOk => Sys2Proof.Machine.execOptionByteRead s flashOk
  | .bankSupplyValid b high => Sys2Proof.Machine.execBankSupplyValid b high s
  | .bankMapApply b => Sys2Proof.Machine.execBankMapApply b s
  | .bankSupplyLeavesRange b => Sys2Proof.Machine.execBankSupplyLeavesRange b s
  | .resetNAssert => Sys2Proof.Machine.execResetNAssert s
  | .resetNRelease refclk => Sys2Proof.Machine.execResetNRelease s refclk
  | .resetNLongCount => Sys2Proof.Machine.execResetNLongCount s
  | .resetRequestShort h => Sys2Proof.Machine.execResetRequestShort h s
  | .resetRequestLong h => Sys2Proof.Machine.execResetRequestLong h s
  | .resetRequestExecute => Sys2Proof.Machine.execResetRequestExecute s
  | .regionRelease r tie => Sys2Proof.Machine.execRegionRelease r s tie
  | .clockGoodTurnExpiry => Sys2Proof.Machine.execClockGoodTurnExpiry s
  | .clockGoodDrop r => Sys2Proof.Machine.execClockGoodDrop r s
  | .clockGoodReturn r => Sys2Proof.Machine.execClockGoodReturn r s
  | .lowWaterEntry => Sys2Proof.Machine.execLowWaterEntry s
  | .readyBitRise bit => Sys2Proof.Machine.execReadyBitRise bit s
  | .clusterFault r c => Sys2Proof.Machine.execClusterFault r c s
  | .clusterRestartAtFrameBoundary r c => Sys2Proof.Machine.execClusterRestartAtFrameBoundary r c s
  | .imageDriveFault => Sys2Proof.Machine.execImageDriveFault s
  | .uncontainedRegionFault r => Sys2Proof.Machine.execUncontainedRegionFault r s
  | .secureBootVerify => Sys2Proof.Machine.execSecureBootVerify s
  | .read h items => Sys2Proof.Machine.execRead h items s
  | .write h items => Sys2Proof.Machine.execWrite h items s
  | .txnOpen h items => Sys2Proof.Machine.execTxnOpen h items s
  | .txnCommit h items => Sys2Proof.Machine.execTxnCommit h items s
  | .txnAbort h items => Sys2Proof.Machine.execTxnAbort h items s
  | .txnCancel h items => Sys2Proof.Machine.execTxnCancel h items s
  | .leaseClaim h items => Sys2Proof.Machine.execLeaseClaim h items s
  | .leaseRenew h items => Sys2Proof.Machine.execLeaseRenew h items s
  | .leaseRelease h items => Sys2Proof.Machine.execLeaseRelease h items s
  | .event h items => Sys2Proof.Machine.execEvent h items s
  | .unknownOp h o items => Sys2Proof.Machine.execUnknownOp h o items s
  | .leaseLapse => Sys2Proof.Machine.execLeaseLapse s
  | .transactionTimeoutExpiry => Sys2Proof.Machine.execTransactionTimeoutExpiry s
  | .settingsStoreWrite => Sys2Proof.Machine.execSettingsStoreWrite s
  | .optionOverlay h off data => Sys2Proof.Machine.execOptionOverlay h off data s
  | .commitLatch k tie => Sys2Proof.Machine.execCommitLatch k tie s
  | .tickStrobe n tie => Sys2Proof.Machine.execTickStrobe n tie s
  | .composeDeadline k tie => Sys2Proof.Machine.execComposeDeadline k tie s
  | .canvasComplete k => Sys2Proof.Machine.execCanvasComplete k s
  | .polderBuildComplete => Sys2Proof.Machine.execPolderBuildComplete s
  | .scanoutPacketStart c => Sys2Proof.Machine.execScanoutPacketStart c s
  | .dryLimitExpiry c => Sys2Proof.Machine.execDryLimitExpiry c s
  | .scanEndPoint c => Sys2Proof.Machine.execScanEndPoint c s
  | .spanDeadline k tie => Sys2Proof.Machine.execSpanDeadline k tie s
  | .spanRecord k role done rate digest hist => Sys2Proof.Machine.execSpanRecord k role done rate digest hist s
  | .flipSet k set => Sys2Proof.Machine.execFlipSet k set s
  | .flipSetDeadline k => Sys2Proof.Machine.execFlipSetDeadline k s
  | .cutOff k tie => Sys2Proof.Machine.execCutOff k tie s
  | .displayTick k tie => Sys2Proof.Machine.execDisplayTick k tie s
  | .correctionWriteThrough p k => Sys2Proof.Machine.execCorrectionWriteThrough p k s
  | .kTargetCompute => Sys2Proof.Machine.execKTargetCompute s
  | .gainTableBuildComplete => Sys2Proof.Machine.execGainTableBuildComplete s
  | .ledgerFlushTimer => Sys2Proof.Machine.execLedgerFlushTimer s
  | .ledgerFlushComplete => Sys2Proof.Machine.execLedgerFlushComplete s
  | .ledgerReplace => Sys2Proof.Machine.execLedgerReplace s
  | .ledgerZero => Sys2Proof.Machine.execLedgerZero s
  | .coeffData h off data => Sys2Proof.Machine.execCoeffData h off data s
  | .coeffSeal h v => Sys2Proof.Machine.execCoeffSeal h v s
  | .mapData h off data => Sys2Proof.Machine.execMapData h off data s
  | .mapSeal h v => Sys2Proof.Machine.execMapSeal h v s
  | .bankFlashCopy kind bank => Sys2Proof.Machine.execBankFlashCopy kind bank s
  | .sensorReadStart entry => Sys2Proof.Machine.execSensorReadStart entry s
  | .sensorReadComplete entry r => Sys2Proof.Machine.execSensorReadComplete entry r s
  | .subframeBoundary p k m heard => Sys2Proof.Machine.execSubframeBoundary p k m heard s
  | .rowSlotBoundary q r => Sys2Proof.Machine.execRowSlotBoundary q r s
  | .planeBoundary q => Sys2Proof.Machine.execPlaneBoundary q s
  | .busTransactionEnd b r => Sys2Proof.Machine.execBusTransactionEnd b r s
  | .busStretchTimeout b => Sys2Proof.Machine.execBusStretchTimeout b s
  | .busStuckRetry b released => Sys2Proof.Machine.execBusStuckRetry b released s
  | .quadRestartAtBoundary q => Sys2Proof.Machine.execQuadRestartAtBoundary q s
  | .seqNop q => Sys2Proof.Machine.execSeqNop q s
  | .seqMovi q => Sys2Proof.Machine.execSeqMovi q s
  | .seqMovh q => Sys2Proof.Machine.execSeqMovh q s
  | .seqAdd q => Sys2Proof.Machine.execSeqAdd q s
  | .seqSub q => Sys2Proof.Machine.execSeqSub q s
  | .seqAddi q => Sys2Proof.Machine.execSeqAddi q s
  | .seqAnd q => Sys2Proof.Machine.execSeqAnd q s
  | .seqOr q => Sys2Proof.Machine.execSeqOr q s
  | .seqXor q => Sys2Proof.Machine.execSeqXor q s
  | .seqShli q => Sys2Proof.Machine.execSeqShli q s
  | .seqShri q => Sys2Proof.Machine.execSeqShri q s
  | .seqLd q => Sys2Proof.Machine.execSeqLd q s
  | .seqSt q => Sys2Proof.Machine.execSeqSt q s
  | .seqMfs q => Sys2Proof.Machine.execSeqMfs q s
  | .seqBr q => Sys2Proof.Machine.execSeqBr q s
  | .seqBz q => Sys2Proof.Machine.execSeqBz q s
  | .seqBnz q => Sys2Proof.Machine.execSeqBnz q s
  | .seqDbnz q => Sys2Proof.Machine.execSeqDbnz q s
  | .seqCall q => Sys2Proof.Machine.execSeqCall q s
  | .seqRet q => Sys2Proof.Machine.execSeqRet q s
  | .seqWait q => Sys2Proof.Machine.execSeqWait q s
  | .waitEventTaken q => Sys2Proof.Machine.execWaitEventTaken q s
  | .seqDly q => Sys2Proof.Machine.execSeqDly q s
  | .seqTrace q => Sys2Proof.Machine.execSeqTrace q s
  | .seqFault q => Sys2Proof.Machine.execSeqFault q s
  | .seqShw q => Sys2Proof.Machine.execSeqShw q s
  | .seqShb q => Sys2Proof.Machine.execSeqShb q s
  | .seqShr q => Sys2Proof.Machine.execSeqShr q s
  | .seqLat q => Sys2Proof.Machine.execSeqLat q s
  | .seqStrm q => Sys2Proof.Machine.execSeqStrm q s
  | .seqOec q => Sys2Proof.Machine.execSeqOec q s
  | .seqPrb q => Sys2Proof.Machine.execSeqPrb q s
  | .seqFsd q => Sys2Proof.Machine.execSeqFsd q s
  | .seqI2c q => Sys2Proof.Machine.execSeqI2c q s
  | .seqPpw q => Sys2Proof.Machine.execSeqPpw q s
  | .seqPpr q bits => Sys2Proof.Machine.execSeqPpr q bits s
  | .seqWatchdogExpiry q => Sys2Proof.Machine.execSeqWatchdogExpiry q s
  | .progData h entry off data => Sys2Proof.Machine.execProgData h entry off data s
  | .progSeal h entry v => Sys2Proof.Machine.execProgSeal h entry v s
  | .healthReadStart q entry => Sys2Proof.Machine.execHealthReadStart q entry s
  | .healthReadComplete q entry r => Sys2Proof.Machine.execHealthReadComplete q entry r s
  | .faultListWrite => Sys2Proof.Machine.execFaultListWrite s
  | .lampAgeSecond => Sys2Proof.Machine.execLampAgeSecond s
  | .healthClear => Sys2Proof.Machine.execHealthClear s
  | .healthDeclare => Sys2Proof.Machine.execHealthDeclare s
  | .pumpStepSlot => Sys2Proof.Machine.execPumpStepSlot s
  | .ainConversion a code => Sys2Proof.Machine.execAinConversion a code s
  | .tachEdge t => Sys2Proof.Machine.execTachEdge t s
  | .tachTimeout t => Sys2Proof.Machine.execTachTimeout t s
  | .tachStallTimer t => Sys2Proof.Machine.execTachStallTimer t s
  | .oscReset h bits => Sys2Proof.Machine.execOscReset h bits s
  | .invalidSymbol n gap pos code misaligned => Sys2Proof.Machine.execInvalidSymbol n gap s pos code misaligned
  | .commaTimeout n => Sys2Proof.Machine.execCommaTimeout n s
  | .laneSignalDetect n => Sys2Proof.Machine.execLaneSignalDetect n s
  | .cdrLock n => Sys2Proof.Machine.execCdrLock n s
  | .cdrTimeout n tie => Sys2Proof.Machine.execCdrTimeout n s tie
  | .laneAlign n inverted => Sys2Proof.Machine.execLaneAlign n inverted s
  | .laneAdaptComplete n ctle taps => Sys2Proof.Machine.execLaneAdaptComplete n ctle taps s
  | .laneBringupTimer n tie => Sys2Proof.Machine.execLaneBringupTimer n s tie
  | .rateHuntTimer tie => Sys2Proof.Machine.execRateHuntTimer s tie
  | .laneOffHoldExpiry n => Sys2Proof.Machine.execLaneOffHoldExpiry n s
  | .skipInsert n => Sys2Proof.Machine.execSkipInsert n s
  | .elasticBufferSlip n overflow => Sys2Proof.Machine.execElasticBufferSlip n overflow s
  | .quadPllLockLoss q => Sys2Proof.Machine.execQuadPllLockLoss q s
  | .quadPllRelock q => Sys2Proof.Machine.execQuadPllRelock q s
  | .adaptUpdate n dCtle dTaps trimTap => Sys2Proof.Machine.execAdaptUpdate n dCtle dTaps trimTap s
  | .trimStep => Sys2Proof.Machine.execTrimStep s
  | .eyeMarginMeasure n height width => Sys2Proof.Machine.execEyeMarginMeasure n height width s
  | .eyeScanStart h ctrl => Sys2Proof.Machine.execEyeScanStart h ctrl s
  | .eyeScanPoint count => Sys2Proof.Machine.execEyeScanPoint count s
  | .testBlockSend n => Sys2Proof.Machine.execTestBlockSend n s
  | .testBlockReceive n seq data => Sys2Proof.Machine.execTestBlockReceive n seq data s
  | .prbsGen h n code => Sys2Proof.Machine.execPrbsGen h n code s
  | .prbsChk h n code => Sys2Proof.Machine.execPrbsChk h n code s
  | .inject h n bits => Sys2Proof.Machine.execInject h n bits s
  | .auxRequest n req cr eq => Sys2Proof.Machine.execAuxRequest n req cr eq s
  | .dpLaneLockLoss n lane => Sys2Proof.Machine.execDpLaneLockLoss n lane s
  | .hpdPulseEnd n => Sys2Proof.Machine.execHpdPulseEnd n s
  | .hpdCycleEnd n => Sys2Proof.Machine.execHpdCycleEnd n s
  | .msaReceived n m => Sys2Proof.Machine.execMsaReceived n m s
  | .dpFrameStart n => Sys2Proof.Machine.execDpFrameStart n s
  | .dpFrameEnd n clean pixels => Sys2Proof.Machine.execDpFrameEnd n clean pixels s
  | .videoPacket p v => Sys2Proof.Machine.execVideoPacket p v s
  | .controlPacket p c b => Sys2Proof.Machine.execControlPacket p c b s
  | .ownPacketSend p => Sys2Proof.Machine.execOwnPacketSend p s
  | .tickMarker p m => Sys2Proof.Machine.execTickMarker p m s
  | .markerWaitExpiry p => Sys2Proof.Machine.execMarkerWaitExpiry p s
  | .echoReq p seq crcOk turn => Sys2Proof.Machine.execEchoReq p seq crcOk turn s
  | .echoResp p seq turn crcOk t2 => Sys2Proof.Machine.execEchoResp p seq turn crcOk t2 s
  | .latency p body crcOk => Sys2Proof.Machine.execLatency p body crcOk s
  | .ident p body crcOk => Sys2Proof.Machine.execIdent p body crcOk s
  | .echoSendTimer p t1 => Sys2Proof.Machine.execEchoSendTimer p t1 s
  | .latencySendTimer p => Sys2Proof.Machine.execLatencySendTimer p s
  | .identSendTimer p => Sys2Proof.Machine.execIdentSendTimer p s
  | .latencyStaleTimer p tie => Sys2Proof.Machine.execLatencyStaleTimer p s tie
  | .chainLatencyRead c result => Sys2Proof.Machine.execChainLatencyRead c result s
  | .chainLoadRecompute => Sys2Proof.Machine.execChainLoadRecompute s
  | .ingressPacket c v => Sys2Proof.Machine.execIngressPacket c v s
  | .fencePacket c v => Sys2Proof.Machine.execFencePacket c v s
  | .fenceWriteAck c => Sys2Proof.Machine.execFenceWriteAck c s
  | .stillData h entry off data => Sys2Proof.Machine.execStillData h entry off data s
  | .stillSeal h entry v => Sys2Proof.Machine.execStillSeal h entry v s
  | .heartbeatEdge high => Sys2Proof.Machine.execHeartbeatEdge high s
  | .heartbeatTimeout => Sys2Proof.Machine.execHeartbeatTimeout s
  | .sluiceIChange high => Sys2Proof.Machine.execSluiceIChange high s
  | .doubtTimer => Sys2Proof.Machine.execDoubtTimer s
  | .claimHoldoffExpiry => Sys2Proof.Machine.execClaimHoldoffExpiry s
  | .claimWindowEnd => Sys2Proof.Machine.execClaimWindowEnd s
  | .lampNetActivity => Sys2Proof.Machine.execLampNetActivity s
  | .evidenceTimeout => Sys2Proof.Machine.execEvidenceTimeout s
  | .switchover h v => Sys2Proof.Machine.execSwitchover h v s
  | .yieldTickReached tie => Sys2Proof.Machine.execYieldTickReached tie s
  | .epochFloor h v => Sys2Proof.Machine.execEpochFloor h v s
  | .signatureCompareDeadline k tie => Sys2Proof.Machine.execSignatureCompareDeadline k tie s
  | .healthReportPublish k => Sys2Proof.Machine.execHealthReportPublish k s
  | .ptpSync m => Sys2Proof.Machine.execPtpSync m s
  | .ptpFollowUp m => Sys2Proof.Machine.execPtpFollowUp m s
  | .ptpDelayReq m => Sys2Proof.Machine.execPtpDelayReq m s
  | .ptpDelayResp m => Sys2Proof.Machine.execPtpDelayResp m s
  | .ptpAnnounce m a => Sys2Proof.Machine.execPtpAnnounce m a s
  | .ptpAnnounceTimeout => Sys2Proof.Machine.execPtpAnnounceTimeout s
  | .ptpSyncSend => Sys2Proof.Machine.execPtpSyncSend s
  | .ptpAnnounceSend => Sys2Proof.Machine.execPtpAnnounceSend s
  | .ptpDelayReqSend => Sys2Proof.Machine.execPtpDelayReqSend s
  | .macFrameTransmit p size stamp deferred => Sys2Proof.Machine.execMacFrameTransmit p size stamp s deferred
  | .tsqRetrieve => Sys2Proof.Machine.execTsqRetrieve s
  | .tsqEntryExpiry => Sys2Proof.Machine.execTsqEntryExpiry s
  | .refInEdge => Sys2Proof.Machine.execRefInEdge s
  | .refInTimeout => Sys2Proof.Machine.execRefInTimeout s
  | .servoSampleTimeout => Sys2Proof.Machine.execServoSampleTimeout s
  | .timeSet h v => Sys2Proof.Machine.execTimeSet h v s
  | .tpoEdge n => Sys2Proof.Machine.execTpoEdge n s
  | .fixSamplingComplete k => Sys2Proof.Machine.execFixSamplingComplete k s
  | .fixSampleDeadline k tie => Sys2Proof.Machine.execFixSampleDeadline k tie s
  | .sacnDataStart k => Sys2Proof.Machine.execSacnDataStart k s
  | .emissionInstant k => Sys2Proof.Machine.execEmissionInstant k s
  | .sacnDropDeadline k => Sys2Proof.Machine.execSacnDropDeadline k s
  | .universeDiscoverySend => Sys2Proof.Machine.execUniverseDiscoverySend s
  | .dmxFrameEnd p => Sys2Proof.Machine.execDmxFrameEnd p s
  | .rdmRequest h p data => Sys2Proof.Machine.execRdmRequest h p data s
  | .rdmSend p => Sys2Proof.Machine.execRdmSend p s
  | .rdmResponse p r data start => Sys2Proof.Machine.execRdmResponse p r data s start
  | .rdmResponseTimeout p => Sys2Proof.Machine.execRdmResponseTimeout p s
  | .rdmRequestExpiry p => Sys2Proof.Machine.execRdmRequestExpiry p s
  | .fixData h off data => Sys2Proof.Machine.execFixData h off data s
  | .fixSeal h v => Sys2Proof.Machine.execFixSeal h v s
  | .phyInt r => Sys2Proof.Machine.execPhyInt r s
  | .phyPollTimer r => Sys2Proof.Machine.execPhyPollTimer r s
  | .autonegRetry => Sys2Proof.Machine.execAutonegRetry s
  | .macFrameReceive p f => Sys2Proof.Machine.execMacFrameReceive p f s
  | .dhcpTimeout => Sys2Proof.Machine.execDhcpTimeout s
  | .pauseFrame quanta => Sys2Proof.Machine.execPauseFrame quanta s
  | .pauseExpiry => Sys2Proof.Machine.execPauseExpiry s
  | .pauseCapExpiry => Sys2Proof.Machine.execPauseCapExpiry s
  | .lpiEntry => Sys2Proof.Machine.execLpiEntry s
  | .lpiExit => Sys2Proof.Machine.execLpiExit s
  | .lldpSend => Sys2Proof.Machine.execLldpSend s
  | .lldpTtlExpiry => Sys2Proof.Machine.execLldpTtlExpiry s
  | .downshiftTimer => Sys2Proof.Machine.execDownshiftTimer s
  | .t1sCollision n late => Sys2Proof.Machine.execT1sCollision n late s
  | .t1sBackoffExpiry n => Sys2Proof.Machine.execT1sBackoffExpiry n s
  | .plcaStatusChange n up beacons => Sys2Proof.Machine.execPlcaStatusChange n up s beacons
  | .txFifoUnderrun p => Sys2Proof.Machine.execTxFifoUnderrun p s
  | .txThreshold h v => Sys2Proof.Machine.execTxThreshold h v s
  | .t1sThreshold h n v => Sys2Proof.Machine.execT1sThreshold h n v s
  | .dramRequest r write addr urgency background part => Sys2Proof.Machine.execDramRequest r write addr urgency background s part
  | .dramReadReturn r ce ue what part => Sys2Proof.Machine.execDramReadReturn r ce ue what s part
  | .dramWriteAck r part => Sys2Proof.Machine.execDramWriteAck r s part
  | .requestAgeExpiry c b => Sys2Proof.Machine.execRequestAgeExpiry c b s
  | .refreshTick c => Sys2Proof.Machine.execRefreshTick c s
  | .disturbWindowRestart c b => Sys2Proof.Machine.execDisturbWindowRestart c b s
  | .dramTrainingComplete results => Sys2Proof.Machine.execDramTrainingComplete results s
  | .dramRecalTimer => Sys2Proof.Machine.execDramRecalTimer s
  | .selfRefreshTimeout => Sys2Proof.Machine.execSelfRefreshTimeout s
  | .standbyEntryTimer => Sys2Proof.Machine.execStandbyEntryTimer s
  | .channelIdleTimeout c => Sys2Proof.Machine.execChannelIdleTimeout c s
  | .cisternScrub b word corrected bad => Sys2Proof.Machine.execCisternScrub b word corrected bad s
  | .thermalSample t => Sys2Proof.Machine.execThermalSample t s
  | .tripComparator => Sys2Proof.Machine.execTripComparator s
  | .bgPauseExpiry o => Sys2Proof.Machine.execBgPauseExpiry o s
  | .composePauseExpiry c => Sys2Proof.Machine.execComposePauseExpiry c s
  | .lockAdvance h v => Sys2Proof.Machine.execLockAdvance h v s
  | .lockBurnComplete => Sys2Proof.Machine.execLockBurnComplete s
  | .keyLoadClear h value => Sys2Proof.Machine.execKeyLoadClear h value s
  | .keyLoadWrapped h value => Sys2Proof.Machine.execKeyLoadWrapped h value s
  | .keyRevoke h v => Sys2Proof.Machine.execKeyRevoke h v s
  | .debugUnlock h v => Sys2Proof.Machine.execDebugUnlock h v s
  | .bypass => Sys2Proof.Machine.execBypass s
  | .samplePreload cells => Sys2Proof.Machine.execSamplePreload cells s
  | .extest => Sys2Proof.Machine.execExtest s
  | .idcode => Sys2Proof.Machine.execIdcode s
  | .attestRequest h nonce flashOk => Sys2Proof.Machine.execAttestRequest h nonce flashOk s
  | .attestSignComplete => Sys2Proof.Machine.execAttestSignComplete s
  | .manifest h off data => Sys2Proof.Machine.execManifest h off data s
  | .imageData h off data => Sys2Proof.Machine.execImageData h off data s
  | .updBlock p id entry data crcOk => Sys2Proof.Machine.execUpdBlock p id entry data crcOk s
  | .updState p id st version held manifest crcOk => Sys2Proof.Machine.execUpdState p id st version held manifest crcOk s
  | .updStateTimer => Sys2Proof.Machine.execUpdStateTimer s
  | .updBlockSend p => Sys2Proof.Machine.execUpdBlockSend p s
  | .activate h v => Sys2Proof.Machine.execActivate h v s
  | .activationReset => Sys2Proof.Machine.execActivationReset s
  | .confirm h v => Sys2Proof.Machine.execConfirm h v s
  | .autoConfirmTimer => Sys2Proof.Machine.execAutoConfirmTimer s
  | .confirmWindowExpiry => Sys2Proof.Machine.execConfirmWindowExpiry s
  | .updateAbort h v => Sys2Proof.Machine.execUpdateAbort h v s
  | .dumpRecordWritten => Sys2Proof.Machine.execDumpRecordWritten s
  | .dumpRead h v => Sys2Proof.Machine.execDumpRead h v s
  | .counterFreeze h => Sys2Proof.Machine.execCounterFreeze h s
  | .counterRelease h => Sys2Proof.Machine.execCounterRelease h s
  | .counterSnapshot h => Sys2Proof.Machine.execCounterSnapshot h s
  | .sampleTake entry word pc addr latency => Sys2Proof.Machine.execSampleTake entry word pc addr latency s
  | .sampleClear h v => Sys2Proof.Machine.execSampleClear h v s
  | .eventServiceWrite r => Sys2Proof.Machine.execEventServiceWrite r s
  | .eventMessageSend => Sys2Proof.Machine.execEventMessageSend s
  | .eventAck seq => Sys2Proof.Machine.execEventAck seq s
  | .eventResendTimeout => Sys2Proof.Machine.execEventResendTimeout s
  | .faultClear h v => Sys2Proof.Machine.execFaultClear h v s
  | .irqPendingClear h bits => Sys2Proof.Machine.execIrqPendingClear h bits s
  | .supplyFall x => Sys2Proof.Machine.execSupplyFall x s
  | .commandSlot c able => Sys2Proof.Machine.execCommandSlot c able s
  | .shiftOperationEnd q => Sys2Proof.Machine.execShiftOperationEnd q s
  | .arpProbeEnd => Sys2Proof.Machine.execArpProbeEnd s

end Sys2Proof.Machine
end

