-- ==== Sys2Proof/Safety.lean ====
section
/-! DEFINITION. What a safe run is, and the predicates the statements are made of. -/

namespace Sys2Proof.Machine

/-! Runs -/

/-- The step from `s` ends in a next state: the device neither faults nor refuses. -/
def State.steps (s : State) : Prop := ∃ t, step s = .next t

/-- `s` runs for `n` steps. -/
def State.runs : Nat → State → Prop
  | 0, _ => True
  | n + 1, s => ∃ t, step s = .next t ∧ State.runs n t

/-- Every run from `s` goes on for ever. -/
def State.safe (s : State) : Prop := ∀ n, s.runs n

/-! Events (R510) -/

/-- Event `ev` has been raised once between `s` and `t`: its count is one higher, rolling over at 32 bits. -/
def State.told (s t : State) (ev : Nat) : Prop :=
  t.par P.EVENT_COUNT ev = (s.par P.EVENT_COUNT ev + 1) % 2 ^ 32

/-- `t` has the scalar parameters of `s` but for those of `ids`. -/
def State.samePars (s t : State) (ids : List Nat) : Prop :=
  ∀ id idx, id ∉ ids → idx < 2 ^ 16 → t.par id idx = s.par id idx

/-! Drive sequencers (R332–R350) -/

/-- Sequencer `q` runs, its turn to issue has come, `w` is the word at its pc, and no load that `w` reads is outstanding
(R337). -/
def State.issues (s : State) (q w : Nat) : Prop :=
  (s.seq q).st = 1 ∧ (s.seq q).next ≤ s.now ∧ (s.bank BK.PROG (s.seq q).slot).instr (s.seq q).pc = w ∧
    ∀ r ∈ readsOf w, r ≠ 0 → r = (s.seq q).ldReg → (s.seq q).ldAt ≤ s.now

/-- `target` is an address of the program sequencer `q` runs: below its N_I. -/
def State.inProgram (s : State) (q target : Nat) : Prop := target < (s.bank BK.PROG (s.seq q).slot).nI

/-- What the issue of an instruction that only computes leaves unchanged: the other sequencers, and everything but the
sequencers, the performance counters, the sampling countdown and the model's free counter. -/
def State.issueFrame (s t : State) (q : Nat) : Prop :=
  (∀ q', q' ≠ q → t.seq q' = s.seq q') ∧
    t = { s with drive := { s.drive with seqs := t.drive.seqs }, free := t.free
                 perf := { s.perf with counters := t.perf.counters, left := t.perf.left } }

/-- Sequencer `q` of `t` is that of `s` with `v` in register `rd` (no register where `rd` is 0), the pc at `target` and the
next issue due at `due`. -/
def State.wrote (s t : State) (q rd v target due : Nat) : Prop :=
  t.seq q = { s.seq q with regs := (t.seq q).regs, pc := target, next := due } ∧
    (t.seq q).reg rd = (if rd = 0 then 0 else v) ∧ ∀ r, r ≠ rd → (t.seq q).reg r = (s.seq q).reg r

/-- The instructions of R335 that write rd from their word and the registers: command, opcode and result. -/
def computeTable (q : Fin 8) : List (Instr × Nat × (Seq → Nat → Nat)) :=
  [(.seqMovi q, 0x01, fun _ w => iImm w),
   (.seqMovh q, 0x02, fun d w => iImm w % 2 ^ 16 * 2 ^ 16 + d.reg (iRd w) % 2 ^ 16),
   (.seqAdd q, 0x03, fun d w => (d.reg (iRa w) + d.reg (iRb w)) % 2 ^ 32),
   (.seqSub q, 0x04, fun d w => (d.reg (iRa w) + 2 ^ 32 - d.reg (iRb w)) % 2 ^ 32),
   (.seqAddi q, 0x05, fun d w => (((d.reg (iRa w) : Int) + signed 18 (iImm w)) % 2 ^ 32).toNat),
   (.seqAnd q, 0x06, fun d w => (d.reg (iRa w) &&& d.reg (iRb w)) % 2 ^ 32),
   (.seqOr q, 0x07, fun d w => (d.reg (iRa w) ||| d.reg (iRb w)) % 2 ^ 32),
   (.seqXor q, 0x08, fun d w => (d.reg (iRa w) ^^^ d.reg (iRb w)) % 2 ^ 32),
   (.seqShli q, 0x09, fun d w => d.reg (iRa w) * 2 ^ (w % 32) % 2 ^ 32),
   (.seqShri q, 0x0A, fun d w => d.reg (iRa w) / 2 ^ (w % 32) % 2 ^ 32)]

/-- An instruction that only goes on: its command and opcode, where it goes and after how many cycles the next one may issue,
and the register it writes (0 for none) with its value. -/
structure FlowRow where
  cmd : Instr
  op : Nat
  target : Nat
  cycles : Nat
  rd : Nat := 0
  value : Nat := 0

/-- NOP, DLY and the branches of R335, for the word `w` in state `s`. -/
def flowTable (q : Fin 8) (s : State) (w : Nat) : List FlowRow :=
  let d := s.seq q
  let next := d.pc + 1
  let tgt := w % 2 ^ 12
  let less := (d.reg (iRa w) + 2 ^ 32 - 1) % 2 ^ 32
  [⟨.seqNop q, 0x00, next, 1, 0, 0⟩,
   ⟨.seqDly q, 0x19, next, max (iImm w) 1, 0, 0⟩,
   ⟨.seqBr q, 0x10, tgt, 2, 0, 0⟩,
   if d.reg (iRa w) = 0 then ⟨.seqBz q, 0x11, tgt, 2, 0, 0⟩ else ⟨.seqBz q, 0x11, next, 1, 0, 0⟩,
   if d.reg (iRa w) ≠ 0 then ⟨.seqBnz q, 0x12, tgt, 2, 0, 0⟩ else ⟨.seqBnz q, 0x12, next, 1, 0, 0⟩,
   if less ≠ 0 then ⟨.seqDbnz q, 0x13, tgt, 2, iRa w, less⟩ else ⟨.seqDbnz q, 0x13, next, 1, iRa w, less⟩,
   ⟨.seqCall q, 0x14, tgt, 2, 15, next % 2 ^ 32⟩,
   ⟨.seqRet q, 0x15, d.reg 15 % 2 ^ 12, 2, 0, 0⟩]

/-- The shift-unit instructions of R335 and their opcodes. -/
def shiftTable (q : Fin 8) : List (Instr × Nat) :=
  [(.seqShw q, 0x20), (.seqShb q, 0x21), (.seqShr q, 0x22), (.seqLat q, 0x23), (.seqStrm q, 0x24), (.seqOec q, 0x25),
   (.seqPrb q, 0x26), (.seqFsd q, 0x27)]

/-- The operation the shift-unit instruction `w` puts into the unit of sequencer `q`, to start in cycle `from_` or behind the
operations before it: format S of R334, with the count of SHW and SHB taken from the register where it is 0 (R336). -/
def State.shiftOp (s : State) (q w from_ : Nat) : PinOp :=
  let ra := (s.seq q).reg (field w 22 4)
  { num := (s.seq q).issued, kind := field w 26 6 - 0x20, mask := field w 18 4, src := field w 16 2, latch := field w 11 5
    count := if field w 0 11 = 0 ∧ (field w 26 6 = 0x20 ∨ field w 26 6 = 0x21) then ra else field w 0 11
    value := ra, from_ := from_ }

/-- The greatest count of a shift operation, and a count from 1 to it; operations without a count take any (R336). -/
def PinOp.countTop (o : PinOp) : Nat := if o.kind = 2 then 32 else 1024
def PinOp.countOk (o : PinOp) : Bool := decide (3 < o.kind) || (decide (1 ≤ o.count) && decide (o.count ≤ o.countTop))

/-- Sequencer `q` has stopped in `t` with a fault: recorded, counted and its quad dark (R346). -/
def State.seqFaulted (s t : State) (q code pc : Nat) : Prop :=
  (t.seq q).st = 3 ∧ (t.seq q).ops = [] ∧ (t.seq q).pending = [] ∧ (t.seq q).dark ≠ 0 ∧
    t.par P.SEQ_FAULT q = code * 2 ^ 16 + pc % 2 ^ 12 ∧
    t.blob P.SEQ_REGS q 0 64 = (List.range 16).flatMap (fun n => leBytes 4 ((t.seq q).reg n)) ∧
    t.par P.EVENT_COUNT E.SEQ_FAULT = (s.par P.EVENT_COUNT E.SEQ_FAULT + 1) % 2 ^ 32 ∧
    (∀ q', q' ≠ q → t.seq q' = s.seq q') ∧
    (∀ id idx, id ≠ P.SEQ_FAULT → id ≠ P.EVENT_COUNT → idx < 2 ^ 16 → t.par id idx = s.par id idx) ∧
    t = { s with drive := t.drive, perf := t.perf, free := t.free, dict := t.dict, blobs := t.blobs, ev := t.ev }

/-- The transaction of the program of bus `b`, its descriptor at data address `a`, has ended with a result: the bus is idle, the
result stands in BUS_STATUS and in the descriptor, BUS is pending at a live sequencer, and no other bus or sequencer has
changed (R338, R350). -/
def State.programEnded (s t : State) (b a result : Nat) : Prop :=
  (t.bus b).owner = .idle ∧ (t.seq b).busStatus = result ∧ field (SMap.get 0 (t.seq b).data a) 28 4 = result ∧
    ((s.seq b).alive = true → 5 ∈ (t.seq b).pending) ∧ (t.seq b).regs = (s.seq b).regs ∧ (t.seq b).pc = (s.seq b).pc ∧
    (∀ b', b' ≠ b → t.bus b' = s.bus b' ∧ t.seq b' = s.seq b') ∧
    t = { s with drive := t.drive, dict := t.dict, ev := t.ev }

/-! Ready bits and resets (R57–R66, R77, R78) -/

/-- Ready bit `i` is set, with its prerequisites and theirs in turn (R77, R78). -/
def State.grounded (s : State) (i : Nat) : Prop := bit (readyClosure s.isHead s.start.ready) i = true

/-- From `s` a reset of mapped level `l` with cause `source` has been carried out in `t`: at the level deepened as R64 says, with
RESET_CAUSE, READY_MAP and the regions as R62, R78 and R80 say; the model's queue and clock, flash, fuses and keys are kept. -/
def State.resetInto (s t : State) (l : Level) (source : Nat) : Prop :=
  t.start.resetting = some (s.deepen l) ∧
    t.par P.RESET_CAUSE = 16 * levelCode (s.deepen l) + 8 * b2n (s.deepen l != l) + source ∧
    (∀ i, i < 16 → s.deepen l ≠ .l2 ∨ bit imageBits i = true → t.rdy i = false) ∧ t.isReleased .image = false ∧
    t.tile.front = none ∧ t.pending = s.pending ∧ t.now = s.now ∧ t.od.stored = s.od.stored ∧ t.upd.slots = s.upd.slots ∧
    t.store.flash = s.store.flash ∧ t.security.fuses = s.security.fuses ∧ t.security.keys = s.security.keys

/-! The sluice (R178) -/

/-- Where a device that enters STANDBY goes at once: to CLAIM when its view is ABSENT, or STANDING_BY with no holdoff (R178). -/
def State.standbyLeads (s : State) : Nat :=
  if s.view = V.ABSENT ∨ (s.view = V.STANDING_BY ∧ s.par P.CLAIM_HOLDOFF = 0) then SL.CLAIM else SL.STANDBY

/-! Lanes (R118) -/

/-- Lane `n` has entered state `st` and runs at its rate; no other lane's state, and nothing but the lanes, the parameters and
the events, has changed. -/
def State.laneMoved (s t : State) (n st : Nat) : Prop :=
  t.laneState n = st ∧ t.par P.RATE_IN_USE n = (if st = L.OFF then 0xFF else s.laneRunRate n) ∧
    (∀ m, m ≠ n → m < 2 ^ 16 → t.laneState m = s.laneState m) ∧
    t = { s with lane := t.lane, dict := t.dict, blobs := t.blobs, ev := t.ev }

/-! The object dictionary (R539) -/

/-- A message that is no repeat of the one answered last (R95). -/
def State.isNew (s : State) (h : OdHead) (op : Nat) : Prop :=
  op = OP.READ ∨ s.od.holder ≠ some h.path ∨ s.od.lastResp = none ∨ h.seq.toNat ≠ s.par P.LEASE_SEQ

/-- The message reaches its path, is framed and addressed as R88, R92 and R93 say, no claim of a later path and no higher epoch
came before it (R96, R184), no fuses burn while it waits for its turn (R465), and no lease or transaction runs out in its cycle. -/
def State.reaches (s : State) (h : OdHead) (op : Nat) (items : List OdItem) : Prop :=
  s.pathOpen h.path items = true ∧ framed h items = true ∧ s.odTaken h op = true ∧ s.claimOutOfOrder h op = false ∧
    s.odStale h = false ∧ (h.authed = true → s.security.burning = none) ∧ s.odDue = s

/-- The message also passes steps 2 to 6 of R539 and is new, with no image start and no reset left due. -/
def State.clears (s : State) (h : OdHead) (op : Nat) (items : List OdItem) : Prop :=
  s.reaches h op items ∧ s.tagCause h op items = none ∧ s.orderStatus h op items = none ∧ s.isNew h op ∧
    s.upd.bootDue = false ∧ s.upd.resetNow = false

/-- The item that writes `v`, of type code `ty`, to element `idx` of parameter `id`. -/
def oneWrite (id idx ty : Nat) (v : List Byte) : OdItem :=
  { area := BitVec.ofNat 8 (id / 65536), item := BitVec.ofNat 16 id, index := BitVec.ofNat 16 idx, ty := BitVec.ofNat 8 ty
    value := v }

/-- A message of that one item clears every check up to what the write itself does: permission, existence, class, type,
encoding and range. -/
def State.mayWrite (s : State) (h : OdHead) (id idx ty : Nat) (v : List Byte) : Prop :=
  s.clears h OP.WRITE [oneWrite id idx ty v] ∧ s.writeStatus s (oneWrite id idx ty v) = ST.OK ∧
    ∀ p, writePerm (oneWrite id idx ty v) = some p → bit (s.key h.keyId.toNat).perms p = true

/-- Outside a transaction, too. -/
def State.writes (s : State) (h : OdHead) (id idx ty : Nat) (v : List Byte) : Prop :=
  s.mayWrite h id idx ty v ∧ h.txn = 0

/-- The message has been accepted: SEQ has advanced and the lease is renewed where its sender holds the lease (R95, R96). -/
def State.acked (s t : State) (h : OdHead) : Prop :=
  s.od.holder = some h.path → t.par P.LEASE_SEQ = h.seq.toNat ∧ t.od.lastMsg = s.controlNow

/-- LAST_REFUSAL names the only item of a WRITE with status `st` (R107). -/
def State.refusedWrite (t : State) (st : Nat) : Prop := t.par P.LAST_REFUSAL = OP.WRITE * 2 ^ 24 + st * 65536

/-- A head that could be the manager is (R182): no change of the lease makes it take the function. -/
def State.managed (s : State) : Prop := s.isHead = true → s.managerEn = true → s.acting = true → s.red.manager = true

/-- Response `r` to a message on path `p` has left in `t`: over a MAC, and from a head to itself, at once; from a head over the chain at
once where no guard holds it; a tile's stands in its own queue, where that has room (R93, R155, R158). -/
def State.answers (s t : State) (p : Path) (r : Resp) : Prop :=
  match p with
  | .chain src =>
    let k : OwnPkt := { dest := src, size := controlSymbols r.size, positional := s.chain.posReq, out := .resp p r }
    (s.isTile = true → s.ownFits k = true → t.chain.own = s.chain.own ++ [k]) ∧
      (s.isTile = false → src.val = s.par P.DEVICE_ID → t.outbox = .resp p r :: s.outbox) ∧
      ∀ c, s.isTile = false → src.val ≠ s.par P.DEVICE_ID → s.chainTo src = some c → s.linkQuiet c = false →
        t.outbox.head? = some (.resp p r)
  | _ => t.outbox = .resp p r :: s.outbox

/-- `data` has been written at `off` into the load area of `kind` and `slot`, which is loading, and the rest of it is as before. -/
def State.bankTook (s t : State) (kind slot off : Nat) (data : List Byte) : Prop :=
  let b := s.loadBank kind slot
  (t.bank kind b).st = 1 ∧ (∀ j, j < data.length → (t.bank kind b).byte (off + j) = (data.getD j 0).toNat) ∧
    ∀ j, j < off ∨ off + data.length ≤ j → (t.bank kind b).byte j = (s.bank kind b).byte j

/-- What a transaction keeps of a write by message `h`. -/
def keptWrite (h : OdHead) (id idx : Nat) (v : List Byte) : Write :=
  { id := id, index := idx, value := v, by_ := if h.authed then some (h.keyId.toNat, h.counter.toNat) else none
    gbe := match h.path with | .gbe _ _ => true | _ => false }

/-- The operations of R90 as commands. -/
def odCommands (h : OdHead) (items : List OdItem) : List (Instr × Nat) :=
  [(.read h items, OP.READ), (.write h items, OP.WRITE), (.txnOpen h items, OP.TXN_OPEN), (.txnCommit h items, OP.TXN_COMMIT),
   (.txnAbort h items, OP.TXN_ABORT), (.txnCancel h items, OP.TXN_CANCEL), (.leaseClaim h items, OP.LEASE_CLAIM),
   (.leaseRenew h items, OP.LEASE_RENEW), (.leaseRelease h items, OP.LEASE_RELEASE), (.event h items, OP.EVENT)]

/-- Nothing but what a refusal reports has changed: parameters but LAST_REFUSAL and the event counts, dictionary but for the time
of the latest claim, keys, update and every other part are those of `s`. -/
def State.onlyReports (s t : State) : Prop :=
  s.samePars t [P.EVENT_COUNT, P.LAST_REFUSAL] ∧
    t = { s with od := { s.od with claimAt := t.od.claimAt }, dict := t.dict, ev := t.ev, perf := t.perf, eth := t.eth
                 chain := t.chain, outbox := t.outbox }

/-! The root of trust (R464, R465, R467, R475, R494) -/

/-- A burn goes to a more restrictive lock state; the index in use is not behind the one in flash, is the one in flash while a
report is being signed, and stays within the identity key's signatures. -/
def State.rootOk (s : State) : Prop :=
  s.security.fuses ≤ 3 ∧ (∀ r, s.security.burning = some r → s.security.fuses < r ∧ r ≤ 3) ∧
    s.security.flashQ ≤ s.security.q ∧ s.security.q ≤ attestMax ∧
    (s.security.nonce ≠ none → s.security.q = s.security.flashQ ∧ 1 ≤ s.security.q)

/-- From `s` to `t` the root hash has not changed, the fuses' lock state, the security floor, the stored index and the checkpoint
bits have not gone back, and a report newly being signed has an index the flash record did not yet cover. -/
def State.rootKept (s t : State) : Prop :=
  t.security.rootHash = s.security.rootHash ∧ s.security.fuses ≤ t.security.fuses ∧ s.security.floor ≤ t.security.floor ∧
    s.security.flashQ ≤ t.security.flashQ ∧
    (∀ b, bit s.security.checkpoints b = true → bit t.security.checkpoints b = true) ∧
    (t.security.nonce = s.security.nonce ∨ t.security.nonce = none ∨ s.security.flashQ < t.security.q)

end Sys2Proof.Machine
end

