-- ==== Sys2Proof/Certificates/Slice0/Obligations.lean ====
section
/-! DEFINITION. The statements: what the commands of each chapter do, what a step does, and what holds of every run. -/

open Sys2Proof Sys2Proof.Machine Host

/-- For each of MOVI, MOVH, ADD, SUB, ADDI, AND, OR, XOR, SHLI and SHRI: when sequencer q may issue the word w with that opcode and
the next word is in the program, the command completes; register rd holds the result of R335 (q0 goes on reading 0), every
other register keeps its value, the pc is one higher and the next issue is due one cycle later; the other sequencers and
everything but the counters, the sampling countdown and the model's free counter are unchanged. -/
def Obligations.SeqComputeInstructions : Prop :=
  ∀ (q : Fin 8) (s : State) (w : Nat), ∀ e ∈ computeTable q, s.issues q w → field w 26 6 = e.2.1 →
    s.inProgram q ((s.seq q).pc + 1) →
    ∃ t, exec e.1 s = .next t ∧ s.wrote t q (iRd w) (e.2.2 (s.seq q) w) ((s.seq q).pc + 1) (s.now + 1) ∧ s.issueFrame t q

/-- NOP and DLY go on to the next word after 1 and max(imm, 1) cycles.  BR, and BZ, BNZ and DBNZ where their condition holds, go to
the target in 2 cycles; where it does not, to the next word in 1.  DBNZ writes ra − 1 to ra, CALL writes pc + 1 to q15, RET
goes to q15[11:0].  Each completes when the sequencer may issue it and the address it goes to is in the program; no other
register and nothing else changes but the counters and the sampling countdown. -/
def Obligations.SeqFlowInstructions : Prop :=
  ∀ (q : Fin 8) (s : State) (w : Nat), ∀ e ∈ flowTable q s w, s.issues q w → field w 26 6 = e.op → s.inProgram q e.target →
    ∃ t, exec e.cmd s = .next t ∧ s.wrote t q e.rd e.value e.target (s.now + e.cycles) ∧ s.issueFrame t q

/-- With the address ra + imm (imm signed, modulo 2^32) in 0 to 1,023: LD writes the data word to rd, usable 2 cycles after issue; ST
writes rd to that data word and to no other, and changes no register.  MFS writes the special register imm[7:0] to rd, where
selectors 16 to 255 read 0, selector 9 reads q, and selector 15 reads 0 in an unpaired device, 1 in an ACTIVE member and 2 in
another.  Each goes on to the next word after one cycle. -/
def Obligations.SeqDataInstructions : Prop :=
  ∀ (q : Fin 8) (s : State) (w : Nat), s.issues q w → s.inProgram q ((s.seq q).pc + 1) →
    (field w 26 6 = 0x0B → (s.seq q).dataAddr w ≤ 1023 →
      ∃ t, exec (.seqLd q) s = .next t ∧ s.issueFrame t q ∧
        t.seq q = { s.seq q with regs := (t.seq q).regs, pc := (s.seq q).pc + 1, next := s.now + 1
                                 ldReg := iRd w, ldAt := s.now + 2 } ∧
        (t.seq q).reg (iRd w) =
          (if iRd w = 0 then 0 else SMap.get 0 (s.seq q).data ((s.seq q).dataAddr w) % 2 ^ 32) ∧
        ∀ r, r ≠ iRd w → (t.seq q).reg r = (s.seq q).reg r) ∧
    (field w 26 6 = 0x0C → (s.seq q).dataAddr w ≤ 1023 →
      ∃ t, exec (.seqSt q) s = .next t ∧ s.issueFrame t q ∧
        t.seq q = { s.seq q with data := (t.seq q).data, pc := (s.seq q).pc + 1, next := s.now + 1 } ∧
        SMap.get 0 (t.seq q).data ((s.seq q).dataAddr w) = (s.seq q).reg (iRd w) ∧
        ∀ a, a ≠ (s.seq q).dataAddr w → SMap.get 0 (t.seq q).data a = SMap.get 0 (s.seq q).data a) ∧
    (field w 26 6 = 0x0D →
      ∃ t, exec (.seqMfs q) s = .next t ∧ s.issueFrame t q ∧
        s.wrote t q (iRd w) (s.special q (w % 256) % 2 ^ 32) ((s.seq q).pc + 1) (s.now + 1)) ∧
    (∀ sel, 16 ≤ sel → s.special q sel = 0) ∧ s.special q 9 = q ∧
    s.special q 15 = (if s.paired = false then 0 else if s.sluice = SL.ACTIVE then 1 else 2)

/-- A sequencer stops with fault code 0x80 + imm[6:0] on FAULT, 0x01 where ADD's next word is not in the program, 0x02 where LD or
ST forms an address above 1,023, 0x07 where I2C, PPW or PPR stands on a bus of another mode, and 0x06 when 2^24 cycles have
passed with no WAIT issued: it is faulted, the code and pc stand in SEQ_FAULT, its registers in SEQ_REGS, its operations and
pending events are gone, the quad is dark, and EV 600 is counted. -/
def Obligations.SeqFaultConditions : Prop :=
  ∀ (q : Fin 8) (s : State) (w : Nat),
    (s.issues q w →
      (field w 26 6 = 0x1B → ∃ t, exec (.seqFault q) s = .next t ∧ s.seqFaulted t q (0x80 + w % 128) (s.seq q).pc) ∧
      (field w 26 6 = 0x03 → ¬ s.inProgram q ((s.seq q).pc + 1) →
        ∃ t, exec (.seqAdd q) s = .next t ∧ s.seqFaulted t q 0x01 ((s.seq q).pc + 1)) ∧
      (1023 < (s.seq q).dataAddr w →
        (field w 26 6 = 0x0B → ∃ t, exec (.seqLd q) s = .next t ∧ s.seqFaulted t q 0x02 (s.seq q).pc) ∧
        (field w 26 6 = 0x0C → ∃ t, exec (.seqSt q) s = .next t ∧ s.seqFaulted t q 0x02 (s.seq q).pc)) ∧
      (s.par P.DB_MODE q ≠ 4 →
        (field w 26 6 = 0x29 → ∃ t, exec (.seqPpw q) s = .next t ∧ s.seqFaulted t q 0x07 (s.seq q).pc) ∧
        (field w 26 6 = 0x2A → ∀ b, ∃ t, exec (.seqPpr q b) s = .next t ∧ s.seqFaulted t q 0x07 (s.seq q).pc)) ∧
      (s.busI2c q = false → (s.bus q).owner = .idle → (s.seq q).dataAddr w ≤ 1023 → field w 26 6 = 0x28 →
        ∃ t, exec (.seqI2c q) s = .next t ∧ s.seqFaulted t q 0x07 (s.seq q).pc)) ∧
    ((s.seq q).st = 1 → (s.seq q).waitAt + 2 ^ 24 ≤ s.now →
      ∃ t, exec (.seqWatchdogExpiry q) s = .next t ∧ s.seqFaulted t q 0x06 (s.seq q).pc)

/-- WAIT makes the sequencer wait with its mask and its rd.  The taking of an event completes the WAIT on c, the first event of
the pending set, which lists its events in rising order, that the mask enables: the sequencer runs on at the next word, c is no longer pending and stands in rd, and no other event's pending
state changes (c being no FRAME of a frame bound to another slot).  TRACE is a NOP of one cycle where the sequencer's bit of
TRACE_ENABLE is 0, and else adds a trace mark with its word and pc to the sample buffer. -/
def Obligations.SeqWaits : Prop :=
  ∀ (q : Fin 8) (s : State) (w : Nat),
    (s.issues q w → field w 26 6 = 0x18 →
      ∃ t, exec (.seqWait q) s = .next t ∧ s.issueFrame t q ∧
        t.seq q = { s.seq q with st := 2, mask := w % 2 ^ 16, rd := iRd w, waitAt := s.now }) ∧
    (∀ c, (s.seq q).st = 2 → (s.seq q).pending.find? (bit (s.seq q).mask) = some c →
      (c = 0 → s.slotFor q (s.seq q).frameOf = (s.seq q).slot) → s.inProgram q ((s.seq q).pc + 1) →
      ∃ t, exec (.waitEventTaken q) s = .next t ∧
        (t.seq q).st = 1 ∧ (t.seq q).pc = (s.seq q).pc + 1 ∧ (t.seq q).next = s.now + 1 ∧
        (t.seq q).reg (s.seq q).rd = (if (s.seq q).rd = 0 then 0 else c % 2 ^ 32) ∧
        (∀ r, r ≠ (s.seq q).rd → (t.seq q).reg r = (s.seq q).reg r) ∧
        (∀ c', c' ∈ (t.seq q).pending ↔ c' ≠ c ∧ c' ∈ (s.seq q).pending) ∧
        (t.seq q).data = (s.seq q).data ∧ (t.seq q).ops = (s.seq q).ops ∧
        (∀ q', q' ≠ q → t.seq q' = s.seq q') ∧ t = { s with drive := { s.drive with seqs := t.drive.seqs } }) ∧
    (s.issues q w → field w 26 6 = 0x1A → s.inProgram q ((s.seq q).pc + 1) →
      (bit (s.par P.TRACE_ENABLE) q = false →
        ∃ t, exec (.seqTrace q) s = .next t ∧ s.issueFrame t q ∧
          s.wrote t q 0 0 ((s.seq q).pc + 1) (s.now + 1)) ∧
      (bit (s.par P.TRACE_ENABLE) q = true → bit w 15 = false → s.perf.queue = [] → s.perf.cycle ≠ s.controlNow + 1 →
        s.perf.held < 1024 →
        ∃ t, exec (.seqTrace q) s = .next t ∧ s.wrote t q 0 0 ((s.seq q).pc + 1) (s.now + 1) ∧
          t.par P.SAMPLE_HEAD = (s.par P.SAMPLE_HEAD + 1) % 2 ^ 32 ∧ t.perf.held = s.perf.held + 1 ∧
          t.blob P.SAMPLE_BUFFER 0 (32 * (s.par P.SAMPLE_HEAD % 1024)) 12 =
            leBytes 1 q ++ leBytes 1 1 ++ leBytes 2 1 ++ leBytes 4 w ++ leBytes 4 (s.seq q).pc))

/-- Each of the eight instructions, when the sequencer may issue it and fewer than four operations are in the unit, adds one
operation of its kind, mask, source, latch length and count (for SHW and SHB with count 0, that of the register) behind the
others and goes on to the next word; a count out of its range is some count within it (the model's choice, log entry 17).  It may start in the cycle of the boundary's own action when it is the first one within 8
cycles after a WAIT on a boundary event, and else 8 cycles after issue; then, if such a WAIT came before it, ALIGN_SLIP and
EV 605 count it.  With four operations in the unit it stalls: nothing changes.  (The operation at the front is no zero-time one
whose time has come.) -/
def Obligations.SeqShiftInstructions : Prop :=
  ∀ (q : Fin 8) (s : State) (w : Nat), ∀ e ∈ shiftTable q, field w 26 6 = e.2 → s.issues q w →
    (4 ≤ (s.seq q).ops.length → exec e.1 s = .next s) ∧
    ((s.seq q).ops.length < 4 → s.inProgram q ((s.seq q).pc + 1) →
      (∀ o, (s.seq q).ops.head? = some o → o.kind ≠ 4 ∧ o.kind ≠ 5 ∧ o.kind ≠ 7) →
      ((s.shiftOp q w 0).countOk = false → (s.seq q).align = none → ∃ t n, exec e.1 s = .next t ∧
        1 ≤ n ∧ n ≤ (s.shiftOp q w 0).countTop ∧
        (t.seq q).ops = (s.seq q).ops ++ [{ s.shiftOp q w (s.now + 8) with count := n }] ∧ (t.seq q).pc = (s.seq q).pc + 1) ∧
      ((s.shiftOp q w 0).countOk = true →
      ((s.seq q).align = none →
        ∃ t, exec e.1 s = .next t ∧ s.issueFrame t q ∧
          t.seq q = { s.seq q with
            ops := (s.seq q).ops ++ [s.shiftOp q w (s.now + 8)], issued := (s.seq q).issued + 1
            mustEnd := (t.seq q).mustEnd, pc := (s.seq q).pc + 1, next := s.now + 1 }) ∧
      (∀ τ, (s.seq q).align = some τ → s.now ≤ τ + 8 → e.2 ≠ 0x24 → e.2 ≠ 0x25 → e.2 ≠ 0x27 →
        ∃ t, exec e.1 s = .next t ∧ s.issueFrame t q ∧
          t.seq q = { s.seq q with
            ops := (s.seq q).ops ++ [s.shiftOp q w ((s.seq q).boundary + 8)], issued := (s.seq q).issued + 1
            align := none, mustEnd := (t.seq q).mustEnd, pc := (s.seq q).pc + 1, next := s.now + 1 }) ∧
      (∀ τ, (s.seq q).align = some τ → τ + 8 < s.now →
        ∃ t, exec e.1 s = .next t ∧ (t.seq q).ops = (s.seq q).ops ++ [s.shiftOp q w (s.now + 8)] ∧
          (t.seq q).align = none ∧ (t.seq q).pc = (s.seq q).pc + 1 ∧
          t.par P.ALIGN_SLIP q = (s.par P.ALIGN_SLIP q + 1) % 2 ^ 32 ∧
          t.par P.EVENT_COUNT E.SEQ_ALIGN_SLIP = (s.par P.EVENT_COUNT E.SEQ_ALIGN_SLIP + 1) % 2 ^ 32)))

/-- When the one operation in the unit has run its time, it leaves the unit, whose last end is the time it ended.  One of no time
(STRM, OEC, FSD) whose start has come takes effect: STRM sets the stream's row, word order and position, OEC adds the ports of
its mask to the held ones or removes them, FSD marks the frame-start shift complete.  Before its time nothing changes. -/
def Obligations.ShiftOperationsEnd : Prop :=
  ∀ (q : Fin 8) (s : State) (o : PinOp), (s.seq q).ops = [o] →
    (s.now < max (s.seq q).idleAt o.from_ + s.opCycles q o → exec (.shiftOperationEnd q) s = .next s) ∧
    (max (s.seq q).idleAt o.from_ + s.opCycles q o ≤ s.now →
      (∃ t, exec (.shiftOperationEnd q) s = .next t ∧ (t.seq q).ops = [] ∧
        (t.seq q).idleAt = max (s.seq q).idleAt o.from_ + s.opCycles q o) ∧
      (o.kind = 4 → ¬ (o.num < (s.seq q).mustEnd ∧ (s.seq q).blankEnd ≤ max (s.seq q).idleAt o.from_) →
        ∃ t, exec (.shiftOperationEnd q) s = .next t ∧
          t.seq q = { s.seq q with
            ops := [], idleAt := max (s.seq q).idleAt o.from_, row := (o.value + o.count % 32) % 2 ^ 32
            order := o.src % 2, taken := 0, patternAt := 0 } ∧
          (∀ q', q' ≠ q → t.seq q' = s.seq q') ∧ t = { s with drive := { s.drive with seqs := t.drive.seqs } }) ∧
      (o.kind = 7 → (s.seq q).shifting = true →
        ¬ (o.num < (s.seq q).mustEnd ∧ (s.seq q).blankEnd ≤ max (s.seq q).idleAt o.from_) →
        ∃ t, exec (.shiftOperationEnd q) s = .next t ∧
          t.seq q = { s.seq q with
            ops := [], idleAt := max (s.seq q).idleAt o.from_, shifted := (s.seq q).frameNow + 1
            shiftedAt := max (s.seq q).idleAt o.from_, shifting := false } ∧
          (∀ q', q' ≠ q → t.seq q' = s.seq q') ∧ s.samePars t [P.SHIFT_MARGIN] ∧
          t = { s with drive := { s.drive with seqs := t.drive.seqs }, dict := t.dict }) ∧
      (o.kind = 5 → (s.seq q).replay = [] →
        ¬ (o.num < (s.seq q).mustEnd ∧ (s.seq q).blankEnd ≤ max (s.seq q).idleAt o.from_) →
        ∃ t, exec (.shiftOperationEnd q) s = .next t ∧ (t.seq q).st = (s.seq q).st ∧
          ∀ i, i ∈ (t.seq q).held ↔ if o.src % 2 = 1 then i ∈ (s.seq q).held ∨ (i < 4 ∧ bit o.mask i = true)
            else i ∈ (s.seq q).held ∧ ¬ (i < 4 ∧ bit o.mask i = true)))

/-- I2C with a descriptor in range on an idle bus in I2C mode starts its transaction and is done; PPW and PPR on a push-pull bus with
1 to 32 bits send the low bits of rd and report 0, or, in a member that may not drive, send nothing and report 4; PPR writes
the bits it read, or 0, to rd; the next issue is due 1 + 2 × DB_DIV × n cycles later. -/
def Obligations.DriverBusCommands : Prop :=
  ∀ (q : Fin 8) (s : State) (w : Nat), s.issues q w → s.inProgram q ((s.seq q).pc + 1) →
    (field w 26 6 = 0x28 → (s.bus q).owner = .idle → s.busI2c q = true → (s.seq q).dataAddr w ≤ 1019 →
      field (SMap.get 0 (s.seq q).data ((s.seq q).dataAddr w)) 8 4 ≤ 8 →
      field (SMap.get 0 (s.seq q).data ((s.seq q).dataAddr w)) 0 4 ≤ 8 →
      ∃ t, exec (.seqI2c q) s = .next t ∧ s.wrote t q 0 0 ((s.seq q).pc + 1) (s.now + 1) ∧
        t.bus q = { s.bus q with owner := .program ((s.seq q).dataAddr w), retried := false } ∧
        (∀ b, b ≠ q.val → t.bus b = s.bus b) ∧
        t.outbox.length = (if s.busSilent = true then s.outbox.length else s.outbox.length + 1)) ∧
    (s.par P.DB_MODE q = 4 → 1 ≤ w % 64 → w % 64 ≤ 32 →
      (field w 26 6 = 0x29 →
        ∃ t, exec (.seqPpw q) s = .next t ∧ (t.seq q).pc = (s.seq q).pc + 1 ∧
          (t.seq q).next = s.now + (1 + 2 * s.par P.DB_DIV q * (w % 64)) ∧ (t.seq q).regs = (s.seq q).regs ∧
          (t.seq q).busStatus = (if s.busSilent = true then 4 else 0) ∧
          t.outbox = (if s.busSilent = true then s.outbox
            else .pushPull q (w % 64) ((s.seq q).reg (iRd w) % 2 ^ (w % 64)) :: s.outbox)) ∧
      (field w 26 6 = 0x2A → ∀ b : BitVec 32,
        ∃ t, exec (.seqPpr q b) s = .next t ∧ (t.seq q).pc = (s.seq q).pc + 1 ∧
          (t.seq q).next = s.now + (1 + 2 * s.par P.DB_DIV q * (w % 64)) ∧ t.outbox = s.outbox ∧
          (t.seq q).busStatus = (if s.busSilent = true then 4 else 0) ∧
          (t.seq q).reg (iRd w) =
            (if iRd w = 0 then 0 else if s.busSilent = true then 0 else b.toNat % 2 ^ (w % 64)) ∧
          ∀ r, r ≠ iRd w → (t.seq q).reg r = (s.seq q).reg r))

/-- A program's transaction on bus b (in a device that drives it) ends: acknowledged, with BUS_STATUS 0 and the bus idle; with a first
NACK, counted and retried; with a second one, counted, EV 422 told, status 1; with a line that stays low, counted, the bus
failed, status 3; freed by its nine clocks, counted and tried again; with the clock stretched for 1 ms, counted, EV 424 told, status 2.  Its result stands in the descriptor's
top bits, and BUS becomes pending at a live sequencer.  A member that drives no bus ends with status 4 whatever it hears.  A failed bus that recovers is no longer failed; one that does not
is counted.

A due read of an enabled sensor in a tile with FW starts when its bus runs in I2C mode and is idle, and takes the bus; the
register pointer goes out unless the member may not drive.  An acknowledged read of two bytes frees the bus and writes the
converted value, with the sensor's offset and limited to 16 bits signed, to SENSOR_TEMP; one that fails after its retry leaves
the previous reading. -/
def Obligations.BusTransactionsAndSensorReads : Prop :=
  (∀ (b : Fin 8) (s : State) (a : Nat),
    ((s.bus b).owner = .program a → s.busSilent = false →
      (∀ bytes, ∃ t, exec (.busTransactionEnd b (.ok bytes)) s = .next t ∧ s.programEnded t b a 0 ∧ s.samePars t [P.EVENT_MISSED, P.EVENT_COUNT]) ∧
      ((s.bus b).retried = false →
        ∃ t, exec (.busTransactionEnd b .nack) s = .next t ∧ t.bus b = { s.bus b with retried := true } ∧
          t.par P.DB_ERRORS b = (s.par P.DB_ERRORS b + 1) % 2 ^ 32 ∧ s.samePars t [P.DB_ERRORS] ∧
          t = { s with drive := { s.drive with buses := t.drive.buses }, dict := t.dict } ∧
          ∀ b', b' ≠ b.val → t.bus b' = s.bus b') ∧
      ((s.bus b).retried = true →
        ∃ t, exec (.busTransactionEnd b .nack) s = .next t ∧ s.programEnded t b a 1 ∧ s.told t E.DB_NACK ∧
          t.par P.DB_ERRORS b = (s.par P.DB_ERRORS b + 1) % 2 ^ 32) ∧
      (∃ t, exec (.busTransactionEnd b .stuck) s = .next t ∧ s.programEnded t b a 3 ∧ (t.bus b).failed = true ∧
          t.par P.DB_ERRORS b = (s.par P.DB_ERRORS b + 1) % 2 ^ 32) ∧
      (∃ t, exec (.busTransactionEnd b .freed) s = .next t ∧ t.drive = s.drive ∧ s.samePars t [P.DB_ERRORS] ∧
          t.par P.DB_ERRORS b = (s.par P.DB_ERRORS b + 1) % 2 ^ 32) ∧
      (∃ t, exec (.busStretchTimeout b) s = .next t ∧ s.programEnded t b a 2 ∧ s.told t E.DB_TIMEOUT ∧
          t.par P.DB_ERRORS b = (s.par P.DB_ERRORS b + 1) % 2 ^ 32)) ∧
    ((s.bus b).owner = .program a → s.busSilent = true → ∀ r, ∃ t, exec (.busTransactionEnd b r) s = .next t ∧
      s.programEnded t b a 4) ∧
    ((s.bus b).failed = true →
      (∃ t, exec (.busStuckRetry b true) s = .next t ∧ t.bus b = { s.bus b with failed := false, stuckTold := false } ∧
        (∀ b', b' ≠ b.val → t.bus b' = s.bus b') ∧ t = { s with drive := { s.drive with buses := t.drive.buses } }) ∧
      (∃ t, exec (.busStuckRetry b false) s = .next t ∧ t.par P.DB_ERRORS b = (s.par P.DB_ERRORS b + 1) % 2 ^ 32 ∧
        (∀ i, i ≠ b.val → i < 2 ^ 16 → t.par P.DB_ERRORS i = s.par P.DB_ERRORS i) ∧ s.samePars t [P.DB_ERRORS] ∧
        t = { s with dict := t.dict }))) ∧
  (∀ (i : Fin 16) (s : State),
    (s.isTile = true → s.rdy B.FW = true → s.sensorOn i = true → s.busI2c (s.sensorBus i) = true →
      (s.bus (s.sensorBus i)).failed = false → (s.bus (s.sensorBus i)).owner = .idle →
      ∃ t, exec (.sensorReadStart i) s = .next t ∧
        t.bus (s.sensorBus i) = { s.bus (s.sensorBus i) with owner := .sensor i, retried := false } ∧
        (∀ b, b ≠ s.sensorBus i → t.bus b = s.bus b) ∧
        t = { s with drive := { s.drive with buses := t.drive.buses }
                     outbox := if s.busSilent = true then s.outbox
                       else .bus (s.sensorBus i) (field (s.par P.SENSOR_SOURCE i) 16 7) true
                         [BitVec.ofNat 8 (field (s.par P.SENSOR_SOURCE i) 8 8)] :: s.outbox }) ∧
    ((s.bus (s.sensorBus i)).owner = .sensor i →
      (∀ hi lo : Byte, ∃ t, exec (.sensorReadComplete i (.ok [hi, lo])) s = .next t ∧
        (t.bus (s.sensorBus i)).owner = .idle ∧ SMap.get 0 t.tile.sensorAt i = s.now + 1 ∧
        t.par P.SENSOR_TEMP i = unsigned 16 (clampI (-32767) 32767
          (sensorTemp (field (s.par P.SENSOR_SOURCE i) 0 2) (hi.toNat * 2 ^ 8 + lo.toNat) +
            signed 16 (s.par P.SENSOR_OFFSET i))) ∧
        s.samePars t [P.SENSOR_TEMP] ∧ t = { s with drive := t.drive, tile := t.tile, dict := t.dict }) ∧
      ((s.bus (s.sensorBus i)).retried = true →
        ∃ t, exec (.sensorReadComplete i .nack) s = .next t ∧ (t.bus (s.sensorBus i)).owner = .idle ∧
          s.samePars t [P.DB_ERRORS, P.EVENT_COUNT] ∧ t = { s with drive := t.drive, dict := t.dict, ev := t.ev })))

/-- On a quad whose grid runs: a subframe boundary of an unpaired tile's enabled port lights the port exactly where nothing keeps it
dark, not where a pipeline restart has it drive its output enable low, and on the reference port presents SUBFRAME with its number; a row slot sets the row, the end of its blanking and
presents BLANK; a plane boundary in B mode with an idle shift unit presents PLANE inside a frame's schedule, and with
operations that end after it stops the sequencer with fault 0x05.  A faulted quad that is to restart at a frame boundary, with no
shift under way, is stopped, waits for its first frame-start shift, and EV 421 is told. -/
def Obligations.RefreshBoundaries : Prop :=
  (∀ (p : Fin 32) (k : Nat) (m : Fin 128) (d : Option SubHeard) (s : State),
    let u := s.subframeIn p m
    s.isTile = true → s.paired = false → s.red.activeAt = none → u.gridRuns (p / 4) = true → (u.portCfg p).portOn p = true →
    ∃ t, exec (.subframeBoundary p k m d) s = .next t ∧ (p.val ∈ t.drive.lit ↔ u.mayLight p = true) ∧
      (s.start.oeLowDue.contains p.val = true → p.val ∉ t.drive.lit) ∧
      (∀ p', p' ≠ p.val → (p' ∈ t.drive.lit ↔ p' ∈ s.drive.lit)) ∧
      ((u.gridCfg (p / 4)).refPort s.rate (p / 4) = p.val →
        (t.seq (p / 4)).subNow = m ∧ (t.seq (p / 4)).boundary = s.now ∧
          ((s.seq (p / 4)).alive = true → 4 ∈ (t.seq (p / 4)).pending)) ∧
      (∀ q, q ≠ p.val / 4 → t.seq q = s.seq q)) ∧
  (∀ (q : Fin 8) (r : Fin 32) (s : State), s.gridRuns q = true →
    ∃ t, exec (.rowSlotBoundary q r) s = .next t ∧ (t.seq q).rowNow = r ∧ (t.seq q).boundary = s.now ∧
      (t.seq q).blankEnd = s.now + 8 + (s.gridCfg q).par P.BLANK_TIME / 4 ∧
      ((s.seq q).alive = true → 3 ∈ (t.seq q).pending) ∧ ∀ q', q' ≠ q.val → t.seq q' = s.seq q') ∧
  (∀ (q : Fin 8) (s : State), s.gridRuns q = true → (s.gridCfg q).qMode q = 2 → (s.seq q).alive = true →
    ((s.seq q).ops = [] → (s.seq q).planeFrame ≠ 0 → 
      (s.seq q).planes < ((s.frameCfg q ((s.seq q).planeFrame - 1)).planeList q).length →
      ∃ t, exec (.planeBoundary q) s = .next t ∧ (t.seq q).boundary = s.now ∧ 2 ∈ (t.seq q).pending ∧
        ∀ q', q' ≠ q.val → t.seq q' = s.seq q') ∧
    ((s.seq q).ops ≠ [] → s.now + 8 ≤ s.unitEnd q →
      ∃ t, exec (.planeBoundary q) s = .next t ∧ s.seqFaulted t q 0x05 (s.seq q).pc)) ∧
  ∀ (q : Fin 8) (s : State), (s.seq q).st = 3 → (s.seq q).dark = 1 → s.tile.shift = none →
    ∃ t, exec (.quadRestartAtBoundary q) s = .next t ∧ s.told t E.QUAD_RESTART ∧
      t.seq q = { s.seq q with st := 0, dark := 3, restartAt := some s.now, planeFrame := 0, planes := 0 } ∧
      (∀ q', q' ≠ q.val → t.seq q' = s.seq q') ∧ s.samePars t [P.EVENT_COUNT] ∧
      t = { s with drive := { s.drive with seqs := t.drive.seqs }, dict := t.dict, ev := t.ev }

/-- A strand's health read starts where health reads run in the quad and its I2C bus is idle: it takes the bus, which carries the
strand's address and the register.  Its acknowledged end frees the bus and begins the strand's next window; a second NACK ends it
with no result, counted in READ_ERRORS.  Each second of a tile with FW makes every lamp younger than 2,046 s one second older, and
an OK one that reaches HEALTH_STALE UNTESTED.  The changed fault list is written whole.  HEALTH_COMMAND op 1 makes every lamp of
its range UNTESTED and op 2 makes it OPEN, and no other lamp changes. -/
def Obligations.HealthReads : Prop :=
  (∀ (q : Fin 8) (i : Fin 16) (s : State), s.healthRuns q i = true → s.busI2c q = true → (s.bus q).failed = false →
    (s.bus q).owner = .idle → ∃ t, exec (.healthReadStart q i) s = .next t ∧
      t.bus q = { s.bus q with owner := .health i, retried := false } ∧ (∀ b, b ≠ q.val → t.bus b = s.bus b) ∧
      t.outbox = .bus q (field (s.par P.HEALTH_SOURCE q) 16 7 + i) true
        [BitVec.ofNat 8 (field (s.par P.HEALTH_SOURCE q) 8 8)] :: s.outbox ∧
      t.health = { s.health with started := t.health.started } ∧
      t = { s with drive := { s.drive with buses := t.drive.buses }, health := t.health, outbox := t.outbox }) ∧
  (∀ (q : Fin 8) (i : Fin 16) (s : State), (s.bus q).owner = .health i →
    (∀ bytes, ∃ t, exec (.healthReadComplete q i (.ok bytes)) s = .next t ∧ (t.bus q).owner = .idle ∧
      SMap.get 0 t.health.readAt (16 * q + i) = s.now + 1 ∧ ∀ x ∈ t.health.tested, x / 2 ^ 20 ≠ 16 * q + i) ∧
    ((s.bus q).retried = true → ∃ t, exec (.healthReadComplete q i .nack) s = .next t ∧ (t.bus q).owner = .idle ∧
      t.par P.READ_ERRORS q = (s.par P.READ_ERRORS q + 1) % 2 ^ 32 ∧ t.health.lamps = s.health.lamps ∧
      s.told t E.HEALTH_READ_FAILED)) ∧
  (∀ s : State, s.isTile = true → s.rdy B.FW = true →
    ∃ t, exec .lampAgeSecond s = .next t ∧
      (∀ l, (s.lampOf l).age + 1 < 2047 →
        t.lampOf l = { s.lampOf l with
          age := (s.lampOf l).age + 1
          status := if (s.lampOf l).status = 0 ∧ s.par P.HEALTH_STALE ≤ (s.lampOf l).age + 1 then 3
            else (s.lampOf l).status }) ∧
      t = { s with health := { s.health with lamps := t.health.lamps } }) ∧
  (∀ s : State, s.isTile = true → s.health.listDue = true →
    exec .faultListWrite s = .next { s with health := { s.health with stored := s.health.list, listDue := false } }) ∧
  ∀ (s : State) (v : Nat) (rest : List Nat), s.health.cmds = v :: rest →
    (field v 56 8 = 1 → ∃ t, exec .healthClear s = .next t ∧ t.health.cmds = rest ∧
      ∀ l, t.lampOf l = if field v 0 21 ≤ l ∧ l < field v 0 21 + field v 32 21 then {} else s.lampOf l) ∧
    (field v 56 8 = 2 → ∃ t, exec .healthDeclare s = .next t ∧ t.health.cmds = rest ∧
      ∀ l, t.lampOf l = if field v 0 21 ≤ l ∧ l < field v 0 21 + field v 32 21 then
        { s.lampOf l with status := 1, from_ := 0 } else s.lampOf l)

/-- A pass clears a lamp's strikes and makes it OK unless it is declared.  A fail of the kind of the last strikes adds one and one of
the other kind begins again at 1; either makes the lamp's age 0.  The third consecutive fail of a kind of an OK or UNTESTED
lamp, and no fewer, declares it OPEN or SHORT, masked from two frames after the one the front buffer holds.  No other lamp
changes. -/
def Obligations.LampResultsAndDeclarations : Prop :=
  ∀ (s : State) (lamp : Nat) (o sh : Bool),
    (∀ l, l ≠ lamp → (s.lampResult lamp (o, sh)).lampOf l = s.lampOf l) ∧
    (o = false → sh = false →
      (s.lampResult lamp (o, sh)).lampOf lamp =
        { s.lampOf lamp with strikes := 0, kind := 0, age := 0
                             status := if (s.lampOf lamp).status = 1 ∨ (s.lampOf lamp).status = 2 then
                               (s.lampOf lamp).status else 0 }) ∧
    ((o = true ∨ sh = true) →
      let kind := if sh = true then 1 else 0
      let fails := if (s.lampOf lamp).strikes ≠ 0 ∧ (s.lampOf lamp).kind ≠ kind then 1 else (s.lampOf lamp).strikes + 1
      ((s.lampResult lamp (o, sh)).lampOf lamp).age = 0 ∧ ((s.lampResult lamp (o, sh)).lampOf lamp).kind = kind ∧
        ((s.lampResult lamp (o, sh)).lampOf lamp).strikes = min fails 2 ∧
        (fails = 3 → (s.lampOf lamp).status = 0 ∨ (s.lampOf lamp).status = 3 →
          ((s.lampResult lamp (o, sh)).lampOf lamp).status = kind + 1 ∧
            ((s.lampResult lamp (o, sh)).lampOf lamp).from_ = s.frontFrame + 2 ∧
            s.told (s.lampResult lamp (o, sh)) (if sh = true then E.LAMP_SHORT else E.LAMP_OPEN)) ∧
        (fails < 3 → ((s.lampResult lamp (o, sh)).lampOf lamp).status = (s.lampOf lamp).status ∧
          (s.lampResult lamp (o, sh)).dict = s.dict))

/-- A supply that rises is valid, and VDDIO_G valid before the option bytes are read puts the pin groups into the weak pull-down or
high impedance.  A dip of VDD_CORE, VDD_SRAM or VDDIO_G asserts power-on reset, which (no trip being latched) ends READY_MAP and
the option read and keeps what fuses and flash hold; another supply that falls is only no longer valid.  Power-on reset is
released when the three are valid, with RESET_CAUSE L0 from power-on; under a latched trip, only when the core was cleared, from a
trip.  A lamp bank that becomes valid takes the weak pull-down and its class, its map is applied after the option read, and one
whose supply leaves its range loses its pins, its ports and its buses. -/
def Obligations.SuppliesAndPowerOnReset : Prop :=
  (∀ (x : Supply) (s : State), ∃ t, exec (.supplyValid x) s = .next t ∧ t.valid (supplyNum x) = true ∧
    (∀ n, n ≠ supplyNum x → t.valid n = s.valid n) ∧
    (∀ g, g < 16 → SMap.get .off t.start.groups g =
      if x = .vddioG ∧ s.start.optionRead = false then (if g = 9 ∨ 13 ≤ g then .highZ else .weakDown)
      else SMap.get .off s.start.groups g) ∧
    t = { s with start := { s.start with valid := t.start.valid, groups := t.start.groups } }) ∧
  (∀ (x : Supply) (deep : Bool) (s : State), x = .vddCore ∨ x = .vddSram ∨ x = .vddioG →
    ∃ t, exec (.supplyDip x deep) s = .next t ∧ t.start.por = true ∧ t.valid (supplyNum x) = false ∧
      t.pending = s.pending ∧ t.now = s.now ∧ t.start.tripped = s.start.tripped ∧
      (s.start.tripped = false → t.start.ready = 0 ∧ t.start.optionRead = false ∧ t.start.resetting = some .l0 ∧
        t.od.stored = s.od.stored ∧ t.upd.slots = s.upd.slots ∧ t.store.flash = s.store.flash ∧
        t.start.otpA = s.start.otpA ∧ t.start.otpB = s.start.otpB ∧ t.security.keys = s.security.keys)) ∧
  (∀ (x : Supply) (s : State), x ≠ .vddCore → x ≠ .vddSram → x ≠ .vddioG →
    ∃ t, exec (.supplyFall x) s = .next t ∧ t.valid (supplyNum x) = false ∧
      (∀ n, n ≠ supplyNum x → t.valid n = s.valid n) ∧ t = { s with start := { s.start with valid := t.start.valid } }) ∧
  (∀ s : State, s.start.por = true → s.monitored = true →
    ∃ t, exec .porRelease s = .next t ∧ t.start.por = false ∧ t.pending = s.pending ∧ t.now = s.now ∧
      (s.start.tripped = false → t.par P.RESET_CAUSE = 0 ∧ t.start.resetting = some .l0 ∧ t.start.ready = 0 ∧
        (t.start.heldByPin = true ↔ s.start.resetN = false)) ∧
      (s.start.tripped = true → s.start.coreCleared = true → t.start.tripped = false ∧ t.par P.RESET_CAUSE = 5) ∧
      (s.start.tripped = true → s.start.coreCleared = false → t.start.tripped = true ∧
        t.par P.RESET_COUNT 0 = (s.par P.RESET_COUNT 0 + 1) % 2 ^ 32)) ∧
  ∀ (b : Fin 4) (s : State),
    (∀ high, s.valid (7 + b) = false →
      ∃ t, exec (.bankSupplyValid b high) s = .next t ∧ t.valid (7 + b) = true ∧
        SMap.get .off t.start.banks b = .weakDown ∧ (b.val ∈ t.start.class33 ↔ high = true) ∧
        t = { s with start := { s.start with valid := t.start.valid, banks := t.start.banks, class33 := t.start.class33 } }) ∧
    (s.start.optionRead = true → SMap.get .off s.start.banks b = .weakDown →
      ∃ t, exec (.bankMapApply b) s = .next t ∧ SMap.get .off t.start.banks b = .map ∧
        t = { s with start := { s.start with banks := t.start.banks } }) ∧
    (s.valid (7 + b) = true →
      ∃ t, exec (.bankSupplyLeavesRange b) s = .next t ∧ t.valid (7 + b) = false ∧
        SMap.get .off t.start.banks b = .off ∧ (∀ p, p ∈ t.start.oeFree ↔ p ∈ s.start.oeFree ∧ p / 8 ≠ b.val) ∧
        (t.bus (2 * b)).owner = .idle ∧ (t.bus (2 * b + 1)).owner = .idle ∧
        (s.start.optionRead = true → s.told t E.BANK_SUPPLY_LOST))

/-- RESET_N falling starts the count of its low time.  A press of less than 10 µs is ignored, one of less than 200 ms enters the short
reset, and one whose count reaches 200 ms, or is seen high only then, or lasts longer than 10 µs while REFCLK_IN does not run,
the long reset; a request is carried out when its time has
come.  With no trip latched and no reset under way, each is carried out at the class's level in the record, deepened as R64
says, with RESET_CAUSE naming level, escalation and source; with a trip latched, or while a reset as deep is carried out, it is only counted.  A self-refresh that times out
in an L1 reset deepens it to L0. -/
def Obligations.ResetsCarriedOut : Prop :=
  (∀ s : State, s.start.resetN = true → exec .resetNAssert s =
    .next { s with start := { s.start with resetN := false, lowSince := if s.start.por then none else some s.now } }) ∧
  (∀ (s : State) (τ : Nat), s.start.lowSince = some τ → s.start.resetting = none → s.start.tripped = false →
    (∃ t, exec .resetNLongCount s = .next t ∧ s.resetInto t (s.classLevel .long) 2 ∧ t.start.longHeld = true) ∧
    (∀ ref, s.now < τ + 10 * us → exec (.resetNRelease ref) s = .next { s with start := { s.start with
      resetN := true, lowSince := none, longHeld := false, heldByPin := false } }) ∧
    (τ + 10 * us ≤ s.now → s.now < τ + 200 * ms →
      ∃ t, exec (.resetNRelease true) s = .next t ∧ s.resetInto t (s.classLevel .short) 1 ∧ t.start.resetN = true) ∧
    (∀ ref, τ + 200 * ms ≤ s.now ∨ (ref = false ∧ τ + 10 * us < s.now) →
      ∃ t, exec (.resetNRelease ref) s = .next t ∧ s.resetInto t (s.classLevel .long) 2 ∧ t.start.resetN = true)) ∧
  (∀ (s : State) (c : ResetClass), s.start.request = some c → s.start.resetting = none → s.start.tripped = false →
    ∃ t, exec .resetRequestExecute s = .next t ∧ s.resetInto t (s.classLevel c) (if c = .short then 3 else 4) ∧
      t.start.request = none) ∧
  (∀ (s : State) (c : ResetClass), s.start.request = some c →
    s.start.tripped = true ∨ (∃ r, s.start.resetting = some r ∧ levelDepth (s.classLevel c) ≤ levelDepth r) →
    exec .resetRequestExecute s = .next ({ s with start := { s.start with request := none } }.bump P.RESET_COUNT
      (levelCode (s.classLevel c)))) ∧
  ∀ s : State, s.dram.entering = true → s.start.resetting = some .l1 →
    ∃ t, exec .selfRefreshTimeout s = .next t ∧ t.start.resetting = some .l0 ∧ t.start.ready = 0 ∧
      t.par P.RESET_CAUSE = 8 + s.par P.RESET_CAUSE % 8 ∧ t.pending = s.pending ∧ t.now = s.now

/-- The option read takes the record the procedure of R67 to R72 chooses, its role and its pin map.  A region whose turn has come and
that has its supplies is released; a turn that expires is told and the device moves on.  A region whose clock-good drops is held,
its ready bits are clear, and Control, Memory and Time lead to safe hold; a region whose clock-good returns after the start is
released again.  Low-water sets OD_MIN.  A ready bit of the role rises when its function is usable and its prerequisites, and
theirs in turn, are set, and no other bit but REDUNDANCY_SYNC clears then. -/
def Obligations.StagedStart : Prop :=
  (∀ (ok : Bool) (s : State), s.start.por = false → s.start.optionRead = false → s.start.tripped = false →
    let c := s.chooseRecord ok
    ∃ t, exec (.optionByteRead ok) s = .next t ∧ t.start.optionRead = true ∧ t.start.record = c.1 ∧ t.start.flashOk = ok ∧
      t.start.role = (if bit c.2.1 5 = true then .none else recordRole c.1) ∧
      t.par P.OPTION_SOURCE = c.2.1 ∧ t.par P.ROLE_REQUESTED = recField c.1 8 2 ∧
      (∀ g, g < 16 → SMap.get .off t.start.groups g = .map) ∧
      t = { s with start := t.start, dict := t.dict, ev := t.ev }) ∧
  (∀ (r : Region) (tie : Bool) (s : State), s.start.optionRead = true → s.start.por = false → s.start.tripped = false →
    s.start.heldByPin = false → s.start.longHeld = false → s.isReleased r = false → r.num ≤ s.start.turn →
    s.regionSupplied r = true → (r = .image → s.isReleased .memory = true ∧ s.start.safeHold = false) →
    ∃ t, exec (.regionRelease r tie) s = .next t ∧ t.isReleased r = true ∧ SMap.get false t.start.clockGood r.num = true ∧
      (∀ r', r' ≠ r → t.isReleased r' = s.isReleased r') ∧ (s.start.turn = r.num → s.start.turn < t.start.turn)) ∧
  (∀ s : State, s.start.optionRead = true → s.start.heldByPin = false → s.start.longHeld = false →
    s.start.tripped = false → s.start.resetting ≠ none → s.start.turn ≤ 4 →
    ∃ t, exec .clockGoodTurnExpiry s = .next t ∧ s.told t E.CLOCK_GOOD_TIMEOUT ∧ s.start.turn < t.start.turn ∧
      t.start.released = s.start.released ∧ t = { s with start := t.start, dict := t.dict, ev := t.ev }) ∧
  (∀ (r : Region) (s : State), s.isReleased r = true →
    ∃ t, exec (.clockGoodDrop r) s = .next t ∧ t.isReleased r = false ∧
      (∀ i, i < 16 → bit (regionBits r) i = true → t.rdy i = false) ∧
      (r = .control ∨ r = .memory ∨ r = .time → t.start.safeHold = true)) ∧
  (∀ (r : Region) (s : State), s.isReleased r = false → s.start.resetting = none → s.start.por = false →
    s.start.tripped = false → s.regionSupplied r = true → 5 ≤ s.start.turn → r ≠ .image →
    ∃ t, exec (.clockGoodReturn r) s = .next t ∧ t.isReleased r = true ∧
      ∀ r', r' ≠ r → t.isReleased r' = s.isReleased r') ∧
  (∀ s : State, s.start.lowWater = false → s.isReleased .control = true → s.start.resetting = none →
    ∃ t, exec .lowWaterEntry s = .next t ∧ t.start.lowWater = true ∧ t.rdy B.OD_MIN = true ∧
      t.start.released = s.start.released ∧ t.start.role = s.start.role) ∧
  ∀ (i : Fin 16) (s : State), i.val ≠ 14 → s.start.tripped = false → s.usable i = true → s.rdy i = false →
    i.val ∈ roleBits s.start.role s.paired → (∀ p ∈ prereqs s.isHead i, s.grounded p) →
    ∃ t, exec (.readyBitRise i) s = .next t ∧ t.grounded i ∧ SMap.get 0 t.start.readyAt i = s.now ∧
      ∀ n, n ≠ 14 → s.grounded n → t.grounded n

/-- A cluster that faults is quiesced and no other cluster: a lane quad's lanes leave their state, a quad of lamp ports stops and is
dark (the clusters' numbers are the model's, log entry 28).  It runs again at a frame boundary, with EV 21, and a quad of lamp ports
with EV 421.  A fault of Image/Drive
restarts the pipeline: the region is held, its ready bits are clear, and Time, Memory and Front go on.  A fault that Control,
Memory or Time cannot contain puts the device into safe hold with Image/Drive held and the pump outputs off. -/
def Obligations.FaultContainment : Prop :=
  (∀ (r : Region) (c : Fin 32) (s : State), s.isReleased r = true →
    ∃ t, exec (.clusterFault r c) s = .next t ∧
      (∀ n, n ∈ t.start.quiesced ↔ n ∈ s.start.quiesced ∨ n = 32 * r.num + c) ∧
      t.start = { s.start with quiesced := t.start.quiesced } ∧
      (r = .front → c.val < 8 → ∀ n : Fin 32, t.laneState n =
        if n.val / 4 = c.val ∧ s.laneState n ≠ L.OFF then L.SIGNAL else s.laneState n) ∧
      (r = .image → s.isTile = true → c.val < 8 → (t.seq c).st = 3 ∧ (t.seq c).dark ≠ 0 ∧
        ∀ q, q ≠ c.val → t.seq q = s.seq q) ∧
      (8 ≤ c.val ∨ (r ≠ .front ∧ (r ≠ .image ∨ s.isTile = false)) → t = { s with start := t.start })) ∧
  (∀ (r : Region) (c : Fin 32) (s : State), 32 * r.num + c.val ∈ s.start.quiesced →
    ∃ t, exec (.clusterRestartAtFrameBoundary r c) s = .next t ∧
      (∀ n, n ∈ t.start.quiesced ↔ n ∈ s.start.quiesced ∧ n ≠ 32 * r.num + c) ∧
      t.start = { s.start with quiesced := t.start.quiesced } ∧
      (r = .image → s.isTile = true → c.val < 8 → (s.seq c).st = 3 → (s.seq c).dark = 1 → s.tile.shift = none →
        (t.seq c).st = 0 ∧ (t.seq c).dark = 3 ∧ s.told t E.QUAD_RESTART) ∧
      (r ≠ .image ∨ s.isTile = false ∨ 8 ≤ c.val → s.told t E.CLUSTER_RESTART)) ∧
  (∀ s : State, s.isReleased .image = true → s.start.restarting = false → s.start.safeHold = false →
    ∃ t, exec .imageDriveFault s = .next t ∧ t.start.restarting = true ∧ t.isReleased .image = false ∧
      (∀ i, i < 16 → bit imageBits i = true → t.rdy i = false) ∧ t.tile.front = none ∧
      (∀ r, r ≠ .image → t.isReleased r = s.isReleased r) ∧ t.time = s.time ∧
      t.dram = { s.dram with cisternBad := t.dram.cisternBad } ∧ t.lane = s.lane ∧
      t.eth = s.eth ∧ t.security = s.security ∧ t.upd = s.upd ∧ t.od = s.od) ∧
  ∀ (r : Region) (s : State), r = .control ∨ r = .memory ∨ r = .time → s.isReleased r = true →
    s.start.safeHold = false →
    ∃ t, exec (.uncontainedRegionFault r) s = .next t ∧ t.start.safeHold = true ∧ t.isReleased .image = false ∧
      (∀ i, i < 16 → bit imageBits i = true → t.rdy i = false) ∧ t.tile.front = none ∧ t.pump.duty = [] ∧
      s.told t E.SAFE_HOLD ∧ t.security = s.security ∧ t.upd = s.upd ∧ t.od = s.od

/-- Changed settings are written to flash as one whole record of the storable values in force.  At low-water, outside a trial, the
boot ROM starts the confirmed slot's image when it verifies; where neither slot's image does and no factory image is allowed,
none starts, and no role is in force.

An accepted activation's reset is an L1 reset with source 3, and so is that of a window that ends unconfirmed.  A trial whose
AUTO_CONFIRM bits have all been set for 60 s inside the window is confirmed, told: its slot is the confirmed one, no window runs, and with
FLOOR_ADVANCE the floor rises to the manifest's security version. -/
def Obligations.SettingsBootAndConfirmation : Prop :=
  ((∀ s : State, s.od.dirty = true →
    ∃ t, exec .settingsStoreWrite s = .next t ∧ t.od.dirty = false ∧
      (∀ e, e ∈ t.od.stored ↔ e ∈ s.dict ∧ storable (e.1 / 65536) = true) ∧
      (∀ e, e ∈ t.od.storedBlobs ↔ e ∈ s.blobs ∧ storable (e.1 / 268435456 / 65536) = true) ∧
      t = { s with od := { s.od with dirty := false, stored := t.od.stored, storedBlobs := t.od.storedBlobs } }) ∧
  ∀ s : State, s.start.lowWater = true → s.start.stopped = false → s.upd.started = false → s.start.noFirmware = false →
    s.start.role ≠ .none → s.start.tripped = false → s.upd.st ≠ U.TRIAL →
    (s.bootReject (s.slotImage s.upd.confirmed) = none →
      ∃ t, exec .secureBootVerify s = .next t ∧ t.upd.running = s.upd.confirmed ∧ t.upd.started = true ∧
        t.start.role = s.start.role ∧ t.security.rootHash = s.security.rootHash) ∧
    ((∀ n, s.bootReject (s.slotImage n) ≠ none) → recField s.start.record 96 2 ≠ 2 →
      ∃ t, exec .secureBootVerify s = .next t ∧ t.start.noFirmware = true ∧ t.start.role = .none ∧
        t.upd.started = false)) ∧
  (∀ s : State,
    (s.upd.resetDue ≠ none → s.start.tripped = false → s.start.resetting = none →
      ∃ t, exec .activationReset s = .next t ∧ s.resetInto t .l1 3) ∧
    (s.upd.resetDue = none → exec .activationReset s = .next s) ∧
    (s.upd.st = U.TRIAL → s.upd.windowAt ≠ none → s.start.tripped = false → s.start.resetting = none →
      ∃ t, exec .confirmWindowExpiry s = .next t ∧ s.resetInto t .l1 3) ∧
    (s.upd.st ≠ U.TRIAL ∨ s.upd.windowAt = none → exec .confirmWindowExpiry s = .next s) ∧
    (s.upd.st = U.TRIAL → s.windowOver = false → s.par P.AUTO_CONFIRM ≠ 0 → s.par P.AUTO_CONFIRM < 2 ^ 16 →
      (∀ i, i < 16 → bit (s.par P.AUTO_CONFIRM) i = true →
        s.rdy i = true ∧ SMap.get 0 s.start.readyAt i + 60 * sec ≤ s.now) →
      let v := min (mfield s.upd.manifest 18 2) 255
      ∃ t, exec .autoConfirmTimer s = .next t ∧ t.upd.st = U.IDLE ∧ t.upd.confirmed = s.upd.trial ∧ t.upd.windowAt = none ∧
        t.upd.slots = s.upd.slots ∧ s.told t E.CONFIRMED ∧ s.samePars t [P.EVENT_COUNT] ∧
        t.security = { s.security with floor := if s.par P.FLOOR_ADVANCE = 1 then max s.security.floor v else s.security.floor } ∧
        t = { s with upd := t.upd, security := t.security, blobs := t.blobs, dict := t.dict, ev := t.ev }) ∧
    (s.upd.st ≠ U.TRIAL ∨ s.windowOver = true ∨ s.par P.AUTO_CONFIRM = 0 → exec .autoConfirmTimer s = .next s))

/-- A lane in SIGNAL (its quad PLL locked) that detects signal goes to CDR; from CDR to ALIGN when the clock is recovered and back to
SIGNAL when it is not in time; from ALIGN to ADAPT, with the polarity found where it is automatic; from ADAPT to UP, with EV 80 and
the CTLE found.  A lane not UP in 100 ms restarts from SIGNAL.  An UP lane that sees no comma loses sync: counted, and back to ALIGN,
or to SIGNAL at the third loss within 1 s.  A held lane that is OFF starts again after its 1 µs.  A quad PLL that loses lock takes
every lane of the quad that is not OFF to SIGNAL, and its relock takes those to CDR, and one that serves a receiver to DP.  A rate hunt goes on to the next
rate and restarts the ports in auto. -/
def Obligations.LaneBringUp : Prop :=
  (∀ (n : Fin 32) (s : State),
    (s.laneState n = L.SIGNAL → s.laneUse n / 16 ≠ 4 → s.quadOut (n.val / 4) = false →
      ∃ t, exec (.laneSignalDetect n) s = .next t ∧ s.laneMoved t n L.CDR) ∧
    (s.laneState n = L.CDR → (∃ t, exec (.cdrLock n) s = .next t ∧ s.laneMoved t n L.ALIGN) ∧
      ∀ tie, ∃ t, exec (.cdrTimeout n tie) s = .next t ∧ s.laneMoved t n L.SIGNAL) ∧
    (∀ inv, s.laneState n = L.ALIGN →
      ∃ t, exec (.laneAlign n inv) s = .next t ∧ s.laneMoved t n L.ADAPT ∧
        t.blobByte P.EQ_STATE n 6 =
          if bit (s.lanePolarity n) 2 = true then b2n inv else s.blobByte P.EQ_STATE n 6) ∧
    (∀ ctle taps, s.laneState n = L.ADAPT →
      ∃ t, exec (.laneAdaptComplete n ctle taps) s = .next t ∧ t.laneState n = L.UP ∧ s.told t E.LANE_UP ∧
        (t.laneOf n).adapted = true ∧
        t.blobByte P.EQ_STATE n 0 = (if (s.laneOf n).adapted = true then s.blobByte P.EQ_STATE n 0 else ctle.val) ∧
        ∀ m : Fin 32, m ≠ n → t.laneState m = s.laneState m) ∧
    (∀ tie, s.laneState n = L.CDR ∨ s.laneState n = L.ALIGN ∨ s.laneState n = L.ADAPT ∨
        (tie = true ∧ s.laneUp n = true ∧ s.enteredNow n = true) →
      ∃ t, exec (.laneBringupTimer n tie) s = .next t ∧ s.laneMoved t n L.SIGNAL ∧ s.told t E.LANE_BRINGUP_TIMEOUT ∧
        (t.laneOf n).adapted = false) ∧
    (s.laneState n = L.UP →
      ∃ t, exec (.commaTimeout n) s = .next t ∧ s.told t E.SYNC_LOST ∧
        t.par P.SYNC_LOSS n = (s.par P.SYNC_LOSS n + 1) % 2 ^ 32 ∧
        s.laneMoved t n (if 2 ≤ ((s.laneOf n).losses.filter fun x => decide (s.now < x + sec)).length then L.SIGNAL
          else L.ALIGN)) ∧
    (n.val ∈ s.lane.hold → s.laneState n = L.OFF → s.laneUse n / 16 ≠ 0 →
      ∃ t, exec (.laneOffHoldExpiry n) s = .next t ∧ n.val ∉ t.lane.hold ∧
        t.laneState n = (if s.laneUse n / 16 = 4 ∧ s.quadOut (n / 4) = false then L.DP else L.SIGNAL) ∧
        ∀ m : Fin 32, m ≠ n → t.laneState m = s.laneState m)) ∧
  (∀ (q : Fin 8) (s : State),
    (q.val ∉ s.lane.pllLost →
      ∃ t, exec (.quadPllLockLoss q) s = .next t ∧ q.val ∈ t.lane.pllLost ∧ s.told t E.QUAD_PLL_LOST ∧
        ∀ n : Fin 32, t.laneState n = if n.val / 4 = q ∧ s.laneState n ≠ L.OFF then L.SIGNAL else s.laneState n) ∧
    (q.val ∈ s.lane.pllLost →
      ∃ t, exec (.quadPllRelock q) s = .next t ∧ q.val ∉ t.lane.pllLost ∧
        ∀ n : Fin 32, t.laneState n = if s.clusterOut .front q = false ∧ n.val / 4 = q ∧ s.laneState n = L.SIGNAL then
          (if s.laneUse n / 16 = 4 then L.DP else L.CDR) else s.laneState n)) ∧
  ∀ (s : State) (w e : Fin 32) (tie : Bool), s.isHead = false → s.lane.adopted = false → s.lane.portW = w →
    s.lane.portE = e → ∃ t, exec (.rateHuntTimer tie) s = .next t ∧ t.lane.hunt = (s.lane.hunt + 1) % 3 ∧
      ∀ n : Fin 32, t.laneState n =
        if (n = w ∨ n = e) ∧ s.laneRate n = 3 ∧ s.laneState n ≠ L.OFF then L.SIGNAL else s.laneState n

/-- A transmitting lane sends its SKIP.  A slip of a decoding lane is counted and told.  An adaptation update moves the CTLE and each
tap one step by its sign, within their limits, and none while an UP lane's adaptation is frozen or in the cycle of a trim tap.  An eye measurement of a lane
whose eye is open stands in EYE_MARGIN, and EV 86 is told when it falls below the minimum and not again while it stays there.  A
point of a full scan is stored, limited to 16 bits, and the 8,192nd ends the scan.  An in-band generator on an UP lane sends its
sequence octet and 256 octets, a raw one in TEST_RAW the next 2,048 bits.  A locked checker compares every bit of a block that follows the last one. -/
def Obligations.LaneUpkeep : Prop :=
  ∀ (n : Fin 32) (s : State),
    (s.laneState n ≠ L.OFF → s.laneState n ≠ L.DP → s.laneState n ≠ L.RAW → s.laneUse n / 16 ≠ 4 → s.skipDue n = true →
      ∃ t, exec (.skipInsert n) s = .next t ∧ (t.laneOf n).skipAt = s.quarterNow ∧
        t = { s with lane := t.lane, outbox := .symbol n Sym.SKIP :: s.outbox, scan := t.scan }) ∧
    (∀ ov, s.decoding n = true →
      ∃ t, exec (.elasticBufferSlip n ov) s = .next t ∧ t.par P.SLIPS n = (s.par P.SLIPS n + 1) % 2 ^ 32 ∧
        s.told t E.ELASTIC_SLIP ∧ t.laneState n = s.laneState n ∧ s.samePars t [P.SLIPS, P.EVENT_COUNT]) ∧
    (∀ dc dt, s.laneState n = L.UP ∨ s.laneState n = L.ADAPT ∨ s.laneState n = L.DP →
      (s.laneState n = L.UP → s.adaptMode n ≠ 1) → s.lane.trimAt ≠ s.now + 1 →
      ∃ t, exec (.adaptUpdate n dc dt false) s = .next t ∧
        t.blobByte P.EQ_STATE n 0 = unsigned 8 (clampI 0 15 (s.blobByte P.EQ_STATE n 0 + dc.sign)) ∧
        (∀ k, k < 5 → t.blobByte P.EQ_STATE n (k + 1) = unsigned 8 (clampI (-(tapLimit k)) (tapLimit k)
          (signed 8 (s.blobByte P.EQ_STATE n (k + 1)) + (dt.getD k 0).sign))) ∧ s.samePars t [P.EVENT_COUNT]) ∧
    (∀ dc dt tap, s.laneState n = L.UP → s.adaptMode n = 1 →
      ∃ t, exec (.adaptUpdate n dc dt tap) s = .next t ∧ t.blobs = s.blobs ∧ s.samePars t [P.EVENT_COUNT]) ∧
    (∀ dc dt tap, tap = true ∨ s.lane.trimAt = s.now + 1 → exec (.adaptUpdate n dc dt tap) s = .next s) ∧
    (∀ (h : Fin 65) (w : Fin 129), s.eyeOpen n = true → s.lane.scanLane ≠ some n.val →
      ∃ t, exec (.eyeMarginMeasure n h w) s = .next t ∧ t.par P.EYE_MARGIN n = h.val * 2 ^ 8 + w.val ∧
        ((t.laneOf n).marginLow = true ↔
          h.val < field (s.par P.EYE_MARGIN_MIN) 8 8 ∨ w.val < field (s.par P.EYE_MARGIN_MIN) 0 8) ∧
        ((t.laneOf n).marginLow = true → (s.laneOf n).marginLow = false → s.told t E.EYE_MARGIN_LOW) ∧
        ((s.laneOf n).marginLow = true → t.par P.EVENT_COUNT E.EYE_MARGIN_LOW = s.par P.EVENT_COUNT E.EYE_MARGIN_LOW)) ∧
    (∀ count, s.lane.scanLane = some n.val → s.bgPaused Bg.EYE_SCAN = false →
      ∃ t, exec (.eyeScanPoint count) s = .next t ∧
        t.blob P.EYE_MAP 0 (2 * s.lane.scanPoints) 2 = leBytes 2 (min count 0xFFFF) ∧
        t.lane.scanPoints = s.lane.scanPoints + 1 ∧
        (s.lane.scanPoints + 1 ≠ 8192 → t.lane.scanLane = some n.val ∧
          t.par P.EYE_SCAN_STATUS = (s.lane.scanPoints + 1) * 2 ^ 16 + n * 2 ^ 8 + 1) ∧
        (s.lane.scanPoints + 1 = 8192 → t.lane.scanLane = none ∧ s.told t E.EYE_SCAN_DONE ∧
          t.par P.EYE_SCAN_STATUS = 8192 * 2 ^ 16 + n * 2 ^ 8 + 2)) ∧
    (s.par P.PRBS_GEN n % 8 ≠ 0 → bit (s.par P.PRBS_GEN n) 3 = true → s.laneUp n = true →
      ∃ t data, exec (.testBlockSend n) s = .next t ∧ data.length = 256 ∧
        t.outbox = .testBlock n ((s.laneOf n).gen.seq % 256) data :: s.outbox ∧
        (t.laneOf n).gen.seq = ((s.laneOf n).gen.seq % 256 + 1) % 256 ∧ t.dict = s.dict) ∧
    (s.par P.PRBS_GEN n % 8 ≠ 0 → bit (s.par P.PRBS_GEN n) 3 = false → s.laneState n = L.RAW →
      ∃ t data, exec (.testBlockSend n) s = .next t ∧ data.length = 256 ∧ t.outbox = .rawSpan n data :: s.outbox ∧
        t.dict = s.dict) ∧
    (∀ (sq : Byte) (data : List Byte), s.par P.PRBS_CHK n % 8 ≠ 0 → bit (s.par P.PRBS_CHK n) 3 = true →
      s.laneUp n = true → s.par P.PRBS_LOCK n = 1 → sq.toNat = ((s.laneOf n).chk.seq + 1) % 256 →
      ∃ t, exec (.testBlockReceive n (some sq) data) s = .next t ∧
        t.par P.PRBS_BITS n = (s.par P.PRBS_BITS n + 8 * data.length) % 2 ^ 64 ∧
        t.par P.PRBS_ERRORS n ≤ s.par P.PRBS_ERRORS n + 8 * data.length ∧ t.laneState n = s.laneState n)

/-- With HPD high and no pulse under way: a native AUX read is acknowledged with the DPCD's bytes; a read at I2C address 0x50 with the
EDID's bytes from the segment and offset in force, and the offset moves on; another I2C address is not acknowledged; a training
pattern of 0 after equalisation, with every lane done, ends training with EV 120.  Lost lock on a trained link takes it to IRQ_HPD
with EV 122.  HPD returns high when the pulse or the cycle ends.  A stream's format on a trained link is delivered exactly within
the limits of R137, and a change is told.  A symbol that is valid at the running disparity and alignment does nothing; an invalid symbol of a decoding lane is counted for the lane, and the fourth within 64
symbols of an UP lane loses sync; one of a DP lane is counted for its receiver. -/
def Obligations.DisplayPortReceivers : Prop :=
  (∀ (n : Fin 4) (cr eq : Bool) (s : State), s.hpdEnabled n = true → (s.dpOf n).cycling = false → (s.dpOf n).pulse = false →
    (∀ a len, exec (.auxRequest n (.nativeRead a len) cr eq) s = .next { s with
      outbox := .aux n true ((List.range len).map fun i => BitVec.ofNat 8 (s.dpcdRead n (a + i))) :: s.outbox }) ∧
    (∀ len, ∃ t, exec (.auxRequest n (.i2cRead 0x50#7 len) cr eq) s = .next t ∧
      t.outbox = .aux n true ((List.range len).map fun i => BitVec.ofNat 8
        (if (s.dpOf n).segment * 256 + ((s.dpOf n).offset + i) % 256 < 512 then
          s.blobByte P.DP_EDID n ((s.dpOf n).segment * 256 + ((s.dpOf n).offset + i) % 256) else 0)) :: s.outbox ∧
      t.dpOf n = { s.dpOf n with offset := ((s.dpOf n).offset + len) % 256 } ∧
      t = { s with lane := t.lane, outbox := t.outbox }) ∧
    (∀ dev len, dev ≠ 0x50#7 →
      exec (.auxRequest n (.i2cRead dev len) cr eq) s = .next { s with outbox := .aux n false [] :: s.outbox }) ∧
    ((s.dpOf n).train = 4 → s.trainable n = true → s.dpcd n 0x202 = 0x77 → s.dpcd n 0x203 = 0x77 → s.dpcd n 0x204 % 2 = 1 →
      ∃ t, exec (.auxRequest n (.nativeWrite 0x102 [0]) cr eq) s = .next t ∧ (t.dpOf n).train = 5 ∧
        s.told t E.DP_TRAINED ∧ t.outbox = .aux n true [] :: s.outbox)) ∧
  (∀ (n lane : Fin 4) (s : State), (s.dpOf n).train = 5 ∨ (s.dpOf n).train = 6 →
    ∃ t, exec (.dpLaneLockLoss n lane) s = .next t ∧ (t.dpOf n).train = 2 ∧ (t.dpOf n).pulse = true ∧
      (t.dpOf n).delivered = false ∧ t.par P.DP_LINK_STATUS n = 0xF0 ∧ s.told t E.DP_LINK_LOST ∧
      ∀ m : Fin 4, m ≠ n → t.dpOf m = s.dpOf m) ∧
  (∀ (n : Fin 4) (s : State),
    (∃ t, exec (.hpdPulseEnd n) s = .next t ∧ t.dpOf n = { s.dpOf n with pulse := false } ∧
      (∀ m, m ≠ n.val → t.dpOf m = s.dpOf m) ∧ t = { s with lane := t.lane }) ∧
    (∃ t, exec (.hpdCycleEnd n) s = .next t ∧ t.dpOf n = { s.dpOf n with cycling := false } ∧
      (∀ m, m ≠ n.val → t.dpOf m = s.dpOf m) ∧ t = { s with lane := t.lane })) ∧
  (∀ (n : Fin 4) (m : MsaInfo) (s : State), (s.dpOf n).train = 5 ∨ (s.dpOf n).train = 6 →
    ∃ t, exec (.msaReceived n m) s = .next t ∧ (t.dpOf n).format = msaFmt m ∧ (t.dpOf n).train = 6 ∧
      ((t.dpOf n).delivered = true ↔ m.format ≤ 2 ∧ (m.bits = 6 ∨ m.bits = 8 ∨ m.bits = 10 ∨ m.bits = 12) ∧
        m.width ≤ 8192 ∧ m.height ≤ 8192 ∧ m.clock ≤ 1200000) ∧
      ((s.dpOf n).format ≠ msaFmt m → s.told t E.DP_FORMAT_CHANGED) ∧
      ((s.dpOf n).format = msaFmt m → (s.dpOf n).train = 6 ∨ msaSupported m = true → t.dict = s.dict ∧ t.blobs = s.blobs) ∧
      ∀ k : Fin 4, k ≠ n → t.dpOf k = s.dpOf k) ∧
  ∀ (n : Fin 32) (gap : Nat) (pos mis : Bool) (code : BitVec 10) (s : State),
    (symbolInvalid pos code.toNat mis = false → exec (.invalidSymbol n gap pos code mis) s = .next s) ∧
    (symbolInvalid pos code.toNat mis = true → s.laneState n = L.DP → ∃ t, exec (.invalidSymbol n gap pos code mis) s = .next t ∧
      t.par P.DP_SYMBOL_ERRORS n = (s.par P.DP_SYMBOL_ERRORS n + 1) % 2 ^ 32 ∧ s.samePars t [P.DP_SYMBOL_ERRORS]) ∧
    (symbolInvalid pos code.toNat mis = true → s.decoding n = true → ∃ t, exec (.invalidSymbol n gap pos code mis) s = .next t ∧
      t.par P.CODE_ERRORS n = (s.par P.CODE_ERRORS n + 1) % 2 ^ 32 ∧
      (s.laneUp n = true →
        3 ≤ ((s.laneOf n).invalid.filter fun p => decide ((s.laneOf n).symbols + gap < p + 64)).length →
        t.par P.SYNC_LOSS n = (s.par P.SYNC_LOSS n + 1) % 2 ^ 32 ∧ t.laneState n ≠ L.UP) ∧
      (((s.laneOf n).invalid.filter fun p => decide ((s.laneOf n).symbols + gap < p + 64)).length < 3 →
        t.laneState n = s.laneState n))

/-- On an UP port: a link-management packet that fails its CRC is only counted, and one to be sent in the guard before a tick waits.
ECHO_REQ is answered with its SEQ and TURN; an ECHO_REQ goes out with the port's SEQ, remembered with its stamp; ECHO_RESP to it gives the link delay
((t₂ − t₁) − TURN) / 2 + A, taken when it is the first or within 1 ns of the delay in use; LATENCY gives the neighbour's values, from
which a tile with a measured link derives its POSITION and L; a head sends LOUT 0 and POSITION 0; IDENT is recorded, a change told;
IDENT goes out with ID, role, side, pairing and link version.  A port's values without LATENCY for 3 s are marked stale.  A head sends
its READ to its chain's last tile, takes a valid L and leaves a failed, stale or zero reading. -/
def Obligations.LinkManagementPackets : Prop :=
  (∀ (p : Fin 20) (s : State), s.chainUp p = true →
    (∀ c ∈ ([.echoReq p 0 false 0, .echoResp p 0 0 false 0, .latency p ⟨0, 0, 0, true⟩ false, .ident p 0 false] : List Instr),
      exec c s = .next (s.bump P.CRC_ERRORS p)) ∧
    (s.linkQuiet p = true → ∀ c ∈ ([.echoReq p 0 true 0, .echoSendTimer p 0, .latencySendTimer p, .identSendTimer p] : List Instr),
      ∃ t, exec c s = .next t ∧ t = { s with chain := { s.chain with guarded := t.chain.guarded } } ∧
        t.chain.guarded.length = s.chain.guarded.length + 1) ∧
    (∀ seq turn, s.linkQuiet p = false → ∃ t, exec (.echoReq p seq true turn) s = .next t ∧
      t = { s with chain := t.chain, outbox := t.outbox } ∧ t.outbox = .packet p 2 [seq.toNat, turn.toNat] :: s.outbox) ∧
    (∀ t1, s.linkQuiet p = false →
      ∃ t, exec (.echoSendTimer p t1) s = .next t ∧ (t.linkOf p).echo = some ((s.linkOf p).seq, t1) ∧
        (t.linkOf p).seq = ((s.linkOf p).seq + 1) % 2 ^ 16 ∧ t.outbox = .packet p 1 [(s.linkOf p).seq] :: s.outbox ∧
        t = { s with chain := t.chain, outbox := t.outbox } ∧ ∀ p', p' ≠ p.val → t.linkOf p' = s.linkOf p') ∧
    (∀ (seq : BitVec 16) (turn : BitVec 40) (t1 t2 : Nat), (s.linkOf p).echo = some (seq.toNat, t1) →
      let d : Int := Int.fdiv ((t2 : Int) - t1 - turn.toNat) 2 + s.asymmetry p
      (s.linkOf p).measured = false ∨ within1ns d (s.linkOf p).d = true →
      ∃ t, exec (.echoResp p seq turn true t2) s = .next t ∧ (t.linkOf p).measured = true ∧ (t.linkOf p).echo = none ∧
        (t.linkOf p).d = min d.toNat 0xFFFFFFFF ∧ (p.val < 16 → t.par P.LINK_DELAY p = min d.toNat 0xFFFFFFFF) ∧
        ∀ p', p' ≠ p.val → t.linkOf p' = s.linkOf p') ∧
    (∀ body : LatencyBody, ∃ t, exec (.latency p body true) s = .next t ∧ (t.linkOf p).upAt = s.now ∧
      (t.linkOf p).stale = false ∧
      (t.linkOf p).up = (if body.valid = true then some (body.origin.toNat, body.position.toNat, body.lout.toNat) else none) ∧
      (s.isTile = true → body.valid = true → (s.linkOf p).measured = true →
        t.par P.POSITION p = (body.position.toNat + 1) % 2 ^ 8 ∧
          t.par P.LATENCY p = (body.lout.toNat + (s.linkOf p).d) % 2 ^ 40) ∧ s.samePars t [P.POSITION, P.LATENCY]) ∧
    (s.linkQuiet p = false → s.isHead = true →
      ∃ t, exec (.latencySendTimer p) s = .next t ∧
        t.outbox = .packet p 3 [(s.linkOf p).seq, s.par P.DEVICE_ID, 0, 0, 1] :: s.outbox ∧ t.dict = s.dict) ∧
    (∀ body : BitVec 40, ∃ t, exec (.ident p body true) s = .next t ∧ (t.linkOf p).known = true ∧
      t.blob P.NEIGHBOUR p 0 5 = leBytes 5 body.toNat ∧
      ((s.linkOf p).known = true → s.blobNat P.NEIGHBOUR p 0 5 ≠ body.toNat → s.told t E.NEIGHBOUR_CHANGED) ∧
      ((s.linkOf p).known = false ∨ s.blobNat P.NEIGHBOUR p 0 5 = body.toNat → t.dict = s.dict)) ∧
    (s.linkQuiet p = false →
      ∃ t, exec (.identSendTimer p) s = .next t ∧ t.dict = s.dict ∧
        t.outbox = .packet p 4 [(s.linkOf p).seq, s.par P.DEVICE_ID,
          (if s.isHead = true then 1 else if s.isTile = true then 2 else 0) + 4 * b2n s.sideB + 8 * b2n s.paired,
          s.par P.LINK_VERSION] :: s.outbox)) ∧
  (∀ (p : Fin 20) (tie : Bool) (s : State), s.chainUp p = true → (s.linkOf p).stale = false →
    ∃ t, exec (.latencyStaleTimer p tie) s = .next t ∧ s.told t E.LATENCY_STALE ∧
      (tie = false ∨ (s.linkOf p).upAt ≠ s.now → (t.linkOf p).stale = true ∧
        (s.isTile = true → t.par P.LATENCY p = s.par P.LATENCY p % 2 ^ 40 + 2 ^ 63)) ∧
      (tie = true → (s.linkOf p).upAt = s.now → t.chain = s.chain)) ∧
  ∀ (c : Fin 16) (v : Option (BitVec 64)) (s : State),
    (s.isHead = false → exec (.chainLatencyRead c v) s = .next s) ∧
    (s.isHead = true → ∃ t, exec (.chainLatencyRead c v) s = .next t ∧
      (∀ r, (onChain s.regions c).getLast? = some r → s.linkQuiet c = false →
        Out.odRead (r.dest % 4096) [(P.LATENCY, 0), (P.LATENCY, 1)] ∈ t.outbox) ∧
      (∀ w, v = some w → bit w.toNat 63 = false → w.toNat % 2 ^ 40 ≠ 0 →
        t.par P.CHAIN_L c = w.toNat % 2 ^ 40 ∧ c.val ∈ t.chain.lValid) ∧
      ((∀ w, v = some w → bit w.toNat 63 = true ∨ w.toNat % 2 ^ 40 = 0) → t.dict = s.dict ∧ t.chain.lValid = s.chain.lValid) ∧
      (∀ c', c' ≠ c.val → c' < 2 ^ 16 → t.par P.CHAIN_L c' = s.par P.CHAIN_L c') ∧
      s.samePars t [P.CHAIN_L] ∧ t = { s with chain := t.chain, dict := t.dict, outbox := t.outbox })

/-- On an UP port: a video packet that fails its checks is counted with EV 163 and joins no copy; one of a frame the tile collects, in
place in its region, joins the frame's copy on its port and is counted, and E_t keeps the highest epoch; a head passes over one that is
not its partner's.  A control packet that fails is only counted; one from a head with a stale epoch is counted and told; one the
tile takes is counted; one at a head for its partner is relayed on the partner path.  A marker that fails its CRC is told in a tile
and missing; a head takes none; a good one in a tile with a valid L gives the port's offset.  A marker that does not arrive in time
is told.  The oldest own packet that fits the reserved stretch leaves in it, in a grant once the relay of an update has nothing to
send there. -/
def Obligations.ChainTraffic : Prop :=
  (∀ (p : Fin 16) (v : VideoPacket) (s : State), s.chainUp p = true →
    (videoOk v = false → s.isHead = false →
      ∃ t, exec (.videoPacket p v) s = .next t ∧ t.par P.CRC_ERRORS p = (s.par P.CRC_ERRORS p + 1) % 2 ^ 32 ∧
        s.told t E.CHAIN_CRC_ERROR ∧ t.chain.copies = s.chain.copies ∧ t.par P.EPOCH = s.par P.EPOCH) ∧
    (videoOk v = true → s.isTile = true → s.destMatch v.head.dest.toNat = true → v.head.count.toNat ≠ 0 →
      v.head.incomplete = false →
      let k := nearTick s.time.tick v.head.tick.toNat
      let held := (s.chain.copies.find? fun c => c.tick == k && c.port == p.val).getD (s.newCopy p k v)
      s.late k = false → k < s.time.tick → s.mismatch k v.head = false →
      contradicts held (regionBytes (v.head.format.toNat % 16) (s.boundRegion k).2.1 (s.boundRegion k).2.2) v = false →
      SMap.get 0 held.crcs v.head.index.toNat = 0 →
      ∃ t, exec (.videoPacket p v) s = .next t ∧ t.par P.RX_PACKETS p = (s.par P.RX_PACKETS p + 1) % 2 ^ 32 ∧
        t.par P.EPOCH = max (s.par P.EPOCH) v.head.epoch.toNat ∧
        ∃ c ∈ t.chain.copies, c.tick = k ∧ c.port = p.val ∧ SMap.get 0 c.crcs v.head.index.toNat = v.crc.toNat + 1) ∧
    (videoOk v = true → s.isHead = true → v.head.src.toNat % 4096 ≠ s.par P.PARTNER_ID →
      exec (.videoPacket p v) s = .next s)) ∧
  (∀ (p : Fin 16) (c : ControlHead) (b : ControlBody) (s : State), s.chainUp p = true →
    (c.crcOk = false ∨ c.length ≠ c.received → ∃ t, exec (.controlPacket p c b) s = .next t ∧
      t.par P.CRC_ERRORS p = (s.par P.CRC_ERRORS p + 1) % 2 ^ 32 ∧ s.samePars t [P.CRC_ERRORS] ∧
      t = { s with dict := t.dict, outbox := t.outbox, perf := t.perf }) ∧
    (c.crcOk = true → c.length = c.received → s.isTile = true → c.positional = false →
      s.destMatch c.dest.toNat = true →
      (c.fromTile = false → c.epoch.toNat < s.par P.EPOCH → b ≠ .request → ∃ t, exec (.controlPacket p c b) s = .next t ∧
        t.par P.STALE_PACKETS = (s.par P.STALE_PACKETS + 1) % 2 ^ 32 ∧ s.told t E.EPOCH_STALE) ∧
      (c.fromTile = true ∨ s.par P.EPOCH ≤ c.epoch.toNat → ∃ t, exec (.controlPacket p c .response) s = .next t ∧
        t.par P.RX_PACKETS p = (s.par P.RX_PACKETS p + 1) % 2 ^ 32 ∧
        t.par P.EPOCH = (if c.fromTile = true then s.par P.EPOCH else c.epoch.toNat))) ∧
    (c.crcOk = true → c.length = c.received → s.isHead = true → c.fromTile = true → c.positional = false →
      s.destMatch c.dest.toNat = false → c.dest.toNat % 4096 = s.par P.PARTNER_ID →
      c.src.toNat % 4096 ≠ s.par P.PARTNER_ID →
      ∀ q, s.partnerPath = some q → (q < 16 → s.linkQuiet q = false) → ∃ t, exec (.controlPacket p c b) s = .next t ∧
        .packet 16 K.RELAY [c.dest.toNat, c.src.toNat, c.length] ∈ t.outbox ∧
        (q < 16 → t = { s with chain := t.chain, outbox := t.outbox }))) ∧
  (∀ (p : Fin 16) (m : Marker) (s : State), s.chainUp p = true →
    (m.crcOk = false → s.isTile = true → ∃ t, exec (.tickMarker p m) s = .next t ∧
      t.par P.CRC_ERRORS p = (s.par P.CRC_ERRORS p + 1) % 2 ^ 32 ∧ s.told t E.MARKER_BAD ∧ p.val ∈ t.chain.missed) ∧
    (m.crcOk = true → s.isHead = true → ∃ t, exec (.tickMarker p m) s = .next t ∧ t = { s with perf := t.perf }) ∧
    (m.crcOk = true → s.isTile = true → s.latValid p = true → p.val ∉ s.chain.missed → m.rate.toNat = s.time.tileRate →
      s.markerLate p m = false → ∃ t, exec (.tickMarker p m) s = .next t ∧ p.val ∈ t.chain.got ∧
        t.par P.MARKER_OFFSET p = sat32 (ps16 ((m.arrival : Int) -
          (ofTime80 m.time.toNat * 2 ^ 16 + (m.phase.toNat * 2 ^ 16 / 1000 : Nat) : Int) - (s.par P.LATENCY p % 2 ^ 40 : Nat))))) ∧
  ∀ (p : Fin 2) (s : State),
    (s.isTile = true → s.latValid p = true → p.val ∉ s.chain.got → p.val ∉ s.chain.missed →
      ∃ t, exec (.markerWaitExpiry p) s = .next t ∧ s.told t E.MARKER_MISSING ∧ p.val ∈ t.chain.missed) ∧
    (∀ (r : Stretch) (k : OwnPkt) (rest : List OwnPkt), SMap.get none s.chain.stretch p = some r →
      r.open_ = false ∨ (k.positional = true ∧ s.chain.posReq = true) → (r.grant = true → s.relayWaits (1 - p) = false) →
      s.chain.own = k :: rest → k.size + 1 ≤ r.left → s.ownPort k = some (1 - p.val) → s.chain.backlog = [] →
      ∃ t, exec (.ownPacketSend p) s = .next t ∧ t.chain.own = rest ∧
        SMap.get none t.chain.stretch p = some { r with left := r.left - k.size } ∧
        t.outbox = k.out :: .packet (1 - p) K.CONTROL (s.controlHeader k.dest k.size) :: s.outbox ∧
        t = { s with chain := { s.chain with own := t.chain.own, stretch := t.chain.stretch }, outbox := t.outbox })

/-- The event service takes the oldest raise of a region's collector: a new event gets the next SEQ, its record stands in the log head and,
at or above DELIVER_MIN, at the end of the manager queue while it has room, and a fault or critical record takes an empty
FAULT_LATCH; one that repeats a record held for less than a second is merged into it.  Up to 30 waiting records go to the lease
holder in one message; a message acknowledged within 500 ms: its records leave the queue and no others; the oldest unanswered message's records are
sent again under a new SEQ. -/
def Obligations.EventService : Prop :=
  (∀ (r : Region) (s : State) (x : Raise) (rest : List Raise), s.start.lowWater = true → s.isReleased .control = true →
    s.wroteNow = false → SMap.get [] s.ev.collectors r.num = x :: rest →
    (SMap.get none s.ev.lastOf (x.ev * 65536 + x.index) = none → s.ev.queue.length < 256 → x.ev ≠ E.DELIVERY_LOST →
      ∃ t, exec (.eventServiceWrite r) s = .next t ∧ SMap.get [] t.ev.collectors r.num = rest ∧
        t.par P.LOG_SEQ = (s.par P.LOG_SEQ + 1) % 2 ^ 32 ∧
        SMap.get none t.ev.head (s.par P.LOG_SEQ % 128) = some { seq := s.par P.LOG_SEQ, repeats := 0, body := x } ∧
        t.ev.queue = (if x.sev < s.par P.DELIVER_MIN then s.ev.queue
          else s.ev.queue ++ [{ seq := s.par P.LOG_SEQ, repeats := 0, body := x }]) ∧
        t.par P.FAULT_LATCH = (if 2 ≤ x.sev ∧ s.par P.FAULT_LATCH = 0xFFFFFFFF then s.par P.LOG_SEQ
          else s.par P.FAULT_LATCH) ∧
        s.samePars t [P.LOG_SEQ, P.FAULT_LATCH, P.IRQ_PENDING] ∧
        t = { s with ev := t.ev, dict := t.dict, perf := t.perf }) ∧
    (∀ (q : Nat) (y : EvRec), SMap.get none s.ev.lastOf (x.ev * 65536 + x.index) = some q → s.recOf q = some y →
      y.body.ev = x.ev → y.body.index = x.index → x.time < y.body.time + 10 ^ 9 → y.repeats < 255 →
      ∃ t, exec (.eventServiceWrite r) s = .next t ∧ SMap.get [] t.ev.collectors r.num = rest ∧ t.dict = s.dict ∧
        (SMap.get none s.ev.head (q % 128) = some y →
          SMap.get none t.ev.head (q % 128) = some { y with repeats := y.repeats + 1 }) ∧
        (s.logDram = true → t.recOf q = some { y with repeats := y.repeats + 1 }) ∧
        t.ev.queue.length = s.ev.queue.length ∧ t = { s with ev := t.ev })) ∧
  (∀ (s : State) (path : Path), s.od.holder = some path → s.unsent ≠ [] → s.eventsWait path = false →
    ∃ t, exec .eventMessageSend s = .next t ∧ t.ev.queue = s.ev.queue ∧ t.ev.msgSeq = (s.ev.msgSeq + 1) % 2 ^ 32 ∧
      t.ev.sent = s.ev.sent ++
        [{ seq := s.ev.msgSeq, recs := (s.unsent.take 30).map fun (y : EvRec) => y.seq, sentAt := s.controlNow }]) ∧
  (∀ (s : State) (path : Path) (m : EvMsg) (rest : List EvMsg), s.od.holder = some path → s.ev.sent = m :: rest →
    s.eventsWait path = false → ∃ t, exec .eventResendTimeout s = .next t ∧ t.ev.queue = s.ev.queue ∧
      t.ev.sent = rest ++ [{ seq := s.ev.msgSeq, recs := m.recs, sentAt := s.controlNow }]) ∧
  ∀ (s : State) (seq : Nat) (m : EvMsg), (s.ev.sent.find? fun (m : EvMsg) => m.seq == seq) = some m →
    (m.sentAt + controlSec / 2 ≤ s.controlNow → exec (.eventAck seq) s = .next s) ∧
    (s.controlNow < m.sentAt + controlSec / 2 → ∃ t, exec (.eventAck seq) s = .next t ∧ (∀ y, y ∈ t.ev.queue ↔ y ∈ s.ev.queue ∧ y.seq ∉ m.recs) ∧
      t.ev.lastAck = seq ∧ (∀ x, x ∈ t.ev.sent ↔ x ∈ s.ev.sent ∧ x.seq ≠ seq) ∧
      t = { s with ev := { s.ev with sent := t.ev.sent, queue := t.ev.queue, lastAck := seq } })

/-- In a head whose source is the 1 Hz REF_IN, an edge before 1.5 periods have passed, moved by REF_IN_DELAY, yields a sample of its
offset modulo one second; 1.5 periods without one, or three sample intervals, put the servo into holdover at the mean of the last corrections.  A one-step Sync of
the master yields the sample arrival − origin − path delay, the arrival taken at the wire, a two-step one waits for its Follow_Up, which yields it; a
Delay_Resp of the exchange gives the path delay, half the sum of the two directions.  What is outside the scope of R200 is
counted and dropped. -/
def Obligations.ServoSamples : Prop :=
  (∀ s : State, s.isHead = true → s.par P.TIME_SOURCE = 1 →
    (s.refOver = false → ∃ t, exec .refInEdge s = .next t ∧ t.time.refLast = some s.now ∧ t.time.servo ≠ 0 ∧ t.time.servo ≠ 3 ∧
      t.par P.OFFSET = sat32 (ps16 (wrapOffset
        ((s.time.counter / 2 ^ 32 : Nat) - Int.fdiv (signed 32 (s.par P.REF_IN_DELAY) * 2 ^ 16) 1000) (2 ^ 16 * 10 ^ 9) 1))) ∧
    (∃ t, exec .refInTimeout s = .next t ∧ t.time.refLast = none ∧ t.time.servo = 3 ∧ s.told t E.REF_IN_LOST)) ∧
  (∀ s : State, s.time.servo ≠ 0 → s.time.servo ≠ 3 →
    ∃ t, exec .servoSampleTimeout s = .next t ∧ t.time.servo = 3 ∧ t.time.freq = meanFreq s.time.hist ∧
      s.told t E.TIME_SOURCE_LOST ∧ t.time.counter = s.time.counter ∧ t = { s with time := t.time, dict := t.dict, ev := t.ev }) ∧
  ∀ (m : PtpMsg) (s : State), s.isHead = true →
    (m.inScope = false →
      ∀ c ∈ ([.ptpSync m, .ptpFollowUp m, .ptpDelayReq m, .ptpDelayResp m] : List Instr),
        exec c s = .next (s.bump P.PTP_DROPPED)) ∧
    (m.inScope = true → m.domain = s.par P.PTP_DOMAIN → s.fromMaster m = true →
      (m.twoStep = true → exec (.ptpSync m) s = .next { s with time := { s.time with sync := some (m.seq, s.rxStamp m) } }) ∧
      (∀ d, s.time.path = some d → s.par P.TIME_SOURCE = 0 →
        (m.twoStep = false → ∃ t, exec (.ptpSync m) s = .next t ∧ t.par P.PTP_PORT_STATE = 9 ∧ t.time.servo ≠ 0 ∧
          t.par P.OFFSET = sat32 (ps16 ((s.rxStamp m : Int) - (m.origin + m.correction) - d))) ∧
        (∀ arr, s.time.sync = some (m.seq, arr) → ∃ t, exec (.ptpFollowUp m) s = .next t ∧ t.time.sync = none ∧
          t.par P.OFFSET = sat32 (ps16 ((arr : Int) - (m.origin + m.correction) - d)))) ∧
      (∀ t1 t2 t3 : Nat, s.time.delayReq = some (m.seq, some t3) → s.time.lastSync = some (t1, t2) →
        let d : Int := Int.fdiv (((t2 : Int) - t1) + ((m.origin : Int) - m.correction - t3)) 2
        ∃ t, exec (.ptpDelayResp m) s = .next t ∧ t.time.path = some d ∧ t.time.delayReq = none ∧
          t.par P.MEAN_PATH_DELAY = (ps16 d).toNat ∧ t.time.freq = s.time.freq ∧ s.samePars t [P.MEAN_PATH_DELAY] ∧
          t = { s with time := t.time, dict := t.dict }))

/-- A master answers a Delay_Req with its receive stamp, a unicast one by unicast.  A second Announce within four of its intervals
makes its sender the master of a head that knows no other, and a head that may not be master follows it: its grandmaster is in use
and the port is uncalibrated unless it is slave (which Announces qualify a master is the model's choice, log entry 13).  When the
master is lost and no other is known, an eligible head is master with its own identity, and another listens.  Sync, Announce and Delay_Req go out only in the states that send them,
each with its own sequence number.  An entry not retrieved in time leaves the time-stamp queue, counted.  A pulse's edge ends its
width, or starts the pulse of an armed programme. -/
def Obligations.PtpMessagesAndPulses : Prop :=
  (∀ (m : PtpMsg) (s : State), s.isHead = true → m.inScope = true → m.domain = s.par P.PTP_DOMAIN →
    (s.par P.PTP_PORT_STATE = 6 → ∃ t, exec (.ptpDelayReq m) s = .next t ∧ t = { s with eth := t.eth } ∧
      (SMap.get {} t.eth.macs 0).queue =
        (SMap.get {} s.eth.macs 0).queue ++ [{ kind := if m.unicast = true then .ptpTo 9 m.seq (s.rxStamp m / 2 ^ 16) m.sender
                                               else .ptp 9 m.seq (s.rxStamp m / 2 ^ 16) }]) ∧
    (∀ (a : AnnounceInfo) (r : ForeignRec), s.time.master = none → s.time.eligible = false → s.time.foreigns = [r] →
      r.set.sender = m.sender → s.now ≤ r.last + 4 * s.announceCycles → a.steps < 255 →
      ∃ t, exec (.ptpAnnounce m a) s = .next t ∧ t.par P.GM_IDENTITY = a.identity ∧
        t.par P.PTP_PORT_STATE = (if s.par P.PTP_PORT_STATE = 9 then 9 else 8) ∧
        (∃ f, t.time.master = some f ∧ f.sender = m.sender ∧ f.identity = a.identity ∧ f.priority1 = a.priority1 ∧
          f.steps = a.steps) ∧ t.time.counter = s.time.counter ∧ t.time.path = none)) ∧
  (∀ s : State, s.isHead = true → (∀ r ∈ s.time.foreigns, ∃ f, s.time.master = some f ∧ r.set.sender = f.sender) →
    ∃ t, exec .ptpAnnounceTimeout s = .next t ∧ t.time.master = none ∧ t.time.path = none ∧
    t.par P.PTP_PORT_STATE = (if s.time.eligible = true then 6 else 4) ∧
    (s.time.eligible = true → t.par P.GM_IDENTITY = s.clockIdentity)) ∧
  (∀ s : State, s.isHead = true →
    (s.par P.PTP_PORT_STATE = 6 → ∃ t, exec .ptpSyncSend s = .next t ∧ t = { s with eth := t.eth, time := t.time } ∧
      t.time = { s.time with syncSeq := (s.time.syncSeq + 1) % 2 ^ 16 } ∧
      (SMap.get {} t.eth.macs 0).queue = (SMap.get {} s.eth.macs 0).queue ++ [{ kind := .ptp 0 s.time.syncSeq 0 }]) ∧
    (s.par P.PTP_PORT_STATE = 6 → s.time.eligible = true →
      ∃ t, exec .ptpAnnounceSend s = .next t ∧ t = { s with eth := t.eth, time := t.time } ∧
        t.time = { s.time with announceSeq := (s.time.announceSeq + 1) % 2 ^ 16 } ∧
        (SMap.get {} t.eth.macs 0).queue = (SMap.get {} s.eth.macs 0).queue ++ [{ kind := .ptp 11 s.time.announceSeq 0 }]) ∧
    (s.par P.PTP_PORT_STATE = 8 ∨ s.par P.PTP_PORT_STATE = 9 →
      ∃ t, exec .ptpDelayReqSend s = .next t ∧ t = { s with eth := t.eth, time := t.time } ∧
        t.time = { s.time with delaySeq := (s.time.delaySeq + 1) % 2 ^ 16, delayReq := some (s.time.delaySeq, none) } ∧
        (SMap.get {} t.eth.macs 0).queue = (SMap.get {} s.eth.macs 0).queue ++ [{ kind := match s.par P.PTP_DELAY_MODE, s.time.master with
            | 1, some f => .ptpTo 1 s.time.delaySeq 0 f.sender
            | _, _ => .ptp 1 s.time.delaySeq 0 }])) ∧
  (∀ (s : State) (e : TsqEntry) (q : List TsqEntry), s.time.tsq = e :: q →
    (∃ t, exec .tsqEntryExpiry s = .next t ∧ t.time.tsq = q ∧ s.told t E.TSQ_EXPIRED ∧
      t.par P.TSQ_EXPIRED = (s.par P.TSQ_EXPIRED + 1) % 2 ^ 32 ∧ s.samePars t [P.TSQ_EXPIRED, P.EVENT_COUNT]) ∧
    (e.port = 0 → s.now < e.at_ + 2 * ms → ∃ t, exec .tsqRetrieve s = .next t ∧ t.time.tsq = q ∧ t.dict = s.dict)) ∧
  ∀ (n : Fin 8) (s : State),
    ((s.tpoOf n).active = true → (s.tpoOf n).until_ ≤ s.time.counter → ∃ t, exec (.tpoEdge n) s = .next t ∧ t.tpoOf n = { s.tpoOf n with active := false } ∧
      (∀ m, m ≠ n.val → t.tpoOf m = s.tpoOf m) ∧ t = { s with time := t.time, perf := t.perf }) ∧
    (∀ e, (s.tpoOf n).active = false → (s.tpoOf n).armed = true → s.tpoNext n = some e → e ≤ s.time.counter →
      ∃ t, exec (.tpoEdge n) s = .next t ∧ (t.tpoOf n).active = true ∧ (t.tpoOf n).from_ = e ∧
        (t.tpoOf n).until_ = e + s.par P.TPO_WIDTH n * nsUnit ∧ (t.tpoOf n).inv = bit (s.par P.TPO_MODE n) 7 ∧
        ((t.tpoOf n).armed = true ↔ s.tpoMode n ≠ 1) ∧ (∀ m, m ≠ n.val → t.tpoOf m = s.tpoOf m))

/-- A sample e that does not step gives f = P × e + I with I raised by the integral gain times e; |f| above MAX_SLEW is held to it,
with I left as it was.  The 16th sample in a row within LOCK_THRESHOLD locks a servo that is not locked, the 4th in a row beyond
eight times it takes a locked one back to acquiring, and no other sample moves a running servo. -/
def Obligations.ServoLaw : Prop :=
  ∀ (s : State) (e : Int), s.time.servo = 1 ∨ s.time.servo = 2 →
    let g := s.par P.SERVO_GAINS
    let i : Int := s.time.integ + (field g 0 16 : Int) * e
    let f : Int := (field g 16 16 : Int) * e + i
    let lim : Int := s.par P.MAX_SLEW * 1000 * 67108864
    let thr : Int := s.par P.LOCK_THRESHOLD * 2 ^ 16
    let t := s.servoSample e false
    (|f| ≤ lim → t.time.freq = f ∧ t.time.integ = i) ∧
      (lim < |f| → t.time.freq = f.sign * lim ∧ t.time.integ = s.time.integ) ∧
      t.time.counter = s.time.counter ∧
      (s.time.servo = 1 → |e| ≤ thr → 15 ≤ s.time.near → t.time.servo = 2 ∧ s.told t E.TIME_LOCKED) ∧
      (s.time.servo = 1 → thr < |e| ∨ s.time.near < 15 → t.time.servo = 1) ∧
      (s.time.servo = 2 → 8 * thr < |e| → 3 ≤ s.time.far → t.time.servo = 1 ∧ s.told t E.TIME_OFFSET_HIGH) ∧
      (s.time.servo = 2 → |e| ≤ 8 * thr ∨ s.time.far < 3 → t.time.servo = 2)

/-- The sampler's end gives canvas k its slot values.  At the sampling deadline the frame takes them when they came in time and the
canvas was not discarded; with no sampling complete it takes those of the frame before, counted and told.  At X(k) − SACN_LEAD the
frame's start is noted and only data packets of frame k join the queues; at X(k) the frame counts as emitted and as started.  At the drop
deadline no packet of frame k waits any more, and each port's are counted.  Discovery joins the queue of every path that carries a
universe, and of no other.

The end of a DMX frame frees the port and, in a head that emits, counts the frame.  The oldest queued RDM request goes out on an
idle port once the stretch has held it (how long it takes there is the model's reading, log entry 15) and 2.8 ms and 11 ms are left
before the next break, counted, and awaits its response.  A response that starts within 2.8 ms gives code 1, 3 or 4 as it reads and
its length, a later one nothing; none in time gives 2 and is told; a request not sent within its second gives 5, is dropped and told. -/
def Obligations.FixtureAndDmxOutputs : Prop :=
  (∀ (k : Nat) (s : State),
    (s.isHead = true → s.fix.sampling = some k → s.fix.doneAt = none →
      ∃ t f, exec (.fixSamplingComplete k) s = .next t ∧ t.fix = { s.fix with doneAt := some s.now, fresh := some f } ∧
        f.frame = k ∧ t = { s with fix := t.fix }) ∧
    (∀ tie, s.isHead = true → s.fix.sampling = some k →
      (∀ τ f, s.fix.doneAt = some τ → s.onTime tie τ = true → k ∉ s.scan.missed → s.fix.fresh = some f →
        ∃ t, exec (.fixSampleDeadline k tie) s = .next t ∧ t.fix.frames = (f :: s.fix.frames).take 3 ∧
          t.fix.sampling = none ∧ t = { s with fix := t.fix }) ∧
      (s.fix.doneAt = none → k ∉ s.scan.missed →
        ∃ t, exec (.fixSampleDeadline k tie) s = .next t ∧ t.fix.sampling = none ∧ s.told t E.FIX_SAMPLE_LATE ∧
          t.par P.SAMPLE_LATE_COUNT = (s.par P.SAMPLE_LATE_COUNT + 1) % 2 ^ 32 ∧
          t.fix.frames = ({ frame := k, slots := match s.fix.frames with | f :: _ => f.slots | [] => [] } ::
            s.fix.frames).take 3)) ∧
    (s.fixEmits = true → s.hasFrame k = true → s.fix.started ≠ some k →
      ∃ t, exec (.sacnDataStart k) s = .next t ∧ t.fix = { s.fix with started := some k } ∧
        (∀ p, ∃ l, (t.mac p).queue = (s.mac p).queue ++ l ∧ ∀ f ∈ l, f.kind.isDataOf k = true) ∧
        t = { s with fix := t.fix, eth := t.eth }) ∧
    (s.isHead = true → ∃ t, exec (.emissionInstant k) s = .next t ∧ t.tile.displayed = max s.tile.displayed (k + 1) ∧
      (s.fixEmits = true → s.hasFrame k = true → t.fix.started = some k)) ∧
    (s.isHead = true → ∃ t, exec (.sacnDropDeadline k) s = .next t ∧
      ∀ p, p < 9 → (t.mac p).queue = (s.mac p).queue.filter (fun f => !f.kind.isOf k) ∧
        (((s.mac p).queue.filter fun f => f.kind.isOf k) ≠ [] → t.par P.EMIT_LATE_COUNT p =
          (s.par P.EMIT_LATE_COUNT p + ((s.mac p).queue.filter fun f => f.kind.isOf k).length) % 2 ^ 32)) ∧
    (s.fixEmits = true → ∃ t, exec .universeDiscoverySend s = .next t ∧ t = { s with eth := t.eth } ∧
      ∀ p, p < 9 → (t.mac p).queue = (s.mac p).queue ++
        (if (s.univs.any fun u => u.path == p) = true then [{ kind := .discovery }] else []))) ∧
  (∀ (p : Fin 16) (s : State),
    ((s.dmxOf p).sending ≠ none → ∃ t, exec (.dmxFrameEnd p) s = .next t ∧
      t.dmxOf p = { s.dmxOf p with sending := none } ∧ (∀ q, q ≠ p.val → t.dmxOf q = s.dmxOf q) ∧
      (s.fixEmits = true → t.par P.DMX_FRAMES p = (s.par P.DMX_FRAMES p + 1) % 2 ^ 32) ∧ s.samePars t [P.DMX_FRAMES] ∧
      t = { s with fix := t.fix, dict := t.dict, perf := t.perf }) ∧
    (∀ msg at_ rest, (s.dmxOf p).requests = (msg, at_) :: rest → s.fixEmits = true → (s.dmxOf p).sending = none →
      (s.dmxOf p).awaiting = 0 → s.rdmRoom p = true → s.rdmNs p msg ≤ 4 * (s.now - at_) → ∃ t, exec (.rdmSend p) s = .next t ∧
        t.dmxOf p = { s.dmxOf p with requests := rest, awaiting := s.now + 1 } ∧
        t.par P.RDM_COUNT p = (s.par P.RDM_COUNT p + 1) % 2 ^ 32 ∧ t.outbox = .rdm p (rdmBytes msg) :: s.outbox ∧
        t = { s with fix := t.fix, dict := t.dict, outbox := t.outbox }) ∧
    ((s.dmxOf p).awaiting ≠ 0 →
      (∀ r data start, (s.dmxOf p).awaiting + rdmWait ≤ start + 1 → exec (.rdmResponse p r data start) s = .next s) ∧
      (∀ r data start, start + 1 < (s.dmxOf p).awaiting + rdmWait → ∃ t, exec (.rdmResponse p r data start) s = .next t ∧ t.dmxOf p = { s.dmxOf p with awaiting := 0 } ∧
        t.blobByte P.RDM_RESPONSE p 0 = (match r with | .ok => 1 | .checksumBad => 3 | .collision => 4) ∧
        t.blobNat P.RDM_RESPONSE p 2 2 = min data.length 260 ∧
        t = { s with fix := t.fix, blobs := t.blobs }) ∧
      (∃ t, exec (.rdmResponseTimeout p) s = .next t ∧ t.dmxOf p = { s.dmxOf p with awaiting := 0 } ∧
        t.blobByte P.RDM_RESPONSE p 0 = 2 ∧ s.told t E.RDM_TIMEOUT)) ∧
    (∀ r rest, (s.dmxOf p).requests = r :: rest → ∃ t, exec (.rdmRequestExpiry p) s = .next t ∧
      t.dmxOf p = { s.dmxOf p with requests := rest } ∧ t.blobByte P.RDM_RESPONSE p 0 = 5 ∧
      s.told t E.RDM_DROPPED))

/-- With no lease in time the port seeks a link-local address; a candidate probed without conflict is in use, a change told.  When every
condition of the speed policy has held, the link is to run at 100 Mb/s, told.  A PHY read after low-water gives the link, its speed and
duplex; the third read of 0xFFFF in a row takes the port down, told; a half-duplex link restarts autonegotiation.  An idle port whose
link may goes into LPI, counted, and leaves it with its time counted.  An LLDPDU is queued on an UP link; an expired partner TLV no
longer counts. -/
def Obligations.EthernetLink : Prop :=
  ∀ s : State,
    (s.par P.IP_MODE = 1 → s.eth.linkLocal = false → s.eth.candidate = none → s.par P.IPV4_IN_USE = 0 →
      ∃ t a, exec .dhcpTimeout s = .next t ∧ t.eth.candidate = some (a, 2) ∧ 0xA9FE0100 ≤ a ∧ a < 0xA9FEFF00 ∧
        t.eth.linkLocal = true ∧ t = { s with eth := t.eth, free := s.free + 1 }) ∧
    (∀ a src, s.eth.candidate = some (a, src) → ∃ t, exec .arpProbeEnd s = .next t ∧ t.par P.IPV4_IN_USE = a ∧
      t.eth = { s.eth with candidate := none } ∧ (s.par P.IPV4_IN_USE ≠ a → s.told t E.IP_ADDRESS_CHANGED) ∧
      s.samePars t [P.IPV4_IN_USE, P.EVENT_COUNT]) ∧
    (s.mayDownshift = true → s.downshifted = false → ∃ t, exec .downshiftTimer s = .next t ∧ t.downshifted = true ∧
      t.par P.LINK_STATUS = s.par P.LINK_STATUS + 64 ∧ s.told t E.SPEED_DOWNSHIFT ∧
      t.outbox = .autoneg true :: s.outbox) ∧
    (∀ r : PhyStatus, s.start.lowWater = true →
      ∀ c ∈ ([.phyInt r, .phyPollTimer r] : List Instr),
        (r.valid = true → ∃ t, exec c s = .next t ∧ (t.linkUp = true ↔ r.link = true) ∧
          (r.link = true → t.speed = r.speed ∧ (bit (t.par P.LINK_STATUS) 3 = true ↔ r.full = true)) ∧
          t.eth.mdioFail = false ∧ (t.eth.half = true ↔ r.link = true ∧ r.full = false)) ∧
        (r.valid = false → s.eth.mdioBad = 2 → s.eth.mdioFail = false →
          ∃ t, exec c s = .next t ∧ t.eth.mdioFail = true ∧ t.linkUp = false ∧ s.told t E.MDIO_FAIL)) ∧
    (s.eth.half = true → exec .autonegRetry s = .next { s with outbox := .autoneg s.downshifted :: s.outbox }) ∧
    (s.eth.lpi = none → s.eth.twRefused = false → bit (s.par P.LINK_STATUS) 5 = true → s.par P.EEE_MODE = 1 →
      (s.mac 0).queue = [] → ∃ t, exec .lpiEntry s = .next t ∧ t.eth = { s.eth with lpi := some s.now } ∧
        t.par P.MAC_STATS 15 = (s.par P.MAC_STATS 15 + 1) % 2 ^ 32) ∧
    (∀ τ, s.eth.lpi = some τ → ∃ t, exec .lpiExit s = .next t ∧ t.eth = { s.eth with lpi := none } ∧
      t.par P.MAC_STATS 16 = (s.par P.MAC_STATS 16 + (s.now - τ) / us) % 2 ^ 32) ∧
    (s.linkUp = true → ∃ t, exec .lldpSend s = .next t ∧ t = { s with eth := t.eth } ∧
      (t.mac 0).queue = (s.mac 0).queue ++ [{ kind := .lldp }] ∧ ∀ p, p ≠ 0 → t.mac p = s.mac p) ∧
    (∃ t, exec .lldpTtlExpiry s = .next t ∧ t.eth = { s.eth with partnerTw := none, twRefused := false } ∧
      (t.twNs ≠ s.twNs → s.told t E.EEE_TW_CHANGED) ∧ s.samePars t [P.EEE_TW, P.EVENT_COUNT])

/-- The frame in front of an open port's queue leaves, counted, a PTP message as it is; a pause holds it.  An underrun is counted and told,
raises the port's step, and the frame is sent once more or, as a retry, dropped.  A received frame below 64 bytes or with a wrong
FCS is counted as that; a good one that passes the filter and fits the buffer is counted with its bytes.  On an UP link with PAUSE_MODE 1 a PAUSE
starts or, with 0 quanta, ends a pause, and without it does neither; an elapsed or capped one ends.  A T1S collision without PLCA
backs off below 2^min(n, 10) slots and drops the frame at the 16th attempt; the backoff ends; a change of PLCA status is told. -/
def Obligations.EthernetFrames : Prop :=
  (∀ (p : Fin 9) (f : TxFrame) (q : List TxFrame) (s : State), (s.mac p).queue = f :: q →
    (∀ size stamp deferred, s.silent f.kind = false → s.macOpen p = true → (p = 0 → s.eth.pause = none) → (s.mac p).backoff = none →
      ∃ t o, exec (.macFrameTransmit p size stamp deferred) s = .next t ∧ (t.mac p).queue = q ∧ t.outbox = o :: s.outbox ∧
        (∀ m n x, f.kind = .ptp m n x → o = .ptp m n x) ∧ ∀ r, r ≠ p.val → t.mac r = s.mac r) ∧
    (∀ size stamp deferred, s.silent f.kind = false → p = 0 → s.eth.pause ≠ none →
      exec (.macFrameTransmit p size stamp deferred) s = .next s) ∧
    (s.txStep p ≠ 8 → ∃ t, exec (.txFifoUnderrun p) s = .next t ∧ t.txStep p = s.txStep p + 1 ∧
      s.told t E.TX_UNDERRUN ∧ (t.mac p).queue = (if f.retry = true then q else { f with retry := true } :: q))) ∧
  (∀ (f : RxFrame) (s : State), s.linkUp = true → f.symbolError = false →
    (f.length < 64 → ∃ t, exec (.macFrameReceive 0 f) s = .next t ∧
      t.par P.MAC_STATS 7 = (s.par P.MAC_STATS 7 + 1) % 2 ^ 32 ∧ t.eth = s.eth) ∧
    (64 ≤ f.length → f.length ≤ 1522 → f.fcsOk = false → ∃ t, exec (.macFrameReceive 0 f) s = .next t ∧
      t.par P.MAC_STATS 6 = (s.par P.MAC_STATS 6 + 1) % 2 ^ 32 ∧ t.eth = s.eth) ∧
    (64 ≤ f.length → f.length ≤ 1522 → f.fcsOk = true → s.macTakes 0 f = true → f.body = .plain →
      (s.mac 0).held + f.length ≤ 65536 → ∃ t, exec (.macFrameReceive 0 f) s = .next t ∧
        t.par P.MAC_STATS 4 = (s.par P.MAC_STATS 4 + 1) % 2 ^ 32 ∧
        t.par P.MAC_STATS 5 = (s.par P.MAC_STATS 5 + f.length) % 2 ^ 32 ∧
        f.length ≤ (t.mac 0).held ∧ (t.mac 0).held ≤ (s.mac 0).held + f.length)) ∧
  (∀ (qu : BitVec 16) (s : State), s.linkUp = true → ∃ t, exec (.pauseFrame qu) s = .next t ∧
    t.par P.MAC_STATS 12 = (s.par P.MAC_STATS 12 + 1) % 2 ^ 32 ∧
    t.eth.pause = (if s.par P.PAUSE_MODE ≠ 1 then s.eth.pause else if qu.toNat = 0 then none else some (s.now, qu.toNat))) ∧
  (∀ s : State, (∃ t, exec .pauseExpiry s = .next t ∧ t.eth = { s.eth with pause := none }) ∧
    (s.par P.PAUSE_CAP ≠ 0 → s.eth.pause ≠ none → ∃ t, exec .pauseCapExpiry s = .next t ∧
      t.eth = { s.eth with pause := none } ∧ s.told t E.PAUSE_CAPPED)) ∧
  ∀ (n : Fin 8) (s : State),
    (∀ late, s.segOn n = true → (s.mac (n + 1)).queue ≠ [] →
      (s.plcaUp n = true → ∃ t, exec (.t1sCollision n late) s = .next t ∧ t.eth = s.eth ∧
        t.par P.T1S_STATS (16 * n + 3) = (s.par P.T1S_STATS (16 * n + 3) + 1) % 2 ^ 32) ∧
      (s.plcaUp n = false → (s.mac (n + 1)).attempts < 15 → ∃ t r, exec (.t1sCollision n late) s = .next t ∧
        t.mac (n + 1) = { s.mac (n + 1) with attempts := (s.mac (n + 1)).attempts + 1, backoff := some r } ∧
        r < 2 ^ min ((s.mac (n + 1)).attempts + 1) 10) ∧
      (s.plcaUp n = false → 15 ≤ (s.mac (n + 1)).attempts → ∃ t, exec (.t1sCollision n late) s = .next t ∧
        (t.mac (n + 1)).queue = (s.mac (n + 1)).queue.tail ∧ s.told t E.T1S_EXCESS_COLLISION)) ∧
    (∃ t, exec (.t1sBackoffExpiry n) s = .next t ∧ t.mac (n + 1) = { s.mac (n + 1) with backoff := none } ∧
      (∀ p, p ≠ n.val + 1 → t.mac p = s.mac p) ∧ t = { s with eth := t.eth }) ∧
    (∀ up beacons, s.segOn n = true → bit (s.par P.PLCA_CONFIG n) 63 = true → s.plcaUp n ≠ up →
      ∃ t, exec (.plcaStatusChange n up beacons) s = .next t ∧ t.plcaUp n = up ∧
        s.told t (if up = true then E.T1S_PLCA_UP else E.T1S_PLCA_LOST))

/-- A request whose address lies at or beyond the die is not issued: no bank's queue, stall or channel changes.  The write is discarded;
the read is poisoned for its requester when it comes back, touching no memory.  EV 537, of fault severity, is raised when a second
has passed since the requester's last, and else only counted. -/
def Obligations.DramBeyondTheDie : Prop :=
  evSev E.DRAM_ADDRESS_FAULT = 2 ∧
  ∀ (r : Fin 24) (part : Fin 16) (addr : Nat) (u : Fin 4) (bg : Bool) (s : State), s.dramRuns = true →
    (r = 23 → part = 1 → s.dram.standby = false ∧ s.bgPaused Bg.DRAM_SCRUB = false) → s.dieBytes ≤ addr →
    (∃ t, exec (.dramRequest r true addr u bg part) s = .next t ∧ t.dram = s.dram ∧ s.told t E.DRAM_ADDRESS_FAULT ∧
      (s.mayRaise E.DRAM_ADDRESS_FAULT r sec = false → t = s.bump P.EVENT_COUNT E.DRAM_ADDRESS_FAULT) ∧
      (s.mayRaise E.DRAM_ADDRESS_FAULT r sec = true →
        SMap.get 0 t.ev.limits (E.DRAM_ADDRESS_FAULT * 65536 + r) = s.now + 1) ∧
      t = { s with dict := t.dict, ev := t.ev }) ∧
    (∃ t q, exec (.dramRequest r false addr u bg part) s = .next t ∧ q.addr = addr ∧ q.write = false ∧ q.requester = r.val ∧
      t.dram = { s.dram with flying := t.dram.flying } ∧ s.told t E.DRAM_ADDRESS_FAULT ∧
      SMap.get [] t.dram.flying (orderKey r part) = SMap.get [] s.dram.flying (orderKey r part) ++ [q] ∧
      ∀ m, m ≠ orderKey r part → SMap.get [] t.dram.flying m = SMap.get [] s.dram.flying m) ∧
    (∀ q l ce ue what, takeFirst false (SMap.get [] s.dram.flying (orderKey r part)) = some (q, l) → q.addr = addr →
      exec (.dramReadReturn r ce ue what part) s =
        .next ({ s with dram := { s.dram with flying := SMap.set [] s.dram.flying (orderKey r part) l } }.poisonTo r what))

/-- A request within the die, other than a scrub read in standby or in a pause, enters its bank's queue last, is in flight and wakes
its channel; where the queue is full, or an earlier
one of its requester stalls, it stalls behind them.  Entries at urgency 0 that have waited 20 µs rise to urgency 1 and no other
changes.  A returned read and an acknowledged write are no longer in flight, in the order of their requester or, of requester 21, of their
streamer; an uncorrectable read is counted, recorded, told and its
burst poisoned; a correctable one counts, with EV 521 at the recurrence limit. -/
def Obligations.DramQueues : Prop :=
  (∀ (r : Fin 24) (part : Fin 16) (w : Bool) (addr : Nat) (u : Fin 4) (bg : Bool) (s : State), s.dramRuns = true →
    (r = 23 → part = 1 → s.dram.standby = false ∧ s.bgPaused Bg.DRAM_SCRUB = false) → addr < s.dieBytes →
    (SMap.get [] s.dram.stalled r = [] → (s.dBank (dramChan addr) (dramBank addr)).queue.length < 16 →
      ∃ t q, exec (.dramRequest r w addr u bg part) s = .next t ∧ q.requester = r.val ∧ q.write = w ∧ q.addr = addr ∧
        q.rank = (if bg = true then 0 else u.val + 1) ∧ q.at_ = s.now ∧
        t.dBank (dramChan addr) (dramBank addr) = { s.dBank (dramChan addr) (dramBank addr) with
          queue := (s.dBank (dramChan addr) (dramBank addr)).queue ++ [q] } ∧
        SMap.get [] t.dram.flying (orderKey r part) = SMap.get [] s.dram.flying (orderKey r part) ++ [q] ∧
        (t.dChan (dramChan addr)).selfRefresh = false ∧ t.dram.stalled = s.dram.stalled ∧
        (∀ k, k ≠ 16 * dramChan addr + dramBank addr → SMap.get {} t.dram.banks k = SMap.get {} s.dram.banks k) ∧
        t = { s with dram := t.dram }) ∧
    (SMap.get [] s.dram.stalled r ≠ [] ∨ 16 ≤ (s.dBank (dramChan addr) (dramBank addr)).queue.length →
      ∃ t q, exec (.dramRequest r w addr u bg part) s = .next t ∧ q.requester = r.val ∧ q.write = w ∧ q.addr = addr ∧
        SMap.get [] t.dram.stalled r = SMap.get [] s.dram.stalled r ++ [q] ∧ t.dram.banks = s.dram.banks ∧
        t.dram.flying = s.dram.flying ∧ t = { s with dram := t.dram })) ∧
  (∀ (c b : Fin 16) (s : State), ∃ t, exec (.requestAgeExpiry c b) s = .next t ∧
    (t.dBank c b).queue.length = (s.dBank c b).queue.length ∧
    (∀ (i : Nat) (q : DramReq), (s.dBank c b).queue[i]? = some q → (t.dBank c b).queue[i]? =
      some { q with rank := if q.rank = 1 ∧ q.at_ + 20 * us ≤ s.now then 2 else q.rank }) ∧
    t.dBank c b = { s.dBank c b with queue := (t.dBank c b).queue } ∧
    (∀ k, k ≠ 16 * c.val + b.val → SMap.get {} t.dram.banks k = SMap.get {} s.dram.banks k) ∧ t = { s with dram := t.dram }) ∧
  ∀ (r : Fin 24) (part : Fin 16) (s : State) (q : DramReq) (l : List DramReq),
    (takeFirst true (SMap.get [] s.dram.flying (orderKey r part)) = some (q, l) → ∃ t, exec (.dramWriteAck r part) s = .next t ∧
      SMap.get [] t.dram.flying (orderKey r part) = l ∧ (∀ m, m ≠ orderKey r part → SMap.get [] t.dram.flying m = SMap.get [] s.dram.flying m) ∧
      t = { s with dram := t.dram, perf := t.perf }) ∧
    (takeFirst false (SMap.get [] s.dram.flying (orderKey r part)) = some (q, l) → q.addr < s.dieBytes → ∀ what,
      (∀ ce, ∃ t, exec (.dramReadReturn r ce true what part) s = .next t ∧ SMap.get [] t.dram.flying (orderKey r part) = l ∧
        t.par P.ECC_UE (dramChan q.addr) = (s.par P.ECC_UE (dramChan q.addr) + 1) % 2 ^ 32 ∧
        t.par P.ECC_LAST_UE = r.val * 2 ^ 53 + q.addr ∧ burstOf q.addr ∈ t.dram.poisoned ∧
        s.told t E.DRAM_UNCORRECTABLE) ∧
      (burstOf q.addr ∉ s.dram.poisoned → (r = 23 → q.part ≠ 1) → ∃ t, exec (.dramReadReturn r true false what part) s = .next t ∧
        SMap.get [] t.dram.flying (orderKey r part) = l ∧
        t.par P.ECC_CE (dramChan q.addr) = (s.par P.ECC_CE (dramChan q.addr) + 1) % 2 ^ 32 ∧
        SMap.get 0 t.dram.corrections (burstOf q.addr) = SMap.get 0 s.dram.corrections (burstOf q.addr) + 1 ∧
        t.dram.poisoned = s.dram.poisoned ∧
        (SMap.get 0 s.dram.corrections (burstOf q.addr) + 1 = s.par P.CE_RECUR_LIMIT → s.told t E.DRAM_CE_RECURRING) ∧
        s.samePars t [P.ECC_CE, P.EVENT_COUNT]))

/-- At debt 8, and in a slot in which no bank is ready, a REFRESH issues: the debt falls by one and every row of the channel closes.
Below it a bank with rows to refresh around an aggressor is served before urgencies below 3.  The one ready bank of a channel
without owed refresh gets the next command of its first entry: PRECHARGE for another open row, ACTIVATE for none, READ or WRITE for its
own, which takes it off the queue.  A tREFI tick raises the debt up to 8 and tells a forced refresh; a window restart clears the
tracker and lowers by one the step of each requester that was not hot. -/
def Obligations.DramCommandSlots : Prop :=
  ∀ (c : Fin 16) (s : State),
    (s.dramRuns = true → (s.dChan c).selfRefresh = false →
      (∀ able, 8 ≤ (s.dChan c).debt ∨ ((∀ b, b < 16 → (s.dBank c b).victims = []) ∧ able = [] ∧ -8 < (s.dChan c).debt) →
        ∃ t, exec (.commandSlot c able) s = .next t ∧ (t.dChan c).debt = (s.dChan c).debt - 1 ∧
          (∀ b, b < 16 → (t.dBank c b).row = none ∧ (t.dBank c b).queue = (s.dBank c b).queue) ∧
          t = { s with dram := t.dram, perf := t.perf }) ∧
      ((s.dChan c).debt < 8 → ∀ b, b < 16 → (s.dBank c b).victims ≠ [] → (∀ b', b' < b → (s.dBank c b').victims = []) →
        ∃ t, exec (.commandSlot c []) s = .next t ∧ (t.dBank c b).victims = [] ∧ (t.dBank c b).row = none ∧
          (t.dBank c b).queue = (s.dBank c b).queue ∧ t = { s with dram := t.dram, perf := t.perf }) ∧
      ((s.dChan c).debt ≤ 0 → (∀ b, b < 16 → (s.dBank c b).victims = []) →
        ∀ (b : Fin 16) (q : DramReq) (rest : List DramReq), (s.dBank c b).queue = q :: rest → s.unpaused (s.dBank c b) = true →
          ((s.dBank c b).row = none → ∃ t, exec (.commandSlot c [b]) s = .next t ∧
            (t.dBank c b).row = some (dramRow q.addr) ∧ (t.dBank c b).queue = q :: rest) ∧
          ((∃ row, (s.dBank c b).row = some row ∧ row ≠ dramRow q.addr) →
            ∃ t, exec (.commandSlot c [b]) s = .next t ∧ (t.dBank c b).row = none ∧ (t.dBank c b).queue = q :: rest ∧
              t = { s with dram := t.dram }) ∧
          ((s.dBank c b).row = some (dramRow q.addr) → ∃ t l, exec (.commandSlot c [b]) s = .next t ∧
            (t.dBank c b).queue = rest ++ l ∧ (t.dBank c b).row = some (dramRow q.addr) ∧ (t.dChan c).last = b.val ∧
            t = { s with dram := t.dram, perf := t.perf })) ∧
      (∃ t, exec (.refreshTick c) s = .next t ∧ (t.dChan c).debt = min ((s.dChan c).debt + 1) 8 ∧
        t.par P.REFRESH_INTERVAL = b2n s.dram.nextFast ∧
        ((s.dChan c).debt = 7 → t.par P.REFRESH_FORCED c = (s.par P.REFRESH_FORCED c + 1) % 2 ^ 32 ∧
          s.told t E.REFRESH_FORCED) ∧
        ∀ m, m ≠ c.val → t.dChan m = s.dChan m)) ∧
    ∀ b : Fin 16, ∃ t, exec (.disturbWindowRestart c b) s = .next t ∧ (t.dBank c b).rows = [] ∧
      (∀ e ∈ (t.dBank c b).steps, ∃ e' ∈ (s.dBank c b).steps, e'.1 = e.1 ∧
        if ((s.dBank c b).rows.any fun x => decide (2048 ≤ SMap.get 0 x.acts e.1)) = true then e.2 = e'.2
        else e.2 + 1 = e'.2 ∧ 1 < e'.2) ∧
      (t.dBank c b).queue = (s.dBank c b).queue ∧ (t.dBank c b).row = (s.dBank c b).row ∧ t = { s with dram := t.dram }

/-- The training results are recorded; none failed makes the DRAM ready, a failed channel is told and keeps the device at low-water.
A second's recalibration moves to the next channel.  At the standby delay idle channels enter self-refresh with their debt paid; a woken
channel idle for 100 µs returns to it, and what the die held outside the kept segment goes.  The cistern scrubber counts and tells an uncorrectable word once, counts a correction, tells the
third in a row, and forgets a word that reads well. -/
def Obligations.MemoryUpkeep : Prop :=
  (∀ (rs : List (BitVec 32)) (s : State), s.par P.DRAM_STATE = 1 →
    ((∀ c, c < 16 → bit (rs.getD c 0).toNat 31 = false) → ∃ t, exec (.dramTrainingComplete rs) s = .next t ∧
      t.par P.DRAM_STATE = 2 ∧ (∀ c, c < 16 → t.par P.TRAIN_RESULT c = (rs.getD c 0).toNat) ∧
      t.par P.TRAIN_TIME = (s.now - s.dram.releasedAt) / ms ∧ t = { s with dict := t.dict }) ∧
    ((∃ c, c < 16 ∧ bit (rs.getD c 0).toNat 31 = true) → ∃ t, exec (.dramTrainingComplete rs) s = .next t ∧
      t.par P.DRAM_STATE = 5 ∧ (∀ c, c < 16 → t.par P.TRAIN_RESULT c = (rs.getD c 0).toNat) ∧
      t.start.stopped = true ∧ s.told t E.DRAM_TRAIN_FAIL)) ∧
  (∀ s : State, s.par P.DRAM_STATE = 2 →
    exec .dramRecalTimer s = .next { s with dram := { s.dram with recal := (s.dram.recal + 1) % 16 } } ∧
    (s.par P.STANDBY_EN = 1 → s.startStage = 1 → ∃ t, exec .standbyEntryTimer s = .next t ∧ t.par P.DRAM_STATE = 4 ∧
      t.dram.standby = true ∧ s.told t E.STANDBY_ENTERED ∧
      (∀ c, c < 16 → if s.chanIdle c = true then (t.dChan c).selfRefresh = true ∧ (t.dChan c).debt = min (s.dChan c).debt 0
        else t.dChan c = s.dChan c) ∧ s.samePars t [P.DRAM_STATE, P.EVENT_COUNT])) ∧
  (∀ (c : Fin 16) (s : State), s.dram.standby = true → (s.dChan c).selfRefresh = false → s.chanIdle c = true →
    ∃ t, exec (.channelIdleTimeout c) s = .next t ∧ (t.dChan c).selfRefresh = true ∧
      (∀ m, m ≠ c.val → t.dChan m = s.dChan m) ∧ t.dram.banks = s.dram.banks ∧
      t = { s with dram := t.dram, perf := t.perf, src := t.src, store := t.store, tile := t.tile, health := t.health
                   blobs := t.blobs }) ∧
  ∀ (b : Fin 96) (w : BitVec 15) (s : State), s.cisternOwner b ≠ 0 → s.bgPaused Bg.CISTERN_SCRUB = false →
    let key := b.val * 32768 + w.toNat
    (∀ cor, key ∉ s.dram.cisternBad → ∃ t, exec (.cisternScrub b w cor true) s = .next t ∧ key ∈ t.dram.cisternBad ∧
      t.par P.CISTERN_UE = (s.par P.CISTERN_UE + 1) % 2 ^ 32 ∧ t.par P.CISTERN_LAST_UE = b.val * 2 ^ 25 + w.toNat ∧
      s.told t E.CISTERN_UNCORRECTABLE) ∧
    (∃ t, exec (.cisternScrub b w true false) s = .next t ∧ t.par P.CISTERN_CE = (s.par P.CISTERN_CE + 1) % 2 ^ 32 ∧
      SMap.get 0 t.dram.cisternCe key = SMap.get 0 s.dram.cisternCe key + 1 ∧
      (SMap.get 0 s.dram.cisternCe key = 2 → s.told t E.CISTERN_CE_RECURRING)) ∧
    (∃ t, exec (.cisternScrub b w false false) s = .next t ∧ SMap.get 0 t.dram.cisternCe key = 0 ∧ key ∉ t.dram.cisternBad ∧
      (∀ k, k ≠ key → SMap.get 0 t.dram.cisternCe k = SMap.get 0 s.dram.cisternCe k) ∧
      t = { s with dram := t.dram, therm := t.therm })

/-- A valid sample is the die temperature and leads to the stage the thresholds give, a change counted and told; one at 130 °C or
above, like the comparator, trips the device and records it.  The third invalid sample in a row is told and holds throttle-2 or higher.
A pause of a background operation or a compositor cluster ends.  A trim step moves each code of a released region that is away from its target
one step toward it, and puts those of the other regions at their targets. -/
def Obligations.ThermalStagesAndTrims : Prop :=
  (∀ (s : State) (x : Int), s.start.por = false → s.start.tripped = false → -960 ≤ x → x ≤ 2560 →
    (x < 2080 → s.stage ≤ 3 → ∃ t st, exec (.thermalSample (some x)) s = .next t ∧ t.par P.DIE_TEMP = unsigned 16 x ∧
      t.par P.THERMAL_STAGE = st ∧ t.therm.invalid = 0 ∧ t.start = s.start ∧
      (1920 ≤ x → st = 3) ∧ (1840 ≤ x → x < 1920 → st = if s.stage = 3 ∧ 1856 < x then 3 else 2) ∧
      (s.stage ≤ 1 → 1760 ≤ x → x < 1840 → st = 1) ∧ (s.stage = 0 → x < 1760 → st = 0) ∧
      (s.stage = 3 → x ≤ 1856 → st = 2) ∧ (s.stage = 2 → x ≤ 1776 → st = 1) ∧ (s.stage = 1 → x ≤ 1696 → st = 0) ∧
      (s.stage < st → s.told t (stageEvent st) ∧ t.par P.STAGE_ENTRIES st = (s.par P.STAGE_ENTRIES st + 1) % 2 ^ 32) ∧
      (st < s.stage → s.told t E.THERMAL_STAGE_DOWN)) ∧
    (2080 ≤ x → ∃ t, exec (.thermalSample (some x)) s = .next t ∧ t.start.tripped = true ∧ t.par P.THERMAL_STAGE = 4 ∧
      t.blobNat P.TRIP_LOG 0 10 2 = unsigned 16 x ∧ t.blobByte P.TRIP_LOG 0 12 = 0)) ∧
  (∀ (s : State) (o : Option Int), s.start.por = false → s.start.tripped = false →
    (o = none ∨ ∃ x, o = some x ∧ (x < -960 ∨ 2560 < x)) →
    (s.therm.invalid < 2 → ∃ t, exec (.thermalSample o) s = .next t ∧ t.therm.invalid = s.therm.invalid + 1 ∧
      t.par P.THERMAL_STAGE = s.par P.THERMAL_STAGE ∧ t.par P.DIE_TEMP = s.par P.DIE_TEMP) ∧
    (s.therm.invalid = 2 → s.therm.sensorFault = false → ∃ t, exec (.thermalSample o) s = .next t ∧
      t.therm.sensorFault = true ∧ t.par P.THERMAL_STAGE = max s.stage 3 ∧ s.told t E.THERMAL_SENSOR_FAULT)) ∧
  (∀ s : State, s.start.por = false → s.start.tripped = false → ∃ t, exec .tripComparator s = .next t ∧
    t.start.tripped = true ∧ t.par P.THERMAL_STAGE = 4 ∧ t.blobByte P.TRIP_LOG 0 12 = 1 ∧
    t.pump.duty = [] ∧ ∀ r ∈ [1, 2, 3, 4], SMap.get false t.start.released r = false) ∧
  (∀ (o : Fin 6) (s : State), ∃ t, exec (.bgPauseExpiry o) s = .next t ∧ t.bgPaused o = false ∧
    (∀ p, p ≠ o.val → t.bgPaused p = s.bgPaused p) ∧ t = { s with therm := { s.therm with pauses := t.therm.pauses } }) ∧
  (∀ (c : Fin 4) (s : State), ∃ t, exec (.composePauseExpiry c) s = .next t ∧
    (∀ p, p ∈ t.therm.composePauses ↔ p ∈ s.therm.composePauses ∧ p ≠ c.val) ∧
    t = { s with therm := { s.therm with composePauses := t.therm.composePauses } }) ∧
  ∀ s : State, ∃ t, exec .trimStep s = .next t ∧
    (∀ key, (s.therm.fused.map Prod.fst).count key = 1 →
      if SMap.get false s.start.released (domainRegion (key / 64)) = true
      then SMap.get 0 t.therm.codes key = SMap.get 0 s.therm.codes key +
        (SMap.get 0 s.therm.targets key - SMap.get 0 s.therm.codes key).sign
      else SMap.get 0 t.therm.codes key = SMap.get 0 s.therm.targets key) ∧
    (∀ key, (s.therm.fused.map Prod.fst).count key = 0 → SMap.get 0 t.therm.codes key = SMap.get 0 s.therm.codes key) ∧
    t = { s with therm := { s.therm with codes := t.therm.codes }, lane := { s.lane with trimAt := t.lane.trimAt } }

/-- A conversion of an enabled channel whose gate is open makes its value the rounded mean of the last 2ⁿ; the 64th in a row at a rail is told.  A
second tachometer edge gives the speed from the period, the first only starts it; 1 s without an edge gives 0, an edge in its last cycle beginning the next
period, and a fan below its
stall speed while driven is told once.

In slot t every loop that is not OFF and whose period divides t + l falls due, and one still waiting is counted as overrun.  The
lowest waiting loop alone is served.  In FIXED its output moves to FIXED_OUT no faster than its slew, in HOLD it stays, and in TRACK it
lies within its limits after a step of an input; a member that is not ACTIVE leaves its outputs alone. -/
def Obligations.PumpInputsAndStep : Prop :=
  ((∀ (a : Fin 8) (code : BitVec 12) (s : State), s.isTile = true → s.rdy B.FW = true → s.ainOn a = true → s.gateOpen a = true →
    ∃ t, exec (.ainConversion a code) s = .next t ∧
      (t.ainOf a).codes = (code.toNat :: (s.ainOf a).codes).take 16 ∧ (t.ainOf a).at_ = s.now + 1 ∧
      t.par P.AIN_VALUE a = meanCode (field (s.par P.AIN_CONFIG a) 0 3) (t.ainOf a).codes ∧
      (code = 0 ∨ code = 4095 → 63 ≤ (s.ainOf a).rail → (s.ainOf a).told = false →
        (t.ainOf a).told = true ∧ s.told t E.AIN_AT_RAIL) ∧
      (code ≠ 0 → code ≠ 4095 → (t.ainOf a).rail = 0 ∧ s.samePars t [P.AIN_VALUE]) ∧
      ∀ b, b ≠ a.val → t.ainOf b = s.ainOf b) ∧
  ∀ (f : Fin 2) (s : State), s.isTile = true → s.rdy B.FW = true →
    ((s.tachOf f).edge = 0 → ∃ t, exec (.tachEdge f) s = .next t ∧ (t.tachOf f).edge = s.now + 1 ∧
      t = { s with pump := t.pump }) ∧
    (∀ e, (s.tachOf f).edge = e + 1 → e < s.now → ∃ t, exec (.tachEdge f) s = .next t ∧ (t.tachOf f).edge = s.now + 1 ∧
      t.par P.TACH_RPM f = min (60 * sec / ((s.now - e) * field (s.par P.TACH_CONFIG f) 28 4)) 65535 ∧
      s.samePars t [P.TACH_RPM]) ∧
    (∃ t, exec (.tachTimeout f) s = .next t ∧ t.par P.TACH_RPM f = 0 ∧ s.samePars t [P.TACH_RPM] ∧
      (t.tachOf f).edge = if (s.tachOf f).edge = s.now + 1 then s.now + 1 else 0) ∧
    (s.par P.TACH_RPM f < s.par P.TACH_STALL f → 0 < SMap.get 0 s.pump.duty (8 + f.val) → (s.tachOf f).told = false →
      ∃ t, exec (.tachStallTimer f) s = .next t ∧ (t.tachOf f).told = true ∧ s.told t E.FAN_STALL ∧
        t.par P.TACH_RPM f = s.par P.TACH_RPM f)) ∧
  (∀ s : State, s.pump.running = true → ∃ t, exec .pumpStepSlot s = .next t ∧ t.pump.slot = s.pump.slot + 1 ∧
    let due (l : Nat) : Prop := (s.loopOf l).mode ≠ 0 ∧ (s.pump.slot + l) % s.par P.LOOP_PERIOD l = 0
    (∀ l, l < 16 → due l → (s.loopOf l).waiting = true → t.par P.OVERRUNS l = (s.par P.OVERRUNS l + 1) % 2 ^ 32) ∧
    (∀ l, l < 16 → ¬(due l ∧ (s.loopOf l).waiting = true) → t.par P.OVERRUNS l = s.par P.OVERRUNS l) ∧
    (∀ l, l < 16 → (due l ∨ (s.loopOf l).waiting = true) →
      (∀ k, k < l → ¬due k ∧ (s.loopOf k).waiting = false) →
      (t.loopOf l).waiting = false ∧
      (∀ k, l < k → k < 16 → ((t.loopOf k).waiting = true ↔ due k ∨ (s.loopOf k).waiting = true) ∧
        (t.loopOf k).u = (s.loopOf k).u) ∧
      (s.isSecond = true → (t.loopOf l).u = (s.loopOf l).u ∧ t.pump.duty = s.pump.duty) ∧
      (s.isSecond = false → s.loopIn l = 0 →
        ((s.loopOf l).mode = 1 → (t.loopOf l).u = (if s.par P.OUT_SLEW l = 0 then (s.par P.FIXED_OUT l : Int)
          else clampI ((s.loopOf l).u - s.par P.OUT_SLEW l) ((s.loopOf l).u + s.par P.OUT_SLEW l) (s.par P.FIXED_OUT l)).toNat) ∧
        ((s.loopOf l).mode = 3 → (t.loopOf l).u = (s.loopOf l).u)) ∧
      (s.isSecond = false → s.loopIn l ≠ 0 → (s.loopInput l).1 ≠ none → (s.loopOf l).mode = 2 →
        field (s.par P.OSC_CONFIG l) 24 2 = 0 → s.par P.OUT_SLEW l = 0 →
        field (s.par P.OUT_LIMITS l) 0 16 ≤ field (s.par P.OUT_LIMITS l) 16 16 →
        field (s.par P.OUT_LIMITS l) 0 16 ≤ (t.loopOf l).u ∧ (t.loopOf l).u ≤ field (s.par P.OUT_LIMITS l) 16 16)))

/-- A good data packet of a fill whose buffer is neither ready nor in use is written into it byte for byte, which is filling under its
number; an older fill left incomplete on the channel is damaged by the first one.  A packet that fails a check of R167 or R222 is
dropped, counted and told.  A fence packet of a damaged or an old fill is refused; behind all packets of a new fill it completes the
channel's part and lets the fence write follow, and an incomplete fill is damaged.  The acknowledged write, with every signalling
channel's part complete and acknowledged, gives the surface's fence the fill. -/
def Obligations.SurfaceFills : Prop :=
  ∀ (c : Fin 16) (v : VideoPacket) (s : State),
    let i := s.par P.INGRESS_SURFACE c
    let f := v.head.tick.toNat
    let src := srcKey 2 i
    let b := s.fillBuf src f
    let open_ : Prop := ∀ p, (s.chanOf c).part f = some p → p.fenced = false
    let alone : Prop := ((s.chanOf c).part f).isSome = true ∨
      ∀ p ∈ (s.chanOf c).parts, newer (2 ^ 48) f p.fill = true → p.fenced = true
    (s.ingressUp c = true → s.ingressBad c v = false → isFence v = false → open_ → s.bufState src b < 2 →
      s.isDamaged i f = false →
      (alone → ∃ t p, exec (.ingressPacket c v) s = .next t ∧ (t.bufOf src b).st = 1 ∧ (t.bufOf src b).ident = f ∧
        (∀ n, n < v.payload.length → t.bufByte src b (v.head.offset.toNat + n) = (v.payload.getD n 0).toNat) ∧
        (t.chanOf c).part f = some p ∧ v.head.index.toNat ∈ p.indices ∧ (∀ d, d ≠ c.val → t.chanOf d = s.chanOf d) ∧
        t = { s with src := t.src, perf := t.perf }) ∧
      (∀ p, (s.chanOf c).parts = [p] → newer (2 ^ 48) f p.fill = true → p.fenced = false → s.isDamaged i p.fill = false →
        ∃ t, exec (.ingressPacket c v) s = .next t ∧ t.isDamaged i p.fill = true ∧ s.told t E.SURFACE_FILL_DAMAGED ∧
          t.par P.FILLS_DAMAGED i = (s.par P.FILLS_DAMAGED i + 1) % 2 ^ 32)) ∧
    (s.ingressUp c = true → s.ingressBad c v = true → ∀ x ∈ ([.ingressPacket c v, .fencePacket c v] : List Instr),
      ∃ t, exec x s = .next t ∧ t.par P.INGRESS_DROPS c = (s.par P.INGRESS_DROPS c + 1) % 2 ^ 32 ∧
        s.told t E.INGRESS_DROPPED ∧ t.src.bytes = s.src.bytes) ∧
    (s.ingressUp c = true → s.ingressBad c v = false → isFence v = true →
      (s.isDamaged i f = true ∨ (open_ ∧ ∃ g, s.fenceOf i = some g ∧ newer (2 ^ 48) f g = false) →
        ∃ t, exec (.fencePacket c v) s = .next t ∧ s.told t E.FENCE_REFUSED ∧ t.src = s.src) ∧
      (open_ → (∀ g, s.fenceOf i = some g → newer (2 ^ 48) f g = true) → s.isDamaged i f = false →
        (∀ p, (s.chanOf c).part f = some p → p.whole = true → ∃ t, exec (.fencePacket c v) s = .next t ∧
          (t.chanOf c).complete = some f ∧ (t.chanOf c).writing = (s.chanOf c).writing ++ [f] ∧
          (t.chanOf c).part f = some { p with fenced := true } ∧ t = { s with src := t.src }) ∧
        (alone → (∀ p, (s.chanOf c).part f = some p → p.whole = false) →
          ∃ t, exec (.fencePacket c v) s = .next t ∧ t.isDamaged i f = true ∧ s.told t E.SURFACE_FILL_DAMAGED ∧
            t.par P.FILLS_DAMAGED i = (s.par P.FILLS_DAMAGED i + 1) % 2 ^ 32))) ∧
    (∀ g rest, (s.chanOf c).writing = g :: rest → ∃ t, exec (.fenceWriteAck c) s = .next t ∧
      t.chanOf c = { s.chanOf c with writing := rest, done := some g } ∧
      (i ≤ 15 → (∀ d, d < 16 → s.par P.INGRESS_SURFACE d = i →
          (s.chanOf d).complete = some g ∧ (d ≠ c.val → (s.chanOf d).done = some g)) →
        (∀ h, s.fenceOf i = some h → newer (2 ^ 48) g h = true) → s.isDamaged i g = false →
        s.geometry src ≠ 0 → t.par P.SURFACE_FENCE i = 2 ^ 63 + g ∧
          (t.bufOf src (g % s.bufCount src)).st = 2 ∧ (t.bufOf src (g % s.bufCount src)).ident = g ∧
          t.par P.SURFACE_FENCE_TIME i = time80 s.nowNs))

/-- The first DP frame of a delivered stream goes to a buffer of its size and bit depth, or, with a buffer too small, nowhere, told.  Its end
makes the buffer ready and counts it; a damaged one frees it uncounted.  A span head and a standby show the corresponding buffer of the
partner's flip set, a standby without one tells it, and an active head keeps its choice, as does one whose set comes after 200 µs; a
set that did not come is told, in a span head as a compose miss.  A complete polder build is told, after a restart at once in use
and otherwise waiting for its stills or its tick. -/
def Obligations.DisplayPortFramesAndFlipSets : Prop :=
  (∀ (n : Fin 4) (s : State), (s.dpOf n).train = 6 → (s.dpOf n).delivered = true → SMap.get 0 s.src.dpStart n = 0 →
    let d := (s.dpOf n).format
    (s.par P.DP_BUFFER n < d.width * d.height * fmtBytes (if d.bits ≤ 10 then 1 else 3) →
      ∃ t, exec (.dpFrameStart n) s = .next t ∧ SMap.get 0 t.src.dpFill n = 0 ∧ s.told t E.DP_BUFFER_SMALL ∧
        t.src.bufs = s.src.bufs) ∧
    (∀ b, d.width * d.height * fmtBytes (if d.bits ≤ 10 then 1 else 3) ≤ s.par P.DP_BUFFER n →
      s.dpBuffer (srcKey 1 n) = some b → ∃ t, exec (.dpFrameStart n) s = .next t ∧ SMap.get 0 t.src.dpFill n = b + 1 ∧
        (t.bufOf (srcKey 1 n) b).st = 1 ∧ (t.bufOf (srcKey 1 n) b).ident = s.nowNs ∧
        (t.bufOf (srcKey 1 n) b).width = d.width ∧ (t.bufOf (srcKey 1 n) b).height = d.height ∧
        (t.bufOf (srcKey 1 n) b).format = (if d.bits ≤ 10 then 1 else 3) ∧ t = { s with src := t.src })) ∧
  (∀ (n : Fin 4) (px : List Byte) (b : Nat) (s : State), SMap.get 0 s.src.dpFill n = b + 1 →
    (s.src.dpBad.contains n.val = false → ∃ t, exec (.dpFrameEnd n true px) s = .next t ∧
      (t.bufOf (srcKey 1 n) b).st = 2 ∧ (t.bufOf (srcKey 1 n) b).at_ = s.now ∧
      (∀ i, i < px.length → t.bufByte (srcKey 1 n) b i = (px.getD i 0).toNat) ∧ SMap.get 0 t.src.dpFill n = 0 ∧
      t.par P.DP_FRAMES n = (s.par P.DP_FRAMES n + 1) % 2 ^ 32 ∧ s.samePars t [P.DP_FRAMES]) ∧
    (∀ clean, s.src.dpBad.contains n.val = true ∨ clean = false → ∃ t, exec (.dpFrameEnd n clean px) s = .next t ∧
      (t.bufOf (srcKey 1 n) b).st = 0 ∧ SMap.get 0 t.src.dpFill n = 0 ∧ t.par P.DP_FRAMES n = s.par P.DP_FRAMES n)) ∧
  (∀ (k : Nat) (n : Fin 16) (id : Nat) (s : State), s.isHead = true → s.src.setDue = k + 1 →
    let kept (t : State) : Prop := t.src.setDue = 0 ∧ ∀ m, (t.layerOf m).buf = (s.layerOf m).buf
    (∀ set, s.src.setFrom + 50000 ≤ s.now → exec (.flipSet k set) s = .next s) ∧
    (s.now < s.src.setFrom + 50000 →
      (s.flipsWait = false → ∀ set, ∃ t, exec (.flipSet k set) s = .next t ∧ kept t) ∧
      (s.flipsWait = true → buffered (s.par P.LAYER_SOURCE n) = true →
        (∀ b, s.matchBuf (s.par P.LAYER_SOURCE n) id = some b → ∃ t, exec (.flipSet k [(n, [id])]) s = .next t ∧
          (t.layerOf n).buf = some b ∧ (t.layerOf n).src = s.par P.LAYER_SOURCE n ∧ t.src.setDue = 0 ∧
          t.par P.LAYER_SHOWN n = (s.bufOf (s.par P.LAYER_SOURCE n) b).ident % 2 ^ 64 ∧
          s.samePars t [P.LAYER_SHOWN, P.LAYER_STATUS, P.GROUP_FLIPS, P.EVENT_COUNT]) ∧
        (s.par P.SPAN_ROLE = 0 → s.matchBuf (s.par P.LAYER_SOURCE n) id = none →
          ∃ t, exec (.flipSet k [(n, [id])]) s = .next t ∧ s.told t E.FLIP_PARTNER_DIFFER ∧ kept t))) ∧
    (∃ t, exec (.flipSetDeadline k) s = .next t ∧ kept t ∧ s.told t E.FLIP_PARTNER_LATE ∧
      (s.par P.SPAN_ROLE ≠ 0 → k ∈ t.scan.missed) ∧ (s.par P.SPAN_ROLE = 0 → t.scan = s.scan))) ∧
  ∀ s : State, s.bgPaused Bg.POLDER = false →
    (s.buildCause ≠ 0 → ∃ t, exec .polderBuildComplete s = .next t ∧ s.told t E.POLDER_BUILT ∧
      (s.buildCause = 3 → t.comp.polder = true ∧ t.comp.built = none) ∧
      (s.buildCause ≠ 3 → t.comp.polder = s.comp.polder ∧ t.comp.building = 0) ∧
      (s.buildCause = 1 → t.comp.built = some (1, 0, s.runStills)) ∧
      (s.buildCause = 2 → t.comp.built = some (2, s.polderNext, s.runStills) ∧ t.comp.due = s.comp.due.erase s.polderNext)) ∧
    (s.buildCause = 0 → exec .polderBuildComplete s = .next s)

/-- Once a second the loads of the chains are computed anew.  A packet that is due, whose payload the well holds and that ends by E leaves
with the header of R149, and the well loses its bytes; one whose payload is still missing waits until DRY_LIMIT.  A well dry then is counted and told
once per frame and ends its region; at E every region not finished is counted late, told once, and the streamer is done. -/
def Obligations.ScanOut : Prop :=
  (∀ s : State, s.isHead = true → ∃ t, exec .chainLoadRecompute s = .next t ∧
    (∀ c, c < 16 → t.par P.CHAIN_LOAD c = if (s.chainLane c).isNone then 0 else if s.chainCarries c ≤ 0 then 0xFFFF
      else min ⌊(s.chainS c : ℚ) * 10000 / s.chainCarries c + 1 / 2⌋.toNat 0xFFFF) ∧
    s.samePars t [P.CHAIN_LOAD] ∧ t = { s with dict := t.dict }) ∧
  ∀ (c : Fin 16) (s : State) (r : TileRegion) (rs : List TileRegion),
    let d := s.streamerOf c
    d.active = true → d.regions = r :: rs →
    (∀ k, s.chainUp c = true → s.clusterOut .image 4 = false → dueAt d ≤ s.nowQ → d.lastEnd ≤ ⌊s.nowQ * 65536⌋ → d.poisoned.contains r.number = false →
      d.content = some k →
      let last := decide (d.packet + 1 = regionPackets d.format r.width r.height)
      s.fitsE c d (packetSymbols d.nextLen last d.prefixed) = true →
      (s.dryReached d = false → d.level < d.nextLen → exec (.scanoutPacketStart c) s = .next s) ∧
      ((s.dryReached d && s.wellLacks d) = false → d.nextLen ≤ d.level → ∃ t pre sig pay, exec (.scanoutPacketStart c) s = .next t ∧
        t.outbox = pre ++ Out.packet c K.VIDEO ([b2n d.prefixed, r.dest, s.par P.DEVICE_ID, d.epoch, d.frame,
          d.packet * (groupOf d.format).2.2, d.packet, regionPackets d.format r.width r.height,
          128 * b2n last + 32 * b2n d.repeat_, d.format, (if last = true then d.gap else 0), sig] ++ pay) :: s.outbox ∧
        (t.streamerOf c).level = d.level - d.nextLen ∧
        (last = false → pre = [] ∧ sig = 0 ∧ (t.streamerOf c).packet = d.packet + 1 ∧ (t.streamerOf c).regions = r :: rs) ∧
        (last = true → (t.streamerOf c).packet = 0 ∧ (t.streamerOf c).regions = rs) ∧
        ∀ e, e ≠ c.val → t.streamerOf e = s.streamerOf e)) ∧
    (s.dryReached d = true → s.wellLacks d = true → ∃ t, exec (.dryLimitExpiry c) s = .next t ∧
      t.par P.DRY_COUNT c = (s.par P.DRY_COUNT c + 1) % 2 ^ 32 ∧ (t.streamerOf c).regions = rs ∧
      (t.streamerOf c).dryTold = true ∧ (d.dryTold = false → s.told t E.WELL_DRY)) ∧
    (∃ t, exec (.scanEndPoint c) s = .next t ∧
      t.par P.LATE_REGIONS c = (s.par P.LATE_REGIONS c + (rs.length + 1)) % 2 ^ 32 ∧ (t.streamerOf c).regions = [] ∧
      (t.streamerOf c).active = false ∧ (d.lateTold = false → s.told t E.SCANOUT_LATE))

/-- A canvas that is complete, with no pause, quiesced cluster or poisoned read, is stamped; at its deadline one that is not is discarded, counted, told and missed, and one in time
of the Image clock stays.
At the span deadline a head without its own record in time sends one that says not done; a partner's record newer than the last is
taken, another is not.  At the comparison's deadline late signatures of the frame are dropped; a redundant device publishes its report
for the frame and drops the signatures up to it. -/
def Obligations.CanvasAndSpan : Prop :=
  ∀ (k : Nat) (s : State),
    (s.isHead = true → (s.canvasOf k).started = true → (s.canvasOf k).frame = k →
      ((s.canvasOf k).complete = false → s.comp.poisoned = false → s.therm.composePauses = [] →
        (∀ c, c < 4 → s.clusterOut .image c = false) → ∃ t, exec (.canvasComplete k) s = .next t ∧
        t.canvasOf k = { s.canvasOf k with complete := true, doneAt := s.imageNow } ∧
        t.par P.COMPOSE_TIME = min (s.imageNow - s.comp.startedAt) 0xFFFFFFFF ∧
        (s.par P.SPAN_ROLE = 0 → t = { s with comp := t.comp, dict := t.dict })) ∧
      (s.comp.poisoned = true ∨ (∃ c, c < 4 ∧ s.clusterOut .image c = true) → exec (.canvasComplete k) s = .next s) ∧
      ∀ tie, ((s.canvasOf k).complete = true → inTime tie (s.canvasOf k).doneAt s.imageNow = true →
          exec (.composeDeadline k tie) s = .next s) ∧
        ((s.canvasOf k).complete = false ∨ inTime tie (s.canvasOf k).doneAt s.imageNow = false → k ∉ s.scan.missed →
          ∃ t, exec (.composeDeadline k tie) s = .next t ∧ (t.canvasOf k).started = false ∧
            t.par P.COMPOSE_MISSES = (s.par P.COMPOSE_MISSES + 1) % 2 ^ 32 ∧ k ∈ t.scan.missed ∧ s.told t E.COMPOSE_LATE)) ∧
    (s.par P.SPAN_ROLE ≠ 0 → s.isHead = true →
      (∀ tie, (∀ r, s.scan.own = some r → r.tick ≠ k) →
        ∃ t r, exec (.spanDeadline k tie) s = .next t ∧ t.scan.own = some r ∧ r.tick = k ∧ r.done = false ∧
          r.role = s.par P.SPAN_ROLE ∧ r.rate = s.rate ∧ r.digest = s.spanDigestOf k) ∧
      (∀ r tie, s.scan.own = some r → r.tick = k → exec (.spanDeadline k tie) s = .next s) ∧
      (∀ (ro : Fin 4) dn (ra : Fin 16) (dg : BitVec 64) hi,
        ((∀ r, s.scan.partner = some r → r.tick < k) → exec (.spanRecord k ro dn ra dg hi) s =
          .next { s with scan := { s.scan with partner := some { tick := k, role := ro, done := dn, rate := ra,
                                                                 digest := dg.toNat, hist := hi, at_ := s.now } } }) ∧
        ((∃ r, s.scan.partner = some r ∧ k ≤ r.tick) → exec (.spanRecord k ro dn ra dg hi) s = .next s))) ∧
    (∀ tie, ∃ t, exec (.signatureCompareDeadline k tie) s = .next t ∧ t.red.sigDone = k + 1 ∧
      (∀ r, r ∈ t.red.sigPartner ↔ r ∈ s.red.sigPartner ∧ (r.tick = k → s.onTime tie r.at_ = true)) ∧
      t = { s with red := { s.red with sigDone := t.red.sigDone, sigPartner := t.red.sigPartner } }) ∧
    (s.redMode = true → ∃ t, exec (.healthReportPublish k) s = .next t ∧ t.blobNat P.HEALTH_REPORT 0 0 6 = k % 2 ^ 48 ∧
      t.blobByte P.HEALTH_REPORT 0 6 = s.sluice % 256 ∧ (∀ r ∈ t.red.sigOwn ++ t.red.sigPartner, k < r.tick) ∧
      t.red.subCompared = 0 ∧ t.red.subDiffered = 0 ∧ t.red.subSkipped = 0)

/-- A tick's number is strobed once, and only while Time is released and no trip is latched; the tick in force is that number, and a
head that changes its rate there tells it.  A commit latch runs once, not in a reset, not without TIME_LOCK; it applies the pending
transactions due by its tick in order, records the last one's number, and leaves every later one pending. -/
def Obligations.TicksAndLatches : Prop :=
  ∀ (n : Nat) (tie : Bool) (s : State),
    (s.isReleased .time = false ∨ s.start.tripped = true ∨ n ≤ s.time.strobed →
      exec (.tickStrobe n tie) s = .next s) ∧
    (s.isReleased .time = true → s.start.tripped = false → s.time.strobed < n → ∃ t, exec (.tickStrobe n tie) s = .next t ∧
      t.time.tick = n ∧ t.time.strobed = n ∧ (s.isHead = true → s.scan.skip = n → s.told t E.TICK_RATE_CHANGED)) ∧
    (s.start.resetting ≠ none ∨ s.start.latchHold = true ∨ s.start.tripped = true ∨ s.rdy B.TIME_LOCK = false ∨
      n ≤ s.time.latched → exec (.commitLatch n tie) s = .next s) ∧
    (s.start.resetting = none → s.start.latchHold = false → s.start.tripped = false → s.rdy B.TIME_LOCK = true →
      s.time.latched < n → s.upd.resetNow = false →
      ((∀ p ∈ s.od.pending, n < p.tick) → ∃ t, exec (.commitLatch n tie) s = .next t ∧ t.time.latched = n ∧
        t.od.pending = s.od.pending ∧ t.par P.APPLIED_TXN = s.par P.APPLIED_TXN) ∧
      (∀ due p later, s.od.pending = due ++ p :: later → (∀ q ∈ due ++ [p], q.tick ≤ n ∧ ∀ w ∈ q.writes,
          w.id ≠ P.TICK_RATE ∧ w.id ≠ P.UPDATE_ABORT) →
        (∀ q ∈ later, n < q.tick) → ∃ t, exec (.commitLatch n tie) s = .next t ∧ t.od.pending = later ∧
          t.par P.APPLIED_TXN = p.num ∧ (p.tick < n → t.par P.APPLIED_TICK = n % 2 ^ 48)))

/-- The cut-off chooses a valid copy of the frame that no other ranks before, or none, which a tile that should show it tells.  A copy
that has come whole is corrected into its back buffer under its frame's binding and snapshot, once.  At the display tick the
chosen frame, written and shifted in time and not poisoned, is shown and counted by its kind; without one the front buffer stays, counted, and a late
shift is told; the back buffers are released. -/
def Obligations.TileFrames : Prop :=
  (∀ (k : Nat) (tie : Bool) (s : State), s.isTile = true → s.unexpected k = false →
    ∃ t o, exec (.cutOff k tie) s = .next t ∧ t.tile = { s.tile with chosen := some (k, o) } ∧ t.red.eAcc = s.par P.EPOCH ∧
      (∀ p, o = some p → ∃ c ∈ s.copiesOf k, c.port = p ∧ s.copyValid tie s.red.eAcc c = true ∧
        ∀ d ∈ s.copiesOf k, s.copyValid tie s.red.eAcc d = true → ranksBefore d c = false) ∧
      (o = none ↔ ∀ c ∈ s.copiesOf k, s.copyValid tie s.red.eAcc c = false) ∧
      (o = none → s.rdy B.CORRECTION = true → s.hasRegion = true → s.chain.cutDone ≤ k → s.told t E.NO_VALID_COPY)) ∧
  (∀ (p : Fin 2) (k : Nat) (s : State) (c : Copy) (b : Bind) (sn : Snap),
    (s.copiesOf k).find? (fun c => c.port == p.val) = some c → s.bindFor k = some b → s.snapFor k = some sn →
    (s.rdy B.CORRECTION = true → s.clusterOut .image 8 = false → c.doneAt ≠ none → c.written = none → sn.skip = false →
      ∃ t w, exec (.correctionWriteThrough p k) s = .next t ∧ t.backFor k p = some w ∧
        (w.words, w.clipped) = (s.under b).regionWords sn c.format k c.data ∧ w.at_ = s.now ∧ w.epoch = c.epoch ∧
        (∀ x ∈ t.copiesOf k, x.port = p.val → x.written = some s.now) ∧
        t.tile.front = s.tile.front) ∧
    (c.written ≠ none ∨ sn.skip = true ∨ s.clusterOut .image 8 = true → exec (.correctionWriteThrough p k) s = .next s)) ∧
  ∀ (k : Nat) (tie : Bool) (s : State), s.isTile = true → s.unexpected k = false →
    ∃ t, exec (.displayTick k tie) s = .next t ∧ t.tile.dtAt = some s.now ∧ t.tile.backs = [] ∧ t.tile.chosen = none ∧
      (s.rdy B.CORRECTION = true → s.hasRegion = true → s.rdy B.DRIVE = true →
        (∀ sn, s.snapFor k = some sn → sn.skip = false) →
        (∀ p b, s.tile.chosen = some (k, some p) → s.backFor k p = some b → s.onTime tie b.at_ = true →
          2 * k + p ∉ s.tile.corrMiss →
          ((∀ q ∈ (s.unfitFrom k).needsShift k, s.shiftDone k q tie = true) → t.tile.front = some b ∧ t.rdy B.SHOW = true ∧
            t.par P.COPY_COUNT (b2n b.prefixed) = (s.par P.COPY_COUNT (b2n b.prefixed) + 1) % 2 ^ 32) ∧
          ((∃ q ∈ (s.unfitFrom k).needsShift k, s.shiftDone k q tie = false) → t.tile.front = s.tile.front ∧ s.told t E.SHIFT_LATE ∧
            t.par P.COPY_COUNT 2 = (s.par P.COPY_COUNT 2 + 1) % 2 ^ 32)) ∧
        ((∀ p, s.tile.chosen ≠ some (k, some p)) → t.tile.front = s.tile.front ∧
          t.par P.COPY_COUNT 2 = (s.par P.COPY_COUNT 2 + 1) % 2 ^ 32))

/-- Every zone in use takes its new target, or keeps its old one where it has none that is valid.  A complete gain table waits for its
boundary, and the first is in use at once.  A flush begins with the ledger as it stands, or is skipped and told while one runs; complete, it
stands in the slot after the last with the next number.  At the display instant after its latch a ledger command replaces the ledger by the
stage or zeroes its range.  A bank newly bound is copied to the stored copy that is not the newest. -/
def Obligations.WearAndStoredBanks : Prop :=
  (∀ s : State, s.isTile = true → s.tile.targetsAt = none → ∃ t, exec .kTargetCompute s = .next t ∧
    t.tile.targetsAt = some s.now ∧ t.tile.oldTargets = s.tile.targets ∧
    ∀ z, z < 16 → SMap.get identityK t.tile.targets z =
      if s.zoneUsed z = true then (s.zoneTarget z).getD (SMap.get identityK s.tile.targets z)
      else SMap.get identityK s.tile.targets z) ∧
  (∀ s : State, s.isTile = true → s.rdy B.FW = true →
    (∀ q g, s.tile.building = some (q, g) → ∃ t, exec .gainTableBuildComplete s = .next t ∧ t.tile.building = none ∧
      t.tile.gainReady = true ∧
      (if s.tile.gainReady = true then t.tile.built = some (q, s.now, g) ∧ t.tile.gains = s.tile.gains
       else t.tile.gains = g)) ∧
    (∀ l, s.tile.flush = some l → ∃ t, exec .ledgerFlushTimer s = .next t ∧ s.told t E.LEDGER_FLUSH_SKIPPED ∧
      t.tile = s.tile) ∧
    (s.tile.flush = none →
      ∃ t, exec .ledgerFlushTimer s = .next t ∧ t.tile = { s.tile with flush := some s.tile.ledger } ∧
        t = { s with tile := t.tile, therm := t.therm })) ∧
  (∀ (s : State) (l : SMap Nat), s.tile.flush = some l → s.bgPaused Bg.FLASH = false →
    ∃ t, exec .ledgerFlushComplete s = .next t ∧ t.tile.flush = none ∧ s.told t E.LEDGER_FLUSHED ∧
      t.tile.ledger = s.tile.ledger ∧
      (∀ i q m, s.lastSlot = some (i, q, m) →
        SMap.get none t.tile.slots ((i + 1) % s.tile.slotCount) = some (q + 1, l) ∧
        ∀ j, j ≠ (i + 1) % s.tile.slotCount → SMap.get none t.tile.slots j = SMap.get none s.tile.slots j) ∧
      (s.lastSlot = none → SMap.get none t.tile.slots 0 = some (1, l))) ∧
  (∀ (s : State) (v : Nat) (vs : List Nat), s.tile.ledgerCmds = v :: vs → s.tile.dtAt = some s.now →
    (field v 56 8 = 1 → ∃ t, exec .ledgerReplace s = .next t ∧
      (∀ i, SMap.get 0 t.tile.ledger i = if i < s.lampCount then s.blobNat P.LEDGER_STAGE 0 (4 * i) 4 else 0) ∧
      t = { s with tile := { s.tile with ledger := t.tile.ledger, ledgerCmds := vs } }) ∧
    (field v 56 8 = 2 → ∃ t, exec .ledgerZero s = .next t ∧
      (∀ i, SMap.get 0 t.tile.ledger i =
        if field v 0 21 ≤ i ∧ i < field v 0 21 + field v 32 21 then 0 else SMap.get 0 s.tile.ledger i) ∧
      t = { s with tile := { s.tile with ledger := t.tile.ledger, ledgerCmds := vs } })) ∧
  ∀ (kind : Fin 4) (bank : Fin 8) (s : State), s.store.due.contains (bankKey kind bank) = true →
    s.bgPaused Bg.FLASH = false → ∃ t slot c, exec (.bankFlashCopy kind bank) s = .next t ∧
      SMap.get {} t.store.flash slot = c ∧ c.valid = true ∧ c.data = s.bank kind bank ∧
      (slot = (storedKeys kind bank).1 ∨ slot = (storedKeys kind bank).2) ∧
      (∀ a d, s.newestStored kind bank = some (a, d) → slot ≠ a ∧ c.seq = d.seq + 1) ∧
      (∀ j, j ≠ slot → SMap.get {} t.store.flash j = SMap.get {} s.store.flash j) ∧
      t.store.due.contains (bankKey kind bank) = false ∧ (t.bank kind bank).copied = true ∧
      t = { s with store := t.store, therm := t.therm }

/-- The fill number is the TICK field of a good data packet of an ingress lane.  Its payload is written into buffer f mod B, at OFFSET from that
buffer's start and nowhere else in a buffer of a surface, with every surface of B ≥ 1 buffers.  Fill g is newer than fill f exactly
when (g − f) mod 2⁴⁸ lies in 1 to 2⁴⁷. -/
def Obligations.FillNumbers : Prop :=
  (∀ f g : Nat, f < 2 ^ 48 → g < 2 ^ 48 → (newer (2 ^ 48) g f = true ↔
    1 ≤ ((g : Int) - f) % 2 ^ 48 ∧ ((g : Int) - f) % 2 ^ 48 ≤ 2 ^ 47)) ∧
  ∀ (c : Fin 16) (v : VideoPacket) (s : State),
    let src := srcKey 2 (s.par P.INGRESS_SURFACE c)
    let f := v.head.tick.toNat
    let b := f % s.bufCount src
    s.ingressUp c = true → s.ingressBad c v = false → isFence v = false → 1 ≤ s.bufCount src →
      (∀ p, (s.chanOf c).part f = some p → p.fenced = false) → s.bufState src b < 2 →
      s.isDamaged (s.par P.INGRESS_SURFACE c) f = false →
      ∃ t, exec (.ingressPacket c v) s = .next t ∧ (t.bufOf src b).ident = f ∧ (t.bufOf src b).st = 1 ∧
        (∀ n, n < v.payload.length → t.bufByte src b (v.head.offset.toNat + n) = (v.payload.getD n 0).toNat) ∧
        (∀ o, o < v.head.offset.toNat ∨ v.head.offset.toNat + v.payload.length ≤ o →
          t.bufByte src b o = s.bufByte src b o) ∧
        (v.head.offset.toNat + v.payload.length ≤ 2 ^ 32 → ∀ src' b' o, bufKey src' b' ≠ bufKey src b → o < 2 ^ 32 →
          t.bufByte src' b' o = s.bufByte src' b' o)

/-- The first edge of the heartbeat starts a period.  A later one gives the class of its high time, 1 below 380 ns, 2 below 628 ns and 3
from there on, which is believed once two periods agree.  750 cycles without an edge give class 0, its loss told in redundant mode.  A
change of SLUICE_I is taken; its rise during a claim of side B that is not a switchover withdraws the claim, told.  A doubt of 10 µs is
told once.

After CLAIM_HOLDOFF an absent or standing-by partner is claimed against, and a doubtful one leaves the device STANDBY.  A clean
window ends the claim in ACTIVE, or SINGLE without redundancy, while it is not forced to standby and epochs are left; a head that may
manage, with no lower manager of another trunk, then manages with the next epoch of its side.  Activity
on the lamp nets withdraws a paired member's claim, told, into STANDBY and what its view leads to from there.  Doubt lasting EVIDENCE_TICKS claims on evidence, told.  A yield ends at its named
tick in STANDBY, or what its view leads to from there, when the partner acted in time, else it is refused and the device acts on. -/
def Obligations.SluiceAndPartnerWires : Prop :=
  ((∀ (h : Nat) (s : State),
    (s.red.hbEdge = none → exec (.heartbeatEdge h) s = .next { s with red := { s.red with hbEdge := some s.now } }) ∧
    ∀ cls, (cls = if h < 380 then 1 else if h < 628 then 2 else 3) → s.red.hbEdge ≠ none →
      (s.red.hbLast ≠ cls → exec (.heartbeatEdge h) s =
        .next { s with red := { s.red with hbEdge := some s.now, hbLast := cls } }) ∧
      (s.red.hbLast = cls → s.red.hb ≠ cls → ∃ t, exec (.heartbeatEdge h) s = .next t ∧ t.red.hb = cls ∧
        t.red.hbEdge = some s.now ∧ t.red.sluiceI = s.red.sluiceI) ∧
      (s.red.hbLast = cls → s.red.hb = cls → exec (.heartbeatEdge h) s =
        .next { s with red := { s.red with hbEdge := some s.now } })) ∧
  ∀ s : State,
    (∃ t, exec .heartbeatTimeout s = .next t ∧ t.red.hb = 0 ∧ t.red.hbEdge = none ∧ t.red.hbLast = 0 ∧
      (s.red.hb ≠ 0 → s.redMode = true → s.told t E.HEARTBEAT_LOST)) ∧
    (∀ high, s.red.sluiceI ≠ high → ∃ t, exec (.sluiceIChange high) s = .next t ∧ t.red.sluiceI = high ∧
      t.red.hb = s.red.hb ∧
      (high = true → s.sluice = SL.CLAIM → s.sideB = true → s.red.bySwitch = false →
        s.told t E.CLAIM_TIE ∧ (s.blocked = false → t.sluice = SL.STANDBY))) ∧
    (s.view = V.DOUBT → s.red.doubtTold = false → ∃ t, exec .doubtTimer s = .next t ∧ t.red.doubtTold = true ∧
      s.told t E.SLUICE_INCONSISTENT ∧ s.samePars t [P.EVENT_COUNT]) ∧
    (s.view ≠ V.DOUBT → exec .doubtTimer s = .next s)) ∧
  (∀ s : State,
    (s.sluice = SL.HOLDOFF → (s.view = V.ABSENT ∨ s.view = V.STANDING_BY → ∃ t, exec .claimHoldoffExpiry s = .next t ∧
        t.sluice = SL.CLAIM ∧ t.red.window = true ∧ t.red.bySwitch = false) ∧
      (s.view = V.DOUBT → ∃ t, exec .claimHoldoffExpiry s = .next t ∧ t.sluice = SL.STANDBY)) ∧
    (s.sluice = SL.CLAIM → s.red.window = true → s.par P.FORCE_STANDBY ≠ 1 →
      (s.isHead = true → s.par P.EPOCH_HIGHEST + 4 < 2 ^ 32) → ∃ t, exec .claimWindowEnd s = .next t ∧
      t.sluice = (if s.redMode = true then SL.ACTIVE else SL.SINGLE) ∧ t.red.entries = (s.red.entries + 1) % 2 ^ 32 ∧
      (s.red.bySwitch = false → s.redMode = true → s.told t E.TAKEOVER) ∧
      (s.red.bySwitch = false → s.isHead = true → s.managerEn = true → s.red.manager = false → s.managerAbove = false →
        t.red.manager = true ∧ s.par P.EPOCH_HIGHEST < t.par P.LEASE_EPOCH ∧
        t.par P.LEASE_EPOCH ≤ s.par P.EPOCH_HIGHEST + 2 ∧ t.par P.LEASE_EPOCH % 2 = b2n s.sideB ∧
        t.par P.EPOCH_HIGHEST = t.par P.LEASE_EPOCH)) ∧
    (s.sluice ≠ SL.CLAIM ∨ s.red.window = false → exec .claimWindowEnd s = .next s) ∧
    (s.isPairedTile = true → ∃ t, exec .lampNetActivity s = .next t ∧ t.red.broken = true ∧
      (s.sluice = SL.CLAIM → t.sluice = s.standbyLeads ∧ s.told t E.LISTEN_BUSY) ∧
      (s.sluice ≠ SL.CLAIM → t = { s with red := { s.red with broken := true } })) ∧
    (s.sluice = SL.STANDBY → s.par P.EVIDENCE_TICKS ≤ s.red.evidence → s.doubting = true →
      ∃ t, exec .evidenceTimeout s = .next t ∧ t.sluice = SL.CLAIM ∧ s.told t E.EVIDENCE_TAKEOVER ∧
        t.red.cause = (if s.view = V.DOUBT then 2 else 4) ∧ t.red.evidence = 0) ∧
    (s.doubting = false → exec .evidenceTimeout s = .next s) ∧
    (∀ tie, s.red.switchTick ≠ none → s.sluice = SL.YIELD → ∃ t, exec (.yieldTickReached tie) s = .next t ∧
      t.red.switchTick = none ∧
      ((∃ a, s.red.actingAt = some a ∧ s.onTime tie a = true) → t.sluice = s.standbyLeads ∧ s.told t E.SWITCHOVER_DONE) ∧
      ((∀ a, s.red.actingAt = some a → s.onTime tie a = false) → t.sluice = s.actState ∧
        s.told t E.SWITCHOVER_REFUSED)))

/-- On a path that is not open, or not addressed to the device, a message does nothing; one that breaks R92 is only counted, and one a
head of a past epoch sends over the chain is only counted as stale (R184).  A message
whose tag fails, and one that fails the order of counter, lease, epoch and SEQ, changes nothing but the reports: not one parameter,
transaction, lease, key or image.  The first is told by EV AUTH_FAILED; the second stands in LAST_REFUSAL with its status.  A repeat of
the holder's last message is answered anew and acts on nothing. -/
def Obligations.DictionaryRefusals : Prop :=
  ∀ (h : OdHead) (items : List OdItem) (s : State), ∀ c ∈ odCommands h items,
    (s.pathOpen h.path items = false → exec c.1 s = .next s) ∧
    (s.pathOpen h.path items = true → framed h items = false → exec c.1 s = .next (s.bump P.MALFORMED_COUNT)) ∧
    (s.pathOpen h.path items = true → framed h items = true → s.odTaken h c.2 = false ∨ s.claimOutOfOrder h c.2 = true →
      exec c.1 s = .next s) ∧
    (s.pathOpen h.path items = true → framed h items = true → s.odTaken h c.2 = true → s.claimOutOfOrder h c.2 = false →
      s.odStale h = true → exec c.1 s = .next s.dropStale) ∧
    (s.reaches h c.2 items →
      (s.tagCause h c.2 items ≠ none → ∃ t, exec c.1 s = .next t ∧ s.onlyReports t ∧ s.told t E.AUTH_FAILED) ∧
      (∀ st, s.tagCause h c.2 items = none → s.orderStatus h c.2 items = some st → s.isNew h c.2 →
        ∃ t, exec c.1 s = .next t ∧ s.onlyReports t ∧ t.par P.LAST_REFUSAL = c.2 * 2 ^ 24 + st * 65536) ∧
      (s.tagCause h c.2 items = none → ¬s.isNew h c.2 → h.authed = false →
        ∃ t, exec c.1 s = .next t ∧ s.onlyReports t ∧ t.par P.LAST_REFUSAL = s.par P.LAST_REFUSAL))

/-- A claim that clears the checks with the permission takes the lease with its epoch and SEQ, told, and ends an open transaction; a
renewal renews it; a release and a lapse free it, told, and drop the open transaction (in a head that could act as manager and does not,
its own claim follows, R182; there it is not stated).  TXN_OPEN opens one; a write in it joins it and
changes no parameter; TXN_COMMIT makes it pending at its applied tick; TXN_ABORT and the timeout of 2 s discard it; TXN_CANCEL discards a
pending one that is not due yet and every later one. -/
def Obligations.LeaseAndTransactions : Prop :=
  (∀ (h : OdHead) (s : State),
    (s.clears h OP.LEASE_CLAIM [] → s.managed → bit (s.key h.keyId.toNat).perms 0 = true → ∃ t, exec (.leaseClaim h []) s = .next t ∧
      t.od.holder = some h.path ∧ t.od.txn = none ∧ t.par P.LEASE_EPOCH = h.epoch.toNat ∧
      t.par P.LEASE_SEQ = h.seq.toNat ∧ s.told t E.LEASE_CHANGED ∧ t.od.pending = s.od.pending) ∧
    (s.clears h OP.LEASE_RENEW [] → ∃ t, exec (.leaseRenew h []) s = .next t ∧ t.od.holder = some h.path ∧
      t.od.lastMsg = s.controlNow ∧ t.par P.LEASE_SEQ = h.seq.toNat ∧ t.od.txn = s.od.txn ∧ t.od.pending = s.od.pending) ∧
    (s.clears h OP.LEASE_RELEASE [] → s.managed → ∃ t, exec (.leaseRelease h []) s = .next t ∧ t.od.holder = none ∧ t.od.txn = none ∧
      s.told t E.LEASE_CHANGED ∧ t.od.pending = s.od.pending) ∧
    (s.clears h OP.TXN_OPEN [] → s.od.txn = none → h.txn ≠ 0 → ∃ t, exec (.txnOpen h []) s = .next t ∧
      t.od.txn = some { num := h.txn.toNat, openedAt := s.controlNow, writes := [] } ∧ t.par P.LEASE_SEQ = h.seq.toNat ∧
      t.od.pending = s.od.pending) ∧
    (∀ tx, s.od.txn = some tx → tx.num = h.txn.toNat →
      (s.clears h OP.TXN_ABORT [] → ∃ t, exec (.txnAbort h []) s = .next t ∧ t.od.txn = none ∧
        t.od.pending = s.od.pending ∧ t.par P.LEASE_SEQ = h.seq.toNat) ∧
      (∀ id idx ty v e, h.txn ≠ 0 → s.mayWrite h id idx ty v → tx.writes.length < 256 →
        s.writeStatus (s.shadow tx.writes) (oneWrite id idx ty v) = ST.OK →
        (∃ p, findParam id = some p ∧ elemOf p (oneWrite id idx ty v) = e) → id < 2 ^ 24 →
        ((s.shadow tx.writes).writeEffect { by_ := (keptWrite h id e v).by_, gbe := (keptWrite h id e v).gbe } id e v).1 = 0 →
        ∃ t, exec (.write h [oneWrite id idx ty v]) s = .next t ∧
          t.od.txn = some { tx with writes := tx.writes ++ [keptWrite h id e v] } ∧
          s.samePars t [P.LEASE_SEQ, P.EVENT_COUNT] ∧ s.acked t h) ∧
      (∀ v, v < 2 ^ 48 →
        let i := oneWrite P.TXN_TARGET_TICK 0xFFFF 6 (leBytes 8 v)
        let target := if v = 0 then 0 else max 1 (nearTick s.time.tick v)
        s.clears h OP.TXN_COMMIT [i] → (s.commitsRwsa h.txn.toNat = true → bit (s.key h.keyId.toNat).perms 1 = true) →
        (s.acceptCounter h).commitRefused tx.writes target (bit h.flags.toNat 2) = none →
        ∃ t, exec (.txnCommit h [i]) s = .next t ∧ t.od.txn = none ∧
          t.od.pending = s.od.pending ++ [({ num := tx.num, tick := s.appliedTick tx.writes target, at_ := s.now
                                             writes := tx.writes } : PendTxn)] ∧
          t.par P.APPLIED_TICK = s.appliedTick tx.writes target % 2 ^ 48 ∧ t.par P.LEASE_SEQ = h.seq.toNat)) ∧
    (∀ num n p, num < 2 ^ 16 →
      let i := oneWrite P.APPLIED_TXN 0xFFFF 3 (leBytes 2 num)
      s.clears h OP.TXN_CANCEL [i] → (s.od.pending.findIdx? fun (p : PendTxn) => p.num == num) = some n →
      s.od.pending[n]? = some p → s.earliestTick ≤ p.tick → ∃ t, exec (.txnCancel h [i]) s = .next t ∧
        t.od.pending = s.od.pending.take n ∧ t.od.txn = s.od.txn ∧ t.par P.LEASE_SEQ = h.seq.toNat)) ∧
  ∀ s : State,
    (s.od.holder ≠ none → s.managed → ∃ t, exec .leaseLapse s = .next t ∧ t.od = { s.od with holder := none, txn := none } ∧
      s.told t E.LEASE_CHANGED ∧ s.samePars t [P.EVENT_COUNT]) ∧
    (s.od.holder = none → exec .leaseLapse s = .next s) ∧
    (∀ tx, s.od.txn = some tx → ∃ t, exec .transactionTimeoutExpiry s = .next t ∧
      t.od = { s.od with txn := none, timedOut := some tx.num } ∧ s.told t E.TXN_TIMEOUT ∧ s.samePars t [P.EVENT_COUNT])

/-- A READ that clears the checks is answered on its path with one item per item, unless it would be TOO_LONG, and changes nothing but its
counts, the refusal it reports and the lease's time: a scalar's item carries its value, with the message's counter recorded first, and renews the lease of its sender; a refused item
its status, which shows in LAST_REFUSAL, and the lease is not renewed.  An acting manager keeps the records of an EVENT message that it
does not hold yet, and no other; a device that is no manager refuses it with UNKNOWN (the model's choice, log entry 24).  An operation that R90 does not list is refused with UNKNOWN
and does nothing else; the codes of R90 are not of that command. -/
def Obligations.ReadsEventsAndUnknown : Prop :=
  ∀ (h : OdHead) (s : State),
    (∀ items, s.clears h OP.READ items → let u := s.acceptCounter h; ∃ t r, exec (.read h items) s = .next t ∧
      (h.broadcast = false → s.answers t h.path r) ∧ r.op = OP.READ ∧ r.seq = h.seq.toNat ∧ r.txn = h.txn.toNat ∧
      (items ≠ [] → r.items.length = items.length) ∧ s.samePars t [P.EVENT_COUNT, P.LAST_REFUSAL] ∧
      t.od = { s.od with lastMsg := t.od.lastMsg } ∧
      (∀ i b, items = [i] → bit h.flags.toNat 3 = false → u.readItem u i = .scalar b →
        r.items = [{ area := i.area.toNat, item := i.item.toNat, index := i.index.toNat, ty := i.ty.toNat, status := ST.OK, value := b }] ∧
        t.od.lastMsg = if s.od.holder = some h.path then s.controlNow else s.od.lastMsg) ∧
      (∀ i st, items = [i] → bit h.flags.toNat 3 = false → u.readItem u i = .refused st →
        r.items = [{ area := i.area.toNat, item := i.item.toNat, index := i.index.toNat, ty := i.ty.toNat, status := st, value := [] }] ∧
        t.od.lastMsg = s.od.lastMsg ∧ t.par P.LAST_REFUSAL = OP.READ * 2 ^ 24 + st * 65536)) ∧
    (∀ items, s.clears h OP.EVENT items → s.red.manager = true → ∃ t, exec (.event h items) s = .next t ∧
      s.ev.received <+: t.ev.received ∧
      (∀ i ∈ items, ∃ e ∈ t.ev.received, e.1 = h.target.toNat % 4096 ∧ e.2.take 4 = (i.value.drop 4).take 4) ∧
      (∀ e ∈ t.ev.received, e ∈ s.ev.received ∨ ∃ i ∈ items, e = (h.target.toNat % 4096, i.value.drop 4)) ∧
      ((s.ev.received.map fun e => (e.1, e.2.take 4)).Nodup → (t.ev.received.map fun e => (e.1, e.2.take 4)).Nodup)) ∧
    (∀ i, s.clears h OP.EVENT [i] → s.red.manager = false → ∃ t, exec (.event h [i]) s = .next t ∧
      t.ev.received = s.ev.received ∧ t.par P.LAST_REFUSAL = OP.EVENT * 2 ^ 24 + ST.UNKNOWN * 65536) ∧
    (∀ (o : BitVec 8) items, knownOp o.toNat = false → s.clears h o.toNat items →
      ∃ t, exec (.unknownOp h o items) s = .next t ∧ t.par P.LAST_REFUSAL = o.toNat * 2 ^ 24 + ST.UNKNOWN * 65536 ∧
        t.od = s.od ∧ s.samePars t [P.EVENT_COUNT, P.LAST_REFUSAL]) ∧
    (∀ (o : BitVec 8) items, knownOp o.toNat = true → exec (.unknownOp h o items) s = .next s)

/-- A write of TIME_SET that the dictionary lets pass steps the counter to the instant written; where R206 allows no step, and in a tile,
it is refused with status RANGE and the counter stays. -/
def Obligations.TimeSet : Prop :=
  ∀ (h : OdHead) (v : BitVec 80) (s : State), s.writes h P.TIME_SET 0xFFFF 12 (leBytes 10 v.toNat) →
    (s.stepAllowed = true ↔ s.rdy B.TIME_LOCK = false ∨ (s.par P.STEP_POLICY = 1 ∧ s.rdy B.SHOW = false)) ∧
    (s.isTile = false → s.stepAllowed = true → ∃ t, exec (.timeSet h v) s = .next t ∧
      t.time.counter = ofTime80 v.toNat * nsUnit ∧ s.told t E.TIME_STEPPED ∧ s.acked t h) ∧
    (s.isTile = true ∨ s.stepAllowed = false → ∃ t, exec (.timeSet h v) s = .next t ∧ t.time = s.time ∧
      t.refusedWrite ST.RANGE)

/-- Bytes of a bank land in the load area at their offset, with the rest as it was, and clear its seal; while the bank is bound they are
refused with ACCESS.  A seal whose CRC and records are good seals the bank, told, as long as the flash holds the copies; another is
refused with RANGE, told, and seals nothing.  An overlay that R72 accepts is stored, and any other is refused.  A still's bytes land in
its load buffer, within its geometry, and the matching CRC makes that buffer ready and counts; another is refused, told. -/
def Obligations.BankWrites : Prop :=
  ∀ (h : OdHead) (off : Nat) (data : List Byte) (v : BitVec 32) (i : Fin 8) (n : Fin 16) (s : State), off < 2 ^ 32 →
    let lands (c : Instr) (kind slot : Nat) : Prop :=
      (s.bankBound kind (s.loadBank kind slot) = false → ∃ t, exec c s = .next t ∧ s.acked t h ∧ s.bankTook t kind slot off data) ∧
        (s.bankBound kind (s.loadBank kind slot) = true → ∃ t, exec c s = .next t ∧ t.store = s.store ∧ t.refusedWrite ST.ACCESS)
    let seals (c : Instr) (kind slot : Nat) : Prop :=
      (s.sealFails kind slot v.toNat = none → (s.bankSeal kind slot v.toNat).storeFits = true → ∃ t, exec c s = .next t ∧
        s.acked t h ∧ s.told t (sealEvents kind).1 ∧ t.bank kind (s.loadBank kind slot) =
          { s.bank kind (s.loadBank kind slot) with st := 2, crc := v.toNat, copied := false }) ∧
      (s.sealFails kind slot v.toNat = none → (s.bankSeal kind slot v.toNat).storeFits = false → ∃ t, exec c s = .next t ∧
        t.store = s.store ∧ t.refusedWrite ST.RANGE) ∧
      (s.sealFails kind slot v.toNat ≠ none → ∃ t, exec c s = .next t ∧ t.store = s.store ∧ s.told t (sealEvents kind).2 ∧
        t.refusedWrite ST.RANGE)
    (s.writes h P.COEFF_DATA 0xFFFF 14 (leBytes 4 off ++ data) → lands (.coeffData h off data) BK.COEFF 0) ∧
    (s.writes h P.MAP_DATA 0xFFFF 14 (leBytes 4 off ++ data) → lands (.mapData h off data) BK.MAP 0) ∧
    (s.writes h P.PROG_DATA i 14 (leBytes 4 off ++ data) → lands (.progData h i off data) BK.PROG i) ∧
    (s.writes h P.FIX_DATA 0xFFFF 14 (leBytes 4 off ++ data) → lands (.fixData h off data) BK.FIX 0) ∧
    (s.writes h P.COEFF_SEAL 0xFFFF 5 (leBytes 4 v.toNat) → seals (.coeffSeal h v) BK.COEFF 0) ∧
    (s.writes h P.MAP_SEAL 0xFFFF 5 (leBytes 4 v.toNat) → seals (.mapSeal h v) BK.MAP 0) ∧
    (s.writes h P.PROG_SEAL i 5 (leBytes 4 v.toNat) → seals (.progSeal h i v) BK.PROG i) ∧
    (s.writes h P.FIX_SEAL 0xFFFF 5 (leBytes 4 v.toNat) → seals (.fixSeal h v) BK.FIX 0) ∧
    (s.writes h P.OPTION_OVERLAY 0xFFFF 14 (leBytes 4 off ++ data) →
      let fits := recField s.start.record 98 1 = 1 ∧
        overlayOk ((s.setBlob P.OPTION_OVERLAY 0 off data).blob P.OPTION_OVERLAY 0 0 64) s.start.record = true
      (fits → ∃ t, exec (.optionOverlay h off data) s = .next t ∧ s.acked t h ∧ t.start = s.start ∧
        ∀ j, j < data.length → t.blobByte P.OPTION_OVERLAY 0 (off + j) = (data.getD j 0).toNat) ∧
      (¬fits → ∃ t, exec (.optionOverlay h off data) s = .next t ∧ t.blobs = s.blobs ∧ t.refusedWrite ST.RANGE)) ∧
    (s.writes h P.STILL_DATA n 14 (leBytes 4 off ++ data) →
      (off + data.length ≤ s.bufSize (srcKey 3 n) (SMap.get 0 s.src.stillLoad n) → ∃ t, exec (.stillData h n off data) s = .next t ∧
        s.acked t h ∧ ∀ j, j < data.length →
          t.bufByte (srcKey 3 n) (SMap.get 0 s.src.stillLoad n) (off + j) = (data.getD j 0).toNat) ∧
      (s.bufSize (srcKey 3 n) (SMap.get 0 s.src.stillLoad n) < off + data.length → ∃ t, exec (.stillData h n off data) s = .next t ∧
        t.src = s.src ∧ t.refusedWrite ST.RANGE)) ∧
    (s.writes h P.STILL_SEAL n 5 (leBytes 4 v.toNat) →
      (s.stillCrc n = v.toNat → s.par P.STILL_GEOMETRY n ≠ 0 → ∃ t, exec (.stillSeal h n v) s = .next t ∧ s.acked t h ∧
        t.par P.STILL_SEALS n = (s.par P.STILL_SEALS n + 1) % 2 ^ 32 ∧
        (SMap.get 0 t.src.stillLoad n ≠ SMap.get 0 s.src.stillLoad n →
          (t.bufOf (srcKey 3 n) (SMap.get 0 s.src.stillLoad n)).st = 2 ∧
          (t.bufOf (srcKey 3 n) (SMap.get 0 s.src.stillLoad n)).ident = t.par P.STILL_SEALS n)) ∧
      (s.stillCrc n ≠ v.toNat ∨ s.par P.STILL_GEOMETRY n = 0 → ∃ t, exec (.stillSeal h n v) s = .next t ∧ t.src = s.src ∧
        s.told t E.STILL_SEAL_FAILED ∧ t.refusedWrite ST.RANGE))

/-- RESET_REQUEST notes a short or long reset to come.  OSC_RESET bits wait for the latch.  An eye scan of an open eye starts at its
first point.  A pattern code is in force with the lane's counters and lock cleared, and a raw one takes a test lane to TEST_RAW.  Injected
errors wait for the lane's next symbol, told.  A switchover is pending alone at its applied tick.  EPOCH_FLOOR is the tile's E_t.  An RDM request waits
at its port.  A transmit threshold is in force, its last step told. -/
def Obligations.DeviceWrites : Prop :=
  ∀ (h : OdHead) (s : State),
    (s.writes h P.RESET_REQUEST 0xFFFF 2 [1] → s.start.request = none → ∃ t, exec (.resetRequestShort h) s = .next t ∧
      t.start = { s.start with request := some .short } ∧ s.acked t h) ∧
    (s.writes h P.RESET_REQUEST 0xFFFF 2 [2] → s.start.request = none → ∃ t, exec (.resetRequestLong h) s = .next t ∧
      t.start = { s.start with request := some .long } ∧ s.acked t h) ∧
    (∀ b : BitVec 16, s.writes h P.OSC_RESET 0xFFFF 3 (leBytes 2 b.toNat) → ∃ t, exec (.oscReset h b) s = .next t ∧
      t.pump = { s.pump with oscReset := s.pump.oscReset ||| b.toNat } ∧ s.acked t h) ∧
    (∀ c : BitVec 32, s.writes h P.EYE_SCAN_CTRL 0xFFFF 5 (leBytes 4 c.toNat) → ∃ t, exec (.eyeScanStart h c) s = .next t ∧
      t.par P.EYE_SCAN_CTRL = c.toNat % 2 ^ 31 ∧ s.acked t h ∧
      (bit c.toNat 31 = true → s.eyeOpen (field c.toNat 0 5) = true → t.lane.scanLane = some (field c.toNat 0 5) ∧
        t.lane.scanPoints = 0 ∧ t.par P.EYE_SCAN_STATUS = field c.toNat 0 5 * 256 + 1)) ∧
    (∀ (n : Fin 32) (c : BitVec 8), s.writes h P.PRBS_GEN n 2 (leBytes 1 c.toNat) → s.isTile = false → c.toNat % 8 ≠ 0 →
      (bit c.toNat 3 = true ∨ s.laneUse n / 16 = 5) → ∃ t, exec (.prbsGen h n c) s = .next t ∧ s.acked t h ∧
        t.par P.PRBS_GEN n = c.toNat ∧ t.par P.PRBS_BITS n = 0 ∧ t.par P.PRBS_ERRORS n = 0 ∧ t.par P.PRBS_LOCK n = 0 ∧
        (bit c.toNat 3 = false → t.laneState n = L.RAW)) ∧
    (∀ (n : Fin 32) (c : BitVec 8), s.writes h P.PRBS_CHK n 2 (leBytes 1 c.toNat) → ∃ t, exec (.prbsChk h n c) s = .next t ∧
      s.acked t h ∧ t.par P.PRBS_CHK n = c.toNat ∧
      (c.toNat % 8 ≠ 0 → t.par P.PRBS_BITS n = 0 ∧ t.par P.PRBS_ERRORS n = 0 ∧ t.par P.PRBS_LOCK n = 0)) ∧
    (∀ (n : Fin 32) (c : BitVec 8), s.writes h P.INJECT n 2 (leBytes 1 c.toNat) → s.laneState n ≠ L.OFF →
      ∃ t, exec (.inject h n c) s = .next t ∧ SMap.get 0 t.lane.injects n = c.toNat ∧ s.told t E.ERROR_INJECTED ∧ s.acked t h) ∧
    (∀ c : BitVec 8, s.writes h P.SWITCHOVER 0xFFFF 2 (leBytes 1 c.toNat) →
      (s.acceptCounter h).commitRefused [keptWrite h P.SWITCHOVER 0 (leBytes 1 c.toNat)] 0 false = none →
      ∃ t k, exec (.switchover h c) s = .next t ∧ s.acked t h ∧ s.earliestTick ≤ k ∧
        t.od.pending = s.od.pending ++ [({ num := 0, tick := k, at_ := s.now
                                           writes := [keptWrite h P.SWITCHOVER 0 (leBytes 1 c.toNat)] } : PendTxn)]) ∧
    (∀ e : BitVec 32, s.isTile = true → s.writes h P.EPOCH_FLOOR 0xFFFF 5 (leBytes 4 e.toNat) →
      ∃ t, exec (.epochFloor h e) s = .next t ∧ t.par P.EPOCH = e.toNat ∧ s.acked t h) ∧
    (∀ (p : Fin 16) data, s.writes h P.RDM_REQUEST p 14 (leBytes 4 0 ++ data) → s.acting = true → 2 ≤ data.length →
      2 + leNat (data.take 2) ≤ data.length → ∃ t, exec (.rdmRequest h p data) s = .next t ∧ s.acked t h ∧
        (t.dmxOf p).requests = (s.dmxOf p).requests ++ [((data.drop 2).take (leNat (data.take 2)), s.now)] ∧
        ∀ q, q ≠ p.val → t.dmxOf q = s.dmxOf q) ∧
    (∀ c : BitVec 8, s.writes h P.TX_THRESHOLD 0xFFFF 2 (leBytes 1 c.toNat) → ∃ t, exec (.txThreshold h c) s = .next t ∧
      t.txStep 0 = c.toNat ∧ s.acked t h ∧ (c = 8 → s.txStep 0 ≠ 8 → s.told t E.TX_STORE_FORWARD)) ∧
    (∀ (n : Fin 8) (c : BitVec 8), s.writes h P.T1S_THRESHOLD n 2 (leBytes 1 c.toNat) →
      ∃ t, exec (.t1sThreshold h n c) s = .next t ∧ t.txStep (n + 1) = c.toNat ∧ s.acked t h ∧
        (c = 8 → s.txStep (n + 1) ≠ 8 → s.told t E.TX_STORE_FORWARD))

/-- A more restrictive lock state starts to burn and the answer waits for it.  A key loads into an empty slot in clear, in OPEN or over GbE in
PROVISION, and wrapped under the key of its message into any slot, as long as some key may manage keys; a revoked slot is empty.  In FIELD
debug opens, told; in OPEN it is open already; in PROVISION and SEALED the write is refused.  An attestation request takes the next index, or none when
the flash does not take it. -/
def Obligations.SecurityWrites : Prop :=
  ∀ (h : OdHead) (s : State),
    (∀ v : BitVec 8, v = 0x5A ∨ v = 0xA5 ∨ v = 0xFF → s.lock < lockRank v.toNat → s.security.burning = none →
      h.broadcast = false → s.writes h P.LOCK_ADVANCE 0xFFFF 2 (leBytes 1 v.toNat) → ∃ t, exec (.lockAdvance h v) s = .next t ∧
        t.security.burning = some (lockRank v.toNat) ∧ t.security.answer ≠ none ∧ t.security.fuses = s.security.fuses ∧
        t.outbox = s.outbox ∧ s.acked t h) ∧
    (∀ (v : List Byte) (slot perms : Nat), v.length = 40 → slot = (v.getD 0 0).toNat → slot < 8 → perms = (v.getD 1 0).toNat →
      perms < 128 → ((v.drop 3).take 5).any (· ≠ 0) = false →
      (s.writes h P.KEY_LOAD 0xFFFF 14 (leBytes 4 0 ++ listSet v 2 0) →
        (s.lock = 0 ∨ (s.lock = 1 ∧ ∃ ip port, h.path = .gbe ip port)) → (s.key slot).loaded = false →
        (s.setKey slot { loaded := true, key := v.drop 8, perms := perms }).keyKept = true →
        ∃ t, exec (.keyLoadClear h v) s = .next t ∧ t.key slot = { loaded := true, key := v.drop 8, perms := perms } ∧
          s.told t E.KEY_LOADED ∧ s.acked t h) ∧
      (∀ k, s.writes h P.KEY_LOAD 0xFFFF 14 (leBytes 4 0 ++ listSet v 2 1) → h.authed = true →
        k = { loaded := true, perms := perms, key := xor32 (v.drop 8) (hmac (s.key h.keyId.toNat).key
          (asciiKeyLoad ++ leBytes 1 slot ++ leBytes 8 h.counter.toNat)) } →
        (s.setKey slot k).keyKept = true → ∃ t, exec (.keyLoadWrapped h v) s = .next t ∧ t.key slot = k ∧
          s.told t E.KEY_LOADED ∧ s.acked t h)) ∧
    (∀ n : BitVec 8, s.writes h P.KEY_REVOKE 0xFFFF 2 (leBytes 1 n.toNat) → (s.setKey n.toNat {}).keyKept = true →
      ∃ t, exec (.keyRevoke h n) s = .next t ∧ t.key n.toNat = {} ∧ s.told t E.KEY_REVOKED ∧ s.acked t h) ∧
    (∀ v : BitVec 8, s.writes h P.DEBUG_UNLOCK 0xFFFF 2 (leBytes 1 v.toNat) →
      (s.lock = 2 → ∃ t, exec (.debugUnlock h v) s = .next t ∧ t.debugOpen = true ∧ s.told t E.DEBUG_OPENED ∧ s.acked t h) ∧
      (s.lock = 0 → ∃ t, exec (.debugUnlock h v) s = .next t ∧ t.debugOpen = true ∧ s.acked t h) ∧
      (s.lock = 1 ∨ s.lock = 3 → ∃ t, exec (.debugUnlock h v) s = .next t ∧ t.debugOpen = s.debugOpen ∧ t.refusedWrite ST.LOCKED)) ∧
    ∀ nonce : List Byte, nonce.length = 32 → s.security.nonce = none →
      (s.security.requestAt = 0 ∨ s.security.requestAt - 1 + 10 * sec ≤ s.now) → s.security.q < attestMax →
      s.writes h P.ATTEST_REQUEST 0xFFFF 14 (leBytes 4 0 ++ nonce) →
      (∃ t, exec (.attestRequest h nonce true) s = .next t ∧ t.security.nonce = some nonce ∧
        t.security.q = s.security.q + 1 ∧ t.security.flashQ = s.security.q + 1 ∧
        bit t.security.checkpoints (s.security.q / 4096) = true ∧ s.acked t h) ∧
      (∃ t, exec (.attestRequest h nonce false) s = .next t ∧ t.security.nonce = none ∧ t.security.q = s.security.q ∧
        s.told t E.ATTEST_STATE_FAULT)

/-- Bytes of a manifest are collected, but in TRIAL refused with BUSY; whole, acceptable and new, it starts a download, and a bad one is
refused, told.  Bytes of an image in LOADING are collected, and a whole block is stored in its slot; outside LOADING nothing comes of them.  An activation
in READY with every condition met makes the trial, its reset due, told; any other is refused with CONSISTENCY.  A confirmation within
its window makes the trial's image the confirmed one, told, and a late one is refused with TIMEOUT; outside TRIAL it does nothing.  An abort drops an image that is loading or
ready, and in TRIAL reverts and resets. -/
def Obligations.UpdateWrites : Prop :=
  ∀ (h : OdHead) (off : Nat) (data : List Byte) (s : State), off < 2 ^ 32 →
    (s.writes h P.MANIFEST 0xFFFF 14 (leBytes 4 off ++ data) → s.upd.st ≠ U.TRIAL →
      let inc := (List.range data.length).foldl (fun m i => SMap.set 0 m (off + i) ((data.getD i 0).toNat + 1)) s.upd.incoming
      let m := inc.map fun (e : Nat × Nat) => BitVec.ofNat 8 (e.2 - 1)
      (inc.length < 3152 → ∃ t, exec (.manifest h off data) s = .next t ∧ t.upd = { s.upd with incoming := inc } ∧
        s.acked t h) ∧
      (3152 ≤ inc.length → s.manifestOk m = false → ∃ t, exec (.manifest h off data) s = .next t ∧
        t.upd = { s.upd with incoming := [] } ∧ s.told t E.MANIFEST_REJECTED ∧ t.refusedWrite ST.RANGE) ∧
      (3152 ≤ inc.length → s.manifestOk m = true → mfield m 8 4 ≠ s.manifestId → ∃ t, exec (.manifest h off data) s = .next t ∧
        t.upd.st = U.LOADING ∧ t.upd.manifest = m ∧ t.upd.verified = 0 ∧ t.slot s.inactive = {} ∧
        s.told t E.MANIFEST_ACCEPTED ∧ s.acked t h)) ∧
    (s.writes h P.MANIFEST 0xFFFF 14 (leBytes 4 off ++ data) → s.upd.st = U.TRIAL → ∃ t, exec (.manifest h off data) s = .next t ∧
      t.upd = s.upd ∧ t.refusedWrite ST.BUSY) ∧
    (s.writes h P.IMAGE_DATA 0xFFFF 14 (leBytes 4 off ++ data) → s.isTile = false → s.upd.st ≠ U.LOADING →
      ∃ t, exec (.imageData h off data) s = .next t ∧ t.upd = s.upd ∧ s.acked t h) ∧
    (s.writes h P.IMAGE_DATA 0xFFFF 14 (leBytes 4 off ++ data) → s.isTile = false → s.upd.st = U.LOADING →
      let part := (List.range data.length).foldl (fun m i => SMap.set 0 m (off + i) ((data.getD i 0).toNat + 1)) s.upd.part
      let mine (i : Nat) := part.filter fun (e : Nat × Nat) => e.1 / 4096 == i
      ((∀ i, (mine i).length < 4096) → ∃ t, exec (.imageData h off data) s = .next t ∧
        t.upd = { s.upd with part := part } ∧ s.acked t h) ∧
      (∀ i, data ≠ [] → off / 4096 = i → (off + data.length - 1) / 4096 = i → 4096 ≤ (mine i).length → i < s.blockCount →
        blockThere ((s.slot s.imageSlot).block i) = false → s.upd.verified ≠ i → s.upd.verified < s.blockCount →
        blockThere ((s.slot s.imageSlot).block s.upd.verified) = false → ∃ t, exec (.imageData h off data) s = .next t ∧
          (t.slot s.imageSlot).block i = (mine i).map (fun e => BitVec.ofNat 8 (e.2 - 1)) ∧ t.upd.st = U.LOADING ∧
          s.acked t h)) ∧
    (∀ v : BitVec 8,
      (s.writes h P.ACTIVATE 0xFFFF 2 (leBytes 1 v.toNat) →
        let may := s.upd.st = U.READY ∧ s.neighboursOk = true ∧ mfield s.upd.manifest 22 2 ≤ s.upd.format ∧ s.sluice ≠ SL.ACTIVE
        (¬may → ∃ t, exec (.activate h v) s = .next t ∧ t.upd = s.upd ∧ t.refusedWrite ST.CONSISTENCY) ∧
        (may → ∃ t, exec (.activate h v) s = .next t ∧
          t.upd.st = U.TRIAL ∧ t.upd.trial = s.inactive ∧ t.upd.boots = 3 ∧ t.upd.resetDue = some s.now ∧
          t.upd.confirmed = s.upd.confirmed ∧ s.told t E.ACTIVATED ∧ s.acked t h)) ∧
      (s.writes h P.CONFIRM 0xFFFF 2 (leBytes 1 v.toNat) →
        (s.upd.st = U.TRIAL → s.windowOver = false → ∃ t, exec (.confirm h v) s = .next t ∧ t.upd.st = U.IDLE ∧
          t.upd.confirmed = s.upd.trial ∧ s.security.floor ≤ t.security.floor ∧ s.told t E.CONFIRMED ∧ s.acked t h) ∧
        (s.upd.st = U.TRIAL → s.windowOver = true → ∃ t, exec (.confirm h v) s = .next t ∧ t.upd = s.upd ∧ t.refusedWrite ST.TIMEOUT) ∧
        (s.upd.st ≠ U.TRIAL → ∃ t, exec (.confirm h v) s = .next t ∧ t.upd = s.upd ∧ s.acked t h)) ∧
      (s.writes h P.UPDATE_ABORT 0xFFFF 2 (leBytes 1 v.toNat) →
        (s.upd.st = U.LOADING ∨ s.upd.st = U.READY → ∃ t, exec (.updateAbort h v) s = .next t ∧ t.upd.st = U.IDLE ∧
          t.upd.manifest = [] ∧ t.slot s.inactive = {} ∧ s.told t E.UPDATE_ABORTED ∧ s.acked t h) ∧
        (s.upd.st = U.IDLE ∨ s.upd.st = U.REVERTED → ∃ t, exec (.updateAbort h v) s = .next t ∧ t.upd = s.upd ∧ s.acked t h) ∧
        (s.upd.st = U.TRIAL → s.start.resetting = none → s.start.tripped = false →
          ∃ t, exec (.updateAbort h v) s = .next t ∧ t.upd.st = U.REVERTED ∧
            t.start.resetting = some (s.deepen .l1) ∧ t.pending = s.pending)))

/-- DUMP_READ moves up to DUMP_WRITE, and not beyond.  A freeze and its release are in force and told; a snapshot takes every counter and the tick.  The sample
buffer empties.  A clear of the fault latch points it at the oldest fault above the number, where one written in the same cycle counts as above it, told; one not below LOG_SEQ is refused.
A written 1 clears its pending bit, unless a record has set it in the same cycle, and no other. -/
def Obligations.CounterAndLogWrites : Prop :=
  ∀ (h : OdHead) (s : State),
    (∀ v : BitVec 32, s.writes h P.DUMP_READ 0xFFFF 5 (leBytes 4 v.toNat) → v.toNat ≤ s.par P.DUMP_WRITE →
      ∃ t, exec (.dumpRead h v) s = .next t ∧ t.par P.DUMP_READ = v.toNat ∧ t.par P.DUMP_WRITE = s.par P.DUMP_WRITE ∧
        s.acked t h) ∧
    (∀ v : BitVec 32, s.writes h P.DUMP_READ 0xFFFF 5 (leBytes 4 v.toNat) → s.par P.DUMP_WRITE < v.toNat →
      ∃ t, exec (.dumpRead h v) s = .next t ∧ t.par P.DUMP_READ = s.par P.DUMP_READ ∧ t.refusedWrite ST.RANGE) ∧
    (s.writes h P.COUNTER_FREEZE 0xFFFF 2 [1] → ∃ t, exec (.counterFreeze h) s = .next t ∧ t.perf.frozen = true ∧
      t.perf.counters = s.perf.counters ∧ s.told t E.COUNTERS_FROZEN ∧ s.acked t h) ∧
    (s.writes h P.COUNTER_FREEZE 0xFFFF 2 [2] → ∃ t, exec (.counterRelease h) s = .next t ∧ t.perf.frozen = false ∧
      s.told t E.COUNTERS_FROZEN ∧ s.acked t h) ∧
    (s.writes h P.COUNTER_FREEZE 0xFFFF 2 [3] → ∃ t, exec (.counterSnapshot h) s = .next t ∧
      t.par P.SNAPSHOT_TICK = s.time.tick % 2 ^ 48 ∧ s.acked t h ∧
      ∀ c, c < 320 → t.blobNat P.SNAPSHOT 0 (8 * c) 8 = s.counterNow c % 2 ^ 64) ∧
    (∀ v : BitVec 8, s.writes h P.SAMPLE_CLEAR 0xFFFF 2 (leBytes 1 v.toNat) → ∃ t, exec (.sampleClear h v) s = .next t ∧
      t.par P.SAMPLE_HEAD = 0 ∧ t.perf.held = 0 ∧ s.acked t h) ∧
    (∀ v : BitVec 32, s.writes h P.FAULT_CLEAR 0xFFFF 5 (leBytes 4 v.toNat) →
      (v.toNat < s.par P.LOG_SEQ → ∃ t, exec (.faultClear h v) s = .next t ∧ s.told t E.FAULT_CLEARED ∧ s.acked t h ∧
        (∀ r ∈ (s.ev.log ++ s.ev.head).filterMap (·.2), 2 ≤ r.body.sev → s.above v.toNat r = true → t.par P.FAULT_LATCH ≤ r.seq) ∧
        (t.par P.FAULT_LATCH = 0xFFFFFFFF ∨ ∃ r ∈ (s.ev.log ++ s.ev.head).filterMap (·.2), 2 ≤ r.body.sev ∧
          s.above v.toNat r = true ∧ t.par P.FAULT_LATCH = r.seq)) ∧
      (s.par P.LOG_SEQ ≤ v.toNat → ∃ t, exec (.faultClear h v) s = .next t ∧ t.par P.FAULT_LATCH = s.par P.FAULT_LATCH ∧
        t.refusedWrite ST.RANGE)) ∧
    (∀ b : BitVec 16, s.writes h P.IRQ_PENDING 0xFFFF 3 (leBytes 2 b.toNat) → ∃ t, exec (.irqPendingClear h b) s = .next t ∧
      s.acked t h ∧ ∀ i, i < 16 → bit (t.par P.IRQ_PENDING) i =
        (bit (s.par P.IRQ_PENDING) i && !(decide (i < 13) && bit b.toNat i && !(s.wroteNow && bit s.ev.cycleBits i))))

/-- When a burn of the lock fuses completes, the new state acts, the debug session closes, EV 564 is told and the write that asked for
it is answered; what had waited for it then has its turn, which is stated here for no message that waits.  Each JTAG instruction is in force, SAMPLE/PRELOAD with its boundary cells, and nothing else changes.  A completed
signature publishes the report's 144 bytes as they stand at signing, followed by the index it was made with, most significant byte
first; EV 566 is told and the next request may come. -/
def Obligations.SecurityAndAttestation : Prop :=
  (∀ (s : State) (r : Nat), s.security.burning = some r →
    (∃ t, exec .lockBurnComplete s = .next t ∧ t.security.fuses = r) ∧
    (s.od.waiting = [] → ∃ t, exec .lockBurnComplete s = .next t ∧
      t.security = { s.security with fuses := r, burning := none, answer := none } ∧
      bit (t.par P.DEBUG_STATE) 1 = false ∧ t.par P.DEBUG_STATE % 2 = s.par P.DEBUG_STATE % 2 ∧ s.told t E.LOCK_ADVANCED ∧
      t.outbox = (match s.security.answer with | some a => Out.resp a.1 a.2 :: s.outbox | none => s.outbox) ∧
      s.samePars t [P.DEBUG_STATE, P.EVENT_COUNT] ∧
      t = { s with security := t.security, dict := t.dict, ev := t.ev, outbox := t.outbox })) ∧
  (∀ s : State, s.security.burning = none → exec .lockBurnComplete s = .next s) ∧
  (∀ s : State, exec .bypass s = .next { s with security := { s.security with jtag := 0 } } ∧
    (∀ cells, exec (.samplePreload cells) s = .next { s with security := { s.security with jtag := 1, cells := cells } }) ∧
    exec .extest s = .next { s with security := { s.security with jtag := 2 } } ∧
    exec .idcode s = .next { s with security := { s.security with jtag := 3 } }) ∧
  ∀ (s : State) (n : List Byte), s.security.nonce = some n → n.length = 32 →
    ∃ t, exec .attestSignComplete s = .next t ∧ t.security = { s.security with nonce := none } ∧
      t.blob P.ATTEST_REPORT 0 0 144 = s.attestBody n ∧
      (∀ i, i < 4 → t.blobByte P.ATTEST_REPORT 0 (144 + i) = (s.security.q - 1) / 256 ^ (3 - i) % 256) ∧
      s.told t E.ATTEST_SIGNED ∧ s.samePars t [P.EVENT_COUNT] ∧
      t = { s with security := t.security, blobs := t.blobs, dict := t.dict, ev := t.ev }

/-- A relayed block that fails its CRC is counted and dropped.  A good one of the held manifest that the slot lacks is stored; it is
verified when its turn comes, and the last one to be verified makes the device READY, told, when the header and the body agree with
the manifest.  One that fails its hash is erased, told.  An UPD_STATE notes what the neighbour holds; one with an acceptable manifest
that is not the one held starts a download into the erased inactive slot, told, and one with a bad manifest is told.  The state timer
sends an UPD_STATE on every UP port on which there is room for it and no guard, and keeps it due on the others.  Toward a neighbour with the same manifest the lowest or the
highest block it lacks goes out, as R488 gives the direction. -/
def Obligations.ManifestsAndBlocks : Prop :=
  (∀ (p : Fin 20) (id : BitVec 32) (i : Nat) (data : List Byte) (s : State),
    s.chainUp p = true → s.upd.bootDue = false → s.start.noFirmware = false →
    exec (.updBlock p id i data false) s = .next (s.bump P.CRC_ERRORS p) ∧
    (id.toNat ≠ 0 → id.toNat = s.manifestId → data.length = 4096 → blockThere data = true → s.upd.st = U.LOADING →
      i < s.blockCount → blockThere ((s.slot s.inactive).block i) = false →
      let stored : Slot := { (s.slot s.inactive) with blocks := SMap.set [] (s.slot s.inactive).blocks i data }
      (i ≠ s.upd.verified → s.upd.verified < s.blockCount →
        blockThere ((s.slot s.inactive).block s.upd.verified) = false →
        exec (.updBlock p id i data true) s = .next (s.setSlot s.inactive stored)) ∧
      (i = s.upd.verified → bytesAt (sha256 data) 0 32 = s.wantHash i →
        (i + 1 < s.blockCount → blockThere ((s.slot s.inactive).block (i + 1)) = false →
          exec (.updBlock p id i data true) s = .next { s.setSlot s.inactive stored with
            upd := { (s.setSlot s.inactive stored).upd with verified := i + 1 } }) ∧
        (i + 1 = s.blockCount →
          Config.hdrFormat (stored.image (mfield s.upd.manifest 4 4)) = mfield s.upd.manifest 0 2 →
          Config.hdrSecurity (stored.image (mfield s.upd.manifest 4 4)) = mfield s.upd.manifest 18 2 →
          bytesAt (sha256 (Config.imageBody (stored.image (mfield s.upd.manifest 4 4)))) 0 32 =
            bytesAt s.upd.manifest 56 32 →
          ∃ t, exec (.updBlock p id i data true) s = .next t ∧ t.upd.st = U.READY ∧ t.slot s.inactive = stored ∧
            s.told t E.IMAGE_READY ∧ t = { s with upd := t.upd, dict := t.dict, ev := t.ev })) ∧
      (i = s.upd.verified → bytesAt (sha256 data) 0 32 ≠ s.wantHash i →
        ∃ t, exec (.updBlock p id i data true) s = .next t ∧ (t.slot s.inactive).block i = [] ∧
          (∀ j, j ≠ i → (t.slot s.inactive).block j = (s.slot s.inactive).block j) ∧ s.told t E.BLOCK_BAD ∧
          t = { s with upd := { s.upd with slots := t.upd.slots }, dict := t.dict, ev := t.ev }))) ∧
  (∀ (p : Fin 20) (id : BitVec 32) (st : Fin 8) (version : BitVec 16) (held : List Nat) (m : List Byte) (s : State),
    s.chainUp p = true → s.upd.bootDue = false → s.start.noFirmware = false →
    exec (.updState p id st version held m false) s = .next (s.bump P.CRC_ERRORS p) ∧
    ∃ t, exec (.updState p id st version held m true) s = .next t ∧
      (t.neighbour p).id = id.toNat ∧ (t.neighbour p).st = st ∧ (t.neighbour p).version = version.toNat ∧
      (∀ j, j ∈ (t.neighbour p).held ↔ j ∈ held) ∧ (t.neighbour p).sent = [] ∧
      (∀ r, r ≠ p.val → t.neighbour r = s.neighbour r) ∧
      (st.val ≠ U.LOADING ∨ s.upd.st = U.TRIAL → t = { s with upd := { s.upd with neighbours := t.upd.neighbours } }) ∧
      (st.val = U.LOADING → s.upd.st ≠ U.TRIAL → s.manifestOk m = true → mfield m 8 4 ≠ s.manifestId →
        t.upd.manifest = m ∧ t.upd.st = U.LOADING ∧ t.upd.verified = 0 ∧ t.slot s.inactive = {} ∧
        t.slot s.upd.confirmed = s.slot s.upd.confirmed ∧ s.told t E.MANIFEST_ACCEPTED) ∧
      (st.val = U.LOADING → s.upd.st ≠ U.TRIAL → s.manifestOk m = false →
        t.upd = { s.upd with neighbours := t.upd.neighbours } ∧ s.told t E.MANIFEST_REJECTED)) ∧
  (∀ s : State, let goes (p : Nat) : Prop := s.relayUp p = true ∧ s.relayRoom p s.stateSize false = true
    ∃ t, exec .updStateTimer s = .next t ∧ (∀ p, p ∈ t.upd.stateDue ↔ p < 20 ∧ ¬goes p) ∧
    (∀ p, p < 20 → goes p → Out.packet p 8 ((s.linkOf p).seq :: ([s.manifestId, s.upd.st, s.par P.FW_VERSION / 65536] ++
      s.heldBlocks ++ if s.upd.st = U.LOADING then s.upd.manifest.map (·.toNat) else [])) ∈ t.outbox) ∧
    t = { s with upd := { s.upd with stateDue := t.upd.stateDue }, chain := t.chain, outbox := t.outbox }) ∧
  ∀ (p : Fin 20) (s : State), s.upd.stateDue.contains p.val = false → s.manifestId ≠ 0 → (s.neighbour p).id = s.manifestId →
    s.relayUp p = true → s.relayRoom p blockSize true = true →
    ((∀ i ∈ s.heldBlocks, i ∈ (s.neighbour p).held ∨ i ∈ (s.neighbour p).sent) → exec (.updBlockSend p) s = .next s) ∧
    ∀ i ∈ s.heldBlocks, i ∉ (s.neighbour p).held → i ∉ (s.neighbour p).sent →
      (∀ j ∈ s.heldBlocks, j ∉ (s.neighbour p).held → j ∉ (s.neighbour p).sent →
        if s.ascending p = true then i ≤ j else j ≤ i) →
      ∃ t, exec (.updBlockSend p) s = .next t ∧
        t.outbox = .packet p 7 ((s.linkOf p).seq :: s.manifestId :: i :: ((s.slot s.imageSlot).block i).map (·.toNat)) :: s.outbox ∧
        t.neighbour p = { s.neighbour p with sent := NSet.add (s.neighbour p).sent i } ∧
        t = { s with upd := { s.upd with neighbours := t.upd.neighbours }, chain := t.chain, outbox := t.outbox }

/-- When a record's writes are acknowledged it stands at its place in the ring, DUMP_WRITE has advanced and the next may start; a
paused dump waits.  A source's due sample takes the entry that SAMPLE_HEAD names, with the instruction word and the pc, and the next one is
due 1 to 16 instructions after the period is over; where an entry has been written in this cycle of the Control region, or others wait, it
waits among them.  With the buffer full in SAMPLE_MODE 0, or 16 that wait, it is counted as dropped instead. -/
def Obligations.DumpRecordsAndSamples : Prop :=
  (∀ (s : State) (bs : List Byte), s.perf.writing = some bs →
    (s.bgPaused Bg.DUMP = false →
      ∃ t, exec .dumpRecordWritten s = .next t ∧ t.par P.DUMP_WRITE = (s.par P.DUMP_WRITE + 1) % 2 ^ 32 ∧
        (∀ n, n < bs.length →
          t.blobByte P.DUMP_RING 0 (s.par P.DUMP_WRITE % s.dumpCap * s.dumpSize + n) = (bs.getD n 0).toNat) ∧
        s.samePars t [P.DUMP_WRITE] ∧
        t = { s with perf := { s.perf with writing := none }, blobs := t.blobs, dict := t.dict, therm := t.therm }) ∧
    (s.bgPaused Bg.DUMP = true → exec .dumpRecordWritten s = .next s)) ∧
  (∀ s : State, s.perf.writing = none → exec .dumpRecordWritten s = .next s) ∧
  ∀ (i : Fin 10) (word pc addr : BitVec 32) (latency : Nat) (s : State), s.par P.SAMPLE_PERIOD i ≠ 0 →
    (i.val < 8 → s.isTile = true ∧ SMap.get 0 s.perf.left i = 1) → (i.val = 8 → s.isHead = true) →
    ∃ t, exec (.sampleTake i word pc addr latency) s = .next t ∧
      s.par P.SAMPLE_PERIOD i + 1 ≤ SMap.get 0 t.perf.left i ∧ SMap.get 0 t.perf.left i ≤ s.par P.SAMPLE_PERIOD i + 16 ∧
      (∀ j, j ≠ i.val → SMap.get 0 t.perf.left j = SMap.get 0 s.perf.left j) ∧
      s.samePars t [P.SAMPLE_HEAD, P.SAMPLES_DROPPED, P.EVENT_COUNT] ∧
      t = { s with perf := t.perf, blobs := t.blobs, dict := t.dict, ev := t.ev, free := s.free + 1 } ∧
      (s.perf.queue = [] → s.perf.cycle ≠ s.controlNow + 1 → s.perf.held ≠ 1024 ∨ s.par P.SAMPLE_MODE ≠ 0 →
        t.par P.SAMPLE_HEAD = (s.par P.SAMPLE_HEAD + 1) % 2 ^ 32 ∧ t.par P.SAMPLES_DROPPED = s.par P.SAMPLES_DROPPED ∧
        t.blobByte P.SAMPLE_BUFFER 0 (32 * (s.par P.SAMPLE_HEAD % 1024)) = i ∧
        t.blobNat P.SAMPLE_BUFFER 0 (32 * (s.par P.SAMPLE_HEAD % 1024) + 4) 4 = word.toNat ∧
        t.blobNat P.SAMPLE_BUFFER 0 (32 * (s.par P.SAMPLE_HEAD % 1024) + 8) 4 = pc.toNat) ∧
      (s.perf.queue = [] → s.perf.cycle ≠ s.controlNow + 1 → s.perf.held = 1024 → s.par P.SAMPLE_MODE = 0 →
        t.par P.SAMPLE_HEAD = s.par P.SAMPLE_HEAD ∧ s.told t E.SAMPLE_BUFFER_FULL ∧
        t.par P.SAMPLES_DROPPED = (s.par P.SAMPLES_DROPPED + 1) % 2 ^ 32) ∧
      (s.perf.queue ≠ [] ∨ s.perf.cycle = s.controlNow + 1 → s.perf.queue.length < 16 →
        t.perf.queue.length = s.perf.queue.length + 1 ∧ (∀ e ∈ s.perf.queue, e ∈ t.perf.queue) ∧
        (∃ e ∈ t.perf.queue, e.1 = s.controlNow ∧ e.2.1 = i ∧ bytesAt e.2.2 4 8 = leBytes 4 word.toNat ++ leBytes 4 pc.toNat) ∧
        t.par P.SAMPLE_HEAD = s.par P.SAMPLE_HEAD ∧ t.par P.SAMPLES_DROPPED = s.par P.SAMPLES_DROPPED ∧ t.blobs = s.blobs) ∧
      (16 ≤ s.perf.queue.length → t.perf.queue = s.perf.queue ∧ t.par P.SAMPLE_HEAD = s.par P.SAMPLE_HEAD ∧
        t.par P.SAMPLES_DROPPED = (s.par P.SAMPLES_DROPPED + 1) % 2 ^ 32 ∧ t.blobs = s.blobs)

/-- With a command in front of the queue, a step is that command's effect on the state with the queue's rest.  On an empty queue a quarter
of a nanosecond passes (the model's choice, log entry 1): with the 16th a cycle of 4 ns is over, and the time counter rises by the increment
in force while the Time region is released.  Injected errors leave with it, an entry that waits for the sample buffer is written at the end of each cycle of
the Control region, the heartbeat may change at a period's boundary, and only counters of performance move besides.  The table gives no command any bits, so no word spells one. -/
def Obligations.StepRunsTheFront : Prop :=
  (∀ (c : Instr) (rest : List Instr) (s : State), s.pending = c :: rest → step s = exec c { s with pending := rest }) ∧
  (∀ s : State, s.pending = [] → ∃ t, step s = .next t ∧
    (s.phase < 15 → t.now = s.now ∧ t.phase = s.phase + 1 ∧ t.time = s.time) ∧
    (15 ≤ s.phase → t.now = s.now + 1 ∧ t.phase = 0 ∧ t.time = { s.time with
      counter := if s.isReleased .time = true then s.time.counter + increment s.time.freq else s.time.counter }) ∧
    t.lane = { s.lane with injects := [] } ∧ (∀ e ∈ s.lane.injects, Out.injected e.1 e.2 ∈ t.outbox) ∧
    t.perf.queue = (if (16 * s.now + s.phase) % 5 = 4 then s.perf.queue.tail else s.perf.queue) ∧
    t.red = { s.red with hbOut := t.red.hbOut } ∧
    t = { s with now := t.now, phase := t.phase, time := t.time, lane := t.lane, perf := t.perf, red := t.red, outbox := t.outbox
                 dict := t.dict, blobs := t.blobs, ev := t.ev }) ∧
  ∀ nbits w : Nat, decodeTableWord nbits w = none ∧ ∀ s : State, s.withFetchWord nbits w = s

/-- After reset power-on reset is asserted and level L0 is being carried out; no region is released, READY_MAP is 0 and all pin groups and
lamp banks are off; no lamp port is lit, no fan driven, no lease held, every parameter is at its default, and no command waits.  The root of
trust's order holds (its values are the model's, log entry 3). -/
def Obligations.AfterReset : Prop :=
  State.reset.start.por = true ∧ State.reset.start.resetting = some .l0 ∧ State.reset.pending = [] ∧
    (∀ r, State.reset.isReleased r = false) ∧ (∀ i, State.reset.rdy i = false) ∧
    (∀ g, SMap.get .off State.reset.start.groups g = .off) ∧ (∀ b, SMap.get .off State.reset.start.banks b = .off) ∧
    State.reset.drive.lit = [] ∧ State.reset.pump.duty = [] ∧ State.reset.od.holder = none ∧
    (∀ id idx, State.reset.par id idx = dfltAt false false id idx) ∧ State.reset.outbox = [] ∧ State.reset.rootOk

/-- In every state every command ends in a next state, with the queue and the clocks as they were, whatever resets, image
starts and refusals it brings about.  So a step either takes the front command off the queue or lets a quarter of a nanosecond pass, and a run from any
state goes on for ever. -/
def Obligations.EveryCommandCompletes : Prop :=
  (∀ (c : Instr) (s : State), ∃ t, exec c s = .next t ∧ t.pending = s.pending ∧ t.now = s.now ∧ t.phase = s.phase) ∧
  (∀ s t : State, step s = .next t → t.pending = s.pending.tail ∧
    16 * t.now + t.phase = 16 * s.now + (if s.pending = [] then min s.phase 15 + 1 else s.phase)) ∧
  ∀ s : State, s.safe

/-- From every state in which the root of trust is in order (`State.rootOk`), each step keeps it in order, and the root hash, the lock
fuses, the security floor, the attestation index in flash and its checkpoint bits never go back (`State.rootKept`): no reset, no image
start, no message and no relayed packet does it.  A report that begins to be signed takes an index that no report before it had. -/
def Obligations.RootOfTrustKept : Prop :=
  ∀ s t : State, s.rootOk → step s = .next t → t.rootOk ∧ s.rootKept t
end

