-- ==== Sys2Proof/Laws/SMap.lean ====
section
/-! SUPPORT. Laws of the sparse tables: reading back what was written, leaving the rest alone, and keeping the canonical
form. -/

namespace Sys2Proof.Machine

variable {α : Type}

@[simp] theorem SMap.get_nil (d : α) (k : Nat) : SMap.get d ([] : SMap α) k = d := rfl

theorem SMap.get_put_same (d : α) (m : SMap α) (k : Nat) (v : α) : SMap.get d (SMap.put m k v) k = v := by
  induction m with
  | nil => simp [SMap.put, SMap.get]
  | cons e m ih =>
    obtain ⟨j, w⟩ := e
    simp only [SMap.put]
    split
    · simp [SMap.get]
    · split
      · simp [SMap.get]
      · simp only [SMap.get]
        rw [if_neg (by omega)]
        exact ih

theorem SMap.get_put_ne (d : α) (m : SMap α) {k j : Nat} (v : α) (h : j ≠ k) :
    SMap.get d (SMap.put m k v) j = SMap.get d m j := by
  induction m with
  | nil => simp [SMap.put, SMap.get, Ne.symm h]
  | cons e m ih =>
    obtain ⟨i, w⟩ := e
    simp only [SMap.put]
    split
    · simp [SMap.get, Ne.symm h]
    · split
      · rename_i hk
        subst hk
        simp [SMap.get, Ne.symm h]
      · simp only [SMap.get]
        split
        · rfl
        · exact ih

theorem SMap.get_del_same (d : α) (m : SMap α) (k : Nat) : SMap.get d (SMap.del m k) k = d := by
  induction m with
  | nil => rfl
  | cons e m ih =>
    obtain ⟨j, w⟩ := e
    simp only [SMap.del]
    split
    · exact ih
    · rename_i hj
      simp only [SMap.get]
      rw [if_neg hj]
      exact ih

theorem SMap.get_del_ne (d : α) (m : SMap α) {k j : Nat} (h : j ≠ k) : SMap.get d (SMap.del m k) j = SMap.get d m j := by
  induction m with
  | nil => rfl
  | cons e m ih =>
    obtain ⟨i, w⟩ := e
    simp only [SMap.del]
    split
    · rename_i hi
      subst hi
      simp only [SMap.get]
      rw [if_neg (Ne.symm h)]
      exact ih
    · simp only [SMap.get]
      split
      · rfl
      · exact ih

variable [DecidableEq α]

/-- A value written reads back. -/
@[simp] theorem SMap.get_set_same (d : α) (m : SMap α) (k : Nat) (v : α) : SMap.get d (SMap.set d m k v) k = v := by
  unfold SMap.set
  split
  · rename_i h
    rw [SMap.get_del_same, h]
  · exact SMap.get_put_same d m k v

/-- A write leaves every other key alone, whatever default the reader has for it. -/
theorem SMap.get_set_ne (d d' : α) (m : SMap α) {k j : Nat} (v : α) (h : j ≠ k) :
    SMap.get d (SMap.set d' m k v) j = SMap.get d m j := by
  unfold SMap.set
  split
  · exact SMap.get_del_ne d m h
  · exact SMap.get_put_ne d m v h

/-! The canonical form -/

theorem SMap.wfFrom_put (d : Nat → α) (m : SMap α) (lo : Option Nat) (k : Nat) (v : α) (hv : v ≠ d k)
    (hlo : ∀ l, lo = some l → l < k) (h : SMap.wfFrom d lo m = true) : SMap.wfFrom d lo (SMap.put m k v) = true := by
  induction m generalizing lo with
  | nil => cases lo <;> simp_all [SMap.put, SMap.wfFrom]
  | cons e m ih =>
    obtain ⟨j, w⟩ := e
    simp only [SMap.wfFrom, Bool.and_eq_true, decide_eq_true_eq] at h
    obtain ⟨⟨hj, hw⟩, hm⟩ := h
    simp only [SMap.put]
    split
    · rename_i hkj
      cases lo <;> simp_all [SMap.wfFrom]
    · split
      · rename_i hkj
        subst hkj
        cases lo <;> simp_all [SMap.wfFrom]
      · rename_i h1 h2
        have := ih (some j) (by intro l hl; cases hl; omega) hm
        cases lo <;> simp_all [SMap.wfFrom]

theorem SMap.wfFrom_mono (d : Nat → α) (m : SMap α) {lo lo' : Option Nat}
    (hlo : ∀ l, lo = some l → ∃ l', lo' = some l' ∧ l ≤ l') (h : SMap.wfFrom d lo' m = true) :
    SMap.wfFrom d lo m = true := by
  cases m with
  | nil => rfl
  | cons e m =>
    obtain ⟨j, w⟩ := e
    simp only [SMap.wfFrom, Bool.and_eq_true, decide_eq_true_eq] at h ⊢
    refine ⟨⟨?_, h.1.2⟩, h.2⟩
    cases lo with
    | none => rfl
    | some l =>
      obtain ⟨l', rfl, hl⟩ := hlo l rfl
      have := h.1.1
      simp only [decide_eq_true_eq] at this ⊢
      omega

theorem SMap.wfFrom_del (d : Nat → α) (m : SMap α) (lo : Option Nat) (k : Nat) (h : SMap.wfFrom d lo m = true) :
    SMap.wfFrom d lo (SMap.del m k) = true := by
  induction m generalizing lo with
  | nil => rfl
  | cons e m ih =>
    obtain ⟨j, w⟩ := e
    simp only [SMap.wfFrom, Bool.and_eq_true, decide_eq_true_eq] at h
    obtain ⟨⟨hj, hw⟩, hm⟩ := h
    simp only [SMap.del]
    split
    · refine SMap.wfFrom_mono d _ ?_ (ih (some j) hm)
      intro l hl
      subst hl
      simp only [decide_eq_true_eq] at hj
      exact ⟨j, rfl, hj.le⟩
    · simp only [SMap.wfFrom, Bool.and_eq_true, decide_eq_true_eq]
      exact ⟨⟨hj, hw⟩, ih (some j) hm⟩

/-- Every write keeps the canonical form. -/
theorem SMap.set_wf (d : Nat → α) (m : SMap α) (k : Nat) (v : α) (h : SMap.wf d m = true) :
    SMap.wf d (SMap.set (d k) m k v) = true := by
  unfold SMap.set SMap.wf at *
  split
  · exact SMap.wfFrom_del d m none k h
  · rename_i hv
    exact SMap.wfFrom_put d m none k v hv (by simp) h

@[simp] theorem SMap.wf_nil (d : Nat → α) : SMap.wf d ([] : SMap α) = true := rfl

end Sys2Proof.Machine
end

