-- ==== Sys2Proof/Laws/State.lean ====
section
/-! SUPPORT. One lemma per field and per named update of the state: what the update leaves alone. -/

namespace Sys2Proof.Machine

/-! What the shared updates can touch at all -/

theorem State.setBlob_eq (s : State) (id idx off : Nat) (bs : List Byte) :
    s.setBlob id idx off bs = { s with blobs := (s.setBlob id idx off bs).blobs } := by
  induction bs generalizing s off with
  | nil => rfl
  | cons b bs ih =>
    simp only [State.setBlob]
    rw [ih]

theorem State.enqueue_eq (s : State) (r : Raise) : (s.enqueue r).1 = { s with ev := (s.enqueue r).1.ev } := by
  simp only [State.enqueue]
  split
  · rfl
  · split <;> rfl

/-- Raising an event changes the event state and the event's counter, nothing else. -/
theorem State.raiseRec_eq (s : State) (r : Raise) :
    s.raiseRec r = { s with dict := (s.raiseRec r).dict, ev := (s.raiseRec r).ev } := by
  simp only [State.raiseRec]
  split
  · rename_i t h
    have e := State.enqueue_eq (s.bump P.EVENT_COUNT r.ev) r
    rw [h] at e
    simp only at e
    rw [e]
    rfl
  · rename_i t h
    have e := State.enqueue_eq (s.bump P.EVENT_COUNT r.ev) r
    rw [h] at e
    simp only at e
    rw [e]
    split
    · rw [State.enqueue_eq]
      rfl
    · rfl

theorem State.raise_eq (s : State) (e i d c : Nat) :
    s.raise e i d c = { s with dict := (s.raise e i d c).dict, ev := (s.raise e i d c).ev } := State.raiseRec_eq s _

theorem State.raiseIf_eq (s : State) (b : Bool) (e i d : Nat) :
    s.raiseIf b e i d = { s with dict := (s.raiseIf b e i d).dict, ev := (s.raiseIf b e i d).ev } := by
  cases b with
  | true => exact State.raise_eq s e i d 0
  | false => rfl

theorem State.raiseLimited_eq (s : State) (e i n d : Nat) :
    s.raiseLimited e i n d = { s with dict := (s.raiseLimited e i n d).dict, ev := (s.raiseLimited e i n d).ev } := by
  unfold State.raiseLimited
  split
  · rw [State.raise_eq]
    rfl
  · rfl

theorem State.raiseTick_eq (s : State) (e i d : Nat) :
    s.raiseTick e i d = { s with dict := (s.raiseTick e i d).dict, ev := (s.raiseTick e i d).ev } := by
  unfold State.raiseTick
  split
  · rfl
  · rw [State.raise_eq]

theorem State.count_eq (s : State) (c n : Nat) : s.count c n = { s with perf := (s.count c n).perf } := by
  unfold State.count
  split <;> rfl

theorem State.keepReady_eq (s : State) (m : Nat) :
    s.keepReady m = { s with start := (s.keepReady m).start, dict := (s.keepReady m).dict, ev := (s.keepReady m).ev } := by
  unfold State.keepReady
  simp only
  split
  · rw [State.raiseIf_eq]
  · rfl

theorem State.setReady_eq (s : State) (i : Nat) :
    s.setReady i = { s with start := (s.setReady i).start, dict := (s.setReady i).dict } := by
  unfold State.setReady
  split <;> rfl

/-! Field by field -/

@[simp] theorem State.setPar_now (s : State) (id idx v : Nat) : (s.setPar id idx v).now = s.now := rfl
@[simp] theorem State.setPar_phase (s : State) (id idx v : Nat) : (s.setPar id idx v).phase = s.phase := rfl
@[simp] theorem State.setPar_pending (s : State) (id idx v : Nat) : (s.setPar id idx v).pending = s.pending := rfl
@[simp] theorem State.setPar_free (s : State) (id idx v : Nat) : (s.setPar id idx v).free = s.free := rfl
@[simp] theorem State.setPar_outbox (s : State) (id idx v : Nat) : (s.setPar id idx v).outbox = s.outbox := rfl
@[simp] theorem State.setPar_blobs (s : State) (id idx v : Nat) : (s.setPar id idx v).blobs = s.blobs := rfl
@[simp] theorem State.setPar_start (s : State) (id idx v : Nat) : (s.setPar id idx v).start = s.start := rfl
@[simp] theorem State.setPar_od (s : State) (id idx v : Nat) : (s.setPar id idx v).od = s.od := rfl
@[simp] theorem State.setPar_ev (s : State) (id idx v : Nat) : (s.setPar id idx v).ev = s.ev := rfl
@[simp] theorem State.setPar_lane (s : State) (id idx v : Nat) : (s.setPar id idx v).lane = s.lane := rfl
@[simp] theorem State.setPar_time (s : State) (id idx v : Nat) : (s.setPar id idx v).time = s.time := rfl
@[simp] theorem State.setPar_therm (s : State) (id idx v : Nat) : (s.setPar id idx v).therm = s.therm := rfl
@[simp] theorem State.setPar_chain (s : State) (id idx v : Nat) : (s.setPar id idx v).chain = s.chain := rfl
@[simp] theorem State.setPar_red (s : State) (id idx v : Nat) : (s.setPar id idx v).red = s.red := rfl
@[simp] theorem State.setPar_src (s : State) (id idx v : Nat) : (s.setPar id idx v).src = s.src := rfl
@[simp] theorem State.setPar_comp (s : State) (id idx v : Nat) : (s.setPar id idx v).comp = s.comp := rfl
@[simp] theorem State.setPar_scan (s : State) (id idx v : Nat) : (s.setPar id idx v).scan = s.scan := rfl
@[simp] theorem State.setPar_store (s : State) (id idx v : Nat) : (s.setPar id idx v).store = s.store := rfl
@[simp] theorem State.setPar_tile (s : State) (id idx v : Nat) : (s.setPar id idx v).tile = s.tile := rfl
@[simp] theorem State.setPar_drive (s : State) (id idx v : Nat) : (s.setPar id idx v).drive = s.drive := rfl
@[simp] theorem State.setPar_health (s : State) (id idx v : Nat) : (s.setPar id idx v).health = s.health := rfl
@[simp] theorem State.setPar_pump (s : State) (id idx v : Nat) : (s.setPar id idx v).pump = s.pump := rfl
@[simp] theorem State.setPar_fix (s : State) (id idx v : Nat) : (s.setPar id idx v).fix = s.fix := rfl
@[simp] theorem State.setPar_eth (s : State) (id idx v : Nat) : (s.setPar id idx v).eth = s.eth := rfl
@[simp] theorem State.setPar_dram (s : State) (id idx v : Nat) : (s.setPar id idx v).dram = s.dram := rfl
@[simp] theorem State.setPar_security (s : State) (id idx v : Nat) : (s.setPar id idx v).security = s.security := rfl
@[simp] theorem State.setPar_upd (s : State) (id idx v : Nat) : (s.setPar id idx v).upd = s.upd := rfl
@[simp] theorem State.setPar_perf (s : State) (id idx v : Nat) : (s.setPar id idx v).perf = s.perf := rfl

@[simp] theorem State.bump_now (s : State) (id idx w : Nat) : (s.bump id idx w).now = s.now := rfl
@[simp] theorem State.bump_phase (s : State) (id idx w : Nat) : (s.bump id idx w).phase = s.phase := rfl
@[simp] theorem State.bump_pending (s : State) (id idx w : Nat) : (s.bump id idx w).pending = s.pending := rfl
@[simp] theorem State.bump_free (s : State) (id idx w : Nat) : (s.bump id idx w).free = s.free := rfl
@[simp] theorem State.bump_outbox (s : State) (id idx w : Nat) : (s.bump id idx w).outbox = s.outbox := rfl
@[simp] theorem State.bump_blobs (s : State) (id idx w : Nat) : (s.bump id idx w).blobs = s.blobs := rfl
@[simp] theorem State.bump_start (s : State) (id idx w : Nat) : (s.bump id idx w).start = s.start := rfl
@[simp] theorem State.bump_od (s : State) (id idx w : Nat) : (s.bump id idx w).od = s.od := rfl
@[simp] theorem State.bump_ev (s : State) (id idx w : Nat) : (s.bump id idx w).ev = s.ev := rfl
@[simp] theorem State.bump_lane (s : State) (id idx w : Nat) : (s.bump id idx w).lane = s.lane := rfl
@[simp] theorem State.bump_time (s : State) (id idx w : Nat) : (s.bump id idx w).time = s.time := rfl
@[simp] theorem State.bump_therm (s : State) (id idx w : Nat) : (s.bump id idx w).therm = s.therm := rfl
@[simp] theorem State.bump_chain (s : State) (id idx w : Nat) : (s.bump id idx w).chain = s.chain := rfl
@[simp] theorem State.bump_red (s : State) (id idx w : Nat) : (s.bump id idx w).red = s.red := rfl
@[simp] theorem State.bump_src (s : State) (id idx w : Nat) : (s.bump id idx w).src = s.src := rfl
@[simp] theorem State.bump_comp (s : State) (id idx w : Nat) : (s.bump id idx w).comp = s.comp := rfl
@[simp] theorem State.bump_scan (s : State) (id idx w : Nat) : (s.bump id idx w).scan = s.scan := rfl
@[simp] theorem State.bump_store (s : State) (id idx w : Nat) : (s.bump id idx w).store = s.store := rfl
@[simp] theorem State.bump_tile (s : State) (id idx w : Nat) : (s.bump id idx w).tile = s.tile := rfl
@[simp] theorem State.bump_drive (s : State) (id idx w : Nat) : (s.bump id idx w).drive = s.drive := rfl
@[simp] theorem State.bump_health (s : State) (id idx w : Nat) : (s.bump id idx w).health = s.health := rfl
@[simp] theorem State.bump_pump (s : State) (id idx w : Nat) : (s.bump id idx w).pump = s.pump := rfl
@[simp] theorem State.bump_fix (s : State) (id idx w : Nat) : (s.bump id idx w).fix = s.fix := rfl
@[simp] theorem State.bump_eth (s : State) (id idx w : Nat) : (s.bump id idx w).eth = s.eth := rfl
@[simp] theorem State.bump_dram (s : State) (id idx w : Nat) : (s.bump id idx w).dram = s.dram := rfl
@[simp] theorem State.bump_security (s : State) (id idx w : Nat) : (s.bump id idx w).security = s.security := rfl
@[simp] theorem State.bump_upd (s : State) (id idx w : Nat) : (s.bump id idx w).upd = s.upd := rfl
@[simp] theorem State.bump_perf (s : State) (id idx w : Nat) : (s.bump id idx w).perf = s.perf := rfl

@[simp] theorem State.bumpBy_now (s : State) (id idx n : Nat) : (s.bumpBy id idx n).now = s.now := rfl
@[simp] theorem State.bumpBy_phase (s : State) (id idx n : Nat) : (s.bumpBy id idx n).phase = s.phase := rfl
@[simp] theorem State.bumpBy_pending (s : State) (id idx n : Nat) : (s.bumpBy id idx n).pending = s.pending := rfl
@[simp] theorem State.bumpBy_free (s : State) (id idx n : Nat) : (s.bumpBy id idx n).free = s.free := rfl
@[simp] theorem State.bumpBy_outbox (s : State) (id idx n : Nat) : (s.bumpBy id idx n).outbox = s.outbox := rfl
@[simp] theorem State.bumpBy_blobs (s : State) (id idx n : Nat) : (s.bumpBy id idx n).blobs = s.blobs := rfl
@[simp] theorem State.bumpBy_start (s : State) (id idx n : Nat) : (s.bumpBy id idx n).start = s.start := rfl
@[simp] theorem State.bumpBy_od (s : State) (id idx n : Nat) : (s.bumpBy id idx n).od = s.od := rfl
@[simp] theorem State.bumpBy_ev (s : State) (id idx n : Nat) : (s.bumpBy id idx n).ev = s.ev := rfl
@[simp] theorem State.bumpBy_lane (s : State) (id idx n : Nat) : (s.bumpBy id idx n).lane = s.lane := rfl
@[simp] theorem State.bumpBy_time (s : State) (id idx n : Nat) : (s.bumpBy id idx n).time = s.time := rfl
@[simp] theorem State.bumpBy_therm (s : State) (id idx n : Nat) : (s.bumpBy id idx n).therm = s.therm := rfl
@[simp] theorem State.bumpBy_chain (s : State) (id idx n : Nat) : (s.bumpBy id idx n).chain = s.chain := rfl
@[simp] theorem State.bumpBy_red (s : State) (id idx n : Nat) : (s.bumpBy id idx n).red = s.red := rfl
@[simp] theorem State.bumpBy_src (s : State) (id idx n : Nat) : (s.bumpBy id idx n).src = s.src := rfl
@[simp] theorem State.bumpBy_comp (s : State) (id idx n : Nat) : (s.bumpBy id idx n).comp = s.comp := rfl
@[simp] theorem State.bumpBy_scan (s : State) (id idx n : Nat) : (s.bumpBy id idx n).scan = s.scan := rfl
@[simp] theorem State.bumpBy_store (s : State) (id idx n : Nat) : (s.bumpBy id idx n).store = s.store := rfl
@[simp] theorem State.bumpBy_tile (s : State) (id idx n : Nat) : (s.bumpBy id idx n).tile = s.tile := rfl
@[simp] theorem State.bumpBy_drive (s : State) (id idx n : Nat) : (s.bumpBy id idx n).drive = s.drive := rfl
@[simp] theorem State.bumpBy_health (s : State) (id idx n : Nat) : (s.bumpBy id idx n).health = s.health := rfl
@[simp] theorem State.bumpBy_pump (s : State) (id idx n : Nat) : (s.bumpBy id idx n).pump = s.pump := rfl
@[simp] theorem State.bumpBy_fix (s : State) (id idx n : Nat) : (s.bumpBy id idx n).fix = s.fix := rfl
@[simp] theorem State.bumpBy_eth (s : State) (id idx n : Nat) : (s.bumpBy id idx n).eth = s.eth := rfl
@[simp] theorem State.bumpBy_dram (s : State) (id idx n : Nat) : (s.bumpBy id idx n).dram = s.dram := rfl
@[simp] theorem State.bumpBy_security (s : State) (id idx n : Nat) : (s.bumpBy id idx n).security = s.security := rfl
@[simp] theorem State.bumpBy_upd (s : State) (id idx n : Nat) : (s.bumpBy id idx n).upd = s.upd := rfl
@[simp] theorem State.bumpBy_perf (s : State) (id idx n : Nat) : (s.bumpBy id idx n).perf = s.perf := rfl

@[simp] theorem State.setBlob_now (s : State) (id idx off : Nat) (bs : List Byte) : (s.setBlob id idx off bs).now = s.now := by rw [State.setBlob_eq]
@[simp] theorem State.setBlob_phase (s : State) (id idx off : Nat) (bs : List Byte) : (s.setBlob id idx off bs).phase = s.phase := by rw [State.setBlob_eq]
@[simp] theorem State.setBlob_pending (s : State) (id idx off : Nat) (bs : List Byte) : (s.setBlob id idx off bs).pending = s.pending := by rw [State.setBlob_eq]
@[simp] theorem State.setBlob_free (s : State) (id idx off : Nat) (bs : List Byte) : (s.setBlob id idx off bs).free = s.free := by rw [State.setBlob_eq]
@[simp] theorem State.setBlob_outbox (s : State) (id idx off : Nat) (bs : List Byte) : (s.setBlob id idx off bs).outbox = s.outbox := by rw [State.setBlob_eq]
@[simp] theorem State.setBlob_dict (s : State) (id idx off : Nat) (bs : List Byte) : (s.setBlob id idx off bs).dict = s.dict := by rw [State.setBlob_eq]
@[simp] theorem State.setBlob_start (s : State) (id idx off : Nat) (bs : List Byte) : (s.setBlob id idx off bs).start = s.start := by rw [State.setBlob_eq]
@[simp] theorem State.setBlob_od (s : State) (id idx off : Nat) (bs : List Byte) : (s.setBlob id idx off bs).od = s.od := by rw [State.setBlob_eq]
@[simp] theorem State.setBlob_ev (s : State) (id idx off : Nat) (bs : List Byte) : (s.setBlob id idx off bs).ev = s.ev := by rw [State.setBlob_eq]
@[simp] theorem State.setBlob_lane (s : State) (id idx off : Nat) (bs : List Byte) : (s.setBlob id idx off bs).lane = s.lane := by rw [State.setBlob_eq]
@[simp] theorem State.setBlob_time (s : State) (id idx off : Nat) (bs : List Byte) : (s.setBlob id idx off bs).time = s.time := by rw [State.setBlob_eq]
@[simp] theorem State.setBlob_therm (s : State) (id idx off : Nat) (bs : List Byte) : (s.setBlob id idx off bs).therm = s.therm := by rw [State.setBlob_eq]
@[simp] theorem State.setBlob_chain (s : State) (id idx off : Nat) (bs : List Byte) : (s.setBlob id idx off bs).chain = s.chain := by rw [State.setBlob_eq]
@[simp] theorem State.setBlob_red (s : State) (id idx off : Nat) (bs : List Byte) : (s.setBlob id idx off bs).red = s.red := by rw [State.setBlob_eq]
@[simp] theorem State.setBlob_src (s : State) (id idx off : Nat) (bs : List Byte) : (s.setBlob id idx off bs).src = s.src := by rw [State.setBlob_eq]
@[simp] theorem State.setBlob_comp (s : State) (id idx off : Nat) (bs : List Byte) : (s.setBlob id idx off bs).comp = s.comp := by rw [State.setBlob_eq]
@[simp] theorem State.setBlob_scan (s : State) (id idx off : Nat) (bs : List Byte) : (s.setBlob id idx off bs).scan = s.scan := by rw [State.setBlob_eq]
@[simp] theorem State.setBlob_store (s : State) (id idx off : Nat) (bs : List Byte) : (s.setBlob id idx off bs).store = s.store := by rw [State.setBlob_eq]
@[simp] theorem State.setBlob_tile (s : State) (id idx off : Nat) (bs : List Byte) : (s.setBlob id idx off bs).tile = s.tile := by rw [State.setBlob_eq]
@[simp] theorem State.setBlob_drive (s : State) (id idx off : Nat) (bs : List Byte) : (s.setBlob id idx off bs).drive = s.drive := by rw [State.setBlob_eq]
@[simp] theorem State.setBlob_health (s : State) (id idx off : Nat) (bs : List Byte) : (s.setBlob id idx off bs).health = s.health := by rw [State.setBlob_eq]
@[simp] theorem State.setBlob_pump (s : State) (id idx off : Nat) (bs : List Byte) : (s.setBlob id idx off bs).pump = s.pump := by rw [State.setBlob_eq]
@[simp] theorem State.setBlob_fix (s : State) (id idx off : Nat) (bs : List Byte) : (s.setBlob id idx off bs).fix = s.fix := by rw [State.setBlob_eq]
@[simp] theorem State.setBlob_eth (s : State) (id idx off : Nat) (bs : List Byte) : (s.setBlob id idx off bs).eth = s.eth := by rw [State.setBlob_eq]
@[simp] theorem State.setBlob_dram (s : State) (id idx off : Nat) (bs : List Byte) : (s.setBlob id idx off bs).dram = s.dram := by rw [State.setBlob_eq]
@[simp] theorem State.setBlob_security (s : State) (id idx off : Nat) (bs : List Byte) : (s.setBlob id idx off bs).security = s.security := by rw [State.setBlob_eq]
@[simp] theorem State.setBlob_upd (s : State) (id idx off : Nat) (bs : List Byte) : (s.setBlob id idx off bs).upd = s.upd := by rw [State.setBlob_eq]
@[simp] theorem State.setBlob_perf (s : State) (id idx off : Nat) (bs : List Byte) : (s.setBlob id idx off bs).perf = s.perf := by rw [State.setBlob_eq]

@[simp] theorem State.send_now (s : State) (o : Out) : (s.send o).now = s.now := rfl
@[simp] theorem State.send_phase (s : State) (o : Out) : (s.send o).phase = s.phase := rfl
@[simp] theorem State.send_pending (s : State) (o : Out) : (s.send o).pending = s.pending := rfl
@[simp] theorem State.send_free (s : State) (o : Out) : (s.send o).free = s.free := rfl
@[simp] theorem State.send_dict (s : State) (o : Out) : (s.send o).dict = s.dict := rfl
@[simp] theorem State.send_blobs (s : State) (o : Out) : (s.send o).blobs = s.blobs := rfl
@[simp] theorem State.send_start (s : State) (o : Out) : (s.send o).start = s.start := rfl
@[simp] theorem State.send_od (s : State) (o : Out) : (s.send o).od = s.od := rfl
@[simp] theorem State.send_ev (s : State) (o : Out) : (s.send o).ev = s.ev := rfl
@[simp] theorem State.send_lane (s : State) (o : Out) : (s.send o).lane = s.lane := rfl
@[simp] theorem State.send_time (s : State) (o : Out) : (s.send o).time = s.time := rfl
@[simp] theorem State.send_therm (s : State) (o : Out) : (s.send o).therm = s.therm := rfl
@[simp] theorem State.send_chain (s : State) (o : Out) : (s.send o).chain = s.chain := rfl
@[simp] theorem State.send_red (s : State) (o : Out) : (s.send o).red = s.red := rfl
@[simp] theorem State.send_src (s : State) (o : Out) : (s.send o).src = s.src := rfl
@[simp] theorem State.send_comp (s : State) (o : Out) : (s.send o).comp = s.comp := rfl
@[simp] theorem State.send_scan (s : State) (o : Out) : (s.send o).scan = s.scan := rfl
@[simp] theorem State.send_store (s : State) (o : Out) : (s.send o).store = s.store := rfl
@[simp] theorem State.send_tile (s : State) (o : Out) : (s.send o).tile = s.tile := rfl
@[simp] theorem State.send_drive (s : State) (o : Out) : (s.send o).drive = s.drive := rfl
@[simp] theorem State.send_health (s : State) (o : Out) : (s.send o).health = s.health := rfl
@[simp] theorem State.send_pump (s : State) (o : Out) : (s.send o).pump = s.pump := rfl
@[simp] theorem State.send_fix (s : State) (o : Out) : (s.send o).fix = s.fix := rfl
@[simp] theorem State.send_eth (s : State) (o : Out) : (s.send o).eth = s.eth := rfl
@[simp] theorem State.send_dram (s : State) (o : Out) : (s.send o).dram = s.dram := rfl
@[simp] theorem State.send_security (s : State) (o : Out) : (s.send o).security = s.security := rfl
@[simp] theorem State.send_upd (s : State) (o : Out) : (s.send o).upd = s.upd := rfl
@[simp] theorem State.send_perf (s : State) (o : Out) : (s.send o).perf = s.perf := rfl

@[simp] theorem State.takeFree_now (s : State) : (s.takeFree.2).now = s.now := rfl
@[simp] theorem State.takeFree_phase (s : State) : (s.takeFree.2).phase = s.phase := rfl
@[simp] theorem State.takeFree_pending (s : State) : (s.takeFree.2).pending = s.pending := rfl
@[simp] theorem State.takeFree_outbox (s : State) : (s.takeFree.2).outbox = s.outbox := rfl
@[simp] theorem State.takeFree_dict (s : State) : (s.takeFree.2).dict = s.dict := rfl
@[simp] theorem State.takeFree_blobs (s : State) : (s.takeFree.2).blobs = s.blobs := rfl
@[simp] theorem State.takeFree_start (s : State) : (s.takeFree.2).start = s.start := rfl
@[simp] theorem State.takeFree_od (s : State) : (s.takeFree.2).od = s.od := rfl
@[simp] theorem State.takeFree_ev (s : State) : (s.takeFree.2).ev = s.ev := rfl
@[simp] theorem State.takeFree_lane (s : State) : (s.takeFree.2).lane = s.lane := rfl
@[simp] theorem State.takeFree_time (s : State) : (s.takeFree.2).time = s.time := rfl
@[simp] theorem State.takeFree_therm (s : State) : (s.takeFree.2).therm = s.therm := rfl
@[simp] theorem State.takeFree_chain (s : State) : (s.takeFree.2).chain = s.chain := rfl
@[simp] theorem State.takeFree_red (s : State) : (s.takeFree.2).red = s.red := rfl
@[simp] theorem State.takeFree_src (s : State) : (s.takeFree.2).src = s.src := rfl
@[simp] theorem State.takeFree_comp (s : State) : (s.takeFree.2).comp = s.comp := rfl
@[simp] theorem State.takeFree_scan (s : State) : (s.takeFree.2).scan = s.scan := rfl
@[simp] theorem State.takeFree_store (s : State) : (s.takeFree.2).store = s.store := rfl
@[simp] theorem State.takeFree_tile (s : State) : (s.takeFree.2).tile = s.tile := rfl
@[simp] theorem State.takeFree_drive (s : State) : (s.takeFree.2).drive = s.drive := rfl
@[simp] theorem State.takeFree_health (s : State) : (s.takeFree.2).health = s.health := rfl
@[simp] theorem State.takeFree_pump (s : State) : (s.takeFree.2).pump = s.pump := rfl
@[simp] theorem State.takeFree_fix (s : State) : (s.takeFree.2).fix = s.fix := rfl
@[simp] theorem State.takeFree_eth (s : State) : (s.takeFree.2).eth = s.eth := rfl
@[simp] theorem State.takeFree_dram (s : State) : (s.takeFree.2).dram = s.dram := rfl
@[simp] theorem State.takeFree_security (s : State) : (s.takeFree.2).security = s.security := rfl
@[simp] theorem State.takeFree_upd (s : State) : (s.takeFree.2).upd = s.upd := rfl
@[simp] theorem State.takeFree_perf (s : State) : (s.takeFree.2).perf = s.perf := rfl

@[simp] theorem State.noteRaise_now (s : State) (e i : Nat) : (s.noteRaise e i).now = s.now := rfl
@[simp] theorem State.noteRaise_phase (s : State) (e i : Nat) : (s.noteRaise e i).phase = s.phase := rfl
@[simp] theorem State.noteRaise_pending (s : State) (e i : Nat) : (s.noteRaise e i).pending = s.pending := rfl
@[simp] theorem State.noteRaise_free (s : State) (e i : Nat) : (s.noteRaise e i).free = s.free := rfl
@[simp] theorem State.noteRaise_outbox (s : State) (e i : Nat) : (s.noteRaise e i).outbox = s.outbox := rfl
@[simp] theorem State.noteRaise_dict (s : State) (e i : Nat) : (s.noteRaise e i).dict = s.dict := rfl
@[simp] theorem State.noteRaise_blobs (s : State) (e i : Nat) : (s.noteRaise e i).blobs = s.blobs := rfl
@[simp] theorem State.noteRaise_start (s : State) (e i : Nat) : (s.noteRaise e i).start = s.start := rfl
@[simp] theorem State.noteRaise_od (s : State) (e i : Nat) : (s.noteRaise e i).od = s.od := rfl
@[simp] theorem State.noteRaise_lane (s : State) (e i : Nat) : (s.noteRaise e i).lane = s.lane := rfl
@[simp] theorem State.noteRaise_time (s : State) (e i : Nat) : (s.noteRaise e i).time = s.time := rfl
@[simp] theorem State.noteRaise_therm (s : State) (e i : Nat) : (s.noteRaise e i).therm = s.therm := rfl
@[simp] theorem State.noteRaise_chain (s : State) (e i : Nat) : (s.noteRaise e i).chain = s.chain := rfl
@[simp] theorem State.noteRaise_red (s : State) (e i : Nat) : (s.noteRaise e i).red = s.red := rfl
@[simp] theorem State.noteRaise_src (s : State) (e i : Nat) : (s.noteRaise e i).src = s.src := rfl
@[simp] theorem State.noteRaise_comp (s : State) (e i : Nat) : (s.noteRaise e i).comp = s.comp := rfl
@[simp] theorem State.noteRaise_scan (s : State) (e i : Nat) : (s.noteRaise e i).scan = s.scan := rfl
@[simp] theorem State.noteRaise_store (s : State) (e i : Nat) : (s.noteRaise e i).store = s.store := rfl
@[simp] theorem State.noteRaise_tile (s : State) (e i : Nat) : (s.noteRaise e i).tile = s.tile := rfl
@[simp] theorem State.noteRaise_drive (s : State) (e i : Nat) : (s.noteRaise e i).drive = s.drive := rfl
@[simp] theorem State.noteRaise_health (s : State) (e i : Nat) : (s.noteRaise e i).health = s.health := rfl
@[simp] theorem State.noteRaise_pump (s : State) (e i : Nat) : (s.noteRaise e i).pump = s.pump := rfl
@[simp] theorem State.noteRaise_fix (s : State) (e i : Nat) : (s.noteRaise e i).fix = s.fix := rfl
@[simp] theorem State.noteRaise_eth (s : State) (e i : Nat) : (s.noteRaise e i).eth = s.eth := rfl
@[simp] theorem State.noteRaise_dram (s : State) (e i : Nat) : (s.noteRaise e i).dram = s.dram := rfl
@[simp] theorem State.noteRaise_security (s : State) (e i : Nat) : (s.noteRaise e i).security = s.security := rfl
@[simp] theorem State.noteRaise_upd (s : State) (e i : Nat) : (s.noteRaise e i).upd = s.upd := rfl
@[simp] theorem State.noteRaise_perf (s : State) (e i : Nat) : (s.noteRaise e i).perf = s.perf := rfl

@[simp] theorem State.raise_now (s : State) (e i d c : Nat) : (s.raise e i d c).now = s.now := by rw [State.raise_eq]
@[simp] theorem State.raise_phase (s : State) (e i d c : Nat) : (s.raise e i d c).phase = s.phase := by rw [State.raise_eq]
@[simp] theorem State.raise_pending (s : State) (e i d c : Nat) : (s.raise e i d c).pending = s.pending := by rw [State.raise_eq]
@[simp] theorem State.raise_free (s : State) (e i d c : Nat) : (s.raise e i d c).free = s.free := by rw [State.raise_eq]
@[simp] theorem State.raise_outbox (s : State) (e i d c : Nat) : (s.raise e i d c).outbox = s.outbox := by rw [State.raise_eq]
@[simp] theorem State.raise_blobs (s : State) (e i d c : Nat) : (s.raise e i d c).blobs = s.blobs := by rw [State.raise_eq]
@[simp] theorem State.raise_start (s : State) (e i d c : Nat) : (s.raise e i d c).start = s.start := by rw [State.raise_eq]
@[simp] theorem State.raise_od (s : State) (e i d c : Nat) : (s.raise e i d c).od = s.od := by rw [State.raise_eq]
@[simp] theorem State.raise_lane (s : State) (e i d c : Nat) : (s.raise e i d c).lane = s.lane := by rw [State.raise_eq]
@[simp] theorem State.raise_time (s : State) (e i d c : Nat) : (s.raise e i d c).time = s.time := by rw [State.raise_eq]
@[simp] theorem State.raise_therm (s : State) (e i d c : Nat) : (s.raise e i d c).therm = s.therm := by rw [State.raise_eq]
@[simp] theorem State.raise_chain (s : State) (e i d c : Nat) : (s.raise e i d c).chain = s.chain := by rw [State.raise_eq]
@[simp] theorem State.raise_red (s : State) (e i d c : Nat) : (s.raise e i d c).red = s.red := by rw [State.raise_eq]
@[simp] theorem State.raise_src (s : State) (e i d c : Nat) : (s.raise e i d c).src = s.src := by rw [State.raise_eq]
@[simp] theorem State.raise_comp (s : State) (e i d c : Nat) : (s.raise e i d c).comp = s.comp := by rw [State.raise_eq]
@[simp] theorem State.raise_scan (s : State) (e i d c : Nat) : (s.raise e i d c).scan = s.scan := by rw [State.raise_eq]
@[simp] theorem State.raise_store (s : State) (e i d c : Nat) : (s.raise e i d c).store = s.store := by rw [State.raise_eq]
@[simp] theorem State.raise_tile (s : State) (e i d c : Nat) : (s.raise e i d c).tile = s.tile := by rw [State.raise_eq]
@[simp] theorem State.raise_drive (s : State) (e i d c : Nat) : (s.raise e i d c).drive = s.drive := by rw [State.raise_eq]
@[simp] theorem State.raise_health (s : State) (e i d c : Nat) : (s.raise e i d c).health = s.health := by rw [State.raise_eq]
@[simp] theorem State.raise_pump (s : State) (e i d c : Nat) : (s.raise e i d c).pump = s.pump := by rw [State.raise_eq]
@[simp] theorem State.raise_fix (s : State) (e i d c : Nat) : (s.raise e i d c).fix = s.fix := by rw [State.raise_eq]
@[simp] theorem State.raise_eth (s : State) (e i d c : Nat) : (s.raise e i d c).eth = s.eth := by rw [State.raise_eq]
@[simp] theorem State.raise_dram (s : State) (e i d c : Nat) : (s.raise e i d c).dram = s.dram := by rw [State.raise_eq]
@[simp] theorem State.raise_security (s : State) (e i d c : Nat) : (s.raise e i d c).security = s.security := by rw [State.raise_eq]
@[simp] theorem State.raise_upd (s : State) (e i d c : Nat) : (s.raise e i d c).upd = s.upd := by rw [State.raise_eq]
@[simp] theorem State.raise_perf (s : State) (e i d c : Nat) : (s.raise e i d c).perf = s.perf := by rw [State.raise_eq]

@[simp] theorem State.raiseIf_now (s : State) (b : Bool) (e i d : Nat) : (s.raiseIf b e i d).now = s.now := by rw [State.raiseIf_eq]
@[simp] theorem State.raiseIf_phase (s : State) (b : Bool) (e i d : Nat) : (s.raiseIf b e i d).phase = s.phase := by rw [State.raiseIf_eq]
@[simp] theorem State.raiseIf_pending (s : State) (b : Bool) (e i d : Nat) : (s.raiseIf b e i d).pending = s.pending := by rw [State.raiseIf_eq]
@[simp] theorem State.raiseIf_free (s : State) (b : Bool) (e i d : Nat) : (s.raiseIf b e i d).free = s.free := by rw [State.raiseIf_eq]
@[simp] theorem State.raiseIf_outbox (s : State) (b : Bool) (e i d : Nat) : (s.raiseIf b e i d).outbox = s.outbox := by rw [State.raiseIf_eq]
@[simp] theorem State.raiseIf_blobs (s : State) (b : Bool) (e i d : Nat) : (s.raiseIf b e i d).blobs = s.blobs := by rw [State.raiseIf_eq]
@[simp] theorem State.raiseIf_start (s : State) (b : Bool) (e i d : Nat) : (s.raiseIf b e i d).start = s.start := by rw [State.raiseIf_eq]
@[simp] theorem State.raiseIf_od (s : State) (b : Bool) (e i d : Nat) : (s.raiseIf b e i d).od = s.od := by rw [State.raiseIf_eq]
@[simp] theorem State.raiseIf_lane (s : State) (b : Bool) (e i d : Nat) : (s.raiseIf b e i d).lane = s.lane := by rw [State.raiseIf_eq]
@[simp] theorem State.raiseIf_time (s : State) (b : Bool) (e i d : Nat) : (s.raiseIf b e i d).time = s.time := by rw [State.raiseIf_eq]
@[simp] theorem State.raiseIf_therm (s : State) (b : Bool) (e i d : Nat) : (s.raiseIf b e i d).therm = s.therm := by rw [State.raiseIf_eq]
@[simp] theorem State.raiseIf_chain (s : State) (b : Bool) (e i d : Nat) : (s.raiseIf b e i d).chain = s.chain := by rw [State.raiseIf_eq]
@[simp] theorem State.raiseIf_red (s : State) (b : Bool) (e i d : Nat) : (s.raiseIf b e i d).red = s.red := by rw [State.raiseIf_eq]
@[simp] theorem State.raiseIf_src (s : State) (b : Bool) (e i d : Nat) : (s.raiseIf b e i d).src = s.src := by rw [State.raiseIf_eq]
@[simp] theorem State.raiseIf_comp (s : State) (b : Bool) (e i d : Nat) : (s.raiseIf b e i d).comp = s.comp := by rw [State.raiseIf_eq]
@[simp] theorem State.raiseIf_scan (s : State) (b : Bool) (e i d : Nat) : (s.raiseIf b e i d).scan = s.scan := by rw [State.raiseIf_eq]
@[simp] theorem State.raiseIf_store (s : State) (b : Bool) (e i d : Nat) : (s.raiseIf b e i d).store = s.store := by rw [State.raiseIf_eq]
@[simp] theorem State.raiseIf_tile (s : State) (b : Bool) (e i d : Nat) : (s.raiseIf b e i d).tile = s.tile := by rw [State.raiseIf_eq]
@[simp] theorem State.raiseIf_drive (s : State) (b : Bool) (e i d : Nat) : (s.raiseIf b e i d).drive = s.drive := by rw [State.raiseIf_eq]
@[simp] theorem State.raiseIf_health (s : State) (b : Bool) (e i d : Nat) : (s.raiseIf b e i d).health = s.health := by rw [State.raiseIf_eq]
@[simp] theorem State.raiseIf_pump (s : State) (b : Bool) (e i d : Nat) : (s.raiseIf b e i d).pump = s.pump := by rw [State.raiseIf_eq]
@[simp] theorem State.raiseIf_fix (s : State) (b : Bool) (e i d : Nat) : (s.raiseIf b e i d).fix = s.fix := by rw [State.raiseIf_eq]
@[simp] theorem State.raiseIf_eth (s : State) (b : Bool) (e i d : Nat) : (s.raiseIf b e i d).eth = s.eth := by rw [State.raiseIf_eq]
@[simp] theorem State.raiseIf_dram (s : State) (b : Bool) (e i d : Nat) : (s.raiseIf b e i d).dram = s.dram := by rw [State.raiseIf_eq]
@[simp] theorem State.raiseIf_security (s : State) (b : Bool) (e i d : Nat) : (s.raiseIf b e i d).security = s.security := by rw [State.raiseIf_eq]
@[simp] theorem State.raiseIf_upd (s : State) (b : Bool) (e i d : Nat) : (s.raiseIf b e i d).upd = s.upd := by rw [State.raiseIf_eq]
@[simp] theorem State.raiseIf_perf (s : State) (b : Bool) (e i d : Nat) : (s.raiseIf b e i d).perf = s.perf := by rw [State.raiseIf_eq]

@[simp] theorem State.raiseLimited_now (s : State) (e i n d : Nat) : (s.raiseLimited e i n d).now = s.now := by rw [State.raiseLimited_eq]
@[simp] theorem State.raiseLimited_phase (s : State) (e i n d : Nat) : (s.raiseLimited e i n d).phase = s.phase := by rw [State.raiseLimited_eq]
@[simp] theorem State.raiseLimited_pending (s : State) (e i n d : Nat) : (s.raiseLimited e i n d).pending = s.pending := by rw [State.raiseLimited_eq]
@[simp] theorem State.raiseLimited_free (s : State) (e i n d : Nat) : (s.raiseLimited e i n d).free = s.free := by rw [State.raiseLimited_eq]
@[simp] theorem State.raiseLimited_outbox (s : State) (e i n d : Nat) : (s.raiseLimited e i n d).outbox = s.outbox := by rw [State.raiseLimited_eq]
@[simp] theorem State.raiseLimited_blobs (s : State) (e i n d : Nat) : (s.raiseLimited e i n d).blobs = s.blobs := by rw [State.raiseLimited_eq]
@[simp] theorem State.raiseLimited_start (s : State) (e i n d : Nat) : (s.raiseLimited e i n d).start = s.start := by rw [State.raiseLimited_eq]
@[simp] theorem State.raiseLimited_od (s : State) (e i n d : Nat) : (s.raiseLimited e i n d).od = s.od := by rw [State.raiseLimited_eq]
@[simp] theorem State.raiseLimited_lane (s : State) (e i n d : Nat) : (s.raiseLimited e i n d).lane = s.lane := by rw [State.raiseLimited_eq]
@[simp] theorem State.raiseLimited_time (s : State) (e i n d : Nat) : (s.raiseLimited e i n d).time = s.time := by rw [State.raiseLimited_eq]
@[simp] theorem State.raiseLimited_therm (s : State) (e i n d : Nat) : (s.raiseLimited e i n d).therm = s.therm := by rw [State.raiseLimited_eq]
@[simp] theorem State.raiseLimited_chain (s : State) (e i n d : Nat) : (s.raiseLimited e i n d).chain = s.chain := by rw [State.raiseLimited_eq]
@[simp] theorem State.raiseLimited_red (s : State) (e i n d : Nat) : (s.raiseLimited e i n d).red = s.red := by rw [State.raiseLimited_eq]
@[simp] theorem State.raiseLimited_src (s : State) (e i n d : Nat) : (s.raiseLimited e i n d).src = s.src := by rw [State.raiseLimited_eq]
@[simp] theorem State.raiseLimited_comp (s : State) (e i n d : Nat) : (s.raiseLimited e i n d).comp = s.comp := by rw [State.raiseLimited_eq]
@[simp] theorem State.raiseLimited_scan (s : State) (e i n d : Nat) : (s.raiseLimited e i n d).scan = s.scan := by rw [State.raiseLimited_eq]
@[simp] theorem State.raiseLimited_store (s : State) (e i n d : Nat) : (s.raiseLimited e i n d).store = s.store := by rw [State.raiseLimited_eq]
@[simp] theorem State.raiseLimited_tile (s : State) (e i n d : Nat) : (s.raiseLimited e i n d).tile = s.tile := by rw [State.raiseLimited_eq]
@[simp] theorem State.raiseLimited_drive (s : State) (e i n d : Nat) : (s.raiseLimited e i n d).drive = s.drive := by rw [State.raiseLimited_eq]
@[simp] theorem State.raiseLimited_health (s : State) (e i n d : Nat) : (s.raiseLimited e i n d).health = s.health := by rw [State.raiseLimited_eq]
@[simp] theorem State.raiseLimited_pump (s : State) (e i n d : Nat) : (s.raiseLimited e i n d).pump = s.pump := by rw [State.raiseLimited_eq]
@[simp] theorem State.raiseLimited_fix (s : State) (e i n d : Nat) : (s.raiseLimited e i n d).fix = s.fix := by rw [State.raiseLimited_eq]
@[simp] theorem State.raiseLimited_eth (s : State) (e i n d : Nat) : (s.raiseLimited e i n d).eth = s.eth := by rw [State.raiseLimited_eq]
@[simp] theorem State.raiseLimited_dram (s : State) (e i n d : Nat) : (s.raiseLimited e i n d).dram = s.dram := by rw [State.raiseLimited_eq]
@[simp] theorem State.raiseLimited_security (s : State) (e i n d : Nat) : (s.raiseLimited e i n d).security = s.security := by rw [State.raiseLimited_eq]
@[simp] theorem State.raiseLimited_upd (s : State) (e i n d : Nat) : (s.raiseLimited e i n d).upd = s.upd := by rw [State.raiseLimited_eq]
@[simp] theorem State.raiseLimited_perf (s : State) (e i n d : Nat) : (s.raiseLimited e i n d).perf = s.perf := by rw [State.raiseLimited_eq]

@[simp] theorem State.raiseTick_now (s : State) (e i d : Nat) : (s.raiseTick e i d).now = s.now := by rw [State.raiseTick_eq]
@[simp] theorem State.raiseTick_phase (s : State) (e i d : Nat) : (s.raiseTick e i d).phase = s.phase := by rw [State.raiseTick_eq]
@[simp] theorem State.raiseTick_pending (s : State) (e i d : Nat) : (s.raiseTick e i d).pending = s.pending := by rw [State.raiseTick_eq]
@[simp] theorem State.raiseTick_free (s : State) (e i d : Nat) : (s.raiseTick e i d).free = s.free := by rw [State.raiseTick_eq]
@[simp] theorem State.raiseTick_outbox (s : State) (e i d : Nat) : (s.raiseTick e i d).outbox = s.outbox := by rw [State.raiseTick_eq]
@[simp] theorem State.raiseTick_blobs (s : State) (e i d : Nat) : (s.raiseTick e i d).blobs = s.blobs := by rw [State.raiseTick_eq]
@[simp] theorem State.raiseTick_start (s : State) (e i d : Nat) : (s.raiseTick e i d).start = s.start := by rw [State.raiseTick_eq]
@[simp] theorem State.raiseTick_od (s : State) (e i d : Nat) : (s.raiseTick e i d).od = s.od := by rw [State.raiseTick_eq]
@[simp] theorem State.raiseTick_lane (s : State) (e i d : Nat) : (s.raiseTick e i d).lane = s.lane := by rw [State.raiseTick_eq]
@[simp] theorem State.raiseTick_time (s : State) (e i d : Nat) : (s.raiseTick e i d).time = s.time := by rw [State.raiseTick_eq]
@[simp] theorem State.raiseTick_therm (s : State) (e i d : Nat) : (s.raiseTick e i d).therm = s.therm := by rw [State.raiseTick_eq]
@[simp] theorem State.raiseTick_chain (s : State) (e i d : Nat) : (s.raiseTick e i d).chain = s.chain := by rw [State.raiseTick_eq]
@[simp] theorem State.raiseTick_red (s : State) (e i d : Nat) : (s.raiseTick e i d).red = s.red := by rw [State.raiseTick_eq]
@[simp] theorem State.raiseTick_src (s : State) (e i d : Nat) : (s.raiseTick e i d).src = s.src := by rw [State.raiseTick_eq]
@[simp] theorem State.raiseTick_comp (s : State) (e i d : Nat) : (s.raiseTick e i d).comp = s.comp := by rw [State.raiseTick_eq]
@[simp] theorem State.raiseTick_scan (s : State) (e i d : Nat) : (s.raiseTick e i d).scan = s.scan := by rw [State.raiseTick_eq]
@[simp] theorem State.raiseTick_store (s : State) (e i d : Nat) : (s.raiseTick e i d).store = s.store := by rw [State.raiseTick_eq]
@[simp] theorem State.raiseTick_tile (s : State) (e i d : Nat) : (s.raiseTick e i d).tile = s.tile := by rw [State.raiseTick_eq]
@[simp] theorem State.raiseTick_drive (s : State) (e i d : Nat) : (s.raiseTick e i d).drive = s.drive := by rw [State.raiseTick_eq]
@[simp] theorem State.raiseTick_health (s : State) (e i d : Nat) : (s.raiseTick e i d).health = s.health := by rw [State.raiseTick_eq]
@[simp] theorem State.raiseTick_pump (s : State) (e i d : Nat) : (s.raiseTick e i d).pump = s.pump := by rw [State.raiseTick_eq]
@[simp] theorem State.raiseTick_fix (s : State) (e i d : Nat) : (s.raiseTick e i d).fix = s.fix := by rw [State.raiseTick_eq]
@[simp] theorem State.raiseTick_eth (s : State) (e i d : Nat) : (s.raiseTick e i d).eth = s.eth := by rw [State.raiseTick_eq]
@[simp] theorem State.raiseTick_dram (s : State) (e i d : Nat) : (s.raiseTick e i d).dram = s.dram := by rw [State.raiseTick_eq]
@[simp] theorem State.raiseTick_security (s : State) (e i d : Nat) : (s.raiseTick e i d).security = s.security := by rw [State.raiseTick_eq]
@[simp] theorem State.raiseTick_upd (s : State) (e i d : Nat) : (s.raiseTick e i d).upd = s.upd := by rw [State.raiseTick_eq]
@[simp] theorem State.raiseTick_perf (s : State) (e i d : Nat) : (s.raiseTick e i d).perf = s.perf := by rw [State.raiseTick_eq]

@[simp] theorem State.count_now (s : State) (c n : Nat) : (s.count c n).now = s.now := by rw [State.count_eq]
@[simp] theorem State.count_phase (s : State) (c n : Nat) : (s.count c n).phase = s.phase := by rw [State.count_eq]
@[simp] theorem State.count_pending (s : State) (c n : Nat) : (s.count c n).pending = s.pending := by rw [State.count_eq]
@[simp] theorem State.count_free (s : State) (c n : Nat) : (s.count c n).free = s.free := by rw [State.count_eq]
@[simp] theorem State.count_outbox (s : State) (c n : Nat) : (s.count c n).outbox = s.outbox := by rw [State.count_eq]
@[simp] theorem State.count_dict (s : State) (c n : Nat) : (s.count c n).dict = s.dict := by rw [State.count_eq]
@[simp] theorem State.count_blobs (s : State) (c n : Nat) : (s.count c n).blobs = s.blobs := by rw [State.count_eq]
@[simp] theorem State.count_start (s : State) (c n : Nat) : (s.count c n).start = s.start := by rw [State.count_eq]
@[simp] theorem State.count_od (s : State) (c n : Nat) : (s.count c n).od = s.od := by rw [State.count_eq]
@[simp] theorem State.count_ev (s : State) (c n : Nat) : (s.count c n).ev = s.ev := by rw [State.count_eq]
@[simp] theorem State.count_lane (s : State) (c n : Nat) : (s.count c n).lane = s.lane := by rw [State.count_eq]
@[simp] theorem State.count_time (s : State) (c n : Nat) : (s.count c n).time = s.time := by rw [State.count_eq]
@[simp] theorem State.count_therm (s : State) (c n : Nat) : (s.count c n).therm = s.therm := by rw [State.count_eq]
@[simp] theorem State.count_chain (s : State) (c n : Nat) : (s.count c n).chain = s.chain := by rw [State.count_eq]
@[simp] theorem State.count_red (s : State) (c n : Nat) : (s.count c n).red = s.red := by rw [State.count_eq]
@[simp] theorem State.count_src (s : State) (c n : Nat) : (s.count c n).src = s.src := by rw [State.count_eq]
@[simp] theorem State.count_comp (s : State) (c n : Nat) : (s.count c n).comp = s.comp := by rw [State.count_eq]
@[simp] theorem State.count_scan (s : State) (c n : Nat) : (s.count c n).scan = s.scan := by rw [State.count_eq]
@[simp] theorem State.count_store (s : State) (c n : Nat) : (s.count c n).store = s.store := by rw [State.count_eq]
@[simp] theorem State.count_tile (s : State) (c n : Nat) : (s.count c n).tile = s.tile := by rw [State.count_eq]
@[simp] theorem State.count_drive (s : State) (c n : Nat) : (s.count c n).drive = s.drive := by rw [State.count_eq]
@[simp] theorem State.count_health (s : State) (c n : Nat) : (s.count c n).health = s.health := by rw [State.count_eq]
@[simp] theorem State.count_pump (s : State) (c n : Nat) : (s.count c n).pump = s.pump := by rw [State.count_eq]
@[simp] theorem State.count_fix (s : State) (c n : Nat) : (s.count c n).fix = s.fix := by rw [State.count_eq]
@[simp] theorem State.count_eth (s : State) (c n : Nat) : (s.count c n).eth = s.eth := by rw [State.count_eq]
@[simp] theorem State.count_dram (s : State) (c n : Nat) : (s.count c n).dram = s.dram := by rw [State.count_eq]
@[simp] theorem State.count_security (s : State) (c n : Nat) : (s.count c n).security = s.security := by rw [State.count_eq]
@[simp] theorem State.count_upd (s : State) (c n : Nat) : (s.count c n).upd = s.upd := by rw [State.count_eq]

@[simp] theorem State.keepReady_now (s : State) (m : Nat) : (s.keepReady m).now = s.now := by rw [State.keepReady_eq]
@[simp] theorem State.keepReady_phase (s : State) (m : Nat) : (s.keepReady m).phase = s.phase := by rw [State.keepReady_eq]
@[simp] theorem State.keepReady_pending (s : State) (m : Nat) : (s.keepReady m).pending = s.pending := by rw [State.keepReady_eq]
@[simp] theorem State.keepReady_free (s : State) (m : Nat) : (s.keepReady m).free = s.free := by rw [State.keepReady_eq]
@[simp] theorem State.keepReady_outbox (s : State) (m : Nat) : (s.keepReady m).outbox = s.outbox := by rw [State.keepReady_eq]
@[simp] theorem State.keepReady_blobs (s : State) (m : Nat) : (s.keepReady m).blobs = s.blobs := by rw [State.keepReady_eq]
@[simp] theorem State.keepReady_od (s : State) (m : Nat) : (s.keepReady m).od = s.od := by rw [State.keepReady_eq]
@[simp] theorem State.keepReady_lane (s : State) (m : Nat) : (s.keepReady m).lane = s.lane := by rw [State.keepReady_eq]
@[simp] theorem State.keepReady_time (s : State) (m : Nat) : (s.keepReady m).time = s.time := by rw [State.keepReady_eq]
@[simp] theorem State.keepReady_therm (s : State) (m : Nat) : (s.keepReady m).therm = s.therm := by rw [State.keepReady_eq]
@[simp] theorem State.keepReady_chain (s : State) (m : Nat) : (s.keepReady m).chain = s.chain := by rw [State.keepReady_eq]
@[simp] theorem State.keepReady_red (s : State) (m : Nat) : (s.keepReady m).red = s.red := by rw [State.keepReady_eq]
@[simp] theorem State.keepReady_src (s : State) (m : Nat) : (s.keepReady m).src = s.src := by rw [State.keepReady_eq]
@[simp] theorem State.keepReady_comp (s : State) (m : Nat) : (s.keepReady m).comp = s.comp := by rw [State.keepReady_eq]
@[simp] theorem State.keepReady_scan (s : State) (m : Nat) : (s.keepReady m).scan = s.scan := by rw [State.keepReady_eq]
@[simp] theorem State.keepReady_store (s : State) (m : Nat) : (s.keepReady m).store = s.store := by rw [State.keepReady_eq]
@[simp] theorem State.keepReady_tile (s : State) (m : Nat) : (s.keepReady m).tile = s.tile := by rw [State.keepReady_eq]
@[simp] theorem State.keepReady_drive (s : State) (m : Nat) : (s.keepReady m).drive = s.drive := by rw [State.keepReady_eq]
@[simp] theorem State.keepReady_health (s : State) (m : Nat) : (s.keepReady m).health = s.health := by rw [State.keepReady_eq]
@[simp] theorem State.keepReady_pump (s : State) (m : Nat) : (s.keepReady m).pump = s.pump := by rw [State.keepReady_eq]
@[simp] theorem State.keepReady_fix (s : State) (m : Nat) : (s.keepReady m).fix = s.fix := by rw [State.keepReady_eq]
@[simp] theorem State.keepReady_eth (s : State) (m : Nat) : (s.keepReady m).eth = s.eth := by rw [State.keepReady_eq]
@[simp] theorem State.keepReady_dram (s : State) (m : Nat) : (s.keepReady m).dram = s.dram := by rw [State.keepReady_eq]
@[simp] theorem State.keepReady_security (s : State) (m : Nat) : (s.keepReady m).security = s.security := by rw [State.keepReady_eq]
@[simp] theorem State.keepReady_upd (s : State) (m : Nat) : (s.keepReady m).upd = s.upd := by rw [State.keepReady_eq]
@[simp] theorem State.keepReady_perf (s : State) (m : Nat) : (s.keepReady m).perf = s.perf := by rw [State.keepReady_eq]

@[simp] theorem State.setReady_now (s : State) (i : Nat) : (s.setReady i).now = s.now := by rw [State.setReady_eq]
@[simp] theorem State.setReady_phase (s : State) (i : Nat) : (s.setReady i).phase = s.phase := by rw [State.setReady_eq]
@[simp] theorem State.setReady_pending (s : State) (i : Nat) : (s.setReady i).pending = s.pending := by rw [State.setReady_eq]
@[simp] theorem State.setReady_free (s : State) (i : Nat) : (s.setReady i).free = s.free := by rw [State.setReady_eq]
@[simp] theorem State.setReady_outbox (s : State) (i : Nat) : (s.setReady i).outbox = s.outbox := by rw [State.setReady_eq]
@[simp] theorem State.setReady_blobs (s : State) (i : Nat) : (s.setReady i).blobs = s.blobs := by rw [State.setReady_eq]
@[simp] theorem State.setReady_od (s : State) (i : Nat) : (s.setReady i).od = s.od := by rw [State.setReady_eq]
@[simp] theorem State.setReady_ev (s : State) (i : Nat) : (s.setReady i).ev = s.ev := by rw [State.setReady_eq]
@[simp] theorem State.setReady_lane (s : State) (i : Nat) : (s.setReady i).lane = s.lane := by rw [State.setReady_eq]
@[simp] theorem State.setReady_time (s : State) (i : Nat) : (s.setReady i).time = s.time := by rw [State.setReady_eq]
@[simp] theorem State.setReady_therm (s : State) (i : Nat) : (s.setReady i).therm = s.therm := by rw [State.setReady_eq]
@[simp] theorem State.setReady_chain (s : State) (i : Nat) : (s.setReady i).chain = s.chain := by rw [State.setReady_eq]
@[simp] theorem State.setReady_red (s : State) (i : Nat) : (s.setReady i).red = s.red := by rw [State.setReady_eq]
@[simp] theorem State.setReady_src (s : State) (i : Nat) : (s.setReady i).src = s.src := by rw [State.setReady_eq]
@[simp] theorem State.setReady_comp (s : State) (i : Nat) : (s.setReady i).comp = s.comp := by rw [State.setReady_eq]
@[simp] theorem State.setReady_scan (s : State) (i : Nat) : (s.setReady i).scan = s.scan := by rw [State.setReady_eq]
@[simp] theorem State.setReady_store (s : State) (i : Nat) : (s.setReady i).store = s.store := by rw [State.setReady_eq]
@[simp] theorem State.setReady_tile (s : State) (i : Nat) : (s.setReady i).tile = s.tile := by rw [State.setReady_eq]
@[simp] theorem State.setReady_drive (s : State) (i : Nat) : (s.setReady i).drive = s.drive := by rw [State.setReady_eq]
@[simp] theorem State.setReady_health (s : State) (i : Nat) : (s.setReady i).health = s.health := by rw [State.setReady_eq]
@[simp] theorem State.setReady_pump (s : State) (i : Nat) : (s.setReady i).pump = s.pump := by rw [State.setReady_eq]
@[simp] theorem State.setReady_fix (s : State) (i : Nat) : (s.setReady i).fix = s.fix := by rw [State.setReady_eq]
@[simp] theorem State.setReady_eth (s : State) (i : Nat) : (s.setReady i).eth = s.eth := by rw [State.setReady_eq]
@[simp] theorem State.setReady_dram (s : State) (i : Nat) : (s.setReady i).dram = s.dram := by rw [State.setReady_eq]
@[simp] theorem State.setReady_security (s : State) (i : Nat) : (s.setReady i).security = s.security := by rw [State.setReady_eq]
@[simp] theorem State.setReady_upd (s : State) (i : Nat) : (s.setReady i).upd = s.upd := by rw [State.setReady_eq]
@[simp] theorem State.setReady_perf (s : State) (i : Nat) : (s.setReady i).perf = s.perf := by rw [State.setReady_eq]

end Sys2Proof.Machine
end

