-- ==== Sys2Proof/Laws/Ops.lean ====
section
/-! SUPPORT. What the shared operations do: parameters and blobs read back, raised events counted and queued, ready bits. -/

namespace Sys2Proof.Machine

/-! Parameters -/

theorem State.isTile_of_start {s t : State} (h : t.start = s.start) : t.isTile = s.isTile := by
  simp [State.isTile, h]

@[simp] theorem State.setPar_isTile (s : State) (id idx v : Nat) : (s.setPar id idx v).isTile = s.isTile := rfl
@[simp] theorem State.setPar_sideB (s : State) (id idx v : Nat) : (s.setPar id idx v).sideB = s.sideB := rfl

/-- A scalar element written reads back. -/
@[simp] theorem State.par_setPar (s : State) (id idx v : Nat) : (s.setPar id idx v).par id idx = v := by
  simp [State.par, State.setPar, State.isTile, State.sideB]

/-- Writing one scalar element leaves every other alone. -/
theorem State.par_setPar_ne (s : State) {id idx id' idx' : Nat} (v : Nat) (h : pkey id' idx' ≠ pkey id idx) :
    (s.setPar id idx v).par id' idx' = s.par id' idx' := by
  simp only [State.par, State.setPar_isTile, State.setPar_sideB]
  exact SMap.get_set_ne _ _ _ v h

/-- Two parameters never share a key while their indexes fit 16 bits. -/
theorem pkey_ne {id idx id' idx' : Nat} (h : id' ≠ id) (hi : idx < 65536) (hi' : idx' < 65536) :
    pkey id' idx' ≠ pkey id idx := by
  unfold pkey
  omega

/-- Writing a parameter leaves every other parameter alone. -/
theorem State.par_setPar_other (s : State) {id idx id' idx' : Nat} (v : Nat) (h : id' ≠ id) (hi : idx < 65536)
    (hi' : idx' < 65536) : (s.setPar id idx v).par id' idx' = s.par id' idx' :=
  s.par_setPar_ne v (pkey_ne h hi hi')

/-- A counter that advances reads one more, modulo its width. -/
theorem State.par_bump (s : State) (id idx w : Nat) : (s.bump id idx w).par id idx = (s.par id idx + 1) % 2 ^ w := by
  simp [State.bump]

theorem State.par_bump_other (s : State) {id idx w id' idx' : Nat} (h : id' ≠ id) (hi : idx < 65536)
    (hi' : idx' < 65536) : (s.bump id idx w).par id' idx' = s.par id' idx' :=
  s.par_setPar_other _ h hi hi'

/-- A parameter reads alike in two states with the same table and the same option record and role. -/
theorem State.par_congr {s t : State} (hd : t.dict = s.dict) (hs : t.start = s.start) (id idx : Nat) :
    t.par id idx = s.par id idx := by
  simp [State.par, State.isTile, State.sideB, hd, hs]

/-! Blobs -/

theorem State.blobByte_setBlob_ne (s : State) {id idx off id' idx' off' : Nat} (bs : List Byte)
    (h : ∀ i < bs.length, bkey id' idx' off' ≠ bkey id idx (off + i)) :
    (s.setBlob id idx off bs).blobByte id' idx' off' = s.blobByte id' idx' off' := by
  induction bs generalizing s off with
  | nil => rfl
  | cons b bs ih =>
    rw [State.setBlob, ih]
    · exact SMap.get_set_ne _ _ _ _ (h 0 (by simp))
    · intro i hi
      have := h (i + 1) (by simpa using hi)
      rwa [show off + 1 + i = off + (i + 1) by omega]

/-- Bytes written read back. -/
theorem State.blobByte_setBlob (s : State) (id idx off : Nat) (bs : List Byte) (i : Nat) (hi : i < bs.length) :
    (s.setBlob id idx off bs).blobByte id idx (off + i) = (bs[i]).toNat := by
  induction bs generalizing s off i with
  | nil => simp at hi
  | cons b bs ih =>
    rw [State.setBlob]
    cases i with
    | zero =>
      rw [State.blobByte_setBlob_ne]
      · simp [State.blobByte]
      · intro j _
        unfold bkey
        omega
    | succ i =>
      have := ih { s with blobs := SMap.set (blobDflt id idx off) s.blobs (bkey id idx off) b.toNat } (off + 1) i
        (by simpa using hi)
      rw [show off + 1 + i = off + (i + 1) by omega] at this
      simpa using this

/-! Events -/

theorem State.enqueue_dict (s : State) (r : Raise) : (s.enqueue r).1.dict = s.dict := by
  rw [State.enqueue_eq]

theorem State.par_enqueue (s : State) (r : Raise) (id idx : Nat) : (s.enqueue r).1.par id idx = s.par id idx :=
  State.par_congr (State.enqueue_dict s r) (by rw [State.enqueue_eq]) id idx

/-- Raising an event changes no parameter but its counters. -/
theorem State.par_raiseRec (s : State) (r : Raise) {id idx : Nat} (h : id ≠ P.EVENT_COUNT) (hi : idx < 65536)
    (he : r.ev < 65536) : (s.raiseRec r).par id idx = s.par id idx := by
  have hb : (s.bump P.EVENT_COUNT r.ev).par id idx = s.par id idx := State.par_bump_other s h he hi
  have ho : E.EVENT_OVERFLOW < 65536 := by decide
  have hq := State.par_enqueue (s.bump P.EVENT_COUNT r.ev) r id idx
  simp only [State.raiseRec]
  split
  · rename_i t e
    rw [e] at hq
    exact hq.trans hb
  · rename_i t e
    rw [e] at hq
    have ht : t.par id idx = s.par id idx := hq.trans hb
    split
    · rw [State.par_enqueue]
      exact (State.par_bump_other t h ho hi).trans ht
    · exact (State.par_bump_other t h ho hi).trans ht

/-- Raising an event changes no parameter but its counters. -/
@[simp] theorem State.par_raise (s : State) (e i d c : Nat) {id idx : Nat} (h : id ≠ P.EVENT_COUNT) (hi : idx < 65536)
    (he : e < 65536) : (s.raise e i d c).par id idx = s.par id idx :=
  State.par_raiseRec s _ h hi he

@[simp] theorem State.par_raiseIf (s : State) (b : Bool) (e i d : Nat) {id idx : Nat} (h : id ≠ P.EVENT_COUNT)
    (hi : idx < 65536) (he : e < 65536) : (s.raiseIf b e i d).par id idx = s.par id idx := by
  cases b with
  | true => exact State.par_raise s e i d 0 h hi he
  | false => rfl

@[simp] theorem State.par_raiseLimited (s : State) (e i n d : Nat) {id idx : Nat} (h : id ≠ P.EVENT_COUNT)
    (hi : idx < 65536) (he : e < 65536) : (s.raiseLimited e i n d).par id idx = s.par id idx := by
  unfold State.raiseLimited
  split
  · exact State.par_raise s e i d 0 h hi he
  · exact State.par_bump_other s h he hi

/-- Before low-water a raise is held in the order raised (R67). -/
theorem State.raise_held (s : State) (e i d c : Nat) (h : s.start.lowWater = false) :
    (s.raise e i d c).ev = { s.ev with held := s.ev.held ++ [s.mkRaise e i d c] } := by
  simp [State.raise, State.raiseRec, State.enqueue, h]

/-- From low-water on, a raise joins its region's collector while that has room (R511). -/
theorem State.raise_queued (s : State) (e i d c : Nat) (h : s.start.lowWater = true)
    (hq : (SMap.get [] s.ev.collectors (evRegion e)).length < 64) :
    (s.raise e i d c).ev =
      { s.ev with collectors := SMap.set [] s.ev.collectors (evRegion e)
                    (SMap.get [] s.ev.collectors (evRegion e) ++ [s.mkRaise e i d c]) } := by
  simp [State.raise, State.raiseRec, State.enqueue, h, State.mkRaise, hq]

/-! Loops -/

/-- A loop keeps what each of its turns keeps. -/
theorem State.each_keeps {α β : Type} (g : State → β) (s : State) (l : List α) (f : State → α → State)
    (h : ∀ s x, g (f s x) = g s) : g (s.each l f) = g s := by
  unfold State.each
  induction l generalizing s with
  | nil => rfl
  | cons x l ih =>
    rw [List.foldl_cons, ih, h]

/-- A fold keeps what each of its turns keeps. -/
theorem State.foldl_keeps {α β : Type} (g : State → β) (s : State) (l : List α) (f : State → α → State)
    (h : ∀ s x, g (f s x) = g s) : g (l.foldl f s) = g s := State.each_keeps g s l f h

/-- A fold over any carrier keeps what each of its turns keeps. -/
theorem fold_keeps {σ α β : Type} (g : σ → β) (s : σ) (l : List α) (f : σ → α → σ) (h : ∀ s x, g (f s x) = g s) :
    g (l.foldl f s) = g s := by
  induction l generalizing s with
  | nil => rfl
  | cons x l ih =>
    rw [List.foldl_cons, ih, h]

/-- A loop keeps an invariant that each of its turns keeps. -/
theorem State.each_inv {α : Type} (p : State → Prop) (s : State) (l : List α) (f : State → α → State) (hs : p s)
    (h : ∀ s x, p s → p (f s x)) : p (s.each l f) := by
  unfold State.each
  induction l generalizing s with
  | nil => exact hs
  | cons x l ih => exact ih _ (h s x hs)

/-! Ready bits -/

/-- A ready bit that its role runs, whose prerequisites are set, rises (R78). -/
theorem State.setReady_ready (s : State) (i : Nat) (h0 : s.rdy i = false)
    (hr : (roleBits s.start.role s.paired).contains i = true) (hp : (prereqs s.isHead i).all s.rdy = true) :
    (s.setReady i).start.ready = s.start.ready + 2 ^ i := by
  unfold State.setReady
  rw [if_neg (by simp only [h0, hr, hp]; decide)]
  rfl

end Sys2Proof.Machine
end

