-- ==== Sys2Proof/Laws/FrameOps.lean ====
section
/-! SUPPORT. The queue, the time and the security state pass unchanged through the operations of `Ops.lean`. -/

set_option linter.all false
set_option linter.unusedTactic false
set_option linter.unreachableTactic false
set_option linter.unusedSimpArgs false

namespace Sys2Proof.Machine

/-- What no command but a few touches: the queue, the time and the security state. -/
def State.fixed (s : State) : List Instr × Nat × PartSec := (s.pending, s.now, s.security)

theorem State.fixed_fold (s : State) : (s.pending, s.now, s.security) = s.fixed := by cases s; rfl


theorem State.fixed_mk xnow xphase xpending xfree xoutbox xdict xblobs xstart xod xev xlane xtime xtherm xchain xred xsrc xcomp xscan xstore xtile xdrive xhealth xpump xfix xeth xdram xsecurity xupd xperf :
    (State.mk xnow xphase xpending xfree xoutbox xdict xblobs xstart xod xev xlane xtime xtherm xchain xred xsrc xcomp xscan xstore xtile xdrive xhealth xpump xfix xeth xdram xsecurity xupd xperf).fixed = (xpending, xnow, xsecurity) := by cases xsecurity; rfl

theorem State.fixed_ite (c : Prop) [Decidable c] (a b : State) :
    (if c then a else b).fixed = if c then a.fixed else b.fixed := apply_ite State.fixed c a b

theorem State.fixed_phase (t : State) x : (({ t with phase := x }) : State).fixed = t.fixed := by cases t; rfl
theorem State.fixed_free (t : State) x : (({ t with free := x }) : State).fixed = t.fixed := by cases t; rfl
theorem State.fixed_outbox (t : State) x : (({ t with outbox := x }) : State).fixed = t.fixed := by cases t; rfl
theorem State.fixed_dict (t : State) x : (({ t with dict := x }) : State).fixed = t.fixed := by cases t; rfl
theorem State.fixed_blobs (t : State) x : (({ t with blobs := x }) : State).fixed = t.fixed := by cases t; rfl
theorem State.fixed_start (t : State) x : (({ t with start := x }) : State).fixed = t.fixed := by cases t; rfl
theorem State.fixed_od (t : State) x : (({ t with od := x }) : State).fixed = t.fixed := by cases t; rfl
theorem State.fixed_ev (t : State) x : (({ t with ev := x }) : State).fixed = t.fixed := by cases t; rfl
theorem State.fixed_lane (t : State) x : (({ t with lane := x }) : State).fixed = t.fixed := by cases t; rfl
theorem State.fixed_time (t : State) x : (({ t with time := x }) : State).fixed = t.fixed := by cases t; rfl
theorem State.fixed_therm (t : State) x : (({ t with therm := x }) : State).fixed = t.fixed := by cases t; rfl
theorem State.fixed_chain (t : State) x : (({ t with chain := x }) : State).fixed = t.fixed := by cases t; rfl
theorem State.fixed_red (t : State) x : (({ t with red := x }) : State).fixed = t.fixed := by cases t; rfl
theorem State.fixed_src (t : State) x : (({ t with src := x }) : State).fixed = t.fixed := by cases t; rfl
theorem State.fixed_comp (t : State) x : (({ t with comp := x }) : State).fixed = t.fixed := by cases t; rfl
theorem State.fixed_scan (t : State) x : (({ t with scan := x }) : State).fixed = t.fixed := by cases t; rfl
theorem State.fixed_store (t : State) x : (({ t with store := x }) : State).fixed = t.fixed := by cases t; rfl
theorem State.fixed_tile (t : State) x : (({ t with tile := x }) : State).fixed = t.fixed := by cases t; rfl
theorem State.fixed_drive (t : State) x : (({ t with drive := x }) : State).fixed = t.fixed := by cases t; rfl
theorem State.fixed_health (t : State) x : (({ t with health := x }) : State).fixed = t.fixed := by cases t; rfl
theorem State.fixed_pump (t : State) x : (({ t with pump := x }) : State).fixed = t.fixed := by cases t; rfl
theorem State.fixed_fix (t : State) x : (({ t with fix := x }) : State).fixed = t.fixed := by cases t; rfl
theorem State.fixed_eth (t : State) x : (({ t with eth := x }) : State).fixed = t.fixed := by cases t; rfl
theorem State.fixed_dram (t : State) x : (({ t with dram := x }) : State).fixed = t.fixed := by cases t; rfl
theorem State.fixed_upd (t : State) x : (({ t with upd := x }) : State).fixed = t.fixed := by cases t; rfl
theorem State.fixed_perf (t : State) x : (({ t with perf := x }) : State).fixed = t.fixed := by cases t; rfl

theorem State.setPar_fixed (s : State) (id idx v : Nat) : (State.setPar s id idx v).fixed = s.fixed := by
  unfold State.setPar
  simp only [State.fixed_dict]

theorem State.bump_fixed (s : State) (id : Nat) (idx : Nat) (w : Nat) : (State.bump s id idx w).fixed = s.fixed := by
  unfold State.bump
  simp only [State.setPar_fixed]

theorem State.bumpBy_fixed (s : State) (id idx n : Nat) : (State.bumpBy s id idx n).fixed = s.fixed := by
  unfold State.bumpBy
  simp only [State.setPar_fixed]

theorem State.setBlob_fixed (s : State) (id idx off : Nat) (bs : List Byte) : (s.setBlob id idx off bs).fixed = s.fixed := by
  rw [State.setBlob_eq]
  rfl

theorem State.resetParams_fixed (s : State) (lvl : Level) : (State.resetParams s lvl).fixed = s.fixed := by
  unfold State.resetParams
  repeat' (first
    | with_reducible rfl
    | simp only [State.fixed_dict, State.fixed_blobs, State.fixed_perf]
    | simp only [State.fixed_mk, State.fixed_fold])

theorem State.count_fixed (s : State) (c : Nat) (n : Nat) : (State.count s c n).fixed = s.fixed := by
  unfold State.count
  repeat' (first
    | with_reducible rfl
    | simp only [State.fixed_perf, State.fixed_ite, ite_self]
    | split)

theorem State.unseenCycle_fixed (s : State) : (State.unseenCycle s).fixed = s.fixed := by
  unfold State.unseenCycle
  repeat' (first
    | with_reducible rfl
    | simp only [State.fixed_ite, ite_self, State.count_fixed]
    | (with_reducible refine (State.foldl_keeps State.fixed _ _ _ fun _ _ => ?_).trans ?_)
    | split)

theorem State.monCount_fixed (s : State) (cls idx dir n : Nat) : (State.monCount s cls idx dir n).fixed = s.fixed := by
  unfold State.monCount
  repeat' (first
    | with_reducible rfl
    | simp only [State.fixed_perf, State.fixed_ite, ite_self]
    | (with_reducible refine (State.foldl_keeps State.fixed _ _ _ fun _ _ => ?_).trans ?_)
    | split)

theorem State.takeFree_fixed (s : State) : (s.takeFree).2.fixed = s.fixed := rfl
theorem State.takeFree_fixed' {s : State} {a : Nat} {b : State} (h : s.takeFree = (a, b)) : b.fixed = s.fixed :=
  (congrArg (fun p => State.fixed p.2) h).symm

theorem State.send_fixed (s : State) (o : Out) : (State.send s o).fixed = s.fixed := by
  unfold State.send
  simp only [State.fixed_outbox]

theorem State.enqueue_fixed (s : State) (r : Raise) : (s.enqueue r).1.fixed = s.fixed := by
  rw [State.enqueue_eq]
  rfl

theorem State.noteRaise_fixed (s : State) (ev idx : Nat) : (State.noteRaise s ev idx).fixed = s.fixed := by
  unfold State.noteRaise
  simp only [State.fixed_ev]

theorem State.raiseRec_fixed (s : State) (r : Raise) : (s.raiseRec r).fixed = s.fixed := by
  rw [State.raiseRec_eq]
  rfl

theorem State.raise_fixed (s : State) (ev : Nat) (idx : Nat) (detail : Nat) (cluster : Nat) : (State.raise s ev idx detail cluster).fixed = s.fixed := by
  unfold State.raise
  simp only [State.raiseRec_fixed]

theorem State.raiseLimited_fixed (s : State) (ev idx cycles : Nat) (detail : Nat) : (State.raiseLimited s ev idx cycles detail).fixed = s.fixed := by
  unfold State.raiseLimited
  repeat' (first
    | with_reducible rfl
    | simp only [State.fixed_ite, ite_self, State.bump_fixed, State.noteRaise_fixed, State.raise_fixed]
    | split)

theorem State.raiseTick_fixed (s : State) (ev : Nat) (idx : Nat) (detail : Nat) (key : Nat) : (State.raiseTick s ev idx detail key).fixed = s.fixed := by
  unfold State.raiseTick
  repeat' (first
    | with_reducible rfl
    | simp only [State.fixed_ev, State.fixed_ite, ite_self, State.bump_fixed, State.raise_fixed]
    | split)

theorem State.raiseIf_fixed (s : State) (c : Bool) (ev : Nat) (idx : Nat) (detail : Nat) : (State.raiseIf s c ev idx detail).fixed = s.fixed := by
  unfold State.raiseIf
  repeat' (first
    | with_reducible rfl
    | simp only [State.fixed_ite, ite_self, State.raise_fixed]
    | split)

theorem State.keepReady_fixed (s : State) (m : Nat) : (State.keepReady s m).fixed = s.fixed := by
  unfold State.keepReady
  repeat' (first
    | with_reducible rfl
    | simp only [State.fixed_start, State.raiseIf_fixed]
    | split)

theorem State.clearReady_fixed (s : State) (i : Nat) : (State.clearReady s i).fixed = s.fixed := by
  unfold State.clearReady
  simp only [State.keepReady_fixed]

theorem State.setReady_fixed (s : State) (i : Nat) : (State.setReady s i).fixed = s.fixed := by
  unfold State.setReady
  repeat' (first
    | with_reducible rfl
    | simp only [State.fixed_start, State.fixed_ite, ite_self, State.setPar_fixed]
    | split)

theorem State.bgPauseStart_fixed (s : State) (op : Nat) : (State.bgPauseStart s op).fixed = s.fixed := by
  unfold State.bgPauseStart
  repeat' (first
    | with_reducible rfl
    | simp only [State.fixed_therm, State.fixed_ite, ite_self]
    | split)

end Sys2Proof.Machine
end

