-- ==== Sys2Proof/Laws/FrameLanes.lean ====
section
/-! SUPPORT. The queue, the time and the security state pass unchanged through the operations of `Lanes.lean`. -/

set_option linter.all false
set_option linter.unusedTactic false
set_option linter.unreachableTactic false
set_option linter.unusedSimpArgs false

namespace Sys2Proof.Machine

theorem State.updLane_fixed (s : State) (n : Nat) (f : Lane → Lane) : (State.updLane s n f).fixed = s.fixed := by
  unfold State.updLane
  simp only [State.fixed_lane]

theorem State.scanEnd_fixed (s : State) (st : Nat) : (State.scanEnd s st).fixed = s.fixed := by
  unfold State.scanEnd
  repeat' (first
    | with_reducible rfl
    | simp only [State.fixed_lane, State.raise_fixed, State.setPar_fixed]
    | split)

theorem State.scanCheck_fixed (s : State) : (State.scanCheck s).fixed = s.fixed := by
  unfold State.scanCheck
  repeat' (first
    | with_reducible rfl
    | simp only [State.fixed_ite, ite_self, State.scanEnd_fixed]
    | split)

theorem State.laneGo_fixed (s : State) (n st : Nat) : (State.laneGo s n st).fixed = s.fixed := by
  unfold State.laneGo
  repeat' (first
    | with_reducible rfl
    | simp only [State.fixed_ite, ite_self, State.raiseIf_fixed, State.scanCheck_fixed, State.setPar_fixed, State.updLane_fixed]
    | split)

theorem State.laneRestart_fixed (s : State) (n : Nat) : (State.laneRestart s n).fixed = s.fixed := by
  unfold State.laneRestart
  simp only [State.laneGo_fixed, State.updLane_fixed]

theorem State.laneStart_fixed (s : State) (n : Nat) : (State.laneStart s n).fixed = s.fixed := by
  unfold State.laneStart
  repeat' (first
    | with_reducible rfl
    | simp only [State.fixed_ite, ite_self, State.laneGo_fixed, State.laneRestart_fixed, State.send_fixed, State.updLane_fixed]
    | split)

theorem State.lanesStart_fixed (s : State) : (State.lanesStart s).fixed = s.fixed := by
  unfold State.lanesStart
  repeat' (first
    | with_reducible rfl
    | simp only [State.fixed_ite, ite_self, State.laneStart_fixed]
    | (with_reducible refine (State.each_keeps State.fixed _ _ _ fun _ _ => ?_).trans ?_)
    | split)

theorem State.laneOff_fixed (s : State) (n : Nat) : (State.laneOff s n).fixed = s.fixed := by
  unfold State.laneOff
  simp only [State.fixed_lane, State.laneGo_fixed]

theorem State.syncLoss_fixed (s : State) (n : Nat) : (State.syncLoss s n).fixed = s.fixed := by
  unfold State.syncLoss
  repeat' (first
    | with_reducible rfl
    | simp only [State.fixed_ite, ite_self, State.bump_fixed, State.laneGo_fixed, State.laneRestart_fixed, State.raise_fixed, State.updLane_fixed]
    | split)

theorem execCommaTimeout_fixed (n : Fin 32) (s : State) : ∃ s', execCommaTimeout n s = .next s' ∧ s'.fixed = s.fixed := by
  refine ⟨_, rfl, ?_⟩
  repeat' (first
    | with_reducible rfl
    | simp only [State.fixed_ite, ite_self, State.syncLoss_fixed]
    | split)

theorem execLaneSignalDetect_fixed (n : Fin 32) (s : State) : ∃ s', execLaneSignalDetect n s = .next s' ∧ s'.fixed = s.fixed := by
  refine ⟨_, rfl, ?_⟩
  repeat' (first
    | with_reducible rfl
    | simp only [State.fixed_ite, ite_self, State.laneGo_fixed]
    | split)

theorem execCdrLock_fixed (n : Fin 32) (s : State) : ∃ s', execCdrLock n s = .next s' ∧ s'.fixed = s.fixed := by
  refine ⟨_, rfl, ?_⟩
  repeat' (first
    | with_reducible rfl
    | simp only [State.fixed_ite, ite_self, State.laneGo_fixed]
    | split)

theorem execCdrTimeout_fixed (n : Fin 32) (s : State) (tie : Bool) : ∃ s', execCdrTimeout n s tie = .next s' ∧ s'.fixed = s.fixed := by
  refine ⟨_, rfl, ?_⟩
  repeat' (first
    | with_reducible rfl
    | simp only [State.fixed_ite, ite_self, State.laneGo_fixed]
    | split)

theorem execLaneAlign_fixed (n : Fin 32) (inverted : Bool) (s : State) : ∃ s', execLaneAlign n inverted s = .next s' ∧ s'.fixed = s.fixed := by
  refine ⟨_, rfl, ?_⟩
  repeat' (first
    | with_reducible rfl
    | simp only [State.fixed_ite, ite_self, State.laneGo_fixed, State.raiseIf_fixed, State.setBlob_fixed, State.updLane_fixed]
    | split)

theorem State.setEq_fixed (s : State) (n : Nat) (ctle : Int) (taps : List Int) : (State.setEq s n ctle taps).fixed = s.fixed := by
  unfold State.setEq
  simp only [State.setBlob_fixed]

theorem State.adoptRate_fixed (s : State) (n : Nat) : (State.adoptRate s n).fixed = s.fixed := by
  unfold State.adoptRate
  repeat' (first
    | with_reducible rfl
    | simp only [State.fixed_lane, State.fixed_ite, ite_self, State.setPar_fixed]
    | split)

theorem execLaneAdaptComplete_fixed (n : Fin 32) (ctle : Fin 16) (taps : List Int) (s : State) : ∃ s', execLaneAdaptComplete n ctle taps s = .next s' ∧ s'.fixed = s.fixed := by
  refine ⟨_, rfl, ?_⟩
  repeat' (first
    | with_reducible rfl
    | simp only [State.fixed_ite, ite_self, State.adoptRate_fixed, State.laneGo_fixed, State.setEq_fixed, State.updLane_fixed]
    | split)

theorem execLaneBringupTimer_fixed (n : Fin 32) (s : State) (tie : Bool) : ∃ s', execLaneBringupTimer n s tie = .next s' ∧ s'.fixed = s.fixed := by
  refine ⟨_, rfl, ?_⟩
  repeat' (first
    | with_reducible rfl
    | simp only [State.fixed_ite, ite_self, State.laneRestart_fixed, State.raiseLimited_fixed]
    | split)

theorem execRateHuntTimer_fixed (s : State) (tie : Bool) : ∃ s', execRateHuntTimer s tie = .next s' ∧ s'.fixed = s.fixed := by
  refine ⟨_, rfl, ?_⟩
  repeat' (first
    | with_reducible rfl
    | simp only [State.fixed_lane, State.fixed_ite, ite_self, State.laneRestart_fixed]
    | (with_reducible refine (State.each_keeps State.fixed _ _ _ fun _ _ => ?_).trans ?_)
    | split)

theorem execLaneOffHoldExpiry_fixed (n : Fin 32) (s : State) : ∃ s', execLaneOffHoldExpiry n s = .next s' ∧ s'.fixed = s.fixed := by
  refine ⟨_, rfl, ?_⟩
  repeat' (first
    | with_reducible rfl
    | simp only [State.fixed_lane, State.fixed_ite, ite_self, State.laneStart_fixed]
    | split)

theorem State.addSigma_fixed (s : State) (c k : Nat) : (State.addSigma s c k).fixed = s.fixed := by
  unfold State.addSigma
  simp only [State.fixed_scan]

theorem execSkipInsert_fixed (n : Fin 32) (s : State) : ∃ s', execSkipInsert n s = .next s' ∧ s'.fixed = s.fixed := by
  refine ⟨_, rfl, ?_⟩
  repeat' (first
    | with_reducible rfl
    | simp only [State.fixed_ite, ite_self, State.addSigma_fixed, State.send_fixed, State.updLane_fixed]
    | split)

theorem State.poisonSymbol_fixed (s : State) (n : Nat) : (State.poisonSymbol s n).fixed = s.fixed := by
  unfold State.poisonSymbol
  repeat' (first
    | with_reducible rfl
    | simp only [State.send_fixed]
    | split)

theorem execElasticBufferSlip_fixed (n : Fin 32) (overflow : Bool) (s : State) : ∃ s', execElasticBufferSlip n overflow s = .next s' ∧ s'.fixed = s.fixed := by
  refine ⟨_, rfl, ?_⟩
  repeat' (first
    | with_reducible rfl
    | simp only [State.fixed_ite, ite_self, State.bump_fixed, State.poisonSymbol_fixed, State.raise_fixed, State.updLane_fixed]
    | split)

theorem State.tapAlarms_fixed (s : State) (n : Nat) : (State.tapAlarms s n).fixed = s.fixed := by
  unfold State.tapAlarms
  repeat' (first
    | with_reducible rfl
    | simp only [State.fixed_ite, ite_self, State.raise_fixed, State.updLane_fixed]
    | (with_reducible refine (State.each_keeps State.fixed _ _ _ fun _ _ => ?_).trans ?_)
    | split)

theorem execAdaptUpdate_fixed (n : Fin 32) (dCtle : Int) (dTaps : List Int) (trimTap : Bool) (s : State) : ∃ s', execAdaptUpdate n dCtle dTaps trimTap s = .next s' ∧ s'.fixed = s.fixed := by
  refine ⟨_, rfl, ?_⟩
  repeat' (first
    | with_reducible rfl
    | simp only [State.fixed_ite, ite_self, State.setEq_fixed, State.tapAlarms_fixed]
    | split)

theorem execEyeMarginMeasure_fixed (n : Fin 32) (height : Fin 65) (width : Fin 129) (s : State) : ∃ s', execEyeMarginMeasure n height width s = .next s' ∧ s'.fixed = s.fixed := by
  refine ⟨_, rfl, ?_⟩
  repeat' (first
    | with_reducible rfl
    | simp only [State.fixed_ite, ite_self, State.raiseIf_fixed, State.setPar_fixed, State.updLane_fixed]
    | split)

theorem State.eyeScanWrite_fixed (s : State) (v : Nat) : (State.eyeScanWrite s v).fixed = s.fixed := by
  unfold State.eyeScanWrite
  repeat' (first
    | with_reducible rfl
    | simp only [State.fixed_lane, State.fixed_ite, ite_self, State.scanEnd_fixed, State.setPar_fixed]
    | split)

theorem execEyeScanPoint_fixed (count : Nat) (s : State) : ∃ s', execEyeScanPoint count s = .next s' ∧ s'.fixed = s.fixed := by
  refine ⟨_, rfl, ?_⟩
  repeat' (first
    | with_reducible rfl
    | simp only [State.fixed_lane, State.fixed_ite, ite_self, State.bgPauseStart_fixed, State.scanEnd_fixed, State.setBlob_fixed, State.setPar_fixed]
    | split)

theorem execTestBlockSend_fixed (n : Fin 32) (s : State) : ∃ s', execTestBlockSend n s = .next s' ∧ s'.fixed = s.fixed := by
  refine ⟨_, rfl, ?_⟩
  repeat' (first
    | with_reducible rfl
    | simp only [State.fixed_ite, ite_self, State.send_fixed, State.updLane_fixed]
    | split)

theorem State.passTestBlock_fixed (s : State) (n : Nat) (seq : Option Byte) (data : List Byte) : (State.passTestBlock s n seq data).fixed = s.fixed := by
  unfold State.passTestBlock
  repeat' (first
    | with_reducible rfl
    | simp only [State.send_fixed]
    | split)

theorem execTestBlockReceive_fixed (n : Fin 32) (seq : Option Byte) (data : List Byte) (s : State) : ∃ s', execTestBlockReceive n seq data s = .next s' ∧ s'.fixed = s.fixed := by
  refine ⟨_, rfl, ?_⟩
  repeat' (first
    | with_reducible rfl
    | simp only [State.fixed_ite, ite_self, State.passTestBlock_fixed, State.raiseIf_fixed, State.setPar_fixed, State.updLane_fixed]
    | (with_reducible refine (State.foldl_keeps State.fixed _ _ _ fun _ _ => ?_).trans ?_)
    | split)

theorem State.prbsClear_fixed (s : State) (n : Nat) : (State.prbsClear s n).fixed = s.fixed := by
  unfold State.prbsClear
  simp only [State.setPar_fixed, State.updLane_fixed]

theorem State.prbsGenWrite_fixed (s : State) (n v : Nat) : (State.prbsGenWrite s n v).fixed = s.fixed := by
  unfold State.prbsGenWrite
  repeat' (first
    | with_reducible rfl
    | simp only [State.fixed_ite, ite_self, State.laneGo_fixed, State.laneRestart_fixed, State.prbsClear_fixed, State.setPar_fixed, State.updLane_fixed]
    | split)

theorem State.prbsChkWrite_fixed (s : State) (n v : Nat) : (State.prbsChkWrite s n v).fixed = s.fixed := by
  unfold State.prbsChkWrite
  repeat' (first
    | with_reducible rfl
    | simp only [State.fixed_ite, ite_self, State.prbsClear_fixed, State.setPar_fixed]
    | split)

theorem State.injectWrite_fixed (s : State) (n v : Nat) : (State.injectWrite s n v).fixed = s.fixed := by
  unfold State.injectWrite
  simp only [State.fixed_lane, State.raise_fixed]

theorem State.injectSend_fixed (s : State) : (State.injectSend s).fixed = s.fixed := by
  unfold State.injectSend
  repeat' (first
    | with_reducible rfl
    | simp only [State.fixed_lane, State.send_fixed]
    | (with_reducible refine (State.each_keeps State.fixed _ _ _ fun _ _ => ?_).trans ?_))

end Sys2Proof.Machine
end

