-- ==== Sys2Proof/Laws/FrameSluice.lean ====
section
/-! SUPPORT. The queue, the time and the security state pass unchanged through the operations of `Sluice.lean`. -/

set_option linter.all false
set_option linter.unusedTactic false
set_option linter.unreachableTactic false
set_option linter.unusedSimpArgs false

namespace Sys2Proof.Machine

theorem State.hbPeriod_fixed (s : State) : (State.hbPeriod s).fixed = s.fixed := by
  unfold State.hbPeriod
  repeat' (first
    | with_reducible rfl
    | simp only [State.fixed_red, State.fixed_ite, ite_self]
    | split)

theorem State.keepEpoch_fixed (s : State) (e : Nat) : (State.keepEpoch s e).fixed = s.fixed := by
  unfold State.keepEpoch
  repeat' (first
    | with_reducible rfl
    | simp only [State.fixed_ite, ite_self, State.setPar_fixed]
    | split)

theorem State.becomeManager_fixed (s : State) : (State.becomeManager s).fixed = s.fixed := by
  unfold State.becomeManager
  repeat' (first
    | with_reducible rfl
    | simp only [State.fixed_od, State.fixed_red, State.fixed_ite, ite_self, State.raise_fixed, State.send_fixed, State.setPar_fixed]
    | simp only [State.fixed_mk, State.fixed_fold]
    | split)

theorem State.managerEval_fixed (s : State) : (State.managerEval s).fixed = s.fixed := by
  unfold State.managerEval
  repeat' (first
    | with_reducible rfl
    | simp only [State.fixed_red, State.fixed_ite, ite_self, State.becomeManager_fixed]
    | split)

theorem State.syncEval_fixed (s : State) : (State.syncEval s).fixed = s.fixed := by
  unfold State.syncEval
  repeat' (first
    | with_reducible rfl
    | simp only [State.fixed_red, State.fixed_ite, ite_self, State.clearReady_fixed, State.raise_fixed, State.setReady_fixed]
    | split)

theorem State.logTakeover_fixed (s : State) (cause : Nat) : (State.logTakeover s cause).fixed = s.fixed := by
  unfold State.logTakeover
  repeat' (first
    | with_reducible rfl
    | simp only [State.fixed_red, State.fixed_ite, ite_self, State.setBlob_fixed]
    | split)

theorem State.memberActive_fixed (s : State) : (State.memberActive s).fixed = s.fixed := by
  unfold State.memberActive
  repeat' (first
    | with_reducible rfl
    | simp only [State.fixed_red, State.fixed_drive, State.fixed_health, State.fixed_pump, State.fixed_ite, ite_self]
    | simp only [State.fixed_mk, State.fixed_fold]
    | split)

theorem State.pwoGroups_fixed (s : State) : (State.pwoGroups s).fixed = s.fixed := by
  unfold State.pwoGroups
  repeat' (first
    | with_reducible rfl
    | simp only [State.fixed_start, State.fixed_ite, ite_self]
    | (with_reducible refine (State.each_keeps State.fixed _ _ _ fun _ _ => ?_).trans ?_)
    | split)

theorem State.sluiceGo_fixed (s : State) (new : Nat) : (State.sluiceGo s new).fixed = s.fixed := by
  unfold State.sluiceGo
  repeat' (first
    | with_reducible rfl
    | simp only [State.fixed_red, State.fixed_ite, ite_self, State.becomeManager_fixed, State.memberActive_fixed, State.pwoGroups_fixed, State.setPar_fixed, State.syncEval_fixed]
    | split)

theorem State.block_fixed (s : State) : (State.block s).fixed = s.fixed := by
  unfold State.block
  simp only [State.raiseIf_fixed, State.sluiceGo_fixed]

theorem State.blockCheck_fixed (s : State) : (State.blockCheck s).fixed = s.fixed := by
  unfold State.blockCheck
  repeat' (first
    | with_reducible rfl
    | simp only [State.fixed_ite, ite_self, State.block_fixed]
    | split)

theorem State.seeEpoch_fixed (s : State) (e : Nat) : (State.seeEpoch s e).fixed = s.fixed := by
  unfold State.seeEpoch
  simp only [State.blockCheck_fixed, State.keepEpoch_fixed]

theorem State.claim_fixed (s : State) (cause : Nat) (bySwitch : Bool) : (State.claim s cause bySwitch).fixed = s.fixed := by
  unfold State.claim
  repeat' (first
    | with_reducible rfl
    | simp only [State.fixed_red, State.fixed_ite, ite_self, State.sluiceGo_fixed]
    | split)

theorem State.standbyEval_fixed (s : State) : (State.standbyEval s).fixed = s.fixed := by
  unfold State.standbyEval
  repeat' (first
    | with_reducible rfl
    | simp only [State.fixed_ite, ite_self, State.claim_fixed]
    | split)

theorem State.goStandby_fixed (s : State) : (State.goStandby s).fixed = s.fixed := by
  unfold State.goStandby
  simp only [State.sluiceGo_fixed, State.standbyEval_fixed]

theorem State.sluiceEval_fixed (s : State) : (State.sluiceEval s).fixed = s.fixed := by
  unfold State.sluiceEval
  repeat' (first
    | with_reducible rfl
    | simp only [State.fixed_red, State.fixed_ite, ite_self, State.block_fixed, State.blockCheck_fixed, State.goStandby_fixed, State.sluiceGo_fixed, State.standbyEval_fixed]
    | split)

theorem State.holdoffOver_fixed (s : State) : (State.holdoffOver s).fixed = s.fixed := by
  unfold State.holdoffOver
  repeat' (first
    | with_reducible rfl
    | simp only [State.fixed_ite, ite_self, State.claim_fixed, State.goStandby_fixed]
    | split)

theorem State.sluiceStart_fixed (s : State) : (State.sluiceStart s).fixed = s.fixed := by
  unfold State.sluiceStart
  repeat' (first
    | with_reducible rfl
    | simp only [State.fixed_red, State.fixed_ite, ite_self, State.block_fixed, State.blockCheck_fixed, State.holdoffOver_fixed, State.sluiceEval_fixed, State.sluiceGo_fixed]
    | split)

theorem State.sluiceOff_fixed (s : State) : (State.sluiceOff s).fixed = s.fixed := by
  unfold State.sluiceOff
  simp only [State.fixed_red, State.sluiceGo_fixed]

theorem State.redModeChanged_fixed (s : State) : (State.redModeChanged s).fixed = s.fixed := by
  unfold State.redModeChanged
  repeat' (first
    | with_reducible rfl
    | simp only [State.fixed_ite, ite_self, State.sluiceGo_fixed]
    | split)

theorem State.enterActive_fixed (s : State) : (State.enterActive s).fixed = s.fixed := by
  unfold State.enterActive
  simp only [State.fixed_red, State.blockCheck_fixed, State.logTakeover_fixed, State.raiseIf_fixed, State.sluiceGo_fixed]

theorem State.viewChanged_fixed (s : State) (was : Nat) : (State.viewChanged s was).fixed = s.fixed := by
  unfold State.viewChanged
  repeat' (first
    | with_reducible rfl
    | simp only [State.fixed_red, State.fixed_ite, ite_self, State.sluiceEval_fixed, State.syncEval_fixed]
    | split)

theorem State.hbGo_fixed (s : State) (cls : Nat) : (State.hbGo s cls).fixed = s.fixed := by
  unfold State.hbGo
  simp only [State.fixed_red, State.raiseIf_fixed, State.viewChanged_fixed]

theorem execHeartbeatEdge_fixed (high : Nat) (s : State) : ∃ s', execHeartbeatEdge high s = .next s' ∧ s'.fixed = s.fixed := by
  refine ⟨_, rfl, ?_⟩
  repeat' (first
    | with_reducible rfl
    | simp only [State.fixed_red, State.fixed_ite, ite_self, State.hbGo_fixed]
    | split)

theorem execHeartbeatTimeout_fixed (s : State) : ∃ s', execHeartbeatTimeout s = .next s' ∧ s'.fixed = s.fixed := by
  refine ⟨_, rfl, ?_⟩
  simp only [State.fixed_red, State.hbGo_fixed]

theorem execSluiceIChange_fixed (high : Bool) (s : State) : ∃ s', execSluiceIChange high s = .next s' ∧ s'.fixed = s.fixed := by
  refine ⟨_, rfl, ?_⟩
  repeat' (first
    | with_reducible rfl
    | simp only [State.fixed_red, State.fixed_ite, ite_self, State.goStandby_fixed, State.raise_fixed, State.viewChanged_fixed]
    | split)

theorem execDoubtTimer_fixed (s : State) : ∃ s', execDoubtTimer s = .next s' ∧ s'.fixed = s.fixed := by
  refine ⟨_, rfl, ?_⟩
  repeat' (first
    | with_reducible rfl
    | simp only [State.fixed_red, State.fixed_ite, ite_self, State.raise_fixed]
    | split)

theorem execClaimHoldoffExpiry_fixed (s : State) : ∃ s', execClaimHoldoffExpiry s = .next s' ∧ s'.fixed = s.fixed := by
  refine ⟨_, rfl, ?_⟩
  simp only [State.holdoffOver_fixed]

theorem execClaimWindowEnd_fixed (s : State) : ∃ s', execClaimWindowEnd s = .next s' ∧ s'.fixed = s.fixed := by
  refine ⟨_, rfl, ?_⟩
  repeat' (first
    | with_reducible rfl
    | simp only [State.fixed_ite, ite_self, State.enterActive_fixed]
    | split)

theorem execLampNetActivity_fixed (s : State) : ∃ s', execLampNetActivity s = .next s' ∧ s'.fixed = s.fixed := by
  refine ⟨_, rfl, ?_⟩
  repeat' (first
    | with_reducible rfl
    | simp only [State.fixed_red, State.fixed_ite, ite_self, State.goStandby_fixed, State.raise_fixed]
    | split)

theorem State.evidenceTick_fixed (s : State) : (State.evidenceTick s).fixed = s.fixed := by
  unfold State.evidenceTick
  repeat' (first
    | with_reducible rfl
    | simp only [State.fixed_red, State.fixed_ite, ite_self]
    | split)

theorem execEvidenceTimeout_fixed (s : State) : ∃ s', execEvidenceTimeout s = .next s' ∧ s'.fixed = s.fixed := by
  refine ⟨_, rfl, ?_⟩
  repeat' (first
    | with_reducible rfl
    | simp only [State.fixed_ite, ite_self, State.claim_fixed, State.raise_fixed]
    | split)

theorem State.switchoverLatch_fixed (s : State) (j : Nat) : (State.switchoverLatch s j).fixed = s.fixed := by
  unfold State.switchoverLatch
  repeat' (first
    | with_reducible rfl
    | simp only [State.fixed_red, State.fixed_ite, ite_self, State.claim_fixed, State.raise_fixed, State.sluiceEval_fixed, State.sluiceGo_fixed]
    | split)

theorem State.namedTick_fixed (s : State) (tie : Bool) : (State.namedTick s tie).fixed = s.fixed := by
  unfold State.namedTick
  repeat' (first
    | with_reducible rfl
    | simp only [State.fixed_red, State.fixed_ite, ite_self, State.becomeManager_fixed, State.blockCheck_fixed, State.goStandby_fixed, State.logTakeover_fixed, State.raise_fixed, State.sluiceGo_fixed]
    | split)

theorem execYieldTickReached_fixed (tie : Bool) (s : State) : ∃ s', execYieldTickReached tie s = .next s' ∧ s'.fixed = s.fixed := by
  refine ⟨_, rfl, ?_⟩
  simp only [State.namedTick_fixed]

theorem State.splitJudge_fixed (s : State) (epoch src : Nat) : (State.splitJudge s epoch src).fixed = s.fixed := by
  unfold State.splitJudge
  repeat' (first
    | with_reducible rfl
    | simp only [State.fixed_ite, ite_self, State.goStandby_fixed, State.raiseTick_fixed]
    | split)

theorem State.epochFloorWrite_fixed (s : State) (v : Nat) : (State.epochFloorWrite s v).fixed = s.fixed := by
  unfold State.epochFloorWrite
  repeat' (first
    | with_reducible rfl
    | simp only [State.fixed_ite, ite_self, State.setPar_fixed, State.syncEval_fixed]
    | split)

theorem State.seeHeadEpoch_fixed (s : State) (e : Nat) : (State.seeHeadEpoch s e).fixed = s.fixed := by
  unfold State.seeHeadEpoch
  repeat' (first
    | with_reducible rfl
    | simp only [State.fixed_ite, ite_self, State.setPar_fixed, State.syncEval_fixed]
    | split)

end Sys2Proof.Machine
end

