-- ==== Sys2Proof/Laws/FrameSample.lean ====
section
/-! SUPPORT. The queue, the time and the security state pass unchanged through the operations of `Sample.lean`. -/

set_option linter.all false
set_option linter.unusedTactic false
set_option linter.unreachableTactic false
set_option linter.unusedSimpArgs false

namespace Sys2Proof.Machine

theorem State.sampleDrop_fixed (s : State) : (State.sampleDrop s).fixed = s.fixed := by
  unfold State.sampleDrop
  simp only [State.bump_fixed, State.raiseLimited_fixed]

theorem State.sampleWrite_fixed (s : State) (bs : List Byte) : (State.sampleWrite s bs).fixed = s.fixed := by
  unfold State.sampleWrite
  repeat' (first
    | with_reducible rfl
    | simp only [State.fixed_perf, State.fixed_ite, ite_self, State.bump_fixed, State.raise_fixed, State.sampleDrop_fixed, State.setBlob_fixed]
    | split)

theorem State.samplePut_fixed (s : State) (r : SampleRec) : (State.samplePut s r).fixed = s.fixed := by
  unfold State.samplePut
  repeat' (first
    | with_reducible rfl
    | simp only [State.fixed_perf, State.fixed_ite, ite_self, State.sampleDrop_fixed, State.sampleWrite_fixed]
    | split)

theorem State.sampleNext_fixed (s : State) : (State.sampleNext s).fixed = s.fixed := by
  unfold State.sampleNext
  repeat' (first
    | with_reducible rfl
    | simp only [State.fixed_perf, State.sampleWrite_fixed]
    | split)

theorem State.sampleDraw_fixed (s : State) (i : Nat) : (State.sampleDraw s i).fixed = s.fixed := by
  unfold State.sampleDraw
  repeat' (first
    | with_reducible rfl
    | simp only [State.fixed_perf, State.takeFree_fixed]
    | (with_reducible refine (State.takeFree_fixed' (by assumption)).trans ?_)
    | split)

theorem State.sampleIssue_fixed (s : State) (i : Nat) : (State.sampleIssue s i).fixed = s.fixed := by
  unfold State.sampleIssue
  repeat' (first
    | with_reducible rfl
    | simp only [State.fixed_perf, State.fixed_ite, ite_self, State.sampleDraw_fixed]
    | split)

end Sys2Proof.Machine
end

