-- ==== Sys2Proof/Laws/FrameTime.lean ====
section
/-! SUPPORT. The queue, the time and the security state pass unchanged through the operations of `Time.lean`. -/

set_option linter.all false
set_option linter.unusedTactic false
set_option linter.unreachableTactic false
set_option linter.unusedSimpArgs false

namespace Sys2Proof.Machine

theorem State.stepTo_fixed (s : State) (c : Nat) : (State.stepTo s c).fixed = s.fixed := by
  unfold State.stepTo
  simp only [State.fixed_time, State.raise_fixed]

theorem State.applyFreq_fixed (s : State) (f : Int) : (State.applyFreq s f).fixed = s.fixed := by
  unfold State.applyFreq
  simp only [State.fixed_time]

theorem State.servoState_fixed (s : State) (e : Int) : (State.servoState s e).fixed = s.fixed := by
  unfold State.servoState
  repeat' (first
    | with_reducible rfl
    | simp only [State.fixed_time, State.fixed_ite, ite_self, State.raise_fixed]
    | split)

theorem State.servoSample_fixed (s : State) (e : Int) (mayStep : Bool) : (State.servoSample s e mayStep).fixed = s.fixed := by
  unfold State.servoSample
  repeat' (first
    | with_reducible rfl
    | simp only [State.fixed_time, State.fixed_ite, ite_self, State.applyFreq_fixed, State.count_fixed, State.raise_fixed, State.raiseLimited_fixed, State.servoState_fixed, State.setPar_fixed, State.stepTo_fixed]
    | split)

theorem State.holdover_fixed (s : State) : (State.holdover s).fixed = s.fixed := by
  unfold State.holdover
  repeat' (first
    | with_reducible rfl
    | simp only [State.fixed_time, State.fixed_ite, ite_self, State.raise_fixed]
    | split)

theorem State.sourceChanged_fixed (s : State) : (State.sourceChanged s).fixed = s.fixed := by
  unfold State.sourceChanged
  repeat' (first
    | with_reducible rfl
    | simp only [State.fixed_time, State.fixed_ite, ite_self]
    | split)

theorem execServoSampleTimeout_fixed (s : State) : ∃ s', execServoSampleTimeout s = .next s' ∧ s'.fixed = s.fixed := by
  refine ⟨_, rfl, ?_⟩
  repeat' (first
    | with_reducible rfl
    | simp only [State.fixed_ite, ite_self, State.holdover_fixed]
    | split)

theorem State.timeSetWrite_fixed (s : State) (v : Nat) : (State.timeSetWrite s v).fixed = s.fixed := by
  unfold State.timeSetWrite
  simp only [State.fixed_time, State.setPar_fixed, State.stepTo_fixed]

theorem State.refMissing_fixed (s : State) : (State.refMissing s).fixed = s.fixed := by
  unfold State.refMissing
  simp only [State.fixed_time, State.holdover_fixed, State.raise_fixed]

theorem execRefInEdge_fixed (s : State) : ∃ s', execRefInEdge s = .next s' ∧ s'.fixed = s.fixed := by
  refine ⟨_, rfl, ?_⟩
  repeat' (first
    | with_reducible rfl
    | simp only [State.fixed_time, State.fixed_src, State.fixed_ite, ite_self, State.refMissing_fixed, State.servoSample_fixed]
    | simp only [State.fixed_mk, State.fixed_fold]
    | split)

theorem execRefInTimeout_fixed (s : State) : ∃ s', execRefInTimeout s = .next s' ∧ s'.fixed = s.fixed := by
  refine ⟨_, rfl, ?_⟩
  repeat' (first
    | with_reducible rfl
    | simp only [State.fixed_src, State.fixed_ite, ite_self, State.refMissing_fixed]
    | split)

theorem State.macPush_fixed (s : State) (p : Nat) (k : TxKind) : (State.macPush s p k).fixed = s.fixed := by
  unfold State.macPush
  simp only [State.fixed_eth]

theorem State.tsqPush_fixed (s : State) (tag port time : Nat) : (State.tsqPush s tag port time).fixed = s.fixed := by
  unfold State.tsqPush
  repeat' (first
    | with_reducible rfl
    | simp only [State.fixed_time, State.fixed_ite, ite_self, State.bump_fixed, State.raiseLimited_fixed]
    | split)

theorem State.tsqExpire_fixed (s : State) : (State.tsqExpire s).fixed = s.fixed := by
  unfold State.tsqExpire
  repeat' (first
    | with_reducible rfl
    | simp only [State.fixed_time, State.fixed_ite, ite_self, State.bump_fixed, State.raise_fixed, State.raiseLimited_fixed]
    | split)

theorem execTsqEntryExpiry_fixed (s : State) : ∃ s', execTsqEntryExpiry s = .next s' ∧ s'.fixed = s.fixed := by
  refine ⟨_, rfl, ?_⟩
  simp only [State.tsqExpire_fixed]

theorem State.ptpStamp_fixed (s : State) (e : TsqEntry) : (State.ptpStamp s e).fixed = s.fixed := by
  unfold State.ptpStamp
  repeat' (first
    | with_reducible rfl
    | simp only [State.fixed_time, State.fixed_ite, ite_self, State.macPush_fixed]
    | split)

theorem State.ptpDrop_fixed (s : State) (m : PtpMsg) : (State.ptpDrop s m).fixed = s.fixed := by
  unfold State.ptpDrop
  repeat' (first
    | with_reducible rfl
    | simp only [State.fixed_ite, ite_self, State.bump_fixed]
    | split)

theorem State.portGo_fixed (s : State) (st : Nat) : (State.portGo s st).fixed = s.fixed := by
  unfold State.portGo
  repeat' (first
    | with_reducible rfl
    | simp only [State.fixed_ite, ite_self, State.raise_fixed, State.setPar_fixed]
    | split)

theorem State.syncSample_fixed (s : State) (origin : Int) (arrival : Nat) : (State.syncSample s origin arrival).fixed = s.fixed := by
  unfold State.syncSample
  repeat' (first
    | with_reducible rfl
    | simp only [State.fixed_time, State.fixed_ite, ite_self, State.portGo_fixed, State.servoSample_fixed]
    | split)

theorem execPtpSync_fixed (m : PtpMsg) (s : State) : ∃ s', execPtpSync m s = .next s' ∧ s'.fixed = s.fixed := by
  refine ⟨_, rfl, ?_⟩
  repeat' (first
    | with_reducible rfl
    | simp only [State.fixed_time, State.fixed_ite, ite_self, State.ptpDrop_fixed, State.syncSample_fixed]
    | split)

theorem execPtpFollowUp_fixed (m : PtpMsg) (s : State) : ∃ s', execPtpFollowUp m s = .next s' ∧ s'.fixed = s.fixed := by
  refine ⟨_, rfl, ?_⟩
  repeat' (first
    | with_reducible rfl
    | simp only [State.fixed_ite, ite_self, State.ptpDrop_fixed, State.syncSample_fixed]
    | split)

theorem execPtpDelayReq_fixed (m : PtpMsg) (s : State) : ∃ s', execPtpDelayReq m s = .next s' ∧ s'.fixed = s.fixed := by
  refine ⟨_, rfl, ?_⟩
  repeat' (first
    | with_reducible rfl
    | simp only [State.fixed_ite, ite_self, State.macPush_fixed, State.ptpDrop_fixed]
    | split)

theorem execPtpDelayResp_fixed (m : PtpMsg) (s : State) : ∃ s', execPtpDelayResp m s = .next s' ∧ s'.fixed = s.fixed := by
  refine ⟨_, rfl, ?_⟩
  repeat' (first
    | with_reducible rfl
    | simp only [State.fixed_time, State.fixed_ite, ite_self, State.ptpDrop_fixed, State.setPar_fixed]
    | split)

theorem State.gmGo_fixed (s : State) (id : Nat) : (State.gmGo s id).fixed = s.fixed := by
  unfold State.gmGo
  repeat' (first
    | with_reducible rfl
    | simp only [State.fixed_ite, ite_self, State.raise_fixed, State.setPar_fixed]
    | split)

theorem State.bmca_fixed (s : State) : (State.bmca s).fixed = s.fixed := by
  unfold State.bmca
  repeat' (first
    | with_reducible rfl
    | simp only [State.fixed_ite, ite_self, State.gmGo_fixed, State.portGo_fixed]
    | split)

theorem State.chooseMaster_fixed (s : State) : (State.chooseMaster s).fixed = s.fixed := by
  unfold State.chooseMaster
  repeat' (first
    | with_reducible rfl
    | simp only [State.fixed_time, State.fixed_ite, ite_self, State.bmca_fixed]
    | split)

theorem execPtpAnnounce_fixed (m : PtpMsg) (a : AnnounceInfo) (s : State) : ∃ s', execPtpAnnounce m a s = .next s' ∧ s'.fixed = s.fixed := by
  refine ⟨_, rfl, ?_⟩
  repeat' (first
    | with_reducible rfl
    | simp only [State.fixed_time, State.fixed_ite, ite_self, State.chooseMaster_fixed, State.ptpDrop_fixed]
    | split)

theorem execPtpAnnounceTimeout_fixed (s : State) : ∃ s', execPtpAnnounceTimeout s = .next s' ∧ s'.fixed = s.fixed := by
  refine ⟨_, rfl, ?_⟩
  repeat' (first
    | with_reducible rfl
    | simp only [State.fixed_time, State.fixed_ite, ite_self, State.chooseMaster_fixed, State.gmGo_fixed, State.portGo_fixed]
    | split)

theorem execPtpSyncSend_fixed (s : State) : ∃ s', execPtpSyncSend s = .next s' ∧ s'.fixed = s.fixed := by
  refine ⟨_, rfl, ?_⟩
  repeat' (first
    | with_reducible rfl
    | simp only [State.fixed_time, State.fixed_ite, ite_self, State.macPush_fixed]
    | split)

theorem execPtpAnnounceSend_fixed (s : State) : ∃ s', execPtpAnnounceSend s = .next s' ∧ s'.fixed = s.fixed := by
  refine ⟨_, rfl, ?_⟩
  repeat' (first
    | with_reducible rfl
    | simp only [State.fixed_time, State.fixed_ite, ite_self, State.macPush_fixed]
    | split)

theorem execPtpDelayReqSend_fixed (s : State) : ∃ s', execPtpDelayReqSend s = .next s' ∧ s'.fixed = s.fixed := by
  refine ⟨_, rfl, ?_⟩
  repeat' (first
    | with_reducible rfl
    | simp only [State.fixed_time, State.fixed_ite, ite_self, State.macPush_fixed]
    | split)

theorem State.ptpEligibility_fixed (s : State) (active : Bool) : (State.ptpEligibility s active).fixed = s.fixed := by
  unfold State.ptpEligibility
  repeat' (first
    | with_reducible rfl
    | simp only [State.fixed_time, State.fixed_ite, ite_self, State.bmca_fixed]
    | split)

theorem State.updTpo_fixed (s : State) (n : Nat) (f : Tpo → Tpo) : (State.updTpo s n f).fixed = s.fixed := by
  unfold State.updTpo
  simp only [State.fixed_time]

theorem State.tpoApply_fixed (s : State) (n : Nat) : (State.tpoApply s n).fixed = s.fixed := by
  unfold State.tpoApply
  repeat' (first
    | with_reducible rfl
    | simp only [State.fixed_ite, ite_self, State.raise_fixed, State.updTpo_fixed]
    | split)

theorem execTpoEdge_fixed (n : Fin 8) (s : State) : ∃ s', execTpoEdge n s = .next s' ∧ s'.fixed = s.fixed := by
  refine ⟨_, rfl, ?_⟩
  repeat' (first
    | with_reducible rfl
    | simp only [State.fixed_ite, ite_self, State.count_fixed, State.updTpo_fixed]
    | split)

end Sys2Proof.Machine
end

