-- ==== Sys2Proof/Laws/FrameChain.lean ====
section
/-! SUPPORT. The queue, the time and the security state pass unchanged through the operations of `Chain.lean`. -/

set_option linter.all false
set_option linter.unusedTactic false
set_option linter.unreachableTactic false
set_option linter.unusedSimpArgs false

namespace Sys2Proof.Machine

theorem State.updLink_fixed (s : State) (p : Nat) (f : Link → Link) : (State.updLink s p f).fixed = s.fixed := by
  unfold State.updLink
  simp only [State.fixed_chain]

theorem State.sendLink_fixed (s : State) (p type : Nat) (seq : Option Nat) (body : List Nat) : (State.sendLink s p type seq body).fixed = s.fixed := by
  unfold State.sendLink
  simp only [State.send_fixed, State.updLink_fixed]

theorem State.crcFail_fixed (s : State) (p : Nat) : (State.crcFail s p).fixed = s.fixed := by
  unfold State.crcFail
  simp only [State.bump_fixed]

theorem State.hold_fixed (s : State) (k : HeldPkt) : (State.hold s k).fixed = s.fixed := by
  unfold State.hold
  simp only [State.fixed_chain]

theorem State.deriveLatency_fixed (s : State) (p : Nat) : (State.deriveLatency s p).fixed = s.fixed := by
  unfold State.deriveLatency
  repeat' (first
    | with_reducible rfl
    | simp only [State.fixed_ite, ite_self, State.setPar_fixed]
    | split)

theorem State.measure_fixed (s : State) (p : Nat) (d : Int) : (State.measure s p d).fixed = s.fixed := by
  unfold State.measure
  repeat' (first
    | with_reducible rfl
    | simp only [State.fixed_ite, ite_self, State.deriveLatency_fixed, State.raise_fixed, State.setPar_fixed, State.updLink_fixed]
    | split)

theorem State.sendEcho_fixed (s : State) (p t1 : Nat) : (State.sendEcho s p t1).fixed = s.fixed := by
  unfold State.sendEcho
  simp only [State.sendLink_fixed, State.updLink_fixed]

theorem execEchoReq_fixed (p : Fin 20) (seq : BitVec 16) (crcOk : Bool) (turn : BitVec 40) (s : State) : ∃ s', execEchoReq p seq crcOk turn s = .next s' ∧ s'.fixed = s.fixed := by
  refine ⟨_, rfl, ?_⟩
  repeat' (first
    | with_reducible rfl
    | simp only [State.fixed_ite, ite_self, State.crcFail_fixed, State.hold_fixed, State.sendLink_fixed]
    | split)

theorem execEchoSendTimer_fixed (p : Fin 20) (t1 : Nat) (s : State) : ∃ s', execEchoSendTimer p t1 s = .next s' ∧ s'.fixed = s.fixed := by
  refine ⟨_, rfl, ?_⟩
  repeat' (first
    | with_reducible rfl
    | simp only [State.fixed_ite, ite_self, State.hold_fixed, State.sendEcho_fixed]
    | split)

theorem execEchoResp_fixed (p : Fin 20) (seq : BitVec 16) (turn : BitVec 40) (crcOk : Bool) (t2 : Nat) (s : State) : ∃ s', execEchoResp p seq turn crcOk t2 s = .next s' ∧ s'.fixed = s.fixed := by
  refine ⟨_, rfl, ?_⟩
  repeat' (first
    | with_reducible rfl
    | simp only [State.fixed_ite, ite_self, State.crcFail_fixed, State.measure_fixed, State.updLink_fixed]
    | split)

theorem execLatency_fixed (p : Fin 20) (body : LatencyBody) (crcOk : Bool) (s : State) : ∃ s', execLatency p body crcOk s = .next s' ∧ s'.fixed = s.fixed := by
  refine ⟨_, rfl, ?_⟩
  repeat' (first
    | with_reducible rfl
    | simp only [State.fixed_ite, ite_self, State.crcFail_fixed, State.deriveLatency_fixed, State.updLink_fixed]
    | split)

theorem State.sendLatency_fixed (s : State) (p : Nat) : (State.sendLatency s p).fixed = s.fixed := by
  unfold State.sendLatency
  repeat' (first
    | with_reducible rfl
    | simp only [State.fixed_ite, ite_self, State.sendLink_fixed]
    | split)

theorem execLatencySendTimer_fixed (p : Fin 20) (s : State) : ∃ s', execLatencySendTimer p s = .next s' ∧ s'.fixed = s.fixed := by
  refine ⟨_, rfl, ?_⟩
  repeat' (first
    | with_reducible rfl
    | simp only [State.fixed_ite, ite_self, State.hold_fixed, State.sendLatency_fixed]
    | split)

theorem execIdent_fixed (p : Fin 20) (body : BitVec 40) (crcOk : Bool) (s : State) : ∃ s', execIdent p body crcOk s = .next s' ∧ s'.fixed = s.fixed := by
  refine ⟨_, rfl, ?_⟩
  repeat' (first
    | with_reducible rfl
    | simp only [State.fixed_ite, ite_self, State.crcFail_fixed, State.raiseIf_fixed, State.setBlob_fixed, State.updLink_fixed]
    | split)

theorem State.sendIdent_fixed (s : State) (p : Nat) : (State.sendIdent s p).fixed = s.fixed := by
  unfold State.sendIdent
  repeat' (first
    | with_reducible rfl
    | simp only [State.fixed_ite, ite_self, State.sendLink_fixed]
    | split)

theorem execIdentSendTimer_fixed (p : Fin 20) (s : State) : ∃ s', execIdentSendTimer p s = .next s' ∧ s'.fixed = s.fixed := by
  refine ⟨_, rfl, ?_⟩
  repeat' (first
    | with_reducible rfl
    | simp only [State.fixed_ite, ite_self, State.hold_fixed, State.sendIdent_fixed]
    | split)

theorem execLatencyStaleTimer_fixed (p : Fin 20) (s : State) (tie : Bool) : ∃ s', execLatencyStaleTimer p s tie = .next s' ∧ s'.fixed = s.fixed := by
  refine ⟨_, rfl, ?_⟩
  repeat' (first
    | with_reducible rfl
    | simp only [State.fixed_ite, ite_self, State.raise_fixed, State.setPar_fixed, State.updLink_fixed]
    | split)

theorem State.ownQueue_fixed (s : State) (k : OwnPkt) : (State.ownQueue s k).fixed = s.fixed := by
  unfold State.ownQueue
  repeat' (first
    | with_reducible rfl
    | simp only [State.fixed_chain, State.fixed_ite, ite_self, State.raise_fixed]
    | split)

theorem State.memberFeed_fixed (s : State) (l : List OwnPkt) : (s.memberFeed l).fixed = s.fixed := by
  induction l generalizing s with
  | nil => rfl
  | cons k l ih =>
    simp only [State.memberFeed]
    split
    · rw [ih]
      rfl
    · rfl

theorem State.ctrlSpend_fixed (s : State) (c size : Nat) : (State.ctrlSpend s c size).fixed = s.fixed := by
  unfold State.ctrlSpend
  simp only [State.fixed_chain]

theorem State.headSend_fixed (s : State) (c dest size : Nat) (o : Out) : (State.headSend s c dest size o).fixed = s.fixed := by
  unfold State.headSend
  repeat' (first
    | with_reducible rfl
    | simp only [State.fixed_ite, ite_self, State.ctrlSpend_fixed, State.hold_fixed, State.send_fixed]
    | split)

theorem State.sendOn_fixed (s : State) (path : Path) (len : Nat) (positional : Bool) (o : Out) : (State.sendOn s path len positional o).fixed = s.fixed := by
  unfold State.sendOn
  repeat' (first
    | with_reducible rfl
    | simp only [State.fixed_ite, ite_self, State.headSend_fixed, State.ownQueue_fixed, State.send_fixed]
    | split)

theorem State.sendHeld_fixed (s : State) (k : HeldPkt) : (State.sendHeld s k).fixed = s.fixed := by
  unfold State.sendHeld
  repeat' (first
    | with_reducible rfl
    | simp only [State.fixed_ite, ite_self, State.send_fixed, State.sendEcho_fixed, State.sendIdent_fixed, State.sendLatency_fixed, State.sendLink_fixed]
    | split)

theorem State.guardEnd_fixed (s : State) : (State.guardEnd s).fixed = s.fixed := by
  unfold State.guardEnd
  repeat' (first
    | with_reducible rfl
    | simp only [State.fixed_chain, State.sendHeld_fixed]
    | (with_reducible refine (State.each_keeps State.fixed _ _ _ fun _ _ => ?_).trans ?_))

theorem State.sendMember_fixed (s : State) (len : Nat) (o : Out) : (State.sendMember s len o).fixed = s.fixed := by
  unfold State.sendMember
  simp only [State.ownQueue_fixed]

theorem State.sendMemberList_fixed (s : State) (kind : Nat) (values : List (Nat × Int)) : (State.sendMemberList s kind values).fixed = s.fixed := by
  unfold State.sendMemberList
  simp only [State.fixed_chain, State.memberFeed_fixed]

theorem State.proxyGrants_fixed (s : State) : (State.proxyGrants s).fixed = s.fixed := by
  unfold State.proxyGrants
  repeat' (first
    | with_reducible rfl
    | simp only [State.fixed_chain, State.fixed_ite, ite_self, State.send_fixed]
    | (with_reducible refine (State.each_keeps State.fixed _ _ _ fun _ _ => ?_).trans ?_)
    | split)

theorem State.proxyTick_fixed (s : State) : (State.proxyTick s).fixed = s.fixed := by
  unfold State.proxyTick
  repeat' (first
    | with_reducible rfl
    | simp only [State.fixed_chain, State.fixed_ite, ite_self, State.proxyGrants_fixed, State.raise_fixed]
    | (with_reducible refine (State.each_keeps State.fixed _ _ _ fun _ _ => ?_).trans ?_)
    | split)

theorem State.proxyEnd_fixed (s : State) (p : Nat) : (State.proxyEnd s p).fixed = s.fixed := by
  unfold State.proxyEnd
  repeat' (first
    | with_reducible rfl
    | simp only [State.fixed_chain, State.fixed_ite, ite_self, State.raise_fixed]
    | split)

theorem State.sendPartner_fixed (s : State) (len : Nat) (o : Out) : (State.sendPartner s len o).fixed = s.fixed := by
  unfold State.sendPartner
  repeat' (first
    | with_reducible rfl
    | simp only [State.fixed_ite, ite_self, State.headSend_fixed, State.macPush_fixed, State.send_fixed]
    | split)

theorem State.useMarker_fixed (s : State) (e : Int) : (State.useMarker s e).fixed = s.fixed := by
  unfold State.useMarker
  repeat' (first
    | with_reducible rfl
    | simp only [State.fixed_time, State.fixed_ite, ite_self, State.servoSample_fixed, State.stepTo_fixed]
    | split)

theorem State.markerMissed_fixed (s : State) (p : Nat) : (State.markerMissed s p).fixed = s.fixed := by
  unfold State.markerMissed
  repeat' (first
    | with_reducible rfl
    | simp only [State.fixed_chain, State.fixed_ite, ite_self, State.useMarker_fixed]
    | split)

theorem State.markerTime_fixed (s : State) (p : Nat) (m : Marker) : (State.markerTime s p m).fixed = s.fixed := by
  unfold State.markerTime
  repeat' (first
    | with_reducible rfl
    | simp only [State.fixed_time, State.fixed_ite, ite_self, State.raiseLimited_fixed, State.setPar_fixed, State.useMarker_fixed]
    | split)

theorem State.markerTick_fixed (s : State) : (State.markerTick s).fixed = s.fixed := by
  unfold State.markerTick
  repeat' (first
    | with_reducible rfl
    | simp only [State.fixed_time, State.fixed_ite, ite_self]
    | split)

end Sys2Proof.Machine
end

