-- ==== Sys2Proof/Laws/FrameDpRx.lean ====
section
/-! SUPPORT. The queue, the time and the security state pass unchanged through the operations of `DpRx.lean`. -/

set_option linter.all false
set_option linter.unusedTactic false
set_option linter.unreachableTactic false
set_option linter.unusedSimpArgs false

namespace Sys2Proof.Machine

theorem State.updDp_fixed (s : State) (n : Nat) (f : DpRx → DpRx) : (State.updDp s n f).fixed = s.fixed := by
  unfold State.updDp
  simp only [State.fixed_lane]

theorem State.setDpcd_fixed (s : State) (n a v : Nat) : (State.setDpcd s n a v).fixed = s.fixed := by
  unfold State.setDpcd
  simp only [State.updDp_fixed]

theorem State.laneStatus_fixed (s : State) (n v al : Nat) : (State.laneStatus s n v al).fixed = s.fixed := by
  unfold State.laneStatus
  simp only [State.setDpcd_fixed]

theorem State.dpDamage_fixed (s : State) (n : Nat) : (State.dpDamage s n).fixed = s.fixed := by
  unfold State.dpDamage
  repeat' (first
    | with_reducible rfl
    | simp only [State.fixed_src, State.fixed_ite, ite_self, State.raise_fixed]
    | split)

theorem State.dpUntrain_fixed (s : State) (n st : Nat) : (State.dpUntrain s n st).fixed = s.fixed := by
  unfold State.dpUntrain
  repeat' (first
    | with_reducible rfl
    | simp only [State.fixed_ite, ite_self, State.dpDamage_fixed, State.scanCheck_fixed, State.setPar_fixed, State.updDp_fixed]
    | split)

theorem State.dpTrain_fixed (s : State) (n pat : Nat) (cr eq : Bool) : (State.dpTrain s n pat cr eq).fixed = s.fixed := by
  unfold State.dpTrain
  repeat' (first
    | with_reducible rfl
    | simp only [State.fixed_ite, ite_self, State.dpUntrain_fixed, State.laneStatus_fixed, State.raise_fixed, State.setDpcd_fixed, State.setPar_fixed, State.updDp_fixed]
    | split)

theorem State.auxWrite_fixed (s : State) (n : Nat) (cr eq : Bool) (a : Nat) (bs : List Byte) :
    (s.auxWrite n cr eq a bs).fixed = s.fixed := by
  induction bs generalizing s a with
  | nil => rfl
  | cons b bs ih =>
    simp only [State.auxWrite]
    rw [ih]
    simp only [State.fixed_phase, State.fixed_free, State.fixed_outbox, State.fixed_dict, State.fixed_blobs, State.fixed_start, State.fixed_od, State.fixed_ev, State.fixed_lane, State.fixed_time, State.fixed_therm, State.fixed_chain, State.fixed_red, State.fixed_src, State.fixed_comp, State.fixed_scan, State.fixed_store, State.fixed_tile, State.fixed_drive, State.fixed_health, State.fixed_pump, State.fixed_fix, State.fixed_eth, State.fixed_dram, State.fixed_upd, State.fixed_perf, State.fixed_ite, ite_self, State.when, State.dpTrain_fixed, State.setDpcd_fixed]

theorem execAuxRequest_fixed (n : Fin 4) (req : AuxReq) (cr eq : Bool) (s : State) : ∃ s', execAuxRequest n req cr eq s = .next s' ∧ s'.fixed = s.fixed := by
  refine ⟨_, rfl, ?_⟩
  repeat' (first
    | with_reducible rfl
    | simp only [State.fixed_ite, ite_self, State.auxWrite_fixed, State.send_fixed, State.updDp_fixed]
    | split)

theorem State.dpLinkLoss_fixed (s : State) (n lane : Nat) : (State.dpLinkLoss s n lane).fixed = s.fixed := by
  unfold State.dpLinkLoss
  repeat' (first
    | with_reducible rfl
    | simp only [State.fixed_ite, ite_self, State.dpUntrain_fixed, State.raise_fixed, State.setDpcd_fixed, State.updDp_fixed]
    | split)

theorem execDpLaneLockLoss_fixed (n : Fin 4) (lane : Fin 4) (s : State) : ∃ s', execDpLaneLockLoss n lane s = .next s' ∧ s'.fixed = s.fixed := by
  refine ⟨_, rfl, ?_⟩
  simp only [State.dpLinkLoss_fixed]

theorem State.quadLeaves_fixed (s : State) (q : Nat) : (State.quadLeaves s q).fixed = s.fixed := by
  unfold State.quadLeaves
  repeat' (first
    | with_reducible rfl
    | simp only [State.fixed_ite, ite_self, State.dpLinkLoss_fixed, State.laneGo_fixed]
    | (with_reducible refine (State.each_keeps State.fixed _ _ _ fun _ _ => ?_).trans ?_)
    | split)

theorem State.quadReturns_fixed (s : State) (q : Nat) : (State.quadReturns s q).fixed = s.fixed := by
  unfold State.quadReturns
  repeat' (first
    | with_reducible rfl
    | simp only [State.fixed_ite, ite_self, State.laneGo_fixed, State.updLane_fixed]
    | (with_reducible refine (State.each_keeps State.fixed _ _ _ fun _ _ => ?_).trans ?_)
    | split)

theorem execQuadPllLockLoss_fixed (q : Fin 8) (s : State) : ∃ s', execQuadPllLockLoss q s = .next s' ∧ s'.fixed = s.fixed := by
  refine ⟨_, rfl, ?_⟩
  repeat' (first
    | with_reducible rfl
    | simp only [State.fixed_lane, State.fixed_ite, ite_self, State.quadLeaves_fixed, State.raise_fixed]
    | split)

theorem execQuadPllRelock_fixed (q : Fin 8) (s : State) : ∃ s', execQuadPllRelock q s = .next s' ∧ s'.fixed = s.fixed := by
  refine ⟨_, rfl, ?_⟩
  repeat' (first
    | with_reducible rfl
    | simp only [State.fixed_lane, State.fixed_ite, ite_self, State.quadReturns_fixed]
    | split)

theorem State.dpSymbolErrors_fixed (s : State) (n lane k : Nat) : (State.dpSymbolErrors s n lane k).fixed = s.fixed := by
  unfold State.dpSymbolErrors
  simp only [State.bumpBy_fixed, State.setDpcd_fixed]

theorem execHpdPulseEnd_fixed (n : Fin 4) (s : State) : ∃ s', execHpdPulseEnd n s = .next s' ∧ s'.fixed = s.fixed := by
  refine ⟨_, rfl, ?_⟩
  simp only [State.updDp_fixed]

theorem execHpdCycleEnd_fixed (n : Fin 4) (s : State) : ∃ s', execHpdCycleEnd n s = .next s' ∧ s'.fixed = s.fixed := by
  refine ⟨_, rfl, ?_⟩
  simp only [State.updDp_fixed]

theorem execMsaReceived_fixed (n : Fin 4) (m : MsaInfo) (s : State) : ∃ s', execMsaReceived n m s = .next s' ∧ s'.fixed = s.fixed := by
  refine ⟨_, rfl, ?_⟩
  repeat' (first
    | with_reducible rfl
    | simp only [State.fixed_ite, ite_self, State.dpDamage_fixed, State.raise_fixed, State.raiseIf_fixed, State.setBlob_fixed, State.updDp_fixed]
    | split)

theorem State.hpdCycle_fixed (s : State) (n : Nat) : (State.hpdCycle s n).fixed = s.fixed := by
  unfold State.hpdCycle
  repeat' (first
    | with_reducible rfl
    | simp only [State.fixed_ite, ite_self, State.dpUntrain_fixed, State.raise_fixed, State.updDp_fixed]
    | split)

theorem State.hpdDrop_fixed (s before : State) (n : Nat) : (State.hpdDrop s before n).fixed = s.fixed := by
  unfold State.hpdDrop
  repeat' (first
    | with_reducible rfl
    | simp only [State.fixed_ite, ite_self, State.dpUntrain_fixed]
    | split)

theorem execInvalidSymbol_fixed (n : Fin 32) (gap : Nat) (s : State) (pos : Bool) (code : BitVec 10) (misaligned : Bool) : ∃ s', execInvalidSymbol n gap s pos code misaligned = .next s' ∧ s'.fixed = s.fixed := by
  refine ⟨_, rfl, ?_⟩
  repeat' (first
    | with_reducible rfl
    | simp only [State.fixed_ite, ite_self, State.bump_fixed, State.count_fixed, State.dpSymbolErrors_fixed, State.poisonSymbol_fixed, State.raiseLimited_fixed, State.syncLoss_fixed, State.updLane_fixed]
    | split)

end Sys2Proof.Machine
end

