-- ==== Sys2Proof/Laws/FrameSource.lean ====
section
/-! SUPPORT. The queue, the time and the security state pass unchanged through the operations of `Source.lean`. -/

set_option linter.all false
set_option linter.unusedTactic false
set_option linter.unreachableTactic false
set_option linter.unusedSimpArgs false

namespace Sys2Proof.Machine

theorem State.updBuf_fixed (s : State) (src b : Nat) (f : Buf → Buf) : (State.updBuf s src b f).fixed = s.fixed := by
  unfold State.updBuf
  simp only [State.fixed_src]

theorem State.putBuf_fixed (s : State) (src b off : Nat) (bs : List Byte) : (s.putBuf src b off bs).fixed = s.fixed := by
  induction bs generalizing s off with
  | nil => rfl
  | cons x xs ih =>
    rw [State.putBuf, ih]
    rfl

theorem State.undefBuf_fixed (s : State) (src b : Nat) : (State.undefBuf s src b).fixed = s.fixed := by
  unfold State.undefBuf
  repeat' (first
    | with_reducible rfl
    | simp only [State.fixed_free, State.fixed_src, State.updBuf_fixed]
    | simp only [State.fixed_mk, State.fixed_fold])

theorem State.updLayer_fixed (s : State) (n : Nat) (f : Layer → Layer) : (State.updLayer s n f).fixed = s.fixed := by
  unfold State.updLayer
  simp only [State.fixed_src]

theorem State.updChan_fixed (s : State) (c : Nat) (f : Chan → Chan) : (State.updChan s c f).fixed = s.fixed := by
  unfold State.updChan
  simp only [State.fixed_src]

theorem State.damageFill_fixed (s : State) (i f : Nat) : (State.damageFill s i f).fixed = s.fixed := by
  unfold State.damageFill
  repeat' (first
    | with_reducible rfl
    | simp only [State.fixed_src, State.fixed_ite, ite_self, State.bump_fixed, State.raise_fixed, State.updBuf_fixed]
    | split)

theorem State.ingressDrop_fixed (s : State) (c : Nat) (v : VideoPacket) : (State.ingressDrop s c v).fixed = s.fixed := by
  unfold State.ingressDrop
  repeat' (first
    | with_reducible rfl
    | simp only [State.fixed_ite, ite_self, State.bump_fixed, State.damageFill_fixed, State.raise_fixed]
    | split)

theorem State.updPart_fixed (s : State) (c f : Nat) (g : FillPart → FillPart) : (State.updPart s c f g).fixed = s.fixed := by
  unfold State.updPart
  repeat' (first
    | with_reducible rfl
    | simp only [State.fixed_ite, ite_self, State.updChan_fixed]
    | split)

theorem State.openPart_fixed (s : State) (c i f : Nat) : (State.openPart s c i f).fixed = s.fixed := by
  unfold State.openPart
  repeat' (first
    | with_reducible rfl
    | simp only [State.fixed_ite, ite_self, State.damageFill_fixed, State.updChan_fixed]
    | (with_reducible refine (State.each_keeps State.fixed _ _ _ fun _ _ => ?_).trans ?_)
    | split)

theorem State.fillBusy_fixed (s : State) (i f : Nat) : (State.fillBusy s i f).fixed = s.fixed := by
  unfold State.fillBusy
  repeat' (first
    | with_reducible rfl
    | simp only [State.fixed_src, State.fixed_ite, ite_self, State.damageFill_fixed, State.raise_fixed]
    | split)

theorem State.takeData_fixed (s : State) (c i : Nat) (v : VideoPacket) : (State.takeData s c i v).fixed = s.fixed := by
  unfold State.takeData
  repeat' (first
    | with_reducible rfl
    | simp only [State.fixed_src, State.fixed_ite, ite_self, State.count_fixed, State.openPart_fixed, State.putBuf_fixed, State.updBuf_fixed, State.updPart_fixed]
    | split)

theorem State.takeFence_fixed (s : State) (c i f : Nat) : (State.takeFence s c i f).fixed = s.fixed := by
  unfold State.takeFence
  repeat' (first
    | with_reducible rfl
    | simp only [State.fixed_ite, ite_self, State.damageFill_fixed, State.openPart_fixed, State.raise_fixed, State.updChan_fixed, State.updPart_fixed]
    | split)

theorem State.takeIngress_fixed (s : State) (c : Nat) (v : VideoPacket) : (State.takeIngress s c v).fixed = s.fixed := by
  unfold State.takeIngress
  repeat' (first
    | with_reducible rfl
    | simp only [State.fixed_src, State.fixed_ite, ite_self, State.damageFill_fixed, State.fillBusy_fixed, State.ingressDrop_fixed, State.takeData_fixed, State.takeFence_fixed]
    | split)

theorem execIngressPacket_fixed (c : Fin 16) (v : VideoPacket) (s : State) : ∃ s', execIngressPacket c v s = .next s' ∧ s'.fixed = s.fixed := by
  refine ⟨_, rfl, ?_⟩
  simp only [State.takeIngress_fixed]

theorem execFencePacket_fixed (c : Fin 16) (v : VideoPacket) (s : State) : ∃ s', execFencePacket c v s = .next s' ∧ s'.fixed = s.fixed := by
  refine ⟨_, rfl, ?_⟩
  simp only [State.takeIngress_fixed]

theorem State.advanceFence_fixed (s : State) (i f : Nat) : (State.advanceFence s i f).fixed = s.fixed := by
  unfold State.advanceFence
  repeat' (first
    | with_reducible rfl
    | simp only [State.fixed_src, State.fixed_ite, ite_self, State.bump_fixed, State.setPar_fixed, State.updBuf_fixed]
    | (with_reducible refine (State.each_keeps State.fixed _ _ _ fun _ _ => ?_).trans ?_)
    | split)

theorem execFenceWriteAck_fixed (c : Fin 16) (s : State) : ∃ s', execFenceWriteAck c s = .next s' ∧ s'.fixed = s.fixed := by
  refine ⟨_, rfl, ?_⟩
  repeat' (first
    | with_reducible rfl
    | simp only [State.fixed_ite, ite_self, State.advanceFence_fixed, State.updChan_fixed]
    | split)

theorem State.channelsMoved_fixed (s before : State) : (State.channelsMoved s before).fixed = s.fixed := by
  unfold State.channelsMoved
  repeat' (first
    | with_reducible rfl
    | simp only [State.fixed_ite, ite_self, State.advanceFence_fixed, State.updChan_fixed]
    | (with_reducible refine (State.each_keeps State.fixed _ _ _ fun _ _ => ?_).trans ?_)
    | split)

theorem State.stillDataWrite_fixed (s : State) (i off : Nat) (bs : List Byte) : (State.stillDataWrite s i off bs).fixed = s.fixed := by
  unfold State.stillDataWrite
  simp only [State.putBuf_fixed]

theorem State.stillSealWrite_fixed (s : State) (i : Nat) : (State.stillSealWrite s i).fixed = s.fixed := by
  unfold State.stillSealWrite
  repeat' (first
    | with_reducible rfl
    | simp only [State.fixed_src, State.bump_fixed, State.undefBuf_fixed, State.updBuf_fixed]
    | split)

theorem execDpFrameStart_fixed (n : Fin 4) (s : State) : ∃ s', execDpFrameStart n s = .next s' ∧ s'.fixed = s.fixed := by
  refine ⟨_, rfl, ?_⟩
  repeat' (first
    | with_reducible rfl
    | simp only [State.fixed_src, State.fixed_ite, ite_self, State.raise_fixed, State.raiseLimited_fixed, State.updBuf_fixed]
    | split)

theorem execDpFrameEnd_fixed (n : Fin 4) (clean : Bool) (pixels : List Byte) (s : State) : ∃ s', execDpFrameEnd n clean pixels s = .next s' ∧ s'.fixed = s.fixed := by
  refine ⟨_, rfl, ?_⟩
  repeat' (first
    | with_reducible rfl
    | simp only [State.fixed_src, State.fixed_ite, ite_self, State.bump_fixed, State.dpDamage_fixed, State.putBuf_fixed, State.updBuf_fixed]
    | split)

theorem State.showBuf_fixed (s : State) (n : Nat) (b : Option Nat) : (State.showBuf s n b).fixed = s.fixed := by
  unfold State.showBuf
  repeat' (first
    | with_reducible rfl
    | simp only [State.fixed_src, State.fixed_ite, ite_self, State.setPar_fixed, State.updLayer_fixed]
    | split)

theorem State.rebind_fixed (s : State) (k n : Nat) (tie : Bool) : (State.rebind s k n tie).fixed = s.fixed := by
  unfold State.rebind
  repeat' (first
    | with_reducible rfl
    | simp only [State.fixed_src, State.fixed_ite, ite_self, State.raiseIf_fixed, State.showBuf_fixed, State.updLayer_fixed]
    | split)

theorem State.judgeLayer_fixed (s : State) (k n : Nat) : (State.judgeLayer s k n).fixed = s.fixed := by
  unfold State.judgeLayer
  repeat' (first
    | with_reducible rfl
    | simp only [State.fixed_src, State.fixed_ite, ite_self, State.raiseIf_fixed, State.setPar_fixed, State.updLayer_fixed]
    | split)

theorem State.sourceReset_fixed (s : State) (src : Nat) : (State.sourceReset s src).fixed = s.fixed := by
  unfold State.sourceReset
  repeat' (first
    | with_reducible rfl
    | simp only [State.fixed_src, State.fixed_ite, ite_self, State.setPar_fixed, State.undefBuf_fixed, State.updBuf_fixed, State.updChan_fixed, State.updLayer_fixed]
    | (with_reducible refine (State.each_keeps State.fixed _ _ _ fun _ _ => ?_).trans ?_)
    | split)

theorem State.sendFlipSet_fixed (s : State) (k : Nat) : (State.sendFlipSet s k).fixed = s.fixed := by
  unfold State.sendFlipSet
  repeat' (first
    | with_reducible rfl
    | simp only [State.fixed_ite, ite_self, State.send_fixed, State.sendLink_fixed, State.sendPartner_fixed]
    | (with_reducible refine (State.each_keeps State.fixed _ _ _ fun _ _ => ?_).trans ?_)
    | split)

theorem State.settleFlips_fixed (s : State) (k : Nat) : (State.settleFlips s k).fixed = s.fixed := by
  unfold State.settleFlips
  repeat' (first
    | with_reducible rfl
    | simp only [State.bump_fixed, State.judgeLayer_fixed]
    | (with_reducible refine (State.each_keeps State.fixed _ _ _ fun _ _ => ?_).trans ?_))

theorem State.flipLatch_fixed (s : State) (k : Nat) (tie : Bool) : (State.flipLatch s k tie).fixed = s.fixed := by
  unfold State.flipLatch
  repeat' (first
    | with_reducible rfl
    | simp only [State.fixed_src, State.fixed_ite, ite_self, State.rebind_fixed, State.sendFlipSet_fixed, State.settleFlips_fixed, State.showBuf_fixed, State.updLayer_fixed]
    | (with_reducible refine (State.each_keeps State.fixed _ _ _ fun _ _ => ?_).trans ?_)
    | split)

theorem State.followSet_fixed (s : State) (set : List (Fin 16 × List Nat)) (n : Nat) : (State.followSet s set n).fixed = s.fixed := by
  unfold State.followSet
  repeat' (first
    | with_reducible rfl
    | simp only [State.fixed_src, State.fixed_ite, ite_self, State.raise_fixed, State.showBuf_fixed]
    | split)

theorem State.judgeFlips_fixed (s : State) : (State.judgeFlips s).fixed = s.fixed := by
  unfold State.judgeFlips
  repeat' (first
    | with_reducible rfl
    | simp only [State.fixed_src, State.updLayer_fixed]
    | (with_reducible refine (State.each_keeps State.fixed _ _ _ fun _ _ => ?_).trans ?_)
    | (with_reducible refine (State.foldl_keeps State.fixed _ _ _ fun _ _ => ?_).trans ?_)
    | split)

theorem State.freeLeaving_fixed (s : State) : (State.freeLeaving s).fixed = s.fixed := by
  unfold State.freeLeaving
  repeat' (first
    | with_reducible rfl
    | simp only [State.fixed_src, State.fixed_ite, ite_self, State.updBuf_fixed]
    | (with_reducible refine (State.each_keeps State.fixed _ _ _ fun _ _ => ?_).trans ?_)
    | split)

end Sys2Proof.Machine
end

