-- ==== Sys2Proof/Laws/FrameCompose.lean ====
section
/-! SUPPORT. The queue, the time and the security state pass unchanged through the operations of `Compose.lean`. -/

set_option linter.all false
set_option linter.unusedTactic false
set_option linter.unreachableTactic false
set_option linter.unusedSimpArgs false

namespace Sys2Proof.Machine

theorem State.judgeScale_fixed (s : State) (n : Nat) : (State.judgeScale s n).fixed = s.fixed := by
  unfold State.judgeScale
  simp only [State.raiseIf_fixed, State.updLayer_fixed]

theorem State.kneeStep_fixed (s : State) (k : Nat) : (State.kneeStep s k).fixed = s.fixed := by
  unfold State.kneeStep
  repeat' (first
    | with_reducible rfl
    | simp only [State.fixed_comp, State.fixed_ite, ite_self, State.setPar_fixed]
    | (with_reducible refine (State.each_keeps State.fixed _ _ _ fun _ _ => ?_).trans ?_)
    | split)

theorem State.putCanvas_fixed (s : State) (k : Nat) (c : Canvas) : (State.putCanvas s k c).fixed = s.fixed := by
  unfold State.putCanvas
  simp only [State.fixed_comp]

theorem State.composeStart_fixed (s : State) (k : Nat) : (State.composeStart s k).fixed = s.fixed := by
  unfold State.composeStart
  repeat' (first
    | with_reducible rfl
    | simp only [State.fixed_therm, State.fixed_comp, State.fixed_ite, ite_self, State.kneeStep_fixed, State.putCanvas_fixed]
    | simp only [State.fixed_mk, State.fixed_fold]
    | split)

theorem State.shedTick_fixed (s : State) : (State.shedTick s).fixed = s.fixed := by
  unfold State.shedTick
  repeat' (first
    | with_reducible rfl
    | simp only [State.fixed_comp, State.fixed_ite, ite_self, State.raise_fixed]
    | split)

theorem State.dikeTick_fixed (s : State) : (State.dikeTick s).fixed = s.fixed := by
  unfold State.dikeTick
  simp only [State.fixed_comp, State.raiseIf_fixed]

theorem State.composeMiss_fixed (s : State) (k : Nat) : (State.composeMiss s k).fixed = s.fixed := by
  unfold State.composeMiss
  repeat' (first
    | with_reducible rfl
    | simp only [State.fixed_comp, State.fixed_scan, State.fixed_ite, ite_self, State.bump_fixed]
    | simp only [State.fixed_mk, State.fixed_fold]
    | split)

theorem State.polderBuild_fixed (s : State) : (State.polderBuild s).fixed = s.fixed := by
  unfold State.polderBuild
  repeat' (first
    | with_reducible rfl
    | simp only [State.fixed_comp, State.fixed_ite, ite_self, State.bgPauseStart_fixed]
    | split)

theorem State.polderStill_fixed (s : State) (i : Nat) : (State.polderStill s i).fixed = s.fixed := by
  unfold State.polderStill
  repeat' (first
    | with_reducible rfl
    | simp only [State.fixed_ite, ite_self, State.polderBuild_fixed]
    | split)

theorem State.polderCommit_fixed (s : State) (k : Nat) : (State.polderCommit s k).fixed = s.fixed := by
  unfold State.polderCommit
  simp only [State.fixed_comp, State.polderBuild_fixed]

theorem State.polderCancel_fixed (s : State) : (State.polderCancel s).fixed = s.fixed := by
  unfold State.polderCancel
  repeat' (first
    | with_reducible rfl
    | simp only [State.fixed_comp, State.fixed_ite, ite_self]
    | split)

theorem execPolderBuildComplete_fixed (s : State) : ∃ s', execPolderBuildComplete s = .next s' ∧ s'.fixed = s.fixed := by
  refine ⟨_, rfl, ?_⟩
  repeat' (first
    | with_reducible rfl
    | simp only [State.fixed_comp, State.fixed_ite, ite_self, State.bgPauseStart_fixed, State.raise_fixed]
    | (with_reducible refine (State.foldl_keeps State.fixed _ _ _ fun _ _ => ?_).trans ?_)
    | split)

theorem State.polderLatch_fixed (s : State) : (State.polderLatch s).fixed = s.fixed := by
  unfold State.polderLatch
  repeat' (first
    | with_reducible rfl
    | simp only [State.fixed_comp, State.fixed_ite, ite_self]
    | split)

theorem State.polderTick_fixed (s : State) (k : Nat) (tie : Bool) : (State.polderTick s k tie).fixed = s.fixed := by
  unfold State.polderTick
  repeat' (first
    | with_reducible rfl
    | simp only [State.fixed_comp, State.fixed_ite, ite_self, State.raise_fixed]
    | split)

theorem State.judgeShown_fixed (s : State) : (State.judgeShown s).fixed = s.fixed := by
  unfold State.judgeShown
  repeat' (first
    | with_reducible rfl
    | simp only [State.judgeScale_fixed, State.polderLatch_fixed]
    | (with_reducible refine (State.each_keeps State.fixed _ _ _ fun _ _ => ?_).trans ?_))

theorem execFlipSet_fixed (k : Nat) (set : List (Fin 16 × List Nat)) (s : State) : ∃ s', execFlipSet k set s = .next s' ∧ s'.fixed = s.fixed := by
  refine ⟨_, rfl, ?_⟩
  repeat' (first
    | with_reducible rfl
    | simp only [State.fixed_src, State.fixed_ite, ite_self, State.followSet_fixed, State.judgeFlips_fixed, State.judgeShown_fixed, State.settleFlips_fixed]
    | (with_reducible refine (State.each_keeps State.fixed _ _ _ fun _ _ => ?_).trans ?_)
    | split)

theorem execFlipSetDeadline_fixed (k : Nat) (s : State) : ∃ s', execFlipSetDeadline k s = .next s' ∧ s'.fixed = s.fixed := by
  refine ⟨_, rfl, ?_⟩
  repeat' (first
    | with_reducible rfl
    | simp only [State.fixed_src, State.fixed_ite, ite_self, State.composeMiss_fixed, State.raise_fixed, State.settleFlips_fixed]
    | split)

theorem State.budgetLatch_fixed (s : State) : (State.budgetLatch s).fixed = s.fixed := by
  unfold State.budgetLatch
  simp only [State.setBlob_fixed, State.setPar_fixed]

end Sys2Proof.Machine
end

