-- ==== Sys2Proof/Laws/FrameScanout.lean ====
section
/-! SUPPORT. The queue, the time and the security state pass unchanged through the operations of `Scanout.lean`. -/

set_option linter.all false
set_option linter.unusedTactic false
set_option linter.unreachableTactic false
set_option linter.unusedSimpArgs false

namespace Sys2Proof.Machine

theorem State.chainLoads_fixed (s : State) : (State.chainLoads s).fixed = s.fixed := by
  unfold State.chainLoads
  repeat' (first
    | with_reducible rfl
    | simp only [State.fixed_ite, ite_self, State.setPar_fixed]
    | (with_reducible refine (State.each_keeps State.fixed _ _ _ fun _ _ => ?_).trans ?_)
    | split)

theorem execChainLatencyRead_fixed (c : Fin 16) (result : Option (BitVec 64)) (s : State) : ∃ s', execChainLatencyRead c result s = .next s' ∧ s'.fixed = s.fixed := by
  refine ⟨_, rfl, ?_⟩
  repeat' (first
    | with_reducible rfl
    | simp only [State.fixed_chain, State.fixed_ite, ite_self, State.headSend_fixed, State.setPar_fixed]
    | split)

theorem execChainLoadRecompute_fixed (s : State) : ∃ s', execChainLoadRecompute s = .next s' ∧ s'.fixed = s.fixed := by
  refine ⟨_, rfl, ?_⟩
  repeat' (first
    | with_reducible rfl
    | simp only [State.fixed_ite, ite_self, State.chainLoads_fixed]
    | split)

theorem State.bindLatch_fixed (s : State) (k : Nat) : (s.bindLatch k).fixed = s.fixed := by
  have h (t : State) (b : List Binding) : ({ t with scan := { t.scan with binds := b } } : State).fixed = t.fixed := rfl
  unfold State.bindLatch
  simp only
  rw [h]
  refine (State.each_keeps State.fixed _ _ _ fun _ _ => ?_).trans ?_
  · rw [State.setPar_fixed]
  · rw [State.setPar_fixed]

theorem State.updStreamer_fixed (s : State) (c : Nat) (f : Streamer → Streamer) : (State.updStreamer s c f).fixed = s.fixed := by
  unfold State.updStreamer
  simp only [State.fixed_scan]

theorem State.wellFill_fixed (s : State) (c n : Nat) : (State.wellFill s c n).fixed = s.fixed := by
  unfold State.wellFill
  repeat' (first
    | with_reducible rfl
    | simp only [State.fixed_ite, ite_self, State.updStreamer_fixed]
    | split)

theorem State.relayGrants_fixed (s : State) (c : Nat) : (State.relayGrants s c).fixed = s.fixed := by
  unfold State.relayGrants
  repeat' (first
    | with_reducible rfl
    | simp only [State.fixed_upd, State.fixed_ite, ite_self, State.send_fixed]
    | (with_reducible refine (State.each_keeps State.fixed _ _ _ fun _ _ => ?_).trans ?_)
    | split)

theorem State.streamerDone_fixed (s : State) (c : Nat) : (State.streamerDone s c).fixed = s.fixed := by
  unfold State.streamerDone
  repeat' (first
    | with_reducible rfl
    | simp only [State.fixed_ite, ite_self, State.relayGrants_fixed, State.setPar_fixed, State.updStreamer_fixed]
    | split)

theorem State.sendVideo_fixed (s : State) (c : Nat) (len index count flags : Nat) (last : Bool) (sig : Nat) (payload : List Byte) : (State.sendVideo s c len index count flags last sig payload).fixed = s.fixed := by
  unfold State.sendVideo
  repeat' (first
    | with_reducible rfl
    | simp only [State.fixed_chain, State.fixed_red, State.fixed_ite, ite_self, State.send_fixed, State.updStreamer_fixed]
    | simp only [State.fixed_mk, State.fixed_fold]
    | split)

theorem State.endRegion_fixed (s : State) (c : Nat) : (State.endRegion s c).fixed = s.fixed := by
  unfold State.endRegion
  repeat' (first
    | with_reducible rfl
    | simp only [State.fixed_ite, ite_self, State.sendVideo_fixed, State.streamerDone_fixed, State.updStreamer_fixed]
    | split)

theorem State.scanLate_fixed (s : State) (c : Nat) : (State.scanLate s c).fixed = s.fixed := by
  unfold State.scanLate
  repeat' (first
    | with_reducible rfl
    | simp only [State.fixed_ite, ite_self, State.bumpBy_fixed, State.endRegion_fixed, State.raiseIf_fixed, State.streamerDone_fixed, State.updStreamer_fixed]
    | split)

theorem State.wellDry_fixed (s : State) (c : Nat) : (State.wellDry s c).fixed = s.fixed := by
  unfold State.wellDry
  simp only [State.bump_fixed, State.count_fixed, State.endRegion_fixed, State.raiseIf_fixed, State.updStreamer_fixed]

theorem execScanoutPacketStart_fixed (c : Fin 16) (s : State) : ∃ s', execScanoutPacketStart c s = .next s' ∧ s'.fixed = s.fixed := by
  refine ⟨_, rfl, ?_⟩
  repeat' (first
    | with_reducible rfl
    | simp only [State.fixed_free, State.fixed_ite, ite_self, State.endRegion_fixed, State.scanLate_fixed, State.sendVideo_fixed, State.streamerDone_fixed, State.updStreamer_fixed, State.wellDry_fixed]
    | split)

theorem execDryLimitExpiry_fixed (c : Fin 16) (s : State) : ∃ s', execDryLimitExpiry c s = .next s' ∧ s'.fixed = s.fixed := by
  refine ⟨_, rfl, ?_⟩
  repeat' (first
    | with_reducible rfl
    | simp only [State.fixed_ite, ite_self, State.wellDry_fixed]
    | split)

theorem execScanEndPoint_fixed (c : Fin 16) (s : State) : ∃ s', execScanEndPoint c s = .next s' ∧ s'.fixed = s.fixed := by
  refine ⟨_, rfl, ?_⟩
  simp only [State.scanLate_fixed]

theorem State.canvasPoisoned_fixed (s : State) (c region : Nat) : (State.canvasPoisoned s c region).fixed = s.fixed := by
  unfold State.canvasPoisoned
  repeat' (first
    | with_reducible rfl
    | simp only [State.fixed_ite, ite_self, State.endRegion_fixed, State.raise_fixed, State.updStreamer_fixed]
    | split)

theorem State.spanCheck_fixed (s : State) : (State.spanCheck s).fixed = s.fixed := by
  unfold State.spanCheck
  repeat' (first
    | with_reducible rfl
    | simp only [State.fixed_ite, ite_self, State.raiseLimited_fixed]
    | split)

theorem State.spanSend_fixed (s : State) (k : Nat) (done : Bool) : (State.spanSend s k done).fixed = s.fixed := by
  unfold State.spanSend
  repeat' (first
    | with_reducible rfl
    | simp only [State.fixed_scan, State.fixed_ite, ite_self, State.sendLink_fixed]
    | (with_reducible refine (State.each_keeps State.fixed _ _ _ fun _ _ => ?_).trans ?_)
    | split)

theorem execSpanDeadline_fixed (k : Nat) (_tie : Bool) (s : State) : ∃ s', execSpanDeadline k _tie s = .next s' ∧ s'.fixed = s.fixed := by
  refine ⟨_, rfl, ?_⟩
  repeat' (first
    | with_reducible rfl
    | simp only [State.fixed_ite, ite_self, State.spanSend_fixed]
    | split)

theorem execSpanRecord_fixed (k : Nat) (role : Fin 4) (done : Bool) (rate : Fin 16) (digest : BitVec 64) (hist : List (Nat × Nat)) (s : State) : ∃ s', execSpanRecord k role done rate digest hist s = .next s' ∧ s'.fixed = s.fixed := by
  refine ⟨_, rfl, ?_⟩
  repeat' (first
    | with_reducible rfl
    | simp only [State.fixed_scan, State.fixed_ite, ite_self]
    | split)

theorem State.spanTick_fixed (s : State) (k : Nat) (tie : Bool) : (State.spanTick s k tie).fixed = s.fixed := by
  unfold State.spanTick
  repeat' (first
    | with_reducible rfl
    | simp only [State.fixed_comp, State.fixed_scan, State.fixed_ite, ite_self, State.composeMiss_fixed, State.raise_fixed, State.raiseIf_fixed, State.setPar_fixed, State.spanCheck_fixed]
    | simp only [State.fixed_mk, State.fixed_fold]
    | split)

theorem execCanvasComplete_fixed (k : Nat) (s : State) : ∃ s', execCanvasComplete k s = .next s' ∧ s'.fixed = s.fixed := by
  refine ⟨_, rfl, ?_⟩
  repeat' (first
    | with_reducible rfl
    | simp only [State.fixed_comp, State.fixed_ite, ite_self, State.putCanvas_fixed, State.setPar_fixed, State.spanSend_fixed]
    | split)

theorem execComposeDeadline_fixed (k : Nat) (tie : Bool) (s : State) : ∃ s', execComposeDeadline k tie s = .next s' ∧ s'.fixed = s.fixed := by
  refine ⟨_, rfl, ?_⟩
  repeat' (first
    | with_reducible rfl
    | simp only [State.fixed_comp, State.fixed_ite, ite_self, State.composeMiss_fixed, State.putCanvas_fixed, State.raise_fixed]
    | split)

theorem State.startStreamer_fixed (s : State) (k c : Nat) (b : Binding) (own : Binding) (content : Option Nat) (rep : Bool) : (State.startStreamer s k c b own content rep).fixed = s.fixed := by
  unfold State.startStreamer
  repeat' (first
    | with_reducible rfl
    | simp only [State.fixed_ite, ite_self, State.updStreamer_fixed]
    | split)

theorem State.scanStart_fixed (s : State) (k : Nat) (tie : Bool) : (State.scanStart s k tie).fixed = s.fixed := by
  unfold State.scanStart
  repeat' (first
    | with_reducible rfl
    | simp only [State.fixed_scan, State.fixed_ite, ite_self, State.composeMiss_fixed, State.startStreamer_fixed]
    | (with_reducible refine (State.each_keeps State.fixed _ _ _ fun _ _ => ?_).trans ?_)
    | split)

theorem State.sigArrived_fixed (s : State) (k c dest sig : Nat) (unfit : Bool) : (State.sigArrived s k c dest sig unfit).fixed = s.fixed := by
  unfold State.sigArrived
  repeat' (first
    | with_reducible rfl
    | simp only [State.fixed_chain, State.fixed_red, State.fixed_ite, ite_self]
    | simp only [State.fixed_mk, State.fixed_fold]
    | split)

theorem execSignatureCompareDeadline_fixed (k : Nat) (tie : Bool) (s : State) : ∃ s', execSignatureCompareDeadline k tie s = .next s' ∧ s'.fixed = s.fixed := by
  refine ⟨_, rfl, ?_⟩
  simp only [State.fixed_red]

theorem execHealthReportPublish_fixed (k : Nat) (s : State) : ∃ s', execHealthReportPublish k s = .next s' ∧ s'.fixed = s.fixed := by
  refine ⟨_, rfl, ?_⟩
  repeat' (first
    | with_reducible rfl
    | simp only [State.fixed_red, State.fixed_ite, ite_self, State.raiseIf_fixed, State.setBlob_fixed, State.syncEval_fixed]
    | (with_reducible refine (State.foldl_keeps State.fixed _ _ _ fun _ _ => ?_).trans ?_)
    | split)

theorem State.partnerReport_fixed (s : State) (bs : List Byte) : (State.partnerReport s bs).fixed = s.fixed := by
  unfold State.partnerReport
  simp only [State.setBlob_fixed, State.syncEval_fixed]

end Sys2Proof.Machine
end

