-- ==== Sys2Proof/Laws/FrameSealed.lean ====
section
/-! SUPPORT. The queue, the time and the security state pass unchanged through the operations of `Sealed.lean`. -/

set_option linter.all false
set_option linter.unusedTactic false
set_option linter.unreachableTactic false
set_option linter.unusedSimpArgs false

namespace Sys2Proof.Machine

theorem State.putBank_fixed (s : State) (kind b : Nat) (v : Sealed) : (State.putBank s kind b v).fixed = s.fixed := by
  unfold State.putBank
  simp only [State.fixed_store]

theorem State.under_fixed (s : State) (b : Bind) : (State.under s b).fixed = s.fixed := by
  unfold State.under
  repeat' (first
    | with_reducible rfl
    | simp only [State.fixed_dict, State.fixed_blobs]
    | simp only [State.fixed_mk, State.fixed_fold])

theorem State.bankWrite_fixed (s : State) (kind slot off : Nat) (bs : List Byte) : (State.bankWrite s kind slot off bs).fixed = s.fixed := by
  unfold State.bankWrite
  repeat' (first
    | with_reducible rfl
    | simp only [State.fixed_ite, ite_self, State.putBank_fixed]
    | split)

theorem State.bankSeal_fixed (s : State) (kind slot crc : Nat) : (State.bankSeal s kind slot crc).fixed = s.fixed := by
  unfold State.bankSeal
  repeat' (first
    | with_reducible rfl
    | simp only [State.fixed_ite, ite_self, State.putBank_fixed, State.raise_fixed, State.setPar_fixed]
    | split)

theorem State.sealReport_fixed (s : State) (kind slot : Nat) (f : Nat × Bool) : (State.sealReport s kind slot f).fixed = s.fixed := by
  unfold State.sealReport
  repeat' (first
    | with_reducible rfl
    | simp only [State.fixed_ite, ite_self, State.raise_fixed, State.setPar_fixed, State.takeFree_fixed]
    | (with_reducible refine (State.takeFree_fixed' (by assumption)).trans ?_)
    | split)

theorem State.copyDue_fixed (s : State) : (State.copyDue s).fixed = s.fixed := by
  unfold State.copyDue
  repeat' (first
    | with_reducible rfl
    | simp only [State.fixed_store, State.fixed_ite, ite_self]
    | (with_reducible refine (State.foldl_keeps State.fixed _ _ _ fun _ _ => ?_).trans ?_)
    | split)

theorem execBankFlashCopy_fixed (kind : Fin 4) (bank : Fin 8) (s : State) : ∃ s', execBankFlashCopy kind bank s = .next s' ∧ s'.fixed = s.fixed := by
  refine ⟨_, rfl, ?_⟩
  repeat' (first
    | with_reducible rfl
    | simp only [State.fixed_store, State.fixed_ite, ite_self, State.bgPauseStart_fixed, State.putBank_fixed]
    | split)

theorem State.loadStored_fixed (s : State) (kind b : Nat) : (State.loadStored s kind b).fixed = s.fixed := by
  unfold State.loadStored
  repeat' (first
    | with_reducible rfl
    | simp only [State.fixed_ite, ite_self, State.putBank_fixed, State.raiseIf_fixed]
    | split)

theorem State.loadBanks_fixed (s : State) : (State.loadBanks s).fixed = s.fixed := by
  unfold State.loadBanks
  repeat' (first
    | with_reducible rfl
    | simp only [State.fixed_ite, ite_self, State.loadStored_fixed]
    | (with_reducible refine (State.each_keeps State.fixed _ _ _ fun _ _ => ?_).trans ?_)
    | split)

end Sys2Proof.Machine
end

