-- ==== Sys2Proof/Laws/FrameCorrect.lean ====
section
/-! SUPPORT. The queue, the time and the security state pass unchanged through the operations of `Correct.lean`. -/

set_option linter.all false
set_option linter.unusedTactic false
set_option linter.unreachableTactic false
set_option linter.unusedSimpArgs false

namespace Sys2Proof.Machine

theorem State.fillExpansion_fixed (s : State) : (State.fillExpansion s).fixed = s.fixed := by
  unfold State.fillExpansion
  simp only [State.setBlob_fixed]

theorem State.corrBind_fixed (s : State) (k : Nat) : (State.corrBind s k).fixed = s.fixed := by
  unfold State.corrBind
  simp only [State.fixed_tile, State.copyDue_fixed]

theorem State.corrLatch_fixed (s : State) (k : Nat) : (State.corrLatch s k).fixed = s.fixed := by
  unfold State.corrLatch
  repeat' (first
    | with_reducible rfl
    | simp only [State.fixed_ite, ite_self, State.corrBind_fixed]
    | split)

theorem State.corrRise_fixed (s : State) : (State.corrRise s).fixed = s.fixed := by
  unfold State.corrRise
  repeat' (first
    | with_reducible rfl
    | simp only [State.fixed_chain, State.fixed_ite, ite_self, State.corrBind_fixed]
    | (with_reducible refine (State.each_keeps State.fixed _ _ _ fun _ _ => ?_).trans ?_)
    | split)

theorem State.putK_fixed (s : State) (id z : Nat) (k : List Int) : (State.putK s id z k).fixed = s.fixed := by
  unfold State.putK
  simp only [State.setBlob_fixed]

theorem State.sensorsJudge_fixed (s : State) : (State.sensorsJudge s).fixed = s.fixed := by
  unfold State.sensorsJudge
  repeat' (first
    | with_reducible rfl
    | simp only [State.fixed_tile, State.fixed_ite, ite_self, State.raise_fixed, State.setPar_fixed]
    | (with_reducible refine (State.each_keeps State.fixed _ _ _ fun _ _ => ?_).trans ?_)
    | split)

theorem State.zoneTemps_fixed (s : State) : (State.zoneTemps s).fixed = s.fixed := by
  unfold State.zoneTemps
  repeat' (first
    | with_reducible rfl
    | simp only [State.fixed_tile, State.fixed_ite, ite_self, State.raise_fixed, State.setPar_fixed]
    | (with_reducible refine (State.each_keeps State.fixed _ _ _ fun _ _ => ?_).trans ?_)
    | split)

theorem execKTargetCompute_fixed (s : State) : ∃ s', execKTargetCompute s = .next s' ∧ s'.fixed = s.fixed := by
  refine ⟨_, rfl, ?_⟩
  repeat' (first
    | with_reducible rfl
    | simp only [State.fixed_tile, State.fixed_ite, ite_self, State.putK_fixed, State.raise_fixed]
    | (with_reducible refine (State.each_keeps State.fixed _ _ _ fun _ _ => ?_).trans ?_)
    | split)

theorem State.slewZones_fixed (s : State) (tie : Bool) : (State.slewZones s tie).fixed = s.fixed := by
  unfold State.slewZones
  repeat' (first
    | with_reducible rfl
    | simp only [State.fixed_tile, State.fixed_ite, ite_self, State.putK_fixed, State.raiseIf_fixed]
    | (with_reducible refine (State.each_keeps State.fixed _ _ _ fun _ _ => ?_).trans ?_)
    | split)

theorem State.wearUpdate_fixed (s : State) (n : Nat) (dark : Nat → Bool) : (State.wearUpdate s n dark).fixed = s.fixed := by
  unfold State.wearUpdate
  repeat' (first
    | with_reducible rfl
    | simp only [State.fixed_tile, State.fixed_ite, ite_self, State.raiseIf_fixed]
    | (with_reducible refine (State.each_keeps State.fixed _ _ _ fun _ _ => ?_).trans ?_)
    | split)

theorem State.gainStart_fixed (s : State) (n : Nat) : (State.gainStart s n).fixed = s.fixed := by
  unfold State.gainStart
  repeat' (first
    | with_reducible rfl
    | simp only [State.fixed_tile, State.fixed_ite, ite_self]
    | split)

theorem execGainTableBuildComplete_fixed (s : State) : ∃ s', execGainTableBuildComplete s = .next s' ∧ s'.fixed = s.fixed := by
  refine ⟨_, rfl, ?_⟩
  repeat' (first
    | with_reducible rfl
    | simp only [State.fixed_dict, State.fixed_blobs, State.fixed_tile, State.fixed_ite, ite_self, State.raise_fixed, State.setBlob_fixed]
    | simp only [State.fixed_mk, State.fixed_fold]
    | (with_reducible refine (State.foldl_keeps State.fixed _ _ _ fun _ _ => ?_).trans ?_)
    | split)

theorem State.gainSwap_fixed (s : State) (k : Nat) (tie : Bool) : (State.gainSwap s k tie).fixed = s.fixed := by
  unfold State.gainSwap
  repeat' (first
    | with_reducible rfl
    | simp only [State.fixed_tile, State.fixed_ite, ite_self, State.raise_fixed]
    | split)

theorem execLedgerFlushTimer_fixed (s : State) : ∃ s', execLedgerFlushTimer s = .next s' ∧ s'.fixed = s.fixed := by
  refine ⟨_, rfl, ?_⟩
  repeat' (first
    | with_reducible rfl
    | simp only [State.fixed_tile, State.fixed_ite, ite_self, State.bgPauseStart_fixed, State.raise_fixed]
    | split)

theorem execLedgerFlushComplete_fixed (s : State) : ∃ s', execLedgerFlushComplete s = .next s' ∧ s'.fixed = s.fixed := by
  refine ⟨_, rfl, ?_⟩
  repeat' (first
    | with_reducible rfl
    | simp only [State.fixed_tile, State.fixed_ite, ite_self, State.bgPauseStart_fixed, State.raise_fixed, State.setBlob_fixed]
    | split)

theorem State.loadLedger_fixed (s : State) : (State.loadLedger s).fixed = s.fixed := by
  unfold State.loadLedger
  repeat' (first
    | with_reducible rfl
    | simp only [State.fixed_tile, State.raise_fixed]
    | split)

theorem execLedgerReplace_fixed (s : State) : ∃ s', execLedgerReplace s = .next s' ∧ s'.fixed = s.fixed := by
  refine ⟨_, rfl, ?_⟩
  repeat' (first
    | with_reducible rfl
    | simp only [State.fixed_tile, State.fixed_ite, ite_self]
    | split)

theorem execLedgerZero_fixed (s : State) : ∃ s', execLedgerZero s = .next s' ∧ s'.fixed = s.fixed := by
  refine ⟨_, rfl, ?_⟩
  repeat' (first
    | with_reducible rfl
    | simp only [State.fixed_tile]
    | split)

end Sys2Proof.Machine
end

