-- ==== Sys2Proof/Laws/FrameDriveGrid.lean ====
section
/-! SUPPORT. The queue, the time and the security state pass unchanged through the operations of `DriveGrid.lean`. -/

set_option linter.all false
set_option linter.unusedTactic false
set_option linter.unreachableTactic false
set_option linter.unusedSimpArgs false

namespace Sys2Proof.Machine

theorem State.driveDerive_fixed (s : State) : (State.driveDerive s).fixed = s.fixed := by
  unfold State.driveDerive
  repeat' (first
    | with_reducible rfl
    | simp only [State.fixed_ite, ite_self, State.setPar_fixed]
    | (with_reducible refine (State.each_keeps State.fixed _ _ _ fun _ _ => ?_).trans ?_)
    | split)

theorem State.rateRecheck_fixed (s : State) : (State.rateRecheck s).fixed = s.fixed := by
  unfold State.rateRecheck
  repeat' (first
    | with_reducible rfl
    | simp only [State.fixed_tile, State.fixed_ite, ite_self, State.driveDerive_fixed, State.raise_fixed]
    | (with_reducible refine (State.each_keeps State.fixed _ _ _ fun _ _ => ?_).trans ?_)
    | split)

theorem State.unfitFrom_fixed (s : State) (k : Nat) : (State.unfitFrom s k).fixed = s.fixed := by
  unfold State.unfitFrom
  repeat' (first
    | with_reducible rfl
    | simp only [State.fixed_tile, State.fixed_ite, ite_self]
    | split)

end Sys2Proof.Machine
end

