-- ==== Sys2Proof/Laws/FrameEventLog.lean ====
section
/-! SUPPORT. The queue, the time and the security state pass unchanged through the operations of `EventLog.lean`. -/

set_option linter.all false
set_option linter.unusedTactic false
set_option linter.unreachableTactic false
set_option linter.unusedSimpArgs false

namespace Sys2Proof.Machine

theorem State.storeRec_fixed (s : State) (r : EvRec) : (State.storeRec s r).fixed = s.fixed := by
  unfold State.storeRec
  repeat' (first
    | with_reducible rfl
    | simp only [State.fixed_ev, State.fixed_ite, ite_self]
    | split)

theorem State.amendRec_fixed (s : State) (r : EvRec) : (State.amendRec s r).fixed = s.fixed := by
  unfold State.amendRec
  repeat' (first
    | with_reducible rfl
    | simp only [State.fixed_ev, State.fixed_ite, ite_self]
    | split)

theorem State.noteWrite_fixed (s : State) : (State.noteWrite s).fixed = s.fixed := by
  unfold State.noteWrite
  repeat' (first
    | with_reducible rfl
    | simp only [State.fixed_ev, State.fixed_ite, ite_self]
    | split)

theorem State.queueRec_fixed (s : State) (r : EvRec) : (State.queueRec s r).fixed = s.fixed := by
  unfold State.queueRec
  repeat' (first
    | with_reducible rfl
    | simp only [State.fixed_ev, State.fixed_ite, ite_self, State.raiseLimited_fixed]
    | split)

theorem State.pinsRec_fixed (s : State) (r : EvRec) : (State.pinsRec s r).fixed = s.fixed := by
  unfold State.pinsRec
  repeat' (first
    | with_reducible rfl
    | simp only [State.fixed_ev, State.fixed_ite, ite_self, State.setPar_fixed]
    | split)

theorem State.writeRaise_fixed (s : State) (r : Raise) : (State.writeRaise s r).fixed = s.fixed := by
  unfold State.writeRaise
  repeat' (first
    | with_reducible rfl
    | simp only [State.fixed_ev, State.fixed_ite, ite_self, State.amendRec_fixed, State.bump_fixed, State.count_fixed, State.noteWrite_fixed, State.pinsRec_fixed, State.queueRec_fixed, State.storeRec_fixed]
    | split)

theorem execEventServiceWrite_fixed (r : Region) (s : State) : ∃ s', execEventServiceWrite r s = .next s' ∧ s'.fixed = s.fixed := by
  refine ⟨_, rfl, ?_⟩
  repeat' (first
    | with_reducible rfl
    | simp only [State.fixed_ev, State.fixed_ite, ite_self, State.writeRaise_fixed]
    | split)

theorem State.writeHeld_fixed (s : State) : (State.writeHeld s).fixed = s.fixed := by
  unfold State.writeHeld
  repeat' (first
    | with_reducible rfl
    | simp only [State.fixed_ev, State.writeRaise_fixed]
    | (with_reducible refine (State.foldl_keeps State.fixed _ _ _ fun _ _ => ?_).trans ?_))

theorem State.logRecover_fixed (s : State) : (State.logRecover s).fixed = s.fixed := by
  unfold State.logRecover
  repeat' (first
    | with_reducible rfl
    | simp only [State.fixed_ev, State.fixed_ite, ite_self, State.raiseIf_fixed]
    | (with_reducible refine (State.each_keeps State.fixed _ _ _ fun _ _ => ?_).trans ?_)
    | split)

theorem State.logDramLost_fixed (s : State) : (State.logDramLost s).fixed = s.fixed := by
  unfold State.logDramLost
  simp only [State.fixed_ev]

theorem State.faultClear_fixed (s : State) (v : Nat) : (State.faultClear s v).fixed = s.fixed := by
  unfold State.faultClear
  repeat' (first
    | with_reducible rfl
    | simp only [State.raise_fixed, State.setPar_fixed]
    | (with_reducible refine (State.foldl_keeps State.fixed _ _ _ fun _ _ => ?_).trans ?_))

theorem State.irqClear_fixed (s : State) (v : Nat) : (State.irqClear s v).fixed = s.fixed := by
  unfold State.irqClear
  repeat' (first
    | with_reducible rfl
    | simp only [State.fixed_ite, ite_self, State.setPar_fixed]
    | (with_reducible refine (State.foldl_keeps State.fixed _ _ _ fun _ _ => ?_).trans ?_)
    | split)

theorem execEventAck_fixed (seq : Nat) (s : State) : ∃ s', execEventAck seq s = .next s' ∧ s'.fixed = s.fixed := by
  refine ⟨_, rfl, ?_⟩
  repeat' (first
    | with_reducible rfl
    | simp only [State.fixed_ev, State.fixed_ite, ite_self]
    | split)

end Sys2Proof.Machine
end

