-- ==== Sys2Proof/Laws/FrameFixture.lean ====
section
/-! SUPPORT. The queue, the time and the security state pass unchanged through the operations of `Fixture.lean`. -/

set_option linter.all false
set_option linter.unusedTactic false
set_option linter.unreachableTactic false
set_option linter.unusedSimpArgs false

namespace Sys2Proof.Machine

theorem State.fixUnder_fixed (s : State) (k : Nat) : (State.fixUnder s k).fixed = s.fixed := by
  unfold State.fixUnder
  repeat' (first
    | with_reducible rfl
    | simp only [State.under_fixed]
    | split)

theorem State.fixStart_fixed (s : State) (k : Nat) : (State.fixStart s k).fixed = s.fixed := by
  unfold State.fixStart
  repeat' (first
    | with_reducible rfl
    | simp only [State.fixed_fix, State.fixed_ite, ite_self]
    | split)

theorem execFixSamplingComplete_fixed (k : Nat) (s : State) : ∃ s', execFixSamplingComplete k s = .next s' ∧ s'.fixed = s.fixed := by
  refine ⟨_, rfl, ?_⟩
  repeat' (first
    | with_reducible rfl
    | simp only [State.fixed_fix, State.fixed_ite, ite_self, State.fixUnder_fixed]
    | split)

theorem execFixSampleDeadline_fixed (k : Nat) (tie : Bool) (s : State) : ∃ s', execFixSampleDeadline k tie s = .next s' ∧ s'.fixed = s.fixed := by
  refine ⟨_, rfl, ?_⟩
  repeat' (first
    | with_reducible rfl
    | simp only [State.fixed_fix, State.fixed_ite, ite_self, State.bump_fixed, State.raise_fixed]
    | split)

theorem State.pushData_fixed (s : State) (k : Nat) (pick : Univ → Bool) : (State.pushData s k pick).fixed = s.fixed := by
  unfold State.pushData
  repeat' (first
    | with_reducible rfl
    | simp only [State.fixUnder_fixed, State.macPush_fixed]
    | (with_reducible refine (State.each_keeps State.fixed _ _ _ fun _ _ => ?_).trans ?_))

theorem execSacnDataStart_fixed (k : Nat) (s : State) : ∃ s', execSacnDataStart k s = .next s' ∧ s'.fixed = s.fixed := by
  refine ⟨_, rfl, ?_⟩
  repeat' (first
    | with_reducible rfl
    | simp only [State.fixed_fix, State.fixed_ite, ite_self, State.fixUnder_fixed, State.pushData_fixed]
    | split)

theorem State.dmxStart_fixed (s : State) (k : Nat) : (State.dmxStart s k).fixed = s.fixed := by
  unfold State.dmxStart
  repeat' (first
    | with_reducible rfl
    | simp only [State.fixed_fix, State.fixed_ite, ite_self, State.fixUnder_fixed, State.send_fixed]
    | (with_reducible refine (State.each_keeps State.fixed _ _ _ fun _ _ => ?_).trans ?_)
    | split)

theorem execEmissionInstant_fixed (k : Nat) (s : State) : ∃ s', execEmissionInstant k s = .next s' ∧ s'.fixed = s.fixed := by
  refine ⟨_, rfl, ?_⟩
  repeat' (first
    | with_reducible rfl
    | simp only [State.fixed_tile, State.fixed_fix, State.fixed_ite, ite_self, State.dmxStart_fixed, State.fixUnder_fixed, State.macPush_fixed, State.pushData_fixed, State.raiseTick_fixed]
    | simp only [State.fixed_mk, State.fixed_fold]
    | (with_reducible refine (State.each_keeps State.fixed _ _ _ fun _ _ => ?_).trans ?_)
    | split)

theorem execSacnDropDeadline_fixed (k : Nat) (s : State) : ∃ s', execSacnDropDeadline k s = .next s' ∧ s'.fixed = s.fixed := by
  refine ⟨_, rfl, ?_⟩
  repeat' (first
    | with_reducible rfl
    | simp only [State.fixed_eth, State.fixed_ite, ite_self, State.bumpBy_fixed, State.raise_fixed]
    | (with_reducible refine (State.each_keeps State.fixed _ _ _ fun _ _ => ?_).trans ?_)
    | split)

theorem execUniverseDiscoverySend_fixed (s : State) : ∃ s', execUniverseDiscoverySend s = .next s' ∧ s'.fixed = s.fixed := by
  refine ⟨_, rfl, ?_⟩
  repeat' (first
    | with_reducible rfl
    | simp only [State.fixed_ite, ite_self, State.macPush_fixed]
    | (with_reducible refine (State.each_keeps State.fixed _ _ _ fun _ _ => ?_).trans ?_)
    | split)

theorem State.fixTerminate_fixed (s : State) (old : List Univ) : (State.fixTerminate s old).fixed = s.fixed := by
  unfold State.fixTerminate
  repeat' (first
    | with_reducible rfl
    | simp only [State.fixed_ite, ite_self, State.macPush_fixed]
    | (with_reducible refine (State.each_keeps State.fixed _ _ _ fun _ _ => ?_).trans ?_)
    | split)

theorem State.fixLoads_fixed (s : State) : (State.fixLoads s).fixed = s.fixed := by
  unfold State.fixLoads
  repeat' (first
    | with_reducible rfl
    | simp only [State.fixed_ite, ite_self, State.setPar_fixed]
    | (with_reducible refine (State.each_keeps State.fixed _ _ _ fun _ _ => ?_).trans ?_)
    | split)

theorem State.updDmx_fixed (s : State) (p : Nat) (f : Dmx → Dmx) : (State.updDmx s p f).fixed = s.fixed := by
  unfold State.updDmx
  simp only [State.fixed_fix]

theorem execDmxFrameEnd_fixed (p : Fin 16) (s : State) : ∃ s', execDmxFrameEnd p s = .next s' ∧ s'.fixed = s.fixed := by
  refine ⟨_, rfl, ?_⟩
  repeat' (first
    | with_reducible rfl
    | simp only [State.fixed_ite, ite_self, State.bump_fixed, State.count_fixed, State.updDmx_fixed]
    | split)

theorem State.rdmShow_fixed (s : State) (p code : Nat) (data : List Byte) : (State.rdmShow s p code data).fixed = s.fixed := by
  unfold State.rdmShow
  simp only [State.setBlob_fixed]

theorem State.rdmResult_fixed (s : State) (p code : Nat) (data : List Byte) : (State.rdmResult s p code data).fixed = s.fixed := by
  unfold State.rdmResult
  simp only [State.rdmShow_fixed, State.updDmx_fixed]

theorem execRdmSend_fixed (p : Fin 16) (s : State) : ∃ s', execRdmSend p s = .next s' ∧ s'.fixed = s.fixed := by
  refine ⟨_, rfl, ?_⟩
  repeat' (first
    | with_reducible rfl
    | simp only [State.fixed_ite, ite_self, State.bump_fixed, State.send_fixed, State.updDmx_fixed]
    | split)

theorem execRdmResponse_fixed (p : Fin 16) (r : RdmEnd) (data : List Byte) (s : State) (start : Nat) : ∃ s', execRdmResponse p r data s start = .next s' ∧ s'.fixed = s.fixed := by
  refine ⟨_, rfl, ?_⟩
  repeat' (first
    | with_reducible rfl
    | simp only [State.fixed_ite, ite_self, State.rdmResult_fixed]
    | split)

theorem execRdmResponseTimeout_fixed (p : Fin 16) (s : State) : ∃ s', execRdmResponseTimeout p s = .next s' ∧ s'.fixed = s.fixed := by
  refine ⟨_, rfl, ?_⟩
  repeat' (first
    | with_reducible rfl
    | simp only [State.fixed_ite, ite_self, State.raise_fixed, State.rdmResult_fixed]
    | split)

theorem execRdmRequestExpiry_fixed (p : Fin 16) (s : State) : ∃ s', execRdmRequestExpiry p s = .next s' ∧ s'.fixed = s.fixed := by
  refine ⟨_, rfl, ?_⟩
  repeat' (first
    | with_reducible rfl
    | simp only [State.fixed_ite, ite_self, State.raise_fixed, State.rdmShow_fixed, State.updDmx_fixed]
    | split)

theorem execTsqRetrieve_fixed (s : State) : ∃ s', execTsqRetrieve s = .next s' ∧ s'.fixed = s.fixed := by
  refine ⟨_, rfl, ?_⟩
  repeat' (first
    | with_reducible rfl
    | simp only [State.fixed_time, State.fixed_ite, ite_self, State.fixUnder_fixed, State.ptpStamp_fixed, State.raiseLimited_fixed, State.tsqExpire_fixed]
    | split)

end Sys2Proof.Machine
end

