-- ==== Sys2Proof/Laws/FrameDram.lean ====
section
/-! SUPPORT. The queue, the time and the security state pass unchanged through the operations of `Dram.lean`. -/

set_option linter.all false
set_option linter.unusedTactic false
set_option linter.unreachableTactic false
set_option linter.unusedSimpArgs false

namespace Sys2Proof.Machine

theorem State.updDram_fixed (s : State) (c : Nat) (f : DramChan → DramChan) : (State.updDram s c f).fixed = s.fixed := by
  unfold State.updDram
  simp only [State.fixed_dram]

theorem State.updBank_fixed (s : State) (c b : Nat) (f : DramBank → DramBank) : (State.updBank s c b f).fixed = s.fixed := by
  unfold State.updBank
  simp only [State.fixed_dram]

theorem State.fly_fixed (s : State) (q : DramReq) : (State.fly s q).fixed = s.fixed := by
  unfold State.fly
  simp only [State.fixed_dram]

theorem State.enterBank_fixed (s : State) (q : DramReq) : (State.enterBank s q).fixed = s.fixed := by
  unfold State.enterBank
  simp only [State.fly_fixed, State.updBank_fixed]

theorem State.unstall_fixed (s : State) (r n : Nat) : (s.unstall r n).fixed = s.fixed := by
  induction n generalizing s with
  | zero => rfl
  | succ n ih =>
    simp only [State.unstall]
    split
    · rfl
    · split
      · rfl
      · rw [ih, State.enterBank_fixed]
        rfl

theorem execDramRequest_fixed (r : Fin 24) (write : Bool) (addr : Nat) (urgency : Fin 4) (background : Bool) (s : State) (part : Fin 16) : ∃ s', execDramRequest r write addr urgency background s part = .next s' ∧ s'.fixed = s.fixed := by
  refine ⟨_, rfl, ?_⟩
  repeat' (first
    | with_reducible rfl
    | simp only [State.fixed_dram, State.fixed_ite, ite_self, State.enterBank_fixed, State.fly_fixed, State.raiseLimited_fixed, State.updDram_fixed]
    | split)

theorem execRequestAgeExpiry_fixed (c b : Fin 16) (s : State) : ∃ s', execRequestAgeExpiry c b s = .next s' ∧ s'.fixed = s.fixed := by
  refine ⟨_, rfl, ?_⟩
  repeat' (first
    | with_reducible rfl
    | simp only [State.fixed_ite, ite_self, State.updBank_fixed]
    | split)

theorem State.activate_fixed (s : State) (c b : Nat) (q : DramReq) : (State.activate s c b q).fixed = s.fixed := by
  unfold State.activate
  repeat' (first
    | with_reducible rfl
    | simp only [State.fixed_dram, State.fixed_ite, ite_self, State.count_fixed, State.raise_fixed, State.updBank_fixed]
    | split)

theorem execDisturbWindowRestart_fixed (c b : Fin 16) (s : State) : ∃ s', execDisturbWindowRestart c b s = .next s' ∧ s'.fixed = s.fixed := by
  refine ⟨_, rfl, ?_⟩
  repeat' (first
    | with_reducible rfl
    | simp only [State.fixed_dram, State.fixed_ite, ite_self, State.updBank_fixed]
    | split)

theorem execRefreshTick_fixed (c : Fin 16) (s : State) : ∃ s', execRefreshTick c s = .next s' ∧ s'.fixed = s.fixed := by
  refine ⟨_, rfl, ?_⟩
  repeat' (first
    | with_reducible rfl
    | simp only [State.fixed_ite, ite_self, State.bump_fixed, State.count_fixed, State.raiseLimited_fixed, State.setPar_fixed, State.updDram_fixed]
    | split)

theorem State.refresh_fixed (s : State) (c : Nat) : (State.refresh s c).fixed = s.fixed := by
  unfold State.refresh
  repeat' (first
    | with_reducible rfl
    | simp only [State.count_fixed, State.updBank_fixed, State.updDram_fixed]
    | (with_reducible refine (State.each_keeps State.fixed _ _ _ fun _ _ => ?_).trans ?_))

theorem State.issueNext_fixed (s : State) (c b : Nat) : (State.issueNext s c b).fixed = s.fixed := by
  unfold State.issueNext
  repeat' (first
    | with_reducible rfl
    | simp only [State.fixed_dram, State.fixed_ite, ite_self, State.activate_fixed, State.count_fixed, State.unstall_fixed, State.updBank_fixed, State.updDram_fixed]
    | (with_reducible refine (State.each_keeps State.fixed _ _ _ fun _ _ => ?_).trans ?_)
    | split)

theorem execCommandSlot_fixed (c : Fin 16) (able : List (Fin 16)) (s : State) : ∃ s', execCommandSlot c able s = .next s' ∧ s'.fixed = s.fixed := by
  refine ⟨_, rfl, ?_⟩
  repeat' (first
    | with_reducible rfl
    | simp only [State.fixed_ite, ite_self, State.count_fixed, State.issueNext_fixed, State.refresh_fixed, State.updBank_fixed]
    | (with_reducible refine (State.foldl_keeps State.fixed _ _ _ fun _ _ => ?_).trans ?_)
    | split)

theorem State.corrPoison_fixed (s : State) (k p : Nat) : (State.corrPoison s k p).fixed = s.fixed := by
  unfold State.corrPoison
  simp only [State.fixed_tile]

theorem State.poisonTo_fixed (s : State) (r what : Nat) : (State.poisonTo s r what).fixed = s.fixed := by
  unfold State.poisonTo
  repeat' (first
    | with_reducible rfl
    | simp only [State.fixed_chain, State.fixed_comp, State.fixed_tile, State.fixed_ite, ite_self, State.canvasPoisoned_fixed, State.corrPoison_fixed]
    | simp only [State.fixed_mk, State.fixed_fold]
    | split)

theorem State.scrubbed_fixed (s : State) (addr : Nat) : (State.scrubbed s addr).fixed = s.fixed := by
  unfold State.scrubbed
  repeat' (first
    | with_reducible rfl
    | simp only [State.fixed_dram, State.fixed_ite, ite_self, State.bgPauseStart_fixed, State.raise_fixed, State.setPar_fixed]
    | split)

theorem execDramReadReturn_fixed (r : Fin 24) (ce ue : Bool) (what : Nat) (s : State) (part : Fin 16) : ∃ s', execDramReadReturn r ce ue what s part = .next s' ∧ s'.fixed = s.fixed := by
  refine ⟨_, rfl, ?_⟩
  repeat' (first
    | with_reducible rfl
    | simp only [State.fixed_dram, State.fixed_ite, ite_self, State.bump_fixed, State.count_fixed, State.monCount_fixed, State.poisonTo_fixed, State.raise_fixed, State.raiseIf_fixed, State.scrubbed_fixed, State.setPar_fixed]
    | split)

theorem execDramWriteAck_fixed (r : Fin 24) (s : State) (part : Fin 16) : ∃ s', execDramWriteAck r s part = .next s' ∧ s'.fixed = s.fixed := by
  refine ⟨_, rfl, ?_⟩
  repeat' (first
    | with_reducible rfl
    | simp only [State.fixed_dram, State.monCount_fixed]
    | split)

theorem execDramTrainingComplete_fixed (results : List (BitVec 32)) (s : State) : ∃ s', execDramTrainingComplete results s = .next s' ∧ s'.fixed = s.fixed := by
  refine ⟨_, rfl, ?_⟩
  repeat' (first
    | with_reducible rfl
    | simp only [State.fixed_start, State.fixed_ite, ite_self, State.raise_fixed, State.setPar_fixed]
    | (with_reducible refine (State.each_keeps State.fixed _ _ _ fun _ _ => ?_).trans ?_)
    | split)

theorem execDramRecalTimer_fixed (s : State) : ∃ s', execDramRecalTimer s = .next s' ∧ s'.fixed = s.fixed := by
  refine ⟨_, rfl, ?_⟩
  repeat' (first
    | with_reducible rfl
    | simp only [State.fixed_dram, State.fixed_ite, ite_self]
    | split)

theorem State.chanSleep_fixed (s : State) (c : Nat) : (State.chanSleep s c).fixed = s.fixed := by
  unfold State.chanSleep
  simp only [State.count_fixed, State.updDram_fixed]

theorem State.dramSleep_fixed (s : State) : (State.dramSleep s).fixed = s.fixed := by
  unfold State.dramSleep
  repeat' (first
    | with_reducible rfl
    | simp only [State.fixed_dram, State.fixed_ite, ite_self, State.chanSleep_fixed, State.setPar_fixed]
    | (with_reducible refine (State.each_keeps State.fixed _ _ _ fun _ _ => ?_).trans ?_)
    | (with_reducible refine (State.foldl_keeps State.fixed _ _ _ fun _ _ => ?_).trans ?_)
    | split)

theorem State.dramWake_fixed (s : State) : (State.dramWake s).fixed = s.fixed := by
  unfold State.dramWake
  repeat' (first
    | with_reducible rfl
    | simp only [State.fixed_dram, State.fixed_ite, ite_self, State.setPar_fixed]
    | split)

theorem State.dramLost_fixed (s : State) : (State.dramLost s).fixed = s.fixed := by
  unfold State.dramLost
  repeat' (first
    | with_reducible rfl
    | simp only [State.fixed_blobs, State.fixed_src, State.fixed_store, State.fixed_tile, State.fixed_health, State.fixed_dram]
    | simp only [State.fixed_mk, State.fixed_fold])

theorem State.pasrSleep_fixed (s : State) (c : Nat) : (State.pasrSleep s c).fixed = s.fixed := by
  unfold State.pasrSleep
  simp only [State.fixed_dram, State.chanSleep_fixed, State.dramLost_fixed]

theorem execStandbyEntryTimer_fixed (s : State) : ∃ s', execStandbyEntryTimer s = .next s' ∧ s'.fixed = s.fixed := by
  refine ⟨_, rfl, ?_⟩
  repeat' (first
    | with_reducible rfl
    | simp only [State.fixed_dram, State.fixed_ite, ite_self, State.pasrSleep_fixed, State.raise_fixed, State.setPar_fixed]
    | (with_reducible refine (State.each_keeps State.fixed _ _ _ fun _ _ => ?_).trans ?_)
    | split)

theorem execChannelIdleTimeout_fixed (c : Fin 16) (s : State) : ∃ s', execChannelIdleTimeout c s = .next s' ∧ s'.fixed = s.fixed := by
  refine ⟨_, rfl, ?_⟩
  repeat' (first
    | with_reducible rfl
    | simp only [State.fixed_ite, ite_self, State.pasrSleep_fixed]
    | split)

theorem State.standbyCheck_fixed (s : State) : (State.standbyCheck s).fixed = s.fixed := by
  unfold State.standbyCheck
  repeat' (first
    | with_reducible rfl
    | simp only [State.fixed_dram, State.fixed_ite, ite_self, State.raise_fixed, State.setPar_fixed, State.updDram_fixed]
    | (with_reducible refine (State.each_keeps State.fixed _ _ _ fun _ _ => ?_).trans ?_)
    | split)

theorem State.cisternPoison_fixed (s : State) (b word : Nat) : (State.cisternPoison s b word).fixed = s.fixed := by
  unfold State.cisternPoison
  repeat' (first
    | with_reducible rfl
    | simp only [State.fixed_comp, State.fixed_ite, ite_self, State.canvasPoisoned_fixed, State.corrPoison_fixed]
    | (with_reducible refine (State.each_keeps State.fixed _ _ _ fun _ _ => ?_).trans ?_)
    | split)

theorem execCisternScrub_fixed (b : Fin 96) (word : BitVec 15) (corrected bad : Bool) (s : State) : ∃ s', execCisternScrub b word corrected bad s = .next s' ∧ s'.fixed = s.fixed := by
  refine ⟨_, rfl, ?_⟩
  repeat' (first
    | with_reducible rfl
    | simp only [State.fixed_dram, State.fixed_ite, ite_self, State.bgPauseStart_fixed, State.bump_fixed, State.cisternPoison_fixed, State.raise_fixed, State.raiseIf_fixed, State.setPar_fixed]
    | split)

end Sys2Proof.Machine
end

