-- ==== Sys2Proof/Laws/FrameEthernet.lean ====
section
/-! SUPPORT. The queue, the time and the security state pass unchanged through the operations of `Ethernet.lean`. -/

set_option linter.all false
set_option linter.unusedTactic false
set_option linter.unreachableTactic false
set_option linter.unusedSimpArgs false

namespace Sys2Proof.Machine

theorem State.updMac_fixed (s : State) (p : Nat) (f : Mac → Mac) : (State.updMac s p f).fixed = s.fixed := by
  unfold State.updMac
  simp only [State.fixed_eth]

theorem State.stat_fixed (s : State) (p i : Nat) (n : Nat) : (State.stat s p i n).fixed = s.fixed := by
  unfold State.stat
  repeat' (first
    | with_reducible rfl
    | simp only [State.fixed_ite, ite_self, State.bumpBy_fixed, State.raiseIf_fixed]
    | split)

theorem State.twShow_fixed (s : State) (before : Nat) : (State.twShow s before).fixed = s.fixed := by
  unfold State.twShow
  simp only [State.raiseIf_fixed, State.setPar_fixed]

theorem State.lpiEnd_fixed (s : State) : (State.lpiEnd s).fixed = s.fixed := by
  unfold State.lpiEnd
  repeat' (first
    | with_reducible rfl
    | simp only [State.fixed_eth, State.stat_fixed]
    | split)

theorem State.linkLocalTry_fixed (s : State) : (State.linkLocalTry s).fixed = s.fixed := by
  unfold State.linkLocalTry
  repeat' (first
    | with_reducible rfl
    | simp only [State.fixed_eth, State.macPush_fixed, State.takeFree_fixed]
    | (with_reducible refine (State.takeFree_fixed' (by assumption)).trans ?_)
    | split)

theorem State.ipAcquire_fixed (s : State) : (State.ipAcquire s).fixed = s.fixed := by
  unfold State.ipAcquire
  repeat' (first
    | with_reducible rfl
    | simp only [State.fixed_eth, State.fixed_ite, ite_self, State.linkLocalTry_fixed, State.macPush_fixed]
    | split)

theorem State.ipRestart_fixed (s : State) : (State.ipRestart s).fixed = s.fixed := by
  unfold State.ipRestart
  repeat' (first
    | with_reducible rfl
    | simp only [State.fixed_eth, State.fixed_ite, ite_self, State.ipAcquire_fixed]
    | split)

theorem execDhcpTimeout_fixed (s : State) : ∃ s', execDhcpTimeout s = .next s' ∧ s'.fixed = s.fixed := by
  refine ⟨_, rfl, ?_⟩
  repeat' (first
    | with_reducible rfl
    | simp only [State.fixed_ite, ite_self, State.linkLocalTry_fixed]
    | split)

theorem execArpProbeEnd_fixed (s : State) : ∃ s', execArpProbeEnd s = .next s' ∧ s'.fixed = s.fixed := by
  refine ⟨_, rfl, ?_⟩
  repeat' (first
    | with_reducible rfl
    | simp only [State.fixed_eth, State.raiseIf_fixed, State.setPar_fixed]
    | split)

theorem State.arpSeen_fixed (s : State) (p a : Nat) : (State.arpSeen s p a).fixed = s.fixed := by
  unfold State.arpSeen
  repeat' (first
    | with_reducible rfl
    | simp only [State.fixed_eth, State.fixed_ite, ite_self, State.linkLocalTry_fixed, State.macPush_fixed, State.raise_fixed]
    | split)

theorem execDownshiftTimer_fixed (s : State) : ∃ s', execDownshiftTimer s = .next s' ∧ s'.fixed = s.fixed := by
  refine ⟨_, rfl, ?_⟩
  repeat' (first
    | with_reducible rfl
    | simp only [State.fixed_ite, ite_self, State.raise_fixed, State.send_fixed, State.setPar_fixed]
    | split)

theorem State.speedPass_fixed (s : State) : (State.speedPass s).fixed = s.fixed := by
  unfold State.speedPass
  repeat' (first
    | with_reducible rfl
    | simp only [State.fixed_ite, ite_self, State.raise_fixed, State.send_fixed, State.setPar_fixed]
    | split)

theorem State.linkGo_fixed (s : State) (status : Nat) : (State.linkGo s status).fixed = s.fixed := by
  unfold State.linkGo
  repeat' (first
    | with_reducible rfl
    | simp only [State.fixed_ite, ite_self, State.ipAcquire_fixed, State.lpiEnd_fixed, State.raise_fixed, State.setPar_fixed, State.stat_fixed, State.twShow_fixed]
    | split)

theorem State.phyRead_fixed (s : State) (r : PhyStatus) : (State.phyRead s r).fixed = s.fixed := by
  unfold State.phyRead
  repeat' (first
    | with_reducible rfl
    | simp only [State.fixed_eth, State.fixed_ite, ite_self, State.when, State.linkGo_fixed, State.lpiEnd_fixed, State.raise_fixed, State.raiseIf_fixed, State.speedPass_fixed, State.stat_fixed]
    | split)

theorem execPhyInt_fixed (r : PhyStatus) (s : State) : ∃ s', execPhyInt r s = .next s' ∧ s'.fixed = s.fixed := by
  refine ⟨_, rfl, ?_⟩
  simp only [State.phyRead_fixed]

theorem execPhyPollTimer_fixed (r : PhyStatus) (s : State) : ∃ s', execPhyPollTimer r s = .next s' ∧ s'.fixed = s.fixed := by
  refine ⟨_, rfl, ?_⟩
  simp only [State.phyRead_fixed]

theorem execAutonegRetry_fixed (s : State) : ∃ s', execAutonegRetry s = .next s' ∧ s'.fixed = s.fixed := by
  refine ⟨_, rfl, ?_⟩
  repeat' (first
    | with_reducible rfl
    | simp only [State.fixed_ite, ite_self, State.send_fixed]
    | split)

theorem State.macPop_fixed (s : State) (p : Nat) : (State.macPop s p).fixed = s.fixed := by
  unfold State.macPop
  simp only [State.updMac_fixed]

theorem execMacFrameTransmit_fixed (p : Fin 9) (size stamp : Nat) (s : State) (deferred : Bool) : ∃ s', execMacFrameTransmit p size stamp s deferred = .next s' ∧ s'.fixed = s.fixed := by
  refine ⟨_, rfl, ?_⟩
  repeat' (first
    | with_reducible rfl
    | simp only [State.fixed_ite, ite_self, State.when, State.count_fixed, State.lpiEnd_fixed, State.macPop_fixed, State.monCount_fixed, State.send_fixed, State.stat_fixed, State.tsqPush_fixed]
    | split)

theorem State.setTxStep_fixed (s : State) (p v : Nat) : (State.setTxStep s p v).fixed = s.fixed := by
  unfold State.setTxStep
  repeat' (first
    | with_reducible rfl
    | simp only [State.fixed_ite, ite_self, State.raiseIf_fixed, State.setPar_fixed]
    | split)

theorem execTxFifoUnderrun_fixed (p : Fin 9) (s : State) : ∃ s', execTxFifoUnderrun p s = .next s' ∧ s'.fixed = s.fixed := by
  refine ⟨_, rfl, ?_⟩
  repeat' (first
    | with_reducible rfl
    | simp only [State.fixed_ite, ite_self, State.when, State.macPop_fixed, State.raiseLimited_fixed, State.setTxStep_fixed, State.stat_fixed, State.updMac_fixed]
    | split)

theorem State.pauseEnd_fixed (s : State) : (State.pauseEnd s).fixed = s.fixed := by
  unfold State.pauseEnd
  repeat' (first
    | with_reducible rfl
    | simp only [State.fixed_eth, State.stat_fixed]
    | split)

theorem execPauseFrame_fixed (quanta : BitVec 16) (s : State) : ∃ s', execPauseFrame quanta s = .next s' ∧ s'.fixed = s.fixed := by
  refine ⟨_, rfl, ?_⟩
  repeat' (first
    | with_reducible rfl
    | simp only [State.fixed_eth, State.fixed_ite, ite_self, State.pauseEnd_fixed, State.stat_fixed]
    | split)

theorem execPauseExpiry_fixed (s : State) : ∃ s', execPauseExpiry s = .next s' ∧ s'.fixed = s.fixed := by
  refine ⟨_, rfl, ?_⟩
  simp only [State.pauseEnd_fixed]

theorem execPauseCapExpiry_fixed (s : State) : ∃ s', execPauseCapExpiry s = .next s' ∧ s'.fixed = s.fixed := by
  refine ⟨_, rfl, ?_⟩
  repeat' (first
    | with_reducible rfl
    | simp only [State.fixed_ite, ite_self, State.pauseEnd_fixed, State.raiseLimited_fixed, State.stat_fixed]
    | split)

theorem execLpiEntry_fixed (s : State) : ∃ s', execLpiEntry s = .next s' ∧ s'.fixed = s.fixed := by
  refine ⟨_, rfl, ?_⟩
  repeat' (first
    | with_reducible rfl
    | simp only [State.fixed_eth, State.fixed_ite, ite_self, State.stat_fixed]
    | split)

theorem execLpiExit_fixed (s : State) : ∃ s', execLpiExit s = .next s' ∧ s'.fixed = s.fixed := by
  refine ⟨_, rfl, ?_⟩
  simp only [State.lpiEnd_fixed]

theorem execLldpSend_fixed (s : State) : ∃ s', execLldpSend s = .next s' ∧ s'.fixed = s.fixed := by
  refine ⟨_, rfl, ?_⟩
  repeat' (first
    | with_reducible rfl
    | simp only [State.fixed_ite, ite_self, State.macPush_fixed]
    | split)

theorem execLldpTtlExpiry_fixed (s : State) : ∃ s', execLldpTtlExpiry s = .next s' ∧ s'.fixed = s.fixed := by
  refine ⟨_, rfl, ?_⟩
  simp only [State.fixed_eth, State.twShow_fixed]

theorem execT1sCollision_fixed (n : Fin 8) (late : Bool) (s : State) : ∃ s', execT1sCollision n late s = .next s' ∧ s'.fixed = s.fixed := by
  refine ⟨_, rfl, ?_⟩
  repeat' (first
    | with_reducible rfl
    | simp only [State.fixed_ite, ite_self, State.macPop_fixed, State.raiseLimited_fixed, State.stat_fixed, State.takeFree_fixed, State.updMac_fixed]
    | (with_reducible refine (State.takeFree_fixed' (by assumption)).trans ?_)
    | split)

theorem execT1sBackoffExpiry_fixed (n : Fin 8) (s : State) : ∃ s', execT1sBackoffExpiry n s = .next s' ∧ s'.fixed = s.fixed := by
  refine ⟨_, rfl, ?_⟩
  simp only [State.updMac_fixed]

theorem execPlcaStatusChange_fixed (n : Fin 8) (up : Bool) (s : State) (beacons : Nat) : ∃ s', execPlcaStatusChange n up s beacons = .next s' ∧ s'.fixed = s.fixed := by
  refine ⟨_, rfl, ?_⟩
  repeat' (first
    | with_reducible rfl
    | simp only [State.fixed_ite, ite_self, State.raise_fixed, State.setPar_fixed, State.stat_fixed]
    | split)

end Sys2Proof.Machine
end

