-- ==== Sys2Proof/Laws/FrameShift.lean ====
section
/-! SUPPORT. The queue, the time and the security state pass unchanged through the operations of `Shift.lean`. -/

set_option linter.all false
set_option linter.unusedTactic false
set_option linter.unreachableTactic false
set_option linter.unusedSimpArgs false

namespace Sys2Proof.Machine

theorem State.updSeq_fixed (s : State) (q : Nat) (f : Seq → Seq) : (State.updSeq s q f).fixed = s.fixed := by
  unfold State.updSeq
  simp only [State.fixed_drive]

theorem State.shownOn_fixed (s : State) (ps : List Nat) : (State.shownOn s ps).fixed = s.fixed := by
  unfold State.shownOn
  repeat' (first
    | with_reducible rfl
    | simp only [State.fixed_ite, ite_self, State.under_fixed]
    | split)

theorem State.portCfg_fixed (s : State) (p : Nat) : (State.portCfg s p).fixed = s.fixed := by
  unfold State.portCfg
  simp only [State.shownOn_fixed]

theorem State.gridCfg_fixed (s : State) (q : Nat) : (State.gridCfg s q).fixed = s.fixed := by
  unfold State.gridCfg
  simp only [State.shownOn_fixed]

theorem State.frameCfg_fixed (s : State) (q k : Nat) : (State.frameCfg s q k).fixed = s.fixed := by
  unfold State.frameCfg
  repeat' (first
    | with_reducible rfl
    | simp only [State.fixed_ite, ite_self, State.gridCfg_fixed, State.under_fixed]
    | split)

theorem State.seqCfg_fixed (s : State) (q : Nat) : (State.seqCfg s q).fixed = s.fixed := by
  unfold State.seqCfg
  repeat' (first
    | with_reducible rfl
    | simp only [State.fixed_ite, ite_self, State.frameCfg_fixed, State.gridCfg_fixed]
    | split)

theorem State.updLamp_fixed (s : State) (i : Nat) (f : Lamp → Lamp) : (State.updLamp s i f).fixed = s.fixed := by
  unfold State.updLamp
  simp only [State.fixed_health]

theorem State.quadStop_fixed (s : State) (q : Nat) : (State.quadStop s q).fixed = s.fixed := by
  unfold State.quadStop
  repeat' (first
    | with_reducible rfl
    | simp only [State.fixed_drive, State.fixed_ite, ite_self, State.updSeq_fixed]
    | split)

theorem State.seqFault_fixed (s : State) (q code : Nat) : (State.seqFault s q code).fixed = s.fixed := by
  unfold State.seqFault
  simp only [State.quadStop_fixed, State.raise_fixed, State.setBlob_fixed, State.setPar_fixed]

theorem State.present_fixed (s : State) (q code : Nat) : (State.present s q code).fixed = s.fixed := by
  unfold State.present
  repeat' (first
    | with_reducible rfl
    | simp only [State.fixed_ite, ite_self, State.bump_fixed, State.raiseTick_fixed, State.updSeq_fixed]
    | split)

theorem State.startSeq_fixed (s : State) (q k : Nat) : (State.startSeq s q k).fixed = s.fixed := by
  unfold State.startSeq
  repeat' (first
    | with_reducible rfl
    | simp only [State.fixed_ite, ite_self, State.updSeq_fixed]
    | split)

theorem State.presentFrame_fixed (s : State) (q k : Nat) : (State.presentFrame s q k).fixed = s.fixed := by
  unfold State.presentFrame
  repeat' (first
    | with_reducible rfl
    | simp only [State.fixed_ite, ite_self, State.present_fixed, State.startSeq_fixed, State.updSeq_fixed]
    | split)

theorem State.boundary_fixed (s : State) (q : Nat) : (State.boundary s q).fixed = s.fixed := by
  unfold State.boundary
  simp only [State.updSeq_fixed]

theorem State.planeEvent_fixed (s : State) (q : Nat) : (State.planeEvent s q).fixed = s.fixed := by
  unfold State.planeEvent
  repeat' (first
    | with_reducible rfl
    | simp only [State.fixed_ite, ite_self, State.frameCfg_fixed, State.present_fixed, State.presentFrame_fixed, State.updSeq_fixed]
    | split)

theorem State.restartShift_fixed (s : State) (q k : Nat) : (State.restartShift s q k).fixed = s.fixed := by
  unfold State.restartShift
  repeat' (first
    | with_reducible rfl
    | simp only [State.fixed_ite, ite_self, State.frameCfg_fixed, State.updSeq_fixed]
    | split)

theorem State.updOwn_fixed (s : State) (p : Nat) (f : OwnSub → OwnSub) : (State.updOwn s p f).fixed = s.fixed := by
  unfold State.updOwn
  simp only [State.fixed_red]

theorem State.ownShift_fixed (s : State) (p st w : Nat) (ws : List Nat) : (State.ownShift s p st w ws).fixed = s.fixed := by
  unfold State.ownShift
  repeat' (first
    | with_reducible rfl
    | simp only [State.fixed_ite, ite_self, State.updOwn_fixed]
    | split)

theorem State.ownLatch_fixed (s : State) (q : Nat) (o : PinOp) (a b : Nat) : (State.ownLatch s q o a b).fixed = s.fixed := by
  unfold State.ownLatch
  repeat' (first
    | with_reducible rfl
    | simp only [State.fixed_ite, ite_self, State.gridCfg_fixed, State.seqCfg_fixed, State.updOwn_fixed]
    | (with_reducible refine (State.each_keeps State.fixed _ _ _ fun _ _ => ?_).trans ?_)
    | split)

theorem State.sendShift_fixed (s : State) (q : Nat) (o : PinOp) (f : Nat → Nat → List Nat) : (State.sendShift s q o f).fixed = s.fixed := by
  unfold State.sendShift
  repeat' (first
    | with_reducible rfl
    | simp only [State.fixed_ite, ite_self, State.ownShift_fixed, State.send_fixed, State.seqCfg_fixed]
    | (with_reducible refine (State.each_keeps State.fixed _ _ _ fun _ _ => ?_).trans ?_)
    | split)

theorem State.replayPush_fixed (s : State) (q : Nat) (o : PinOp) (st : Nat) : (s.replayPush q o st).1.fixed = s.fixed := by
  unfold State.replayPush
  refine (fold_keeps (fun (acc : State × Bool) => acc.1.fixed) _ _ _ fun acc i => ?_).trans rfl
  dsimp only
  rw [State.updSeq_fixed]

theorem State.replayPush_fixed' {s : State} {q : Nat} {o : PinOp} {st : Nat} {a : State} {b : Bool}
    (h : s.replayPush q o st = (a, b)) : a.fixed = s.fixed := by
  rw [← State.replayPush_fixed s q o st, h]

theorem State.probePulse_fixed (s : State) (q : Nat) (o : PinOp) (e : Nat) : (State.probePulse s q o e).fixed = s.fixed := by
  unfold State.probePulse
  repeat' (first
    | with_reducible rfl
    | simp only [State.fixed_health, State.fixed_ite, ite_self, State.when, State.bump_fixed, State.count_fixed, State.gridCfg_fixed, State.send_fixed, State.updSeq_fixed]
    | (with_reducible refine (State.each_keeps State.fixed _ _ _ fun _ _ => ?_).trans ?_)
    | (with_reducible refine (State.foldl_keeps State.fixed _ _ _ fun _ _ => ?_).trans ?_)
    | split)

theorem State.shiftPlane_fixed (s : State) (q : Nat) (o : PinOp) (k n : Nat) : (State.shiftPlane s q o k n).fixed = s.fixed := by
  unfold State.shiftPlane
  repeat' (first
    | with_reducible rfl
    | simp only [State.fixed_ite, ite_self, State.count_fixed, State.frameCfg_fixed, State.sendShift_fixed]
    | split)

theorem State.finishOp_fixed (s : State) (q : Nat) (o : PinOp) (st e : Nat) : (State.finishOp s q o st e).fixed = s.fixed := by
  have key (t a : State) (b : Bool) (h : (if o.kind = 4 ∨ o.kind = 7 then (t, false) else t.replayPush q o st) = (a, b)) :
      a.fixed = t.fixed := by
    split at h
    · cases h; rfl
    · exact State.replayPush_fixed' h
  unfold State.finishOp
  extract_lets late t
  have ht : t.fixed = s.fixed := by
    simp only [t, State.ownLatch_fixed, State.updSeq_fixed]
  generalize hp : (if o.kind = 4 ∨ o.kind = 7 then (t, false) else t.replayPush q o st) = p
  obtain ⟨a, b⟩ := p
  refine Eq.trans ?_ ((key t a b hp).trans ht)
  simp only
  repeat' (first
    | with_reducible rfl
    | simp only [State.fixed_phase, State.fixed_free, State.fixed_outbox, State.fixed_dict, State.fixed_blobs, State.fixed_start, State.fixed_od, State.fixed_ev, State.fixed_lane, State.fixed_time, State.fixed_therm, State.fixed_chain, State.fixed_red, State.fixed_src, State.fixed_comp, State.fixed_scan, State.fixed_store, State.fixed_tile, State.fixed_drive, State.fixed_health, State.fixed_pump, State.fixed_fix, State.fixed_eth, State.fixed_dram, State.fixed_upd, State.fixed_perf, State.fixed_ite, ite_self, State.when, State.count_fixed, State.frameCfg_fixed, State.probePulse_fixed, State.send_fixed, State.sendShift_fixed, State.seqCfg_fixed, State.seqFault_fixed, State.setPar_fixed, State.shiftPlane_fixed, State.updSeq_fixed, if_true, if_false]
    | (with_reducible refine (State.each_keeps State.fixed _ _ _ fun _ _ => ?_).trans ?_)
    | split)

theorem State.settleUnit_fixed (s : State) (q n : Nat) : (s.settleUnit q n).fixed = s.fixed := by
  induction n generalizing s with
  | zero => rfl
  | succ n ih =>
    simp only [State.settleUnit]
    split
    · rfl
    · split
      · rw [ih, State.finishOp_fixed]
      · rfl

theorem execShiftOperationEnd_fixed (q : Fin 8) (s : State) : ∃ s', execShiftOperationEnd q s = .next s' ∧ s'.fixed = s.fixed := by
  refine ⟨_, rfl, ?_⟩
  repeat' (first
    | with_reducible rfl
    | simp only [State.fixed_ite, ite_self, State.finishOp_fixed, State.settleUnit_fixed]
    | split)

end Sys2Proof.Machine
end

