-- ==== Sys2Proof/Laws/FrameSequencer.lean ====
section
/-! SUPPORT. The queue, the time and the security state pass unchanged through the operations of `Sequencer.lean`. -/

set_option linter.all false
set_option linter.unusedTactic false
set_option linter.unreachableTactic false
set_option linter.unusedSimpArgs false

namespace Sys2Proof.Machine

theorem State.issue_fixed (s : State) (q op : Nat) (f : State → Nat → State) (h : ∀ s w, (f s w).fixed = s.fixed) :
    (s.issue q op f).fixed = s.fixed := by
  unfold State.issue
  split
  · rfl
  · rw [h, State.sampleIssue_fixed, State.count_fixed]

theorem State.seqGo_fixed (s : State) (q target n : Nat) : (State.seqGo s q target n).fixed = s.fixed := by
  unfold State.seqGo
  repeat' (first
    | with_reducible rfl
    | simp only [State.fixed_ite, ite_self, State.seqFault_fixed, State.updSeq_fixed]
    | (with_reducible refine (State.issue_fixed _ _ _ _ fun _ _ => ?_).trans ?_)
    | split)

theorem State.seqNext_fixed (s : State) (q n : Nat) : (State.seqNext s q n).fixed = s.fixed := by
  unfold State.seqNext
  repeat' (first
    | with_reducible rfl
    | simp only [State.seqFault_fixed, State.seqGo_fixed, State.updSeq_fixed]
    | (with_reducible refine (State.issue_fixed _ _ _ _ fun _ _ => ?_).trans ?_))

theorem State.seqSet_fixed (s : State) (q r v : Nat) : (State.seqSet s q r v).fixed = s.fixed := by
  unfold State.seqSet
  repeat' (first
    | with_reducible rfl
    | simp only [State.seqFault_fixed, State.seqGo_fixed, State.seqNext_fixed, State.updSeq_fixed]
    | (with_reducible refine (State.issue_fixed _ _ _ _ fun _ _ => ?_).trans ?_))

theorem State.alu_fixed (s : State) (q op : Nat) (f : Seq → Nat → Nat) : ∃ s', State.alu s q op f = .next s' ∧ s'.fixed = s.fixed := by
  refine ⟨_, rfl, ?_⟩
  repeat' (first
    | with_reducible rfl
    | simp only [State.seqFault_fixed, State.seqGo_fixed, State.seqNext_fixed, State.seqSet_fixed, State.updSeq_fixed]
    | (with_reducible refine (State.issue_fixed _ _ _ _ fun _ _ => ?_).trans ?_))

theorem execSeqNop_fixed (q : Fin 8) (s : State) : ∃ s', execSeqNop q s = .next s' ∧ s'.fixed = s.fixed := by
  refine ⟨_, rfl, ?_⟩
  repeat' (first
    | with_reducible rfl
    | simp only [State.seqFault_fixed, State.seqGo_fixed, State.seqNext_fixed, State.seqSet_fixed, State.updSeq_fixed]
    | (with_reducible refine (State.issue_fixed _ _ _ _ fun _ _ => ?_).trans ?_))

theorem execSeqMovi_fixed (q : Fin 8) (s : State) : ∃ s', execSeqMovi q s = .next s' ∧ s'.fixed = s.fixed :=
  State.alu_fixed _ _ _ _

theorem execSeqMovh_fixed (q : Fin 8) (s : State) : ∃ s', execSeqMovh q s = .next s' ∧ s'.fixed = s.fixed :=
  State.alu_fixed _ _ _ _

theorem execSeqAdd_fixed (q : Fin 8) (s : State) : ∃ s', execSeqAdd q s = .next s' ∧ s'.fixed = s.fixed :=
  State.alu_fixed _ _ _ _

theorem execSeqSub_fixed (q : Fin 8) (s : State) : ∃ s', execSeqSub q s = .next s' ∧ s'.fixed = s.fixed :=
  State.alu_fixed _ _ _ _

theorem execSeqAddi_fixed (q : Fin 8) (s : State) : ∃ s', execSeqAddi q s = .next s' ∧ s'.fixed = s.fixed :=
  State.alu_fixed _ _ _ _

theorem execSeqAnd_fixed (q : Fin 8) (s : State) : ∃ s', execSeqAnd q s = .next s' ∧ s'.fixed = s.fixed :=
  State.alu_fixed _ _ _ _

theorem execSeqOr_fixed (q : Fin 8) (s : State) : ∃ s', execSeqOr q s = .next s' ∧ s'.fixed = s.fixed :=
  State.alu_fixed _ _ _ _

theorem execSeqXor_fixed (q : Fin 8) (s : State) : ∃ s', execSeqXor q s = .next s' ∧ s'.fixed = s.fixed :=
  State.alu_fixed _ _ _ _

theorem execSeqShli_fixed (q : Fin 8) (s : State) : ∃ s', execSeqShli q s = .next s' ∧ s'.fixed = s.fixed :=
  State.alu_fixed _ _ _ _

theorem execSeqShri_fixed (q : Fin 8) (s : State) : ∃ s', execSeqShri q s = .next s' ∧ s'.fixed = s.fixed :=
  State.alu_fixed _ _ _ _

theorem execSeqLd_fixed (q : Fin 8) (s : State) : ∃ s', execSeqLd q s = .next s' ∧ s'.fixed = s.fixed := by
  refine ⟨_, rfl, ?_⟩
  repeat' (first
    | with_reducible rfl
    | simp only [State.fixed_ite, ite_self, State.seqFault_fixed, State.seqGo_fixed, State.seqNext_fixed, State.seqSet_fixed, State.updSeq_fixed]
    | (with_reducible refine (State.issue_fixed _ _ _ _ fun _ _ => ?_).trans ?_)
    | split)

theorem execSeqSt_fixed (q : Fin 8) (s : State) : ∃ s', execSeqSt q s = .next s' ∧ s'.fixed = s.fixed := by
  refine ⟨_, rfl, ?_⟩
  repeat' (first
    | with_reducible rfl
    | simp only [State.fixed_ite, ite_self, State.seqFault_fixed, State.seqGo_fixed, State.seqNext_fixed, State.seqSet_fixed, State.updSeq_fixed]
    | (with_reducible refine (State.issue_fixed _ _ _ _ fun _ _ => ?_).trans ?_)
    | split)

theorem execSeqMfs_fixed (q : Fin 8) (s : State) : ∃ s', execSeqMfs q s = .next s' ∧ s'.fixed = s.fixed := by
  refine ⟨_, rfl, ?_⟩
  repeat' (first
    | with_reducible rfl
    | simp only [State.seqFault_fixed, State.seqGo_fixed, State.seqNext_fixed, State.seqSet_fixed, State.updSeq_fixed]
    | (with_reducible refine (State.issue_fixed _ _ _ _ fun _ _ => ?_).trans ?_))

theorem State.branch_fixed (s : State) (q w : Nat) (taken : Bool) : (State.branch s q w taken).fixed = s.fixed := by
  unfold State.branch
  repeat' (first
    | with_reducible rfl
    | simp only [State.fixed_ite, ite_self, State.seqFault_fixed, State.seqGo_fixed, State.seqNext_fixed, State.seqSet_fixed, State.updSeq_fixed]
    | (with_reducible refine (State.issue_fixed _ _ _ _ fun _ _ => ?_).trans ?_)
    | split)

theorem execSeqBr_fixed (q : Fin 8) (s : State) : ∃ s', execSeqBr q s = .next s' ∧ s'.fixed = s.fixed := by
  refine ⟨_, rfl, ?_⟩
  repeat' (first
    | with_reducible rfl
    | simp only [State.branch_fixed, State.seqFault_fixed, State.seqGo_fixed, State.seqNext_fixed, State.seqSet_fixed, State.updSeq_fixed]
    | (with_reducible refine (State.issue_fixed _ _ _ _ fun _ _ => ?_).trans ?_))

theorem execSeqBz_fixed (q : Fin 8) (s : State) : ∃ s', execSeqBz q s = .next s' ∧ s'.fixed = s.fixed := by
  refine ⟨_, rfl, ?_⟩
  repeat' (first
    | with_reducible rfl
    | simp only [State.branch_fixed, State.seqFault_fixed, State.seqGo_fixed, State.seqNext_fixed, State.seqSet_fixed, State.updSeq_fixed]
    | (with_reducible refine (State.issue_fixed _ _ _ _ fun _ _ => ?_).trans ?_))

theorem execSeqBnz_fixed (q : Fin 8) (s : State) : ∃ s', execSeqBnz q s = .next s' ∧ s'.fixed = s.fixed := by
  refine ⟨_, rfl, ?_⟩
  repeat' (first
    | with_reducible rfl
    | simp only [State.branch_fixed, State.seqFault_fixed, State.seqGo_fixed, State.seqNext_fixed, State.seqSet_fixed, State.updSeq_fixed]
    | (with_reducible refine (State.issue_fixed _ _ _ _ fun _ _ => ?_).trans ?_))

theorem execSeqDbnz_fixed (q : Fin 8) (s : State) : ∃ s', execSeqDbnz q s = .next s' ∧ s'.fixed = s.fixed := by
  refine ⟨_, rfl, ?_⟩
  repeat' (first
    | with_reducible rfl
    | simp only [State.branch_fixed, State.seqFault_fixed, State.seqGo_fixed, State.seqNext_fixed, State.seqSet_fixed, State.updSeq_fixed]
    | (with_reducible refine (State.issue_fixed _ _ _ _ fun _ _ => ?_).trans ?_))

theorem execSeqCall_fixed (q : Fin 8) (s : State) : ∃ s', execSeqCall q s = .next s' ∧ s'.fixed = s.fixed := by
  refine ⟨_, rfl, ?_⟩
  repeat' (first
    | with_reducible rfl
    | simp only [State.branch_fixed, State.seqFault_fixed, State.seqGo_fixed, State.seqNext_fixed, State.seqSet_fixed, State.updSeq_fixed]
    | (with_reducible refine (State.issue_fixed _ _ _ _ fun _ _ => ?_).trans ?_))

theorem execSeqRet_fixed (q : Fin 8) (s : State) : ∃ s', execSeqRet q s = .next s' ∧ s'.fixed = s.fixed := by
  refine ⟨_, rfl, ?_⟩
  repeat' (first
    | with_reducible rfl
    | simp only [State.seqFault_fixed, State.seqGo_fixed, State.seqNext_fixed, State.seqSet_fixed, State.updSeq_fixed]
    | (with_reducible refine (State.issue_fixed _ _ _ _ fun _ _ => ?_).trans ?_))

theorem execSeqWait_fixed (q : Fin 8) (s : State) : ∃ s', execSeqWait q s = .next s' ∧ s'.fixed = s.fixed := by
  refine ⟨_, rfl, ?_⟩
  repeat' (first
    | with_reducible rfl
    | simp only [State.seqFault_fixed, State.seqGo_fixed, State.seqNext_fixed, State.seqSet_fixed, State.updSeq_fixed]
    | (with_reducible refine (State.issue_fixed _ _ _ _ fun _ _ => ?_).trans ?_))

theorem execWaitEventTaken_fixed (q : Fin 8) (s : State) : ∃ s', execWaitEventTaken q s = .next s' ∧ s'.fixed = s.fixed := by
  refine ⟨_, rfl, ?_⟩
  repeat' (first
    | with_reducible rfl
    | simp only [State.fixed_ite, ite_self, State.raise_fixed, State.seqCfg_fixed, State.seqFault_fixed, State.seqGo_fixed, State.seqNext_fixed, State.seqSet_fixed, State.startSeq_fixed, State.updSeq_fixed]
    | (with_reducible refine (State.issue_fixed _ _ _ _ fun _ _ => ?_).trans ?_)
    | split)

theorem execSeqDly_fixed (q : Fin 8) (s : State) : ∃ s', execSeqDly q s = .next s' ∧ s'.fixed = s.fixed := by
  refine ⟨_, rfl, ?_⟩
  repeat' (first
    | with_reducible rfl
    | simp only [State.seqFault_fixed, State.seqGo_fixed, State.seqNext_fixed, State.seqSet_fixed, State.updSeq_fixed]
    | (with_reducible refine (State.issue_fixed _ _ _ _ fun _ _ => ?_).trans ?_))

theorem execSeqWatchdogExpiry_fixed (q : Fin 8) (s : State) : ∃ s', execSeqWatchdogExpiry q s = .next s' ∧ s'.fixed = s.fixed := by
  refine ⟨_, rfl, ?_⟩
  repeat' (first
    | with_reducible rfl
    | simp only [State.fixed_ite, ite_self, State.seqFault_fixed, State.seqGo_fixed, State.seqNext_fixed, State.seqSet_fixed, State.updSeq_fixed]
    | (with_reducible refine (State.issue_fixed _ _ _ _ fun _ _ => ?_).trans ?_)
    | split)

theorem execSeqTrace_fixed (q : Fin 8) (s : State) : ∃ s', execSeqTrace q s = .next s' ∧ s'.fixed = s.fixed := by
  refine ⟨_, rfl, ?_⟩
  repeat' (first
    | with_reducible rfl
    | simp only [State.fixed_ite, ite_self, State.boundary_fixed, State.raiseTick_fixed, State.samplePut_fixed, State.seqFault_fixed, State.seqGo_fixed, State.seqNext_fixed, State.seqSet_fixed, State.updSeq_fixed]
    | (with_reducible refine (State.issue_fixed _ _ _ _ fun _ _ => ?_).trans ?_)
    | split)

theorem execSeqFault_fixed (q : Fin 8) (s : State) : ∃ s', execSeqFault q s = .next s' ∧ s'.fixed = s.fixed := by
  refine ⟨_, rfl, ?_⟩
  repeat' (first
    | with_reducible rfl
    | simp only [State.seqFault_fixed, State.seqGo_fixed, State.seqNext_fixed, State.seqSet_fixed, State.updSeq_fixed]
    | (with_reducible refine (State.issue_fixed _ _ _ _ fun _ _ => ?_).trans ?_))

theorem State.opCount_fixed (s : State) (op raw : Nat) : (State.opCount s op raw).2.fixed = s.fixed := by
  unfold State.opCount
  repeat' (first
    | with_reducible rfl
    | simp only [State.fixed_ite, ite_self, State.seqFault_fixed, State.seqGo_fixed, State.seqNext_fixed, State.seqSet_fixed, State.takeFree_fixed, State.updSeq_fixed]
    | (with_reducible refine (State.takeFree_fixed' (by assumption)).trans ?_)
    | (with_reducible refine (State.issue_fixed _ _ _ _ fun _ _ => ?_).trans ?_)
    | split)
theorem State.opCount_fixed' {s : State} {op raw : Nat} {a : Nat} {b : State} (hEq : State.opCount s op raw = (a, b)) : b.fixed = s.fixed := by
  rw [← State.opCount_fixed s op raw, hEq]

theorem State.shiftIssue_fixed (s : State) (q op : Nat) : ∃ s', State.shiftIssue s q op = .next s' ∧ s'.fixed = s.fixed := by
  refine ⟨_, rfl, ?_⟩
  repeat' (first
    | with_reducible rfl
    | simp only [State.fixed_src, State.fixed_ite, ite_self, State.boundary_fixed, State.bump_fixed, State.gridCfg_fixed, State.opCount_fixed, State.raiseLimited_fixed, State.seqFault_fixed, State.seqGo_fixed, State.seqNext_fixed, State.seqSet_fixed, State.settleUnit_fixed, State.updSeq_fixed]
    | (with_reducible refine (State.opCount_fixed' (by assumption)).trans ?_)
    | (with_reducible refine (State.issue_fixed _ _ _ _ fun _ _ => ?_).trans ?_)
    | split)

theorem execSeqShw_fixed (q : Fin 8) (s : State) : ∃ s', execSeqShw q s = .next s' ∧ s'.fixed = s.fixed :=
  State.shiftIssue_fixed _ _ _

theorem execSeqShb_fixed (q : Fin 8) (s : State) : ∃ s', execSeqShb q s = .next s' ∧ s'.fixed = s.fixed :=
  State.shiftIssue_fixed _ _ _

theorem execSeqShr_fixed (q : Fin 8) (s : State) : ∃ s', execSeqShr q s = .next s' ∧ s'.fixed = s.fixed :=
  State.shiftIssue_fixed _ _ _

theorem execSeqLat_fixed (q : Fin 8) (s : State) : ∃ s', execSeqLat q s = .next s' ∧ s'.fixed = s.fixed :=
  State.shiftIssue_fixed _ _ _

theorem execSeqStrm_fixed (q : Fin 8) (s : State) : ∃ s', execSeqStrm q s = .next s' ∧ s'.fixed = s.fixed :=
  State.shiftIssue_fixed _ _ _

theorem execSeqOec_fixed (q : Fin 8) (s : State) : ∃ s', execSeqOec q s = .next s' ∧ s'.fixed = s.fixed :=
  State.shiftIssue_fixed _ _ _

theorem execSeqPrb_fixed (q : Fin 8) (s : State) : ∃ s', execSeqPrb q s = .next s' ∧ s'.fixed = s.fixed :=
  State.shiftIssue_fixed _ _ _

theorem execSeqFsd_fixed (q : Fin 8) (s : State) : ∃ s', execSeqFsd q s = .next s' ∧ s'.fixed = s.fixed :=
  State.shiftIssue_fixed _ _ _

theorem State.updBus_fixed (s : State) (b : Nat) (f : Bus → Bus) : (State.updBus s b f).fixed = s.fixed := by
  unfold State.updBus
  repeat' (first
    | with_reducible rfl
    | simp only [State.fixed_drive, State.seqFault_fixed, State.seqGo_fixed, State.seqNext_fixed, State.seqSet_fixed, State.updSeq_fixed]
    | (with_reducible refine (State.issue_fixed _ _ _ _ fun _ _ => ?_).trans ?_))

theorem execSeqI2c_fixed (q : Fin 8) (s : State) : ∃ s', execSeqI2c q s = .next s' ∧ s'.fixed = s.fixed := by
  refine ⟨_, rfl, ?_⟩
  repeat' (first
    | with_reducible rfl
    | simp only [State.fixed_ite, ite_self, State.send_fixed, State.seqFault_fixed, State.seqGo_fixed, State.seqNext_fixed, State.seqSet_fixed, State.updBus_fixed, State.updSeq_fixed]
    | (with_reducible refine (State.issue_fixed _ _ _ _ fun _ _ => ?_).trans ?_)
    | split)

theorem State.pushPull_fixed (s : State) (q op : Nat) (f : State → Nat → Nat → State)
    (h : ∀ s w b, (f s w b).fixed = s.fixed) : ∃ t, s.pushPull q op f = .next t ∧ t.fixed = s.fixed := by
  refine ⟨_, rfl, ?_⟩
  refine State.issue_fixed _ _ _ _ fun _ _ => ?_
  repeat' (first
    | with_reducible rfl
    | simp only [State.fixed_phase, State.fixed_free, State.fixed_outbox, State.fixed_dict, State.fixed_blobs, State.fixed_start, State.fixed_od, State.fixed_ev, State.fixed_lane, State.fixed_time, State.fixed_therm, State.fixed_chain, State.fixed_red, State.fixed_src, State.fixed_comp, State.fixed_scan, State.fixed_store, State.fixed_tile, State.fixed_drive, State.fixed_health, State.fixed_pump, State.fixed_fix, State.fixed_eth, State.fixed_dram, State.fixed_upd, State.fixed_perf, State.fixed_ite, ite_self, State.when, State.seqGo_fixed, State.seqNext_fixed, State.seqFault_fixed, State.updSeq_fixed, h]
    | (with_reducible refine (State.each_keeps State.fixed _ _ _ fun _ _ => ?_).trans ?_)
    | (with_reducible refine (State.foldl_keeps State.fixed _ _ _ fun _ _ => ?_).trans ?_)
    | split)

theorem execSeqPpw_fixed (q : Fin 8) (s : State) : ∃ s', execSeqPpw q s = .next s' ∧ s'.fixed = s.fixed := by
  refine State.pushPull_fixed _ _ _ _ fun s w b => ?_
  repeat' (first
    | with_reducible rfl
    | simp only [State.fixed_ite, ite_self, State.pushPull_fixed, State.send_fixed, State.seqFault_fixed, State.seqGo_fixed, State.seqNext_fixed, State.seqSet_fixed, State.updSeq_fixed]
    | (with_reducible refine (State.issue_fixed _ _ _ _ fun _ _ => ?_).trans ?_)
    | split)

theorem execSeqPpr_fixed (q : Fin 8) (bits : BitVec 32) (s : State) : ∃ s', execSeqPpr q bits s = .next s' ∧ s'.fixed = s.fixed := by
  refine State.pushPull_fixed _ _ _ _ fun s w b => ?_
  repeat' (first
    | with_reducible rfl
    | simp only [State.fixed_ite, ite_self, State.pushPull_fixed, State.seqFault_fixed, State.seqGo_fixed, State.seqNext_fixed, State.seqSet_fixed, State.updSeq_fixed]
    | (with_reducible refine (State.issue_fixed _ _ _ _ fun _ _ => ?_).trans ?_)
    | split)

theorem execSampleTake_fixed (i : Fin 10) (word pc addr : BitVec 32) (latency : Nat) (s : State) : ∃ s', execSampleTake i word pc addr latency s = .next s' ∧ s'.fixed = s.fixed := by
  refine ⟨_, rfl, ?_⟩
  repeat' (first
    | with_reducible rfl
    | simp only [State.fixed_ite, ite_self, State.boundary_fixed, State.sampleDraw_fixed, State.samplePut_fixed, State.seqFault_fixed, State.seqGo_fixed, State.seqNext_fixed, State.seqSet_fixed, State.updSeq_fixed]
    | (with_reducible refine (State.issue_fixed _ _ _ _ fun _ _ => ?_).trans ?_)
    | split)

end Sys2Proof.Machine
end

