-- ==== Sys2Proof/Laws/FrameLamps.lean ====
section
/-! SUPPORT. The queue, the time and the security state pass unchanged through the operations of `Lamps.lean`. -/

set_option linter.all false
set_option linter.unusedTactic false
set_option linter.unreachableTactic false
set_option linter.unusedSimpArgs false

namespace Sys2Proof.Machine

theorem State.busError_fixed (s : State) (b : Nat) : (State.busError s b).fixed = s.fixed := by
  unfold State.busError
  simp only [State.bump_fixed]

theorem State.busEnd_fixed (s : State) (b : Nat) (r : BusEnd) : (s.busEnd b r).1.fixed = s.fixed := by
  unfold State.busEnd
  repeat' (first
    | with_reducible rfl
    | simp only [State.fixed_phase, State.fixed_free, State.fixed_outbox, State.fixed_dict, State.fixed_blobs, State.fixed_start, State.fixed_od, State.fixed_ev, State.fixed_lane, State.fixed_time, State.fixed_therm, State.fixed_chain, State.fixed_red, State.fixed_src, State.fixed_comp, State.fixed_scan, State.fixed_store, State.fixed_tile, State.fixed_drive, State.fixed_health, State.fixed_pump, State.fixed_fix, State.fixed_eth, State.fixed_dram, State.fixed_upd, State.fixed_perf, State.fixed_ite, ite_self, State.when, State.updBus_fixed, State.busError_fixed, State.raise_fixed, State.raiseIf_fixed]
    | (with_reducible refine (State.each_keeps State.fixed _ _ _ fun _ _ => ?_).trans ?_)
    | (with_reducible refine (State.foldl_keeps State.fixed _ _ _ fun _ _ => ?_).trans ?_)
    | split)
theorem State.busEnd_fixed' {s : State} {b : Nat} {r : BusEnd} {t : State} {o : Option (Nat × List Byte)} (h : s.busEnd b r = (t, o)) :
    t.fixed = s.fixed := by
  rw [← State.busEnd_fixed s b r, h]

theorem State.busFree_fixed (s : State) (b : Nat) : (State.busFree s b).fixed = s.fixed := by
  unfold State.busFree
  simp only [State.updBus_fixed]

theorem State.programDone_fixed (s : State) (q a st : Nat) (bytes : List Byte) : (State.programDone s q a st bytes).fixed = s.fixed := by
  unfold State.programDone
  repeat' (first
    | with_reducible rfl
    | simp only [State.fixed_ite, ite_self, State.busFree_fixed, State.present_fixed, State.updSeq_fixed]
    | (with_reducible refine (State.foldl_keeps State.fixed _ _ _ fun _ _ => ?_).trans ?_)
    | split)

theorem execBusTransactionEnd_fixed (b : Fin 8) (r : BusEnd) (s : State) : ∃ s', execBusTransactionEnd b r s = .next s' ∧ s'.fixed = s.fixed := by
  refine ⟨_, rfl, ?_⟩
  repeat' (first
    | with_reducible rfl
    | simp only [State.fixed_ite, ite_self, State.busEnd_fixed, State.programDone_fixed]
    | (with_reducible refine (State.busEnd_fixed' (by assumption)).trans ?_)
    | split)

theorem execSensorReadStart_fixed (i : Fin 16) (s : State) : ∃ s', execSensorReadStart i s = .next s' ∧ s'.fixed = s.fixed := by
  refine ⟨_, rfl, ?_⟩
  repeat' (first
    | with_reducible rfl
    | simp only [State.fixed_ite, ite_self, State.send_fixed, State.updBus_fixed]
    | split)

theorem execSensorReadComplete_fixed (i : Fin 16) (r : BusEnd) (s : State) : ∃ s', execSensorReadComplete i r s = .next s' ∧ s'.fixed = s.fixed := by
  refine ⟨_, rfl, ?_⟩
  repeat' (first
    | with_reducible rfl
    | simp only [State.fixed_tile, State.fixed_ite, ite_self, State.busEnd_fixed, State.busFree_fixed, State.setPar_fixed]
    | (with_reducible refine (State.busEnd_fixed' (by assumption)).trans ?_)
    | split)

theorem State.healthFailed_fixed (s : State) (q strand : Nat) : (State.healthFailed s q strand).fixed = s.fixed := by
  unfold State.healthFailed
  simp only [State.fixed_health, State.bump_fixed, State.raiseLimited_fixed]

theorem execBusStretchTimeout_fixed (b : Fin 8) (s : State) : ∃ s', execBusStretchTimeout b s = .next s' ∧ s'.fixed = s.fixed := by
  refine ⟨_, rfl, ?_⟩
  repeat' (first
    | with_reducible rfl
    | simp only [State.busError_fixed, State.busFree_fixed, State.healthFailed_fixed, State.programDone_fixed, State.raise_fixed]
    | split)

theorem execBusStuckRetry_fixed (b : Fin 8) (released : Bool) (s : State) : ∃ s', execBusStuckRetry b released s = .next s' ∧ s'.fixed = s.fixed := by
  refine ⟨_, rfl, ?_⟩
  repeat' (first
    | with_reducible rfl
    | simp only [State.fixed_ite, ite_self, State.busError_fixed, State.updBus_fixed]
    | split)

theorem State.subVerdict_fixed (s : State) (first : Bool) : (State.subVerdict s first).fixed = s.fixed := by
  unfold State.subVerdict
  repeat' (first
    | with_reducible rfl
    | simp only [State.fixed_red, State.fixed_ite, ite_self, State.raise_fixed, State.syncEval_fixed]
    | split)

theorem State.readback_fixed (s : State) (p m : Nat) (heard : Option SubHeard) : (State.readback s p m heard).fixed = s.fixed := by
  unfold State.readback
  repeat' (first
    | with_reducible rfl
    | simp only [State.fixed_start, State.fixed_red, State.fixed_ite, ite_self, State.portCfg_fixed, State.subVerdict_fixed]
    | simp only [State.fixed_mk, State.fixed_fold]
    | split)

theorem State.oeLow_fixed (s : State) (p : Nat) : (State.oeLow s p).fixed = s.fixed := by
  unfold State.oeLow
  repeat' (first
    | with_reducible rfl
    | simp only [State.fixed_start, State.fixed_ite, ite_self]
    | split)

theorem State.subframeIn_fixed (s : State) (p m : Nat) : (State.subframeIn s p m).fixed = s.fixed := by
  unfold State.subframeIn
  repeat' (first
    | with_reducible rfl
    | simp only [State.fixed_phase, State.fixed_free, State.fixed_outbox, State.fixed_dict, State.fixed_blobs, State.fixed_start, State.fixed_od, State.fixed_ev, State.fixed_lane, State.fixed_time, State.fixed_therm, State.fixed_chain, State.fixed_red, State.fixed_src, State.fixed_comp, State.fixed_scan, State.fixed_store, State.fixed_tile, State.fixed_drive, State.fixed_health, State.fixed_pump, State.fixed_fix, State.fixed_eth, State.fixed_dram, State.fixed_upd, State.fixed_perf, State.fixed_ite, ite_self, State.when, State.oeLow_fixed, if_true, if_false]
    | simp only [State.fixed_mk, State.fixed_fold]
    | (with_reducible refine (State.each_keeps State.fixed _ _ _ fun _ _ => ?_).trans ?_)
    | (with_reducible refine (State.foldl_keeps State.fixed _ _ _ fun _ _ => ?_).trans ?_)
    | split)

theorem execSubframeBoundary_fixed (p : Fin 32) (k : Nat) (m : Fin 128) (heard : Option SubHeard) (s : State) : ∃ s', execSubframeBoundary p k m heard s = .next s' ∧ s'.fixed = s.fixed := by
  refine ⟨_, rfl, ?_⟩
  repeat' (first
    | with_reducible rfl
    | simp only [State.fixed_red, State.fixed_drive, State.fixed_ite, ite_self, State.when, State.boundary_fixed, State.gridCfg_fixed, State.portCfg_fixed, State.present_fixed, State.readback_fixed, State.send_fixed, State.subframeIn_fixed, State.updSeq_fixed]
    | simp only [State.fixed_mk, State.fixed_fold]
    | split)

theorem State.probeOffer_fixed (s : State) (q : Nat) : (State.probeOffer s q).fixed = s.fixed := by
  unfold State.probeOffer
  repeat' (first
    | with_reducible rfl
    | simp only [State.fixed_ite, ite_self, State.bump_fixed, State.gridCfg_fixed, State.updSeq_fixed]
    | split)

theorem execRowSlotBoundary_fixed (q : Fin 8) (r : Fin 32) (s : State) : ∃ s', execRowSlotBoundary q r s = .next s' ∧ s'.fixed = s.fixed := by
  refine ⟨_, rfl, ?_⟩
  repeat' (first
    | with_reducible rfl
    | simp only [State.fixed_ite, ite_self, State.when, State.boundary_fixed, State.gridCfg_fixed, State.planeEvent_fixed, State.present_fixed, State.probeOffer_fixed, State.send_fixed, State.updSeq_fixed]
    | split)

theorem execPlaneBoundary_fixed (q : Fin 8) (s : State) : ∃ s', execPlaneBoundary q s = .next s' ∧ s'.fixed = s.fixed := by
  refine ⟨_, rfl, ?_⟩
  repeat' (first
    | with_reducible rfl
    | simp only [State.fixed_ite, ite_self, State.when, State.boundary_fixed, State.gridCfg_fixed, State.planeEvent_fixed, State.send_fixed, State.seqFault_fixed, State.updSeq_fixed]
    | split)

theorem State.quadRestart_fixed (s : State) (q : Nat) : (State.quadRestart s q).fixed = s.fixed := by
  unfold State.quadRestart
  repeat' (first
    | with_reducible rfl
    | simp only [State.fixed_ite, ite_self, State.presentFrame_fixed, State.raise_fixed, State.seqCfg_fixed, State.updSeq_fixed]
    | split)

theorem execQuadRestartAtBoundary_fixed (q : Fin 8) (s : State) : ∃ s', execQuadRestartAtBoundary q s = .next s' ∧ s'.fixed = s.fixed := by
  refine ⟨_, rfl, ?_⟩
  simp only [State.quadRestart_fixed]

end Sys2Proof.Machine
end

