-- ==== Sys2Proof/Laws/FrameFrames.lean ====
section
/-! SUPPORT. The queue, the time and the security state pass unchanged through the operations of `Frames.lean`. -/

set_option linter.all false
set_option linter.unusedTactic false
set_option linter.unreachableTactic false
set_option linter.unusedSimpArgs false

namespace Sys2Proof.Machine

theorem execCutOff_fixed (k : Nat) (tie : Bool) (s : State) : ∃ s', execCutOff k tie s = .next s' ∧ s'.fixed = s.fixed := by
  refine ⟨_, rfl, ?_⟩
  repeat' (first
    | with_reducible rfl
    | simp only [State.fixed_time, State.fixed_chain, State.fixed_red, State.fixed_tile, State.fixed_ite, ite_self, State.raiseIf_fixed]
    | simp only [State.fixed_mk, State.fixed_fold]
    | split)

theorem State.offerSource_fixed (s : State) (k p : Nat) : (State.offerSource s k p).fixed = s.fixed := by
  unfold State.offerSource
  repeat' (first
    | with_reducible rfl
    | simp only [State.fixed_tile, State.fixed_ite, ite_self, State.presentFrame_fixed, State.restartShift_fixed]
    | (with_reducible refine (State.each_keeps State.fixed _ _ _ fun _ _ => ?_).trans ?_)
    | split)

theorem execCorrectionWriteThrough_fixed (p : Fin 2) (k : Nat) (s : State) : ∃ s', execCorrectionWriteThrough p k s = .next s' ∧ s'.fixed = s.fixed := by
  refine ⟨_, rfl, ?_⟩
  repeat' (first
    | with_reducible rfl
    | simp only [State.fixed_chain, State.fixed_src, State.fixed_tile, State.fixed_ite, ite_self, State.count_fixed, State.offerSource_fixed, State.under_fixed]
    | simp only [State.fixed_mk, State.fixed_fold]
    | split)

theorem State.snapBeta_fixed (s : State) (n : Nat) (tie : Bool) : (State.snapBeta s n tie).fixed = s.fixed := by
  unfold State.snapBeta
  repeat' (first
    | with_reducible rfl
    | simp only [State.fixed_tile, State.fixed_ite, ite_self, State.raiseIf_fixed, State.setPar_fixed]
    | split)

theorem State.loadLoops_fixed (s : State) (n : Nat) (tie : Bool) : (State.loadLoops s n tie).fixed = s.fixed := by
  unfold State.loadLoops
  repeat' (first
    | with_reducible rfl
    | simp only [State.fixed_pump, State.fixed_ite, ite_self, State.raise_fixed]
    | (with_reducible refine (State.each_keeps State.fixed _ _ _ fun _ _ => ?_).trans ?_)
    | split)

theorem State.sendScale_fixed (s : State) (n : Nat) : (State.sendScale s n).fixed = s.fixed := by
  unfold State.sendScale
  repeat' (first
    | with_reducible rfl
    | simp only [State.fixed_ite, ite_self, State.sendMember_fixed]
    | split)

theorem State.takeMasks_fixed (s : State) (n : Nat) (tie : Bool) : (State.takeMasks s n tie).fixed = s.fixed := by
  unfold State.takeMasks
  repeat' (first
    | with_reducible rfl
    | simp only [State.fixed_health, State.fixed_ite, ite_self, State.raiseIf_fixed, State.updLamp_fixed]
    | (with_reducible refine (State.each_keeps State.fixed _ _ _ fun _ _ => ?_).trans ?_)
    | split)

theorem State.snapshot_fixed (s : State) (n : Nat) (tie : Bool) : (State.snapshot s n tie).fixed = s.fixed := by
  unfold State.snapshot
  repeat' (first
    | with_reducible rfl
    | simp only [State.fixed_chain, State.fixed_tile, State.fixed_ite, ite_self, State.gainSwap_fixed, State.loadLoops_fixed, State.sendScale_fixed, State.sensorsJudge_fixed, State.slewZones_fixed, State.snapBeta_fixed, State.takeMasks_fixed, State.zoneTemps_fixed]
    | simp only [State.fixed_mk, State.fixed_fold]
    | split)

theorem State.revertCursors_fixed (s : State) (k : Nat) : (State.revertCursors s k).fixed = s.fixed := by
  unfold State.revertCursors
  repeat' (first
    | with_reducible rfl
    | simp only [State.fixed_ite, ite_self, State.updSeq_fixed]
    | (with_reducible refine (State.each_keeps State.fixed _ _ _ fun _ _ => ?_).trans ?_)
    | split)

theorem State.swapFrame_fixed (s : State) (k : Nat) (b : Back) (tie : Bool) : (State.swapFrame s k b tie).fixed = s.fixed := by
  unfold State.swapFrame
  repeat' (first
    | with_reducible rfl
    | simp only [State.fixed_start, State.fixed_tile, State.fixed_drive, State.boundary_fixed, State.bump_fixed, State.present_fixed, State.raiseIf_fixed, State.setPar_fixed, State.setReady_fixed, State.updSeq_fixed]
    | simp only [State.fixed_mk, State.fixed_fold]
    | (with_reducible refine (State.each_keeps State.fixed _ _ _ fun _ _ => ?_).trans ?_))

theorem State.displaySwap_fixed (s : State) (k : Nat) (tie : Bool) : (State.displaySwap s k tie).fixed = s.fixed := by
  unfold State.displaySwap
  repeat' (first
    | with_reducible rfl
    | simp only [State.fixed_ite, ite_self, State.bump_fixed, State.raise_fixed, State.revertCursors_fixed, State.swapFrame_fixed]
    | split)

theorem State.shiftMargins_fixed (s : State) (k : Nat) : (State.shiftMargins s k).fixed = s.fixed := by
  unfold State.shiftMargins
  repeat' (first
    | with_reducible rfl
    | simp only [State.fixed_ite, ite_self, State.setPar_fixed]
    | (with_reducible refine (State.each_keeps State.fixed _ _ _ fun _ _ => ?_).trans ?_)
    | split)

theorem State.healthFrame_fixed (s : State) : (State.healthFrame s).fixed = s.fixed := by
  unfold State.healthFrame
  repeat' (first
    | with_reducible rfl
    | simp only [State.fixed_health, State.fixed_ite, ite_self, State.under_fixed]
    | (with_reducible refine (State.foldl_keeps State.fixed _ _ _ fun _ _ => ?_).trans ?_)
    | split)

theorem execDisplayTick_fixed (k : Nat) (tie : Bool) (s : State) : ∃ s', execDisplayTick k tie s = .next s' ∧ s'.fixed = s.fixed := by
  refine ⟨_, rfl, ?_⟩
  repeat' (first
    | with_reducible rfl
    | simp only [State.fixed_start, State.fixed_chain, State.fixed_scan, State.fixed_tile, State.fixed_ite, ite_self, State.displaySwap_fixed, State.gainStart_fixed, State.healthFrame_fixed, State.shiftMargins_fixed, State.snapshot_fixed, State.under_fixed, State.unfitFrom_fixed, State.wearUpdate_fixed]
    | simp only [State.fixed_mk, State.fixed_fold]
    | split)

end Sys2Proof.Machine
end

