-- ==== Sys2Proof/Laws/FrameHealth.lean ====
section
/-! SUPPORT. The queue, the time and the security state pass unchanged through the operations of `Health.lean`. -/

set_option linter.all false
set_option linter.unusedTactic false
set_option linter.unreachableTactic false
set_option linter.unusedSimpArgs false

namespace Sys2Proof.Machine

theorem execHealthReadStart_fixed (q : Fin 8) (i : Fin 16) (s : State) : ∃ s', execHealthReadStart q i s = .next s' ∧ s'.fixed = s.fixed := by
  refine ⟨_, rfl, ?_⟩
  repeat' (first
    | with_reducible rfl
    | simp only [State.fixed_health, State.fixed_ite, ite_self, State.send_fixed, State.updBus_fixed]
    | split)

theorem State.healthTell_fixed (s : State) (ev lamp : Nat) : (State.healthTell s ev lamp).1.fixed = s.fixed := by
  unfold State.healthTell
  repeat' (first
    | with_reducible rfl
    | simp only [State.fixed_health, State.fixed_ite, ite_self, State.bump_fixed, State.raise_fixed]
    | split)
theorem State.healthTell_fixed' {s : State} {ev lamp : Nat} {a : State} {b : Bool} (hEq : State.healthTell s ev lamp = (a, b)) : a.fixed = s.fixed := by
  rw [← State.healthTell_fixed s ev lamp, hEq]

theorem State.sendMask_fixed (s : State) (lamp status frame : Nat) : (State.sendMask s lamp status frame).fixed = s.fixed := by
  unfold State.sendMask
  repeat' (first
    | with_reducible rfl
    | simp only [State.fixed_ite, ite_self, State.sendMember_fixed]
    | split)

theorem State.listAdd_fixed (s : State) (lamp status : Nat) : (State.listAdd s lamp status).fixed = s.fixed := by
  unfold State.listAdd
  repeat' (first
    | with_reducible rfl
    | simp only [State.fixed_health, State.fixed_ite, ite_self, State.raise_fixed]
    | split)

theorem State.listDrop_fixed (s : State) (lamp : Nat) : (State.listDrop s lamp).fixed = s.fixed := by
  unfold State.listDrop
  simp only [State.fixed_health]

theorem State.declare_fixed (s : State) (lamp status : Nat) : (State.declare s lamp status).fixed = s.fixed := by
  unfold State.declare
  repeat' (first
    | with_reducible rfl
    | simp only [State.fixed_health, State.fixed_ite, ite_self, State.healthTell_fixed, State.listAdd_fixed, State.sendMask_fixed, State.updLamp_fixed]
    | (with_reducible refine (State.healthTell_fixed' (by assumption)).trans ?_)
    | split)

theorem State.lampResult_fixed (s : State) (lamp : Nat) (flags : Bool × Bool) : (State.lampResult s lamp flags).fixed = s.fixed := by
  unfold State.lampResult
  repeat' (first
    | with_reducible rfl
    | simp only [State.fixed_ite, ite_self, State.declare_fixed, State.updLamp_fixed]
    | split)

theorem execHealthReadComplete_fixed (q : Fin 8) (i : Fin 16) (r : BusEnd) (s : State) : ∃ s', execHealthReadComplete q i r s = .next s' ∧ s'.fixed = s.fixed := by
  refine ⟨_, rfl, ?_⟩
  repeat' (first
    | with_reducible rfl
    | simp only [State.fixed_health, State.fixed_ite, ite_self, State.busEnd_fixed, State.busFree_fixed, State.healthFailed_fixed, State.lampResult_fixed, State.raise_fixed]
    | (with_reducible refine (State.busEnd_fixed' (by assumption)).trans ?_)
    | (with_reducible refine (State.each_keeps State.fixed _ _ _ fun _ _ => ?_).trans ?_)
    | split)

theorem execLampAgeSecond_fixed (s : State) : ∃ s', execLampAgeSecond s = .next s' ∧ s'.fixed = s.fixed := by
  refine ⟨_, rfl, ?_⟩
  repeat' (first
    | with_reducible rfl
    | simp only [State.fixed_health, State.fixed_ite, ite_self]
    | split)

theorem execFaultListWrite_fixed (s : State) : ∃ s', execFaultListWrite s = .next s' ∧ s'.fixed = s.fixed := by
  refine ⟨_, rfl, ?_⟩
  repeat' (first
    | with_reducible rfl
    | simp only [State.fixed_health, State.fixed_ite, ite_self]
    | split)

theorem State.loadFaults_fixed (s : State) : (State.loadFaults s).fixed = s.fixed := by
  unfold State.loadFaults
  repeat' (first
    | with_reducible rfl
    | simp only [State.fixed_health]
    | (with_reducible refine (State.foldl_keeps State.fixed _ _ _ fun _ _ => ?_).trans ?_))

theorem execHealthClear_fixed (s : State) : ∃ s', execHealthClear s = .next s' ∧ s'.fixed = s.fixed := by
  refine ⟨_, rfl, ?_⟩
  repeat' (first
    | with_reducible rfl
    | simp only [State.fixed_health, State.healthTell_fixed, State.listDrop_fixed, State.sendMask_fixed]
    | (with_reducible refine (State.healthTell_fixed' (by assumption)).trans ?_)
    | (with_reducible refine (State.each_keeps State.fixed _ _ _ fun _ _ => ?_).trans ?_)
    | split)

theorem execHealthDeclare_fixed (s : State) : ∃ s', execHealthDeclare s = .next s' ∧ s'.fixed = s.fixed := by
  refine ⟨_, rfl, ?_⟩
  repeat' (first
    | with_reducible rfl
    | simp only [State.fixed_health, State.listAdd_fixed, State.sendMask_fixed, State.updLamp_fixed]
    | (with_reducible refine (State.each_keeps State.fixed _ _ _ fun _ _ => ?_).trans ?_)
    | split)

end Sys2Proof.Machine
end

