-- ==== Sys2Proof/Laws/FramePump.lean ====
section
/-! SUPPORT. The queue, the time and the security state pass unchanged through the operations of `Pump.lean`. -/

set_option linter.all false
set_option linter.unusedTactic false
set_option linter.unreachableTactic false
set_option linter.unusedSimpArgs false

namespace Sys2Proof.Machine

theorem State.updLoop_fixed (s : State) (l : Nat) (f : Loop → Loop) : (State.updLoop s l f).fixed = s.fixed := by
  unfold State.updLoop
  simp only [State.fixed_pump]

theorem execAinConversion_fixed (a : Fin 8) (code : BitVec 12) (s : State) : ∃ s', execAinConversion a code s = .next s' ∧ s'.fixed = s.fixed := by
  refine ⟨_, rfl, ?_⟩
  repeat' (first
    | with_reducible rfl
    | simp only [State.fixed_pump, State.fixed_ite, ite_self, State.raiseIf_fixed, State.setPar_fixed]
    | split)

theorem State.putTach_fixed (s : State) (t : Nat) (x : Tach) : (State.putTach s t x).fixed = s.fixed := by
  unfold State.putTach
  simp only [State.fixed_pump]

theorem State.putSpeed_fixed (s : State) (t : Nat) (x : Tach) (rpm : Nat) : (State.putSpeed s t x rpm).fixed = s.fixed := by
  unfold State.putSpeed
  repeat' (first
    | with_reducible rfl
    | simp only [State.fixed_ite, ite_self, State.putTach_fixed, State.setPar_fixed]
    | split)

theorem execTachEdge_fixed (t : Fin 2) (s : State) : ∃ s', execTachEdge t s = .next s' ∧ s'.fixed = s.fixed := by
  refine ⟨_, rfl, ?_⟩
  repeat' (first
    | with_reducible rfl
    | simp only [State.fixed_ite, ite_self, State.putSpeed_fixed, State.putTach_fixed]
    | split)

theorem execTachTimeout_fixed (t : Fin 2) (s : State) : ∃ s', execTachTimeout t s = .next s' ∧ s'.fixed = s.fixed := by
  refine ⟨_, rfl, ?_⟩
  repeat' (first
    | with_reducible rfl
    | simp only [State.fixed_ite, ite_self, State.putSpeed_fixed]
    | split)

theorem execTachStallTimer_fixed (t : Fin 2) (s : State) : ∃ s', execTachStallTimer t s = .next s' ∧ s'.fixed = s.fixed := by
  refine ⟨_, rfl, ?_⟩
  repeat' (first
    | with_reducible rfl
    | simp only [State.fixed_ite, ite_self, State.putTach_fixed, State.raise_fixed]
    | split)

theorem State.loopInput_fixed (s : State) (l : Nat) : (State.loopInput s l).2.fixed = s.fixed := by
  unfold State.loopInput
  repeat' (first
    | with_reducible rfl
    | simp only [State.fixed_ite, ite_self, State.takeFree_fixed]
    | (with_reducible refine (State.takeFree_fixed' (by assumption)).trans ?_)
    | split)
theorem State.loopInput_fixed' {s : State} {l : Nat} {a : Option Int} {b : State} (hEq : State.loopInput s l = (a, b)) : b.fixed = s.fixed := by
  rw [← State.loopInput_fixed s l, hEq]

theorem State.detector_fixed (s : State) (l : Nat) (e : Int) : (State.detector s l e).fixed = s.fixed := by
  unfold State.detector
  repeat' (first
    | with_reducible rfl
    | simp only [State.fixed_ite, ite_self, State.raise_fixed, State.updLoop_fixed]
    | split)

theorem State.setDuty_fixed (s : State) (o code : Nat) : (State.setDuty s o code).fixed = s.fixed := by
  unfold State.setDuty
  repeat' (first
    | with_reducible rfl
    | simp only [State.fixed_pump, State.fixed_ite, ite_self]
    | split)

theorem State.writeOut_fixed (s : State) (l : Nat) : (State.writeOut s l).fixed = s.fixed := by
  unfold State.writeOut
  repeat' (first
    | with_reducible rfl
    | simp only [State.fixed_pump, State.fixed_ite, ite_self, State.raiseIf_fixed, State.setDuty_fixed, State.setPar_fixed]
    | split)

theorem State.track_fixed (s : State) (l : Nat) (e : Int) : (State.track s l e).fixed = s.fixed := by
  unfold State.track
  repeat' (first
    | with_reducible rfl
    | simp only [State.fixed_ite, ite_self, State.raiseIf_fixed, State.updLoop_fixed]
    | split)

theorem State.loopStep_fixed (s : State) (l : Nat) : (State.loopStep s l).fixed = s.fixed := by
  unfold State.loopStep
  repeat' (first
    | with_reducible rfl
    | simp only [State.fixed_ite, ite_self, State.detector_fixed, State.loopInput_fixed, State.raiseLimited_fixed, State.track_fixed, State.updLoop_fixed, State.writeOut_fixed]
    | (with_reducible refine (State.loopInput_fixed' (by assumption)).trans ?_)
    | split)

theorem execPumpStepSlot_fixed (s : State) : ∃ s', execPumpStepSlot s = .next s' ∧ s'.fixed = s.fixed := by
  refine ⟨_, rfl, ?_⟩
  repeat' (first
    | with_reducible rfl
    | simp only [State.fixed_pump, State.fixed_ite, ite_self, State.bump_fixed, State.loopStep_fixed, State.raiseLimited_fixed, State.setPar_fixed, State.updLoop_fixed]
    | (with_reducible refine (State.each_keeps State.fixed _ _ _ fun _ _ => ?_).trans ?_)
    | split)

theorem State.idleOutputs_fixed (s : State) : (State.idleOutputs s).fixed = s.fixed := by
  unfold State.idleOutputs
  repeat' (first
    | with_reducible rfl
    | simp only [State.fixed_pump, State.fixed_ite, ite_self, State.raise_fixed, State.setPar_fixed]
    | split)

theorem State.pumpStart_fixed (s : State) : (State.pumpStart s).fixed = s.fixed := by
  unfold State.pumpStart
  repeat' (first
    | with_reducible rfl
    | simp only [State.fixed_pump, State.fixed_ite, ite_self, State.idleOutputs_fixed, State.updLoop_fixed, State.writeOut_fixed]
    | (with_reducible refine (State.each_keeps State.fixed _ _ _ fun _ _ => ?_).trans ?_)
    | split)

theorem State.pumpStop_fixed (s : State) : (State.pumpStop s).fixed = s.fixed := by
  unfold State.pumpStop
  simp only [State.fixed_pump]

theorem State.pumpLatch_fixed (s before : State) (written : List (Nat × Nat)) : (State.pumpLatch s before written).fixed = s.fixed := by
  unfold State.pumpLatch
  repeat' (first
    | with_reducible rfl
    | simp only [State.fixed_pump, State.fixed_ite, ite_self, State.idleOutputs_fixed, State.updLoop_fixed]
    | (with_reducible refine (State.each_keeps State.fixed _ _ _ fun _ _ => ?_).trans ?_)
    | split)

end Sys2Proof.Machine
end

