-- ==== Sys2Proof/Laws/FrameRegions.lean ====
section
/-! SUPPORT. The queue, the time and the security state pass unchanged through the operations of `Regions.lean`. -/

set_option linter.all false
set_option linter.unusedTactic false
set_option linter.unreachableTactic false
set_option linter.unusedSimpArgs false

namespace Sys2Proof.Machine

theorem State.takeMap_fixed (s : State) (gs : List Nat) (keep : Bool) : (State.takeMap s gs keep).fixed = s.fixed := by
  unfold State.takeMap
  repeat' (first
    | with_reducible rfl
    | simp only [State.fixed_start, State.fixed_ite, ite_self]
    | (with_reducible refine (State.each_keeps State.fixed _ _ _ fun _ _ => ?_).trans ?_)
    | split)

theorem State.leaveMap_fixed (s : State) (i : Nat) : (State.leaveMap s i).fixed = s.fixed := by
  unfold State.leaveMap
  repeat' (first
    | with_reducible rfl
    | simp only [State.fixed_start, State.fixed_ite, ite_self]
    | (with_reducible refine (State.each_keeps State.fixed _ _ _ fun _ _ => ?_).trans ?_)
    | split)

theorem State.clampPins_fixed (s : State) : (State.clampPins s).fixed = s.fixed := by
  unfold State.clampPins
  repeat' (first
    | with_reducible rfl
    | simp only [State.fixed_start, State.fixed_ite, ite_self, State.takeMap_fixed]
    | (with_reducible refine (State.each_keeps State.fixed _ _ _ fun _ _ => ?_).trans ?_)
    | split)

theorem State.dropReady_fixed (s : State) (m : Nat) : (State.dropReady s m).fixed = s.fixed := by
  unfold State.dropReady
  simp only [State.keepReady_fixed]

theorem State.refillSlots_fixed (s : State) : (State.refillSlots s).fixed = s.fixed := by
  unfold State.refillSlots
  repeat' (first
    | with_reducible rfl
    | simp only [State.fixed_ite, ite_self, State.loadStored_fixed, State.putBank_fixed, State.raiseIf_fixed, State.setPar_fixed, State.updSeq_fixed]
    | (with_reducible refine (State.each_keeps State.fixed _ _ _ fun _ _ => ?_).trans ?_)
    | split)

theorem State.imageLost_fixed (s : State) : (State.imageLost s).fixed = s.fixed := by
  unfold State.imageLost
  repeat' (first
    | with_reducible rfl
    | simp only [State.fixed_start, State.fixed_red, State.fixed_src, State.fixed_comp, State.fixed_scan, State.fixed_tile, State.fixed_drive, State.fixed_health, State.fixed_pump, State.fixed_fix, State.fixed_dram, State.fixed_ite, ite_self, State.pumpStop_fixed, State.refillSlots_fixed, State.sluiceOff_fixed]
    | simp only [State.fixed_mk, State.fixed_fold]
    | split)

theorem State.frontLost_fixed (s : State) : (State.frontLost s).fixed = s.fixed := by
  unfold State.frontLost
  repeat' (first
    | with_reducible rfl
    | simp only [State.fixed_start, State.fixed_lane, State.fixed_chain, State.fixed_src, State.fixed_ite, ite_self, State.laneGo_fixed]
    | simp only [State.fixed_mk, State.fixed_fold]
    | (with_reducible refine (State.each_keeps State.fixed _ _ _ fun _ _ => ?_).trans ?_)
    | split)

theorem State.countersLost_fixed (s : State) (rs : List Nat) : (State.countersLost s rs).fixed = s.fixed := by
  unfold State.countersLost
  simp only [State.fixed_perf]

theorem State.holdRegions_fixed (s : State) (rs : List Nat) : (State.holdRegions s rs).fixed = s.fixed := by
  unfold State.holdRegions
  repeat' (first
    | with_reducible rfl
    | simp only [State.fixed_start]
    | (with_reducible refine (State.each_keeps State.fixed _ _ _ fun _ _ => ?_).trans ?_))

theorem State.countReset_fixed (s : State) (l : Level) : (State.countReset s l).fixed = s.fixed := by
  unfold State.countReset
  repeat' (first
    | with_reducible rfl
    | simp only [State.bump_fixed]
    | split)

theorem State.resetL2_fixed (s : State) : (State.resetL2 s).fixed = s.fixed := by
  unfold State.resetL2
  repeat' (first
    | with_reducible rfl
    | simp only [State.fixed_start, State.fixed_time, State.countersLost_fixed, State.dropReady_fixed, State.holdRegions_fixed, State.imageLost_fixed, State.resetParams_fixed, State.takeMap_fixed]
    | simp only [State.fixed_mk, State.fixed_fold])

theorem State.pipelineRestart_fixed (s : State) : (State.pipelineRestart s).fixed = s.fixed := by
  unfold State.pipelineRestart
  repeat' (first
    | with_reducible rfl
    | simp only [State.fixed_start, State.fixed_comp, State.fixed_ite, ite_self, State.clampPins_fixed, State.countersLost_fixed, State.dropReady_fixed, State.holdRegions_fixed, State.imageLost_fixed, State.raise_fixed, State.resetParams_fixed]
    | simp only [State.fixed_mk, State.fixed_fold]
    | split)

theorem State.enterSafeHold_fixed (s : State) : (State.enterSafeHold s).fixed = s.fixed := by
  unfold State.enterSafeHold
  repeat' (first
    | with_reducible rfl
    | simp only [State.fixed_start, State.fixed_pump, State.fixed_ite, ite_self, State.dropReady_fixed, State.holdRegions_fixed, State.imageLost_fixed, State.logDramLost_fixed, State.raise_fixed, State.takeMap_fixed]
    | simp only [State.fixed_mk, State.fixed_fold]
    | split)

theorem State.trip_fixed (s : State) (cause : Nat) : (State.trip s cause).fixed = s.fixed := by
  unfold State.trip
  repeat' (first
    | with_reducible rfl
    | simp only [State.fixed_start, State.fixed_ev, State.fixed_time, State.fixed_pump, State.fixed_ite, ite_self, State.dramLost_fixed, State.dropReady_fixed, State.frontLost_fixed, State.holdRegions_fixed, State.imageLost_fixed, State.raise_fixed, State.setBlob_fixed, State.setPar_fixed, State.takeMap_fixed]
    | simp only [State.fixed_mk, State.fixed_fold]
    | split)

end Sys2Proof.Machine
end

