-- ==== Sys2Proof/Laws/FrameThermal.lean ====
section
/-! SUPPORT. The queue, the time and the security state pass unchanged through the operations of `Thermal.lean`. -/

set_option linter.all false
set_option linter.unusedTactic false
set_option linter.unreachableTactic false
set_option linter.unusedSimpArgs false

namespace Sys2Proof.Machine

theorem State.stageSeconds_fixed (s : State) : (State.stageSeconds s).fixed = s.fixed := by
  unfold State.stageSeconds
  repeat' (first
    | with_reducible rfl
    | simp only [State.fixed_therm, State.fixed_ite, ite_self, State.bumpBy_fixed]
    | split)

theorem State.bgSlow_fixed (s : State) : (State.bgSlow s).fixed = s.fixed := by
  unfold State.bgSlow
  repeat' (first
    | with_reducible rfl
    | simp only [State.fixed_phase, State.fixed_free, State.fixed_outbox, State.fixed_dict, State.fixed_blobs, State.fixed_start, State.fixed_od, State.fixed_ev, State.fixed_lane, State.fixed_time, State.fixed_therm, State.fixed_chain, State.fixed_red, State.fixed_src, State.fixed_comp, State.fixed_scan, State.fixed_store, State.fixed_tile, State.fixed_drive, State.fixed_health, State.fixed_pump, State.fixed_fix, State.fixed_eth, State.fixed_dram, State.fixed_upd, State.fixed_perf, State.fixed_ite, ite_self, State.when, State.bgPauseStart_fixed, if_true, if_false]
    | simp only [State.fixed_mk, State.fixed_fold]
    | (with_reducible refine (State.each_keeps State.fixed _ _ _ fun _ _ => ?_).trans ?_)
    | (with_reducible refine (State.foldl_keeps State.fixed _ _ _ fun _ _ => ?_).trans ?_)
    | split)

theorem State.sampleRate_fixed (s : State) : (State.sampleRate s).fixed = s.fixed := by
  unfold State.sampleRate
  simp only [State.setPar_fixed]

theorem State.stageGo_fixed (s : State) (new : Nat) : (State.stageGo s new).fixed = s.fixed := by
  unfold State.stageGo
  repeat' (first
    | with_reducible rfl
    | simp only [State.fixed_therm, State.fixed_ite, ite_self, State.when, State.bgSlow_fixed, State.bump_fixed, State.raise_fixed, State.setPar_fixed, State.stageSeconds_fixed]
    | split)

theorem State.trimDirect_fixed (s : State) : (State.trimDirect s).fixed = s.fixed := by
  unfold State.trimDirect
  repeat' (first
    | with_reducible rfl
    | simp only [State.fixed_therm, State.fixed_ite, ite_self]
    | (with_reducible refine (State.each_keeps State.fixed _ _ _ fun _ _ => ?_).trans ?_)
    | split)

theorem State.retarget_fixed (s : State) (temp : Int) : (State.retarget s temp).fixed = s.fixed := by
  unfold State.retarget
  repeat' (first
    | with_reducible rfl
    | simp only [State.fixed_therm, State.fixed_ite, ite_self, State.trimDirect_fixed]
    | split)

theorem State.domainFail_fixed (s : State) (d : Nat) : (State.domainFail s d).fixed = s.fixed := by
  unfold State.domainFail
  repeat' (first
    | with_reducible rfl
    | simp only [State.fixed_therm, State.fixed_ite, ite_self, State.raise_fixed, State.raiseIf_fixed, State.setPar_fixed]
    | split)

theorem State.calibrateTerm_fixed (s : State) : (State.calibrateTerm s).fixed = s.fixed := by
  unfold State.calibrateTerm
  repeat' (first
    | with_reducible rfl
    | simp only [State.fixed_lane, State.fixed_ite, ite_self, State.domainFail_fixed, State.takeFree_fixed]
    | (with_reducible refine (State.takeFree_fixed' (by assumption)).trans ?_)
    | split)

theorem State.frontTrims_fixed (s : State) : (State.frontTrims s).fixed = s.fixed := by
  unfold State.frontTrims
  repeat' (first
    | with_reducible rfl
    | simp only [State.fixed_ite, ite_self, State.calibrateTerm_fixed, State.retarget_fixed]
    | split)

theorem State.trimEvaluate_fixed (s : State) (temp : Int) : (State.trimEvaluate s temp).fixed = s.fixed := by
  unfold State.trimEvaluate
  repeat' (first
    | with_reducible rfl
    | simp only [State.fixed_ite, ite_self, State.bump_fixed, State.calibrateTerm_fixed, State.domainFail_fixed, State.retarget_fixed, State.setPar_fixed]
    | (with_reducible refine (State.each_keeps State.fixed _ _ _ fun _ _ => ?_).trans ?_)
    | split)

theorem execTrimStep_fixed (s : State) : ∃ s', execTrimStep s = .next s' ∧ s'.fixed = s.fixed := by
  refine ⟨_, rfl, ?_⟩
  repeat' (first
    | with_reducible rfl
    | simp only [State.fixed_lane, State.fixed_therm, State.fixed_ite, ite_self, State.trimDirect_fixed]
    | simp only [State.fixed_mk, State.fixed_fold]
    | (with_reducible refine (State.each_keeps State.fixed _ _ _ fun _ _ => ?_).trans ?_)
    | split)

theorem State.dramEstimate_fixed (s : State) (t : Int) : (State.dramEstimate s t).fixed = s.fixed := by
  unfold State.dramEstimate
  simp only [State.fixed_dram, State.raiseIf_fixed, State.setPar_fixed]

theorem State.tempMax_fixed (s : State) (t : Int) : (State.tempMax s t).fixed = s.fixed := by
  unfold State.tempMax
  repeat' (first
    | with_reducible rfl
    | simp only [State.fixed_therm, State.fixed_ite, ite_self, State.setPar_fixed]
    | split)

theorem execThermalSample_fixed (t : Option Int) (s : State) : ∃ s', execThermalSample t s = .next s' ∧ s'.fixed = s.fixed := by
  refine ⟨_, rfl, ?_⟩
  repeat' (first
    | with_reducible rfl
    | simp only [State.fixed_therm, State.fixed_ite, ite_self, State.dramEstimate_fixed, State.raise_fixed, State.sampleRate_fixed, State.setPar_fixed, State.stageGo_fixed, State.stageSeconds_fixed, State.tempMax_fixed, State.trimEvaluate_fixed, State.trip_fixed]
    | split)

theorem execTripComparator_fixed (s : State) : ∃ s', execTripComparator s = .next s' ∧ s'.fixed = s.fixed := by
  refine ⟨_, rfl, ?_⟩
  repeat' (first
    | with_reducible rfl
    | simp only [State.fixed_ite, ite_self, State.stageSeconds_fixed, State.trip_fixed]
    | split)

theorem execBgPauseExpiry_fixed (o : Fin 6) (s : State) : ∃ s', execBgPauseExpiry o s = .next s' ∧ s'.fixed = s.fixed := by
  refine ⟨_, rfl, ?_⟩
  simp only [State.fixed_therm]

theorem execComposePauseExpiry_fixed (c : Fin 4) (s : State) : ∃ s', execComposePauseExpiry c s = .next s' ∧ s'.fixed = s.fixed := by
  refine ⟨_, rfl, ?_⟩
  simp only [State.fixed_therm]

end Sys2Proof.Machine
end

