-- ==== Sys2Proof/Laws/FrameSecurity.lean ====
section
/-! SUPPORT. The queue, the time and the security state pass unchanged through the operations of `Security.lean`. -/

set_option linter.all false
set_option linter.unusedTactic false
set_option linter.unreachableTactic false
set_option linter.unusedSimpArgs false

namespace Sys2Proof.Machine

theorem State.debugUnlock_fixed (s : State) : (State.debugUnlock s).2.fixed = s.fixed := by
  unfold State.debugUnlock
  repeat' (first
    | with_reducible rfl
    | simp only [State.raise_fixed, State.setPar_fixed]
    | split)
theorem State.debugUnlock_fixed' {s : State} {a : Nat} {b : State} (hEq : State.debugUnlock s = (a, b)) : b.fixed = s.fixed := by
  rw [← State.debugUnlock_fixed s, hEq]

end Sys2Proof.Machine
end

