-- ==== Sys2Proof/Laws/FramePerf.lean ====
section
/-! SUPPORT. The queue, the time and the security state pass unchanged through the operations of `Perf.lean`. -/

set_option linter.all false
set_option linter.unusedTactic false
set_option linter.unreachableTactic false
set_option linter.unusedSimpArgs false

namespace Sys2Proof.Machine

theorem State.setMonitor_fixed (s : State) (m : Nat) (v : Monitor) : (State.setMonitor s m v).fixed = s.fixed := by
  unfold State.setMonitor
  simp only [State.fixed_perf]

theorem State.monTake_fixed (s : State) (m : Nat) : (State.monTake s m).fixed = s.fixed := by
  unfold State.monTake
  repeat' (first
    | with_reducible rfl
    | simp only [State.fixed_lane, State.fixed_ite, ite_self, State.setMonitor_fixed, State.takeFree_fixed]
    | (with_reducible refine (State.takeFree_fixed' (by assumption)).trans ?_)
    | split)

theorem State.monPublish_fixed (s : State) (m n : Nat) (cut : Bool) : (State.monPublish s m n cut).fixed = s.fixed := by
  unfold State.monPublish
  simp only [State.setBlob_fixed, State.setMonitor_fixed]

theorem State.monTick_fixed (s : State) (n : Nat) : (State.monTick s n).fixed = s.fixed := by
  unfold State.monTick
  repeat' (first
    | with_reducible rfl
    | simp only [State.fixed_ite, ite_self, State.monPublish_fixed, State.monTake_fixed]
    | (with_reducible refine (State.each_keeps State.fixed _ _ _ fun _ _ => ?_).trans ?_)
    | split)

theorem State.monCut_fixed (s : State) (n : Nat) : (State.monCut s n).fixed = s.fixed := by
  unfold State.monCut
  repeat' (first
    | with_reducible rfl
    | simp only [State.monPublish_fixed, State.monTake_fixed, State.setMonitor_fixed]
    | (with_reducible refine (State.each_keeps State.fixed _ _ _ fun _ _ => ?_).trans ?_))

theorem State.monSelect_fixed (s : State) (m : Nat) : (State.monSelect s m).fixed = s.fixed := by
  unfold State.monSelect
  simp only [State.setMonitor_fixed]

theorem State.dumpLost_fixed (s : State) : (State.dumpLost s).fixed = s.fixed := by
  unfold State.dumpLost
  simp only [State.bump_fixed, State.raiseLimited_fixed]

theorem State.dumpDrop_fixed (s : State) : (State.dumpDrop s).fixed = s.fixed := by
  unfold State.dumpDrop
  simp only [State.fixed_perf, State.dumpLost_fixed]

theorem State.dumpLatch_fixed (s : State) (n : Nat) : (State.dumpLatch s n).fixed = s.fixed := by
  unfold State.dumpLatch
  repeat' (first
    | with_reducible rfl
    | simp only [State.fixed_perf, State.fixed_ite, ite_self, State.dumpDrop_fixed, State.dumpLost_fixed, State.setPar_fixed]
    | split)

theorem execDumpRecordWritten_fixed (s : State) : ∃ s', execDumpRecordWritten s = .next s' ∧ s'.fixed = s.fixed := by
  refine ⟨_, rfl, ?_⟩
  repeat' (first
    | with_reducible rfl
    | simp only [State.fixed_perf, State.fixed_ite, ite_self, State.bgPauseStart_fixed, State.setBlob_fixed, State.setPar_fixed]
    | split)

theorem State.dumpRestart_fixed (s : State) : (State.dumpRestart s).fixed = s.fixed := by
  unfold State.dumpRestart
  simp only [State.fixed_perf, State.setPar_fixed]

theorem State.dumpRead_fixed (s : State) (v : Nat) : (State.dumpRead s v).2.fixed = s.fixed := by
  unfold State.dumpRead
  repeat' (first
    | with_reducible rfl
    | simp only [State.fixed_ite, ite_self, State.setPar_fixed]
    | split)
theorem State.dumpRead_fixed' {s : State} {v : Nat} {a : Nat} {b : State} (hEq : State.dumpRead s v = (a, b)) : b.fixed = s.fixed := by
  rw [← State.dumpRead_fixed s v, hEq]

theorem State.counterFreeze_fixed (s : State) (v : Nat) : (State.counterFreeze s v).fixed = s.fixed := by
  unfold State.counterFreeze
  repeat' (first
    | with_reducible rfl
    | simp only [State.fixed_perf, State.raise_fixed, State.setBlob_fixed, State.setPar_fixed]
    | (with_reducible refine (State.each_keeps State.fixed _ _ _ fun _ _ => ?_).trans ?_)
    | split)

theorem State.sampleClear_fixed (s : State) : (State.sampleClear s).fixed = s.fixed := by
  unfold State.sampleClear
  simp only [State.fixed_perf, State.setPar_fixed]

end Sys2Proof.Machine
end

