-- ==== Sys2Proof/Laws/FrameUpdate.lean ====
section
/-! SUPPORT. The queue, the time and the security state pass unchanged through the operations of `Update.lean`. -/

set_option linter.all false
set_option linter.unusedTactic false
set_option linter.unreachableTactic false
set_option linter.unusedSimpArgs false

namespace Sys2Proof.Machine

theorem State.setSlot_fixed (s : State) (n : Nat) (v : Slot) : (State.setSlot s n v).fixed = s.fixed := by
  unfold State.setSlot
  simp only [State.fixed_upd]

theorem State.updGo_fixed (s : State) (st : Nat) : (State.updGo s st).fixed = s.fixed := by
  unfold State.updGo
  simp only [State.fixed_upd]

theorem State.outcome_fixed (s : State) (code : Nat) : (State.outcome s code).fixed = s.fixed := by
  unfold State.outcome
  simp only [State.setBlob_fixed]

theorem State.dropImage_fixed (s : State) : (State.dropImage s).fixed = s.fixed := by
  unfold State.dropImage
  simp only [State.fixed_upd, State.setSlot_fixed, State.updGo_fixed]

theorem State.revert_fixed (s : State) (code : Nat) : (State.revert s code).fixed = s.fixed := by
  unfold State.revert
  simp only [State.outcome_fixed, State.raise_fixed, State.updGo_fixed]

theorem State.imageDone_fixed (s : State) : (State.imageDone s).fixed = s.fixed := by
  unfold State.imageDone
  repeat' (first
    | with_reducible rfl
    | simp only [State.fixed_upd, State.fixed_ite, ite_self, State.dropImage_fixed, State.raise_fixed, State.updGo_fixed]
    | split)

theorem State.verifyRun_fixed (s : State) (n : Nat) : (s.verifyRun n).fixed = s.fixed := by
  induction n generalizing s with
  | zero => rfl
  | succ n ih =>
    simp only [State.verifyRun, ih, State.fixed_phase, State.fixed_free, State.fixed_outbox, State.fixed_dict, State.fixed_blobs, State.fixed_start, State.fixed_od, State.fixed_ev, State.fixed_lane, State.fixed_time, State.fixed_therm, State.fixed_chain, State.fixed_red, State.fixed_src, State.fixed_comp, State.fixed_scan, State.fixed_store, State.fixed_tile, State.fixed_drive, State.fixed_health, State.fixed_pump, State.fixed_fix, State.fixed_eth, State.fixed_dram, State.fixed_upd, State.fixed_perf, State.fixed_ite, ite_self, State.when, State.imageDone_fixed, State.raiseLimited_fixed, State.setSlot_fixed]

theorem State.storeBlock_fixed (s : State) (i : Nat) (b : List Byte) : (State.storeBlock s i b).fixed = s.fixed := by
  unfold State.storeBlock
  repeat' (first
    | with_reducible rfl
    | simp only [State.fixed_ite, ite_self, State.block_fixed, State.setSlot_fixed, State.verifyRun_fixed]
    | split)

theorem State.rescan_fixed (s : State) : (State.rescan s).fixed = s.fixed := by
  unfold State.rescan
  repeat' (first
    | with_reducible rfl
    | simp only [State.fixed_upd, State.fixed_ite, ite_self, State.verifyRun_fixed]
    | split)

theorem State.takeManifest_fixed (s : State) (m : List Byte) : (State.takeManifest s m).fixed = s.fixed := by
  unfold State.takeManifest
  repeat' (first
    | with_reducible rfl
    | simp only [State.fixed_upd, State.fixed_ite, ite_self, State.raise_fixed, State.rescan_fixed, State.setSlot_fixed, State.updGo_fixed]
    | split)

theorem State.manifestWrite_fixed (s : State) (off : Nat) (bs : List Byte) : (State.manifestWrite s off bs).2.fixed = s.fixed := by
  unfold State.manifestWrite
  repeat' (first
    | with_reducible rfl
    | simp only [State.fixed_upd, State.fixed_ite, ite_self, State.raise_fixed, State.takeManifest_fixed]
    | (with_reducible refine (State.foldl_keeps State.fixed _ _ _ fun _ _ => ?_).trans ?_)
    | split)
theorem State.manifestWrite_fixed' {s : State} {off : Nat} {bs : List Byte} {a : Nat} {b : State} (hEq : State.manifestWrite s off bs = (a, b)) : b.fixed = s.fixed := by
  rw [← State.manifestWrite_fixed s off bs, hEq]

theorem State.imageWrite_fixed (s : State) (off : Nat) (bs : List Byte) : (State.imageWrite s off bs).fixed = s.fixed := by
  unfold State.imageWrite
  repeat' (first
    | with_reducible rfl
    | simp only [State.fixed_upd, State.fixed_ite, ite_self, State.storeBlock_fixed]
    | (with_reducible refine (State.each_keeps State.fixed _ _ _ fun _ _ => ?_).trans ?_)
    | (with_reducible refine (State.foldl_keeps State.fixed _ _ _ fun _ _ => ?_).trans ?_)
    | split)

theorem State.relaySpend_fixed (s : State) (p size : Nat) (block : Bool) : (State.relaySpend s p size block).fixed = s.fixed := by
  unfold State.relaySpend
  repeat' (first
    | with_reducible rfl
    | simp only [State.fixed_chain, State.fixed_ite, ite_self, State.block_fixed, State.ctrlSpend_fixed]
    | split)

theorem State.sendState_fixed (s : State) (p : Nat) : (State.sendState s p).fixed = s.fixed := by
  unfold State.sendState
  repeat' (first
    | with_reducible rfl
    | simp only [State.fixed_upd, State.fixed_ite, ite_self, State.relaySpend_fixed, State.sendLink_fixed]
    | split)

theorem execUpdStateTimer_fixed (s : State) : ∃ s', execUpdStateTimer s = .next s' ∧ s'.fixed = s.fixed := by
  refine ⟨_, rfl, ?_⟩
  repeat' (first
    | with_reducible rfl
    | simp only [State.fixed_upd, State.sendState_fixed]
    | (with_reducible refine (State.each_keeps State.fixed _ _ _ fun _ _ => ?_).trans ?_))

theorem execUpdBlockSend_fixed (p : Fin 20) (s : State) : ∃ s', execUpdBlockSend p s = .next s' ∧ s'.fixed = s.fixed := by
  refine ⟨_, rfl, ?_⟩
  repeat' (first
    | with_reducible rfl
    | simp only [State.fixed_upd, State.block_fixed, State.relaySpend_fixed, State.sendLink_fixed, State.sendState_fixed]
    | split)

theorem execOwnPacketSend_fixed (p : Fin 2) (s : State) : ∃ s', execOwnPacketSend p s = .next s' ∧ s'.fixed = s.fixed := by
  refine ⟨_, rfl, ?_⟩
  repeat' (first
    | with_reducible rfl
    | simp only [State.fixed_chain, State.memberFeed_fixed, State.send_fixed]
    | split)

theorem State.updBlock_fixed (s : State) (p id i : Nat) (data : List Byte) (crcOk : Bool) : (State.updBlock s p id i data crcOk).fixed = s.fixed := by
  unfold State.updBlock
  repeat' (first
    | with_reducible rfl
    | simp only [State.fixed_ite, ite_self, State.crcFail_fixed, State.storeBlock_fixed]
    | split)

theorem State.updState_fixed (s : State) (p id st version : Nat) (held : List Nat) (manifest : List Byte) (crcOk : Bool) : (State.updState s p id st version held manifest crcOk).fixed = s.fixed := by
  unfold State.updState
  repeat' (first
    | with_reducible rfl
    | simp only [State.fixed_upd, State.fixed_ite, ite_self, State.crcFail_fixed, State.raise_fixed, State.takeManifest_fixed]
    | (with_reducible refine (State.foldl_keeps State.fixed _ _ _ fun _ _ => ?_).trans ?_)
    | split)

theorem State.updActivate_fixed (s : State) : (State.updActivate s).2.fixed = s.fixed := by
  unfold State.updActivate
  repeat' (first
    | with_reducible rfl
    | simp only [State.fixed_upd, State.fixed_ite, ite_self, State.raise_fixed, State.updGo_fixed]
    | split)
theorem State.updActivate_fixed' {s : State} {a : Nat} {b : State} (hEq : State.updActivate s = (a, b)) : b.fixed = s.fixed := by
  rw [← State.updActivate_fixed s, hEq]

theorem State.abortUpdate_fixed (s : State) : (State.abortUpdate s).fixed = s.fixed := by
  unfold State.abortUpdate
  repeat' (first
    | with_reducible rfl
    | simp only [State.fixed_upd, State.fixed_ite, ite_self, State.dropImage_fixed, State.outcome_fixed, State.raise_fixed, State.updGo_fixed]
    | split)

end Sys2Proof.Machine
end

