-- ==== Sys2Proof/Laws/FrameEffects.lean ====
section
/-! SUPPORT. The queue, the time and the security state pass unchanged through the operations of `Effects.lean`. -/

set_option linter.all false
set_option linter.unusedTactic false
set_option linter.unreachableTactic false
set_option linter.unusedSimpArgs false

namespace Sys2Proof.Machine

theorem State.putValue_fixed (s : State) (id idx : Nat) (v : List Byte) : (State.putValue s id idx v).fixed = s.fixed := by
  unfold State.putValue
  repeat' (first
    | with_reducible rfl
    | simp only [State.setBlob_fixed, State.setPar_fixed]
    | split)

theorem State.bankStep_fixed (s : State) (kind slot off : Nat) (bs : List Byte) : (State.bankStep s kind slot off bs).2.fixed = s.fixed := by
  unfold State.bankStep
  repeat' (first
    | with_reducible rfl
    | simp only [State.fixed_ite, ite_self, State.bankWrite_fixed]
    | split)
theorem State.bankStep_fixed' {s : State} {kind slot off : Nat} {bs : List Byte} {a : Nat} {b : State} (hEq : State.bankStep s kind slot off bs = (a, b)) : b.fixed = s.fixed := by
  rw [← State.bankStep_fixed s kind slot off bs, hEq]

theorem State.sealStep_fixed (s : State) (kind slot crc : Nat) : (State.sealStep s kind slot crc).2.fixed = s.fixed := by
  unfold State.sealStep
  repeat' (first
    | with_reducible rfl
    | simp only [State.fixed_ite, ite_self, State.bankSeal_fixed, State.sealReport_fixed]
    | split)
theorem State.sealStep_fixed' {s : State} {kind slot crc : Nat} {a : Nat} {b : State} (hEq : State.sealStep s kind slot crc = (a, b)) : b.fixed = s.fixed := by
  rw [← State.sealStep_fixed s kind slot crc, hEq]

theorem State.overlayStep_fixed (s : State) (off : Nat) (bs : List Byte) : (State.overlayStep s off bs).2.fixed = s.fixed := by
  unfold State.overlayStep
  repeat' (first
    | with_reducible rfl
    | simp only [State.fixed_ite, ite_self, State.setBlob_fixed]
    | split)
theorem State.overlayStep_fixed' {s : State} {off : Nat} {bs : List Byte} {a : Nat} {b : State} (hEq : State.overlayStep s off bs = (a, b)) : b.fixed = s.fixed := by
  rw [← State.overlayStep_fixed s off bs, hEq]

theorem State.resetRequest_fixed (s : State) (v : Nat) : (State.resetRequest s v).fixed = s.fixed := by
  unfold State.resetRequest
  repeat' (first
    | with_reducible rfl
    | simp only [State.fixed_start, State.fixed_ite, ite_self]
    | split)

theorem State.stillStep_fixed (s : State) (i off : Nat) (bs : List Byte) : (State.stillStep s i off bs).2.fixed = s.fixed := by
  unfold State.stillStep
  repeat' (first
    | with_reducible rfl
    | simp only [State.fixed_ite, ite_self, State.stillDataWrite_fixed]
    | split)
theorem State.stillStep_fixed' {s : State} {i off : Nat} {bs : List Byte} {a : Nat} {b : State} (hEq : State.stillStep s i off bs = (a, b)) : b.fixed = s.fixed := by
  rw [← State.stillStep_fixed s i off bs, hEq]

theorem State.stillSealStep_fixed (s : State) (i crc : Nat) : (State.stillSealStep s i crc).2.fixed = s.fixed := by
  unfold State.stillSealStep
  repeat' (first
    | with_reducible rfl
    | simp only [State.fixed_ite, ite_self, State.polderStill_fixed, State.raise_fixed, State.stillSealWrite_fixed]
    | split)
theorem State.stillSealStep_fixed' {s : State} {i crc : Nat} {a : Nat} {b : State} (hEq : State.stillSealStep s i crc = (a, b)) : b.fixed = s.fixed := by
  rw [← State.stillSealStep_fixed s i crc, hEq]

theorem State.rdmStep_fixed (s : State) (p off : Nat) (bs : List Byte) : (State.rdmStep s p off bs).2.fixed = s.fixed := by
  unfold State.rdmStep
  repeat' (first
    | with_reducible rfl
    | simp only [State.fixed_ite, ite_self, State.updDmx_fixed]
    | split)
theorem State.rdmStep_fixed' {s : State} {p off : Nat} {bs : List Byte} {a : Nat} {b : State} (hEq : State.rdmStep s p off bs = (a, b)) : b.fixed = s.fixed := by
  rw [← State.rdmStep_fixed s p off bs, hEq]

theorem State.prbsStep_fixed (s : State) (n v : Nat) : (State.prbsStep s n v).2.fixed = s.fixed := by
  unfold State.prbsStep
  repeat' (first
    | with_reducible rfl
    | simp only [State.fixed_ite, ite_self, State.prbsGenWrite_fixed]
    | split)
theorem State.prbsStep_fixed' {s : State} {n v : Nat} {a : Nat} {b : State} (hEq : State.prbsStep s n v = (a, b)) : b.fixed = s.fixed := by
  rw [← State.prbsStep_fixed s n v, hEq]

end Sys2Proof.Machine
end

