-- ==== Sys2Proof/Laws/FrameLatch.lean ====
section
/-! SUPPORT. The queue, the time and the security state pass unchanged through the operations of `Latch.lean`. -/

set_option linter.all false
set_option linter.unusedTactic false
set_option linter.unreachableTactic false
set_option linter.unusedSimpArgs false

namespace Sys2Proof.Machine

theorem State.leaseFree_fixed (s : State) : (State.leaseFree s).fixed = s.fixed := by
  unfold State.leaseFree
  repeat' (first
    | with_reducible rfl
    | simp only [State.fixed_od, State.fixed_red, State.fixed_ite, ite_self, State.managerEval_fixed, State.raise_fixed]
    | simp only [State.fixed_mk, State.fixed_fold]
    | split)

theorem State.transportChanged_fixed (s before : State) : (State.transportChanged s before).fixed = s.fixed := by
  unfold State.transportChanged
  repeat' (first
    | with_reducible rfl
    | simp only [State.fixed_ite, ite_self, State.leaseFree_fixed]
    | split)

theorem State.rateMissed_fixed (s : State) (n : Nat) : (State.rateMissed s n).fixed = s.fixed := by
  unfold State.rateMissed
  repeat' (first
    | with_reducible rfl
    | simp only [State.fixed_od, State.fixed_ite, ite_self, State.setPar_fixed]
    | split)

theorem State.latchBoth_fixed (s before : State) (k : Nat) (ws : List Write) : (State.latchBoth s before k ws).fixed = s.fixed := by
  unfold State.latchBoth
  repeat' (first
    | with_reducible rfl
    | simp only [State.fixed_ite, ite_self, State.dumpRestart_fixed, State.ipRestart_fixed, State.laneOff_fixed, State.monSelect_fixed, State.raiseIf_fixed, State.redModeChanged_fixed, State.sluiceEval_fixed, State.switchoverLatch_fixed, State.syncLoss_fixed, State.tpoApply_fixed, State.transportChanged_fixed]
    | (with_reducible refine (State.each_keeps State.fixed _ _ _ fun _ _ => ?_).trans ?_)
    | split)

theorem State.latchHead_fixed (s before : State) (nk : Nat) (ws : List Write) : (State.latchHead s before nk ws).fixed = s.fixed := by
  unfold State.latchHead
  repeat' (first
    | with_reducible rfl
    | simp only [State.fixed_scan, State.fixed_ite, ite_self, State.channelsMoved_fixed, State.fixTerminate_fixed, State.hpdCycle_fixed, State.hpdDrop_fixed, State.sourceChanged_fixed, State.sourceReset_fixed, State.speedPass_fixed]
    | (with_reducible refine (State.each_keeps State.fixed _ _ _ fun _ _ => ?_).trans ?_)
    | split)

theorem State.latchTile_fixed (s before : State) (ws : List Write) : (State.latchTile s before ws).fixed = s.fixed := by
  unfold State.latchTile
  repeat' (first
    | with_reducible rfl
    | simp only [State.fixed_tile, State.fixed_ite, ite_self, State.driveDerive_fixed, State.fillExpansion_fixed, State.pumpLatch_fixed, State.updSeq_fixed]
    | (with_reducible refine (State.each_keeps State.fixed _ _ _ fun _ _ => ?_).trans ?_)
    | split)

theorem State.fixBind_fixed (s : State) (k : Nat) : (State.fixBind s k).fixed = s.fixed := by
  unfold State.fixBind
  simp only [State.fixed_tile, State.copyDue_fixed]

end Sys2Proof.Machine
end

