-- ==== Sys2Proof/Laws/FrameBoot.lean ====
section
/-! SUPPORT. The queue, the time and the security state pass unchanged through the operations of `Boot.lean`. -/

set_option linter.all false
set_option linter.unusedTactic false
set_option linter.unreachableTactic false
set_option linter.unusedSimpArgs false

namespace Sys2Proof.Machine

theorem State.tpoRestore_fixed (s : State) (n : Nat) : (State.tpoRestore s n).fixed = s.fixed := by
  unfold State.tpoRestore
  repeat' (first
    | with_reducible rfl
    | simp only [State.fixed_ite, ite_self, State.tpoApply_fixed]
    | split)

theorem State.builtInEnd_fixed (s : State) : (State.builtInEnd s).fixed = s.fixed := by
  unfold State.builtInEnd
  repeat' (first
    | with_reducible rfl
    | simp only [State.fixed_lane, State.fixed_ite, ite_self, State.laneOff_fixed]
    | (with_reducible refine (State.each_keeps State.fixed _ _ _ fun _ _ => ?_).trans ?_)
    | split)

theorem State.settingsActive_fixed (s : State) : (State.settingsActive s).fixed = s.fixed := by
  unfold State.settingsActive
  repeat' (first
    | with_reducible rfl
    | simp only [State.fixed_ite, ite_self, State.budgetLatch_fixed, State.builtInEnd_fixed, State.chainLoads_fixed, State.driveDerive_fixed, State.fixLoads_fixed, State.lanesStart_fixed, State.setPar_fixed, State.tpoRestore_fixed]
    | (with_reducible refine (State.each_keeps State.fixed _ _ _ fun _ _ => ?_).trans ?_)
    | split)

theorem State.applyStored_fixed (s : State) : (State.applyStored s).fixed = s.fixed := by
  unfold State.applyStored
  repeat' (first
    | with_reducible rfl
    | simp only [State.fixed_dict, State.fixed_blobs, State.raise_fixed, State.setBlob_fixed, State.setPar_fixed, State.settingsActive_fixed]
    | simp only [State.fixed_mk, State.fixed_fold]
    | (with_reducible refine (State.each_keeps State.fixed _ _ _ fun _ _ => ?_).trans ?_))

theorem execSettingsStoreWrite_fixed (s : State) : ∃ s', execSettingsStoreWrite s = .next s' ∧ s'.fixed = s.fixed := by
  refine ⟨_, rfl, ?_⟩
  repeat' (first
    | with_reducible rfl
    | simp only [State.fixed_od, State.fixed_ite, ite_self]
    | split)

theorem State.convertTrial_fixed (s : State) (format : Nat) : (State.convertTrial s format).1.fixed = s.fixed := by
  unfold State.convertTrial
  repeat' (first
    | with_reducible rfl
    | simp only [State.fixed_od, State.fixed_upd, State.fixed_ite, ite_self]
    | simp only [State.fixed_mk, State.fixed_fold]
    | split)
theorem State.convertTrial_fixed' {s : State} {format : Nat} {a : State} {b : Bool} (hEq : State.convertTrial s format = (a, b)) : a.fixed = s.fixed := by
  rw [← State.convertTrial_fixed s format, hEq]

theorem State.unfreeze_fixed (s : State) : (State.unfreeze s).fixed = s.fixed := by
  unfold State.unfreeze
  repeat' (first
    | with_reducible rfl
    | simp only [State.fixed_od, State.fixed_upd]
    | simp only [State.fixed_mk, State.fixed_fold]
    | split)

theorem State.frontStart_fixed (s : State) : (State.frontStart s).fixed = s.fixed := by
  unfold State.frontStart
  repeat' (first
    | with_reducible rfl
    | simp only [State.fixed_lane, State.fixed_ite, ite_self, State.lanesStart_fixed]
    | split)

theorem State.roleGo_fixed (s : State) (r : Role) : (State.roleGo s r).fixed = s.fixed := by
  unfold State.roleGo
  repeat' (first
    | with_reducible rfl
    | simp only [State.fixed_dict, State.fixed_start, State.fixed_ite, ite_self, State.frontLost_fixed, State.frontStart_fixed, State.setPar_fixed]
    | simp only [State.fixed_mk, State.fixed_fold]
    | (with_reducible refine (State.foldl_keeps State.fixed _ _ _ fun _ _ => ?_).trans ?_)
    | split)

theorem State.bootWalk_fixed (s : State) (l : List Nat) : (State.bootWalk s l).1.fixed = s.fixed := by
  unfold State.bootWalk
  repeat' (first
    | with_reducible rfl
    | simp only [State.raise_fixed]
    | (with_reducible refine (State.each_keeps State.fixed _ _ _ fun _ _ => ?_).trans ?_))
theorem State.bootWalk_fixed' {s : State} {l : List Nat} {a : State} {b : Option Nat} (hEq : State.bootWalk s l = (a, b)) : a.fixed = s.fixed := by
  rw [← State.bootWalk_fixed s l, hEq]

theorem State.bootCandidates_fixed (s : State) : (State.bootCandidates s).1.fixed = s.fixed := by
  unfold State.bootCandidates
  repeat' (first
    | with_reducible rfl
    | simp only [State.fixed_upd, State.fixed_ite, ite_self, State.raise_fixed, State.revert_fixed]
    | split)
theorem State.bootCandidates_fixed' {s : State} {a : State} {b : List Nat} (hEq : State.bootCandidates s = (a, b)) : a.fixed = s.fixed := by
  rw [← State.bootCandidates_fixed s, hEq]

end Sys2Proof.Machine
end

