-- ==== Sys2Proof/Laws/FrameStart.lean ====
section
/-! SUPPORT. The queue, the time and the security state pass unchanged through the operations of `Start.lean`. -/

set_option linter.all false
set_option linter.unusedTactic false
set_option linter.unreachableTactic false
set_option linter.unusedSimpArgs false

namespace Sys2Proof.Machine

theorem State.setValid_fixed (s : State) (n : Nat) (b : Bool) : (State.setValid s n b).fixed = s.fixed := by
  unfold State.setValid
  simp only [State.fixed_start]

theorem State.pinsWeak_fixed (s : State) : (State.pinsWeak s).fixed = s.fixed := by
  unfold State.pinsWeak
  repeat' (first
    | with_reducible rfl
    | simp only [State.fixed_start, State.fixed_ite, ite_self]
    | split)

theorem execSupplyValid_fixed (x : Supply) (s : State) : ∃ s', execSupplyValid x s = .next s' ∧ s'.fixed = s.fixed := by
  refine ⟨_, rfl, ?_⟩
  repeat' (first
    | with_reducible rfl
    | simp only [State.fixed_ite, ite_self, State.pinsWeak_fixed, State.setValid_fixed]
    | split)

theorem execSupplyFall_fixed (x : Supply) (s : State) : ∃ s', execSupplyFall x s = .next s' ∧ s'.fixed = s.fixed := by
  refine ⟨_, rfl, ?_⟩
  repeat' (first
    | with_reducible rfl
    | simp only [State.fixed_ite, ite_self, State.setValid_fixed]
    | split)

theorem State.bankLost_fixed (s : State) (b : Nat) : (State.bankLost s b).fixed = s.fixed := by
  unfold State.bankLost
  repeat' (first
    | with_reducible rfl
    | simp only [State.fixed_start, State.busFree_fixed, State.healthFailed_fixed, State.programDone_fixed, State.raiseIf_fixed, State.setValid_fixed]
    | (with_reducible refine (State.each_keeps State.fixed _ _ _ fun _ _ => ?_).trans ?_)
    | split)

theorem execBankSupplyValid_fixed (b : Fin 4) (high : Bool) (s : State) : ∃ s', execBankSupplyValid b high s = .next s' ∧ s'.fixed = s.fixed := by
  refine ⟨_, rfl, ?_⟩
  repeat' (first
    | with_reducible rfl
    | simp only [State.fixed_start, State.fixed_ite, ite_self, State.bankLost_fixed, State.setValid_fixed]
    | split)

theorem execBankMapApply_fixed (b : Fin 4) (s : State) : ∃ s', execBankMapApply b s = .next s' ∧ s'.fixed = s.fixed := by
  refine ⟨_, rfl, ?_⟩
  repeat' (first
    | with_reducible rfl
    | simp only [State.fixed_start, State.fixed_ite, ite_self]
    | split)

theorem execBankSupplyLeavesRange_fixed (b : Fin 4) (s : State) : ∃ s', execBankSupplyLeavesRange b s = .next s' ∧ s'.fixed = s.fixed := by
  refine ⟨_, rfl, ?_⟩
  repeat' (first
    | with_reducible rfl
    | simp only [State.fixed_ite, ite_self, State.bankLost_fixed]
    | split)

theorem execResetNAssert_fixed (s : State) : ∃ s', execResetNAssert s = .next s' ∧ s'.fixed = s.fixed := by
  refine ⟨_, rfl, ?_⟩
  repeat' (first
    | with_reducible rfl
    | simp only [State.fixed_start, State.fixed_ite, ite_self]
    | split)

theorem execOptionByteRead_fixed (s : State) (flashOk : Bool) : ∃ s', execOptionByteRead s flashOk = .next s' ∧ s'.fixed = s.fixed := by
  refine ⟨_, rfl, ?_⟩
  repeat' (first
    | with_reducible rfl
    | simp only [State.fixed_start, State.fixed_ite, ite_self, State.raise_fixed, State.setPar_fixed, State.takeMap_fixed]
    | (with_reducible refine (State.each_keeps State.fixed _ _ _ fun _ _ => ?_).trans ?_)
    | split)

theorem State.releaseRegion_fixed (s : State) (r : Region) : (State.releaseRegion s r).fixed = s.fixed := by
  unfold State.releaseRegion
  simp only [State.fixed_start, State.trimDirect_fixed]

theorem State.resetDone_fixed (s : State) : (State.resetDone s).fixed = s.fixed := by
  unfold State.resetDone
  repeat' (first
    | with_reducible rfl
    | simp only [State.fixed_start, State.fixed_ite, ite_self, State.raiseIf_fixed]
    | split)

theorem State.turnOver_fixed (s : State) : (State.turnOver s).fixed = s.fixed := by
  unfold State.turnOver
  repeat' (first
    | with_reducible rfl
    | simp only [State.fixed_start, State.fixed_ite, ite_self, State.resetDone_fixed]
    | split)

theorem State.stopLow_fixed (s : State) : (State.stopLow s).fixed = s.fixed := by
  unfold State.stopLow
  simp only [State.fixed_start, State.roleGo_fixed]

theorem State.memoryChecks_fixed (s : State) : (State.memoryChecks s).fixed = s.fixed := by
  unfold State.memoryChecks
  repeat' (first
    | with_reducible rfl
    | simp only [State.fixed_ite, ite_self, State.raise_fixed, State.raiseIf_fixed, State.setPar_fixed, State.stopLow_fixed]
    | split)

theorem State.regionStart_fixed (s : State) (r : Region) : (State.regionStart s r).fixed = s.fixed := by
  unfold State.regionStart
  repeat' (first
    | with_reducible rfl
    | simp only [State.fixed_start, State.fixed_dram, State.fixed_ite, ite_self, State.dramWake_fixed, State.frontStart_fixed, State.frontTrims_fixed, State.memoryChecks_fixed, State.setPar_fixed]
    | simp only [State.fixed_mk, State.fixed_fold]
    | split)

theorem execRegionRelease_fixed (r : Region) (s : State) (tie : Bool) : ∃ s', execRegionRelease r s tie = .next s' ∧ s'.fixed = s.fixed := by
  refine ⟨_, rfl, ?_⟩
  repeat' (first
    | with_reducible rfl
    | simp only [State.fixed_ite, ite_self, State.raise_fixed, State.regionStart_fixed, State.releaseRegion_fixed, State.turnOver_fixed]
    | split)

theorem execClockGoodTurnExpiry_fixed (s : State) : ∃ s', execClockGoodTurnExpiry s = .next s' ∧ s'.fixed = s.fixed := by
  refine ⟨_, rfl, ?_⟩
  repeat' (first
    | with_reducible rfl
    | simp only [State.fixed_ite, ite_self, State.raise_fixed, State.turnOver_fixed]
    | split)

theorem execClockGoodDrop_fixed (r : Region) (s : State) : ∃ s', execClockGoodDrop r s = .next s' ∧ s'.fixed = s.fixed := by
  refine ⟨_, rfl, ?_⟩
  repeat' (first
    | with_reducible rfl
    | simp only [State.fixed_start, State.fixed_ite, ite_self, State.clampPins_fixed, State.dropReady_fixed, State.enterSafeHold_fixed, State.frontLost_fixed, State.imageLost_fixed, State.raise_fixed]
    | split)

theorem execClockGoodReturn_fixed (r : Region) (s : State) : ∃ s', execClockGoodReturn r s = .next s' ∧ s'.fixed = s.fixed := by
  refine ⟨_, rfl, ?_⟩
  repeat' (first
    | with_reducible rfl
    | simp only [State.fixed_start, State.fixed_ite, ite_self, State.frontTrims_fixed, State.lanesStart_fixed, State.pipelineRestart_fixed, State.releaseRegion_fixed]
    | split)

theorem execLowWaterEntry_fixed (s : State) : ∃ s', execLowWaterEntry s = .next s' ∧ s'.fixed = s.fixed := by
  refine ⟨_, rfl, ?_⟩
  repeat' (first
    | with_reducible rfl
    | simp only [State.fixed_start, State.fixed_ite, ite_self, State.raise_fixed, State.raiseIf_fixed, State.rescan_fixed, State.setReady_fixed, State.writeHeld_fixed]
    | (with_reducible refine (State.each_keeps State.fixed _ _ _ fun _ _ => ?_).trans ?_)
    | split)

theorem State.loadTile_fixed (s : State) : (State.loadTile s).fixed = s.fixed := by
  unfold State.loadTile
  repeat' (first
    | with_reducible rfl
    | simp only [State.fixed_tile, State.fixed_ite, ite_self, State.loadBanks_fixed, State.loadFaults_fixed, State.loadLedger_fixed]
    | split)

theorem State.lockTold_fixed (s : State) : (State.lockTold s).fixed = s.fixed := by
  unfold State.lockTold
  simp only [State.raiseIf_fixed]

theorem State.lockAgain_fixed (s : State) : (State.lockAgain s).fixed = s.fixed := by
  unfold State.lockAgain
  repeat' (first
    | with_reducible rfl
    | simp only [State.fixed_ite, ite_self, State.leaveMap_fixed, State.lockTold_fixed, State.setReady_fixed]
    | split)

theorem State.risen_fixed (s : State) (i : Nat) : (State.risen s i).fixed = s.fixed := by
  unfold State.risen
  repeat' (first
    | with_reducible rfl
    | simp only [State.fixed_start, State.fixed_upd, State.fixed_ite, ite_self, State.corrRise_fixed, State.loadTile_fixed, State.lockAgain_fixed, State.lockTold_fixed, State.logRecover_fixed, State.pumpStart_fixed, State.sendMember_fixed, State.sluiceStart_fixed]
    | simp only [State.fixed_mk, State.fixed_fold]
    | split)

theorem execReadyBitRise_fixed (i : Fin 16) (s : State) : ∃ s', execReadyBitRise i s = .next s' ∧ s'.fixed = s.fixed := by
  refine ⟨_, rfl, ?_⟩
  repeat' (first
    | with_reducible rfl
    | simp only [State.fixed_ite, ite_self, State.leaveMap_fixed, State.loadBanks_fixed, State.risen_fixed, State.setReady_fixed, State.speedPass_fixed, State.standbyCheck_fixed, State.syncEval_fixed]
    | split)

theorem State.quiesce_fixed (s : State) (r : Region) (c : Nat) : (State.quiesce s r c).fixed = s.fixed := by
  unfold State.quiesce
  repeat' (first
    | with_reducible rfl
    | simp only [State.fixed_start, State.fixed_ite, ite_self, State.quadLeaves_fixed, State.quadStop_fixed]
    | split)

theorem State.restartCluster_fixed (s : State) (r : Region) (c : Nat) : (State.restartCluster s r c).fixed = s.fixed := by
  unfold State.restartCluster
  repeat' (first
    | with_reducible rfl
    | simp only [State.fixed_start, State.fixed_scan, State.fixed_ite, ite_self, State.quadRestart_fixed, State.quadReturns_fixed]
    | simp only [State.fixed_mk, State.fixed_fold]
    | split)

theorem execClusterFault_fixed (r : Region) (c : Fin 32) (s : State) : ∃ s', execClusterFault r c s = .next s' ∧ s'.fixed = s.fixed := by
  refine ⟨_, rfl, ?_⟩
  repeat' (first
    | with_reducible rfl
    | simp only [State.fixed_ite, ite_self, State.quiesce_fixed]
    | split)

theorem execClusterRestartAtFrameBoundary_fixed (r : Region) (c : Fin 32) (s : State) : ∃ s', execClusterRestartAtFrameBoundary r c s = .next s' ∧ s'.fixed = s.fixed := by
  refine ⟨_, rfl, ?_⟩
  repeat' (first
    | with_reducible rfl
    | simp only [State.fixed_ite, ite_self, State.raiseRec_fixed, State.restartCluster_fixed]
    | split)

theorem execImageDriveFault_fixed (s : State) : ∃ s', execImageDriveFault s = .next s' ∧ s'.fixed = s.fixed := by
  refine ⟨_, rfl, ?_⟩
  repeat' (first
    | with_reducible rfl
    | simp only [State.fixed_ite, ite_self, State.pipelineRestart_fixed]
    | split)

theorem execUncontainedRegionFault_fixed (r : Region) (s : State) : ∃ s', execUncontainedRegionFault r s = .next s' ∧ s'.fixed = s.fixed := by
  refine ⟨_, rfl, ?_⟩
  repeat' (first
    | with_reducible rfl
    | simp only [State.fixed_ite, ite_self, State.enterSafeHold_fixed]
    | split)

end Sys2Proof.Machine
end

