-- ==== Sys2Proof/Laws/FrameStrobe.lean ====
section
/-! SUPPORT. The queue, the time and the security state pass unchanged through the operations of `Strobe.lean`. -/

set_option linter.all false
set_option linter.unusedTactic false
set_option linter.unreachableTactic false
set_option linter.unusedSimpArgs false

namespace Sys2Proof.Machine

theorem State.sendMarkers_fixed (s : State) (n : Nat) : (State.sendMarkers s n).fixed = s.fixed := by
  unfold State.sendMarkers
  repeat' (first
    | with_reducible rfl
    | simp only [State.fixed_ite, ite_self, State.count_fixed, State.send_fixed, State.takeFree_fixed]
    | (with_reducible refine (State.takeFree_fixed' (by assumption)).trans ?_)
    | (with_reducible refine (State.each_keeps State.fixed _ _ _ fun _ _ => ?_).trans ?_)
    | split)

theorem State.pathTick_fixed (s : State) (n : Nat) : (State.pathTick s n).fixed = s.fixed := by
  unfold State.pathTick
  repeat' (first
    | with_reducible rfl
    | simp only [State.fixed_red, State.fixed_ite, ite_self, State.raiseLimited_fixed, State.sendPartner_fixed]
    | split)

theorem State.dutiesTick_fixed (s : State) : (State.dutiesTick s).fixed = s.fixed := by
  unfold State.dutiesTick
  simp only [State.fixed_red, State.ptpEligibility_fixed]

theorem State.managerTick_fixed (s : State) : (State.managerTick s).fixed = s.fixed := by
  unfold State.managerTick
  simp only [State.managerEval_fixed, State.raiseIf_fixed]

theorem State.headTick_fixed (s : State) (n : Nat) (tie : Bool) : (State.headTick s n tie).fixed = s.fixed := by
  unfold State.headTick
  repeat' (first
    | with_reducible rfl
    | simp only [State.fixed_ite, ite_self, State.composeStart_fixed, State.dikeTick_fixed, State.dutiesTick_fixed, State.evidenceTick_fixed, State.fixStart_fixed, State.freeLeaving_fixed, State.guardEnd_fixed, State.managerTick_fixed, State.namedTick_fixed, State.pathTick_fixed, State.polderTick_fixed, State.scanStart_fixed, State.sendMarkers_fixed, State.shedTick_fixed, State.spanTick_fixed, State.speedPass_fixed]
    | split)

theorem State.tileTick_fixed (s : State) : (State.tileTick s).fixed = s.fixed := by
  unfold State.tileTick
  repeat' (first
    | with_reducible rfl
    | simp only [State.fixed_ite, ite_self, State.evidenceTick_fixed, State.guardEnd_fixed, State.markerTick_fixed, State.proxyTick_fixed]
    | split)

theorem State.perfTick_fixed (s : State) (n : Nat) (changed : Bool) : (State.perfTick s n changed).fixed = s.fixed := by
  unfold State.perfTick
  repeat' (first
    | with_reducible rfl
    | simp only [State.fixed_ite, ite_self, State.count_fixed, State.dumpLatch_fixed, State.monCut_fixed, State.monTick_fixed]
    | split)

theorem execTickStrobe_fixed (n : Nat) (tie : Bool) (s : State) : ∃ s', execTickStrobe n tie s = .next s' ∧ s'.fixed = s.fixed := by
  refine ⟨_, rfl, ?_⟩
  repeat' (first
    | with_reducible rfl
    | simp only [State.fixed_time, State.fixed_scan, State.fixed_perf, State.fixed_ite, ite_self, State.headTick_fixed, State.perfTick_fixed, State.raise_fixed, State.rateMissed_fixed, State.tileTick_fixed]
    | simp only [State.fixed_mk, State.fixed_fold]
    | split)

end Sys2Proof.Machine
end

