-- ==== Sys2Proof/Laws/FramePackets.lean ====
section
/-! SUPPORT. The queue, the time and the security state pass unchanged through the operations of `Packets.lean`. -/

set_option linter.all false
set_option linter.unusedTactic false
set_option linter.unreachableTactic false
set_option linter.unusedSimpArgs false

namespace Sys2Proof.Machine

theorem State.forwardOn_fixed (s : State) (p kind id : Nat) : (State.forwardOn s p kind id).fixed = s.fixed := by
  unfold State.forwardOn
  repeat' (first
    | with_reducible rfl
    | simp only [State.fixed_ite, ite_self, State.count_fixed, State.send_fixed]
    | split)

theorem State.takePacket_fixed (s : State) (p : Nat) (v : VideoPacket) : (State.takePacket s p v).fixed = s.fixed := by
  unfold State.takePacket
  repeat' (first
    | with_reducible rfl
    | simp only [State.fixed_chain, State.fixed_ite, ite_self, State.bump_fixed, State.count_fixed, State.raise_fixed, State.raiseTick_fixed]
    | split)

theorem State.tileVideo_fixed (s : State) (p : Nat) (v : VideoPacket) : (State.tileVideo s p v).fixed = s.fixed := by
  unfold State.tileVideo
  repeat' (first
    | with_reducible rfl
    | simp only [State.fixed_chain, State.fixed_ite, ite_self, State.bump_fixed, State.count_fixed, State.seeHeadEpoch_fixed, State.takePacket_fixed]
    | split)

theorem State.ringSeen_fixed (s : State) (c src : Nat) : (State.ringSeen s c src).fixed = s.fixed := by
  unfold State.ringSeen
  repeat' (first
    | with_reducible rfl
    | simp only [State.fixed_red, State.fixed_ite, ite_self]
    | split)

theorem State.headVideo_fixed (s : State) (c : Nat) (v : VideoPacket) (ok : Bool) : (State.headVideo s c v ok).fixed = s.fixed := by
  unfold State.headVideo
  repeat' (first
    | with_reducible rfl
    | simp only [State.fixed_red, State.fixed_src, State.fixed_ite, ite_self, State.count_fixed, State.ringSeen_fixed, State.seeEpoch_fixed, State.sigArrived_fixed, State.splitJudge_fixed, State.syncEval_fixed]
    | simp only [State.fixed_mk, State.fixed_fold]
    | split)

theorem execVideoPacket_fixed (p : Fin 16) (v : VideoPacket) (s : State) : ∃ s', execVideoPacket p v s = .next s' ∧ s'.fixed = s.fixed := by
  refine ⟨_, rfl, ?_⟩
  repeat' (first
    | with_reducible rfl
    | simp only [State.fixed_ite, ite_self, State.crcFail_fixed, State.forwardOn_fixed, State.headVideo_fixed, State.raiseLimited_fixed, State.tileVideo_fixed]
    | split)

theorem State.answerMember_fixed (s : State) : (State.answerMember s).fixed = s.fixed := by
  unfold State.answerMember
  simp only [State.sendMemberList_fixed]

theorem State.takeMemberAll_fixed (s : State) (kind frame : Nat) (l : List (Nat × Nat)) : (State.takeMemberAll s kind frame l).fixed = s.fixed := by
  unfold State.takeMemberAll
  repeat' (first
    | with_reducible rfl
    | simp only [State.fixed_red, State.fixed_tile, State.fixed_health, State.fixed_pump, State.fixed_ite, ite_self, State.answerMember_fixed, State.putK_fixed, State.syncEval_fixed]
    | simp only [State.fixed_mk, State.fixed_fold]
    | (with_reducible refine (State.each_keeps State.fixed _ _ _ fun _ _ => ?_).trans ?_)
    | (with_reducible refine (State.foldl_keeps State.fixed _ _ _ fun _ _ => ?_).trans ?_)
    | split)

theorem State.takeMember_fixed (s : State) (kind frame : Nat) (l : List (Nat × Nat)) : (State.takeMember s kind frame l).fixed = s.fixed := by
  unfold State.takeMember
  repeat' (first
    | with_reducible rfl
    | simp only [State.fixed_red, State.fixed_ite, ite_self, State.takeMemberAll_fixed]
    | split)

theorem State.takeBody_fixed (s : State) (b : ControlBody) : (State.takeBody s b).fixed = s.fixed := by
  unfold State.takeBody
  repeat' (first
    | with_reducible rfl
    | simp only [State.fixed_tile, State.fixed_upd, State.fixed_ite, ite_self, State.partnerReport_fixed, State.takeMember_fixed]
    | simp only [State.fixed_mk, State.fixed_fold]
    | split)

theorem State.takeControl_fixed (s : State) (p : Nat) (c : ControlHead) (b : ControlBody) : (State.takeControl s p c b).fixed = s.fixed := by
  unfold State.takeControl
  repeat' (first
    | with_reducible rfl
    | simp only [State.fixed_chain, State.fixed_ite, ite_self, State.bump_fixed, State.count_fixed, State.takeBody_fixed]
    | split)

theorem State.dropStale_fixed (s : State) : (State.dropStale s).fixed = s.fixed := by
  unfold State.dropStale
  simp only [State.bump_fixed, State.raiseLimited_fixed]

theorem State.tileControl_fixed (s : State) (p : Nat) (c : ControlHead) (b : ControlBody) : (State.tileControl s p c b).fixed = s.fixed := by
  unfold State.tileControl
  repeat' (first
    | with_reducible rfl
    | simp only [State.fixed_ite, ite_self, State.dropStale_fixed, State.seeHeadEpoch_fixed, State.takeControl_fixed]
    | split)

theorem State.headControl_fixed (s : State) (p : Nat) (c : ControlHead) (b : ControlBody) : (State.headControl s p c b).fixed = s.fixed := by
  unfold State.headControl
  repeat' (first
    | with_reducible rfl
    | simp only [State.fixed_chain, State.fixed_src, State.fixed_ite, ite_self, State.ringSeen_fixed, State.seeEpoch_fixed, State.sendPartner_fixed, State.takeControl_fixed]
    | simp only [State.fixed_mk, State.fixed_fold]
    | split)

theorem execControlPacket_fixed (p : Fin 16) (c : ControlHead) (b : ControlBody) (s : State) : ∃ s', execControlPacket p c b s = .next s' ∧ s'.fixed = s.fixed := by
  refine ⟨_, rfl, ?_⟩
  repeat' (first
    | with_reducible rfl
    | simp only [State.fixed_ite, ite_self, State.crcFail_fixed, State.forwardOn_fixed, State.headControl_fixed, State.tileControl_fixed]
    | split)

theorem State.takePartner_fixed (s : State) (c : ControlHead) (b : ControlBody) : (State.takePartner s c b).fixed = s.fixed := by
  unfold State.takePartner
  repeat' (first
    | with_reducible rfl
    | simp only [State.fixed_ite, ite_self, State.seeEpoch_fixed, State.takeBody_fixed]
    | split)

theorem State.markerRate_fixed (s : State) (m : Marker) : (State.markerRate s m).fixed = s.fixed := by
  unfold State.markerRate
  repeat' (first
    | with_reducible rfl
    | simp only [State.fixed_time, State.fixed_chain, State.fixed_scan, State.fixed_tile, State.fixed_perf, State.fixed_ite, ite_self, State.monCut_fixed, State.raise_fixed, State.rateRecheck_fixed]
    | simp only [State.fixed_mk, State.fixed_fold]
    | split)

theorem execMarkerWaitExpiry_fixed (p : Fin 2) (s : State) : ∃ s', execMarkerWaitExpiry p s = .next s' ∧ s'.fixed = s.fixed := by
  refine ⟨_, rfl, ?_⟩
  repeat' (first
    | with_reducible rfl
    | simp only [State.fixed_ite, ite_self, State.lockAgain_fixed, State.markerMissed_fixed, State.raise_fixed]
    | split)

theorem execTickMarker_fixed (p : Fin 16) (m : Marker) (s : State) : ∃ s', execTickMarker p m s = .next s' ∧ s'.fixed = s.fixed := by
  refine ⟨_, rfl, ?_⟩
  repeat' (first
    | with_reducible rfl
    | simp only [State.fixed_chain, State.fixed_ite, ite_self, State.count_fixed, State.crcFail_fixed, State.forwardOn_fixed, State.lockAgain_fixed, State.markerMissed_fixed, State.markerRate_fixed, State.markerTime_fixed, State.proxyEnd_fixed, State.raise_fixed]
    | split)

theorem State.rxBody_fixed (s : State) (p : Nat) (b : RxBody) : (State.rxBody s p b).fixed = s.fixed := by
  unfold State.rxBody
  repeat' (first
    | with_reducible rfl
    | simp only [State.fixed_eth, State.fixed_ite, ite_self, State.when, State.arpSeen_fixed, State.lpiEnd_fixed, State.macPush_fixed, State.raiseIf_fixed, State.takePartner_fixed, State.twShow_fixed]
    | split)

theorem execMacFrameReceive_fixed (p : Fin 9) (f : RxFrame) (s : State) : ∃ s', execMacFrameReceive p f s = .next s' ∧ s'.fixed = s.fixed := by
  refine ⟨_, rfl, ?_⟩
  repeat' (first
    | with_reducible rfl
    | simp only [State.fixed_ite, ite_self, State.monCount_fixed, State.raiseLimited_fixed, State.rxBody_fixed, State.stat_fixed, State.takeFree_fixed, State.updMac_fixed]
    | (with_reducible refine (State.takeFree_fixed' (by assumption)).trans ?_)
    | split)

theorem State.sendEvents_fixed (s : State) (path : Path) (seqs : List Nat) : (State.sendEvents s path seqs).fixed = s.fixed := by
  unfold State.sendEvents
  repeat' (first
    | with_reducible rfl
    | simp only [State.fixed_ev, State.macPush_fixed, State.sendOn_fixed]
    | split)

theorem execEventMessageSend_fixed (s : State) : ∃ s', execEventMessageSend s = .next s' ∧ s'.fixed = s.fixed := by
  refine ⟨_, rfl, ?_⟩
  repeat' (first
    | with_reducible rfl
    | simp only [State.fixed_ite, ite_self, State.sendEvents_fixed]
    | split)

theorem execEventResendTimeout_fixed (s : State) : ∃ s', execEventResendTimeout s = .next s' ∧ s'.fixed = s.fixed := by
  refine ⟨_, rfl, ?_⟩
  repeat' (first
    | with_reducible rfl
    | simp only [State.fixed_ev, State.fixed_ite, ite_self, State.sendEvents_fixed]
    | split)

end Sys2Proof.Machine
end

