-- ==== Sys2Proof/Laws/FrameOd.lean ====
section
/-! SUPPORT. The queue, the time and the security state pass unchanged through the operations of `Od.lean`. -/

set_option linter.all false
set_option linter.unusedTactic false
set_option linter.unreachableTactic false
set_option linter.unusedSimpArgs false

namespace Sys2Proof.Machine

theorem State.authRefused_fixed (s : State) (h : OdHead) (cause : Nat) : (State.authRefused s h cause).fixed = s.fixed := by
  unfold State.authRefused
  simp only [State.raise_fixed]

theorem State.respond_fixed (s : State) (p : Path) (r : Resp) : (State.respond s p r).fixed = s.fixed := by
  unfold State.respond
  repeat' (first
    | with_reducible rfl
    | simp only [State.macPush_fixed, State.sendOn_fixed]
    | split)

theorem State.txnTimeout_fixed (s : State) : (State.txnTimeout s).fixed = s.fixed := by
  unfold State.txnTimeout
  repeat' (first
    | with_reducible rfl
    | simp only [State.fixed_od, State.raise_fixed]
    | split)

theorem State.odDue_fixed (s : State) : (State.odDue s).fixed = s.fixed := by
  unfold State.odDue
  repeat' (first
    | with_reducible rfl
    | simp only [State.fixed_ite, ite_self, State.leaseFree_fixed, State.txnTimeout_fixed]
    | split)

theorem State.odOpen_fixed (s : State) (h : OdHead) : (State.odOpen s h).2.fixed = s.fixed := by
  unfold State.odOpen
  repeat' (first
    | with_reducible rfl
    | simp only [State.fixed_od, State.fixed_ite, ite_self]
    | split)
theorem State.odOpen_fixed' {s : State} {h : OdHead} {a : Nat} {b : State} (hEq : State.odOpen s h = (a, b)) : b.fixed = s.fixed := by
  rw [← State.odOpen_fixed s h, hEq]

theorem State.odAbort_fixed (s : State) (h : OdHead) : (State.odAbort s h).2.fixed = s.fixed := by
  unfold State.odAbort
  repeat' (first
    | with_reducible rfl
    | simp only [State.fixed_od]
    | split)
theorem State.odAbort_fixed' {s : State} {h : OdHead} {a : Nat} {b : State} (hEq : State.odAbort s h = (a, b)) : b.fixed = s.fixed := by
  rw [← State.odAbort_fixed s h, hEq]

theorem State.odClaim_fixed (s : State) (h : OdHead) : (State.odClaim s h).fixed = s.fixed := by
  unfold State.odClaim
  repeat' (first
    | with_reducible rfl
    | simp only [State.fixed_od, State.fixed_red, State.fixed_ite, ite_self, State.managerEval_fixed, State.raise_fixed, State.seeEpoch_fixed, State.setPar_fixed, State.syncEval_fixed]
    | simp only [State.fixed_mk, State.fixed_fold]
    | split)

theorem State.odRefused_fixed (s : State) (h : OdHead) (op : Nat) (sts : List Nat) (named : Option Nat) : (State.odRefused s h op sts named).fixed = s.fixed := by
  unfold State.odRefused
  repeat' (first
    | with_reducible rfl
    | simp only [State.count_fixed, State.raiseIf_fixed, State.setPar_fixed]
    | split)

theorem State.odAccepted_fixed (s : State) (h : OdHead) (op : Nat) (r : Resp) : (State.odAccepted s h op r).fixed = s.fixed := by
  unfold State.odAccepted
  repeat' (first
    | with_reducible rfl
    | simp only [State.fixed_od, State.fixed_ite, ite_self, State.count_fixed, State.setPar_fixed]
    | split)

theorem State.noteClaim_fixed (s : State) (h : OdHead) (op : Nat) : (State.noteClaim s h op).fixed = s.fixed := by
  unfold State.noteClaim
  repeat' (first
    | with_reducible rfl
    | simp only [State.fixed_od, State.fixed_ite, ite_self]
    | split)

theorem execLeaseLapse_fixed (s : State) : ∃ s', execLeaseLapse s = .next s' ∧ s'.fixed = s.fixed := by
  refine ⟨_, rfl, ?_⟩
  simp only [State.leaseFree_fixed]

theorem execTransactionTimeoutExpiry_fixed (s : State) : ∃ s', execTransactionTimeoutExpiry s = .next s' ∧ s'.fixed = s.fixed := by
  refine ⟨_, rfl, ?_⟩
  simp only [State.txnTimeout_fixed]

end Sys2Proof.Machine
end

