-- ==== Sys2Proof/Machine/Pins.lean ====
section
/-! DEFINITION. What each signal of R42 does, read off the state: nothing here changes it. -/

namespace Sys2Proof.Machine

/-- The signals of R42's table, by the numbers of their rows. -/
inductive Signal where
  | laneTx (n : Fin 32) | laneRx (n : Fin 32) | lref (n : Fin 2) | lcal
  | aux (n : Fin 4) | hpd (n : Fin 4) | t1s (n : Fin 8)
  /-- `LPn_CK`, `LPn_LT`, `LPn_GK`, `LPn_D0`–`D3` -/
  | lamp (n : Fin 32)
  | lampOe (n : Fin 32)
  /-- `RGn_CK`, `RGn_DT`, `RGn_LT` -/
  | row (n : Fin 8)
  /-- `DBn_C`, `DBn_D` -/
  | bus (n : Fin 8)
  | rgmiiTx | rgmiiRx | mdc | mdio | phyInt
  | qspiCs (n : Fin 2) | qspiClk | qspiIo
  /-- `DMXn_TX`, `DMXn_DE` -/
  | dmxOut (n : Fin 16)
  | dmxRx (n : Fin 16)
  | sluiceO | hbO | sluiceI | hbI | irqN | faultN
  | tpo (n : Fin 8) | refIn | ain (n : Fin 8) | aref | pwo (n : Fin 10) | tach (n : Fin 2)
  | tck | trstN | tms | tdi | tdo | refclkIn | resetN | porOutN | testEn
  deriving DecidableEq, Repr

/-- What a pin does. -/
inductive PinState where
  /-- its supply is not valid: R42 states nothing -/
  | unsupplied
  | low | high | highZ | pullDown | pullUp
  /-- electrical idle at common mode; termination off -/
  | idle | termOff
  /-- the level it drove when the reset was entered (R47) -/
  | kept
  /-- its configured function -/
  | works
  /-- an input without a pull -/
  | input
  deriving DecidableEq, Repr

/-- Supply of a signal, by its number in `PartStart.valid`; `AREF` is an external reference. -/
def Signal.supply : Signal → Option Nat
  | .laneTx _ | .laneRx _ => some 3
  | .lref _ | .lcal | .aux _ | .t1s _ => some 4
  | .lamp n | .lampOe n => some (7 + n / 8)
  | .row n | .bus n => some (7 + n / 2)
  | .rgmiiTx | .rgmiiRx | .mdc | .mdio | .phyInt => some 6
  | .ain _ | .aref => none
  | _ => some 5

/-- Pin-reset-map group of a signal. -/
def Signal.group : Signal → Option Nat
  | .lamp n => some (n / 8)
  | .lampOe n => some (4 + n / 8)
  | .row _ => some 8
  | .bus _ => some 9
  | .dmxOut _ => some 10
  | .pwo n => some (if n.val < 8 then 11 else 12)
  | .tpo _ => some 13
  | .sluiceO | .hbO => some 14
  | .hpd _ => some 15
  | _ => none

/-- R42's "pull in reset" of a signal outside the groups. -/
def Signal.pull : Signal → PinState
  | .laneTx _ => .idle
  | .laneRx _ => .termOff
  | .aux _ | .t1s _ | .mdio | .tdo | .irqN | .faultN => .highZ
  | .rgmiiTx | .mdc | .qspiClk | .porOutN => .low
  | .qspiCs _ => .high
  | .rgmiiRx | .sluiceI | .hbI | .refIn | .tck | .trstN | .testEn => .pullDown
  | .phyInt | .qspiIo | .dmxRx _ | .tach _ | .tms | .tdi | .resetN => .pullUp
  | _ => .input

/-- The region that carries a signal's function outside the groups, and configures it once it is released (DEDUCED from R15 and R122: the
flash and the MACs belong to Control, lanes and AUX to Front; log entry 14). -/
def Signal.region : Signal → Option Region
  | .laneTx _ | .laneRx _ | .aux _ => some .front
  | .t1s _ | .rgmiiTx | .mdc | .mdio | .qspiCs _ | .qspiClk | .qspiIo => some .control
  | _ => none

def pinLevel (b : Bool) : PinState := if b then .high else .low

/-- What a pin of a group in its map state does, by the state's code; 5 keeps, or acts as 1 (R43, R46, R47). -/
def State.mapPin (s : State) (g : Nat) (x : Signal) : PinState :=
  match s.appliedState g with
  | 0 => .highZ
  | 2 => .pullUp
  | 3 => .low
  | 4 => .high
  | 5 =>
    if !s.start.keeps.contains g then .pullDown
    else match x with
      | .tpo n => pinLevel (s.start.tpoHeld.contains n.val)
      | .pwo n => pinLevel (s.pwmHigh n)
      | _ => .kept
  | _ => .pullDown

/-- A pin in its configured function, where the state holds the level. -/
def State.workPin (s : State) (x : Signal) : PinState :=
  match x with
  | .sluiceO => pinLevel s.sluiceO
  | .hbO => pinLevel s.hbLevel
  | .tpo n => pinLevel (s.tpoLevel n)
  | .hpd n => pinLevel (s.hpd n)
  | .pwo n => pinLevel (s.pwmHigh n)
  | .lampOe n => if s.drive.lit.contains n.val then .works else .low
  | _ => .works

/-- What a pin of a group does. -/
def State.groupPin (s : State) (g : Nat) (x : Signal) : PinState :=
  match SMap.get .off s.start.groups g with
  | .off => .unsupplied
  | .weakDown => .pullDown
  | .highZ => .highZ
  | .map => s.mapPin g x
  | .drivenLow => .low
  | .released => .highZ
  | .configured => s.workPin x

/-- What a signal's pin does (R42, R46–R49, R56, R515, R516). -/
def State.pin (s : State) (x : Signal) : PinState :=
  match x.supply with
  | none => .input
  | some v =>
    if !s.valid v then .unsupplied
    else match x.group with
      | some g =>
        if v < 7 then s.groupPin g x
        else match SMap.get .off s.start.banks (v - 7) with
          | .off => .unsupplied
          | .weakDown => .pullDown
          | .map => s.mapPin g x
          | .normal => s.groupPin g x
      | none => match x with
        | .irqN => if s.irqAsserted then .low else .highZ
        | .faultN => if s.faultAsserted then .low else .highZ
        | .porOutN => pinLevel s.start.porOut
        | .lcal => .works
        | _ => match x.region with
          | some r => if s.isReleased r then .works else x.pull
          | none => x.pull

end Sys2Proof.Machine
end

