-- ==== Sys2Proof/WellFormed.lean ====
section
/-! DEFINITION. Which commands can arrive at all: bounds of their operands that the types do not carry.  A command outside
them describes nothing that the wires or the device's own units can bring about; the meanings do not rely on it. -/

namespace Sys2Proof

/-- An AUX transaction moves 1 to 16 bytes, or none as an address-only transaction, at a 20-bit address (R138). -/
def auxOk (r : AuxReq) : Bool :=
  match r with
  | .nativeRead a n => decide (a < 2 ^ 20 ∧ 1 ≤ n ∧ n ≤ 16)
  | .nativeWrite a d => decide (a < 2 ^ 20 ∧ 1 ≤ d.length ∧ d.length ≤ 16)
  | .i2cRead _ n => decide (n ≤ 16)
  | .i2cWrite _ d => decide (d.length ≤ 16)

/-- A video packet's payload has at most 4,096 bytes (R148). -/
def packetOk (v : VideoPacket) : Bool := decide (v.payload.length ≤ 4096)

/-- The command's operands are within their bounds. -/
def Instr.wellFormed (i : Instr) : Bool :=
  match i with
  -- 64 bins for each of 16 layers (R243)
  | .spanRecord _ _ _ _ _ hist => hist.all (fun e => decide (e.1 < 1024))
  -- at most eight values per layer
  | .flipSet _ set => set.all (fun e => decide (e.2.length ≤ 8))
  -- five taps (R123)
  | .laneAdaptComplete _ _ taps => taps.length == 5
  -- one step up or down a tap (R123)
  | .adaptUpdate _ dCtle dTaps _ => dTaps.length == 5 && decide (-1 ≤ dCtle ∧ dCtle ≤ 1) && dTaps.all (fun d => decide (-1 ≤ d ∧ d ≤ 1))
  -- an error count of 16 bits (R127)
  | .eyeScanPoint count => decide (count < 65536)
  -- at most one block between markers
  | .testBlockReceive _ _ data => decide (data.length ≤ 65536)
  -- 1 to 16 bytes and an address of 20 bits (R138)
  | .auxRequest _ req _ _ => auxOk req
  -- a payload of at most 4,096 bytes (R148)
  | .videoPacket _ v => packetOk v
  -- a message of at most 1,400 bytes (R153)
  | .controlPacket _ c _ => decide (c.received ≤ 1400)
  -- a payload of at most 4,096 bytes (R148)
  | .ingressPacket _ v => packetOk v
  -- a payload of at most 4,096 bytes (R148)
  | .fencePacket _ v => packetOk v
  -- a high time the input can measure
  | .heartbeatEdge high => decide (high < 2 ^ 32)
  -- a length the statistics count
  | .macFrameReceive _ f => decide (f.length < 65536)
  -- an address of 8 GB (R427)
  | .dramRequest _ _ addr _ _ _ => decide (addr < 2 ^ 33)
  -- a result per channel (R438)
  | .dramTrainingComplete results => results.length == 16
  -- a word is corrected or uncorrectable (R443)
  | .cisternScrub _ _ corrected bad => !(corrected && bad)
  -- a sample in 16 bits, 0x8000 being none (R449)
  | .thermalSample t => (match t with | some x => decide (-32768 < x ∧ x < 32768) | none => true)
  -- the 40 bytes of a key load (R470)
  | .keyLoadClear _ value => value.length == 40
  -- the 40 bytes of a key load (R470)
  | .keyLoadWrapped _ value => value.length == 40
  -- a nonce of 32 bytes (R476)
  | .attestRequest _ nonce _ => nonce.length == 32
  -- a block of 4,096 bytes below 2,048 (R483, R486)
  | .updBlock _ _ entry data _ => data.length == 4096 && decide (entry < 2048)
  -- block numbers below 2,048 and a whole manifest or none (R486)
  | .updState _ _ _ _ held mf _ => held.all (fun b => decide (b < 2048)) && (mf.length == 0 || mf.length == 3152)
  | .supplyValid _ | .supplyDip _ _ | .porRelease | .optionByteRead _ | .bankSupplyValid _ _ | .bankMapApply _
  | .bankSupplyLeavesRange _ | .resetNAssert | .resetNRelease _ | .resetNLongCount | .resetRequestShort _
  | .resetRequestLong _ | .resetRequestExecute | .regionRelease _ _ | .clockGoodTurnExpiry | .clockGoodDrop _
  | .clockGoodReturn _ | .lowWaterEntry | .readyBitRise _ | .clusterFault _ _ | .clusterRestartAtFrameBoundary _ _
  | .imageDriveFault | .uncontainedRegionFault _ | .secureBootVerify | .read _ _ | .write _ _ | .txnOpen _ _
  | .txnCommit _ _ | .txnAbort _ _ | .txnCancel _ _ | .leaseClaim _ _ | .leaseRenew _ _ | .leaseRelease _ _
  | .event _ _ | .unknownOp _ _ _ | .leaseLapse | .transactionTimeoutExpiry | .settingsStoreWrite
  | .optionOverlay _ _ _ | .commitLatch _ _ | .tickStrobe _ _ | .composeDeadline _ _ | .canvasComplete _
  | .polderBuildComplete | .scanoutPacketStart _ | .dryLimitExpiry _ | .scanEndPoint _ | .spanDeadline _ _
  | .flipSetDeadline _ | .cutOff _ _ | .displayTick _ _ | .correctionWriteThrough _ _ | .kTargetCompute
  | .gainTableBuildComplete | .ledgerFlushTimer | .ledgerFlushComplete | .ledgerReplace | .ledgerZero
  | .coeffData _ _ _ | .coeffSeal _ _ | .mapData _ _ _ | .mapSeal _ _ | .bankFlashCopy _ _ | .sensorReadStart _
  | .sensorReadComplete _ _ | .subframeBoundary _ _ _ _ | .rowSlotBoundary _ _ | .planeBoundary _
  | .busTransactionEnd _ _ | .busStretchTimeout _ | .busStuckRetry _ _ | .quadRestartAtBoundary _ | .seqNop _
  | .seqMovi _ | .seqMovh _ | .seqAdd _ | .seqSub _ | .seqAddi _ | .seqAnd _ | .seqOr _ | .seqXor _ | .seqShli _
  | .seqShri _ | .seqLd _ | .seqSt _ | .seqMfs _ | .seqBr _ | .seqBz _ | .seqBnz _ | .seqDbnz _ | .seqCall _
  | .seqRet _ | .seqWait _ | .waitEventTaken _ | .seqDly _ | .seqTrace _ | .seqFault _ | .seqShw _ | .seqShb _
  | .seqShr _ | .seqLat _ | .seqStrm _ | .seqOec _ | .seqPrb _ | .seqFsd _ | .seqI2c _ | .seqPpw _ | .seqPpr _ _
  | .seqWatchdogExpiry _ | .progData _ _ _ _ | .progSeal _ _ _ | .healthReadStart _ _ | .healthReadComplete _ _ _
  | .faultListWrite | .lampAgeSecond | .healthClear | .healthDeclare | .pumpStepSlot | .ainConversion _ _
  | .tachEdge _ | .tachTimeout _ | .tachStallTimer _ | .oscReset _ _ | .invalidSymbol _ _ _ _ _ | .commaTimeout _
  | .laneSignalDetect _ | .cdrLock _ | .cdrTimeout _ _ | .laneAlign _ _ | .laneBringupTimer _ _ | .rateHuntTimer _
  | .laneOffHoldExpiry _ | .skipInsert _ | .elasticBufferSlip _ _ | .quadPllLockLoss _ | .quadPllRelock _ | .trimStep
  | .eyeMarginMeasure _ _ _ | .eyeScanStart _ _ | .testBlockSend _ | .prbsGen _ _ _ | .prbsChk _ _ _ | .inject _ _ _
  | .dpLaneLockLoss _ _ | .hpdPulseEnd _ | .hpdCycleEnd _ | .msaReceived _ _ | .dpFrameStart _ | .dpFrameEnd _ _ _
  | .ownPacketSend _ | .tickMarker _ _ | .markerWaitExpiry _ | .echoReq _ _ _ _ | .echoResp _ _ _ _ _
  | .latency _ _ _ | .ident _ _ _ | .echoSendTimer _ _ | .latencySendTimer _ | .identSendTimer _
  | .latencyStaleTimer _ _ | .chainLatencyRead _ _ | .chainLoadRecompute | .fenceWriteAck _ | .stillData _ _ _ _
  | .stillSeal _ _ _ | .heartbeatTimeout | .sluiceIChange _ | .doubtTimer | .claimHoldoffExpiry | .claimWindowEnd
  | .lampNetActivity | .evidenceTimeout | .switchover _ _ | .yieldTickReached _ | .epochFloor _ _
  | .signatureCompareDeadline _ _ | .healthReportPublish _ | .ptpSync _ | .ptpFollowUp _ | .ptpDelayReq _
  | .ptpDelayResp _ | .ptpAnnounce _ _ | .ptpAnnounceTimeout | .ptpSyncSend | .ptpAnnounceSend | .ptpDelayReqSend
  | .macFrameTransmit _ _ _ _ | .tsqRetrieve | .tsqEntryExpiry | .refInEdge | .refInTimeout | .servoSampleTimeout
  | .timeSet _ _ | .tpoEdge _ | .fixSamplingComplete _ | .fixSampleDeadline _ _ | .sacnDataStart _
  | .emissionInstant _ | .sacnDropDeadline _ | .universeDiscoverySend | .dmxFrameEnd _ | .rdmRequest _ _ _
  | .rdmSend _ | .rdmResponse _ _ _ _ | .rdmResponseTimeout _ | .rdmRequestExpiry _ | .fixData _ _ _ | .fixSeal _ _
  | .phyInt _ | .phyPollTimer _ | .autonegRetry | .dhcpTimeout | .pauseFrame _ | .pauseExpiry | .pauseCapExpiry
  | .lpiEntry | .lpiExit | .lldpSend | .lldpTtlExpiry | .downshiftTimer | .t1sCollision _ _ | .t1sBackoffExpiry _
  | .plcaStatusChange _ _ _ | .txFifoUnderrun _ | .txThreshold _ _ | .t1sThreshold _ _ _ | .dramReadReturn _ _ _ _ _
  | .dramWriteAck _ _ | .requestAgeExpiry _ _ | .refreshTick _ | .disturbWindowRestart _ _ | .dramRecalTimer
  | .selfRefreshTimeout | .standbyEntryTimer | .channelIdleTimeout _ | .tripComparator | .bgPauseExpiry _
  | .composePauseExpiry _ | .lockAdvance _ _ | .lockBurnComplete | .keyRevoke _ _ | .debugUnlock _ _ | .bypass
  | .samplePreload _ | .extest | .idcode | .attestSignComplete | .manifest _ _ _ | .imageData _ _ _ | .updStateTimer
  | .updBlockSend _ | .activate _ _ | .activationReset | .confirm _ _ | .autoConfirmTimer | .confirmWindowExpiry
  | .updateAbort _ _ | .dumpRecordWritten | .dumpRead _ _ | .counterFreeze _ | .counterRelease _ | .counterSnapshot _
  | .sampleTake _ _ _ _ _ | .sampleClear _ _ | .eventServiceWrite _ | .eventMessageSend | .eventAck _
  | .eventResendTimeout | .faultClear _ _ | .irqPendingClear _ _ | .supplyFall _ | .commandSlot _ _
  | .shiftOperationEnd _ | .arpProbeEnd => true

end Sys2Proof
end

