-- ==== Sys2Proof/Tests/Slice0.lean ====
section
/-! SUPPORT. Tests: bounds of operands, worked examples of the spec, and for each statement states that meet its hypotheses. -/

namespace Sys2Proof.Tests
open Sys2Proof Sys2Proof.Machine
set_option Elab.async false

/-! Small states -/

/-- A device in a role. -/
def dev (r : Role) : State := { start := { role := r } }
/-- A state with scalar elements written: parameter, index, value. -/
def withPars (s : State) (l : List (Nat × Nat × Nat)) : State := l.foldl (fun s e => s.setPar e.1 e.2.1 e.2.2) s
/-- A program of the words `ws`. -/
def prog (ws : List Nat) : Sealed := (Sealed.write {} 2 (leBytes 2 ws.length)).write 64 (ws.flatMap (leBytes 4))
/-- Sequencer `q` of a tile, with the fields of `d`, on a program of the words `ws` in its slot. -/
def seqOn (q : Nat) (d : Seq) (ws : List Nat) : State :=
  { dev .tile with drive := { seqs := [(q, d)] }, store := { banks := [(bankKey BK.PROG d.slot, prog ws)] } }
/-- A running sequencer in slot 0 whose registers 1 and 15 hold 5 and 1. -/
def go : Seq := { st := 1, slot := 0, regs := [(1, 5), (15, 1)] }
/-- The word of an opcode with registers rd 1, ra 1, rb 1 and low bits `lo`. -/
def wordOf (op lo : Nat) : Nat := op * 2 ^ 26 + 2 ^ 22 + 2 ^ 18 + lo

/-- An operation of a kind that may start from a cycle. -/
def op (kind from_ : Nat) : PinOp :=
  { num := 0, kind := kind, mask := 1, src := 0, latch := 1, count := 1, value := 0, from_ := from_ }
/-! Sequencers -/

theorem test_hyp_SeqComputeInstructions : ∀ e ∈ computeTable 7, (seqOn 7 go [wordOf e.2.1 0, 0]).issues 7 (wordOf e.2.1 0) ∧
    field (wordOf e.2.1 0) 26 6 = e.2.1 ∧ (seqOn 7 go [wordOf e.2.1 0, 0]).inProgram 7 1 := by
  simp only [State.issues, State.inProgram]; decide

theorem test_hyp_SeqFlowInstructions : ∀ v ∈ [0, 1, 5], ∀ op ∈ [0x00, 0x19, 0x10, 0x11, 0x12, 0x13, 0x14, 0x15],
    let s := seqOn 7 { go with regs := [(1, v), (15, 1)] } [wordOf op 1, 0];
    s.issues 7 (wordOf op 1) ∧
      ∃ e ∈ flowTable 7 s (wordOf op 1), field (wordOf op 1) 26 6 = e.op ∧ s.inProgram 7 e.target := by
  simp only [State.issues, State.inProgram]; decide

theorem test_hyp_SeqDataInstructions :
    (∀ op ∈ [0x0B, 0x0C], let s := seqOn 7 go [wordOf op 1018, 0];
      s.issues 7 (wordOf op 1018) ∧ s.inProgram 7 1 ∧ (s.seq 7).dataAddr (wordOf op 1018) = 1023) ∧
    (seqOn 7 go [wordOf 0x0D 255, 0]).issues 7 (wordOf 0x0D 255) := by
  simp only [State.issues, State.inProgram]; decide

theorem test_hyp_SeqFaultConditions :
    (seqOn 7 go [wordOf 0x1B 127]).issues 7 (wordOf 0x1B 127) ∧
    ((seqOn 7 go [wordOf 3 0]).issues 7 (wordOf 3 0) ∧ ¬ (seqOn 7 go [wordOf 3 0]).inProgram 7 1) ∧
    (∀ op ∈ [0x0B, 0x0C], let s := seqOn 7 go [wordOf op 1019];
      s.issues 7 (wordOf op 1019) ∧ 1023 < (s.seq 7).dataAddr (wordOf op 1019)) ∧
    (∀ op ∈ [0x29, 0x2A], let s := seqOn 7 go [wordOf op 1]; s.issues 7 (wordOf op 1) ∧ s.par P.DB_MODE 7 ≠ 4) ∧
    (let s := seqOn 7 go [wordOf 0x28 0]; s.issues 7 (wordOf 0x28 0) ∧ s.busI2c 7 = false ∧ (s.bus 7).owner = .idle ∧
      (s.seq 7).dataAddr (wordOf 0x28 0) ≤ 1023) ∧
    (let s := { seqOn 7 go [0] with now := 2 ^ 24 }; (s.seq 7).st = 1 ∧ (s.seq 7).waitAt + 2 ^ 24 ≤ s.now) := by
  simp only [State.issues, State.inProgram]; decide

theorem test_hyp_SeqWaits :
    (seqOn 7 go [wordOf 0x18 0]).issues 7 (wordOf 0x18 0) ∧
    (∀ c ∈ [0, 15], let s := withPars (seqOn 7 { go with st := 2, pending := [c], mask := 2 ^ c, slot := 7 } [0, 0]) [(P.QUAD_PROGRAM, 7, 7)];
      (s.seq 7).st = 2 ∧ (s.seq 7).pending.find? (bit (s.seq 7).mask) = some c ∧
        (c = 0 → s.slotFor 7 (s.seq 7).frameOf = (s.seq 7).slot) ∧ s.inProgram 7 1) ∧
    (let s := seqOn 7 go [wordOf 0x1A 0, 0];
      s.issues 7 (wordOf 0x1A 0) ∧ s.inProgram 7 1 ∧ bit (s.par P.TRACE_ENABLE) 7 = false) ∧
    (let s := { withPars (seqOn 7 go [wordOf 0x1A 0, 0]) [(P.TRACE_ENABLE, 0, 128)] with now := 1, perf := { held := 1023 } };
      s.issues 7 (wordOf 0x1A 0) ∧ s.inProgram 7 1 ∧ bit (s.par P.TRACE_ENABLE) 7 = true ∧ bit (wordOf 0x1A 0) 15 = false ∧
        s.perf.queue = [] ∧ s.perf.cycle ≠ s.controlNow + 1 ∧ s.perf.held < 1024) := by
  simp only [State.issues, State.inProgram]; decide

theorem test_hyp_SeqShiftInstructions : ∀ e ∈ shiftTable 7, let w := wordOf e.2 1;
    (let s := seqOn 7 { go with ops := [op 0 0, op 0 0, op 0 0, op 0 0] } [w, 0]; s.issues 7 w ∧ 4 ≤ (s.seq 7).ops.length) ∧
    (let s := seqOn 7 { go with ops := [op 0 0, op 0 0, op 0 0] } [w, 0];
      field w 26 6 = e.2 ∧ s.issues 7 w ∧ (s.seq 7).ops.length < 4 ∧ s.inProgram 7 1 ∧
        (∀ o ∈ (s.seq 7).ops.head?, o.kind ≠ 4 ∧ o.kind ≠ 5 ∧ o.kind ≠ 7) ∧ (s.seq 7).align = none ∧
        (s.shiftOp 7 w 0).countOk = true) ∧
    (let s := { seqOn 7 { go with align := some 0 } [w, 0] with now := 8 };
      s.issues 7 w ∧ s.inProgram 7 1 ∧ (s.seq 7).align = some 0 ∧ s.now ≤ 0 + 8) ∧
    (let s := { seqOn 7 { go with align := some 0 } [w, 0] with now := 9 };
      s.issues 7 w ∧ s.inProgram 7 1 ∧ (s.seq 7).align = some 0 ∧ 0 + 8 < s.now) := by
  simp only [State.issues, State.inProgram]; decide

theorem test_hyp_SeqShiftInstructions_count : ∀ op ∈ [0x20, 0x21, 0x22, 0x23], let w := wordOf op 1025;
    let s := seqOn 7 go [w, 0];
    s.issues 7 w ∧ s.inProgram 7 1 ∧ (s.shiftOp 7 w 0).countOk = false ∧ (s.seq 7).align = none ∧ (s.seq 7).ops = [] := by
  simp only [State.issues, State.inProgram]; decide

theorem test_hyp_ShiftOperationsEnd :
    (let o : PinOp := op 0 100; let s := { seqOn 7 { go with ops := [o] } [0] with now := 99 };
      (s.seq 7).ops = [o] ∧ s.now < max (s.seq 7).idleAt o.from_ + s.opCycles 7 o) ∧
    (∀ k ∈ [4, 5, 7], let o : PinOp := op k 100;
      let s := { seqOn 7 { go with ops := [o], shifting := true } [0] with now := 100 };
      (s.seq 7).ops = [o] ∧ max (s.seq 7).idleAt o.from_ + s.opCycles 7 o ≤ s.now ∧ (s.seq 7).shifting = true ∧
        ¬ (o.num < (s.seq 7).mustEnd ∧ (s.seq 7).blankEnd ≤ max (s.seq 7).idleAt o.from_)) := by
  decide

theorem test_hyp_DriverBusCommands :
    (let w := wordOf 0x28 1014;
      let s := withPars (seqOn 7 { go with data := [(1019, 0x808)] } [w, 0]) [(P.DB_MODE, 7, 1)];
      s.issues 7 w ∧ s.inProgram 7 1 ∧ (s.bus 7).owner = .idle ∧ s.busI2c 7 = true ∧ (s.seq 7).dataAddr w = 1019 ∧
        field (SMap.get 0 (s.seq 7).data 1019) 8 4 = 8 ∧ field (SMap.get 0 (s.seq 7).data 1019) 0 4 = 8) ∧
    ∀ op ∈ [0x29, 0x2A], ∀ n ∈ [1, 32], let s := withPars (seqOn 7 go [wordOf op n, 0]) [(P.DB_MODE, 7, 4)];
      s.issues 7 (wordOf op n) ∧ s.inProgram 7 1 ∧ s.par P.DB_MODE 7 = 4 ∧ wordOf op n % 64 = n := by
  simp only [State.issues, State.inProgram]; decide

theorem test_hyp_BusTransactionsAndSensorReads :
    (∀ again ∈ [false, true], let s := { dev .tile with drive := { buses := [(7, { owner := .program 1019, retried := again, failed := true })] } };
      (s.bus 7).owner = .program 1019 ∧ s.busSilent = false ∧ (s.bus 7).retried = again ∧ (s.bus 7).failed = true) ∧
    (let s := { withPars (dev .tile) [(P.SENSOR_SOURCE, 15, 2 ^ 31 + 7 * 2 ^ 24), (P.DB_MODE, 7, 3)] with
        start := { role := .tile, ready := 2 ^ B.FW } };
      s.isTile = true ∧ s.rdy B.FW = true ∧ s.sensorOn 15 = true ∧ s.busI2c (s.sensorBus 15) = true ∧
        (s.bus (s.sensorBus 15)).owner = .idle ∧ (s.bus (s.sensorBus 15)).failed = false) ∧
    (let s := { dev .tile with drive := { buses := [(7, { owner := .program 0 })] }, start := { role := .tile, record := [0, 8] } };
      (s.bus 7).owner = .program 0 ∧ s.busSilent = true) ∧
    (let s := { withPars (dev .tile) [(P.SENSOR_SOURCE, 15, 2 ^ 31 + 7 * 2 ^ 24)] with
        drive := { buses := [(7, { owner := .sensor 15, retried := true })] } };
      (s.bus (s.sensorBus 15)).owner = .sensor 15 ∧ (s.bus (s.sensorBus 15)).retried = true) := by
  decide

/-- A tile that drives: quad 7 in B mode with port 31 of four strands. -/
def lamps (d : Seq) : State :=
  { withPars (seqOn 7 d [0]) [(P.QUAD_CONFIG, 7, 2 + 2 ^ 8 + 2 ^ 27), (P.PORT_ENABLE, 0, 2 ^ 31), (P.PORT_CONFIG, 31, 4 * 2 ^ 8),
      (P.HEALTH_MODE, 0, 1), (P.HEALTH_SOURCE, 7, 2 ^ 31), (P.DB_MODE, 7, 1)] with
    start := { role := .tile, ready := 2 ^ B.FW + 2 ^ B.DRIVE } }

theorem test_hyp_RefreshBoundaries :
    (∀ m ∈ [0, 127], let s := lamps go; let u := s.subframeIn 31 m;
      s.isTile = true ∧ s.paired = false ∧ s.red.activeAt = none ∧ u.gridRuns 7 = true ∧ (u.portCfg 31).portOn 31 = true ∧
      (u.gridCfg 7).refPort s.rate 7 = 31 ∧ (s.seq 7).alive = true) ∧
    (let s := lamps go; s.gridRuns 7 = true ∧ (s.gridCfg 7).qMode 7 = 2) ∧
    (let s := { lamps go with start := { (lamps go).start with oeLowDue := [31] } }; s.start.oeLowDue.contains 31 = true) ∧
    (let s := lamps { go with planeFrame := 1 }; (s.seq 7).ops = [] ∧ (s.seq 7).planeFrame ≠ 0 ∧
      (s.seq 7).planes < ((s.frameCfg 7 ((s.seq 7).planeFrame - 1)).planeList 7).length) ∧
    (let s := lamps { go with ops := [op 0 8] }; (s.seq 7).ops ≠ [] ∧ s.now + 8 ≤ s.unitEnd 7) ∧
    (let s := lamps { go with st := 3, dark := 1 }; (s.seq 7).st = 3 ∧ (s.seq 7).dark = 1 ∧ s.tile.shift = none) := by
  decide

theorem test_hyp_HealthReads :
    (let s := lamps go; s.healthRuns 7 15 = true ∧ s.busI2c 7 = true ∧ (s.bus 7).owner = .idle ∧ (s.bus 7).failed = false) ∧
    (let s := { lamps go with drive := { buses := [(7, { owner := .health 15, retried := true })] } };
      (s.bus 7).owner = .health 15 ∧ (s.bus 7).retried = true) ∧
    (let s := { lamps go with health := { lamps := [(0, { age := 2045 })], listDue := true } };
      s.isTile = true ∧ s.rdy B.FW = true ∧ (s.lampOf 0).age + 1 < 2047 ∧ s.health.listDue = true ∧
        s.bgPaused Bg.FLASH = false) ∧
    ∀ n ∈ [1, 2], let s := { lamps go with health := { cmds := [n * 2 ^ 56 + 2 ^ 32] } };
      ∃ v ∈ s.health.cmds.head?, field v 56 8 = n := by
  decide

theorem test_hyp_LampResultsAndDeclarations :
    (let s := { lamps go with health := { lamps := [(0, { strikes := 2, kind := 0, status := 3 })] } };
      (s.lampOf 0).strikes + 1 = 3 ∧ (s.lampOf 0).kind = 0 ∧ ((s.lampOf 0).status = 0 ∨ (s.lampOf 0).status = 3)) ∧
    (let s := { lamps go with health := { lamps := [(0, { strikes := 2, kind := 1 })] } };
      (s.lampOf 0).strikes ≠ 0 ∧ (s.lampOf 0).kind ≠ 0) := by
  decide
/-- Start-up fields with every supply valid, power-on reset over and the option bytes read. -/
def powered : PartStart :=
  { valid := (List.range 11).map (·, true), por := false, optionRead := true, role := .tile, turn := 4, resetting := none }
/-- A state with the start-up fields `c`. -/
def st (c : PartStart) : State := { start := c }

theorem test_hyp_SuppliesAndPowerOnReset :
    (∀ x ∈ [Supply.vddCore, .vddSram, .vddioG], x = .vddCore ∨ x = .vddSram ∨ x = .vddioG) ∧
    (∀ x ∈ [Supply.vddDram, .vddaLane09, .vddaLane12, .vddioE], x ≠ .vddCore ∧ x ≠ .vddSram ∧ x ≠ .vddioG) ∧
    (∀ tr ∈ [false, true], ∀ cl ∈ [false, true], let s := st { powered with por := true, tripped := tr, coreCleared := cl };
      s.start.por = true ∧ s.monitored = true ∧ s.start.tripped = tr ∧ s.start.coreCleared = cl) ∧
    (dev .tile).valid 10 = false ∧
    (let s := st { powered with banks := [(3, .weakDown)] };
      s.start.optionRead = true ∧ SMap.get .off s.start.banks 3 = .weakDown ∧ s.valid 10 = true) := by
  decide

theorem test_hyp_ResetsCarriedOut :
    (dev .tile).start.resetN = true ∧
    (∀ n ∈ [10 * us - 1, 10 * us, 200 * ms - 1, 200 * ms], let s := { st { powered with lowSince := some 0 } with now := n };
      s.start.lowSince = some 0 ∧ s.start.resetting = none ∧ s.start.tripped = false ∧
        (s.now < 10 * us ∨ 10 * us ≤ s.now ∧ s.now < 200 * ms ∨ 200 * ms ≤ s.now)) ∧
    (∀ c ∈ [ResetClass.short, .long], ∀ tr ∈ [false, true], let s := st { powered with request := some c, tripped := tr };
      s.start.request = some c ∧ s.start.resetting = none ∧ s.start.tripped = tr) ∧
    (let s := st { powered with request := some .short, resetting := some .l0 };
      s.start.request = some .short ∧ ∃ r ∈ s.start.resetting, levelDepth (s.classLevel .short) ≤ levelDepth r) ∧
    (let s := { st { powered with resetting := some .l1 } with dram := { entering := true } };
      s.dram.entering = true ∧ s.start.resetting = some .l1) := by
  decide

theorem test_hyp_StagedStart :
    (let s := st { powered with optionRead := false }; s.start.por = false ∧ s.start.optionRead = false ∧
      s.start.tripped = false) ∧
    (∀ r ∈ [Region.control, .image], let s := st { powered with released := [(1, true)] };
      s.start.heldByPin = false ∧ s.start.longHeld = false ∧ s.isReleased r = false ∧ r.num ≤ s.start.turn ∧
        s.regionSupplied r = true ∧ (r = .image → s.isReleased .memory = true ∧ s.start.safeHold = false)) ∧
    (let s := st { powered with resetting := some .l1, turn := 4 }; s.start.resetting ≠ none ∧ s.start.turn ≤ 4) ∧
    (∀ n ∈ [0, 1, 2, 3, 4], ∀ r ∈ [Region.control, .memory, .time, .front, .image], r.num = n →
      (st { powered with released := [(n, true)] }).isReleased r = true) ∧
    (let s := st { powered with turn := 5 }; s.isReleased .front = false ∧ s.regionSupplied .front = true ∧ 5 ≤ s.start.turn) ∧
    (let s := st { powered with released := [(0, true)] }; s.start.lowWater = false ∧ s.isReleased .control = true ∧
      s.start.resetting = none) ∧
    (let s := st { powered with lowWater := true, ready := 1, released := [(3, true)] };
      s.usable 1 = true ∧ s.rdy 1 = false ∧ 1 ∈ roleBits s.start.role s.paired ∧
        ∀ p ∈ prereqs s.isHead 1, bit (readyClosure s.isHead s.start.ready) p = true) := by
  decide

theorem test_hyp_FaultContainment :
    (let s := st { powered with quiesced := [32 * 4 + 31] }; 32 * Region.image.num + 31 ∈ s.start.quiesced) ∧
    (let s := st { powered with released := [(0, true), (1, true), (2, true), (4, true)] };
      s.isReleased .image = true ∧ s.start.restarting = false ∧ s.start.safeHold = false ∧ s.isReleased .control = true ∧
        s.isReleased .memory = true ∧ s.isReleased .time = true) := by
  decide

/-- An image whose header gives no FORMAT is rejected whatever the verification functions are; that one is accepted is a fact
about `Config.hssVerify`, of which the model fixes nothing. -/
theorem test_hyp_SettingsBootAndConfirmation :
    (let s := { dev .tile with od := { dirty := true } }; s.od.dirty = true ∧ s.bgPaused Bg.FLASH = false) ∧
    (let s := st { powered with lowWater := true }; s.start.lowWater = true ∧ s.start.stopped = false ∧ s.upd.started = false ∧
      s.start.noFirmware = false ∧ s.start.role ≠ .none ∧ s.start.tripped = false ∧ s.upd.st ≠ U.TRIAL ∧
      s.bootReject (s.slotImage 0) = some 1 ∧ recField s.start.record 96 2 ≠ 2) ∧
    (let s := { st powered with upd := { resetDue := some 0 } }; s.upd.resetDue ≠ none ∧ s.start.tripped = false ∧
      s.start.resetting = none) ∧
    (let s := { withPars (st { powered with ready := 2 ^ 15 }) [(P.AUTO_CONFIRM, 0, 2 ^ 15)] with
        now := 60 * sec, upd := { st := U.TRIAL, windowAt := some (60 * sec) } };
      s.upd.st = U.TRIAL ∧ s.upd.windowAt ≠ none ∧ s.windowOver = false ∧ s.par P.AUTO_CONFIRM ≠ 0 ∧
        s.par P.AUTO_CONFIRM < 2 ^ 16 ∧ ∀ i, i < 16 → bit (s.par P.AUTO_CONFIRM) i = true →
          s.rdy i = true ∧ SMap.get 0 s.start.readyAt i + 60 * sec ≤ s.now) := by
  decide +kernel
/-- A tile whose port lanes 31 (W) and 0 (E) and whose other lanes are in state `x`. -/
def tileLanes (x : Nat) : State :=
  { withPars (dev .tile) ((List.range 32).map fun n => (P.LANE_STATE, n, x)) with lane := { portW := 31, portE := 0 } }

theorem test_hyp_LaneBringUp :
    (∀ x ∈ [L.SIGNAL, L.CDR, L.ALIGN, L.ADAPT, L.UP], (tileLanes x).laneState 31 = x) ∧
    (tileLanes 1).quadOut 7 = false ∧ (tileLanes 1).laneUse 31 / 16 ≠ 4 ∧ (tileLanes 1).clusterOut .front 7 = false ∧
    (let s := { tileLanes L.UP with now := 1, lane := { lanes := [(31, { enteredAt := 2 })] } };
      s.laneUp 31 = true ∧ s.enteredNow 31 = true) ∧
    (∀ n ∈ [0, 1, 2, 3], let s := { tileLanes L.UP with lane := { lanes := [(31, { losses := List.replicate n 0 })] } };
      s.laneState 31 = L.UP ∧ ((s.laneOf 31).losses.filter fun x => decide (s.now < x + sec)).length = n) ∧
    (∀ u ∈ [1, 4, 15], let s := { withPars (dev .head) [(P.LANE_USE, 31, 16 * u)] with lane := { hold := [31] } };
      31 ∈ s.lane.hold ∧ s.laneState 31 = L.OFF ∧ s.laneUse 31 / 16 = u) ∧
    (let s := { tileLanes L.UP with lane := { pllLost := [7] } }; 7 ∈ s.lane.pllLost ∧ 6 ∉ s.lane.pllLost) ∧
    (let s := tileLanes L.CDR; s.isHead = false ∧ s.lane.adopted = false ∧ s.lane.portW = 31 ∧ s.lane.portE = 0) := by
  decide

theorem test_hyp_LaneUpkeep :
    (∀ x ∈ [L.SIGNAL, L.UP], let s := tileLanes x; s.laneState 31 ≠ L.OFF ∧ s.laneState 31 ≠ L.DP ∧
      s.laneState 31 ≠ L.RAW ∧ s.laneUse 31 / 16 ≠ 4 ∧ { s with now := 2 ^ 20 }.skipDue 31 = true) ∧
    (∀ x ∈ [L.ADAPT, L.UP], (tileLanes x).decoding 31 = true) ∧
    (∀ m ∈ [0, 1], let s := withPars (tileLanes L.UP) [(P.ADAPT_MODE, 31, m)];
      s.laneState 31 = L.UP ∧ s.adaptMode 31 = m ∧ s.lane.trimAt ≠ s.now + 1) ∧
    (let s := { tileLanes L.UP with lane := { trimAt := 1 } }; s.lane.trimAt = s.now + 1) ∧
    (let s := withPars (tileLanes L.RAW) [(P.PRBS_GEN, 31, 1)]; s.par P.PRBS_GEN 31 % 8 ≠ 0 ∧ bit (s.par P.PRBS_GEN 31) 3 = false ∧
      s.laneState 31 = L.RAW) ∧
    (let s := tileLanes L.UP; s.eyeOpen 31 = true ∧ s.lane.scanLane ≠ some 31) ∧
    (∀ n ∈ [8190, 8191], let s := { tileLanes L.UP with lane := { scanLane := some 31, scanPoints := n } };
      s.lane.scanLane = some 31 ∧ s.eyeOpen 31 = true ∧ s.bgPaused Bg.EYE_SCAN = false ∧ s.lane.scanPoints = n) ∧
    (let s := { withPars (tileLanes L.UP) [(P.PRBS_GEN, 31, 9), (P.PRBS_CHK, 31, 9), (P.PRBS_LOCK, 31, 1)] with
        lane := { lanes := [(31, { chk := { seq := 255 } })] } };
      s.par P.PRBS_GEN 31 % 8 ≠ 0 ∧ bit (s.par P.PRBS_GEN 31) 3 = true ∧ s.laneUp 31 = true ∧ s.par P.PRBS_CHK 31 % 8 ≠ 0 ∧
        bit (s.par P.PRBS_CHK 31) 3 = true ∧ s.par P.PRBS_LOCK 31 = 1 ∧ 0 = ((s.laneOf 31).chk.seq + 1) % 256) := by
  decide

/-- A head whose receiver 3 is enabled and has the fields of `d`. -/
def dpOn (d : DpRx) : State :=
  { withPars (dev .head) [(P.DP_ENABLE, 3, 1)] with start := { role := .head, ready := 2 ^ B.INPUTS }, lane := { dp := [(3, d)] } }

theorem test_hyp_DisplayPortReceivers :
    (let s := dpOn { train := 4, dpcd := [(0x100, 6), (0x101, 4), (0x202, 0x77), (0x203, 0x77), (0x204, 1)] };
      s.hpdEnabled 3 = true ∧ (s.dpOf 3).cycling = false ∧ (s.dpOf 3).pulse = false ∧ (s.dpOf 3).train = 4 ∧ s.trainable 3 = true ∧
        s.dpcd 3 0x202 = 0x77 ∧ s.dpcd 3 0x203 = 0x77 ∧ s.dpcd 3 0x204 % 2 = 1) ∧
    (∀ x ∈ [5, 6], ((dpOn { train := x }).dpOf 3).train = x) ∧
    (tileLanes L.DP).laneState 31 = L.DP ∧ symbolInvalid true 0 false = true ∧ symbolInvalid false 0x3FF true = true ∧
    (∀ o ∈ [0, 255], ∀ pos ∈ [false, true], symbolInvalid pos (encodeData pos o).1 false = false) ∧
    (∀ n ∈ [2, 3], let s := { tileLanes L.UP with lane := { lanes := [(31, { invalid := List.replicate n 0 })] } };
      s.decoding 31 = true ∧ s.laneUp 31 = true ∧
        ((s.laneOf 31).invalid.filter fun p => decide ((s.laneOf 31).symbols + 1 < p + 64)).length = n) := by
  decide +kernel
/-- A tile on a chain with the fields `c`, its lanes UP. -/
def onChain (c : PartChain) : State := { tileLanes L.UP with chain := c }
/-- A head whose chain 15 runs on lane 31, which is UP. -/
def headChain : State := withPars (dev .head) [(P.LANE_USE, 31, 0x1F), (P.LANE_STATE, 31, L.UP), (P.PARTNER_ID, 0, 2)]

theorem test_hyp_LinkManagementPackets :
    (let s := onChain { links := [(1, { echo := some (65535, 0), up := some (0, 0, 0) })] };
      s.chainUp 1 = true ∧ s.linkQuiet 1 = false ∧ (s.linkOf 1).echo = some (65535, 0) ∧ (s.linkOf 1).measured = false ∧
        s.isTile = true ∧ (s.linkOf 1).stale = false) ∧
    (let s := onChain { links := [(1, { measured := true, d := 65536, known := true })] };
      (s.linkOf 1).measured = true ∧ within1ns 65536 (s.linkOf 1).d = true ∧ (s.linkOf 1).known = true) ∧
    (headChain.chainUp 15 = true ∧ headChain.isHead = true ∧ headChain.linkQuiet 15 = false ∧ (headChain.linkOf 15).stale = false ∧
      (dev .tile).isHead = false) ∧
    (let s := { onChain {} with time := { stepped := true, counter := tickUnits (dev .tile).rate 1 - 1 } };
      s.chainUp 1 = true ∧ s.linkQuiet 1 = true) ∧
    (bit (0x7FFFFFFFFFFFFFFF : BitVec 64).toNat 63 = false ∧ (0x7FFFFFFFFFFFFFFF : BitVec 64).toNat % 2 ^ 40 ≠ 0 ∧
      bit (0x8000000000000001 : BitVec 64).toNat 63 = true ∧ (0x10000000000 : BitVec 64).toNat % 2 ^ 40 = 0) := by
  decide

/-- A whole region packet of 16 bytes for frame 0 and device 0xFFF, its CRC not yet filled in. -/
def packet0 : VideoPacket :=
  { prefixed := true
    head := { dest := 0xFFF, src := 1, epoch := 0, tick := 0, offset := 0, index := 0, count := 1, last := false
              incomplete := false, repeated := false, format := 0, gap := 0 }
    payload := List.replicate 3 7, signature := 0, crc := 0, poison := false }
/-- The packet with its CRC. -/
def packet1 : VideoPacket := { packet0 with crc := BitVec.ofNat 32 (crc32 (videoCovered packet0)) }
/-- The header of a good control packet of a tile to every device. -/
def ctrl (fromTile : Bool) (dest src epoch : Nat) : ControlHead :=
  { dest := BitVec.ofNat 16 dest, src := BitVec.ofNat 16 src, epoch := BitVec.ofNat 32 epoch, tick := 0, pos := 0
    positional := false, fromTile := fromTile, length := 12, received := 12, crcOk := true }

theorem test_hyp_ChainTraffic :
    (let s := withPars { tileLanes L.UP with time := { tick := 1 } } [(P.TILE_REGION, 0, 1 + 65536), (P.EPOCH, 0, 1), (P.DEVICE_ID, 0, 7)];
      s.chainUp 1 = true ∧ s.isHead = false ∧ videoOk packet0 = false ∧ videoOk packet1 = true ∧ s.isTile = true ∧
        s.destMatch 0xFFF = true ∧ nearTick s.time.tick 0 = 0 ∧ s.late 0 = false ∧ 0 < s.time.tick ∧ s.mismatch 0 packet1.head = false ∧
        contradicts ((s.chain.copies.find? fun c => c.tick == 0 && c.port == 1).getD (s.newCopy 1 0 packet1))
          (regionBytes 0 (s.boundRegion 0).2.1 (s.boundRegion 0).2.2) packet1 = false ∧
        (ctrl false 0xFFF 1 0).epoch.toNat < s.par P.EPOCH ∧ s.par P.EPOCH ≤ (ctrl false 0xFFF 1 1).epoch.toNat) ∧
    (let s := { headChain with red := { rings := [3] }, time := {} };
      s.chainUp 15 = true ∧ packet1.head.src.toNat % 4096 ≠ s.par P.PARTNER_ID ∧ s.destMatch 2 = false ∧
        s.partnerPath = some 3 ∧ s.linkQuiet 3 = false ∧ (ctrl true 2 1 0).dest.toNat % 4096 = s.par P.PARTNER_ID ∧
        (ctrl true 2 1 0).src.toNat % 4096 ≠ s.par P.PARTNER_ID) ∧
    (let s := onChain { links := [(1, { measured := true, up := some (0, 0, 0) })] };
      let m : Marker := { tick := 0, time := 0, phase := 0, rate := BitVec.ofNat 4 s.time.tileRate, crcOk := true, arrival := 0 };
      s.latValid 1 = true ∧ 1 ∉ s.chain.missed ∧ 1 ∉ s.chain.got ∧ m.rate.toNat = s.time.tileRate ∧ s.markerLate 1 m = false) ∧
    (let k : OwnPkt := { dest := 3, size := 9, positional := false, out := .pushPull 0 1 0 };
      ∀ g ∈ [false, true], let s := onChain { stretch := [(1, some { left := 10, grant := g })], own := [k], headPort := [(3, 1)] };
      SMap.get none s.chain.stretch 1 = some { left := 10, grant := g } ∧ s.relayWaits 0 = false ∧ s.chain.own = [k] ∧
        k.size + 1 ≤ 10 ∧ s.ownPort k = some (1 - 1) ∧ s.chain.backlog = []) := by
  decide +kernel

/-- A raise of event 80 by Front, of severity `sev`. -/
def raise0 (sev : Nat) : Raise :=
  { ev := 80, sev := sev, region := 3, cluster := 0, index := 0xFFFF, detail := 0, time := 10 ^ 9 - 1, tick := 0 }

theorem test_hyp_EventService :
    (let s := { st { powered with lowWater := true, released := [(0, true)] } with ev := { collectors := [(3, [raise0 2])] } };
      s.start.lowWater = true ∧ s.isReleased .control = true ∧ SMap.get [] s.ev.collectors Region.front.num = [raise0 2] ∧
        s.wroteNow = false ∧ SMap.get none s.ev.lastOf (80 * 65536 + 0xFFFF) = none ∧ s.ev.queue.length < 256 ∧ (raise0 2).ev ≠ E.DELIVERY_LOST) ∧
    (let y : EvRec := { seq := 5, repeats := 254, body := { raise0 2 with time := 0 } };
      let s := { st powered with ev := { lastOf := [(80 * 65536 + 0xFFFF, some 5)], head := [(5, some y)] } };
      SMap.get none s.ev.lastOf (80 * 65536 + 0xFFFF) = some 5 ∧ s.recOf 5 = some y ∧ y.body.ev = 80 ∧
        (raise0 2).time < y.body.time + 10 ^ 9 ∧ y.repeats < 255) ∧
    (let s := { st powered with
        od := { holder := some (.chain 1) }
        ev := { queue := [{ seq := 5, repeats := 0, body := raise0 1 }], sent := [{ seq := 9, recs := [4], sentAt := 0 }] } };
      s.od.holder = some (.chain 1) ∧ s.unsent ≠ [] ∧ s.eventsWait (.chain 1) = false ∧
        (s.ev.sent.find? fun (m : EvMsg) => m.seq == 9) = some { seq := 9, recs := [4], sentAt := 0 } ∧
        s.controlNow < 0 + controlSec / 2 ∧ 0 + controlSec / 2 ≤ { s with now := sec / 2 }.controlNow) := by
  decide
/-- A head with the time fields `c` and the scalar elements `l`. -/
def headTime (c : PartTime) (l : List (Nat × Nat × Nat)) : State := { withPars (dev .head) ((P.PTP_DOMAIN, 0, 0) :: (P.TIME_SOURCE, 0, 0) :: l) with time := c }
/-- A PTP message of the grandmaster port 7 in the device's domain. -/
def ptp0 (scope two : Bool) : PtpMsg :=
  { inScope := scope, domain := 0, seq := 65535, sender := 7, twoStep := two, origin := 0, correction := 0, arrival := 1 }
/-- The master that sends `ptp0`. -/
def master0 : Foreign :=
  { priority1 := 0, clockClass := 6, accuracy := 0, variance := 0, priority2 := 0, identity := 0, steps := 0, sender := 7 }

theorem test_hyp_ServoSamples :
    ((headTime {} [(P.TIME_SOURCE, 0, 1)]).par P.TIME_SOURCE = 1 ∧ (headTime {} [(P.TIME_SOURCE, 0, 1)]).refOver = false) ∧
    (∀ x ∈ [1, 2], (headTime { servo := x } []).time.servo ≠ 0 ∧ (headTime { servo := x } []).time.servo ≠ 3) ∧
    (ptp0 false false).inScope = false ∧
    (let s := headTime { master := some master0, path := some 0, sync := some (65535, 0), delayReq := some (65535, some 1)
                         lastSync := some (0, 1) } [];
      s.isHead = true ∧ (ptp0 true true).domain = s.par P.PTP_DOMAIN ∧ s.fromMaster (ptp0 true false) = true ∧
        (ptp0 true true).twoStep = true ∧ (ptp0 true false).twoStep = false ∧ s.time.path = some 0 ∧ s.par P.TIME_SOURCE = 0 ∧
        s.time.sync = some ((ptp0 true true).seq, 0) ∧ s.time.delayReq = some ((ptp0 true true).seq, some 1) ∧
        s.time.lastSync = some (0, 1)) := by
  decide

theorem test_hyp_PtpMessagesAndPulses :
    (∀ x ∈ [6, 8, 9], let s := headTime { master := none, eligible := x == 6 } [(P.PTP_PORT_STATE, 0, x)];
      s.isHead = true ∧ s.par P.PTP_PORT_STATE = x ∧ s.time.master = none ∧ s.time.eligible = (x == 6) ∧
        (ptp0 true false).domain = s.par P.PTP_DOMAIN) ∧
    (let e : TsqEntry := { tag := 1, port := 0, time := 0, at_ := 0 };
      let s := { headTime { tsq := [e] } [] with now := 2 * ms - 1 }; s.time.tsq = e :: [] ∧ s.now < e.at_ + 2 * ms) ∧
    (let r : ForeignRec := { set := master0, last := 0 };
      let s := { headTime { foreigns := [r] } [] with now := 4 * (headTime {} []).announceCycles };
      s.time.master = none ∧ s.time.eligible = false ∧ s.time.foreigns = [r] ∧ r.set.sender = (ptp0 true false).sender ∧
        s.now ≤ r.last + 4 * s.announceCycles) ∧
    (let s := headTime { foreigns := [{ set := master0, last := 0 }], master := some master0 } [];
      ∀ r ∈ s.time.foreigns, ∃ f ∈ s.time.master, r.set.sender = f.sender) ∧
    (let s := headTime { tpo := [(7, { active := true, until_ := 5 })], counter := 5 } [];
      (s.tpoOf 7).active = true ∧ (s.tpoOf 7).until_ ≤ s.time.counter) ∧
    (∀ m ∈ [1, 3], let s := headTime { tpo := [(7, { armed := true })], counter := 10 ^ 9 * nsUnit } [(P.TPO_MODE, 7, m), (P.TPO_START, 7, 2 ^ 48), (P.TPO_PERIOD, 7, 1)];
      (s.tpoOf 7).active = false ∧ (s.tpoOf 7).armed = true ∧ s.tpoMode 7 = m ∧
        ∃ e ∈ s.tpoNext 7, e ≤ s.time.counter) := by
  decide

theorem test_hyp_ServoLaw :
    (let s := headTime { servo := 1, near := 15 } [(P.LOCK_THRESHOLD, 0, 1)]; s.time.servo = 1 ∧ 15 ≤ s.time.near ∧
      (65536 : Int) ≤ s.par P.LOCK_THRESHOLD * 2 ^ 16 ∧ (s.par P.LOCK_THRESHOLD * 2 ^ 16 : Int) < 65537) ∧
    (let s := headTime { servo := 2, far := 3 } [(P.LOCK_THRESHOLD, 0, 1)]; s.time.servo = 2 ∧ 3 ≤ s.time.far ∧
      8 * (s.par P.LOCK_THRESHOLD * 2 ^ 16 : Int) < 8 * 65536 + 1) := by
  decide
/-- A head that emits, with the fixture fields `c`. -/
def emits (c : PartFix) : State :=
  { dev .head with start := { role := .head, ready := 2 ^ B.FIXTURE }, red := { fixtures := true }, fix := c }

theorem test_hyp_FixtureAndDmxOutputs :
    (emits { sampling := some 5 }).fix.sampling = some 5 ∧
    (∀ tie ∈ [false, true], let s := { emits { sampling := some 5, doneAt := some 3, fresh := some { frame := 5, slots := [] } } with now := 4 };
      s.fix.sampling = some 5 ∧ s.fix.doneAt = some 3 ∧ s.onTime tie 3 = true ∧ 5 ∉ s.scan.missed ∧ s.fix.fresh ≠ none) ∧
    (let s := emits { frames := [{ frame := 5, slots := [] }] }; s.fixEmits = true ∧ s.hasFrame 5 = true ∧
      s.fix.started ≠ some 5) ∧
    (let s := emits { dmx := [(15, { sending := some 5 })] }; (s.dmxOf 15).sending ≠ none) ∧
    (let s := { emits { dmx := [(15, { requests := [([], 0)] })] } with now := 1000000 };
      (s.dmxOf 15).requests = [([], 0)] ∧ s.fixEmits = true ∧ s.rdmRoom 15 = true ∧ s.rdmNs 15 [] ≤ 4 * (s.now - 0) ∧ (s.dmxOf 15).sending = none ∧ (s.dmxOf 15).awaiting = 0) ∧
    ((emits { dmx := [(15, { awaiting := 1 })] }).dmxOf 15).awaiting ≠ 0 ∧
    (∀ start ∈ [rdmWait - 1, rdmWait], start + 1 < 1 + rdmWait ∨ 1 + rdmWait ≤ start + 1) ∧
    (emits { sampling := some 5 }).fix.doneAt = none := by
  decide

/-- A head with the Ethernet fields `c`, its link UP at 1,000 Mb/s in full duplex with EEE. -/
def ethOn (c : PartEth) : State :=
  { withPars (dev .head) [(P.LINK_STATUS, 0, 1 + 4 + 8 + 32), (P.PAUSE_CAP, 0, 1), (P.EEE_MODE, 0, 1), (P.DOWNSHIFT_EN, 0, 1),
      (P.IP_MODE, 0, 1), (P.DARK_SERVICE, 0, 1), (P.T1S_ENABLE, 0, 255), (P.PLCA_CONFIG, 7, 2 ^ 63)] with eth := c }

theorem test_hyp_EthernetLink :
    (let s := ethOn {}; s.par P.IP_MODE = 1 ∧ s.eth.linkLocal = false ∧ s.eth.candidate = none ∧ s.par P.IPV4_IN_USE = 0 ∧
      s.mayDownshift = true ∧ s.downshifted = false ∧ s.eth.lpi = none ∧ s.eth.twRefused = false ∧
      bit (s.par P.LINK_STATUS) 5 = true ∧ s.par P.EEE_MODE = 1 ∧ (s.mac 0).queue = [] ∧ s.linkUp = true) ∧
    (let s := { ethOn { candidate := some (0xA9FE0100, 2), mdioBad := 2, half := true, lpi := some 0 } with
        start := { role := .head, lowWater := true } };
      s.eth.candidate = some (0xA9FE0100, 2) ∧ s.start.lowWater = true ∧ s.eth.mdioBad = 2 ∧ s.eth.mdioFail = false ∧
        s.eth.half = true ∧ s.eth.lpi = some 0) := by
  decide

/-- A frame received for every station, of `n` bytes. -/
def rx (n : Nat) (ok : Bool) : RxFrame :=
  { length := n, fcsOk := ok, symbolError := false, dest := 0xFFFFFFFFFFFF, vid := none, body := .plain }

theorem test_hyp_EthernetFrames :
    (∀ p ∈ [0, 8], let s := ethOn { macs := [(p, { queue := [{ kind := .ptp 0 1 2 }] })] };
      (s.mac p).queue = [{ kind := .ptp 0 1 2 }] ∧ s.silent (.ptp 0 1 2) = false ∧ s.macOpen p = true ∧ s.eth.pause = none ∧
        (s.mac p).backoff = none ∧ s.txStep p ≠ 8) ∧
    (ethOn { pause := some (0, 1) }).eth.pause ≠ none ∧
    (∀ n ∈ [63, 64, 1522], ∀ ok ∈ [false, true], let s := ethOn {};
      s.linkUp = true ∧ (rx n ok).symbolError = false ∧ ((rx n ok).length < 64 ∨ 64 ≤ (rx n ok).length ∧ (rx n ok).length ≤ 1522) ∧
        (rx n ok).fcsOk = ok ∧ s.macTakes 0 (rx n ok) = true ∧ (s.mac 0).held + (rx n ok).length ≤ 65536) ∧
    (ethOn {}).par P.PAUSE_CAP ≠ 0 ∧
    (∀ a ∈ [14, 15], let s := ethOn { macs := [(8, { queue := [{ kind := .lldp }], attempts := a })] };
      s.segOn 7 = true ∧ (s.mac 8).queue ≠ [] ∧ s.plcaUp 7 = false ∧ (s.mac 8).attempts = a ∧
        bit (s.par P.PLCA_CONFIG 7) 63 = true ∧ s.plcaUp 7 ≠ true) ∧
    (withPars (ethOn {}) [(P.T1S_STATUS, 7, 2)]).plcaUp 7 = true := by
  decide
/-- A head whose DRAM is ready, with the DRAM fields `c`. -/
def dramOn (c : PartDram) : State := { withPars (dev .head) [(P.DRAM_STATE, 0, 2)] with dram := c }
/-- A request of requester 23 that waits since cycle 0. -/
def req (write : Bool) (addr rank : Nat) : DramReq := { requester := 23, write := write, addr := addr, rank := rank, part := 0, at_ := 0 }

theorem test_hyp_DramBeyondTheDie :
    (dramOn {}).dramRuns = true ∧ (dramOn {}).dram.standby = false ∧ (dramOn {}).dieBytes ≤ 2 ^ 33 ∧
    (dramOn {}).mayRaise E.DRAM_ADDRESS_FAULT 23 sec = true ∧
    ({ dramOn {} with ev := { limits := [(E.DRAM_ADDRESS_FAULT * 65536 + 23, 1)] } } : State).mayRaise E.DRAM_ADDRESS_FAULT 23 sec = false ∧
    (let s := dramOn { flying := [(orderKey 23 15, [req false (2 ^ 33) 1])] };
      takeFirst false (SMap.get [] s.dram.flying (orderKey 23 15)) = some (req false (2 ^ 33) 1, [])) := by
  decide

theorem test_hyp_DramQueues :
    (let s := dramOn { banks := [(0, { queue := List.replicate 15 (req true 0 1) })] };
      s.dramRuns = true ∧ 0 < s.dieBytes ∧ 2 ^ 33 - 1 < s.dieBytes ∧ SMap.get [] s.dram.stalled 23 = [] ∧
        dramChan 0 = 0 ∧ dramBank 0 = 0 ∧ (s.dBank 0 0).queue.length < 16) ∧
    (let s := dramOn { banks := [(0, { queue := List.replicate 16 (req true 0 1) })], stalled := [(22, [req true 0 1])] };
      16 ≤ (s.dBank 0 0).queue.length ∧ SMap.get [] s.dram.stalled 22 ≠ []) ∧
    (∀ w ∈ [false, true], ∀ part ∈ [0, 15], let s := dramOn { flying := [(orderKey 21 part, [req w (2 ^ 33 - 1) 1])] };
      takeFirst w (SMap.get [] s.dram.flying (orderKey 21 part)) = some (req w (2 ^ 33 - 1) 1, []) ∧ burstOf (2 ^ 33 - 1) ∉ s.dram.poisoned) := by
  decide

theorem test_hyp_DramCommandSlots :
    (∀ d ∈ [(-7 : Int), 8], let s := dramOn { chans := [(15, { debt := d })] };
      s.dramRuns = true ∧ (s.dChan 15).selfRefresh = false ∧
        (8 ≤ (s.dChan 15).debt ∨ (∀ b, b < 16 → (s.dBank 15 b).victims = []) ∧ -8 < (s.dChan 15).debt)) ∧
    (let s := dramOn { chans := [(15, { debt := 7 })], banks := [(255, { victims := [1] })] };
      (s.dChan 15).debt < 8 ∧ (s.dBank 15 15).victims ≠ [] ∧ ∀ b, b < 15 → (s.dBank 15 b).victims = []) ∧
    (∀ r ∈ [none, some 0, some 1], let s := dramOn { banks := [(255, { queue := [req true 0 1], row := r })] };
      (s.dChan 15).debt ≤ 0 ∧ (∀ b, b < 16 → (s.dBank 15 b).victims = []) ∧ (s.dBank 15 15).queue = req true 0 1 :: [] ∧
        s.unpaused (s.dBank 15 15) = true ∧ (s.dBank 15 15).row = r ∧ dramRow 0 = 0) ∧
    ((dramOn { chans := [(15, { debt := 7 })] }).dChan 15).debt = 7 := by
  decide

theorem test_hyp_MemoryUpkeep :
    (withPars (dev .head) [(P.DRAM_STATE, 0, 1)]).par P.DRAM_STATE = 1 ∧
    (∀ c, c < 16 → bit (([] : List (BitVec 32)).getD c 0).toNat 31 = false) ∧
    (∃ c, c < 16 ∧ bit ((List.replicate 15 (0 : BitVec 32) ++ [0x80000000]).getD c 0).toNat 31 = true) ∧
    (let s := { withPars (dev .head) [(P.DRAM_STATE, 0, 2), (P.STANDBY_EN, 0, 1)] with start := { role := .head, lowWater := true, stopped := true, resetting := none } };
      s.par P.DRAM_STATE = 2 ∧ s.par P.STANDBY_EN = 1 ∧ s.startStage = 1) ∧
    (let s := dramOn { standby := true }; s.dram.standby = true ∧ (s.dChan 15).selfRefresh = false ∧ s.chanIdle 15 = true) ∧
    (∀ b ∈ [0, 38], (dramOn {}).cisternOwner b ≠ 0) ∧ (dramOn {}).bgPaused Bg.CISTERN_SCRUB = false ∧
    (let s := dramOn { cisternBad := [0], cisternCe := [(0, 2)] }; 1 ∉ s.dram.cisternBad ∧ SMap.get 0 s.dram.cisternCe 0 = 2) := by
  decide

theorem test_hyp_ThermalStagesAndTrims :
    (∀ n ∈ [0, 1, 2, 3], let s := withPars (st powered) [(P.THERMAL_STAGE, 0, n)];
      s.start.por = false ∧ s.start.tripped = false ∧ s.stage = n) ∧
    (∀ n ∈ [1, 2], let s := { st powered with therm := { invalid := n } }; s.therm.invalid = n ∧ s.therm.sensorFault = false) ∧
    (let s := { st powered with therm := { fused := [(3, {})] } };
      (s.therm.fused.map Prod.fst).count 3 = 1 ∧ (s.therm.fused.map Prod.fst).count 4 = 0) := by
  decide

/-- A tile with FW, the pump fields `c` and loop 15 in the configuration and with the period 1. -/
def pumpOn (c : PartPump) (l : List (Nat × Nat × Nat)) : State :=
  { withPars (dev .tile) ([(P.AIN_CONFIG, 7, 2 ^ 15), (P.TACH_STALL, 1, 1), (P.LOOP_PERIOD, 15, 1)] ++ l) with
    start := { role := .tile, ready := 2 ^ B.FW }, pump := c }

theorem test_hyp_PumpInputsAndStep :
    (let s := pumpOn { ains := [(7, { rail := 63 })], tachs := [(1, { edge := 5 })], duty := [(9, 1)] } [];
      let s := { s with now := 5 };
      4 < s.now ∧ s.isTile = true ∧ s.rdy B.FW = true ∧ s.ainOn 7 = true ∧ 63 ≤ (s.ainOf 7).rail ∧ (s.ainOf 7).told = false ∧
        (s.tachOf 1).edge = 4 + 1 ∧ (s.tachOf 0).edge = 0 ∧ s.par P.TACH_RPM 1 < s.par P.TACH_STALL 1 ∧
        0 < SMap.get 0 s.pump.duty (8 + 1) ∧ (s.tachOf 1).told = false) ∧
    (∀ m ∈ [1, 2, 3], ∀ w ∈ [false, true], ∀ i ∈ [0, 8],
      let s := { pumpOn { running := true, loops := [(15, { mode := m, waiting := w })], ains := [(7, { at_ := 1, codes := [5] })] }
          [(P.LOOP_CONFIG, 15, i), (P.OUT_LIMITS, 15, 32767 * 2 ^ 16)] with now := 1 };
      s.pump.running = true ∧ (s.loopOf 15).mode = m ∧ (s.pump.slot + 15) % s.par P.LOOP_PERIOD 15 = 0 ∧
        (s.loopOf 15).waiting = w ∧ (∀ k, k < 15 → (s.loopOf k).mode = 0 ∧ (s.loopOf k).waiting = false) ∧
        s.isSecond = false ∧ s.loopIn 15 = i ∧ (i ≠ 0 → (s.loopInput 15).1 ≠ none) ∧ field (s.par P.OSC_CONFIG 15) 24 2 = 0 ∧
        s.par P.OUT_SLEW 15 = 0 ∧
        field (s.par P.OUT_LIMITS 15) 0 16 ≤ field (s.par P.OUT_LIMITS 15) 16 16) := by
  decide
/-- A head with ingress channel 15 on lane 31 and surface 15 of 4 by 1 pixels and three buffers, and the source fields `c`. -/
def ingress (c : PartSrc) (l : List (Nat × Nat × Nat)) : State :=
  { withPars (dev .head) ([(P.LANE_USE, 31, 0x2F), (P.LANE_STATE, 31, L.UP), (P.INGRESS_SURFACE, 15, 15), (P.INGRESS_SOURCE, 15, 0xFFF),
      (P.DEVICE_ID, 0, 0xFFF), (P.SURFACE_GEOMETRY, 15, 4 + 2 ^ 16 + 3 * 2 ^ 36)] ++ l) with src := c }

/-- A fence packet of fill `f`, its CRC not yet filled in, and with it. -/
def fence0 : VideoPacket := { packet0 with head := { packet0.head with count := 0 }, payload := [] }
def fence1 : VideoPacket := { fence0 with crc := BitVec.ofNat 32 (crc32 (videoCovered fence0)) }
/-- The part of fill 0 of one packet that has come, or is still to come. -/
def part0 (come : Bool) : FillPart := { fill := 0, count := 1, indices := if come then [0] else [] }

theorem test_hyp_SurfaceFills_and_FillNumbers :
    (∀ ps ∈ [[], [part0 false], [{ part0 true with fill := 2 ^ 48 - 1, fenced := true }]],
      let s := ingress { chans := [(15, { parts := ps })] } [];
      s.ingressUp 15 = true ∧ s.par P.INGRESS_SURFACE 15 = 15 ∧ s.ingressBad 15 packet1 = false ∧ s.ingressBad 15 packet0 = true ∧
        isFence packet1 = false ∧ packet1.head.tick.toNat = 0 ∧ (∀ p ∈ (s.chanOf 15).part 0, p.fenced = false) ∧
        s.bufState (srcKey 2 15) (s.fillBuf (srcKey 2 15) 0) < 2 ∧ s.isDamaged 15 0 = false ∧
        (((s.chanOf 15).part 0).isSome = true ∨
          ∀ p ∈ (s.chanOf 15).parts, newer (2 ^ 48) 0 p.fill = true → p.fenced = true)) := by
  decide +kernel

theorem test_hyp_SurfaceFills_fences :
    (let p := { part0 false with fill := 2 ^ 48 - 1 }; let s := ingress { chans := [(15, { parts := [p] })] } [];
      (s.chanOf 15).parts = [p] ∧ newer (2 ^ 48) 0 p.fill = true ∧ p.fenced = false ∧ s.isDamaged 15 p.fill = false ∧
        (s.chanOf 15).part 0 = none) ∧
    (∀ c ∈ [false, true], let s := ingress { chans := [(15, { parts := [part0 c] })] } [];
      s.ingressBad 15 fence1 = false ∧ isFence fence1 = true ∧ fence1.head.tick.toNat = 0 ∧ s.isDamaged 15 0 = false ∧
        s.fenceOf 15 = none ∧ (s.chanOf 15).part 0 = some (part0 c) ∧ (part0 c).fenced = false ∧ (part0 c).whole = c) ∧
    (let s := ingress {} [(P.SURFACE_FENCE, 15, 2 ^ 63)]; s.fenceOf 15 = some 0 ∧ newer (2 ^ 48) 0 0 = false ∧
      (s.chanOf 15).part 0 = none) ∧
    ({ dev .head with src := { damaged := [(15, [0])] } } : State).isDamaged 15 0 = true ∧
    (let s := ingress { chans := [(15, { complete := some 0, writing := [0] })] } [(P.SURFACE_FENCE, 15, 2 ^ 63 + 2 ^ 48 - 1)];
      (s.chanOf 15).writing = 0 :: [] ∧ s.par P.INGRESS_SURFACE 15 = 15 ∧ s.fenceOf 15 = some (2 ^ 48 - 1) ∧
        newer (2 ^ 48) 0 (2 ^ 48 - 1) = true ∧ s.isDamaged 15 0 = false ∧ s.geometry (srcKey 2 15) ≠ 0 ∧
        ∀ d, d < 16 → s.par P.INGRESS_SURFACE d = 15 → (s.chanOf d).complete = some 0 ∧ d = 15) := by
  decide +kernel

theorem test_hyp_DisplayPortFramesAndFlipSets :
    (∀ n ∈ [3, 4], let s := { withPars (dpOn { train := 6, delivered := true, format := { width := 1, height := 1, bits := 8 } })
        [(P.DP_BUFFER, 3, n)] with src := {} };
      (s.dpOf 3).train = 6 ∧ (s.dpOf 3).delivered = true ∧ SMap.get 0 s.src.dpStart 3 = 0 ∧ s.dpBuffer (srcKey 1 3) = some 0 ∧
        (s.par P.DP_BUFFER 3 < 4 ∨ 4 ≤ s.par P.DP_BUFFER 3) ∧ (s.dpOf 3).format.width * (s.dpOf 3).format.height * fmtBytes 1 = 4) ∧
    (∀ bad ∈ [[], [3]], let s := { dpOn {} with src := { dpFill := [(3, 3)], dpBad := bad } };
      SMap.get 0 s.src.dpFill 3 = 2 + 1 ∧ s.src.dpBad = bad) ∧
    (∀ r ∈ [0, 1], ∀ x ∈ [SL.SINGLE, SL.STANDBY], ∀ n ∈ [49999, 50000],
      let s := { ingress { setDue := 8, bufs := [(bufKey 47 0, { st := 2, ident := 5 })] }
        [(P.SPAN_ROLE, 0, r), (P.SLUICE_STATE, 0, x), (P.REDUNDANCY_MODE, 0, 1), (P.LAYER_SOURCE, 15, 47)] with now := n };
      s.isHead = true ∧ s.src.setDue = 7 + 1 ∧ s.par P.SPAN_ROLE = r ∧ s.flipsWait = (x == SL.STANDBY || r == 1) ∧
        (s.src.setFrom + 50000 ≤ s.now ↔ n = 50000) ∧ buffered (s.par P.LAYER_SOURCE 15) = true ∧ s.matchBuf (s.par P.LAYER_SOURCE 15) 5 = some 0 ∧
        s.matchBuf (s.par P.LAYER_SOURCE 15) 6 = none) ∧
    (∀ n ∈ [0, 1, 2], let s := { withPars (dev .head) [(P.LAYER_POLDER, 0, 1), (P.LAYER_POLDER, 1, 1)] with comp := { building := n } };
      s.runLength ≠ 0 ∧ s.buildCause = n ∧ s.bgPaused Bg.POLDER = false) ∧
    ({ st { powered with role := .head, released := [(4, true)] } with
      dict := (withPars (dev .head) [(P.LAYER_POLDER, 0, 1), (P.LAYER_POLDER, 1, 1)]).dict } : State).buildCause = 3 := by
  decide

/-- A region of 1 by 1 pixel for every device. -/
def region0 : TileRegion := { number := 0, chain := 15, order := 0, dest := 0xFFF, x := 0, y := 0, width := 1, height := 1 }

/-- A streamer at work on frame 0 with `lv` bytes in its well, 17 ms into the time scale. -/
def streaming (lv : Nat) : State :=
  { headChain with
    now := 1
    time := { counter := 17000000 * nsUnit }
    scan := { streamers := [(15, { active := true, regions := [region0], content := some 0, level := lv
                                   endPoint := 20000000 * 65536 })] } }

theorem test_hyp_ScanOut :
    (∀ lv ∈ [14, 15, 32768], let s := streaming lv; let d := s.streamerOf 15;
      s.isHead = true ∧ d.rate = 8 ∧ d.active = true ∧ d.regions = region0 :: [] ∧ s.chainUp 15 = true ∧
        s.clusterOut .image 4 = false ∧ d.poisoned.contains region0.number = false ∧ d.content = some 0 ∧ d.nextLen = 15 ∧
        d.level = lv ∧ s.wellLacks d = (lv == 14) ∧
        packetSymbols d.nextLen (decide (d.packet + 1 = regionPackets d.format 1 1)) d.prefixed = 56) := by
  decide

/-- The packet falls due at 16,666,666⅔ ns, and DRY_LIMIT after it is over at 16,670,666⅔ ns. -/
theorem test_hyp_ScanOut_in_time (lv : Nat) :
    (let s := streaming lv; let d := s.streamerOf 15;
      dueAt d ≤ s.nowQ ∧ d.lastEnd ≤ ⌊s.nowQ * 65536⌋ ∧ s.fitsE 15 d 56 = true ∧ s.dryReached d = true) ∧
    (let s := { streaming lv with time := { counter := 16670665 * nsUnit } }; let d := s.streamerOf 15;
      dueAt d ≤ s.nowQ ∧ s.dryReached d = false ∧ s.fitsE 15 d 56 = true) := by
  have hq : headChain.phase = 0 := rfl
  have hn : (streaming lv).nowQ = 17000000 := by simp [State.nowQ, streaming, hq]
  have hm : State.nowQ { streaming lv with time := { counter := 16670665 * nsUnit } } = 16670665 := by
    simp [State.nowQ, streaming, hq]
  have hd : (streaming lv).streamerOf 15 = { active := true, regions := [region0], content := some 0, level := lv
                                             endPoint := 20000000 * 65536 } := rfl
  have he : State.streamerOf { streaming lv with time := { counter := 16670665 * nsUnit } } 15 =
    { active := true, regions := [region0], content := some 0, level := lv, endPoint := 20000000 * 65536 } := rfl
  have hl : (streaming lv).chainLane 15 = some 31 := rfl
  have hk : State.chainLane { streaming lv with time := { counter := 16670665 * nsUnit } } 15 = some 31 := rfl
  have hp : (streaming lv).par P.LANE_RATE 31 = 0 := rfl
  have hr : State.par { streaming lv with time := { counter := 16670665 * nsUnit } } P.LANE_RATE 31 = 0 := rfl
  refine ⟨⟨?_, ?_, ?_, ?_⟩, ?_, ?_, ?_⟩ <;>
    simp only [hd, he, hn, hm, dueAt, State.fitsE, State.dryReached, State.slotQ, imageCycle, Streamer.tickQ, State.symbolTime,
      periodQ, hl, hk, hp, hr, ratePeriod, symbolRate] <;>
    norm_num [Int.le_floor, Int.floor_lt, Int.lt_floor_iff]

theorem test_hyp_CanvasAndSpan :
    (∀ done ∈ [false, true], ∀ bad ∈ [false, true], ∀ tie ∈ [false, true],
      let s := { dev .head with comp := { canvases := [(1, { frame := 5, started := true, complete := done, doneAt := 0 })], poisoned := bad } };
      s.isHead = true ∧ (s.canvasOf 5).started = true ∧ (s.canvasOf 5).frame = 5 ∧ (s.canvasOf 5).complete = done ∧
        s.comp.poisoned = bad ∧ s.therm.composePauses = [] ∧ (∀ c ∈ List.range 4, s.clusterOut .image c = false) ∧ 5 ∉ s.scan.missed ∧
        inTime tie (s.canvasOf 5).doneAt s.imageNow = !tie) ∧
    (st { powered with quiesced := [32 * Region.image.num + 3] }).clusterOut .image 3 = true := by
  decide

theorem test_hyp_CanvasAndSpan_records :
    (∀ k ∈ [4, 5], let r : SpanRec := { tick := k, role := 1, done := true, rate := 8, digest := 0, hist := [], at_ := 0 };
      let s := { withPars (dev .head) [(P.SPAN_ROLE, 0, 1)] with scan := { own := some r, partner := some r } };
      s.par P.SPAN_ROLE ≠ 0 ∧ s.scan.own = some r ∧ s.scan.partner = some r ∧ r.tick = k) ∧
    (dev .head).scan.own = none ∧ (dev .head).scan.partner = none ∧
    (withPars (dev .head) [(P.REDUNDANCY_MODE, 0, 1)]).redMode = true := by
  decide

theorem test_hyp_TicksAndLatches :
    (∀ up ∈ [false, true], let s := { st { powered with released := [(2, up)] } with time := { strobed := 4 } };
      s.isReleased .time = up ∧ s.start.tripped = false ∧ s.time.strobed < 5 ∧ ¬ 5 ≤ s.time.strobed ∧ 4 ≤ s.time.strobed) ∧
    ({ dev .head with scan := { skip := 5 } } : State).scan.skip = 5 ∧
    (let p : PendTxn := { num := 65535, tick := 5, at_ := 0, writes := [] };
      let q : PendTxn := { num := 1, tick := 6, at_ := 0, writes := [] };
      let s := { st { powered with ready := 2 ^ B.TIME_LOCK } with od := { pending := [p, q] } };
      s.start.resetting = none ∧ s.start.latchHold = false ∧ s.rdy B.TIME_LOCK = true ∧ s.time.latched < 5 ∧
        s.upd.resetNow = false ∧ s.od.pending = [] ++ p :: [q] ∧ p.tick ≤ 5 ∧ p.writes = [] ∧ 5 < q.tick ∧
        ∀ x ∈ s.od.pending, 4 < x.tick) := by
  decide

/-- A copy of frame 5 on port E, complete since cycle 0. -/
def copy0 (x : Option Nat) : Copy :=
  { tick := 5, port := 1, prefixed := false, src := 1, epoch := 0, format := 0, count := 1, doneAt := some 0, written := x }
/-- A snapshot and a binding of frame 5. -/
def snap0 (x : Bool) : Snap := { frame := 5, zones := [], beta := 32768, gains := {}, masks := [], skip := x }
def bind0 : Bind := { frame := 5, dict := (withPars (lamps go) [(P.TILE_REGION, 0, 1 + 65536)]).dict, blobs := [] }
/-- A written buffer of that frame. -/
def back0 : Back := { frame := 5, port := 1, words := [], clipped := 0, sig := 0, prefixed := false, epoch := 0, src := 1, at_ := 0 }
/-- The tile that holds them, with quad 7's shift of frame 5 done or not. -/
def showing (w : Option Nat) (skip : Bool) (shifted : Nat) : State :=
  { withPars (lamps { go with shifted := shifted }) [(P.TILE_REGION, 0, 1 + 65536)] with
    start := { role := .tile, ready := 2 ^ B.CORRECTION + 2 ^ B.DRIVE }, now := 1, chain := { copies := [copy0 w] }
    tile := { binds := [bind0], snaps := [snap0 skip], backs := [back0], chosen := some (5, some 1) } }

theorem test_hyp_TileFrames :
    (∀ w ∈ [none, some 0], ∀ k ∈ [false, true], let s := showing w k 0;
      s.isTile = true ∧ s.unexpected 5 = false ∧ s.copyValid true s.red.eAcc (copy0 w) = true ∧ copy0 w ∈ s.copiesOf 5 ∧
        s.clusterOut .image 8 = false ∧ (s.copiesOf 5).find? (fun c => c.port == 1) = some (copy0 w) ∧ s.bindFor 5 = some bind0 ∧ s.snapFor 5 = some (snap0 k) ∧
        s.rdy B.CORRECTION = true ∧ (copy0 w).doneAt ≠ none) ∧
    (let s := showing none false 0; s.copiesOf 6 = [] ∧ s.hasRegion = true ∧ s.chain.cutDone ≤ 6) ∧
    (∀ n ∈ [0, 6], let s := showing (some 0) false n;
      s.rdy B.DRIVE = true ∧ s.tile.chosen = some (5, some 1) ∧ s.backFor 5 1 = some back0 ∧ s.onTime true back0.at_ = true ∧
        (s.unfitFrom 5).needsShift 5 = [7] ∧ 2 * 5 + 1 ∉ s.tile.corrMiss ∧ s.shiftDone 5 7 true = (n == 6)) := by
  decide

theorem test_hyp_WearAndStoredBanks :
    (lamps go).tile.targetsAt = none ∧
    (∀ g ∈ [false, true], let s := { lamps go with tile := { building := some (3, {}), gainReady := g, flush := some [(0, 1)] } };
      s.isTile = true ∧ s.rdy B.FW = true ∧ s.tile.building = some (3, {}) ∧ s.tile.gainReady = g ∧ s.tile.flush = some [(0, 1)]) ∧
    (lamps go).tile.flush = none ∧ (lamps go).bgPaused Bg.FLASH = false ∧ (lamps go).lastSlot = none ∧
    (let s := { lamps go with tile := { slots := [(11, some (9, []))] } }; s.lastSlot = some (11, 9, [])) ∧
    (∀ n ∈ [1, 2], let s := { lamps go with tile := { ledgerCmds := [n * 2 ^ 56], dtAt := some 0 } };
      s.tile.ledgerCmds = n * 2 ^ 56 :: [] ∧ s.tile.dtAt = some s.now ∧ field (n * 2 ^ 56) 56 8 = n) ∧
    (let s := { lamps go with store := { due := [bankKey 3 7] } }; s.store.due.contains (bankKey 3 7) = true ∧
      s.newestStored 3 7 = none) := by
  decide +kernel
/-- A paired tile of side B with sluice state `x` and the redundancy fields `c`. -/
def pairB (x : Nat) (c : PartRed) : State :=
  { withPars (st { powered with record := [0, 0x0E] ++ List.replicate 62 0 }) [(P.SLUICE_STATE, 0, x)] with red := c }

theorem test_hyp_SluiceAndPartnerWires :
    (∀ h ∈ [379, 380, 627, 628], ∀ l ∈ [1, 2, 3], let s := pairB SL.STANDBY { hbEdge := some 0, hbLast := l, hb := 3 };
      s.red.hbEdge ≠ none ∧ (s.red.hbLast = (if h < 380 then 1 else if h < 628 then 2 else 3) ∨
        s.red.hbLast ≠ (if h < 380 then 1 else if h < 628 then 2 else 3)) ∧ s.red.hb ≠ 0 ∧ s.redMode = true) ∧
    (pairB SL.STANDBY {}).red.hbEdge = none ∧
    (let s := pairB SL.CLAIM { window := true }; s.red.sluiceI ≠ true ∧ s.sluice = SL.CLAIM ∧ s.sideB = true ∧
      s.red.bySwitch = false ∧ s.isPairedTile = true ∧ s.red.window = true) ∧
    (let s := withPars { st { powered with role := .head, record := [0, 0x10] ++ List.replicate 62 0 } with red := { window := true } }
        [(P.SLUICE_STATE, 0, SL.CLAIM), (P.REDUNDANCY_MODE, 0, 1), (P.EPOCH_HIGHEST, 0, 2 ^ 32 - 5)];
      s.managerEn = true ∧
      s.sluice = SL.CLAIM ∧ s.red.window = true ∧ s.red.bySwitch = false ∧ s.isHead = true ∧ s.redMode = true ∧
        s.red.manager = false ∧ s.managerAbove = false ∧ s.par P.FORCE_STANDBY ≠ 1 ∧ s.par P.EPOCH_HIGHEST + 4 < 2 ^ 32) ∧
    (∀ v ∈ [V.ABSENT, V.STANDING_BY, V.DOUBT], ∃ hb ∈ [0, 1, 2, 3], ∃ w ∈ [false, true],
      (pairB SL.HOLDOFF { hb := hb, sluiceI := w }).view = v) ∧
    (∃ hb ∈ [0, 1, 2, 3], ∃ w ∈ [false, true], let s := withPars (pairB SL.STANDBY { hb := hb, sluiceI := w, evidence := 4 }) [(P.EVIDENCE_TICKS, 0, 4)];
      s.view = V.DOUBT ∧ s.red.doubtTold = false ∧ s.sluice = SL.STANDBY ∧ s.par P.EVIDENCE_TICKS ≤ s.red.evidence ∧ s.doubting = true) ∧
    (∃ hb ∈ [0, 1, 2, 3], ∃ w ∈ [false, true], (pairB SL.STANDBY { hb := hb, sluiceI := w }).doubting = false) ∧
    (pairB SL.YIELD { switchTick := some 5 }).red.actingAt = none ∧
    (let s := pairB SL.YIELD { switchTick := some 5, actingAt := some 3 }; s.red.switchTick ≠ none ∧ s.sluice = SL.YIELD ∧
      s.red.actingAt = some 3 ∧ s.onTime false 3 = true ∧ s.onTime true 3 = false) := by
  decide

/-! Messages of the object dictionary -/

/-- The path of the sender these tests use. -/
def peer : Path := .gbe 1 4660
/-- `s` with every ready bit set, its lease held by `peer`, and key 0 loaded with every permission. -/
def served (s : State) : State :=
  let s := withPars s [(P.DEVICE_ID, 0, 0)]
  { s with start := { s.start with ready := 0xFFFF }, od := { s.od with holder := some peer },
           security := { s.security with keys := [(0, { loaded := true, perms := 127 })] } }
/-- An authenticated message of `peer` under key 0, its tag not yet made. -/
def untagged (txn : Nat) (items : List OdItem) : OdHead :=
  { path := peer, version := 1, length := 44 + (items.map OdItem.size).sum, received := 44 + (items.map OdItem.size).sum
    target := 0, flags := 2, keyId := 0, epoch := 0, seq := 1, counter := 1, txn := BitVec.ofNat 16 txn
    count := items.length, tag := [], packetEpoch := 0 }
/-- The same message with its tag. -/
def tagged (s : State) (op txn : Nat) (items : List OdItem) : OdHead :=
  { untagged txn items with
    tag := bytesAt (hmac (s.key 0).key (msgBytes (untagged txn items) op items)) 0 16 }

theorem tagged_tagCause (s : State) (op txn : Nat) (items : List OdItem) (h : (s.key 0).loaded = true) :
    s.tagCause (tagged s op txn items) op items = none := by
  have h1 : (tagged s op txn items).authed = true := by simp only [tagged, untagged, OdHead.authed]; decide
  have h2 : (tagged s op txn items).keyId.toNat = 0 := rfl
  have h3 : msgBytes (tagged s op txn items) op items = msgBytes (untagged txn items) op items := rfl
  simp only [State.tagCause, h1, h2, h3, h]
  simp [tagged]

/-- What `State.clears` asks of a tagged message besides its tag. -/
def clearable (s : State) (op txn : Nat) (items : List OdItem) : Prop :=
  s.pathOpen (tagged s op txn items).path items = true ∧ framed (tagged s op txn items) items = true ∧
    s.odTaken (tagged s op txn items) op = true ∧ (s.key 0).loaded = true ∧
    s.orderStatus (tagged s op txn items) op items = none ∧ s.od.lastResp = none ∧ s.upd.bootDue = false ∧ s.upd.resetNow = false ∧
    s.od.txn.all (fun t => s.controlNow < t.openedAt + 2 * controlSec) = true ∧
    s.controlNow < s.od.lastMsg + s.par P.LEASE_TIME * (controlSec / 1000) ∧ s.od.claimAt = none ∧ s.security.burning = none

theorem clears_of {s : State} {op txn : Nat} {items : List OdItem} (h : clearable s op txn items) :
    s.clears (tagged s op txn items) op items := by
  obtain ⟨h1, h2, h3, h4, h5, h6, h7, h8, h9, h10, h11, h12⟩ := h
  have hd : s.odDue = s := by
    unfold State.odDue
    rw [decide_eq_false (Nat.not_le.mpr h10), Bool.and_false, if_neg Bool.false_ne_true]
    cases ht : s.od.txn with
    | none => simp only [ht]
    | some t =>
      rw [ht, Option.all_some, decide_eq_true_eq] at h9
      simp only [ht]
      rw [if_neg (Nat.not_le.mpr h9)]
  have hc : s.claimOutOfOrder (tagged s op txn items) op = false := by simp [State.claimOutOfOrder, h11]
  exact ⟨⟨h1, h2, h3, hc, rfl, fun _ => h12, hd⟩, tagged_tagCause s op txn items h4, h5, Or.inr (Or.inr (Or.inl h6)), h7, h8⟩

/-- What a one-item write asks besides. -/
def writable (s : State) (id idx ty : Nat) (v : List Byte) (txn : Nat := 0) : Prop :=
  clearable s OP.WRITE txn [oneWrite id idx ty v] ∧ s.writeStatus s (oneWrite id idx ty v) = ST.OK ∧
    (s.key 0).perms = 127 ∧ (writePerm (oneWrite id idx ty v)).all (fun p => bit 127 p) = true

/-- The message that `writable` is about. -/
abbrev oneMsg (s : State) (id idx ty : Nat) (v : List Byte) (txn : Nat := 0) : OdHead :=
  tagged s OP.WRITE txn [oneWrite id idx ty v]

theorem mayWrite_of {s : State} {id idx ty txn : Nat} {v : List Byte} (h : writable s id idx ty v txn) :
    s.mayWrite (oneMsg s id idx ty v txn) id idx ty v := by
  refine ⟨clears_of h.1, h.2.1, fun p hp => ?_⟩
  have := h.2.2.2
  rw [hp] at this
  have hk : (oneMsg s id idx ty v txn).keyId.toNat = 0 := rfl
  rw [hk, h.2.2.1]; simpa using this

theorem writes_of {s : State} {id idx ty : Nat} {v : List Byte} (h : writable s id idx ty v) :
    s.writes (oneMsg s id idx ty v) id idx ty v := ⟨mayWrite_of h, rfl⟩

/-- A head with no lease and the untagged message of an operation to which no tag is added. -/
def plain (seq : Nat) (items : List OdItem) : OdHead :=
  { untagged 0 items with
      flags := 0, seq := BitVec.ofNat 32 seq, length := 28 + (items.map OdItem.size).sum,
      received := 28 + (items.map OdItem.size).sum }

theorem test_hyp_DictionaryRefusals :
    (let s := served (dev .head); let h := plain 1 [];
      ∀ c ∈ [OP.READ, OP.WRITE, OP.TXN_OPEN, OP.LEASE_RELEASE, OP.EVENT],
      (dev .head).pathOpen h.path [] = false ∧ s.pathOpen h.path [] = true ∧
      framed { h with count := 1 } [] = false ∧ framed h [] = true ∧ s.odTaken { h with flags := 1 } c = false ∧
      s.odTaken h c = true ∧ s.claimOutOfOrder h c = false ∧ s.odStale h = false ∧ h.authed = false ∧ s.odDue = s) ∧
    (let s := { served (dev .head) with od := { claimAt := some (0, 2) } }; let h := plain 1 [];
      s.claimOutOfOrder h OP.LEASE_CLAIM = true ∧ s.pathOpen h.path [] = true ∧ framed h [] = true) ∧
    (let s := withPars (served (dev .tile)) [(P.EPOCH, 0, 1)]; let h := { plain 1 [] with path := .chain 5 };
      s.odStale h = true ∧ s.odTaken h OP.READ = true ∧ s.claimOutOfOrder h OP.READ = false) := by
  decide +kernel

theorem test_hyp_DictionaryRefusals_checks :
    (let s := served (dev .head); let h := { plain 1 [] with flags := 2, keyId := 8, tag := List.replicate 16 0, length := 44, received := 44 };
      framed h [] = true ∧ s.odTaken h OP.WRITE = true ∧ s.odDue = s ∧ s.security.burning = none ∧
        s.tagCause h OP.WRITE [] = some 1) ∧
    (let s := served (dev .head); let h := plain 2 [];
      s.tagCause h OP.TXN_OPEN [] = none ∧ s.orderStatus h OP.TXN_OPEN [] = some ST.OUT_OF_ORDER ∧
        h.seq.toNat ≠ s.par P.LEASE_SEQ) ∧
    (let s := served (dev .head); let s := { s with od := { s.od with lastResp := some { op := 3, seq := 0, txn := 0, items := [] } } };
      let h := plain 0 []; s.odDue = s ∧ s.tagCause h OP.TXN_OPEN [] = none ∧ s.od.holder = some h.path ∧
        s.od.lastResp ≠ none ∧ h.seq.toNat = s.par P.LEASE_SEQ ∧ h.authed = false) := by
  decide +kernel

/-- `served s` without a lease. -/
def unheld (s : State) : State := let s := served s; { s with od := { s.od with holder := none } }
/-- `served s` with an open transaction 7 of the writes `ws`, and pending ones. -/
def inTxn (s : State) (ws : List Write) (pend : List PendTxn := []) : State :=
  let s := served s
  { s with od := { s.od with txn := some { num := 7, openedAt := 0, writes := ws }, pending := pend } }
/-- The item of a commit to tick `v`, and of a cancel of transaction `num`. -/
def commitItem (v : Nat) : OdItem := oneWrite P.TXN_TARGET_TICK 0xFFFF 6 (leBytes 8 v)
def cancelItem (num : Nat) : OdItem := oneWrite P.APPLIED_TXN 0xFFFF 3 (leBytes 2 num)

theorem test_hyp_LeaseAndTransactions_clears :
    (let s := unheld (dev .tile); s.clears (tagged s OP.LEASE_CLAIM 0 []) OP.LEASE_CLAIM []) ∧
    (let s := served (dev .tile); s.clears (tagged s OP.LEASE_RENEW 0 []) OP.LEASE_RENEW [] ∧
      s.clears (tagged s OP.LEASE_RELEASE 0 []) OP.LEASE_RELEASE [] ∧ s.clears (tagged s OP.TXN_OPEN 65535 []) OP.TXN_OPEN []) ∧
    (let s := inTxn (dev .tile) []; s.clears (tagged s OP.TXN_ABORT 7 []) OP.TXN_ABORT []) ∧
    (∀ v ∈ [0, 2 ^ 48 - 1], let s := inTxn (dev .tile) [];
      s.clears (tagged s OP.TXN_COMMIT 7 [commitItem v]) OP.TXN_COMMIT [commitItem v]) ∧
    (∀ num ∈ [0, 65535], let s := inTxn (dev .tile) [] [{ num := num, tick := 5, at_ := 0, writes := [] }];
      s.clears (tagged s OP.TXN_CANCEL 7 [cancelItem num]) OP.TXN_CANCEL [cancelItem num]) := by
  refine ⟨clears_of ?_, ⟨clears_of ?_, clears_of ?_, clears_of ?_⟩, clears_of ?_, fun v hv => clears_of ?_, fun v hv => clears_of ?_⟩
  all_goals first
    | (revert v; simp only [clearable]; decide +kernel)
    | (simp only [clearable]; decide +kernel)

theorem test_hyp_LeaseAndTransactions_rest :
    bit ((unheld (dev .tile)).key 0).perms 0 = true ∧
    (let s := served (dev .tile); s.od.txn = none ∧ (tagged s OP.TXN_OPEN 65535 []).txn ≠ 0) ∧
    (let s := inTxn (dev .tile) []; ∃ tx, s.od.txn = some tx ∧ tx.num = (tagged s OP.TXN_ABORT 7 []).txn.toNat ∧
      tx.writes.length < 256 ∧ s.commitsRwsa 7 = false ∧
      s.od.holder ≠ none ∧ (unheld (dev .tile)).od.holder = none ∧
      ∀ v ∈ [0, 65536, 2 ^ 48 - 1], (s.acceptCounter (tagged s OP.TXN_COMMIT 7 [commitItem v])).commitRefused tx.writes
        (if v = 0 then 0 else max 1 (nearTick s.time.tick v)) false = none) ∧
    (dev .tile).isHead = false ∧
    (∀ num ∈ [0, 65535], let s := inTxn (dev .tile) [] [{ num := num, tick := 5, at_ := 0, writes := [] }];
      (s.od.pending.findIdx? fun (p : PendTxn) => p.num == num) = some 0 ∧
        ∀ p ∈ s.od.pending[0]?, s.earliestTick ≤ p.tick) := by
  decide +kernel

theorem test_hyp_LeaseAndTransactions_write :
    let s := inTxn (dev .tile) [{ id := P.DISPLAY_DELAY, index := 0, value := [1, 0, 0, 0] }];
    let h := oneMsg s P.DISPLAY_DELAY 0xFFFF 5 (leBytes 4 500) 7;
    s.mayWrite h P.DISPLAY_DELAY 0xFFFF 5 (leBytes 4 500) ∧ h.txn ≠ 0 ∧
      ∀ tx ∈ s.od.txn, tx.writes.length < 256 ∧
        s.writeStatus (s.shadow tx.writes) (oneWrite P.DISPLAY_DELAY 0xFFFF 5 (leBytes 4 500)) = ST.OK ∧
        (∀ p ∈ findParam P.DISPLAY_DELAY, elemOf p (oneWrite P.DISPLAY_DELAY 0xFFFF 5 (leBytes 4 500)) = 0) ∧
        (findParam P.DISPLAY_DELAY).isSome = true ∧
        ((s.shadow tx.writes).writeEffect { by_ := (keptWrite h P.DISPLAY_DELAY 0 (leBytes 4 500)).by_, gbe := true } P.DISPLAY_DELAY 0
          (leBytes 4 500)).1 = 0 := by
  refine ⟨mayWrite_of ?_, ?_⟩
  · simp only [writable, clearable]; decide +kernel
  · decide +kernel

theorem test_hyp_ReadsEventsAndUnknown :
    (let s := served (dev .head); let i := { oneWrite P.DEVICE_ID 0xFFFF 3 [] with ty := 3 };
      s.clears (tagged s OP.READ 0 [i]) OP.READ [i] ∧ (tagged s OP.READ 0 [i]).path = .gbe 1 4660 ∧
        (tagged s OP.READ 0 [i]).broadcast = false ∧ bit (tagged s OP.READ 0 [i]).flags.toNat 3 = false ∧
        s.od.holder = some (tagged s OP.READ 0 [i]).path ∧ (let u := s.acceptCounter (tagged s OP.READ 0 [i]); ∃ b ∈ [[0, 0]], (match u.readItem u i with | .scalar c => c == b | _ => false) = true)) ∧
    (let s := served (dev .head); let i := oneWrite P.DEVICE_ID 0xFFFF 3 [0, 0];
      s.clears (tagged s OP.READ 0 [i]) OP.READ [i] ∧ bit (tagged s OP.READ 0 [i]).flags.toNat 3 = false ∧
        (let u := s.acceptCounter (tagged s OP.READ 0 [i]); ∃ st ∈ [ST.TYPE], (match u.readItem u i with | .refused c => c == st | _ => false) = true)) ∧
    (let s := served (dev .head); let i := oneWrite P.DEVICE_ID 0xFFFF 14 (List.replicate 36 0);
      s.clears (tagged s OP.EVENT 0 [i]) OP.EVENT [i] ∧ s.red.manager = false) ∧
    (∀ had ∈ [[], [(0, List.replicate 32 0)]], let s := served { dev .head with red := { manager := true }, ev := { received := had } };
      let i := oneWrite P.DEVICE_ID 0xFFFF 14 (List.replicate 36 0);
      s.clears (tagged s OP.EVENT 0 [i]) OP.EVENT [i] ∧ s.red.manager = true ∧
        (s.ev.received.any fun e => e.1 == (tagged s OP.EVENT 0 [i]).target.toNat % 4096 &&
          e.2.take 4 == (i.value.drop 4).take 4) = !had.isEmpty) ∧
    (∀ o ∈ [0, 10, 0x1F, 0x21, 255], let s := served (dev .head);
      knownOp o = false ∧ s.clears (tagged s o 0 []) o []) ∧
    ∀ o ∈ [1, 9, 0x20], knownOp o = true := by
  refine ⟨⟨clears_of ?_, ?_⟩, ⟨clears_of ?_, ?_⟩, ⟨clears_of ?_, ?_⟩, fun had hh => ⟨clears_of ?_, ?_⟩, fun o ho => ⟨?_, clears_of ?_⟩, ?_⟩
  all_goals first
    | (revert had; simp only [clearable]; decide +kernel)
    | (revert o; simp only [clearable]; decide +kernel)
    | (revert o; decide +kernel)
    | (simp only [clearable]; decide +kernel)
    | decide +kernel

/-- A head in which the counter may be stepped. -/
def steppable (r : Role) : State := let s := served (dev r); { s with start := { s.start with ready := 0xFFFF - 2 ^ B.TIME_LOCK } }

theorem test_hyp_TimeSet :
    (∀ v ∈ [0, 2 ^ 48 - 1, 999999999 * 2 ^ 48], ∀ s ∈ [steppable .head, steppable .tile, served (dev .head)],
      s.writes (oneMsg s P.TIME_SET 0xFFFF 12 (leBytes 10 v)) P.TIME_SET 0xFFFF 12 (leBytes 10 v)) ∧
    (steppable .head).isTile = false ∧ (steppable .head).stepAllowed = true ∧ (steppable .tile).isTile = true ∧
    (served (dev .head)).stepAllowed = false := by
  refine ⟨fun v hv s hs => writes_of ?_, by decide +kernel⟩
  revert s v; simp only [writable, clearable]; decide +kernel

/-- A tile with a region of no lamps and, in program slot 0, an image of one NOP; bank 0 of each kind is in force. -/
def banked : State := served { dev .tile with store := { banks := [(bankKey BK.PROG 0, prog [0])] } }

theorem test_hyp_BankWrites_data :
    ∀ x ∈ [(P.COEFF_DATA, 0xFFFF, BK.COEFF, 0), (P.MAP_DATA, 0xFFFF, BK.MAP, 0), (P.PROG_DATA, 0, BK.PROG, 0),
        (P.PROG_DATA, 7, BK.PROG, 7)],
      banked.writes (oneMsg banked x.1 x.2.1 14 (leBytes 4 3 ++ [5, 6])) x.1 x.2.1 14 (leBytes 4 3 ++ [5, 6]) ∧
        banked.bankBound x.2.2.1 (banked.loadBank x.2.2.1 x.2.2.2) = false := by
  refine fun x hx => ⟨writes_of ?_, ?_⟩
  · revert x; simp only [writable, clearable]; decide +kernel
  · revert x; decide +kernel

/-- `s` with a binding of the next frame that names bank 1 of each kind and every program slot in use. -/
def bound (s : State) : State :=
  let d := withPars s [(P.COEFF_BANK, 0, 1), (P.MAP_BANK, 0, 1), (P.FIX_BANK, 0, 1), (P.QUAD_PROGRAM, 0, 7)]
  { s with tile := { s.tile with binds := [{ frame := 0, dict := d.dict, blobs := [] }] } }

theorem test_hyp_BankWrites_bound :
    (∀ x ∈ [(P.COEFF_DATA, 0xFFFF, BK.COEFF, 0), (P.MAP_DATA, 0xFFFF, BK.MAP, 0), (P.PROG_DATA, 7, BK.PROG, 7)],
      (bound banked).writes (oneMsg (bound banked) x.1 x.2.1 14 (leBytes 4 3 ++ [5, 6])) x.1 x.2.1 14 (leBytes 4 3 ++ [5, 6]) ∧
        (bound banked).bankBound x.2.2.1 ((bound banked).loadBank x.2.2.1 x.2.2.2) = true) ∧
    (let s := served (dev .head);
      s.writes (oneMsg s P.FIX_DATA 0xFFFF 14 (leBytes 4 0)) P.FIX_DATA 0xFFFF 14 (leBytes 4 0) ∧
        s.bankBound BK.FIX (s.loadBank BK.FIX 0) = false) ∧
    (let s := bound (served (dev .head));
      s.writes (oneMsg s P.FIX_DATA 0xFFFF 14 (leBytes 4 0)) P.FIX_DATA 0xFFFF 14 (leBytes 4 0) ∧
        s.bankBound BK.FIX (s.loadBank BK.FIX 0) = true) := by
  refine ⟨fun x hx => ⟨writes_of ?_, ?_⟩, ⟨writes_of ?_, ?_⟩, writes_of ?_, ?_⟩
  · revert x; simp only [writable, clearable]; decide +kernel
  · revert x; decide +kernel
  · simp only [writable, clearable]; decide +kernel
  · decide +kernel
  · simp only [writable, clearable]; decide +kernel
  · decide +kernel

theorem badFixture_empty (f : Nat) : badFixture {} f = false := by
  have hb (o : Nat) : ({} : Sealed).byte o = 0 := rfl
  have hn (o n : Nat) : ({} : Sealed).num o n = 0 := by
    induction n generalizing o with
    | zero => rfl
    | succ n ih => simp [Sealed.num, hb, ih]
  simp only [badFixture, hb, hn]; decide

theorem crc32_lt (bs : List Byte) : crc32 bs < 2 ^ 32 := BitVec.isLt _

/-- Bank 1 of a tile's map and of a head's fixture records, empty, can be sealed with the CRC of its bytes. -/
theorem test_hyp_BankWrites_emptySeals :
    (∃ v : BitVec 32, (served (dev .tile)).sealFails BK.MAP 0 v.toNat = none) ∧
    (∃ v : BitVec 32, (served (dev .head)).sealFails BK.FIX 0 v.toNat = none) := by
  have key (s : State) (kind : Nat) (h : s.badRecord kind (s.bank kind (s.loadBank kind 0)) = none) :
      ∃ v : BitVec 32, s.sealFails kind 0 v.toNat = none := by
    refine ⟨BitVec.ofNat 32 (s.sealCrc kind (s.bank kind (s.loadBank kind 0))), ?_⟩
    have hl : s.sealCrc kind (s.bank kind (s.loadBank kind 0)) < 2 ^ 32 := crc32_lt _
    simp only [State.sealFails, h, BitVec.toNat_ofNat, Nat.mod_eq_of_lt hl]
    simp
  refine ⟨key _ _ ?_, key _ _ ?_⟩
  · have : (served (dev .tile)).bank BK.MAP ((served (dev .tile)).loadBank BK.MAP 0) = {} := by decide +kernel
    rw [this]
    simp only [State.badRecord, badMap]
    rw [List.filter_eq_nil_iff.mpr]
    · rfl
    · intro a _; simp [SMap.get]
  · have : (served (dev .head)).bank BK.FIX ((served (dev .head)).loadBank BK.FIX 0) = {} := by decide +kernel
    rw [this]
    simp only [State.badRecord, List.find?_eq_none]
    intro f _; simp [badFixture_empty]

theorem tag_length (s : State) (op txn : Nat) (items : List OdItem) : (tagged s op txn items).tag.length = 16 := by
  simp only [tagged, bytesAt, List.length_map, List.length_range]

theorem tagged_fields (s : State) (op txn : Nat) (items : List OdItem) : let h := tagged s op txn items;
    h.path = peer ∧ h.version = 1 ∧ h.length = 44 + (items.map OdItem.size).sum ∧ h.received = 44 + (items.map OdItem.size).sum ∧
      h.target = 0 ∧ h.flags = 2 ∧ h.keyId = 0 ∧ h.epoch = 0 ∧ h.seq = 1 ∧ h.counter = 1 ∧ h.txn = BitVec.ofNat 16 txn ∧
      h.count = items.length ∧ h.packetEpoch = 0 := ⟨rfl, rfl, rfl, rfl, rfl, rfl, rfl, rfl, rfl, rfl, rfl, rfl, rfl⟩

theorem clearable_u32 {s : State} {id : Nat} (v : BitVec 32)
    (h : clearable s OP.WRITE 0 [oneWrite id 0xFFFF 5 (leBytes 4 0)]) :
    clearable s OP.WRITE 0 [oneWrite id 0xFFFF 5 (leBytes 4 v.toNat)] := by
  obtain ⟨h1, -, h3, h4, h5, h6⟩ := h
  have hz : (oneWrite id 0xFFFF 5 (leBytes 4 v.toNat)).size = 13 := rfl
  have hf : leaseFree (oneWrite id 0xFFFF 5 (leBytes 4 v.toNat)) = leaseFree (oneWrite id 0xFFFF 5 (leBytes 4 0)) := rfl
  have ha (x : List OdItem) : (tagged s OP.WRITE 0 x).authed = true := by
    simp only [tagged, untagged, OdHead.authed]; decide
  refine ⟨?_, ?_, ?_, h4, ?_, h6⟩
  · simp only [State.pathOpen, tagged_fields] at h1 ⊢; exact h1
  · simp only [framed, tag_length, ha, bodySize, tagged_fields, List.map, hz, List.length]; decide
  · simp only [State.odTaken, tagged_fields] at h3 ⊢; exact h3
  · simp only [State.orderStatus, needsLease, List.isEmpty, List.all, hf, ha, tagged_fields] at h5 ⊢
    exact h5

/-- The parameter is a scalar u32 of any value that the device writes. -/
def plainU32 (s : State) (id : Nat) : Bool :=
  match s.lookup (oneWrite id 0xFFFF 5 []) with
  | .inr p => !s.readOnly p && p.id == id && !p.arr && (match p.ty, p.rng with | .u32, .any => true | _, _ => false)
  | .inl _ => false

theorem writable_u32 {s : State} {id : Nat} (v : BitVec 32)
    (hc : clearable s OP.WRITE 0 [oneWrite id 0xFFFF 5 (leBytes 4 0)]) (hl : plainU32 s id = true)
    (ha : s.arrivalStatus s id 0 (leBytes 4 v.toNat) = ST.OK)
    (hk : (s.key 0).perms = 127) (hw : (writePerm (oneWrite id 0xFFFF 5 [])).all (fun p => bit 127 p) = true)
    (hi : (oneWrite id 0xFFFF 5 []).id ≠ P.KEY_LOAD) :
    writable s id 0xFFFF 5 (leBytes 4 v.toNat) := by
  have hw' : writePerm (oneWrite id 0xFFFF 5 (leBytes 4 v.toNat)) = writePerm (oneWrite id 0xFFFF 5 []) := by
    have h1 : (oneWrite id 0xFFFF 5 (leBytes 4 v.toNat)).id = (oneWrite id 0xFFFF 5 []).id := rfl
    simp only [writePerm, listedPerm, h1, hi, false_and]
  refine ⟨clearable_u32 v hc, ?_, hk, hw' ▸ hw⟩
  have h0 : s.lookup (oneWrite id 0xFFFF 5 (leBytes 4 v.toNat)) = s.lookup (oneWrite id 0xFFFF 5 []) := rfl
  have h4 : (leBytes 4 v.toNat).length = 4 := rfl
  have hz : (oneWrite id 0xFFFF 5 (leBytes 4 v.toNat)).ty.toNat = 5 := rfl
  have hval : (oneWrite id 0xFFFF 5 (leBytes 4 v.toNat)).value = leBytes 4 v.toNat := rfl
  rw [State.writeStatus, h0, hz, hval]
  unfold plainU32 at hl
  revert hl
  cases hp : s.lookup (oneWrite id 0xFFFF 5 []) with
  | inl st => simp
  | inr p =>
    obtain ⟨pid, ty, acc, lvl, arr, hd, tl, df, dt, rng⟩ := p
    cases ty <;> cases rng <;> simp only [Bool.and_false, Bool.and_true, Bool.false_eq_true, false_implies]
    intro hl
    simp only [Bool.and_eq_true, Bool.not_eq_true', beq_iff_eq] at hl
    obtain ⟨⟨hr, rfl⟩, rfl⟩ := hl
    simp only [hr, elemOf, valueStatus, h4, Ty.code, Ty.width, Rng.ok]
    simpa using ha

theorem test_hyp_BankWrites_seals (v : BitVec 32) :
    (served (dev .tile)).writes (oneMsg (served (dev .tile)) P.MAP_SEAL 0xFFFF 5 (leBytes 4 v.toNat)) P.MAP_SEAL 0xFFFF 5
      (leBytes 4 v.toNat) ∧
    (served (dev .head)).writes (oneMsg (served (dev .head)) P.FIX_SEAL 0xFFFF 5 (leBytes 4 v.toNat)) P.FIX_SEAL 0xFFFF 5
      (leBytes 4 v.toNat) := by
  constructor
  · refine writes_of (writable_u32 v ?_ ?_ rfl rfl ?_ ?_)
    · simp only [clearable]; decide +kernel
    all_goals decide +kernel
  · refine writes_of (writable_u32 v ?_ ?_ rfl rfl ?_ ?_)
    · simp only [clearable]; decide +kernel
    all_goals decide +kernel

/-- A tile of one lamp, its bank 1 of coefficients filled with one good record. -/
def oneLamp : State :=
  served { withPars (dev .tile) [(P.TILE_REGION, 0, 1 + 2 ^ 16), (P.LAMP_LAYOUT, 0, 1)] with
    store := { banks := [(bankKey BK.COEFF 1, Sealed.write {} 0 (leBytes 8 0x2000)), (bankKey BK.PROG 0, (prog [0]).write 0 [1, 0])] } }

theorem test_hyp_BankWrites_sealed :
    (∀ x ∈ [(P.COEFF_SEAL, 0xFFFF, BK.COEFF), (P.PROG_SEAL, 0, BK.PROG)],
      ∀ v ∈ [0, oneLamp.sealCrc x.2.2 (oneLamp.bank x.2.2 (oneLamp.loadBank x.2.2 0))],
      oneLamp.writes (oneMsg oneLamp x.1 x.2.1 5 (leBytes 4 v)) x.1 x.2.1 5 (leBytes 4 v)) ∧
    ∀ kind ∈ [BK.COEFF, BK.PROG], oneLamp.sealFails kind 0 0 ≠ none ∧
      (let v := oneLamp.sealCrc kind (oneLamp.bank kind (oneLamp.loadBank kind 0));
        oneLamp.sealFails kind 0 v = none ∧ (oneLamp.bankSeal kind 0 v).storeFits = true ∧
          ({ oneLamp with upd := { flashUnits := 0 } } : State).sealFails kind 0 v = none ∧
          (State.bankSeal { oneLamp with upd := { flashUnits := 0 } } kind 0 v).storeFits = false) := by
  refine ⟨fun x hx v hv => writes_of ?_, ?_⟩
  · revert x v; simp only [writable, clearable]; decide +kernel
  · decide +kernel

theorem test_hyp_BankWrites_rest :
    (∀ n ∈ [0, 15], ∀ off ∈ [0, 252], let s := served (withPars (dev .head) [(P.STILL_GEOMETRY, n, 64 + 2 ^ 16)]);
      s.writes (oneMsg s P.STILL_DATA n 14 (leBytes 4 off ++ [1, 2, 3, 4])) P.STILL_DATA n 14 (leBytes 4 off ++ [1, 2, 3, 4])) ∧
    (∀ n ∈ [0, 15], let s := served (withPars (dev .head) [(P.STILL_GEOMETRY, n, 1 + 2 ^ 16)]);
      s.writes (oneMsg s P.STILL_SEAL n 5 (leBytes 4 (s.stillCrc n))) P.STILL_SEAL n 5 (leBytes 4 (s.stillCrc n))) := by
  refine ⟨fun n hn off ho => writes_of ?_, fun n hn => writes_of ?_⟩
  · revert n off; simp only [writable, clearable]; decide +kernel
  · revert n; simp only [writable, clearable]; decide +kernel

theorem test_hyp_BankWrites_stills :
    (∀ n ∈ [0, 15], let s := served (withPars (dev .head) [(P.STILL_GEOMETRY, n, 64 + 2 ^ 16)]);
      252 + 4 = s.bufSize (srcKey 3 n) (SMap.get 0 s.src.stillLoad n)) ∧
    (∀ off ∈ [253], let s := served (withPars (dev .head) [(P.STILL_GEOMETRY, 15, 64 + 2 ^ 16)]);
      s.writes (oneMsg s P.STILL_DATA 15 14 (leBytes 4 off ++ [1, 2, 3, 4])) P.STILL_DATA 15 14 (leBytes 4 off ++ [1, 2, 3, 4]) ∧
        s.bufSize (srcKey 3 15) (SMap.get 0 s.src.stillLoad 15) < off + 4) ∧
    (∀ g ∈ [0, 1 + 2 ^ 16], let s := served (withPars (dev .head) [(P.STILL_GEOMETRY, 15, g)]);
      s.writes (oneMsg s P.STILL_SEAL 15 5 (leBytes 4 0)) P.STILL_SEAL 15 5 (leBytes 4 0) ∧
        (s.stillCrc 15 ≠ 0 ∨ s.par P.STILL_GEOMETRY 15 = 0)) := by
  refine ⟨by decide +kernel, fun off ho => ⟨writes_of ?_, by revert off; decide +kernel⟩, fun g hg => ⟨writes_of ?_, by revert g; decide +kernel⟩⟩
  · revert off; simp only [writable, clearable]; decide +kernel
  · revert g; simp only [writable, clearable]; decide +kernel

/-- A record that lets overlays stand, and an overlay on it. -/
def layRecord : List Byte := [1, 0, 0, 0, 0, 0, 0, 0, 0, 0, 0, 0, 4] ++ List.replicate 51 0
def layOver : List Byte :=
  let b : List Byte := 0x81 :: (layRecord.take 60).drop 1
  b ++ leBytes 4 (crc32 b)
/-- A head on that record. -/
def layHead : State := served { dev .head with start := { role := .head, record := layRecord } }

theorem test_hyp_BankWrites_overlay :
    layHead.writes (oneMsg layHead P.OPTION_OVERLAY 0xFFFF 14 (leBytes 4 0 ++ layOver)) P.OPTION_OVERLAY 0xFFFF 14
        (leBytes 4 0 ++ layOver) ∧
      recField layHead.start.record 98 1 = 1 ∧
      overlayOk ((layHead.setBlob P.OPTION_OVERLAY 0 0 layOver).blob P.OPTION_OVERLAY 0 0 64) layHead.start.record = true ∧
      (served (dev .head)).writes (oneMsg (served (dev .head)) P.OPTION_OVERLAY 0xFFFF 14 (leBytes 4 0)) P.OPTION_OVERLAY 0xFFFF 14
        (leBytes 4 0) ∧ recField (served (dev .head)).start.record 98 1 = 0 := by
  refine ⟨writes_of ?_, by decide +kernel, by decide +kernel, writes_of ?_, by decide +kernel⟩
  · simp only [writable, clearable]; decide +kernel
  · simp only [writable, clearable]; decide +kernel

/-- A message of `peer` that writes `v` clears every check in state `s`. -/
def canWrite (s : State) (e : Nat × Nat × Nat × List Byte) : Prop := writable s e.1 e.2.1 e.2.2.1 e.2.2.2

theorem canWrite_writes {s : State} {e : Nat × Nat × Nat × List Byte} (h : canWrite s e) :
    s.writes (oneMsg s e.1 e.2.1 e.2.2.1 e.2.2.2) e.1 e.2.1 e.2.2.1 e.2.2.2 := writes_of h

/-- A head whose lane 31 is a test lane that is UP. -/
def testHead : State := served (withPars (dev .head) [(P.LANE_USE, 31, 0x50), (P.LANE_STATE, 31, L.UP), (P.SLUICE_STATE, 0, SL.SINGLE)])

theorem test_hyp_DeviceWrites :
    (∀ e ∈ ([(P.RESET_REQUEST, 0xFFFF, 2, [1]), (P.RESET_REQUEST, 0xFFFF, 2, [2]),
        (P.EYE_SCAN_CTRL, 0xFFFF, 5, leBytes 4 (2 ^ 31 + 31)), (P.EYE_SCAN_CTRL, 0xFFFF, 5, leBytes 4 0), (P.PRBS_GEN, 31, 2, [1]),
        (P.PRBS_GEN, 0, 2, [9]), (P.PRBS_CHK, 31, 2, [0]), (P.PRBS_CHK, 0, 2, [5]), (P.INJECT, 31, 2, [1]),
        (P.RDM_REQUEST, 15, 14, leBytes 4 0 ++ [0, 0]), (P.RDM_REQUEST, 0, 14, leBytes 4 0 ++ [1, 0, 5]),
        (P.TX_THRESHOLD, 0xFFFF, 2, [8]), (P.T1S_THRESHOLD, 7, 2, [8]), (P.T1S_THRESHOLD, 0, 2, [0])] :
        List (Nat × Nat × Nat × List Byte)),
      testHead.writes (oneMsg testHead e.1 e.2.1 e.2.2.1 e.2.2.2) e.1 e.2.1 e.2.2.1 e.2.2.2) := by
  refine fun e he => writes_of ?_
  revert e; simp only [writable, clearable]; decide +kernel

theorem test_hyp_DeviceWrites_rest :
    testHead.start.request = none ∧ testHead.eyeOpen (field (2 ^ 31 + 31) 0 5) = true ∧ testHead.isTile = false ∧
      testHead.laneUse 31 / 16 = 5 ∧ testHead.laneState 31 ≠ L.OFF ∧ testHead.acting = true ∧
      testHead.txStep 0 ≠ 8 ∧ testHead.txStep 8 ≠ 8 ∧
    (let s := served (withPars (dev .head) [(P.REDUNDANCY_MODE, 0, 1), (P.PARTNER_ID, 0, 1), (P.SLUICE_STATE, 0, SL.STANDBY)]);
      s.writes (oneMsg s P.SWITCHOVER 0xFFFF 2 [1]) P.SWITCHOVER 0xFFFF 2 [1]) ∧
    (let s := served (withPars (dev .head) [(P.REDUNDANCY_MODE, 0, 1), (P.PARTNER_ID, 0, 1), (P.SLUICE_STATE, 0, SL.STANDBY)]);
      (s.acceptCounter (oneMsg s P.SWITCHOVER 0xFFFF 2 [1])).commitRefused
        [keptWrite (oneMsg s P.SWITCHOVER 0xFFFF 2 [1]) P.SWITCHOVER 0 [1]] 0 false = none) ∧
    ((served (dev .tile)).writes (oneMsg (served (dev .tile)) P.OSC_RESET 0xFFFF 3 (leBytes 2 0xFFFF)) P.OSC_RESET 0xFFFF 3
      (leBytes 2 0xFFFF)) ∧
    (∀ e ∈ [0, 2 ^ 32 - 1], (served (dev .tile)).isTile = true ∧ (served (dev .tile)).writes
      (oneMsg (served (dev .tile)) P.EPOCH_FLOOR 0xFFFF 5 (leBytes 4 e)) P.EPOCH_FLOOR 0xFFFF 5 (leBytes 4 e)) := by
  refine ⟨by decide +kernel, by decide +kernel, by decide +kernel, by decide +kernel, by decide +kernel, by decide +kernel,
    by decide +kernel, by decide +kernel, writes_of ?_, by decide +kernel, writes_of ?_, fun e he => ⟨by decide +kernel, writes_of ?_⟩⟩
  · simp only [writable, clearable]; decide +kernel
  · simp only [writable, clearable]; decide +kernel
  · revert e; simp only [writable, clearable]; decide +kernel

/-- A 40-byte key load: slot, permissions. -/
def keyValue (slot perms : Nat) : List Byte := leBytes 1 slot ++ leBytes 1 perms ++ List.replicate 38 0
/-- `served` with the lock fuses in state `r`. -/
def locked (r : Nat) : State := let s := served (dev .tile); { s with security := { s.security with fuses := r } }

theorem test_hyp_SecurityWrites :
    (∀ x ∈ [(0, 0x5A), (1, 0xA5), (2, 0xFF)],
      (locked x.1).writes (oneMsg (locked x.1) P.LOCK_ADVANCE 0xFFFF 2 (leBytes 1 x.2)) P.LOCK_ADVANCE 0xFFFF 2 (leBytes 1 x.2)) ∧
    (∀ x ∈ [(0, 0), (0, 1), (1, 0), (3, 1)], ∀ slot ∈ [1, 7], let s := locked x.1;
      let v := leBytes 4 0 ++ listSet (keyValue slot 127) 2 (BitVec.ofNat 8 x.2);
      s.writes (oneMsg s P.KEY_LOAD 0xFFFF 14 v) P.KEY_LOAD 0xFFFF 14 v) ∧
    (∀ n ∈ [1, 7], let s := locked 3; s.writes (oneMsg s P.KEY_REVOKE 0xFFFF 2 (leBytes 1 n)) P.KEY_REVOKE 0xFFFF 2 (leBytes 1 n)) ∧
    (∀ r ∈ [0, 1, 2, 3], let s := locked r; s.writes (oneMsg s P.DEBUG_UNLOCK 0xFFFF 2 [1]) P.DEBUG_UNLOCK 0xFFFF 2 [1]) ∧
    (let s := locked 2; let v := leBytes 4 0 ++ List.replicate 32 0; s.writes (oneMsg s P.ATTEST_REQUEST 0xFFFF 14 v) P.ATTEST_REQUEST 0xFFFF 14 v) := by
  refine ⟨fun x hx => writes_of ?_, fun x hx slot hs => writes_of ?_, fun n hn => writes_of ?_, fun r hr => writes_of ?_, writes_of ?_⟩
  · revert x; simp only [writable, clearable]; decide +kernel
  · revert x slot; simp only [writable, clearable]; decide +kernel
  · revert n; simp only [writable, clearable]; decide +kernel
  · revert r; simp only [writable, clearable]; decide +kernel
  · simp only [writable, clearable]; decide +kernel

theorem test_hyp_SecurityWrites_rest :
    (∀ x ∈ [(0, 0x5A), (1, 0xA5), (2, 0xFF)], (locked x.1).lock < lockRank x.2 ∧ (locked x.1).security.burning = none ∧
      (oneMsg (locked x.1) P.LOCK_ADVANCE 0xFFFF 2 (leBytes 1 x.2)).broadcast = false ∧ (locked x.1).lock = x.1) ∧
    (∀ slot ∈ [1, 7], (keyValue slot 127).length = 40 ∧ slot = ((keyValue slot 127).getD 0 0).toNat ∧
      127 = ((keyValue slot 127).getD 1 0).toNat ∧ (((keyValue slot 127).drop 3).take 5).any (· ≠ 0) = false ∧
      ((locked 1).key slot).loaded = false) ∧
    (∀ slot ∈ [1, 7], ∀ k : List Byte, ((locked 3).setKey slot { loaded := true, key := k, perms := 127 }).keyKept = true) ∧
    (∀ n ∈ [1, 7], ((locked 3).setKey n {}).keyKept = true) ∧
    ((locked 2).security.nonce = none ∧ (locked 2).security.requestAt = 0 ∧ (locked 2).security.q < attestMax) := by
  refine ⟨by decide +kernel, by decide +kernel, ?_, by decide +kernel, by decide +kernel⟩
  intro slot hs k
  simp only [List.mem_cons, List.not_mem_nil, or_false] at hs
  rcases hs with rfl | rfl <;> simp [State.keyKept, State.key, State.setKey, locked, served, withPars, SMap.set, bit]
  all_goals exact ⟨0, by decide, by simp [SMap.put, SMap.get], by simp [SMap.put, SMap.get]⟩

/-- A device with the update fields `c`. -/
def updating (r : Role) (c : PartUpd) : State := served { dev r with start := { role := r, resetting := none }, upd := c }
/-- A manifest that names `n` blocks of `len` bytes in all; byte 8 is 5, its MANIFEST_ID. -/
def manifestOf (n len : Nat) : List Byte :=
  leBytes 2 0 ++ leBytes 2 n ++ leBytes 4 len ++ leBytes 4 5 ++ List.replicate 3140 0

/-- A head that waits for byte 4,095 of block 0 of two, block 1 being the next to verify. -/
def filling : State :=
  updating .head { st := U.LOADING, manifest := manifestOf 2 5000, verified := 1, part := (List.range 4095).map fun i => (i, 1) }

theorem test_hyp_UpdateWrites :
    (∀ off ∈ [0, 3150], ∀ x ∈ [U.IDLE, U.TRIAL], let s := updating .head { st := x };
      s.writes (oneMsg s P.MANIFEST 0xFFFF 14 (leBytes 4 off ++ [1, 2])) P.MANIFEST 0xFFFF 14 (leBytes 4 off ++ [1, 2])) ∧
    (∀ off ∈ [0, 4094], ∀ s ∈ [filling, updating .head {}],
      s.writes (oneMsg s P.IMAGE_DATA 0xFFFF 14 (leBytes 4 off ++ [1, 2])) P.IMAGE_DATA 0xFFFF 14 (leBytes 4 off ++ [1, 2])) ∧
    (∀ id ∈ [P.ACTIVATE, P.CONFIRM, P.UPDATE_ABORT], ∀ x ∈ [0, 1, 2, 3, 4],
      let s := updating .head { st := x, manifest := manifestOf 2 5000, windowAt := some 0, trial := 1 };
      s.writes (oneMsg s id 0xFFFF 2 [1]) id 0xFFFF 2 [1]) := by
  refine ⟨fun off ho x hx => writes_of ?_, fun off ho s hs => writes_of ?_, fun id hi x hx => writes_of ?_⟩
  · revert off x; simp only [writable, clearable]; decide +kernel
  · revert off s; simp only [writable, clearable]; decide +kernel
  · revert id x; simp only [writable, clearable]; decide +kernel

theorem test_hyp_UpdateWrites_rest :
    (let s := updating .head { st := U.READY, manifest := manifestOf 2 5000 };
      s.upd.st = U.READY ∧ s.neighboursOk = true ∧ mfield s.upd.manifest 22 2 ≤ s.upd.format ∧ s.sluice ≠ SL.ACTIVE) ∧
    (let s := updating .head { st := U.TRIAL, manifest := manifestOf 2 5000, windowAt := some 0, trial := 1 };
      s.windowOver = false ∧ s.start.resetting = none ∧ s.start.tripped = false) ∧
    (updating .head { st := U.TRIAL }).windowOver = true ∧
    (let s := filling;
      let part := (List.range 2).foldl (fun m i => SMap.set 0 m (4094 + i) 1) s.upd.part;
      s.isTile = false ∧ 4096 ≤ (part.filter fun (e : Nat × Nat) => e.1 / 4096 == 0).length ∧ 0 < s.blockCount ∧
        blockThere ((s.slot s.imageSlot).block 0) = false ∧ s.upd.verified ≠ 0 ∧ s.upd.verified < s.blockCount ∧
        blockThere ((s.slot s.imageSlot).block s.upd.verified) = false ∧ (4094 + 2 - 1) / 4096 = 0 ∧ (∀ i ∈ [0, 1], (s.upd.part.filter fun (e : Nat × Nat) => e.1 / 4096 == i).length < 4096)) := by
  decide +kernel
/-- A head with 5 as the number of the newest log record, and a fault with number 3 in its log. -/
def logged : State :=
  served { withPars (dev .head) [(P.LOG_SEQ, 0, 5), (P.DUMP_WRITE, 0, 7)] with
    ev := { log := [(3, some { seq := 3, repeats := 0, body := { (dev .head).mkRaise 600 0 0 0 with sev := 2 } })] } }

theorem test_hyp_CounterAndLogWrites :
    (∀ e ∈ ([(P.DUMP_READ, 0xFFFF, 5, leBytes 4 7), (P.DUMP_READ, 0xFFFF, 5, leBytes 4 0), (P.COUNTER_FREEZE, 0xFFFF, 2, [1]),
        (P.COUNTER_FREEZE, 0xFFFF, 2, [2]), (P.COUNTER_FREEZE, 0xFFFF, 2, [3]), (P.SAMPLE_CLEAR, 0xFFFF, 2, [1]),
        (P.FAULT_CLEAR, 0xFFFF, 5, leBytes 4 4), (P.FAULT_CLEAR, 0xFFFF, 5, leBytes 4 5), (P.IRQ_PENDING, 0xFFFF, 3, [0xFF, 0x1F])] :
        List (Nat × Nat × Nat × List Byte)),
      logged.writes (oneMsg logged e.1 e.2.1 e.2.2.1 e.2.2.2) e.1 e.2.1 e.2.2.1 e.2.2.2) ∧
    7 ≤ logged.par P.DUMP_WRITE ∧ logged.par P.LOG_SEQ = 5 := by
  refine ⟨fun e he => writes_of ?_, by decide +kernel, by decide +kernel⟩
  revert e; simp only [writable, clearable]; decide +kernel

/-! A signature that verifies: the public keys are the roots that the signatures lead to. -/

theorem shaRound_length (v : List Nat) (k : Nat) : (shaRound v k).length = v.length := by
  unfold shaRound; split <;> rfl

theorem shaBlock_length (h : List Nat) (b : List Byte) : (shaBlock h b).length = h.length := by
  have key (l : List (Nat × Nat)) (v : List Nat) : (l.foldl (fun v e => shaRound v (e.1 + e.2)) v).length = v.length := by
    induction l generalizing v with
    | nil => rfl
    | cons a l ih => rw [List.foldl_cons, ih, shaRound_length]
  simp [shaBlock, key]

theorem leBytes_length (n v : Nat) : (leBytes n v).length = n := by
  induction n generalizing v with
  | zero => rfl
  | succ n ih => simp [leBytes, ih]

theorem sha256_length (m : List Byte) : (sha256 m).length = 32 := by
  have key (n : Nat) (h : List Nat) (m : List Byte) : (shaBlocks n h m).length = h.length := by
    induction n generalizing h m with
    | zero => rfl
    | succ n ih => rw [shaBlocks, ih, shaBlock_length]
  have flat (l : List Nat) : (l.flatMap (beBytes 4)).length = 4 * l.length := by
    induction l with
    | nil => rfl
    | cons a l ih => simp [beBytes, leBytes_length, ih]; omega
  simp only [sha256, flat, key]; rfl

theorem bytesAt_left (a b : List Byte) (o n : Nat) (h : o + n ≤ a.length) : bytesAt (a ++ b) o n = bytesAt a o n := by
  apply List.map_congr_left
  intro i hi
  rw [List.mem_range] at hi
  rw [List.getD_eq_getElem?_getD, List.getD_eq_getElem?_getD, List.getElem?_append_left (by omega)]

theorem bytesAt_right (a b : List Byte) (o n : Nat) (h : a.length ≤ o) : bytesAt (a ++ b) o n = bytesAt b (o - a.length) n := by
  apply List.map_congr_left
  intro i _
  rw [List.getD_eq_getElem?_getD, List.getD_eq_getElem?_getD, List.getElem?_append_right (by omega),
    show o + i - a.length = o - a.length + i by omega]

theorem bytesAt_all (a : List Byte) (n : Nat) (h : a.length = n) : bytesAt a 0 n = a := by
  apply List.ext_getElem
  · simp [bytesAt, h]
  · intro i hi _
    simp only [bytesAt, List.length_map, List.length_range] at hi
    simp [bytesAt, h, hi]

theorem bytesAt_length (a : List Byte) (o n : Nat) : (bytesAt a o n).length = n := by simp [bytesAt]

theorem lmsClimb_length (i : List Byte) (l : List (List Byte)) (n : Nat) (x : List Byte) (h : x.length = 32) :
    (lmsClimb i l n x).length = 32 := by
  induction l generalizing n x with
  | nil => exact h
  | cons p l ih => exact ih _ _ (sha256_length _)

/-- Every message has a signature under some key. -/
theorem lms_signed (m : List Byte) : ∃ pub sig, pub.length = 56 ∧ sig.length = 1452 ∧ lmsVerify pub m sig = true := by
  let sig : List Byte := beBytes 4 0 ++ beBytes 4 4 ++ List.replicate 1120 0 ++ beBytes 4 6 ++ List.replicate 320 0
  let front : List Byte := beBytes 4 6 ++ beBytes 4 4 ++ List.replicate 16 0
  let ident : List Byte := List.replicate 16 0
  let leaf := sha256 (ident ++ beBytes 4 (1024 + 0) ++ beBytes 2 0x8282 ++ lmotsKey (ident ++ beBytes 4 0) (bytesAt sig 4 1124) m)
  let root := lmsClimb ident ((List.range 10).map fun i => bytesAt sig (1132 + 32 * i) 32) (1024 + 0) leaf
  have hr : root.length = 32 := lmsClimb_length _ _ _ _ (sha256_length _)
  have hf : front.length = 24 := by decide
  have hs : sig.length = 1452 := by
    simp only [sig, List.length_append, List.length_replicate, beBytes, List.length_reverse, leBytes_length]
  have hl (o n : Nat) (h : o + n ≤ 24) : bytesAt (front ++ root) o n = bytesAt front o n := bytesAt_left _ _ _ _ (by omega)
  have hi : bytesAt (front ++ root) 8 16 = ident := by rw [hl _ _ (by omega)]; decide
  have h24 : bytesAt (front ++ root) 24 32 = root := by
    rw [bytesAt_right _ _ _ _ (by omega), hf]; exact bytesAt_all _ _ hr
  have hq : beNat (bytesAt sig 0 4) = 0 := by decide
  refine ⟨front ++ root, sig, by simp [hf, hr], hs, ?_⟩
  have h0 : beNat (bytesAt (front ++ root) 0 4) = 6 := by rw [hl _ _ (by omega)]; decide
  have h4 : beNat (bytesAt (front ++ root) 4 4) = 4 := by rw [hl _ _ (by omega)]; decide
  have h5 : beNat (bytesAt sig 4 4) = 4 := by decide
  have h6 : beNat (bytesAt sig 1128 4) = 6 := by decide +kernel
  have hp : (front ++ root).length = 56 := by simp [hf, hr]
  unfold lmsVerify
  rw [hi, hq, h24, h0, h4, h5, h6, hs, hp]
  simp only [BEq.rfl, Bool.true_and, decide_true, Nat.zero_lt_succ, Bool.and_true]
  exact beq_self_eq_true root

theorem hss_signed (m : List Byte) : ∃ key sig, key.length = 60 ∧ sig.length = 2964 ∧ hssVerify key m sig = true := by
  obtain ⟨p1, s1, hp1, hs1, h1⟩ := lms_signed m
  obtain ⟨p0, s0, hp0, hs0, h0⟩ := lms_signed p1
  have hb (n v : Nat) : (beBytes n v).length = n := by simp [beBytes, leBytes_length]
  refine ⟨beBytes 4 2 ++ p0, beBytes 4 1 ++ s0 ++ p1 ++ s1, by simp [hb, hp0], by simp [hb, hp1, hs0, hs1], ?_⟩
  have a1 : bytesAt (beBytes 4 1 ++ s0 ++ p1 ++ s1) 1456 56 = p1 := by
    rw [bytesAt_left _ _ _ _ (by simp [hb, hs0, hp1]), bytesAt_right _ _ _ _ (by simp [hb, hs0])]
    simpa [hb, hs0] using bytesAt_all _ _ hp1
  have a2 : bytesAt (beBytes 4 1 ++ s0 ++ p1 ++ s1) 4 1452 = s0 := by
    rw [bytesAt_left _ _ _ _ (by simp [hb, hs0, hp1]), bytesAt_left _ _ _ _ (by simp [hb, hs0]),
      bytesAt_right _ _ _ _ (by simp [hb])]
    simpa [hb] using bytesAt_all _ _ hs0
  have a3 : bytesAt (beBytes 4 1 ++ s0 ++ p1 ++ s1) 1512 1452 = s1 := by
    rw [bytesAt_right _ _ _ _ (by simp [hb, hs0, hp1])]
    simpa [hb, hs0, hp1] using bytesAt_all _ _ hs1
  have a4 : bytesAt (beBytes 4 2 ++ p0) 4 56 = p0 := by
    rw [bytesAt_right _ _ _ _ (by simp [hb])]
    simpa [hb] using bytesAt_all _ _ hp0
  have a5 : beNat (bytesAt (beBytes 4 1 ++ s0 ++ p1 ++ s1) 0 4) = 1 := by
    rw [List.append_assoc, List.append_assoc, bytesAt_left _ _ _ _ (by simp [hb])]; decide
  have a6 : beNat (bytesAt (beBytes 4 2 ++ p0) 0 4) = 2 := by
    rw [bytesAt_left _ _ _ _ (by simp [hb])]; decide
  have l1 : (beBytes 4 2 ++ p0).length = 60 := by simp [hb, hp0]
  have l2 : (beBytes 4 1 ++ s0 ++ p1 ++ s1).length = 2964 := by simp [hb, hp1, hs0, hs1]
  simp only [hssVerify, a1, a2, a3, a4, a5, a6, l1, l2, h0, h1, BEq.rfl, Bool.and_self]

/-! The root of trust and the machine -/

theorem test_hyp_SecurityAndAttestation :
    (∀ r ∈ [1, 3], ({ dev .tile with security := { burning := some r } } : State).security.burning = some r) ∧
    (dev .tile).security.burning = none ∧ (dev .tile).od.waiting = [] ∧
    (let n : List Byte := List.replicate 32 7; ({ dev .tile with security := { nonce := some n } } : State).security.nonce = some n ∧
      n.length = 32) := by
  decide

/-- A head without a boot to come, chain 15 UP, with the update fields `c`. -/
def relaying (c : PartUpd) : State := { headChain with upd := c }
/-- A block of 4,096 bytes of 0. -/
def block0 : List Byte := List.replicate 4096 0

theorem test_hyp_ManifestsAndBlocks :
    (∀ v ∈ [0, 1], let s := relaying { st := U.LOADING, manifest := manifestOf 2 5000, verified := v };
      s.chainUp 15 = true ∧ s.upd.bootDue = false ∧ s.start.noFirmware = false ∧ 5 = s.manifestId ∧ block0.length = 4096 ∧
        blockThere block0 = true ∧ s.upd.st = U.LOADING ∧ 0 < s.blockCount ∧ blockThere ((s.slot s.inactive).block 0) = false ∧
        (v = 0 ∨ 0 ≠ s.upd.verified ∧ s.upd.verified < s.blockCount ∧
          blockThere ((s.slot s.inactive).block s.upd.verified) = false) ∧
        0 + 1 < s.blockCount ∧ blockThere ((s.slot s.inactive).block (0 + 1)) = false) ∧
    (let s := relaying { st := U.LOADING, manifest := manifestOf 1 4000 }; 0 = s.upd.verified ∧ 0 + 1 = s.blockCount) ∧
    (∀ st ∈ [U.IDLE, U.LOADING], let s := relaying { st := st, manifest := [] }; s.upd.st ≠ U.TRIAL ∧
      mfield (manifestOf 1 4000) 8 4 ≠ s.manifestId ∧ s.manifestOk [] = false) ∧
    (relaying {}).isTile = false ∧ (relaying {}).relayUp 15 = true ∧ (relaying {}).relayRoom 15 (relaying {}).stateSize false = true ∧
    (let s := relaying { manifest := manifestOf 1 4000, neighbours := [(15, { id := 5 })] };
      s.upd.stateDue.contains 15 = false ∧ s.manifestId ≠ 0 ∧ (s.neighbour 15).id = s.manifestId ∧ s.relayUp 15 = true ∧
        s.relayRoom 15 blockSize true = true ∧ ∀ i ∈ s.heldBlocks, i ∈ (s.neighbour 15).held) ∧
    (let s := relaying { manifest := manifestOf 1 4000, neighbours := [(15, { id := 5 })], slots := [(0, { blocks := [(0, block0)] })] };
      0 ∈ s.heldBlocks ∧ 0 ∉ (s.neighbour 15).held ∧ 0 ∉ (s.neighbour 15).sent ∧ s.heldBlocks = [0]) := by
  decide +kernel

/-- The head of a manifest of two blocks, then a hash, then zeros. -/
def hashed (x : List Byte) : List Byte := (manifestOf 2 5000).take 24 ++ x ++ List.replicate 3096 0

theorem hashed_hash (x : List Byte) (h : x.length = 32) : bytesAt (hashed x) 24 32 = x := by
  have h24 : ((manifestOf 2 5000).take 24).length = 24 := by decide
  apply List.ext_getElem
  · simp [bytesAt, h]
  · intro i hi _
    have hi' : i < 32 := by simpa [bytesAt] using hi
    simp only [bytesAt, List.getElem_map, List.getElem_range, hashed, List.getD_eq_getElem?_getD, List.append_assoc]
    rw [List.getElem?_append_right (by omega), List.getElem?_append_left (by omega), h24, Nat.add_sub_cancel_left]
    simp [h, hi']

/-- A block whose hash is what the manifest wants, and one whose hash is not, whatever the hash function is. -/
theorem test_hyp_ManifestsAndBlocks_hash :
    let x := bytesAt (sha256 block0) 0 32;
    x = (relaying { st := U.LOADING, manifest := hashed x }).wantHash 0 ∧
      x ≠ (relaying { st := U.LOADING, manifest := hashed (x.map (· + 1)) }).wantHash 0 ∧ 2 = mfield (hashed x) 2 2 ∧
      5 = mfield (hashed x) 8 4 := by
  intro x
  have hx : x.length = 32 := by simp [x, bytesAt]
  refine ⟨(hashed_hash x hx).symm, fun h => ?_, rfl, rfl⟩
  have h' : x = x.map (· + 1) := h.trans (hashed_hash _ (by simpa using hx))
  have h0 := congrArg (fun l : List Byte => l.getD 0 0) h'
  cases hl : x with
  | nil => simp [hl] at hx
  | cons a l => simp [hl] at h0

/-- A write passes the checks of its value when what the item names takes it and no rule adds a check for it. -/
theorem writeStatus_of {s t : State} {i : OdItem} (h : (match s.lookup i with
      | .inr p => !s.readOnly p && i.ty.toNat == p.ty.code && valueStatus p i.value == ST.OK && decide (p.id / 65536 = 7)
      | .inl _ => false) = true) : s.writeStatus t i = ST.OK := by
  unfold State.writeStatus
  revert h
  cases s.lookup i with
  | inl st => simp
  | inr p =>
    simp only [Bool.and_eq_true, Bool.not_eq_true', beq_iff_eq, decide_eq_true_eq, and_imp]
    intro h1 h2 h3 h4
    have hn (q : Nat) (hq : q / 65536 ≠ 7) : p.id ≠ q := fun e => hq (e ▸ h4)
    rw [h1, if_neg Bool.false_ne_true, if_neg (not_not.mpr h2), h3, if_neg (not_not.mpr rfl)]
    simp only [State.arrivalStatus, hn P.LANE_USE (by decide), hn P.LANE_RATE (by decide), hn P.REDUNDANCY_MODE (by decide),
      hn P.TIME_SOURCE (by decide), hn P.TICK_RATE (by decide), hn P.EXPANSION_LUT (by decide),
      hn P.HEALTH_COMMAND (by decide), hn P.LEDGER_SLOTS (by decide), or_self, if_false]

theorem lookup_same {s t : State} (i : OdItem) (h1 : t.start = s.start) (h2 : t.dict = s.dict) (h3 : t.security.fuses = s.security.fuses) :
    t.lookup i = s.lookup i := by
  have e1 : t.isTile = s.isTile := by simp only [State.isTile, h1]
  have e2 : t.elements = s.elements := by funext p; simp only [State.elements, h1]
  have e3 : t.rdy = s.rdy := by funext n; simp only [State.rdy, h1]
  have e4 : t.debugOpen = s.debugOpen := by simp only [State.debugOpen, State.par, State.lock, State.sideB, e1, h1, h2, h3]
  unfold State.lookup; rw [e1, e2, e3, e4]

theorem readOnly_same {s t : State} (h : t.start = s.start) : t.readOnly = s.readOnly := by
  funext p; simp only [State.readOnly, State.isTile, State.isPairedTile, State.paired, h]

/-- A head that has collected the bytes `x` of a manifest, with root hash `k`. -/
def collecting (x : SMap Nat) (k : List Byte) : State :=
  { updating .head {} with upd := { incoming := x }, security := { (updating .head {}).security with rootHash := k } }

/-- What it has collected does not decide whether the next bytes may be written. -/
theorem collecting_writes (x : SMap Nat) (k : List Byte) : let s := collecting x k;
    s.writes (oneMsg s P.MANIFEST 0xFFFF 14 (leBytes 4 0 ++ [0, 0])) P.MANIFEST 0xFFFF 14 (leBytes 4 0 ++ [0, 0]) := by
  have h : writable (updating .head {}) P.MANIFEST 0xFFFF 14 (leBytes 4 0 ++ [0, 0]) := by
    simp only [writable, clearable]; decide +kernel
  obtain ⟨⟨h1, h2, h3, h4, h5, h6, -, h8, h9, h10, h11, h12⟩, -, h14, h15⟩ := h
  refine writes_of ⟨⟨h1, h2, h3, h4, h5, h6, rfl, h8, h9, h10, h11, h12⟩, writeStatus_of ?_, h14, h15⟩
  rw [lookup_same (t := collecting x k) (s := updating .head {}) _ rfl rfl rfl,
    readOnly_same (t := collecting x k) (s := updating .head {}) rfl]
  decide +kernel

/-- A manifest of two blocks with a signature that verifies under its key, the root key of the device: bytes 0 and 1, both 0, are
still to come, or nothing is. -/
theorem test_hyp_manifestOk : ∃ m : List Byte, m.length = 3152 ∧ mfield m 8 4 = 5 ∧ m.take 3 = [0, 0, 2] ∧
    ∀ s : State, s.security.rootHash = bytesAt (sha256 (bytesAt m 128 60)) 0 32 → s.security.floor = 0 → s.manifestOk m = true := by
  obtain ⟨key, sig, hk, hs, hv⟩ := hss_signed ((manifestOf 2 5000).take 128)
  have hf : ((manifestOf 2 5000).take 128).length = 128 := by
    simp only [List.length_take, manifestOf, List.length_append, leBytes_length, List.length_replicate]; rfl
  have hl (o n : Nat) (h : o + n ≤ 128) : bytesAt ((manifestOf 2 5000).take 128 ++ key ++ sig) o n = bytesAt ((manifestOf 2 5000).take 128) o n := by
    rw [List.append_assoc]; exact bytesAt_left _ _ _ _ (by omega)
  have h128 : bytesAt ((manifestOf 2 5000).take 128 ++ key ++ sig) 128 60 = key := by
    rw [bytesAt_left _ _ _ _ (by simp only [List.length_append, hf, hk]; omega), bytesAt_right _ _ _ _ (by omega), hf]
    exact bytesAt_all _ _ hk
  refine ⟨(manifestOf 2 5000).take 128 ++ key ++ sig, by simp only [List.length_append, hf, hk, hs], ?_, ?_, fun s h0 h1 => ?_⟩
  · rw [mfield, hl _ _ (by omega)]; decide
  · rw [List.append_assoc, List.take_append_of_le_length (by omega), List.take_take]; decide
  · have ht : ((manifestOf 2 5000).take 128 ++ key ++ sig).take 128 = (manifestOf 2 5000).take 128 := by
      rw [List.append_assoc, List.take_left' hf]
    have hd : ((manifestOf 2 5000).take 128 ++ key ++ sig).drop 188 = sig :=
      List.drop_left' (by simp only [List.length_append, hf, hk])
    have hn : ((manifestOf 2 5000).take 128 ++ key ++ sig).length = 3152 := by simp only [List.length_append, hf, hk, hs]
    simp only [State.manifestOk, h128, ht, hd, hv, hn, mfield, hl 18 2 (by omega), hl 2 2 (by omega), hl 4 4 (by omega),
      hl 88 40 (by omega), h0, h1, BEq.rfl]
    decide

/-- The head that still lacks bytes 0 and 1 of that manifest, and what it has with them. -/
theorem test_hyp_UpdateWrites_accepted : ∃ (m : List Byte) (x : SMap Nat) (k : List Byte), let s := collecting x k;
    let inc := (List.range 2).foldl (fun m i => SMap.set 0 m (0 + i) ((([0, 0] : List Byte).getD i 0).toNat + 1)) s.upd.incoming;
    (inc.map fun (e : Nat × Nat) => BitVec.ofNat 8 (e.2 - 1)) = m ∧ inc.length = 3152 ∧ s.manifestOk m = true ∧
      mfield m 8 4 ≠ s.manifestId ∧ s.upd.st ≠ U.TRIAL := by
  obtain ⟨m, hm, hid, h3, hok⟩ := test_hyp_manifestOk
  refine ⟨m, (2, 3) :: (List.range 3149).map fun i => (i + 3, (m.getD (i + 3) 0).toNat + 1), bytesAt (sha256 (bytesAt m 128 60)) 0 32, ?_⟩
  refine ⟨?_, ?_, hok _ rfl rfl, ?_, fun h => nomatch h⟩
  · show (0#8) :: (0#8) :: (2#8) :: List.map _ (List.map _ (List.range 3149)) = m
    rw [List.map_map]
    have hd : m.drop 3 = (List.range 3149).map (fun i => BitVec.ofNat 8 ((m.getD (i + 3) 0).toNat + 1 - 1)) := by
      apply List.ext_getElem
      · simp only [List.length_drop, hm, List.length_map, List.length_range]
      · intro i h1 h2
        simp only [List.length_map, List.length_range] at h2
        simp only [List.getElem_drop, List.getElem_map, List.getElem_range, Nat.add_sub_cancel, BitVec.ofNat_toNat]
        rw [List.getD_eq_getElem?_getD, List.getElem?_eq_getElem (by omega)]
        simp [Nat.add_comm]
    conv_rhs => rw [← List.take_append_drop 3 m, h3, hd]
    simp only [List.cons_append, List.nil_append, Function.comp_def]
    rfl
  · show (List.length (_ :: _ :: _ :: List.map _ (List.range 3149))) = 3152
    simp only [List.length_cons, List.length_map, List.length_range]
  · rw [hid]; exact (by decide : 5 ≠ mfield [] 8 4)

/-- The last bytes of a manifest with no signature are to come. -/
def lastBytes : State :=
  updating .head { incoming := [(0, 1), (1, 1), (2, 3), (3, 1), (4, 0x89), (5, 0x14), (6, 1), (7, 1), (8, 6), (9, 1), (10, 1), (11, 1)] ++
                     (List.range 3138).map fun i => (12 + i, 1) }

theorem test_hyp_UpdateWrites_manifest :
    lastBytes.writes (oneMsg lastBytes P.MANIFEST 0xFFFF 14 (leBytes 4 3150 ++ [0, 0])) P.MANIFEST 0xFFFF 14 (leBytes 4 3150 ++ [0, 0]) ∧
    ((List.range 2).foldl (fun m i => SMap.set 0 m (3150 + i) 1) lastBytes.upd.incoming).map
      (fun (e : Nat × Nat) => BitVec.ofNat 8 (e.2 - 1)) = manifestOf 2 5000 ∧
    lastBytes.upd.st ≠ U.TRIAL ∧ lastBytes.manifestOk (manifestOf 2 5000) = false := by
  refine ⟨writes_of ?_, ?_⟩
  · simp only [writable, clearable]; decide +kernel
  · decide +kernel

theorem second_hash (a x y z : List Byte) (ha : a.length = 24) (hx : x.length = 32) (hy : y.length = 32) :
    bytesAt (a ++ x ++ y ++ z) 56 32 = y := by
  apply List.ext_getElem
  · simp [bytesAt, hy]
  · intro i hi _
    have hi' : i < 32 := by simpa [bytesAt] using hi
    simp only [bytesAt, List.getElem_map, List.getElem_range, List.getD_eq_getElem?_getD, List.append_assoc]
    rw [List.getElem?_append_right (by omega), List.getElem?_append_right (by omega), List.getElem?_append_left (by omega)]
    simp [ha, hx, hy, hi', show 56 + i - 24 - 32 = i by omega]

/-- The image of the one block of a manifest agrees with its format and security version 0 and its body's hash. -/
theorem test_hyp_ManifestsAndBlocks_ready (h1 : Config.hdrFormat (block0.take 4000) = 0)
    (h2 : Config.hdrSecurity (block0.take 4000) = 0) :
    let y := bytesAt (sha256 (Config.imageBody (block0.take 4000))) 0 32;
    let m := (manifestOf 1 4000).take 24 ++ bytesAt (sha256 block0) 0 32 ++ y ++ List.replicate 3064 0;
    let img := ({ blocks := SMap.set [] [] 0 block0 } : Slot).image (mfield m 4 4);
    Config.hdrFormat img = mfield m 0 2 ∧ Config.hdrSecurity img = mfield m 18 2 ∧
      bytesAt (sha256 (Config.imageBody img)) 0 32 = bytesAt m 56 32 ∧ mfield m 2 2 = 1 ∧ mfield m 8 4 = 5 := by
  intro y m img
  have hi : img = block0.take 4000 := by
    have : ({ blocks := SMap.set [] [] 0 block0 } : Slot).image 4000 = block0.take 4000 := by decide +kernel
    exact this
  have hy : bytesAt m 56 32 = y := second_hash _ _ y _ (by decide) (by simp [bytesAt]) (by simp [y, bytesAt])
  rw [hi, hy]
  exact ⟨h1, h2, rfl, rfl, rfl⟩

theorem test_hyp_DumpRecordsAndSamples :
    (let s : State := { dev .tile with perf := { writing := some [1, 2] } };
      s.perf.writing = some [1, 2] ∧ s.bgPaused Bg.DUMP = false) ∧
    (let s : State := { dev .tile with therm := { pauses := [Bg.DUMP] }, perf := { writing := some [1] } };
      s.perf.writing = some [1] ∧ s.bgPaused Bg.DUMP = true) ∧
    (dev .tile).perf.writing = none ∧
    (∀ i ∈ [0, 7, 8, 9], ∀ c ∈ [(0, 0, 1023, 0), (2, 0, 1024, 0), (2, 0, 1024, 1), (1, 0, 0, 0), (0, 1, 0, 0), (0, 15, 0, 0), (0, 16, 0, 0)],
      let s : State := { withPars (dev (if i = 8 then .head else .tile)) [(P.SAMPLE_PERIOD, i, 1), (P.SAMPLE_MODE, 0, c.2.2.2)] with
        perf := { left := [(i, 1)], cycle := c.1, queue := List.replicate c.2.1 (0, 0, []), held := c.2.2.1 } };
      s.par P.SAMPLE_PERIOD i ≠ 0 ∧ (i < 8 → s.isTile = true ∧ SMap.get 0 s.perf.left i = 1) ∧ (i = 8 → s.isHead = true) ∧
        s.perf.queue.length = c.2.1 ∧ (c.1 = 1 ↔ s.perf.cycle = s.controlNow + 1) ∧ s.perf.held = c.2.2.1 ∧
        s.par P.SAMPLE_MODE = c.2.2.2) := by
  decide +kernel

theorem test_hyp_RootOfTrustKept :
    let s : State := { dev .tile with security := { fuses := 1, burning := some 3, q := attestMax, flashQ := attestMax, nonce := some [] },
                                       pending := [.lockBurnComplete] };
    s.rootOk ∧ ∃ t, step s = .next t := by
  refine ⟨?_, _, rfl⟩
  simp only [State.rootOk]; decide

theorem test_hyp_StepRunsTheFront :
    ({ dev .tile with pending := [.lockBurnComplete] } : State).pending = .lockBurnComplete :: [] ∧ (dev .tile).pending = [] ∧
      ∃ t, step (dev .tile) = .next t := ⟨rfl, rfl, _, rfl⟩

theorem test_hyp_StepRunsTheFront_phases : ∀ n ∈ [14, 15], ({ dev .tile with phase := n } : State).phase = n ∧
    (n < 15 ∨ 15 ≤ n) ∧ ({ dev .tile with phase := n } : State).pending = [] := by decide

/-! Operands out of their bounds: one term for each check of `Instr.wellFormed` -/

/-- Is refused. -/
def refused (i : Instr) : Prop := i.wellFormed = false
/-- A packet whose payload is one byte too long. -/
def longPacket : VideoPacket := { packet0 with payload := List.replicate 4097 0 }

theorem test_refused_lanes :
    refused (.laneAdaptComplete 31 0 [0, 0, 0, 0]) ∧ refused (.adaptUpdate 31 0 [0, 0, 0, 0] true) ∧
      refused (.adaptUpdate 31 2 [0, 0, 0, 0, 0] true) ∧ refused (.adaptUpdate 31 0 [0, 0, 0, 0, -2] true) ∧
      refused (.eyeScanPoint 65536) ∧ refused (.auxRequest 3 (.nativeRead (2 ^ 20) 1) true false) ∧
      refused (.auxRequest 3 (.nativeWrite 0 []) true false) ∧ refused (.auxRequest 3 (.i2cRead 0 17) true false) ∧
      refused (.auxRequest 3 (.i2cWrite 0 (List.replicate 17 0)) true false) ∧ refused (.heartbeatEdge (2 ^ 32)) :=
  ⟨rfl, rfl, rfl, rfl, rfl, rfl, rfl, rfl, rfl, rfl⟩

theorem test_refused_testBlock (data : List Byte) (h : data.length = 65537) : refused (.testBlockReceive 31 none data) := by
  show decide (data.length ≤ 65536) = false
  rw [h]; decide

theorem test_refused_packets :
    refused (.videoPacket 15 longPacket) ∧ refused (.ingressPacket 15 longPacket) ∧ refused (.fencePacket 15 longPacket) := by
  have h : packetOk longPacket = false := by
    show decide ((List.replicate 4097 (0 : Byte)).length ≤ 4096) = false
    rw [List.length_replicate]; decide
  exact ⟨h, h, h⟩

theorem test_refused_control (c : ControlHead) (b : ControlBody) : refused (.controlPacket 15 { c with received := 1401 } b) := by
  show decide (1401 ≤ 1400) = false
  decide

theorem test_refused_sets :
    refused (.flipSet 0 [(15, List.replicate 9 0)]) ∧ refused (.spanRecord 0 0 true 0 0 [(1024, 1)]) := ⟨rfl, rfl⟩

theorem test_refused_memory :
    refused (.dramRequest 23 true (2 ^ 33) 3 false 15) ∧ refused (.dramTrainingComplete (List.replicate 15 0)) ∧
      refused (.cisternScrub 95 0 true true) ∧ refused (.thermalSample (some 32768)) ∧ refused (.thermalSample (some (-32768))) :=
  ⟨rfl, rfl, rfl, rfl, rfl⟩

theorem test_refused_update :
    refused (.updBlock 19 0 2048 block0 true) ∧ refused (.updBlock 19 0 0 [] true) ∧
      refused (.updState 19 0 0 0 [2048] [] true) ∧ refused (.updState 19 0 0 0 [] [0] true) := by
  simp [refused, Instr.wellFormed]

theorem test_refused_security (h : OdHead) :
    refused (.keyLoadClear h (List.replicate 39 0)) ∧ refused (.keyLoadWrapped h (List.replicate 41 0)) ∧
      refused (.attestRequest h (List.replicate 31 0) true) := ⟨rfl, rfl, rfl⟩

theorem test_refused_frame (f : RxFrame) : refused (.macFrameReceive 8 { f with length := 65536 }) := by
  show decide (65536 < 65536) = false
  decide

theorem test_wellFormed_some :
    Instr.wellFormed (.videoPacket 15 packet0) = true ∧ Instr.wellFormed (.heartbeatEdge 0) = true ∧
      Instr.wellFormed (.dramRequest 23 true (2 ^ 33 - 1) 3 false 15) = true ∧ Instr.wellFormed (.thermalSample none) = true :=
  ⟨rfl, rfl, rfl, rfl⟩

/-! Worked values of the spec -/

/-- R475: a flash image with q = 61,000, restored while the checkpoint bits 0 to 17 are burned, gives index 73,728. -/
theorem test_restoredFlashImage : ({ flashQ := 61000, checkpoints := 2 ^ 18 - 1 } : PartSec).startIndex = 73728 := by decide

/-- Registers wrap at 32 bits: SUB and ADDI on q1 = 5 (R335). -/
theorem test_sequencerWraps :
    (match exec (.seqAddi 0) (seqOn 0 go [wordOf 0x05 (2 ^ 18 - 6), 0]) with | .next t => (t.seq 0).reg 1 | _ => 0) = 2 ^ 32 - 1 := by
  decide +kernel

end Sys2Proof.Tests
end

section
/-! Laws that the statements of chapter 01 share: what raising an event does to the counts, and which elements an operation spares. -/

namespace Sys2Proof.Machine

/-! Events and their counts (R510) -/

/-- Raising an event leaves every element but its own count and that of EV 24 alone. -/
theorem State.par_raiseRec_ne (s : State) (r : Raise) {id idx : Nat} (h : pkey id idx ≠ pkey P.EVENT_COUNT r.ev)
    (ho : pkey id idx ≠ pkey P.EVENT_COUNT E.EVENT_OVERFLOW) : (s.raiseRec r).par id idx = s.par id idx := by
  have hb : (s.bump P.EVENT_COUNT r.ev).par id idx = s.par id idx := s.par_setPar_ne _ h
  have hq := State.par_enqueue (s.bump P.EVENT_COUNT r.ev) r id idx
  simp only [State.raiseRec]
  split
  · rename_i t e
    rw [e] at hq
    exact hq.trans hb
  · rename_i t e
    rw [e] at hq
    have hover : (t.bump P.EVENT_COUNT E.EVENT_OVERFLOW).par id idx = s.par id idx :=
      (t.par_setPar_ne _ ho).trans (hq.trans hb)
    split
    · rw [State.par_enqueue]
      exact hover
    · exact hover

/-- Raising an event other than EV 24 counts it once (R510). -/
theorem State.told_raiseRec (s : State) (r : Raise) (h : r.ev ≠ E.EVENT_OVERFLOW) :
    s.told (s.raiseRec r) r.ev := by
  have hk : pkey P.EVENT_COUNT r.ev ≠ pkey P.EVENT_COUNT E.EVENT_OVERFLOW := by
    unfold pkey
    omega
  have hb := State.par_bump s P.EVENT_COUNT r.ev 32
  have hq := State.par_enqueue (s.bump P.EVENT_COUNT r.ev) r P.EVENT_COUNT r.ev
  simp only [State.told, State.raiseRec]
  split
  · rename_i t e
    rw [e] at hq
    exact hq.trans hb
  · rename_i t e
    rw [e] at hq
    have hover : (t.bump P.EVENT_COUNT E.EVENT_OVERFLOW).par P.EVENT_COUNT r.ev = (s.par P.EVENT_COUNT r.ev + 1) % 2 ^ 32 :=
      (t.par_setPar_ne _ hk).trans (hq.trans hb)
    split
    · rw [State.par_enqueue]
      exact hover
    · exact hover

/-- Raising an event other than EV 24 counts it once (R510). -/
theorem State.told_raise (s : State) (e i d c : Nat) (h : e ≠ E.EVENT_OVERFLOW) : s.told (s.raise e i d c) e :=
  s.told_raiseRec _ h

/-- An event counted once stays counted once over an operation that leaves its count alone. -/
theorem State.told_of_after {s t u : State} {e : Nat} (h : s.told t e)
    (hu : u.par P.EVENT_COUNT e = t.par P.EVENT_COUNT e) : s.told u e :=
  hu.trans h

/-- An event is counted once from any state with the same count. -/
theorem State.told_of_before {s t u : State} {e : Nat} (h : t.told u e)
    (ht : t.par P.EVENT_COUNT e = s.par P.EVENT_COUNT e) : s.told u e := by
  unfold State.told at *
  rw [h, ht]

/-! Elements an operation spares -/

/-- Element `idx` of parameter `id` is none of the parameters `ids`, nor the count of one of the events `evs`. -/
def spared (ids evs : List Nat) (id idx : Nat) : Bool :=
  decide (idx < 65536) && !ids.contains id && (id != P.EVENT_COUNT || !evs.contains idx)

section
variable {ids evs : List Nat} {id idx : Nat}

theorem spared_iff : spared ids evs id idx = true ↔
    idx < 65536 ∧ id ∉ ids ∧ (id = P.EVENT_COUNT → idx ∉ evs) := by
  simp only [spared, Bool.and_eq_true, Bool.or_eq_true, decide_eq_true_eq, Bool.not_eq_true', bne_iff_ne, and_assoc,
    List.contains_eq_mem, decide_eq_false_iff_not]
  tauto

theorem State.par_setPar_spared (h : spared ids evs id idx = true) (s : State) {id' idx' : Nat} (v : Nat) (hm : id' ∈ ids)
    (hi : idx' < 65536) : (s.setPar id' idx' v).par id idx = s.par id idx := by
  rw [spared_iff] at h
  obtain ⟨hx, hid, -⟩ := h
  exact s.par_setPar_other v (fun e => hid (e ▸ hm)) hi hx

theorem State.par_raiseRec_spared (h : spared ids evs id idx = true) (s : State) {r : Raise} (hm : r.ev ∈ evs)
    (ho : E.EVENT_OVERFLOW ∈ evs) (hr : r.ev < 65536) : (s.raiseRec r).par id idx = s.par id idx := by
  rw [spared_iff] at h
  obtain ⟨hx, -, hev⟩ := h
  have hne (e : Nat) (he : e ∈ evs) (hs : e < 65536) : pkey id idx ≠ pkey P.EVENT_COUNT e := by
    intro hk
    unfold pkey at hk
    have hid : id = P.EVENT_COUNT := by omega
    have hidx : idx = e := by omega
    exact hev hid (hidx ▸ he)
  exact s.par_raiseRec_ne r (hne _ hm hr) (hne _ ho (by decide))

theorem State.par_raise_spared (h : spared ids evs id idx = true) (s : State) {e : Nat} (i d c : Nat) (hm : e ∈ evs)
    (ho : E.EVENT_OVERFLOW ∈ evs) (hr : e < 65536) : (s.raise e i d c).par id idx = s.par id idx :=
  State.par_raiseRec_spared h s hm ho hr

theorem State.par_raiseIf_spared (h : spared ids evs id idx = true) (s : State) (b : Bool) {e : Nat} (i d : Nat)
    (hm : e ∈ evs) (ho : E.EVENT_OVERFLOW ∈ evs) (hr : e < 65536) : (s.raiseIf b e i d).par id idx = s.par id idx := by
  cases b with
  | true => exact State.par_raise_spared h s i d 0 hm ho hr
  | false => rfl

end

end Sys2Proof.Machine
end

section
/-! Laws of ready bits and of REDUNDANCY_SYNC's evaluation: what they change at all, and which elements they spare. -/

namespace Sys2Proof.Machine

/-- A rising ready bit changes READY_MAP, its times and READY_TIME, nothing else (R78, R80). -/
theorem State.setReady_frame (s : State) (i : Nat) : s.setReady i =
    { s with start := { s.start with ready := (s.setReady i).start.ready, highWater := (s.setReady i).start.highWater
                                     readyAt := (s.setReady i).start.readyAt }
             dict := (s.setReady i).dict } := by
  unfold State.setReady
  split <;> rfl

/-- Clearing ready bits changes READY_MAP and raises an event, nothing else (R78). -/
theorem State.keepReady_frame (s : State) (m : Nat) : s.keepReady m =
    { s with start := { s.start with ready := readyClosure s.isHead (s.start.ready &&& m) }
             dict := (s.keepReady m).dict, ev := (s.keepReady m).ev } := by
  unfold State.keepReady
  simp only
  split
  · rw [State.raiseIf_eq]
  · rfl

/-- What REDUNDANCY_SYNC's evaluation can do: nothing, let the bit rise, with or without EV 189, or clear it (R189). -/
theorem State.syncEval_cases (s : State) : s.syncEval = s ∨ s.syncEval = s.setReady B.REDUNDANCY_SYNC ∨
    (∃ t, t = s.setReady B.REDUNDANCY_SYNC ∧
      s.syncEval = State.raise { t with red := { t.red with rejoin := false } } E.REJOINED) ∨
    s.syncEval = s.clearReady B.REDUNDANCY_SYNC := by
  simp only [State.syncEval]
  split
  · exact .inl rfl
  · split
    · split
      · exact .inr (.inr (.inl ⟨_, rfl, rfl⟩))
      · exact .inr (.inl rfl)
    · exact .inr (.inr (.inr rfl))

/-- REDUNDANCY_SYNC's evaluation changes READY_MAP, READY_TIME, the events and the mark of a started standby, nothing else. -/
theorem State.syncEval_frame (s : State) : s.syncEval =
    { s with start := { s.start with ready := s.syncEval.start.ready, highWater := s.syncEval.start.highWater
                                     readyAt := s.syncEval.start.readyAt }
             dict := s.syncEval.dict, ev := s.syncEval.ev, red := { s.red with rejoin := s.syncEval.red.rejoin } } := by
  rcases s.syncEval_cases with h | h | ⟨t, rfl, h⟩ | h <;> rw [h]
  · rw [State.setReady_frame]
  · rw [State.raise_eq, State.setReady_frame]
  · rw [State.clearReady, State.keepReady_frame]

theorem State.syncEval_blobs (s : State) : s.syncEval.blobs = s.blobs := by rw [State.syncEval_frame]
theorem State.syncEval_red (s : State) : s.syncEval.red = { s.red with rejoin := s.syncEval.red.rejoin } := by
  rw [State.syncEval_frame]

section
variable {ids evs : List Nat} {id idx : Nat}

theorem State.par_setReady_spared (h : spared ids evs id idx = true) (s : State) {i : Nat} (hm : P.READY_TIME ∈ ids)
    (hi : i < 65536) : (s.setReady i).par id idx = s.par id idx := by
  unfold State.setReady
  split
  · rfl
  · exact State.par_setPar_spared h _ _ hm hi

theorem State.par_keepReady_spared (h : spared ids evs id idx = true) (s : State) (m : Nat) (hl : E.READY_LOST ∈ evs)
    (ho : E.EVENT_OVERFLOW ∈ evs) : (s.keepReady m).par id idx = s.par id idx := by
  unfold State.keepReady
  simp only
  split
  · exact State.par_raiseIf_spared h _ _ _ _ hl ho (by decide)
  · rfl

/-- The events that the evaluation of ready bits and REDUNDANCY_SYNC may raise. -/
def syncEvents : List Nat := [E.EVENT_OVERFLOW, E.READY_LOST, E.REJOINED]

theorem State.par_syncEval_spared (h : spared ids evs id idx = true) (s : State) (hm : P.READY_TIME ∈ ids)
    (he : syncEvents ⊆ evs) : s.syncEval.par id idx = s.par id idx := by
  have ho : E.EVENT_OVERFLOW ∈ evs := he (by decide)
  have hset := State.par_setReady_spared h s (i := B.REDUNDANCY_SYNC) hm (by decide)
  rcases s.syncEval_cases with e | e | ⟨t, rfl, e⟩ | e <;> rw [e]
  · exact hset
  · exact (State.par_raise_spared h _ _ _ _ (he (by decide)) ho (by decide)).trans hset
  · exact State.par_keepReady_spared h s _ (he (by decide)) ho

end

/-! Blobs read back -/

theorem leBytes_length (n v : Nat) : (leBytes n v).length = n := by
  induction n generalizing v with
  | zero => rfl
  | succ n ih => simp [leBytes, ih]

theorem leNat_leBytes (n v : Nat) : leNat (leBytes n v) = v % 256 ^ n := by
  induction n generalizing v with
  | zero => simp [leBytes, leNat, Nat.mod_one]
  | succ n ih =>
    simp only [leBytes, leNat, ih, BitVec.toNat_ofNat, Nat.reducePow]
    rw [Nat.pow_succ', Nat.mod_mul]

/-- The first bytes written at the start of an element read back. -/
theorem State.blob_setBlob_append (s : State) (id idx : Nat) (bs cs : List Byte) :
    (s.setBlob id idx 0 (bs ++ cs)).blob id idx 0 bs.length = bs := by
  refine List.ext_getElem (by simp [State.blob]) fun i hi hi' => ?_
  have hb := State.blobByte_setBlob s id idx 0 (bs ++ cs) i (by simp; omega)
  simp only [Nat.zero_add] at hb
  simp [State.blob, hb, List.getElem_append_left hi']

/-- A number written at the start of an element reads back, modulo its width. -/
theorem State.blobNat_setBlob_leBytes (s : State) (id idx n v : Nat) (cs : List Byte) :
    (s.setBlob id idx 0 (leBytes n v ++ cs)).blobNat id idx 0 n = v % 256 ^ n := by
  have h := State.blob_setBlob_append s id idx (leBytes n v) cs
  rw [leBytes_length] at h
  rw [State.blobNat, h, leNat_leBytes]

/-- States with the same bytes read alike. -/
theorem State.blobByte_congr {s t : State} (h : t.blobs = s.blobs) (id idx off : Nat) :
    t.blobByte id idx off = s.blobByte id idx off := by
  simp only [State.blobByte, h]

theorem State.blobNat_congr {s t : State} (h : t.blobs = s.blobs) (id idx off n : Nat) :
    t.blobNat id idx off n = s.blobNat id idx off n := by
  simp only [State.blobNat, State.blob, State.blobByte_congr h]

/-! Sets of numbers -/

theorem NSet.mem_add (m : NSet) (k n : Nat) : n ∈ NSet.add m k ↔ n ∈ m ∨ n = k := by
  induction m with
  | nil => simp [NSet.add]
  | cons j m ih =>
    simp only [NSet.add]
    split
    · simp only [List.mem_cons]; tauto
    · split
      · simp only [List.mem_cons]; subst_vars; tauto
      · simp only [List.mem_cons, ih]; tauto

theorem NSet.mem_del (m : NSet) (k n : Nat) : n ∈ NSet.del m k ↔ n ∈ m ∧ n ≠ k := by
  simp [NSet.del]

end Sys2Proof.Machine
end

section
/-! Canvases, span records, signatures and health reports (R17, R23, R171, R187, R188). -/

namespace Sys2Proof.Machine

/-! Canvases -/

@[simp] theorem State.canvasOf_putCanvas (s : State) (k : Nat) (c : Canvas) : (s.putCanvas k c).canvasOf k = c := by
  simp [State.canvasOf, State.putCanvas]

/-- The record of frame `k` that a head of a span sends (R171). -/
def State.spanRecOf (s : State) (k : Nat) (done : Bool) : SpanRec :=
  { tick := k, role := s.par P.SPAN_ROLE, done := done, rate := s.rate, digest := s.spanDigestOf k
    hist := (s.canvasOf k).hist, at_ := s.now }

/-- Sending the span record changes the head's own record, the links and the record of what was sent (R171). -/
theorem State.spanSend_eq (s : State) (k : Nat) (done : Bool) : s.spanSend k done =
    { s with scan := { s.scan with own := some (s.spanRecOf k done) }, chain := (s.spanSend k done).chain
             outbox := (s.spanSend k done).outbox } := by
  have hloop (u : State) : (fun (t : State) => ({ t with chain := u.chain, outbox := u.outbox } : State))
      (s.spanSend k done) = { s with scan := { s.scan with own := some (s.spanRecOf k done) }, chain := u.chain
                                     outbox := u.outbox } := by
    unfold State.spanSend
    exact State.each_keeps (fun t => ({ t with chain := u.chain, outbox := u.outbox } : State)) _ _ _ fun t i => by
      split <;> rfl
  exact hloop (s.spanSend k done)

/-- The stamp of a whole canvas: when it was done, and how long it took (R17). -/
def State.stampCanvas (s : State) (k : Nat) : State :=
  let t := (s.putCanvas k { s.canvasOf k with complete := true, doneAt := s.imageNow }).setPar P.COMPOSE_TIME 0
    (min (s.imageNow - s.comp.startedAt) 0xFFFFFFFF)
  { t with comp := { t.comp with hists := ((k, (s.canvasOf k).hist) :: t.comp.hists).take 3 } }

theorem State.par_stampCanvas (s : State) (k : Nat) {id : Nat} (h : id ≠ P.COMPOSE_TIME) {idx : Nat} (hi : idx < 65536) :
    (s.stampCanvas k).par id idx = s.par id idx :=
  State.par_setPar_other (s.putCanvas k { s.canvasOf k with complete := true, doneAt := s.imageNow }) (idx := 0) _ h
    (by decide) hi

/-- A canvas that is whole is stamped (R17); its span record follows at most in a span (R171). -/
theorem execCanvasComplete_eq (k : Nat) (s : State) (hh : s.isHead = true) (hs : (s.canvasOf k).started = true)
    (hf : (s.canvasOf k).frame = k) (hc : (s.canvasOf k).complete = false) (hp : s.comp.poisoned = false)
    (ht : s.therm.composePauses = []) (hq : ∀ c, c < 4 → s.clusterOut .image c = false) :
    ∃ b : Bool, (b = true → (s.stampCanvas k).par P.SPAN_ROLE ≠ 0) ∧
      execCanvasComplete k s = .next (if b then (s.stampCanvas k).spanSend k true else s.stampCanvas k) := by
  have hany : (List.range 4).any (s.clusterOut .image) = false := by
    simpa [List.any_eq_false] using hq
  simp only [execCanvasComplete]
  rw [if_neg (by simp [hh, hs, hf, hc, hp, ht, hany])]
  refine ⟨_, fun hb => ?_, rfl⟩
  simp only [Bool.and_eq_true, bne_iff_ne] at hb
  exact hb.1.1

/-- What the stamp of a whole canvas leaves in the registers (R17, R278). -/
theorem execCanvasComplete_stamps (k : Nat) (s : State) (hh : s.isHead = true) (hs : (s.canvasOf k).started = true)
    (hf : (s.canvasOf k).frame = k) (hc : (s.canvasOf k).complete = false) (hp : s.comp.poisoned = false)
    (ht : s.therm.composePauses = []) (hq : ∀ c, c < 4 → s.clusterOut .image c = false) :
    ∃ t, execCanvasComplete k s = .next t ∧
      t.canvasOf k = { s.canvasOf k with complete := true, doneAt := s.imageNow } ∧
      t.par P.COMPOSE_TIME = min (s.imageNow - s.comp.startedAt) 0xFFFFFFFF ∧
      (s.par P.SPAN_ROLE = 0 → t = { s with comp := t.comp, dict := t.dict }) := by
  have hcan : (s.stampCanvas k).canvasOf k = { s.canvasOf k with complete := true, doneAt := s.imageNow } :=
    State.canvasOf_putCanvas s k _
  have htime : (s.stampCanvas k).par P.COMPOSE_TIME = min (s.imageNow - s.comp.startedAt) 0xFFFFFFFF :=
    State.par_setPar (s.putCanvas k _) P.COMPOSE_TIME 0 _
  have hrole : (s.stampCanvas k).par P.SPAN_ROLE = s.par P.SPAN_ROLE := s.par_stampCanvas k (by decide) (by decide)
  obtain ⟨b, hb, he⟩ := execCanvasComplete_eq k s hh hs hf hc hp ht hq
  refine ⟨_, he, ?_⟩
  cases b with
  | false => exact ⟨hcan, htime, fun _ => rfl⟩
  | true =>
    rw [if_pos rfl, State.spanSend_eq]
    exact ⟨hcan, htime, fun h0 => absurd (hrole.trans h0) (hb rfl)⟩

/-- A poisoned read or a quiesced cluster keeps a canvas from being whole (R17, R23, R30). -/
theorem execCanvasComplete_held (k : Nat) (s : State)
    (h : s.comp.poisoned = true ∨ ∃ c, c < 4 ∧ s.clusterOut .image c = true) : execCanvasComplete k s = .next s := by
  unfold execCanvasComplete
  rw [if_pos]
  simp only [Bool.or_eq_true, List.any_eq_true, List.mem_range]
  obtain h | ⟨c, hc, hq⟩ := h
  · exact .inl (.inl (.inr h))
  · exact .inr ⟨c, hc, hq⟩

/-- A frame not yet missed is counted as missed once (R17). -/
theorem State.composeMiss_new (s : State) (k : Nat) (h : k ∉ s.scan.missed) :
    (s.composeMiss k).par P.COMPOSE_MISSES = (s.par P.COMPOSE_MISSES + 1) % 2 ^ 32 ∧
      k ∈ (s.composeMiss k).scan.missed ∧ (s.composeMiss k).comp.canvases = s.comp.canvases ∧
      ∀ e, e < 65536 → (s.composeMiss k).par P.EVENT_COUNT e = s.par P.EVENT_COUNT e := by
  unfold State.composeMiss
  rw [if_neg (by simpa using h)]
  exact ⟨State.par_bump s _ _ _, (NSet.mem_add _ _ _).2 (.inr rfl), rfl,
    fun e he => s.par_bump_other (id := P.COMPOSE_MISSES) (id' := P.EVENT_COUNT) (by decide) (by decide) he⟩

/-- A whole canvas that was stamped in time stays at its deadline (R17). -/
theorem execComposeDeadline_inTime (k : Nat) (tie : Bool) (s : State) (hc : (s.canvasOf k).complete = true)
    (ht : inTime tie (s.canvasOf k).doneAt s.imageNow = true) : execComposeDeadline k tie s = .next s := by
  unfold execComposeDeadline
  simp [hc, ht]

/-- The canvas of frame `k` is discarded with what was counted of it (R17). -/
def State.discardCanvas (s : State) (k : Nat) : State :=
  let t := s.putCanvas k { s.canvasOf k with started := false, complete := false }
  { t with comp := { t.comp with hists := t.comp.hists.filter fun p => p.1 != k } }

/-- A canvas that is not whole in time is discarded, counted, told and missed (R17). -/
theorem execComposeDeadline_late (k : Nat) (tie : Bool) (s : State) (hh : s.isHead = true)
    (hs : (s.canvasOf k).started = true) (hf : (s.canvasOf k).frame = k)
    (hl : (s.canvasOf k).complete = false ∨ inTime tie (s.canvasOf k).doneAt s.imageNow = false)
    (hm : k ∉ s.scan.missed) :
    ∃ t, execComposeDeadline k tie s = .next t ∧ (t.canvasOf k).started = false ∧
      t.par P.COMPOSE_MISSES = (s.par P.COMPOSE_MISSES + 1) % 2 ^ 32 ∧ k ∈ t.scan.missed ∧ s.told t E.COMPOSE_LATE := by
  have hlate : ((s.canvasOf k).complete && inTime tie (s.canvasOf k).doneAt s.imageNow) = false := by
    rw [Bool.and_eq_false_iff]
    exact hl
  have he : execComposeDeadline k tie s = .next (((s.discardCanvas k).composeMiss k).raise E.COMPOSE_LATE) := by
    simp only [execComposeDeadline]
    rw [if_neg (by simp [hh, hs, hf]), if_neg (by simp [hlate])]
    rfl
  obtain ⟨hcount, hmem, hcan, hev⟩ := State.composeMiss_new (s.discardCanvas k) k hm
  refine ⟨_, he, ?_, ?_, ?_, ?_⟩
  · rw [State.canvasOf, State.raise_eq, hcan]
    exact congrArg Canvas.started (State.canvasOf_putCanvas s k _)
  · rw [State.par_raise _ _ _ _ _ (by decide) (by decide) (by decide)]
    exact hcount
  · rw [State.raise_eq]
    exact hmem
  · exact State.told_of_before (State.told_raise _ _ _ _ _ (by decide)) (hev _ (by decide))

/-! Span records -/

/-- A head without its own record at the span deadline sends one that says not done (R171, R278). -/
theorem execSpanDeadline_sends (k : Nat) (tie : Bool) (s : State) (hr : s.par P.SPAN_ROLE ≠ 0) (hh : s.isHead = true)
    (ho : ∀ r, s.scan.own = some r → r.tick ≠ k) :
    execSpanDeadline k tie s = .next (s.spanSend k false) := by
  simp only [execSpanDeadline, hr, hh, Bool.true_eq_false, or_self, if_false]
  split
  · rename_i r hown
    rw [if_neg (ho r hown)]
  · rfl

/-- A head that has sent its record keeps it at the span deadline (R171). -/
theorem execSpanDeadline_sent (k : Nat) (tie : Bool) (s : State) (hr : s.par P.SPAN_ROLE ≠ 0) (hh : s.isHead = true)
    (r : SpanRec) (ho : s.scan.own = some r) (hk : r.tick = k) : execSpanDeadline k tie s = .next s := by
  simp [execSpanDeadline, hr, hh, ho, hk]

/-- A partner's record newer than the last one is taken, another is not (R171). -/
theorem execSpanRecord_newer (k : Nat) (ro : Fin 4) (dn : Bool) (ra : Fin 16) (dg : BitVec 64) (hi : List (Nat × Nat))
    (s : State) (hr : s.par P.SPAN_ROLE ≠ 0) (hh : s.isHead = true) :
    ((∀ r, s.scan.partner = some r → r.tick < k) → execSpanRecord k ro dn ra dg hi s =
      .next { s with scan := { s.scan with partner := some { tick := k, role := ro, done := dn, rate := ra,
                                                             digest := dg.toNat, hist := hi, at_ := s.now } } }) ∧
    ((∃ r, s.scan.partner = some r ∧ k ≤ r.tick) → execSpanRecord k ro dn ra dg hi s = .next s) := by
  simp only [execSpanRecord, hr, hh, Bool.true_eq_false, or_self, if_false]
  refine ⟨fun h => ?_, fun ⟨r, hp, hk⟩ => ?_⟩
  · split
    · rename_i r hp
      rw [if_neg (Nat.not_le.2 (h r hp))]
    · rfl
  · simp [hp, hk]

/-! Signatures and health reports -/

/-- The report of frame `k` takes the counts of the compared signatures and drops the signatures up to the frame (R187). -/
def State.dropSignatures (s : State) (k run : Nat) : State :=
  { s with red := { s.red with
    run := run, subCompared := 0, subDiffered := 0, subSkipped := 0
    sigOwn := s.red.sigOwn.filter fun r => decide (k < r.tick)
    sigPartner := s.red.sigPartner.filter fun r => decide (k < r.tick) } }

/-- A redundant device's report begins with the frame and the sluice state; EV 188 may follow (R187, R188). -/
theorem execHealthReportPublish_eq (k : Nat) (s : State) (hm : s.redMode = true) :
    ∃ run rest b d, execHealthReportPublish k s = .next (State.syncEval
      (((s.dropSignatures k run).setBlob P.HEALTH_REPORT 0 0 (leBytes 6 k ++ (leBytes 1 s.sluice ++ rest))).raiseIf b
        E.SIGNATURE_DIFFER d)) := by
  unfold execHealthReportPublish
  rw [if_neg (by simp [hm])]
  lift_lets
  intro q run red dropped flags epoch digest written
  clear_value flags epoch digest
  obtain ⟨compared, differed, skipped, dest⟩ := q
  obtain ⟨rest, hwritten⟩ : ∃ rest, written =
      State.setBlob dropped P.HEALTH_REPORT 0 0 (leBytes 6 k ++ (leBytes 1 dropped.sluice ++ rest)) := by
    simp only [written, List.append_assoc]
    exact ⟨_, rfl⟩
  clear_value written
  subst hwritten
  cases dest with
  | none => exact ⟨run, rest, false, 0, rfl⟩
  | some d => exact ⟨run, rest, _, d, rfl⟩

/-- A redundant device's report names the frame and its sluice state, and the signatures up to the frame are gone (R187, R188). -/
theorem execHealthReportPublish_reports (k : Nat) (s : State) (hm : s.redMode = true) :
    ∃ t, execHealthReportPublish k s = .next t ∧ t.blobNat P.HEALTH_REPORT 0 0 6 = k % 2 ^ 48 ∧
      t.blobByte P.HEALTH_REPORT 0 6 = s.sluice % 256 ∧ (∀ r ∈ t.red.sigOwn ++ t.red.sigPartner, k < r.tick) ∧
      t.red.subCompared = 0 ∧ t.red.subDiffered = 0 ∧ t.red.subSkipped = 0 := by
  obtain ⟨run, rest, b, d, he⟩ := execHealthReportPublish_eq k s hm
  refine ⟨_, he, ?_⟩
  simp only [State.blobNat_congr (State.syncEval_blobs _), State.blobByte_congr (State.syncEval_blobs _),
    State.blobNat_congr (State.raiseIf_blobs _ _ _ _ _), State.blobByte_congr (State.raiseIf_blobs _ _ _ _ _)]
  rw [State.syncEval_red]
  simp only [State.raiseIf_red, State.setBlob_red]
  refine ⟨State.blobNat_setBlob_leBytes _ _ _ 6 k _, ?_, fun r hr => ?_, rfl, rfl, rfl⟩
  · have hbyte := State.blobByte_setBlob (s.dropSignatures k run) P.HEALTH_REPORT 0 0
      (leBytes 6 k ++ (leBytes 1 s.sluice ++ rest)) 6 (by simp [leBytes_length])
    simpa [leBytes] using hbyte
  · simp only [State.dropSignatures, List.mem_append, List.mem_filter, decide_eq_true_eq] at hr
    exact hr.elim (·.2) (·.2)

/-- Settles O39: each clause is the law of its command. -/
theorem canvasAndSpan : Obligations.CanvasAndSpan := by
  unfold Obligations.CanvasAndSpan
  refine fun k s => ⟨fun hh hs hf => ⟨?_, ?_, fun tie => ⟨?_, ?_⟩⟩, fun hr hh => ⟨fun tie ho => ?_, ?_, ?_⟩, fun tie => ?_, ?_⟩
  · exact fun hc hp ht hq => execCanvasComplete_stamps k s hh hs hf hc hp ht hq
  · exact execCanvasComplete_held k s
  · exact execComposeDeadline_inTime k tie s
  · exact execComposeDeadline_late k tie s hh hs hf
  · refine ⟨_, s.spanRecOf k false, execSpanDeadline_sends k tie s hr hh ho, ?_, rfl, rfl, rfl, rfl, rfl⟩
    rw [State.spanSend_eq]
  · exact fun r tie => execSpanDeadline_sent k tie s hr hh r
  · exact fun ro dn ra dg hi => execSpanRecord_newer k ro dn ra dg hi s hr hh
  · refine ⟨_, rfl, rfl, fun r => ?_, rfl⟩
    simp only [List.mem_filter, Bool.or_eq_true, bne_iff_ne]
    tauto
  · exact execHealthReportPublish_reports k s

end Sys2Proof.Machine
end

section
/-! Laws of the sluice's operations (R176 to R182, R190): the state entered, what an operation may change at all, and which elements
it spares. -/

namespace Sys2Proof.Machine

/-! What entering a sluice state may change -/

/-- The state without what entering a sluice state may change. -/
def State.sansGo (s : State) : State :=
  { s with
    dict := [], ev := {}, outbox := [], drive := {}, pump := {}, health := {}
    start := { s.start with groups := [], ready := 0, highWater := false, readyAt := [] }
    od := { s.od with holder := none, lastMsg := 0, txn := none }
    red := { s.red with window := false, bySwitch := false, actingAt := none, activeAt := none, drives := false
                        rejoin := false, manager := false, fixtures := false, switching := false } }

/-- The state without what a transition of the sluice may change, a claim's cause and counts among it. -/
def State.sansSluice (s : State) : State :=
  let t := s.sansGo
  { t with red := { t.red with cause := 0, lostPartner := false, evidence := 0, leftAt := none } }

theorem State.sansSluice_of_sansGo {s t : State} (h : t.sansGo = s.sansGo) : t.sansSluice = s.sansSluice := by
  unfold State.sansSluice
  rw [h]

theorem State.entries_of_sansGo {s t : State} (h : t.sansGo = s.sansGo) : t.red.entries = s.red.entries :=
  (congrArg (fun u : State => u.red.entries) h : t.sansGo.red.entries = s.sansGo.red.entries)
theorem State.otherManager_of_sansGo {s t : State} (h : t.sansGo = s.sansGo) : t.red.otherManager = s.red.otherManager :=
  (congrArg (fun u : State => u.red.otherManager) h : t.sansGo.red.otherManager = s.sansGo.red.otherManager)
theorem State.role_of_sansSluice {s t : State} (h : t.sansSluice = s.sansSluice) : t.start.role = s.start.role :=
  (congrArg (fun u : State => u.start.role) h : t.sansSluice.start.role = s.sansSluice.start.role)
theorem State.record_of_sansSluice {s t : State} (h : t.sansSluice = s.sansSluice) : t.start.record = s.start.record :=
  (congrArg (fun u : State => u.start.record) h : t.sansSluice.start.record = s.sansSluice.start.record)
theorem State.broken_of_sansSluice {s t : State} (h : t.sansSluice = s.sansSluice) : t.red.broken = s.red.broken :=
  (congrArg (fun u : State => u.red.broken) h : t.sansSluice.red.broken = s.sansSluice.red.broken)
theorem State.switchTick_of_sansSluice {s t : State} (h : t.sansSluice = s.sansSluice) :
    t.red.switchTick = s.red.switchTick :=
  (congrArg (fun u : State => u.red.switchTick) h : t.sansSluice.red.switchTick = s.sansSluice.red.switchTick)

theorem State.setPar_sansGo (s : State) (id idx v : Nat) : (s.setPar id idx v).sansGo = s.sansGo := rfl
theorem State.send_sansGo (s : State) (o : Out) : (s.send o).sansGo = s.sansGo := rfl

theorem State.raise_sansGo (s : State) (e i d c : Nat) : (s.raise e i d c).sansGo = s.sansGo := by
  rw [State.raise_eq]
  rfl

theorem State.raiseIf_sansGo (s : State) (b : Bool) (e i d : Nat) : (s.raiseIf b e i d).sansGo = s.sansGo := by
  rw [State.raiseIf_eq]
  rfl

theorem State.syncEval_sansGo (s : State) : s.syncEval.sansGo = s.sansGo := by
  rw [State.syncEval_frame]
  rfl

theorem State.pwoGroups_sansGo (s : State) : s.pwoGroups.sansGo = s.sansGo := by
  unfold State.pwoGroups
  split
  · rfl
  · exact State.each_keeps State.sansGo _ _ _ fun t g => by dsimp only; split <;> rfl

theorem State.becomeManager_sansGo (s : State) : s.becomeManager.sansGo = s.sansGo := by
  unfold State.becomeManager
  split
  · rfl
  · rw [State.send_sansGo, State.raise_sansGo, State.setPar_sansGo]
    exact (State.raise_sansGo _ _ _ _ _).trans rfl

/-! Entering a state -/

/-- The register of the sluice takes state `new`; a claim's window and its kind last in CLAIM alone (R178, R179). -/
def State.sluiceSet (s : State) (new : Nat) : State :=
  let t := s.setPar P.SLUICE_STATE 0 new
  { t with red := { t.red with
    window := t.red.window && new == SL.CLAIM
    bySwitch := t.red.bySwitch && new == SL.CLAIM
    actingAt := if new = SL.YIELD then t.red.actingAt else none } }

/-- The nets of a paired member follow the state: driving ends or begins (R193, R195). -/
def State.netsFollow (s : State) (drove : Bool) : State :=
  if drove && !s.driving then { s with red := { s.red with activeAt := none, drives := false } }
  else if !drove && s.driving && s.isPairedTile then s.memberActive else s

/-- The manager function and the fixture outputs go with the acting states (R181, R182). -/
def State.sluiceDuties (s : State) (was : Bool) : State :=
  if s.acting && !was then
    let t := { s with red := { s.red with rejoin := false } }
    if t.red.switching then t else t.becomeManager
  else if was && !s.acting then
    { s with red := { s.red with manager := false, fixtures := false, switching := false } }
  else s

/-- State `new` entered, before the duties that follow it: the register, the nets and the PWO groups (R193). -/
def State.entered (s : State) (new : Nat) : State := ((s.sluiceSet new).netsFollow s.driving).pwoGroups

/-- Entering a state: the register and the nets, the manager function, and REDUNDANCY_SYNC at the end. -/
theorem State.sluiceGo_eq (s : State) (new : Nat) :
    s.sluiceGo new = ((s.entered new).sluiceDuties s.acting).syncEval := by
  unfold State.sluiceGo State.entered State.sluiceSet State.netsFollow State.sluiceDuties
  rfl

theorem State.netsFollow_sansGo (s : State) (drove : Bool) : (s.netsFollow drove).sansGo = s.sansGo := by
  unfold State.netsFollow
  split
  · rfl
  · split <;> rfl

theorem State.sluiceDuties_sansGo (s : State) (was : Bool) : (s.sluiceDuties was).sansGo = s.sansGo := by
  simp only [State.sluiceDuties]
  split
  · split
    · rfl
    · rw [State.becomeManager_sansGo]
      rfl
  · split <;> rfl

theorem State.entered_sansGo (s : State) (new : Nat) : (s.entered new).sansGo = s.sansGo := by
  rw [State.entered, State.pwoGroups_sansGo, State.netsFollow_sansGo]
  rfl

theorem State.sluiceGo_sansGo (s : State) (new : Nat) : (s.sluiceGo new).sansGo = s.sansGo := by
  rw [State.sluiceGo_eq, State.syncEval_sansGo, State.sluiceDuties_sansGo, State.entered_sansGo]

theorem State.pwoGroups_frame (s : State) : s.pwoGroups =
    { s with start := { s.start with groups := s.pwoGroups.start.groups } } := by
  have hloop (g : SMap PinMode) : (fun (t : State) => ({ t with start := { t.start with groups := g } } : State))
      s.pwoGroups = { s with start := { s.start with groups := g } } := by
    unfold State.pwoGroups
    split
    · rfl
    · exact State.each_keeps (fun t => ({ t with start := { t.start with groups := g } } : State)) _ _ _ fun t i => by
        dsimp only
        split <;> rfl
  exact hloop s.pwoGroups.start.groups

/-- Entering a state touches, before its duties, the register, the marks of the claim and of driving, and what drives the nets. -/
theorem State.entered_frame (s : State) (new : Nat) : s.entered new =
    { s with dict := (s.setPar P.SLUICE_STATE 0 new).dict
             start := { s.start with groups := (s.entered new).start.groups }
             red := { s.red with window := (s.entered new).red.window, bySwitch := (s.entered new).red.bySwitch
                                 actingAt := (s.entered new).red.actingAt, activeAt := (s.entered new).red.activeAt
                                 drives := (s.entered new).red.drives }
             drive := (s.entered new).drive, pump := (s.entered new).pump, health := (s.entered new).health } := by
  unfold State.entered
  rw [State.pwoGroups_frame]
  unfold State.netsFollow
  split
  · rfl
  · split <;> rfl

theorem State.od_entered (s : State) (new : Nat) : (s.entered new).od = s.od := by rw [State.entered_frame]
theorem State.od_syncEval (s : State) : s.syncEval.od = s.od := by rw [State.syncEval_frame]

/-! The elements that entering a state spares -/

/-- The parameters and events that entering a sluice state may write and raise. -/
def sluicePars : List Nat := [P.READY_TIME, P.SLUICE_STATE, P.EPOCH_HIGHEST, P.LEASE_EPOCH]
def sluiceEvents : List Nat :=
  [E.EVENT_OVERFLOW, E.READY_LOST, E.REJOINED, E.EPOCH_ADVANCED, E.LEASE_CHANGED, E.EPOCH_SPENT]

/-- Those of taking up the manager function alone (R182). -/
def managerPars : List Nat := [P.EPOCH_HIGHEST, P.LEASE_EPOCH]
def managerEvents : List Nat := [E.EVENT_OVERFLOW, E.EPOCH_ADVANCED, E.LEASE_CHANGED]

theorem State.par_pwoGroups (s : State) (id idx : Nat) : s.pwoGroups.par id idx = s.par id idx := by
  unfold State.pwoGroups
  split
  · rfl
  · exact State.each_keeps (fun t => t.par id idx) _ _ _ fun t g => by dsimp only; split <;> rfl

theorem State.par_netsFollow (s : State) (drove : Bool) (id idx : Nat) : (s.netsFollow drove).par id idx = s.par id idx := by
  unfold State.netsFollow
  split
  · rfl
  · split <;> rfl

section
variable {ids evs : List Nat} {id idx : Nat}

theorem State.par_sluiceSet_spared (h : spared ids evs id idx = true) (s : State) (new : Nat) (hs : P.SLUICE_STATE ∈ ids) :
    (s.sluiceSet new).par id idx = s.par id idx :=
  State.par_setPar_spared h s (idx' := 0) new hs (by decide)

theorem State.par_entered_spared (h : spared ids evs id idx = true) (s : State) (new : Nat) (hs : P.SLUICE_STATE ∈ ids) :
    (s.entered new).par id idx = s.par id idx := by
  rw [State.entered, State.par_pwoGroups, State.par_netsFollow, State.par_sluiceSet_spared h _ _ hs]

theorem State.par_becomeManager_spared (h : spared ids evs id idx = true) (s : State) (hs : managerPars ⊆ ids)
    (he : managerEvents ⊆ evs) : s.becomeManager.par id idx = s.par id idx := by
  have ho : E.EVENT_OVERFLOW ∈ evs := he (by decide)
  unfold State.becomeManager
  split
  · rfl
  · refine (State.par_raise_spared h _ _ _ _ (he (by decide)) ho (by decide)).trans ?_
    refine (State.par_setPar_spared h _ (idx' := 0) _ (hs (by decide)) (by decide)).trans ?_
    refine (State.par_raise_spared h _ _ _ _ (he (by decide)) ho (by decide)).trans ?_
    exact State.par_setPar_spared h _ (idx' := 0) _ (hs (by decide)) (by decide)

theorem State.par_sluiceDuties_spared (h : spared ids evs id idx = true) (s : State) (was : Bool) (hs : managerPars ⊆ ids)
    (he : managerEvents ⊆ evs) : (s.sluiceDuties was).par id idx = s.par id idx := by
  simp only [State.sluiceDuties]
  split
  · split
    · rfl
    · exact State.par_becomeManager_spared h _ hs he
  · split <;> rfl

theorem State.par_sluiceGo_spared (h : spared ids evs id idx = true) (s : State) (new : Nat) (hs : sluicePars ⊆ ids)
    (he : sluiceEvents ⊆ evs) : (s.sluiceGo new).par id idx = s.par id idx := by
  have hman : managerPars ⊆ ids := List.Subset.trans (by decide) hs
  have hevs : managerEvents ⊆ evs := List.Subset.trans (by decide) he
  have hsync : syncEvents ⊆ evs := List.Subset.trans (by decide) he
  rw [State.sluiceGo_eq, State.par_syncEval_spared h _ (hs (by decide)) hsync, State.par_sluiceDuties_spared h _ _ hman hevs,
    State.par_entered_spared h _ _ (hs (by decide))]

end

/-! The state entered -/

theorem State.sluice_syncEval (s : State) : s.syncEval.sluice = s.sluice :=
  State.par_syncEval_spared (ids := [P.READY_TIME]) (evs := syncEvents) (by decide) s (by decide) (by decide)

/-- The register reads the new state before the duties that follow it. -/
theorem State.sluice_entered (s : State) (new : Nat) : (s.entered new).sluice = new := by
  rw [State.sluice, State.entered, State.par_pwoGroups, State.par_netsFollow]
  exact s.par_setPar P.SLUICE_STATE 0 new

/-- The register reads the state just entered. -/
@[simp] theorem State.sluice_sluiceGo (s : State) (new : Nat) : (s.sluiceGo new).sluice = new := by
  rw [State.sluiceGo_eq, State.sluice_syncEval, State.sluice, State.par_sluiceDuties_spared (ids := managerPars)
    (evs := managerEvents) (by decide) _ _ (by simp) (by simp)]
  exact s.sluice_entered new

/-- The states in which the device acts (R177). -/
def actsIn (n : Nat) : Bool := n == SL.SINGLE || n == SL.ACTIVE || n == SL.YIELD

/-- Where the device does not act, the duties that end change nothing but the redundancy part (R181). -/
theorem State.sluiceDuties_resting (s : State) (was : Bool) (h : s.acting = false) :
    s.sluiceDuties was = { s with red := (s.sluiceDuties was).red } := by
  simp only [State.sluiceDuties, h, Bool.false_and, Bool.false_eq_true, if_false]
  split <;> rfl

theorem State.acting_entered (s : State) (new : Nat) : (s.entered new).acting = actsIn new := by
  rw [State.acting, s.sluice_entered]
  rfl

/-- Entering a state in which the device does not act keeps the lease (R181, R182). -/
theorem State.od_sluiceGo_resting (s : State) (new : Nat) (h : actsIn new = false) : (s.sluiceGo new).od = s.od := by
  rw [State.sluiceGo_eq, State.od_syncEval, State.sluiceDuties_resting _ _ ((s.acting_entered new).trans h)]
  exact s.od_entered new

/-- The parameters that entering a state in which the device does not act may write. -/
def restPars : List Nat := [P.READY_TIME, P.SLUICE_STATE]

theorem State.par_sluiceGo_resting {ids evs : List Nat} {id idx : Nat} (h : spared ids evs id idx = true) (s : State)
    (new : Nat) (hn : actsIn new = false) (hs : restPars ⊆ ids) (he : syncEvents ⊆ evs) :
    (s.sluiceGo new).par id idx = s.par id idx := by
  rw [State.sluiceGo_eq, State.par_syncEval_spared h _ (hs (by decide)) he,
    State.sluiceDuties_resting _ _ ((s.acting_entered new).trans hn)]
  exact State.par_entered_spared h s new (hs (by decide))

/-! Taking up the manager function (R182) -/

/-- A head that may manage and does not yet takes the next epoch of its side (R182, R94). -/
theorem State.becomeManager_takes (s : State) (hh : s.isHead = true) (hm : s.managerEn = true) (hn : s.red.manager = false)
    (ha : s.managerAbove = false) (hs : s.spent = false) :
    s.becomeManager.red.manager = true ∧
      s.becomeManager.par P.LEASE_EPOCH = nextEpoch (s.par P.EPOCH_HIGHEST) (b2n s.sideB) ∧
      s.becomeManager.par P.EPOCH_HIGHEST = nextEpoch (s.par P.EPOCH_HIGHEST) (b2n s.sideB) := by
  unfold State.becomeManager
  rw [if_neg (by simp [hh, hm, hn, ha, hs])]
  refine ⟨?_, ?_, ?_⟩
  · rw [State.send, State.raise_red, State.setPar_red]
    exact congrArg PartRed.manager (State.raise_red _ _ _ _ _)
  · refine (State.par_raise _ _ _ _ _ (by decide) (by decide) (by decide)).trans ?_
    exact State.par_setPar _ _ _ _
  · refine (State.par_raise _ _ _ _ _ (by decide) (by decide) (by decide)).trans ?_
    refine (State.par_setPar_other (id := P.LEASE_EPOCH) (id' := P.EPOCH_HIGHEST) _ _ (by decide) (by decide)
      (by decide)).trans ?_
    refine (State.par_raise _ _ _ _ _ (by decide) (by decide) (by decide)).trans ?_
    exact State.par_setPar _ _ _ _

/-- The next epoch is the first above the highest whose bit 0 is the side's (R182). -/
theorem nextEpoch_bounds (high : Nat) (b : Bool) :
    high < nextEpoch high (b2n b) ∧ nextEpoch high (b2n b) ≤ high + 2 ∧ nextEpoch high (b2n b) % 2 = b2n b := by
  have hb : b2n b < 2 := by cases b <;> decide
  unfold nextEpoch
  split <;> omega

/-! The partner's wires -/

/-- What the device reads of its partner's wires (R175, R176). -/
def State.wires (s : State) : Bool × Nat × Nat × Option Nat := (s.red.sluiceI, s.red.hb, s.red.hbLast, s.red.hbEdge)

theorem State.wires_of_sansSluice {s t : State} (h : t.sansSluice = s.sansSluice) : t.wires = s.wires :=
  (congrArg State.wires h : t.sansSluice.wires = s.sansSluice.wires)

theorem State.view_of_wires {s t : State} (h : t.wires = s.wires) : t.view = s.view :=
  (congrArg (fun w : Bool × Nat × Nat × Option Nat => viewOf w.1 w.2.1) h : _)

theorem State.view_sluiceGo (s : State) (new : Nat) : (s.sluiceGo new).view = s.view :=
  State.view_of_wires (State.wires_of_sansSluice (State.sansSluice_of_sansGo (s.sluiceGo_sansGo new)))

/-! Claims and STANDBY (R178, R179) -/

/-- A claim's marks are set before CLAIM is entered. -/
def State.claimMarked (s : State) (cause : Nat) (bySwitch : Bool) : State :=
  { s with red := { s.red with
    cause := cause, lostPartner := s.sluice == SL.STANDBY && cause != 1 && cause != 3, evidence := 0
    leftAt := if !bySwitch || s.view != V.ACTING then some s.now else none } }

/-- The window and the kind of a claim just entered (R179, R190). -/
def State.claimOpened (s : State) (bySwitch : Bool) : State :=
  { s with red := { s.red with window := !bySwitch || s.view == V.STANDING_BY, bySwitch := bySwitch } }

theorem State.claim_eq (s : State) (cause : Nat) (bySwitch : Bool) :
    s.claim cause bySwitch = ((s.claimMarked cause bySwitch).sluiceGo SL.CLAIM).claimOpened bySwitch := by
  unfold State.claim State.claimOpened State.claimMarked
  rfl

theorem State.claimMarked_sansSluice (s : State) (cause : Nat) (bySwitch : Bool) :
    (s.claimMarked cause bySwitch).sansSluice = s.sansSluice := rfl
theorem State.claimOpened_sansSluice (s : State) (b : Bool) : (s.claimOpened b).sansSluice = s.sansSluice := rfl
theorem State.par_claimMarked (s : State) (c : Nat) (b : Bool) (id idx : Nat) :
    (s.claimMarked c b).par id idx = s.par id idx := rfl
theorem State.par_claimOpened (s : State) (b : Bool) (id idx : Nat) : (s.claimOpened b).par id idx = s.par id idx := rfl

theorem State.claim_sansSluice (s : State) (cause : Nat) (bySwitch : Bool) :
    (s.claim cause bySwitch).sansSluice = s.sansSluice := by
  rw [State.claim_eq, State.claimOpened_sansSluice, State.sansSluice_of_sansGo (State.sluiceGo_sansGo _ _),
    State.claimMarked_sansSluice]

@[simp] theorem State.sluice_claim (s : State) (cause : Nat) (bySwitch : Bool) : (s.claim cause bySwitch).sluice = SL.CLAIM := by
  rw [State.claim_eq, State.sluice, State.par_claimOpened]
  exact State.sluice_sluiceGo _ _

/-- A claim that is no switchover opens its window at once (R179). -/
theorem State.claim_window (s : State) (cause : Nat) :
    (s.claim cause false).red.window = true ∧ (s.claim cause false).red.bySwitch = false := by
  rw [State.claim_eq]
  exact ⟨rfl, rfl⟩

/-- A claim names its cause and starts the count of evidence again (R180, R196). -/
theorem State.claim_cause (s : State) (cause : Nat) (bySwitch : Bool) :
    (s.claim cause bySwitch).red.cause = cause ∧ (s.claim cause bySwitch).red.evidence = 0 := by
  have h := congrArg State.red (State.sluiceGo_sansGo (s.claimMarked cause bySwitch) SL.CLAIM)
  rw [State.claim_eq]
  exact ⟨congrArg PartRed.cause h, congrArg PartRed.evidence h⟩

theorem State.standbyEval_cases (s : State) : s.standbyEval = s ∨ ∃ c, s.standbyEval = s.claim c false := by
  unfold State.standbyEval
  split
  · exact .inl rfl
  · split
    · exact .inr ⟨_, rfl⟩
    · split
      · exact .inr ⟨_, rfl⟩
      · exact .inl rfl

theorem State.standbyEval_sansSluice (s : State) : s.standbyEval.sansSluice = s.sansSluice := by
  rcases s.standbyEval_cases with h | ⟨c, h⟩ <;> rw [h]
  exact State.claim_sansSluice _ _ _

theorem State.goStandby_sansSluice (s : State) : s.goStandby.sansSluice = s.sansSluice :=
  (State.standbyEval_sansSluice _).trans (State.sansSluice_of_sansGo (s.sluiceGo_sansGo _))

section
variable {ids evs : List Nat} {id idx : Nat}

theorem State.par_claim_resting (h : spared ids evs id idx = true) (s : State) (c : Nat) (b : Bool)
    (hs : restPars ⊆ ids) (he : syncEvents ⊆ evs) : (s.claim c b).par id idx = s.par id idx := by
  rw [State.claim_eq, State.par_claimOpened, State.par_sluiceGo_resting h _ _ (by decide) hs he, State.par_claimMarked]

theorem State.par_standbyEval_resting (h : spared ids evs id idx = true) (s : State)
    (hs : restPars ⊆ ids) (he : syncEvents ⊆ evs) : s.standbyEval.par id idx = s.par id idx := by
  rcases s.standbyEval_cases with e | ⟨c, e⟩ <;> rw [e]
  exact State.par_claim_resting h _ _ _ hs he

theorem State.par_goStandby_resting (h : spared ids evs id idx = true) (s : State)
    (hs : restPars ⊆ ids) (he : syncEvents ⊆ evs) : s.goStandby.par id idx = s.par id idx :=
  (State.par_standbyEval_resting h _ hs he).trans (State.par_sluiceGo_resting h _ _ (by decide) hs he)

end

/-- From STANDBY the view may lead to CLAIM at once (R178). -/
theorem State.sluice_goStandby (s : State) : s.goStandby.sluice = s.standbyLeads := by
  have hhold : (s.sluiceGo SL.STANDBY).par P.CLAIM_HOLDOFF = s.par P.CLAIM_HOLDOFF :=
    State.par_sluiceGo_resting (ids := restPars) (evs := syncEvents) (by decide) s _ (by decide) (by simp) (by simp)
  unfold State.goStandby State.standbyEval State.standbyLeads
  rw [if_neg (by simp), s.view_sluiceGo, hhold]
  split
  · rename_i hv
    simp [hv]
  · rename_i hv
    split
    · rename_i hw
      simp [hw]
    · rename_i hw
      rw [if_neg (by tauto)]
      exact State.sluice_sluiceGo _ _

/-- A view that names neither an absent nor a standing-by partner leaves the device in STANDBY (R178). -/
theorem State.standbyLeads_standby (s : State) (h : s.view = V.ACTING ∨ s.view = V.DOUBT) : s.standbyLeads = SL.STANDBY := by
  unfold State.standbyLeads
  rcases h with h | h <;> simp [h]

end Sys2Proof.Machine
end

section
/-! The heartbeat, `SLUICE_I` and doubt, and the transitions of the sluice (R175 to R182, R190, R195 to R197). -/

namespace Sys2Proof.Machine

/-! Rows that hang on the view (R178) -/

/-- What the rows of R178 can do at once: nothing, block, go to STANDBY, leave BLOCKED for SINGLE, claim from STANDBY, or set the
marks of a claim or a yield. -/
theorem State.sluiceEval_cases (s : State) : s.sluiceEval = s ∨ s.sluiceEval = s.block ∨ s.sluiceEval = s.goStandby ∨
    s.sluiceEval = (s.sluiceGo SL.SINGLE).blockCheck ∨ s.sluiceEval = s.standbyEval ∨
    ∃ l w a, s.sluiceEval = { s with red := { s.red with leftAt := l, window := w, actingAt := a } } := by
  unfold State.sluiceEval
  dsimp only
  by_cases hoff : s.sluice = SL.OFF
  · rw [if_pos hoff]; exact .inl rfl
  rw [if_neg hoff]
  by_cases hblk : s.sluice ≠ SL.BLOCKED ∧ s.blocked = true
  · rw [if_pos hblk]; exact .inr (.inl rfl)
  rw [if_neg hblk]
  by_cases hleave : s.sluice = SL.BLOCKED
  · rw [if_pos hleave]
    split
    · exact .inl rfl
    · split
      · exact .inr (.inr (.inl rfl))
      · exact .inr (.inr (.inr (.inl rfl)))
  rw [if_neg hleave]
  by_cases hhold : s.sluice = SL.HOLDOFF
  · rw [if_pos hhold]
    split
    · exact .inr (.inr (.inl rfl))
    · exact .inl rfl
  rw [if_neg hhold]
  by_cases hstand : s.sluice = SL.STANDBY
  · rw [if_pos hstand]; exact .inr (.inr (.inr (.inr (.inl rfl))))
  rw [if_neg hstand]
  by_cases hclaim : s.sluice = SL.CLAIM
  · rw [if_pos hclaim]
    split
    · split
      · exact .inl rfl
      · exact .inr (.inr (.inr (.inr (.inr ⟨_, _, _, rfl⟩))))
    · split
      · exact .inr (.inr (.inl rfl))
      · split
        · exact .inl rfl
        · exact .inr (.inr (.inr (.inr (.inr ⟨_, _, _, rfl⟩))))
  rw [if_neg hclaim]
  split
  · split
    · exact .inr (.inr (.inr (.inr (.inr ⟨_, _, _, rfl⟩))))
    · exact .inl rfl
  · exact .inl rfl

/-- In STANDBY, unblocked and with an acting or doubtful partner, nothing follows (R178). -/
theorem State.sluiceEval_standby (s : State) (hs : s.sluice = SL.STANDBY) (hb : s.blocked = false)
    (hv : s.view = V.ACTING ∨ s.view = V.DOUBT) : s.sluiceEval = s := by
  have hstay : s.standbyEval = s := by
    unfold State.standbyEval
    rcases hv with hv | hv <;> simp [hv]
  simp [State.sluiceEval, hs, hb, hstay]

theorem State.block_sansSluice (s : State) : s.block.sansSluice = s.sansSluice := by
  unfold State.block
  exact State.sansSluice_of_sansGo ((State.sluiceGo_sansGo _ _).trans (State.raiseIf_sansGo _ _ _ _ _))

theorem State.blockCheck_cases (s : State) : s.blockCheck = s ∨ s.blockCheck = s.block := by
  unfold State.blockCheck
  split
  · exact .inr rfl
  · exact .inl rfl

theorem State.blockCheck_sansSluice (s : State) : s.blockCheck.sansSluice = s.sansSluice := by
  rcases s.blockCheck_cases with h | h <;> rw [h]
  exact s.block_sansSluice

theorem State.wires_sluiceEval (s : State) : s.sluiceEval.wires = s.wires := by
  rcases s.sluiceEval_cases with h | h | h | h | h | ⟨l, w, a, h⟩ <;> rw [h]
  · exact State.wires_of_sansSluice s.block_sansSluice
  · exact State.wires_of_sansSluice s.goStandby_sansSluice
  · exact State.wires_of_sansSluice
      ((State.blockCheck_sansSluice _).trans (State.sansSluice_of_sansGo (s.sluiceGo_sansGo _)))
  · exact State.wires_of_sansSluice s.standbyEval_sansSluice
  · rfl

section
variable {ids evs : List Nat} {id idx : Nat}

theorem State.par_block_spared (h : spared ids evs id idx = true) (s : State) (hs : sluicePars ⊆ ids)
    (he : sluiceEvents ⊆ evs) : s.block.par id idx = s.par id idx :=
  (State.par_sluiceGo_spared h _ _ hs he).trans
    (State.par_raiseIf_spared h _ _ _ _ (he (by decide)) (he (by decide)) (by decide))

theorem State.par_blockCheck_spared (h : spared ids evs id idx = true) (s : State) (hs : sluicePars ⊆ ids)
    (he : sluiceEvents ⊆ evs) : s.blockCheck.par id idx = s.par id idx := by
  rcases s.blockCheck_cases with e | e <;> rw [e]
  exact State.par_block_spared h s hs he

theorem State.par_sluiceEval_spared (h : spared ids evs id idx = true) (s : State) (hs : sluicePars ⊆ ids)
    (he : sluiceEvents ⊆ evs) : s.sluiceEval.par id idx = s.par id idx := by
  have hrest : restPars ⊆ ids := List.Subset.trans (by decide) hs
  have hsync : syncEvents ⊆ evs := List.Subset.trans (by decide) he
  rcases s.sluiceEval_cases with e | e | e | e | e | ⟨l, w, a, e⟩ <;> rw [e]
  · exact State.par_block_spared h s hs he
  · exact State.par_goStandby_resting h s hrest hsync
  · exact (State.par_blockCheck_spared h _ hs he).trans (State.par_sluiceGo_spared h s _ hs he)
  · exact State.par_standbyEval_resting h s hrest hsync
  · rfl

end

/-! The view changes (R176) -/

/-- What is noted of a view that has changed from `was`. -/
def State.viewNoted (s : State) (was : Nat) : State :=
  let t := if was = V.ACTING then { s with red := { s.red with syncAtLoss := s.rdy B.REDUNDANCY_SYNC } } else s
  if t.view = V.DOUBT then
    { t with red := { t.red with doubtTold := t.red.doubtTold && t.now < t.red.consistentAt + sec } }
  else if was = V.DOUBT then { t with red := { t.red with consistentAt := t.now, broken := true } }
  else t

theorem State.viewChanged_eq (s : State) (was : Nat) :
    s.viewChanged was = if s.view = was then s.syncEval else (s.viewNoted was).syncEval.sluiceEval := by
  unfold State.viewChanged State.viewNoted
  rfl

theorem State.wires_syncEval (s : State) : s.syncEval.wires = s.wires := by
  unfold State.wires
  rw [State.syncEval_red]

/-- What is noted of the view changes no wire and no parameter. -/
theorem State.viewNoted_keeps (s : State) (was : Nat) : (s.viewNoted was).wires = s.wires ∧
    (s.viewNoted was).start = s.start ∧ ∀ id idx, (s.viewNoted was).par id idx = s.par id idx := by
  unfold State.viewNoted
  dsimp only
  split <;> split
  · exact ⟨rfl, rfl, fun _ _ => rfl⟩
  · split <;> exact ⟨rfl, rfl, fun _ _ => rfl⟩
  · exact ⟨rfl, rfl, fun _ _ => rfl⟩
  · split <;> exact ⟨rfl, rfl, fun _ _ => rfl⟩

theorem State.wires_viewChanged (s : State) (was : Nat) : (s.viewChanged was).wires = s.wires := by
  rw [State.viewChanged_eq]
  split
  · exact s.wires_syncEval
  · rw [State.wires_sluiceEval, State.wires_syncEval, (s.viewNoted_keeps was).1]

theorem State.par_viewChanged_spared {ids evs : List Nat} {id idx : Nat} (h : spared ids evs id idx = true) (s : State)
    (was : Nat) (hs : sluicePars ⊆ ids) (he : sluiceEvents ⊆ evs) : (s.viewChanged was).par id idx = s.par id idx := by
  have hsync : syncEvents ⊆ evs := List.Subset.trans (by decide) he
  rw [State.viewChanged_eq]
  split
  · exact State.par_syncEval_spared h s (hs (by decide)) hsync
  · rw [State.par_sluiceEval_spared h _ hs he, State.par_syncEval_spared h _ (hs (by decide)) hsync,
      (s.viewNoted_keeps was).2.2]

/-- An event told before the view changes is not one of those that follow it. -/
theorem State.told_viewChanged {s t : State} {e : Nat} (h : s.told t e) (was : Nat) (he : spared sluicePars sluiceEvents P.EVENT_COUNT e = true) :
    s.told (t.viewChanged was) e :=
  State.told_of_after h (State.par_viewChanged_spared he t was (by simp) (by simp))

/-! The heartbeat (R175, R197) -/

/-- The believed class changes, and a loss is told in redundant mode. -/
theorem State.hbGo_keeps (s : State) (cls : Nat) : (s.hbGo cls).wires = (s.red.sluiceI, cls, s.red.hbLast, s.red.hbEdge) ∧
    (cls = 0 → s.red.hb ≠ 0 → s.redMode = true → s.told (s.hbGo cls) E.HEARTBEAT_LOST) := by
  unfold State.hbGo
  dsimp only
  refine ⟨?_, fun hc hb hm => ?_⟩
  · rw [State.wires_viewChanged, State.wires, State.raiseIf_red]
  · refine State.told_viewChanged ?_ _ (by decide)
    rw [show (cls == 0 && s.red.hb != 0 && State.redMode { s with red := { s.red with hb := cls } }) = true by
      rw [show State.redMode { s with red := { s.red with hb := cls } } = true from hm]
      simp [hc, hb]]
    exact State.told_raise { s with red := { s.red with hb := cls } } _ _ _ _ (by decide)

/-- An edge: the first starts a period, a later one gives a class, believed once two periods agree (R175). -/
theorem execHeartbeatEdge_classes (h : Nat) (s : State) :
    (s.red.hbEdge = none → execHeartbeatEdge h s = .next { s with red := { s.red with hbEdge := some s.now } }) ∧
    ∀ cls, (cls = if h < 380 then 1 else if h < 628 then 2 else 3) → s.red.hbEdge ≠ none →
      (s.red.hbLast ≠ cls → execHeartbeatEdge h s =
        .next { s with red := { s.red with hbEdge := some s.now, hbLast := cls } }) ∧
      (s.red.hbLast = cls → s.red.hb ≠ cls → ∃ t, execHeartbeatEdge h s = .next t ∧ t.red.hb = cls ∧
        t.red.hbEdge = some s.now ∧ t.red.sluiceI = s.red.sluiceI) ∧
      (s.red.hbLast = cls → s.red.hb = cls → execHeartbeatEdge h s =
        .next { s with red := { s.red with hbEdge := some s.now } }) := by
  refine ⟨fun hn => by simp [execHeartbeatEdge, hn], fun cls hc hne => ?_⟩
  replace hc : hbClass h = cls := hc.symm
  have hfirst : s.red.hbEdge.isNone = false := by simpa using Option.isSome_iff_ne_none.2 hne
  have hbody : execHeartbeatEdge h s =
      .next (if s.red.hbLast = cls ∧ s.red.hb ≠ cls then
        State.hbGo { s with red := { s.red with hbEdge := some s.now, hbLast := cls } } cls
      else { s with red := { s.red with hbEdge := some s.now, hbLast := cls } }) := by
    simp [execHeartbeatEdge, hfirst, hc]
  refine ⟨fun hl => ?_, fun hl hb => ?_, fun hl hb => ?_⟩
  · rw [hbody, if_neg (fun h => hl h.1)]
  · rw [hbody, if_pos ⟨hl, hb⟩]
    have hw := (State.hbGo_keeps { s with red := { s.red with hbEdge := some s.now, hbLast := cls } } cls).1
    exact ⟨_, rfl, congrArg (fun w => w.2.1) hw, congrArg (fun w => w.2.2.2) hw, congrArg (fun w => w.1) hw⟩
  · rw [hbody, if_neg (fun h => h.2 hb)]
    subst hl
    rfl

/-- 750 cycles without an edge give class 0, its loss told in redundant mode (R175, R197). -/
theorem execHeartbeatTimeout_loses (s : State) :
    ∃ t, execHeartbeatTimeout s = .next t ∧ t.red.hb = 0 ∧ t.red.hbEdge = none ∧ t.red.hbLast = 0 ∧
      (s.red.hb ≠ 0 → s.redMode = true → s.told t E.HEARTBEAT_LOST) := by
  obtain ⟨hw, ht⟩ := State.hbGo_keeps { s with red := { s.red with hbEdge := none, hbLast := 0 } } 0
  exact ⟨_, rfl, congrArg (fun w => w.2.1) hw, congrArg (fun w => w.2.2.2) hw, congrArg (fun w => w.2.2.1) hw, ht rfl⟩

/-! `SLUICE_I` and doubt (R176, R179) -/

/-- The claim of side B that a rise withdraws goes to STANDBY, told (R179). -/
def State.claimWithdrawn (s : State) : State := State.goStandby (State.raise s E.CLAIM_TIE)

theorem State.wires_claimWithdrawn (s : State) : s.claimWithdrawn.wires = s.wires :=
  State.wires_of_sansSluice ((State.goStandby_sansSluice _).trans
    (State.sansSluice_of_sansGo (State.raise_sansGo _ _ _ _ _)))

theorem State.par_claimWithdrawn_spared {ids evs : List Nat} {id idx : Nat} (h : spared ids evs id idx = true) (s : State)
    (hs : restPars ⊆ ids) (he : E.CLAIM_TIE :: syncEvents ⊆ evs) : s.claimWithdrawn.par id idx = s.par id idx :=
  (State.par_goStandby_resting h _ hs (List.Subset.trans (by simp) he)).trans
    (State.par_raise_spared h s _ _ _ (he (by decide)) (he (by decide)) (by decide))

theorem State.told_claimWithdrawn (s : State) : s.told s.claimWithdrawn E.CLAIM_TIE :=
  State.told_of_after (State.told_raise s _ _ _ _ (by decide))
    (State.par_goStandby_resting (ids := restPars) (evs := syncEvents) (by decide) _ (by simp) (by simp))

/-- What blocks the sluice hangs on the role, the option record, FORCE_STANDBY and the highest epoch (R178, R182). -/
theorem State.blocked_congr {s t : State} (h : t.sansSluice = s.sansSluice)
    (hf : t.par P.FORCE_STANDBY = s.par P.FORCE_STANDBY) (he : t.par P.EPOCH_HIGHEST = s.par P.EPOCH_HIGHEST) :
    t.blocked = s.blocked := by
  have hrole : t.start.role = s.start.role := State.role_of_sansSluice h
  have hrec : t.start.record = s.start.record := State.record_of_sansSluice h
  unfold State.blocked State.spent State.isHead State.sideB
  rw [hrole, hrec, hf, he]

/-- Side B's claim, withdrawn before an acting or doubtful partner, leaves the device in STANDBY where nothing blocks it (R179). -/
theorem State.sluice_withdrawn (s : State) (was : Nat) (hv : s.view = V.ACTING ∨ s.view = V.DOUBT)
    (hb : s.blocked = false) : (s.claimWithdrawn.viewChanged was).sluice = SL.STANDBY := by
  have hsluice : s.claimWithdrawn.sluice = SL.STANDBY := by
    refine (State.sluice_goStandby _).trans (State.standbyLeads_standby _ ?_)
    rwa [State.view_of_wires (State.wires_of_sansSluice (State.sansSluice_of_sansGo (State.raise_sansGo s _ _ _ _)))]
  have hpar {id : Nat} (h : spared restPars (E.CLAIM_TIE :: syncEvents) id 0 = true) :
      s.claimWithdrawn.par id = s.par id :=
    State.par_claimWithdrawn_spared h s (by simp) (by simp)
  have hblocked : s.claimWithdrawn.blocked = false := by
    rw [State.blocked_congr (s := s) _ (hpar (by decide)) (hpar (by decide)), hb]
    exact (State.goStandby_sansSluice _).trans (State.sansSluice_of_sansGo (State.raise_sansGo _ _ _ _ _))
  have hview : s.claimWithdrawn.view = s.view := State.view_of_wires s.wires_claimWithdrawn
  rw [State.viewChanged_eq]
  split
  · rw [State.sluice_syncEval, hsluice]
  · set u := (s.claimWithdrawn.viewNoted was).syncEval with hu
    obtain ⟨hwires, hstart, hnoted⟩ := s.claimWithdrawn.viewNoted_keeps was
    have hupar {id : Nat} (h : spared [P.READY_TIME] syncEvents id 0 = true) : u.par id = s.claimWithdrawn.par id := by
      rw [hu, State.par_syncEval_spared h _ (by simp) (by simp), hnoted]
    have husl : u.sluice = SL.STANDBY := (hupar (by decide)).trans hsluice
    have huview : u.view = s.view := by
      rw [State.view_of_wires ((State.wires_syncEval _).trans hwires), hview]
    have hublocked : u.blocked = false := by
      have hrole : u.start.role = s.claimWithdrawn.start.role := by
        rw [hu, State.syncEval_frame, ← hstart]
      have hrec : u.start.record = s.claimWithdrawn.start.record := by
        rw [hu, State.syncEval_frame, ← hstart]
      rw [← hblocked]
      unfold State.blocked State.spent State.isHead State.sideB
      rw [hrole, hrec, hupar (by decide), hupar (by decide)]
    rw [State.sluiceEval_standby u husl hublocked (huview ▸ hv), husl]

/-- A change of `SLUICE_I` is taken; its rise during a claim of side B that is no switchover withdraws it, told (R176, R179). -/
theorem execSluiceIChange_takes (high : Bool) (s : State) (hne : s.red.sluiceI ≠ high) :
    ∃ t, execSluiceIChange high s = .next t ∧ t.red.sluiceI = high ∧ t.red.hb = s.red.hb ∧
      (high = true → s.sluice = SL.CLAIM → s.sideB = true → s.red.bySwitch = false →
        s.told t E.CLAIM_TIE ∧ (s.blocked = false → t.sluice = SL.STANDBY)) := by
  set u : State := { s with red := { s.red with sluiceI := high } } with hu
  have hbody : execSluiceIChange high s = .next
      ((if (high && s.sluice == SL.CLAIM && s.sideB && !s.red.bySwitch) = true then u.claimWithdrawn else u).viewChanged
        s.view) := by
    unfold execSluiceIChange
    rw [if_neg hne]
    rfl
  refine ⟨_, hbody, ?_⟩
  have hwires : ((if (high && s.sluice == SL.CLAIM && s.sideB && !s.red.bySwitch) = true then u.claimWithdrawn
      else u).viewChanged s.view).wires = u.wires := by
    rw [State.wires_viewChanged]
    split
    · exact u.wires_claimWithdrawn
    · rfl
  refine ⟨congrArg (fun w => w.1) hwires, congrArg (fun w => w.2.1) hwires, fun hh hs hb hw => ?_⟩
  rw [if_pos (by simp [hh, hs, hb, hw])]
  refine ⟨State.told_viewChanged (u.told_claimWithdrawn) _ (by decide), fun hblk => ?_⟩
  refine u.sluice_withdrawn _ ?_ hblk
  have hview : u.view = if s.red.hb = 3 then V.ACTING else V.DOUBT := by
    simp [hu, State.view, viewOf, hh]
  rw [hview]
  split
  · exact .inl rfl
  · exact .inr rfl

/-- A doubt of 10 µs is told once (R176). -/
theorem execDoubtTimer_tells (s : State) (hv : s.view = V.DOUBT) (hd : s.red.doubtTold = false) :
    ∃ t, execDoubtTimer s = .next t ∧ t.red.doubtTold = true ∧ s.told t E.SLUICE_INCONSISTENT ∧
      s.samePars t [P.EVENT_COUNT] := by
  refine ⟨State.raise { s with red := { s.red with doubtTold := true } } E.SLUICE_INCONSISTENT, ?_, ?_,
    State.told_raise { s with red := { s.red with doubtTold := true } } _ _ _ _ (by decide), fun id idx hid hidx => ?_⟩
  · simp [execDoubtTimer, hv, hd]
  · rw [State.raise_red]
  · exact State.par_raise { s with red := { s.red with doubtTold := true } } _ _ _ _ (by simpa using hid) hidx (by decide)

/-! The transitions of the sluice (R178 to R182, R190) -/

/-- After CLAIM_HOLDOFF an absent or standing-by partner is claimed against; a doubtful one leaves the device in STANDBY (R178). -/
theorem execClaimHoldoffExpiry_leads (s : State) (hs : s.sluice = SL.HOLDOFF) :
    (s.view = V.ABSENT ∨ s.view = V.STANDING_BY → ∃ t, execClaimHoldoffExpiry s = .next t ∧ t.sluice = SL.CLAIM ∧
      t.red.window = true ∧ t.red.bySwitch = false) ∧
    (s.view = V.DOUBT → ∃ t, execClaimHoldoffExpiry s = .next t ∧ t.sluice = SL.STANDBY) := by
  unfold execClaimHoldoffExpiry State.holdoffOver
  rw [if_pos hs]
  refine ⟨fun hv => ?_, fun hv => ?_⟩
  · rcases hv with hv | hv
    · rw [if_pos hv]
      exact ⟨_, rfl, State.sluice_claim _ _ _, s.claim_window 0⟩
    · rw [if_neg (by rw [hv]; decide), if_pos hv]
      exact ⟨_, rfl, State.sluice_claim _ _ _, s.claim_window 1⟩
  · rw [if_neg (by rw [hv]; decide), if_neg (by rw [hv]; decide), if_pos hv]
    exact ⟨_, rfl, (State.sluice_goStandby s).trans (s.standbyLeads_standby (.inr hv))⟩

/-- The view and CLAIM_HOLDOFF decide what STANDBY leads to, so a raise before does not matter (R178). -/
theorem State.standbyLeads_raise (s : State) (e i d c : Nat) (he : e < 65536) :
    (s.raise e i d c).standbyLeads = s.standbyLeads := by
  have hview : (s.raise e i d c).view = s.view :=
    State.view_of_wires (State.wires_of_sansSluice (State.sansSluice_of_sansGo (s.raise_sansGo e i d c)))
  unfold State.standbyLeads
  rw [hview, State.par_raise s e i d c (by decide) (by decide) he]

/-- Activity on the lamp nets withdraws a paired member's claim, told (R195). -/
theorem execLampNetActivity_withdraws (s : State) (hp : s.isPairedTile = true) :
    ∃ t, execLampNetActivity s = .next t ∧ t.red.broken = true ∧
      (s.sluice = SL.CLAIM → t.sluice = s.standbyLeads ∧ s.told t E.LISTEN_BUSY) ∧
      (s.sluice ≠ SL.CLAIM → t = { s with red := { s.red with broken := true } }) := by
  set u : State := { s with red := { s.red with broken := true } } with hu
  have hbody : execLampNetActivity s = .next (if s.sluice = SL.CLAIM then (u.raise E.LISTEN_BUSY).goStandby else u) := by
    unfold execLampNetActivity
    rw [if_neg (by simp [hp])]
    rfl
  refine ⟨_, hbody, ?_, fun hc => ?_, fun hc => if_neg hc⟩
  · split
    · exact State.broken_of_sansSluice ((State.goStandby_sansSluice (u.raise E.LISTEN_BUSY)).trans
        (State.sansSluice_of_sansGo (State.raise_sansGo u _ _ _ _)))
    · rfl
  · rw [if_pos hc]
    refine ⟨(State.sluice_goStandby _).trans (u.standbyLeads_raise _ _ _ _ (by decide)), ?_⟩
    exact State.told_of_after (State.told_raise u _ _ _ _ (by decide))
      (State.par_goStandby_resting (ids := restPars) (evs := syncEvents) (by decide) _ (by simp) (by simp))

/-- Doubt that lasts EVIDENCE_TICKS claims on evidence, told (R180). -/
theorem execEvidenceTimeout_claims (s : State) (hs : s.sluice = SL.STANDBY)
    (he : s.par P.EVIDENCE_TICKS ≤ s.red.evidence) (hd : s.doubting = true) :
    ∃ t, execEvidenceTimeout s = .next t ∧ t.sluice = SL.CLAIM ∧ s.told t E.EVIDENCE_TAKEOVER ∧
      t.red.cause = (if s.view = V.DOUBT then 2 else 4) ∧ t.red.evidence = 0 := by
  unfold execEvidenceTimeout
  rw [if_pos ⟨hs, he, hd⟩]
  obtain ⟨hcause, hev⟩ := State.claim_cause (s.raise E.EVIDENCE_TAKEOVER) (if s.view = V.DOUBT then 2 else 4) false
  refine ⟨_, rfl, State.sluice_claim _ _ _, ?_, hcause, hev⟩
  exact State.told_of_after (State.told_raise s _ _ _ _ (by decide))
    (State.par_claim_resting (ids := restPars) (evs := syncEvents) (by decide) _ _ _ (by simp) (by simp))

/-! The end of a claim's window (R178, R182) -/

/-- What is told and marked as a claim ends in an acting state (R178, R190). -/
def State.claimTold (s : State) : State :=
  let sw := s.red.bySwitch
  let t := s.raiseIf (!sw && s.redMode) E.TAKEOVER
  let t := t.raiseIf (!sw && t.redMode && t.red.lostPartner && !t.red.syncAtLoss) E.TAKEOVER_UNSYNCED
  let t := { t with red := { t.red with switching := sw && t.red.switchTick.isSome } }
  t.raiseIf (sw && t.red.switchTick.isNone) E.SWITCHOVER_DONE

theorem State.enterActive_eq (s : State) : s.enterActive =
    (State.logTakeover (s.claimTold.sluiceGo s.claimTold.actState) s.red.cause).blockCheck := by
  unfold State.enterActive State.claimTold
  rfl

theorem State.claimTold_sansGo (s : State) : s.claimTold.sansGo = s.sansGo := by
  unfold State.claimTold
  dsimp only
  rw [State.raiseIf_sansGo]
  exact (State.raiseIf_sansGo _ _ _ _ _).trans (State.raiseIf_sansGo _ _ _ _ _)

/-- The events told as a claim ends. -/
def claimEvents : List Nat := [E.EVENT_OVERFLOW, E.TAKEOVER, E.TAKEOVER_UNSYNCED, E.SWITCHOVER_DONE]

theorem State.par_claimTold_spared {ids evs : List Nat} {id idx : Nat} (h : spared ids evs id idx = true) (s : State)
    (he : claimEvents ⊆ evs) : s.claimTold.par id idx = s.par id idx := by
  have ho : E.EVENT_OVERFLOW ∈ evs := he (by decide)
  unfold State.claimTold
  dsimp only
  refine (State.par_raiseIf_spared h _ _ _ _ (he (by decide)) ho (by decide)).trans ?_
  refine (State.par_raiseIf_spared h _ _ _ _ (he (by decide)) ho (by decide)).trans ?_
  exact State.par_raiseIf_spared h _ _ _ _ (he (by decide)) ho (by decide)

/-- A take-over that is no switchover is told once in redundant mode (R178). -/
theorem State.told_claimTold (s : State) (hw : s.red.bySwitch = false) (hm : s.redMode = true) :
    s.told s.claimTold E.TAKEOVER := by
  unfold State.claimTold
  dsimp only
  rw [hw, hm]
  have hspared : spared [] [E.EVENT_OVERFLOW, E.TAKEOVER_UNSYNCED, E.SWITCHOVER_DONE] P.EVENT_COUNT E.TAKEOVER = true := by decide
  refine State.told_of_after ?_ (State.par_raiseIf_spared hspared _ _ _ _ (by decide) (by decide) (by decide))
  refine State.told_of_after ?_ (State.par_raiseIf_spared hspared _ _ _ _ (by decide) (by decide) (by decide))
  exact State.told_raise s _ _ _ _ (by decide)

/-- The mode and with it the acting state hang on the role, the option record and REDUNDANCY_MODE (R178, R196). -/
theorem State.actState_congr {s t : State} (h : t.sansSluice = s.sansSluice)
    (hm : t.par P.REDUNDANCY_MODE = s.par P.REDUNDANCY_MODE) : t.actState = s.actState := by
  unfold State.actState State.redMode State.isTile State.paired
  rw [State.role_of_sansSluice h, State.record_of_sansSluice h, hm]

theorem State.actState_claimTold (s : State) : s.claimTold.actState = s.actState :=
  State.actState_congr (State.sansSluice_of_sansGo s.claimTold_sansGo)
    (State.par_claimTold_spared (ids := []) (evs := claimEvents) (by decide) s (by simp))

theorem State.actState_acts (s : State) : actsIn s.actState = true := by
  unfold State.actState
  split <;> decide

theorem State.par_logTakeover (s : State) (c id idx : Nat) : (s.logTakeover c).par id idx = s.par id idx := by
  unfold State.logTakeover
  rw [State.setBlob_eq]
  rfl

theorem State.logTakeover_red (s : State) (c : Nat) :
    (s.logTakeover c).red = { s.red with entries := (s.red.entries + 1) % 2 ^ 32 } := by
  unfold State.logTakeover
  rw [State.setBlob_red]

theorem State.logTakeover_start (s : State) (c : Nat) : (s.logTakeover c).start = s.start := by
  unfold State.logTakeover
  rw [State.setBlob_start]

/-- Taking up the manager function raises the highest epoch by 2 at most (R182). -/
theorem State.becomeManager_epoch (s : State) : s.becomeManager.par P.EPOCH_HIGHEST ≤ s.par P.EPOCH_HIGHEST + 2 := by
  by_cases h : (!s.isHead || !s.managerEn || s.red.manager || s.managerAbove || s.spent) = true
  · unfold State.becomeManager
    rw [if_pos h]
    omega
  · simp only [Bool.or_eq_true, Bool.not_eq_true', not_or, Bool.not_eq_true, Bool.not_eq_false] at h
    obtain ⟨⟨⟨⟨hh, hm⟩, hn⟩, ha⟩, hs⟩ := h
    obtain ⟨-, -, he⟩ := s.becomeManager_takes hh hm hn ha hs
    rw [he]
    exact (nextEpoch_bounds _ _).2.1

/-- Entering a state raises the highest epoch by 2 at most (R182). -/
theorem State.sluiceGo_epoch (s : State) (new : Nat) :
    (s.sluiceGo new).par P.EPOCH_HIGHEST ≤ s.par P.EPOCH_HIGHEST + 2 := by
  have hentered : (s.entered new).par P.EPOCH_HIGHEST = s.par P.EPOCH_HIGHEST :=
    State.par_entered_spared (ids := [P.SLUICE_STATE]) (evs := []) (by decide) s new (by decide)
  rw [State.sluiceGo_eq, State.par_syncEval_spared (ids := [P.READY_TIME]) (evs := syncEvents) (by decide) _ (by simp) (by simp)]
  simp only [State.sluiceDuties]
  split
  · split
    · exact (le_of_eq hentered).trans (Nat.le_add_right _ _)
    · refine (State.becomeManager_epoch _).trans (Nat.add_le_add_right ?_ 2)
      exact le_of_eq hentered
  · split
    · exact (le_of_eq hentered).trans (Nat.le_add_right _ _)
    · exact (le_of_eq hentered).trans (Nat.le_add_right _ _)

/-- A head that does not act and enters an acting state by no switchover takes the manager function where it may (R181, R182). -/
theorem State.sluiceGo_manages (s : State) (new : Nat) (hn : actsIn new = true) (hw : s.acting = false)
    (hsw : s.red.switching = false) (hh : s.isHead = true) (hm : s.managerEn = true) (hman : s.red.manager = false)
    (ha : s.managerAbove = false) (hs : s.spent = false) :
    (s.sluiceGo new).red.manager = true ∧
      (s.sluiceGo new).par P.LEASE_EPOCH = nextEpoch (s.par P.EPOCH_HIGHEST) (b2n s.sideB) ∧
      (s.sluiceGo new).par P.EPOCH_HIGHEST = nextEpoch (s.par P.EPOCH_HIGHEST) (b2n s.sideB) := by
  set u : State := { s.entered new with red := { (s.entered new).red with rejoin := false } } with hu
  have hpar {id : Nat} (h : spared [P.SLUICE_STATE] [] id 0 = true) : u.par id = s.par id :=
    State.par_entered_spared h s new (by decide)
  have hstart : u.start.role = s.start.role ∧ u.start.record = s.start.record := by
    rw [hu, State.entered_frame]
    exact ⟨rfl, rfl⟩
  have hred : u.red.manager = s.red.manager ∧ u.red.otherManager = s.red.otherManager ∧
      u.red.switching = s.red.switching := by
    rw [hu, State.entered_frame]
    exact ⟨rfl, rfl, rfl⟩
  have hswitching : (s.entered new).red.switching = false := hred.2.2.trans hsw
  have hgo : s.sluiceGo new = u.becomeManager.syncEval := by
    rw [State.sluiceGo_eq]
    unfold State.sluiceDuties
    rw [if_pos (by rw [s.acting_entered, hn, hw]; rfl)]
    dsimp only
    rw [if_neg (by rw [hswitching]; decide)]
  have hside : u.sideB = s.sideB := by unfold State.sideB; rw [hstart.2]
  have habove : u.managerAbove = false := by
    rw [← ha]
    unfold State.managerAbove
    rw [hred.2.1, hpar (by decide)]
  have hspent : u.spent = false := by
    rw [← hs]
    unfold State.spent State.isHead
    rw [hside, hstart.1, hpar (by decide)]
  have htakes := u.becomeManager_takes (by unfold State.isHead; rw [hstart.1]; exact hh)
    (by unfold State.managerEn; rw [hstart.2]; exact hm) (hred.1.trans hman) habove hspent
  rw [hpar (by decide), hside] at htakes
  have hsync {id : Nat} (h : spared [P.READY_TIME] syncEvents id 0 = true) :
      (u.becomeManager.syncEval).par id = u.becomeManager.par id :=
    State.par_syncEval_spared h _ (by simp) (by simp)
  rw [hgo, hsync (by decide), hsync (by decide), State.syncEval_red]
  exact htakes

/-- Nothing blocks a device that is not forced to standby, with an epoch well below the last (R178, R182). -/
theorem State.blocked_false (s : State) (hf : s.par P.FORCE_STANDBY ≠ 1)
    (he : s.isHead = true → s.par P.EPOCH_HIGHEST + 2 < 2 ^ 32) : s.blocked = false := by
  unfold State.blocked State.spent
  simp only [beq_eq_false_iff_ne.2 hf, Bool.false_or]
  cases hh : s.isHead with
  | false => rfl
  | true =>
    have hb := (nextEpoch_bounds (s.par P.EPOCH_HIGHEST) s.sideB).2.1
    have := he hh
    simp only [Bool.true_and, decide_eq_false_iff_not]
    omega

/-- What a claim's end leaves, where nothing blocks the device then (R178, R182). -/
theorem State.enterActive_unblocked (s : State) (hf : s.par P.FORCE_STANDBY ≠ 1)
    (he : s.isHead = true → s.par P.EPOCH_HIGHEST + 4 < 2 ^ 32) :
    s.enterActive = (s.claimTold.sluiceGo s.actState).logTakeover s.red.cause := by
  have hsans : (s.claimTold.sluiceGo s.actState).sansSluice = s.sansSluice :=
    State.sansSluice_of_sansGo ((State.sluiceGo_sansGo _ _).trans s.claimTold_sansGo)
  have hforce : (s.claimTold.sluiceGo s.actState).par P.FORCE_STANDBY = s.par P.FORCE_STANDBY := by
    rw [State.par_sluiceGo_spared (ids := sluicePars) (evs := sluiceEvents) (by decide) _ _ (by simp) (by simp)]
    exact State.par_claimTold_spared (ids := []) (evs := claimEvents) (by decide) s (by simp)
  have hepoch : (s.claimTold.sluiceGo s.actState).par P.EPOCH_HIGHEST ≤ s.par P.EPOCH_HIGHEST + 2 := by
    refine (State.sluiceGo_epoch _ _).trans (Nat.add_le_add_right (le_of_eq ?_) 2)
    exact State.par_claimTold_spared (ids := []) (evs := claimEvents) (by decide) s (by simp)
  rw [State.enterActive_eq, State.actState_claimTold]
  set u := (s.claimTold.sluiceGo s.actState).logTakeover s.red.cause with hu
  have hpar (id : Nat) : u.par id = (s.claimTold.sluiceGo s.actState).par id := State.par_logTakeover _ _ _ _
  have hhead : u.isHead = s.isHead := by
    unfold State.isHead
    rw [hu, State.logTakeover_start, State.role_of_sansSluice hsans]
  have hblocked : u.blocked = false := by
    refine u.blocked_false ?_ fun hh => ?_
    · rw [hpar, hforce]
      exact hf
    · have := he (hhead ▸ hh)
      rw [hpar]
      omega
  unfold State.blockCheck
  rw [if_neg (by simp [hblocked])]

/-- A clean window ends the claim: ACTIVE, or SINGLE without redundancy, and the manager function where the head may take it
(R178, R182). -/
theorem execClaimWindowEnd_acts (s : State) (hc : s.sluice = SL.CLAIM) (hw : s.red.window = true)
    (hf : s.par P.FORCE_STANDBY ≠ 1) (he : s.isHead = true → s.par P.EPOCH_HIGHEST + 4 < 2 ^ 32) :
    ∃ t, execClaimWindowEnd s = .next t ∧
      t.sluice = (if s.redMode = true then SL.ACTIVE else SL.SINGLE) ∧ t.red.entries = (s.red.entries + 1) % 2 ^ 32 ∧
      (s.red.bySwitch = false → s.redMode = true → s.told t E.TAKEOVER) ∧
      (s.red.bySwitch = false → s.isHead = true → s.managerEn = true → s.red.manager = false → s.managerAbove = false →
        t.red.manager = true ∧ s.par P.EPOCH_HIGHEST < t.par P.LEASE_EPOCH ∧
        t.par P.LEASE_EPOCH ≤ s.par P.EPOCH_HIGHEST + 2 ∧ t.par P.LEASE_EPOCH % 2 = b2n s.sideB ∧
        t.par P.EPOCH_HIGHEST = t.par P.LEASE_EPOCH) := by
  have hsans : (s.claimTold.sluiceGo s.actState).sansGo = s.sansGo :=
    (State.sluiceGo_sansGo _ _).trans s.claimTold_sansGo
  have htold {id : Nat} (h : spared [] claimEvents id 0 = true) : s.claimTold.par id = s.par id :=
    State.par_claimTold_spared h s (by simp)
  have hrole := State.role_of_sansSluice (State.sansSluice_of_sansGo s.claimTold_sansGo)
  have hrec := State.record_of_sansSluice (State.sansSluice_of_sansGo s.claimTold_sansGo)
  refine ⟨s.enterActive, by unfold execClaimWindowEnd; rw [if_pos ⟨hc, hw⟩], ?_⟩
  rw [State.enterActive_unblocked s hf he]
  refine ⟨?_, ?_, fun hsw hm => ?_, fun hsw hh hme hn ha => ?_⟩
  · rw [State.sluice, State.par_logTakeover]
    exact State.sluice_sluiceGo _ _
  · rw [State.logTakeover_red]
    rw [State.entries_of_sansGo hsans]
  · refine State.told_of_after (s.told_claimTold hsw hm) ((State.par_logTakeover _ _ _ _).trans ?_)
    exact State.par_sluiceGo_spared (ids := sluicePars) (evs := sluiceEvents) (by decide) _ _ (by simp) (by simp)
  · have hside : s.claimTold.sideB = s.sideB := by unfold State.sideB; rw [hrec]
    have hactw : s.claimTold.acting = false := by
      unfold State.acting State.sluice
      rw [htold (by decide), show s.par P.SLUICE_STATE = SL.CLAIM from hc]
      rfl
    have hspent : s.claimTold.spent = false := by
      have hb := (nextEpoch_bounds (s.par P.EPOCH_HIGHEST) s.sideB).2.1
      have hlow := he hh
      unfold State.spent
      rw [hside, htold (by decide)]
      simp only [Bool.and_eq_false_iff, decide_eq_false_iff_not]
      exact .inr (by omega)
    have habove : s.claimTold.managerAbove = false := by
      rw [← ha]
      unfold State.managerAbove
      rw [State.otherManager_of_sansGo s.claimTold_sansGo, htold (by decide)]
    have hswitching : s.claimTold.red.switching = false := by
      unfold State.claimTold
      dsimp only
      rw [State.raiseIf_red, hsw]
      rfl
    have hman : s.claimTold.red.manager = false := by
      unfold State.claimTold
      dsimp only
      rw [State.raiseIf_red]
      dsimp only
      rw [State.raiseIf_red, State.raiseIf_red]
      exact hn
    obtain ⟨h1, h2, h3⟩ := s.claimTold.sluiceGo_manages s.actState s.actState_acts hactw hswitching
      (by unfold State.isHead; rw [hrole]; exact hh) (by unfold State.managerEn; rw [hrec]; exact hme) hman habove hspent
    obtain ⟨hlow, hhigh, hbit⟩ := nextEpoch_bounds (s.par P.EPOCH_HIGHEST) s.sideB
    rw [hside, htold (by decide)] at h2 h3
    rw [State.par_logTakeover, State.par_logTakeover, h2, h3]
    refine ⟨?_, hlow, hhigh, hbit, rfl⟩
    rw [State.logTakeover_red]
    exact h1

/-! The named tick of a switchover (R190) -/

/-- The named tick of a switchover has come: it is named no more (R190). -/
def State.tickNamed (s : State) : State := { s with red := { s.red with switchTick := none } }

/-- A yield ends at its tick: in STANDBY where the partner acted in time; else it is refused, the device acts on, and the take-over
is logged (R178, R190). -/
theorem State.namedTick_yield (s : State) (tie : Bool) (hn : s.red.switchTick ≠ none) (hy : s.sluice = SL.YIELD) :
    s.namedTick tie = if ∃ a, s.red.actingAt = some a ∧ s.onTime tie a = true then
        (s.tickNamed.raise E.SWITCHOVER_DONE).goStandby
      else ((s.tickNamed.raise E.SWITCHOVER_REFUSED).sluiceGo s.tickNamed.actState).logTakeover 3 := by
  unfold State.namedTick
  split
  · rename_i h
    exact absurd h hn
  · change (if s.tickNamed.sluice = SL.YIELD then _ else _) = _
    rw [if_pos (show s.tickNamed.sluice = SL.YIELD from hy)]
    split
    · rename_i a ha
      by_cases ho : s.onTime tie a = true
      · refine Eq.trans ?_ (if_pos ⟨a, ha, ho⟩).symm
        exact if_pos (show State.onTime { s with red := { s.red with switchTick := none } } tie a = true from ho)
      · refine Eq.trans (b := ((s.tickNamed.raise E.SWITCHOVER_REFUSED).sluiceGo s.tickNamed.actState).logTakeover 3)
          ?_ (if_neg ?_).symm
        · exact if_neg (show ¬ State.onTime { s with red := { s.red with switchTick := none } } tie a = true from ho)
        · rintro ⟨b, hb, hob⟩
          have hab : a = b := Option.some.inj (ha.symm.trans hb)
          exact ho (hab ▸ hob)
    · rename_i ha
      rw [if_neg]
      · rfl
      rintro ⟨b, hb, -⟩
      have hnone : s.red.actingAt = none := ha
      rw [hnone] at hb
      cases hb

theorem execYieldTickReached_ends (tie : Bool) (s : State) (hn : s.red.switchTick ≠ none) (hy : s.sluice = SL.YIELD) :
    ∃ t, execYieldTickReached tie s = .next t ∧ t.red.switchTick = none ∧
      ((∃ a, s.red.actingAt = some a ∧ s.onTime tie a = true) → t.sluice = s.standbyLeads ∧ s.told t E.SWITCHOVER_DONE) ∧
      ((∀ a, s.red.actingAt = some a → s.onTime tie a = false) → t.sluice = s.actState ∧
        s.told t E.SWITCHOVER_REFUSED) := by
  refine ⟨_, rfl, ?_⟩
  rw [s.namedTick_yield tie hn hy]
  split
  · rename_i hacted
    have hnone := State.switchTick_of_sansSluice ((State.goStandby_sansSluice (s.tickNamed.raise E.SWITCHOVER_DONE)).trans
      (State.sansSluice_of_sansGo (s.tickNamed.raise_sansGo E.SWITCHOVER_DONE 0xFFFF 0 0)))
    refine ⟨hnone, fun _ => ⟨?_, ?_⟩, fun hlate => ?_⟩
    · rw [State.sluice_goStandby, State.standbyLeads_raise _ _ _ _ _ (by decide)]
      rfl
    · have htold : s.told (s.tickNamed.raise E.SWITCHOVER_DONE) E.SWITCHOVER_DONE :=
        State.told_raise s.tickNamed _ _ _ _ (by decide)
      exact State.told_of_after htold
        (State.par_goStandby_resting (ids := restPars) (evs := syncEvents) (by decide) _ (by simp) (by simp))
    · obtain ⟨a, ha, ho⟩ := hacted
      rw [hlate a ha] at ho
      cases ho
  · rename_i hacted
    have hnone := State.switchTick_of_sansSluice (State.sansSluice_of_sansGo
      ((State.sluiceGo_sansGo _ s.tickNamed.actState).trans (s.tickNamed.raise_sansGo E.SWITCHOVER_REFUSED 0xFFFF 0 0)))
    refine ⟨?_, fun h => absurd h hacted, fun _ => ⟨?_, ?_⟩⟩
    · rw [State.logTakeover_red]
      exact hnone
    · rw [State.sluice, State.par_logTakeover]
      exact State.sluice_sluiceGo _ _
    · have htold : s.told (s.tickNamed.raise E.SWITCHOVER_REFUSED) E.SWITCHOVER_REFUSED :=
        State.told_raise s.tickNamed _ _ _ _ (by decide)
      refine State.told_of_after htold ?_
      rw [State.par_logTakeover]
      exact State.par_sluiceGo_spared (ids := sluicePars) (evs := sluiceEvents) (by decide) _ _ (by simp) (by simp)

/-- Settles O44: each clause is the law of its command. -/
theorem sluiceAndPartnerWires : Obligations.SluiceAndPartnerWires := by
  unfold Obligations.SluiceAndPartnerWires
  refine ⟨⟨execHeartbeatEdge_classes, fun s => ⟨execHeartbeatTimeout_loses s, fun high => execSluiceIChange_takes high s,
    execDoubtTimer_tells s, fun hv => ?_⟩⟩, fun s => ⟨execClaimHoldoffExpiry_leads s, execClaimWindowEnd_acts s, fun h => ?_,
    execLampNetActivity_withdraws s, execEvidenceTimeout_claims s, fun hd => ?_, fun tie => execYieldTickReached_ends tie s⟩⟩
  · exact congrArg Host.Outcome.next (if_neg fun h => hv h.1)
  · refine congrArg Host.Outcome.next (if_neg fun hc => ?_)
    rcases h with h | h
    · exact h hc.1
    · rw [h] at hc
      cases hc.2
  · exact congrArg Host.Outcome.next (if_neg fun h => by rw [hd] at h; cases h.2.2)

end Sys2Proof.Machine
end

section
/-! Faults contained in a cluster (R30, R31, R518; the clusters' numbers are log entry 28): the quiesced cluster, the lanes of its
quad, its quad of lamp ports, and the return at a frame boundary. -/

namespace Sys2Proof.Machine

theorem State.raiseRec_start (s : State) (r : Raise) : (s.raiseRec r).start = s.start := by rw [State.raiseRec_eq]

/-! A lane's state (R114) -/

/-- The parameters and events that a lane's change of state, or a lost DP link, may write and raise besides LANE_STATE. -/
def lanePars : List Nat := [P.RATE_IN_USE, P.EYE_SCAN_STATUS, P.DP_LINK_STATUS]
def laneEvents : List Nat :=
  [E.EVENT_OVERFLOW, E.LANE_DOWN, E.LANE_UP, E.EYE_SCAN_DONE, E.DP_LINK_LOST, E.DP_FRAME_DAMAGED]

section
variable {ids evs : List Nat} {id idx : Nat}

theorem State.par_scanCheck_spared (h : spared ids evs id idx = true) (s : State) (hi : lanePars ⊆ ids)
    (he : laneEvents ⊆ evs) : s.scanCheck.par id idx = s.par id idx := by
  have ho : E.EVENT_OVERFLOW ∈ evs := he (by decide)
  unfold State.scanCheck
  split
  · rfl
  · split
    · rfl
    · unfold State.scanEnd
      split
      · rfl
      · exact (State.par_raise_spared h _ _ _ _ (he (by decide)) ho (by decide)).trans
          (State.par_setPar_spared h s (idx' := 0) _ (hi (by decide)) (by decide))

theorem State.par_dpDamage_spared (h : spared ids evs id idx = true) (s : State) (n : Nat) (he : laneEvents ⊆ evs) :
    (s.dpDamage n).par id idx = s.par id idx := by
  unfold State.dpDamage
  split
  · rfl
  · exact State.par_raise_spared h _ _ _ _ (he (by decide)) (he (by decide)) (by decide)

theorem State.par_dpUntrain_spared (h : spared ids evs id idx = true) (s : State) (n st : Nat) (hn : n < 65536)
    (hi : lanePars ⊆ ids) (he : laneEvents ⊆ evs) : (s.dpUntrain n st).par id idx = s.par id idx := by
  simp only [State.dpUntrain]
  split
  · rw [State.par_scanCheck_spared h _ hi he, State.par_dpDamage_spared h _ _ he]
    exact State.par_setPar_spared h _ _ (hi (by decide)) hn
  · rfl

theorem State.par_dpLinkLoss_spared (h : spared ids evs id idx = true) (s : State) (n lane : Nat) (hn : n < 65536)
    (hi : lanePars ⊆ ids) (he : laneEvents ⊆ evs) : (s.dpLinkLoss n lane).par id idx = s.par id idx := by
  unfold State.dpLinkLoss
  split
  · rfl
  · exact (State.par_dpUntrain_spared h _ _ _ hn hi he).trans
      (State.par_raise_spared h _ _ _ _ (he (by decide)) (he (by decide)) (by decide))

/-- Lane `n` entered its state at the next cycle. -/
def State.laneEntered (s : State) (n : Nat) : State := s.updLane n fun l => { l with enteredAt := s.now + 1 }

theorem State.laneGo_eq (s : State) (n st : Nat) : s.laneGo n st =
    (((((s.laneEntered n).setPar P.LANE_STATE n st).setPar P.RATE_IN_USE n
      (if st = L.OFF then 0xFF else ((s.laneEntered n).setPar P.LANE_STATE n st).laneRunRate n)).raiseIf
      (s.laneState n == L.UP && st != L.UP) E.LANE_DOWN n).raiseIf
      (s.laneState n != L.UP && st == L.UP) E.LANE_UP n).scanCheck := by
  unfold State.laneGo State.laneEntered
  rfl

theorem State.par_laneGo_eq (h : spared ids evs id idx = true) (s : State) (n st : Nat) (hn : n < 65536)
    (hi : lanePars ⊆ ids) (he : laneEvents ⊆ evs) :
    (s.laneGo n st).par id idx = ((s.laneEntered n).setPar P.LANE_STATE n st).par id idx := by
  have ho : E.EVENT_OVERFLOW ∈ evs := he (by decide)
  rw [State.laneGo_eq, State.par_scanCheck_spared h _ hi he,
    State.par_raiseIf_spared h _ _ _ _ (he (by decide)) ho (by decide),
    State.par_raiseIf_spared h _ _ _ _ (he (by decide)) ho (by decide), State.par_setPar_spared h _ _ (hi (by decide)) hn]

theorem State.par_laneGo_spared (h : spared ids evs id idx = true) (s : State) (n st : Nat) (hn : n < 65536)
    (hl : P.LANE_STATE ∈ ids) (hi : lanePars ⊆ ids) (he : laneEvents ⊆ evs) : (s.laneGo n st).par id idx = s.par id idx :=
  (State.par_laneGo_eq h s n st hn hi he).trans (State.par_setPar_spared h _ _ hl hn)

end

theorem spared_laneState {n : Nat} (h : n < 65536) : spared lanePars laneEvents P.LANE_STATE n = true :=
  spared_iff.mpr ⟨h, by decide, fun e => absurd e (by decide)⟩

/-- A lane's change of state moves that lane alone. -/
theorem State.laneState_laneGo (s : State) {m n : Nat} (st : Nat) (hm : m < 65536) (hn : n < 65536) :
    (s.laneGo m st).laneState n = if n = m then st else s.laneState n := by
  rw [State.laneState, State.par_laneGo_eq (spared_laneState hn) s m st hm (by simp) (by simp)]
  split
  · rename_i h
    rw [h, State.par_setPar]
  · rename_i h
    exact State.par_setPar_ne (s.laneEntered m) st fun e => h (by unfold pkey at e; omega)

theorem State.laneState_dpLinkLoss (s : State) (n lane : Nat) {m : Nat} (hn : n < 65536) (hm : m < 65536) :
    (s.dpLinkLoss n lane).laneState m = s.laneState m :=
  State.par_dpLinkLoss_spared (spared_laneState hm) s n lane hn (by simp) (by simp)

theorem State.scanCheck_start (s : State) : s.scanCheck.start = s.start := by
  unfold State.scanCheck
  split
  · rfl
  · split
    · rfl
    · unfold State.scanEnd
      split
      · rfl
      · rw [State.raise_start]
        rfl

theorem State.laneGo_start (s : State) (n st : Nat) : (s.laneGo n st).start = s.start := by
  rw [State.laneGo_eq, State.scanCheck_start, State.raiseIf_start, State.raiseIf_start]
  rfl

theorem State.dpDamage_start (s : State) (n : Nat) : (s.dpDamage n).start = s.start := by
  unfold State.dpDamage
  split
  · rfl
  · rw [State.raise_start]

theorem State.dpUntrain_start (s : State) (n st : Nat) : (s.dpUntrain n st).start = s.start := by
  simp only [State.dpUntrain]
  split
  · rw [State.scanCheck_start, State.dpDamage_start]
    rfl
  · rfl

theorem State.dpLinkLoss_start (s : State) (n lane : Nat) : (s.dpLinkLoss n lane).start = s.start := by
  unfold State.dpLinkLoss
  split
  · rfl
  · exact (State.dpUntrain_start _ _ _).trans (State.raise_start _ _ _ _ _)

/-! The lanes of a quad that faults and returns -/

/-- One lane of a quad leaves its state (R114). -/
def State.laneLeaves (s : State) (q i : Nat) : State :=
  if s.laneState (q * 4 + i) = L.OFF then s
  else if s.laneState (q * 4 + i) = L.DP then (s.dpLinkLoss q i).laneGo (q * 4 + i) L.SIGNAL
  else s.laneGo (q * 4 + i) L.SIGNAL

theorem State.quadLeaves_eq (s : State) (q : Nat) : s.quadLeaves q = s.each [0, 1, 2, 3] fun s i => s.laneLeaves q i := by
  unfold State.quadLeaves State.laneLeaves
  rfl

theorem State.laneLeaves_start (s : State) (q i : Nat) : (s.laneLeaves q i).start = s.start := by
  unfold State.laneLeaves
  split
  · rfl
  · split
    · rw [State.laneGo_start, State.dpLinkLoss_start]
    · rw [State.laneGo_start]

theorem State.quadLeaves_start (s : State) (q : Nat) : (s.quadLeaves q).start = s.start := by
  rw [State.quadLeaves_eq]
  exact State.each_keeps State.start _ _ _ fun s i => s.laneLeaves_start q i

theorem State.laneState_laneLeaves (s : State) {q i n : Nat} (hq : q < 8) (hi : i < 4) (hn : n < 32) :
    (s.laneLeaves q i).laneState n = if n = q * 4 + i ∧ s.laneState n ≠ L.OFF then L.SIGNAL else s.laneState n := by
  have hm : q * 4 + i < 65536 := by omega
  unfold State.laneLeaves
  split
  · rename_i hoff
    rw [if_neg]
    rintro ⟨rfl, h⟩
    exact h hoff
  · rename_i hoff
    have hgo (t : State) (ht : t.laneState n = s.laneState n) : (t.laneGo (q * 4 + i) L.SIGNAL).laneState n =
        if n = q * 4 + i ∧ s.laneState n ≠ L.OFF then L.SIGNAL else s.laneState n := by
      rw [State.laneState_laneGo _ _ hm (by omega), ht]
      by_cases h : n = q * 4 + i
      · rw [if_pos h, if_pos ⟨h, h ▸ hoff⟩]
      · rw [if_neg h, if_neg fun hc => h hc.1]
    split
    · exact hgo _ (s.laneState_dpLinkLoss q i (by omega) (by omega))
    · exact hgo s rfl

/-- Each lane of the quad that is not OFF goes to SIGNAL, and no other lane moves (R114). -/
theorem State.laneState_quadLeaves (s : State) {q n : Nat} (hq : q < 8) (hn : n < 32) :
    (s.quadLeaves q).laneState n = if n / 4 = q ∧ s.laneState n ≠ L.OFF then L.SIGNAL else s.laneState n := by
  have hloop (l : List Nat) (hl : ∀ i ∈ l, i < 4) (s : State) : (s.each l fun s i => s.laneLeaves q i).laneState n =
      if (∃ i ∈ l, n = q * 4 + i) ∧ s.laneState n ≠ L.OFF then L.SIGNAL else s.laneState n := by
    induction l generalizing s with
    | nil => simp [State.each]
    | cons i l ih =>
      have hstep := s.laneState_laneLeaves hq (hl i (by simp)) hn
      change ((s.laneLeaves q i).each l fun s i => s.laneLeaves q i).laneState n = _
      rw [ih (fun j hj => hl j (by simp [hj])), hstep]
      by_cases hoff : s.laneState n = L.OFF
      · simp [hoff]
      · by_cases hi : n = q * 4 + i
        · simp [← hi, hoff]
        · simp [hi, hoff]
  have hquad : (∃ i ∈ [0, 1, 2, 3], n = q * 4 + i) ↔ n / 4 = q := by
    simp only [List.mem_cons, List.not_mem_nil, or_false, exists_eq_or_imp, exists_eq_left]
    omega
  rw [State.quadLeaves_eq, hloop _ (by decide)]
  simp only [hquad]

/-- One lane of a quad takes up its work again (R114). -/
def State.laneReturns (s : State) (q i : Nat) : State :=
  if s.laneState (q * 4 + i) ≠ L.SIGNAL then s
  else if s.laneUse (q * 4 + i) / 16 = 4 then s.laneGo (q * 4 + i) L.DP
  else (s.updLane (q * 4 + i) fun l => { l with adapted := false, polarityTold := false }).laneGo (q * 4 + i) L.CDR

theorem State.quadReturns_eq (s : State) (q : Nat) : s.quadReturns q = s.each [0, 1, 2, 3] fun s i => s.laneReturns q i := by
  unfold State.quadReturns State.laneReturns
  rfl

theorem State.quadReturns_start (s : State) (q : Nat) : (s.quadReturns q).start = s.start := by
  rw [State.quadReturns_eq]
  refine State.each_keeps State.start _ _ _ fun s i => ?_
  unfold State.laneReturns
  split
  · rfl
  · split <;> exact State.laneGo_start _ _ _

theorem State.par_quadReturns_spared {ids evs : List Nat} {id idx : Nat} (h : spared ids evs id idx = true) (s : State) {q : Nat}
    (hq : q < 8) (hl : P.LANE_STATE ∈ ids) (hi : lanePars ⊆ ids) (he : laneEvents ⊆ evs) :
    (s.quadReturns q).par id idx = s.par id idx := by
  have hlane (i : Nat) (hi4 : i < 4) (s : State) : (s.laneReturns q i).par id idx = s.par id idx := by
    unfold State.laneReturns
    split
    · rfl
    · split <;> exact State.par_laneGo_spared h _ _ _ (by omega) hl hi he
  rw [State.quadReturns_eq]
  simp only [State.each, List.foldl_cons, List.foldl_nil]
  rw [hlane 3 (by decide), hlane 2 (by decide), hlane 1 (by decide), hlane 0 (by decide)]

/-! A quad of lamp ports -/

theorem State.seq_updSeq_same (s : State) (q : Nat) (f : Seq → Seq) : (s.updSeq q f).seq q = f (s.seq q) :=
  SMap.get_set_same _ _ _ _

theorem State.seq_updSeq_ne (s : State) {q p : Nat} (f : Seq → Seq) (h : p ≠ q) : (s.updSeq q f).seq p = s.seq p :=
  SMap.get_set_ne _ _ _ _ h

/-- The sequencer as a quad that stops leaves it (R30): dark for good where it stopped less than a second ago. -/
def Seq.stopped (d : Seq) (again : Bool) : Seq :=
  { d with st := 3, ops := [], replay := [], pending := [], align := none, shifting := false
           dark := if again then 2 else 1 }

def State.stopsAgain (s : State) (q : Nat) : Bool :=
  match (s.seq q).restartAt with | some t => decide (s.now < t + sec) | none => false

/-- A bus that the program of a stopped quad held is free. -/
def State.freeBus (s : State) (q : Nat) : State :=
  let b := SMap.get {} s.drive.buses q
  match b.owner with
  | .program _ => { s with drive := { s.drive with buses := SMap.set {} s.drive.buses q { b with owner := .idle } } }
  | _ => s

theorem State.quadStop_eq (s : State) (q : Nat) :
    s.quadStop q = (s.updSeq q fun d => d.stopped (s.stopsAgain q)).freeBus q := by
  unfold State.quadStop State.freeBus State.stopsAgain Seq.stopped
  rfl

theorem State.freeBus_seq (s : State) (q p : Nat) : (s.freeBus q).seq p = s.seq p := by
  simp only [State.freeBus]
  split <;> rfl

theorem State.freeBus_start (s : State) (q : Nat) : (s.freeBus q).start = s.start := by
  simp only [State.freeBus]
  split <;> rfl

theorem State.quadStop_start (s : State) (q : Nat) : (s.quadStop q).start = s.start := by
  rw [State.quadStop_eq, State.freeBus_start]
  rfl

theorem State.seq_quadStop_same (s : State) (q : Nat) : (s.quadStop q).seq q = (s.seq q).stopped (s.stopsAgain q) := by
  rw [State.quadStop_eq, State.freeBus_seq, State.seq_updSeq_same]

theorem State.seq_quadStop_ne (s : State) {q p : Nat} (h : p ≠ q) : (s.quadStop q).seq p = s.seq p := by
  rw [State.quadStop_eq, State.freeBus_seq, State.seq_updSeq_ne _ _ h]

theorem Seq.stopped_dark (d : Seq) (again : Bool) : (d.stopped again).dark ≠ 0 := by
  cases again
  · exact Nat.one_ne_zero
  · exact Nat.succ_ne_zero 1

/-- A stopped quad that is dark once starts again, dark until its first frame, and tells it (R31, R518). -/
theorem State.quadRestart_takes (s : State) (q : Nat) (hst : (s.seq q).st = 3) (hd : (s.seq q).dark = 1)
    (hs : s.tile.shift = none) :
    ((s.quadRestart q).seq q).st = 0 ∧ ((s.quadRestart q).seq q).dark = 3 ∧ s.told (s.quadRestart q) E.QUAD_RESTART := by
  unfold State.quadRestart
  rw [if_neg (by simp [hst, hd])]
  simp only [State.raise_tile]
  rw [show (s.updSeq q fun d => { d with st := 0, dark := 3, restartAt := some s.now, planeFrame := 0, planes := 0 }).tile.shift =
    none from hs]
  refine ⟨?_, ?_, State.told_raise (s.updSeq q _) _ _ _ _ (by decide)⟩
  · rw [State.seq, State.raise_drive]
    exact congrArg Seq.st (State.seq_updSeq_same s q _)
  · rw [State.seq, State.raise_drive]
    exact congrArg Seq.dark (State.seq_updSeq_same s q _)

theorem State.startSeq_start (s : State) (q k : Nat) : (s.startSeq q k).start = s.start := by
  simp only [State.startSeq]
  split <;> rfl

theorem State.present_start (s : State) (q code : Nat) : (s.present q code).start = s.start := by
  simp only [State.present]
  split
  · rfl
  · split
    · split
      · rfl
      · exact State.raiseTick_start _ _ _ _
    · rfl

theorem State.presentFrame_start (s : State) (q k : Nat) : (s.presentFrame q k).start = s.start := by
  simp only [State.presentFrame]
  split
  · split
    · exact State.startSeq_start _ _ _
    · rfl
  · split
    · exact State.present_start _ _ _
    · rfl

theorem State.quadRestart_start (s : State) (q : Nat) : (s.quadRestart q).start = s.start := by
  unfold State.quadRestart
  split
  · rfl
  · dsimp only
    split
    · split
      · rw [State.presentFrame_start, State.raise_start]
        rfl
      · rw [State.raise_start]
        rfl
    · rw [State.raise_start]
      rfl

/-! The quiesced clusters -/

/-- The state with another set of quiesced clusters. -/
def State.withQuiesced (s : State) (m : NSet) : State := { s with start := { s.start with quiesced := m } }

theorem State.withQuiesced_isTile (s : State) (m : NSet) : (s.withQuiesced m).isTile = s.isTile := rfl

/-- What stops with cluster `c` of region `r`: a quad of lanes, a quad of lamp ports, or nothing more. -/
def State.clusterStops (s : State) (r : Region) (c : Nat) : State :=
  match r with
  | .front => if c < 8 then s.quadLeaves c else s
  | .image => if s.isTile && decide (c < 8) then s.quadStop c else s
  | _ => s

/-- What runs again with it. -/
def State.clusterReturns (s : State) (r : Region) (c : Nat) : State :=
  match r with
  | .front => if c < 8 then s.quadReturns c else s
  | .image =>
    if s.isTile && decide (c < 8) then s.quadRestart c
    else if s.isHead && c == 4 then { s with scan := { s.scan with streamers := [] } }
    else s
  | _ => s

theorem State.quiesce_eq (s : State) (r : Region) (c : Nat) :
    s.quiesce r c = (s.withQuiesced (NSet.add s.start.quiesced (32 * r.num + c))).clusterStops r c := by
  unfold State.quiesce State.clusterStops State.withQuiesced
  rfl

theorem State.restartCluster_eq (s : State) (r : Region) (c : Nat) :
    s.restartCluster r c = (s.withQuiesced (NSet.del s.start.quiesced (32 * r.num + c))).clusterReturns r c := by
  unfold State.restartCluster State.clusterReturns State.withQuiesced
  rfl

theorem State.clusterStops_start (s : State) (r : Region) (c : Nat) : (s.clusterStops r c).start = s.start := by
  cases r with
  | front => exact (apply_ite State.start _ _ _).trans (by rw [State.quadLeaves_start, ite_self])
  | image => exact (apply_ite State.start _ _ _).trans (by rw [State.quadStop_start, ite_self])
  | control | memory | time => rfl

theorem State.clusterReturns_start (s : State) (r : Region) (c : Nat) : (s.clusterReturns r c).start = s.start := by
  cases r with
  | front => exact (apply_ite State.start _ _ _).trans (by rw [State.quadReturns_start, ite_self])
  | image =>
    refine (apply_ite State.start _ _ _).trans ?_
    rw [State.quadRestart_start, apply_ite State.start, ite_self, ite_self]
  | control | memory | time => rfl

/-- A cluster that serves no quad stops nothing else. -/
theorem State.clusterStops_none (s : State) (r : Region) (c : Nat)
    (h : 8 ≤ c ∨ (r ≠ .front ∧ (r ≠ .image ∨ s.isTile = false))) : s.clusterStops r c = s := by
  cases r with
  | front =>
    refine if_neg fun hc => ?_
    rcases h with h | h
    · omega
    · exact h.1 rfl
  | image =>
    refine if_neg fun hc => ?_
    simp only [Bool.and_eq_true, decide_eq_true_eq] at hc
    rcases h with h | ⟨-, h | h⟩
    · omega
    · exact h rfl
    · exact absurd (hc.1.symm.trans h) nofun
  | control | memory | time => rfl

theorem State.clusterStops_image (s : State) {c : Nat} (ht : s.isTile = true) (hc : c < 8) :
    s.clusterStops .image c = s.quadStop c := if_pos (by simp [ht, hc])

theorem State.clusterReturns_image (s : State) {c : Nat} (ht : s.isTile = true) (hc : c < 8) :
    s.clusterReturns .image c = s.quadRestart c := if_pos (by simp [ht, hc])

/-- The count of EV 21 stands while a cluster that serves no quad of lamp ports returns. -/
theorem State.clusterReturns_restartCount (s : State) (r : Region) (c : Nat)
    (h : r ≠ .image ∨ s.isTile = false ∨ 8 ≤ c) :
    (s.clusterReturns r c).par P.EVENT_COUNT E.CLUSTER_RESTART = s.par P.EVENT_COUNT E.CLUSTER_RESTART := by
  cases r with
  | front =>
    simp only [State.clusterReturns]
    split
    · rename_i hc
      exact State.par_quadReturns_spared (ids := P.LANE_STATE :: lanePars) (evs := laneEvents) (by decide) s hc (by decide)
        (by simp) (by simp)
    · rfl
  | image =>
    have hq : ¬ (s.isTile && decide (c < 8)) = true := by
      simp only [Bool.and_eq_true, decide_eq_true_eq]
      rintro ⟨ht, hc⟩
      rcases h with h | h | h
      · exact h rfl
      · exact absurd (ht.symm.trans h) nofun
      · omega
    simp only [State.clusterReturns, if_neg hq]
    split <;> rfl
  | control | memory | time => rfl

/-! The commands -/

/-- A cluster that faults is quiesced, and no other: the lanes of its quad leave their state, its quad of lamp ports goes dark. -/
theorem execClusterFault_quiesces (r : Region) (c : Fin 32) (s : State) (hr : s.isReleased r = true) :
    ∃ t, exec (.clusterFault r c) s = .next t ∧
      (∀ n, n ∈ t.start.quiesced ↔ n ∈ s.start.quiesced ∨ n = 32 * r.num + c) ∧
      t.start = { s.start with quiesced := t.start.quiesced } ∧
      (r = .front → c.val < 8 → ∀ n : Fin 32, t.laneState n =
        if n.val / 4 = c.val ∧ s.laneState n ≠ L.OFF then L.SIGNAL else s.laneState n) ∧
      (r = .image → s.isTile = true → c.val < 8 → (t.seq c).st = 3 ∧ (t.seq c).dark ≠ 0 ∧
        ∀ q, q ≠ c.val → t.seq q = s.seq q) ∧
      (8 ≤ c.val ∨ (r ≠ .front ∧ (r ≠ .image ∨ s.isTile = false)) → t = { s with start := t.start }) := by
  refine ⟨_, rfl, ?_⟩
  rw [if_neg (by simp [hr]), State.quiesce_eq, State.clusterStops_start]
  refine ⟨NSet.mem_add _ _, rfl, ?_, fun hi ht hc => ?_, fun h => ?_⟩
  · rintro rfl hc n
    rw [show State.clusterStops _ .front c.val = State.quadLeaves _ c.val from if_pos hc]
    exact State.laneState_quadLeaves _ hc n.isLt
  · subst hi
    rw [State.clusterStops_image _ ((s.withQuiesced_isTile _).trans ht) hc, State.seq_quadStop_same]
    exact ⟨rfl, Seq.stopped_dark _ _, fun q hq => State.seq_quadStop_ne _ hq⟩
  · rw [State.clusterStops_none _ r c ((s.withQuiesced_isTile _).symm ▸ h)]
    rfl

/-- A quiesced cluster runs again at a frame boundary, and EV 21 or EV 421 tells it (R31, R518). -/
theorem execClusterRestartAtFrameBoundary_returns (r : Region) (c : Fin 32) (s : State)
    (hq : 32 * r.num + c.val ∈ s.start.quiesced) :
    ∃ t, exec (.clusterRestartAtFrameBoundary r c) s = .next t ∧
      (∀ n, n ∈ t.start.quiesced ↔ n ∈ s.start.quiesced ∧ n ≠ 32 * r.num + c) ∧
      t.start = { s.start with quiesced := t.start.quiesced } ∧
      (r = .image → s.isTile = true → c.val < 8 → (s.seq c).st = 3 → (s.seq c).dark = 1 → s.tile.shift = none →
        (t.seq c).st = 0 ∧ (t.seq c).dark = 3 ∧ s.told t E.QUAD_RESTART) ∧
      (r ≠ .image ∨ s.isTile = false ∨ 8 ≤ c.val → s.told t E.CLUSTER_RESTART) := by
  have hmem := NSet.mem_del s.start.quiesced (32 * r.num + c.val)
  refine ⟨_, rfl, ?_⟩
  rw [if_neg (by simp [hq]), State.restartCluster_eq]
  dsimp only
  split
  · rename_i hquad
    simp only [Bool.and_eq_true, beq_iff_eq, decide_eq_true_eq] at hquad
    obtain ⟨⟨hr, ht⟩, hc⟩ := hquad
    subst hr
    rw [State.clusterReturns_start]
    refine ⟨hmem, rfl, fun _ _ _ hst hd hs => ?_, fun h => ?_⟩
    · rw [State.clusterReturns_image _ ((s.withQuiesced_isTile _).trans ht) hc]
      exact State.quadRestart_takes _ _ hst hd hs
    · rcases h with h | h | h
      · exact absurd rfl h
      · exact absurd (ht.symm.trans h) nofun
      · omega
  · rename_i hquad
    have hno : r = .image → s.isTile = true → ¬ c.val < 8 := by
      rintro rfl ht hc
      exact hquad (by simp [ht, hc])
    rw [State.raiseRec_start, State.clusterReturns_start]
    refine ⟨hmem, rfl, fun hr ht hc => absurd hc (hno hr ht), fun h => ?_⟩
    refine State.told_of_before (State.told_raiseRec _ _ (show E.CLUSTER_RESTART ≠ E.EVENT_OVERFLOW by decide)) ?_
    exact State.clusterReturns_restartCount _ r c ((s.withQuiesced_isTile _).symm ▸ h)

end Sys2Proof.Machine
end

section
/-! Faults of the pipeline and of the device (R30, R32, R33): the restart of Image/Drive and safe hold. -/

namespace Sys2Proof.Machine

/-- A loop keeps what each of its turns over its own elements keeps. -/
theorem State.each_keeps_mem {α β : Type} (g : State → β) {l : List α} (s : State) {f : State → α → State}
    (h : ∀ s, ∀ x ∈ l, g (f s x) = g s) : g (s.each l f) = g s := by
  unfold State.each
  induction l generalizing s with
  | nil => rfl
  | cons x l ih =>
    rw [List.foldl_cons, ih _ fun s y hy => h s y (List.mem_cons_of_mem x hy), h s x List.mem_cons_self]

/-! What the loss of Image/Drive may change -/

/-- The state without what a restart or a safe hold of Image/Drive may change; which regions run and hold stays. -/
def State.sansImage (s : State) : State :=
  { s.sansGo with
    od := s.od, blobs := [], perf := {}, comp := {}, scan := {}, src := {}, tile := {}, red := {}, fix := {}, store := {}
    start := { s.sansGo.start with keeps := [], oeFree := [], oeLowDue := [], tpoHeld := [], pg14Late := false
                                   latchHold := false, quiesced := [] }
    dram := { s.dram with cisternBad := [] } }

theorem State.raise_sansImage (s : State) (e i d c : Nat) : (s.raise e i d c).sansImage = s.sansImage := by
  rw [State.raise_eq]
  rfl

theorem State.raiseIf_sansImage (s : State) (b : Bool) (e i d : Nat) : (s.raiseIf b e i d).sansImage = s.sansImage := by
  rw [State.raiseIf_eq]
  rfl

theorem State.dropReady_sansImage (s : State) (m : Nat) : (s.dropReady m).sansImage = s.sansImage := by
  rw [State.dropReady, State.keepReady_frame]
  rfl

theorem State.sluiceGo_sansImage (s : State) (new : Nat) (h : actsIn new = false) :
    (s.sluiceGo new).sansImage = s.sansImage := by
  have hgo := s.sluiceGo_sansGo new
  have hod := s.od_sluiceGo_resting new h
  have hdram : (s.sluiceGo new).dram = s.dram :=
    (congrArg State.dram hgo : (s.sluiceGo new).sansGo.dram = s.sansGo.dram)
  unfold State.sansImage
  rw [hgo, hod, hdram]

theorem State.takeMap_sansImage (s : State) (gs : List Nat) (keep : Bool) : (s.takeMap gs keep).sansImage = s.sansImage := by
  unfold State.takeMap
  exact State.each_keeps State.sansImage _ _ _ fun t g => rfl

theorem State.clampPins_sansImage (s : State) : s.clampPins.sansImage = s.sansImage := by
  simp only [State.clampPins]
  split
  · refine (State.each_keeps State.sansImage _ _ _ fun t g => ?_).trans (s.takeMap_sansImage _ _)
    rfl
  · refine (State.each_keeps State.sansImage _ _ _ fun t g => ?_).trans (s.takeMap_sansImage _ _)
    rfl

theorem State.resetParams_sansImage (s : State) (l : Level) : (s.resetParams l).sansImage = s.sansImage := rfl
theorem State.countersLost_sansImage (s : State) (rs : List Nat) : (s.countersLost rs).sansImage = s.sansImage := rfl
theorem State.logDramLost_sansImage (s : State) : s.logDramLost.sansImage = s.sansImage := rfl

theorem State.pumpStop_sansImage (s : State) : s.pumpStop.sansImage = s.sansImage := rfl

/-- What the sluice forgets when it is off (R178). -/
def State.sluiceQuiet (s : State) : State :=
  { s with red := { s.red with switchTick := none, switching := false, evidence := 0, broken := true, streams := false } }

theorem State.sluiceOff_eq (s : State) : s.sluiceOff = (s.sluiceGo SL.OFF).sluiceQuiet := by
  unfold State.sluiceOff State.sluiceQuiet
  rfl

theorem State.sluiceQuiet_sansImage (s : State) : s.sluiceQuiet.sansImage = s.sansImage := rfl

theorem State.sluiceOff_sansImage (s : State) : s.sluiceOff.sansImage = s.sansImage := by
  rw [State.sluiceOff_eq, State.sluiceQuiet_sansImage, State.sluiceGo_sansImage _ _ (by decide)]

theorem State.refillSlots_sansImage (s : State) : s.refillSlots.sansImage = s.sansImage := by
  unfold State.refillSlots
  refine (State.each_keeps State.sansImage _ _ _ fun t q => ?_).trans
    ((State.each_keeps State.sansImage _ _ _ fun t i => ?_))
  · dsimp only
    split <;> rfl
  · dsimp only
    rw [State.raiseIf_sansImage]
    have hload (u : State) : (u.loadStored BK.PROG i).sansImage = u.sansImage := by
      unfold State.loadStored
      split <;> rfl
    exact hload (t.putBank BK.PROG i {})

/-- What the loss of Image/Drive leaves of each part, before the program slots are filled again (R33). -/
def State.imageEmptied (s : State) : State :=
  { s with
    comp := {}
    scan := { s.scan with binds := [], streamers := [], last := none, goodTicks := 0, everLocked := false, own := none
                          partner := none, missed := [] }
    src := { s.src with layers := [], leaving := [], setDue := 0 }
    tile := { s.tile with
      binds := [], snaps := [], backs := [], front := none, frontBind := none, prevBind := none, chosen := none, dtAt := none
      shift := none, betas := [], betaIn := [], betaLast := 32768, targetsAt := none, targets := [], oldTargets := []
      building := none, built := none, corrMiss := [] }
    drive := {}
    dram := { s.dram with cisternBad := s.dram.cisternBad.filter fun k => decide (k / 32768 ≤ 8) }
    health := { s.health with readAt := [], tested := [], lit := [], started := [], fromActive := [] }
    pump := { s.pump with loops := [], ains := [], tachs := [], fromActive := [], oscReset := 0, capped := false }
    fix := { s.fix with sampling := none, doneAt := none, fresh := none, frames := [], started := none }
    red := { s.red with strikes := 0, subCompared := 0, subDiffered := 0, subSkipped := 0, matchTicks := 0, gotLedger := false
                        own := [], verdicts := [], tickClean := 0, memberIn := []
                        gotSlew := false, gotFaults := false, activeAt := none, drives := false, run := 0
                        sigOwn := [], sigPartner := [] }
    start := { s.start with quiesced := s.start.quiesced.filter fun c => c / 32 != 4 } }

theorem State.imageLost_eq (s : State) : s.imageLost = if s.sluiceOff.pumpStop.imageEmptied.isTile then
    s.sluiceOff.pumpStop.imageEmptied.refillSlots else s.sluiceOff.pumpStop.imageEmptied := by
  unfold State.imageLost State.imageEmptied
  rfl

theorem State.imageEmptied_sansImage (s : State) : s.imageEmptied.sansImage = s.sansImage := rfl

theorem State.imageLost_sansImage (s : State) : s.imageLost.sansImage = s.sansImage := by
  rw [State.imageLost_eq, apply_ite State.sansImage, State.refillSlots_sansImage, ite_self, State.imageEmptied_sansImage,
    State.pumpStop_sansImage, State.sluiceOff_sansImage]

theorem State.refillSlots_tile (s : State) : s.refillSlots.tile = s.tile := by
  unfold State.refillSlots
  refine (State.each_keeps State.tile _ _ _ fun t q => ?_).trans
    ((State.each_keeps State.tile _ _ _ fun t i => ?_))
  · dsimp only
    split <;> rfl
  · dsimp only
    rw [State.raiseIf_tile]
    have hload (u : State) : (u.loadStored BK.PROG i).tile = u.tile := by
      unfold State.loadStored
      split <;> rfl
    exact hload (t.putBank BK.PROG i {})

/-- The front buffer is lost with Image/Drive (R33). -/
theorem State.imageLost_front (s : State) : s.imageLost.tile.front = none := by
  rw [State.imageLost_eq]
  split
  · rw [State.refillSlots_tile]
    rfl
  · rfl

/-! The pipeline's ready bits (R78) -/

/-- Bits above the length of a fold over bit numbers stay clear, and each bit it sets was asked for. -/
theorem fold_bits (p : Nat → Nat → Bool) (n : Nat) :
    let r := (List.range n).foldl (fun r i => if p r i then r + 2 ^ i else r) 0
    r < 2 ^ n ∧ ∀ j, r.testBit j = true → ∃ r', p r' j = true := by
  induction n with
  | zero => simp
  | succ n ih =>
    simp only [List.range_succ, List.foldl_append, List.foldl_cons, List.foldl_nil]
    generalize (List.range n).foldl (fun r i => if p r i then r + 2 ^ i else r) 0 = r at ih ⊢
    obtain ⟨hlt, hbits⟩ := ih
    have hpow : 2 ^ (n + 1) = 2 ^ n + 2 ^ n := by omega
    split
    · rename_i hp
      refine ⟨by omega, fun j hj => ?_⟩
      rw [Nat.add_comm] at hj
      by_cases hjn : j = n
      · exact ⟨r, hjn ▸ hp⟩
      · refine hbits j ?_
        by_cases hjl : j < n
        · rwa [Nat.testBit_two_pow_add_gt hjl] at hj
        · have hbig : 2 ^ n + r < 2 ^ j := lt_of_lt_of_le (by omega) (Nat.pow_le_pow_right (by decide) (show n + 1 ≤ j by omega))
          rw [Nat.testBit_lt_two_pow hbig] at hj
          cases hj
    · exact ⟨by omega, hbits⟩

theorem bit_eq_testBit (n i : Nat) : bit n i = n.testBit i := by
  rw [bit, Nat.testBit_eq_decide_div_mod_eq, Nat.shiftRight_eq_div_pow]
  rfl

/-- A bit of the closure is a bit of the map it closes. -/
theorem bit_of_readyClosure {head : Bool} {m i : Nat} (h : bit (readyClosure head m) i = true) : bit m i = true := by
  rw [bit_eq_testBit] at h
  obtain ⟨r, hr⟩ := (fold_bits (fun r i => bit m i && (prereqs head i).all (bit r)) 16).2 i h
  exact (Bool.and_eq_true_iff.mp hr).1

/-- No ready bit of Image/Drive is set. -/
def State.imageUnready (s : State) : Prop := ∀ i, i < 16 → bit imageBits i = true → s.rdy i = false

theorem State.imageUnready_congr {s t : State} (h : t.start.ready = s.start.ready) : t.imageUnready ↔ s.imageUnready := by
  unfold State.imageUnready State.rdy
  rw [h]

/-- A cleared bit and those that stand on it are clear; none rises. -/
theorem State.rdy_keepReady {s : State} {m i : Nat} (h : (s.keepReady m).rdy i = true) : s.rdy i = true ∧ bit m i = true := by
  rw [State.keepReady_frame] at h
  have hand : bit (s.start.ready &&& m) i = true := bit_of_readyClosure h
  simp only [bit_eq_testBit, Nat.testBit_and, Bool.and_eq_true] at hand
  simpa only [State.rdy, bit_eq_testBit] using hand

theorem State.dropReady_imageUnready (s : State) : (s.dropReady imageBits).imageUnready := by
  intro i hi hb
  have hmask : ∀ i < 16, bit imageBits i = true → bit (0xFFFF - imageBits) i = false := by decide
  by_contra h
  rw [Bool.not_eq_false] at h
  exact absurd ((State.rdy_keepReady h).2.symm.trans (hmask i hi hb)) nofun

/-- While no bit of Image/Drive is set, REDUNDANCY_SYNC cannot rise (R78). -/
theorem State.setReady_sync_imageUnready {s : State} (h : s.imageUnready) : s.setReady B.REDUNDANCY_SYNC = s := by
  have h8 : s.rdy 8 = false := h 8 (by decide) (by decide)
  have h10 : s.rdy 10 = false := h 10 (by decide) (by decide)
  unfold State.setReady
  refine if_pos ?_
  have hp : (prereqs s.isHead B.REDUNDANCY_SYNC).all s.rdy = false := by
    cases s.isHead
    · simp [prereqs, h10]
    · simp [prereqs, h8]
  simp [hp]

theorem State.syncEval_imageUnready {s : State} (h : s.imageUnready) : s.syncEval.imageUnready := by
  rcases s.syncEval_cases with e | e | ⟨t, rfl, e⟩ | e <;> rw [e]
  · exact h
  · rwa [State.setReady_sync_imageUnready h]
  · rw [State.setReady_sync_imageUnready h]
    refine (State.imageUnready_congr ?_).mpr h
    rw [State.raise_start]
  · intro i hi hb
    by_contra hc
    rw [Bool.not_eq_false] at hc
    exact absurd ((State.rdy_keepReady hc).1.symm.trans (h i hi hb)) nofun

theorem State.sluiceGo_imageUnready {s : State} (new : Nat) (hn : actsIn new = false) (h : s.imageUnready) :
    (s.sluiceGo new).imageUnready := by
  rw [State.sluiceGo_eq]
  refine State.syncEval_imageUnready ((State.imageUnready_congr ?_).mpr h)
  rw [State.sluiceDuties_resting _ _ ((s.acting_entered new).trans hn), State.entered_frame]

theorem State.refillSlots_start (s : State) : s.refillSlots.start = s.start := by
  unfold State.refillSlots
  refine (State.each_keeps State.start _ _ _ fun t q => ?_).trans
    ((State.each_keeps State.start _ _ _ fun t i => ?_))
  · dsimp only
    split <;> rfl
  · dsimp only
    rw [State.raiseIf_start]
    have hload (u : State) : (u.loadStored BK.PROG i).start = u.start := by
      unfold State.loadStored
      split <;> rfl
    exact hload (t.putBank BK.PROG i {})

theorem State.quieted_ready (s : State) : s.sluiceQuiet.pumpStop.imageEmptied.start.ready = s.start.ready := rfl

theorem State.imageLost_imageUnready {s : State} (h : s.imageUnready) : s.imageLost.imageUnready := by
  have hoff : s.sluiceOff.pumpStop.imageEmptied.imageUnready := by
    rw [State.sluiceOff_eq, State.imageUnready_congr (State.quieted_ready _)]
    exact State.sluiceGo_imageUnready SL.OFF (by decide) h
  rw [State.imageLost_eq]
  split
  · exact (State.imageUnready_congr (by rw [State.refillSlots_start])).mpr hoff
  · exact hoff

theorem State.takeMap_ready (s : State) (gs : List Nat) (keep : Bool) : (s.takeMap gs keep).start.ready = s.start.ready := by
  unfold State.takeMap
  exact State.each_keeps (fun t => t.start.ready) _ _ _ fun t g => rfl

theorem State.clampPins_ready (s : State) : s.clampPins.start.ready = s.start.ready := by
  simp only [State.clampPins]
  split
  · refine (State.each_keeps (fun t => t.start.ready) _ _ _ fun t g => ?_).trans (s.takeMap_ready _ _)
    rfl
  · refine (State.each_keeps (fun t => t.start.ready) _ _ _ fun t g => ?_).trans (s.takeMap_ready _ _)
    rfl

/-! The restart of the pipeline and safe hold -/

/-- A restart begins: the region's groups stay with the map until PG14 is good again (R32). -/
def State.restartBegun (s : State) : State :=
  { s with start := { s.start with pg14Late := true, restarting := true, latchHold := true } }

/-- A head counts its recovery frames again (R32). -/
def State.recoveryCounts (s : State) : State :=
  if s.isHead then { s with comp := { s.comp with recovery := s.par P.RECOVERY_FRAMES } } else s

theorem State.pipelineRestart_eq (s : State) : s.pipelineRestart =
    (((((((s.raise E.PIPELINE_RESTART).restartBegun.dropReady imageBits).clampPins).imageLost).resetParams .l2).countersLost
      [4]).holdRegions [4]).recoveryCounts := by
  unfold State.pipelineRestart State.recoveryCounts State.restartBegun
  rfl

/-- Image/Drive is held. -/
def State.imageHeld (s : State) : State :=
  { s with start := { s.start with released := SMap.set false s.start.released 4 false } }

theorem State.imageHeld_sansImage {s t : State} (h : t.sansImage = s.sansImage) :
    t.imageHeld.sansImage = s.imageHeld.sansImage :=
  (congrArg State.imageHeld h : t.sansImage.imageHeld = s.sansImage.imageHeld)

theorem State.recoveryCounts_sansImage (s : State) : s.recoveryCounts.sansImage = s.sansImage := by
  unfold State.recoveryCounts
  split <;> rfl

/-- The pipeline restarts. -/
def State.restartMarked (s : State) : State := { s with start := { s.start with restarting := true } }

/-- The device is in safe hold. -/
def State.safeHoldMarked (s : State) : State := { s with start := { s.start with safeHold := true } }

theorem State.restartBegun_sansImage {s t : State} (h : t.sansImage = s.sansImage) :
    t.restartBegun.sansImage = s.restartMarked.sansImage :=
  (congrArg State.restartMarked h : t.sansImage.restartMarked = s.sansImage.restartMarked)

theorem State.pipelineRestart_sansImage (s : State) : s.pipelineRestart.sansImage = s.restartMarked.imageHeld.sansImage := by
  rw [State.pipelineRestart_eq, State.recoveryCounts_sansImage]
  refine State.imageHeld_sansImage ?_
  rw [State.countersLost_sansImage, State.resetParams_sansImage, State.imageLost_sansImage, State.clampPins_sansImage,
    State.dropReady_sansImage]
  exact State.restartBegun_sansImage (s.raise_sansImage _ _ _ _)

section
variable {s t : State} (h : t.sansImage = s.sansImage)
include h

theorem State.restarting_of_sansImage : t.start.restarting = s.start.restarting :=
  (congrArg (fun u : State => u.start.restarting) h : t.sansImage.start.restarting = s.sansImage.start.restarting)
theorem State.safeHold_of_sansImage : t.start.safeHold = s.start.safeHold :=
  (congrArg (fun u : State => u.start.safeHold) h : t.sansImage.start.safeHold = s.sansImage.start.safeHold)
theorem State.isReleased_of_sansImage (r : Region) : t.isReleased r = s.isReleased r :=
  (congrArg (fun u : State => u.isReleased r) h : t.sansImage.isReleased r = s.sansImage.isReleased r)
theorem State.time_of_sansImage : t.time = s.time :=
  (congrArg State.time h : t.sansImage.time = s.sansImage.time)
theorem State.lane_of_sansImage : t.lane = s.lane :=
  (congrArg State.lane h : t.sansImage.lane = s.sansImage.lane)
theorem State.eth_of_sansImage : t.eth = s.eth :=
  (congrArg State.eth h : t.sansImage.eth = s.sansImage.eth)
theorem State.security_of_sansImage : t.security = s.security :=
  (congrArg State.security h : t.sansImage.security = s.sansImage.security)
theorem State.upd_of_sansImage : t.upd = s.upd :=
  (congrArg State.upd h : t.sansImage.upd = s.sansImage.upd)
theorem State.od_of_sansImage : t.od = s.od :=
  (congrArg State.od h : t.sansImage.od = s.sansImage.od)

/-- Of the DRAM part, only the damage noted in what was lost may change. -/
theorem State.dram_of_sansImage : t.dram = { s.dram with cisternBad := t.dram.cisternBad } :=
  (congrArg (fun u : State => ({ u.dram with cisternBad := t.dram.cisternBad } : PartDram)) h :
    { t.sansImage.dram with cisternBad := t.dram.cisternBad } = { s.sansImage.dram with cisternBad := t.dram.cisternBad })

end

theorem State.isReleased_imageHeld (s : State) : s.imageHeld.isReleased .image = false :=
  SMap.get_set_same false s.start.released 4 false

theorem State.isReleased_imageHeld_ne (s : State) {r : Region} (h : r ≠ .image) :
    s.imageHeld.isReleased r = s.isReleased r := by
  refine SMap.get_set_ne false false s.start.released false ?_
  cases r with
  | image => exact absurd rfl h
  | control | memory | time | front => decide

/-- After the loss of Image/Drive, its region held, no bit of it is set and no front buffer stands. -/
theorem State.pipelineRestart_lost (s : State) : s.pipelineRestart.imageUnready ∧ s.pipelineRestart.tile.front = none := by
  have hframe (u : State) : ((((u.resetParams .l2).countersLost [4]).holdRegions [4]).recoveryCounts).start.ready = u.start.ready ∧
      ((((u.resetParams .l2).countersLost [4]).holdRegions [4]).recoveryCounts).tile = u.tile := by
    unfold State.recoveryCounts
    split <;> exact ⟨rfl, rfl⟩
  rw [State.pipelineRestart_eq, State.imageUnready_congr (hframe _).1, (hframe _).2]
  refine ⟨State.imageLost_imageUnready ?_, State.imageLost_front _⟩
  rw [State.imageUnready_congr (State.clampPins_ready _)]
  exact State.dropReady_imageUnready _

/-- A fault of Image/Drive restarts the pipeline alone: Control, Memory, Time and Front go on (R32, R33). -/
theorem execImageDriveFault_restarts (s : State) (hi : s.isReleased .image = true) (hr : s.start.restarting = false)
    (hh : s.start.safeHold = false) :
    ∃ t, exec .imageDriveFault s = .next t ∧ t.start.restarting = true ∧ t.isReleased .image = false ∧
      (∀ i, i < 16 → bit imageBits i = true → t.rdy i = false) ∧ t.tile.front = none ∧
      (∀ r, r ≠ .image → t.isReleased r = s.isReleased r) ∧ t.time = s.time ∧
      t.dram = { s.dram with cisternBad := t.dram.cisternBad } ∧ t.lane = s.lane ∧
      t.eth = s.eth ∧ t.security = s.security ∧ t.upd = s.upd ∧ t.od = s.od := by
  refine ⟨_, rfl, ?_⟩
  rw [if_neg (by simp [hi, hr, hh])]
  have h := s.pipelineRestart_sansImage
  obtain ⟨hready, hfront⟩ := s.pipelineRestart_lost
  refine ⟨State.restarting_of_sansImage h, ?_, hready, hfront, fun r hne => ?_, (State.time_of_sansImage h :),
    (State.dram_of_sansImage h :), (State.lane_of_sansImage h :), (State.eth_of_sansImage h :),
    (State.security_of_sansImage h :), (State.upd_of_sansImage h :), (State.od_of_sansImage h :)⟩
  · rw [State.isReleased_of_sansImage h, State.isReleased_imageHeld]
  · rw [State.isReleased_of_sansImage h, State.isReleased_imageHeld_ne _ hne]
    rfl

/-! Safe hold -/

/-- The pump outputs are off (R33). -/
def State.pumpsOff (s : State) : State := { s with pump := { s.pump with duty := [], dutyAt := [] } }

theorem State.enterSafeHold_eq (s : State) (h : s.start.safeHold = false) : s.enterSafeHold =
    ((((((s.safeHoldMarked.dropReady imageBits).takeMap [0, 1, 2, 3, 4, 5, 6, 7, 8, 9, 10, 11, 12, 14] false).imageLost).holdRegions
      [4]).pumpsOff).logDramLost).raise E.SAFE_HOLD := by
  unfold State.enterSafeHold State.pumpsOff State.safeHoldMarked
  exact if_neg (by simp [h])

theorem State.pumpsOff_sansImage (s : State) : s.pumpsOff.sansImage = s.sansImage := rfl

theorem State.enterSafeHold_sansImage (s : State) (h : s.start.safeHold = false) :
    s.enterSafeHold.sansImage = s.safeHoldMarked.imageHeld.sansImage := by
  rw [State.enterSafeHold_eq s h, State.raise_sansImage, State.logDramLost_sansImage, State.pumpsOff_sansImage]
  refine State.imageHeld_sansImage ?_
  rw [State.imageLost_sansImage, State.takeMap_sansImage, State.dropReady_sansImage]

theorem State.enterSafeHold_lost (s : State) (h : s.start.safeHold = false) :
    s.enterSafeHold.imageUnready ∧ s.enterSafeHold.tile.front = none ∧ s.enterSafeHold.pump.duty = [] := by
  have hframe (u : State) : ((((u.holdRegions [4]).pumpsOff).logDramLost).raise E.SAFE_HOLD).start.ready = u.start.ready ∧
      ((((u.holdRegions [4]).pumpsOff).logDramLost).raise E.SAFE_HOLD).tile = u.tile := by
    rw [State.raise_start, State.raise_tile]
    exact ⟨rfl, rfl⟩
  rw [State.enterSafeHold_eq s h, State.imageUnready_congr (hframe _).1, (hframe _).2, State.raise_pump]
  refine ⟨State.imageLost_imageUnready ?_, State.imageLost_front _, rfl⟩
  rw [State.imageUnready_congr (State.takeMap_ready _ _ _)]
  exact State.dropReady_imageUnready _

section
variable {ids evs : List Nat} {id idx : Nat}

theorem State.par_takeMap (s : State) (gs : List Nat) (keep : Bool) (id idx : Nat) :
    (s.takeMap gs keep).par id idx = s.par id idx := by
  unfold State.takeMap
  exact State.each_keeps (fun t => t.par id idx) _ _ _ fun t g => rfl

theorem State.par_loadStored_prog (s : State) (b id idx : Nat) : (s.loadStored BK.PROG b).par id idx = s.par id idx := by
  unfold State.loadStored
  split <;> rfl

/-- Filling the program slots again writes their CRCs and tells a seal that failed, nothing else of the table (R33). -/
theorem State.par_refillSlots_spared (h : spared ids evs id idx = true) (s : State) (hc : P.PROG_CRC ∈ ids)
    (hf : E.PROG_SEAL_FAILED ∈ evs) (ho : E.EVENT_OVERFLOW ∈ evs) : s.refillSlots.par id idx = s.par id idx := by
  unfold State.refillSlots
  refine (State.each_keeps (fun t => t.par id idx) _ _ _ fun t q => ?_).trans
    (State.each_keeps_mem (fun t => t.par id idx) _ fun t i hi => ?_)
  · dsimp only
    split <;> rfl
  · have hi8 : i < 65536 := lt_trans (List.mem_range.mp hi) (by decide)
    refine (State.par_raiseIf_spared h _ _ _ _ hf ho (by decide)).trans ?_
    refine (State.par_setPar_spared h _ _ hc hi8).trans ?_
    exact State.par_loadStored_prog (t.putBank BK.PROG i {}) i id idx

theorem State.par_sluiceQuiet (s : State) (id idx : Nat) : s.sluiceQuiet.par id idx = s.par id idx := rfl

theorem State.par_sluiceOff_spared (h : spared ids evs id idx = true) (s : State) (hs : restPars ⊆ ids)
    (he : syncEvents ⊆ evs) : s.sluiceOff.par id idx = s.par id idx := by
  rw [State.sluiceOff_eq, State.par_sluiceQuiet]
  exact State.par_sluiceGo_resting h s SL.OFF (by decide) hs he

theorem State.par_emptied (s : State) (id idx : Nat) : s.pumpStop.imageEmptied.par id idx = s.par id idx := rfl

/-- The parameters and events that the loss of Image/Drive may write and raise. -/
def imageLostPars : List Nat := [P.READY_TIME, P.SLUICE_STATE, P.PROG_CRC]
def imageLostEvents : List Nat := [E.EVENT_OVERFLOW, E.READY_LOST, E.REJOINED, E.PROG_SEAL_FAILED]

theorem State.par_imageLost_spared (h : spared ids evs id idx = true) (s : State) (hi : imageLostPars ⊆ ids)
    (he : imageLostEvents ⊆ evs) : s.imageLost.par id idx = s.par id idx := by
  have hoff : s.sluiceOff.pumpStop.imageEmptied.par id idx = s.par id idx :=
    (State.par_emptied _ _ _).trans
      (State.par_sluiceOff_spared h s (List.Subset.trans (by decide) hi) (List.Subset.trans (by decide) he))
  rw [State.imageLost_eq]
  split
  · exact (State.par_refillSlots_spared h _ (hi (by decide)) (he (by decide)) (he (by decide))).trans hoff
  · exact hoff

end

theorem State.par_heldPumps (s : State) (id idx : Nat) :
    (((s.holdRegions [4]).pumpsOff).logDramLost).par id idx = s.par id idx := rfl

/-- Entering safe hold is told (R33). -/
theorem State.enterSafeHold_told (s : State) (h : s.start.safeHold = false) : s.told s.enterSafeHold E.SAFE_HOLD := by
  have hs : spared imageLostPars imageLostEvents P.EVENT_COUNT E.SAFE_HOLD = true := by decide
  rw [State.enterSafeHold_eq s h]
  generalize hu : s.safeHoldMarked.dropReady imageBits = u
  have hdrop : u.par P.EVENT_COUNT E.SAFE_HOLD = s.par P.EVENT_COUNT E.SAFE_HOLD := by
    rw [← hu, State.dropReady]
    exact State.par_keepReady_spared hs _ _ (by decide) (by decide)
  refine State.told_of_before (State.told_raise _ _ _ _ _ (by decide)) ?_
  rw [State.par_heldPumps, State.par_imageLost_spared hs _ (by simp) (by simp), State.par_takeMap, hdrop]

/-- A fault that Control, Memory or Time cannot contain puts the device into safe hold (R33). -/
theorem execUncontainedRegionFault_holds (r : Region) (s : State) (hr : r = .control ∨ r = .memory ∨ r = .time)
    (hrel : s.isReleased r = true) (h : s.start.safeHold = false) :
    ∃ t, exec (.uncontainedRegionFault r) s = .next t ∧ t.start.safeHold = true ∧ t.isReleased .image = false ∧
      (∀ i, i < 16 → bit imageBits i = true → t.rdy i = false) ∧ t.tile.front = none ∧ t.pump.duty = [] ∧
      s.told t E.SAFE_HOLD ∧ t.security = s.security ∧ t.upd = s.upd ∧ t.od = s.od := by
  have hregion : (r == .control || r == .memory || r == .time) = true := by
    rcases hr with rfl | rfl | rfl <;> rfl
  refine ⟨_, rfl, ?_⟩
  rw [if_pos (by simp [hregion, hrel])]
  have hs := s.enterSafeHold_sansImage h
  obtain ⟨hready, hfront, hduty⟩ := s.enterSafeHold_lost h
  refine ⟨State.safeHold_of_sansImage hs, ?_, hready, hfront, hduty, s.enterSafeHold_told h, (State.security_of_sansImage hs :),
    (State.upd_of_sansImage hs :), (State.od_of_sansImage hs :)⟩
  rw [State.isReleased_of_sansImage hs, State.isReleased_imageHeld]

/-- Settles O16: each clause is the law of its command. -/
theorem faultContainment : Obligations.FaultContainment := by
  unfold Obligations.FaultContainment
  refine ⟨?_, ?_, ?_, ?_⟩
  · exact execClusterFault_quiesces
  · exact execClusterRestartAtFrameBoundary_returns
  · exact execImageDriveFault_restarts
  · exact execUncontainedRegionFault_holds

end Sys2Proof.Machine
end

section
/-! The cut-off's choice among the copies of a frame (R20, R21, R165, R185), and the correction of a copy that has come whole
(R22, R286, R287; cluster 8 is log entry 28). -/

namespace Sys2Proof.Machine

/-! The ranking of copies (R165) -/

/-- The rank of a copy: its kind, then the later epoch, then the lower source (R165). -/
def copyRank (c : Copy) : ℕ ×ₗ (ℕᵒᵈ ×ₗ ℕ) := toLex (b2n c.prefixed, toLex (OrderDual.toDual c.epoch, c.src))

/-- One copy ranks before another exactly when its rank is below. -/
theorem ranksBefore_iff (a b : Copy) : ranksBefore a b = true ↔ copyRank a < copyRank b := by
  have hlt : copyRank a < copyRank b ↔ b2n a.prefixed < b2n b.prefixed ∨
      b2n a.prefixed = b2n b.prefixed ∧ (b.epoch < a.epoch ∨ a.epoch = b.epoch ∧ a.src < b.src) := by
    simp only [copyRank, Prod.Lex.toLex_lt_toLex, OrderDual.toDual_lt_toDual, EmbeddingLike.apply_eq_iff_eq]
  rw [hlt]
  unfold ranksBefore
  split
  · rename_i hp
    cases ha : a.prefixed <;> cases hb : b.prefixed <;> simp_all [b2n]
  · rename_i hp
    have hsame : a.prefixed = b.prefixed := by simpa using hp
    split
    · rename_i he
      simp [hsame, he]
    · rename_i he
      have heq : a.epoch = b.epoch := by simpa using he
      simp [hsame, heq]

theorem ranksBefore_false_iff (a b : Copy) : ranksBefore a b = false ↔ copyRank b ≤ copyRank a := by
  rw [Bool.eq_false_iff, ne_eq, ranksBefore_iff, not_lt]

/-- The best of some copies is one of them, and none of them ranks before it. -/
theorem bestCopy_some {l : List Copy} {c : Copy} (h : bestCopy l = some c) :
    c ∈ l ∧ ∀ d ∈ l, ranksBefore d c = false := by
  induction l generalizing c with
  | nil => cases h
  | cons e l ih =>
    simp only [bestCopy] at h
    split at h
    · rename_i d hd
      obtain ⟨hmem, hmin⟩ := ih hd
      split at h
      · rename_i hr
        cases h
        exact ⟨List.mem_cons_of_mem _ hmem, List.forall_mem_cons.mpr ⟨(ranksBefore_false_iff _ _).mpr ((ranksBefore_iff _ _).mp hr).le, hmin⟩⟩
      · rename_i hr
        cases h
        rw [Bool.not_eq_true, ranksBefore_false_iff] at hr
        exact ⟨List.mem_cons_self, List.forall_mem_cons.mpr ⟨(ranksBefore_false_iff _ _).mpr le_rfl, fun x hx =>
          (ranksBefore_false_iff _ _).mpr (hr.trans ((ranksBefore_false_iff _ _).mp (hmin x hx)))⟩⟩
    · rename_i hn
      cases h
      cases l with
      | nil => exact ⟨List.mem_cons_self, List.forall_mem_cons.mpr ⟨(ranksBefore_false_iff _ _).mpr le_rfl, nofun⟩⟩
      | cons f l =>
        simp only [bestCopy] at hn
        split at hn
        · split at hn <;> cases hn
        · cases hn

theorem bestCopy_none {l : List Copy} : bestCopy l = none ↔ l = [] := by
  cases l with
  | nil => exact ⟨fun _ => rfl, fun _ => rfl⟩
  | cons e l =>
    refine ⟨fun h => ?_, nofun⟩
    simp only [bestCopy] at h
    split at h
    · split at h <;> cases h
    · cases h

/-! The cut-off (R20) -/

/-- The valid copies of frame `k` in hand at its cut-off. -/
def State.validCopies (s : State) (k : Nat) (tie : Bool) : List Copy := (s.copiesOf k).filter (s.copyValid tie s.red.eAcc)

theorem State.mem_validCopies {s : State} {k : Nat} {tie : Bool} {c : Copy} :
    c ∈ s.validCopies k tie ↔ c ∈ s.copiesOf k ∧ s.copyValid tie s.red.eAcc c = true := by
  rw [State.validCopies, List.mem_filter]

/-- The state after the choice of `best`. -/
def State.cutTaken (s : State) (k : Nat) (best : Option Copy) : State :=
  { s with
    tile := { s.tile with chosen := some (k, best.map (·.port)) }
    chain := { s.chain with cutDone := if s.thisRate k then max s.chain.cutDone (k + 1) else s.chain.cutDone }
    red := { s.red with eAcc := s.par P.EPOCH }
    time := { s.time with rankNext := match best with | some c => some c.port | none => s.time.rankNext } }

/-- What the cut-off tells: no valid copy, and a split (R20, R185). -/
def State.cutTold (s : State) (none_ split_ : Bool) : State :=
  (s.raiseIf none_ E.NO_VALID_COPY).raiseIf split_ E.SPLIT_DETECTED

theorem execCutOff_eq (k : Nat) (tie : Bool) (s : State) (ht : s.isTile = true) (hu : s.unexpected k = false) :
    execCutOff k tie s = .next (
      if s.rdy B.CORRECTION && s.hasRegion && decide (s.chain.cutDone ≤ k) then
        (s.cutTaken k (bestCopy (s.validCopies k tie))).cutTold (bestCopy (s.validCopies k tie)).isNone
          (decide (2 ≤ ((s.validCopies k tie).filter fun c => !c.prefixed).length))
      else s.cutTaken k (bestCopy (s.validCopies k tie))) := by
  unfold execCutOff
  rw [if_neg (by simp [ht, hu])]
  have hflip (b : Bool) (x y : State) : (if (!b) = true then x else y) = if b = true then y else x := by cases b <;> rfl
  exact congrArg Host.Outcome.next (hflip _ _ _)

theorem State.cutTold_tile (s : State) (a b : Bool) : (s.cutTold a b).tile = s.tile := by
  rw [State.cutTold, State.raiseIf_tile, State.raiseIf_tile]

theorem State.cutTold_red (s : State) (a b : Bool) : (s.cutTold a b).red = s.red := by
  rw [State.cutTold, State.raiseIf_red, State.raiseIf_red]

theorem State.cutTold_told (s : State) (b : Bool) : s.told (s.cutTold true b) E.NO_VALID_COPY :=
  State.told_of_after (State.told_raise s _ _ _ _ (by decide))
    (State.par_raiseIf_spared (ids := []) (evs := [E.EVENT_OVERFLOW, E.SPLIT_DETECTED]) (by decide) _ _ _ _ (by decide) (by decide)
      (by decide))

/-- The cut-off chooses a valid copy of the frame that no other ranks before, or none, told where one was due (R20, R165). -/
theorem execCutOff_chooses (k : Nat) (tie : Bool) (s : State) (ht : s.isTile = true) (hu : s.unexpected k = false) :
    ∃ t o, exec (.cutOff k tie) s = .next t ∧ t.tile = { s.tile with chosen := some (k, o) } ∧ t.red.eAcc = s.par P.EPOCH ∧
      (∀ p, o = some p → ∃ c ∈ s.copiesOf k, c.port = p ∧ s.copyValid tie s.red.eAcc c = true ∧
        ∀ d ∈ s.copiesOf k, s.copyValid tie s.red.eAcc d = true → ranksBefore d c = false) ∧
      (o = none ↔ ∀ c ∈ s.copiesOf k, s.copyValid tie s.red.eAcc c = false) ∧
      (o = none → s.rdy B.CORRECTION = true → s.hasRegion = true → s.chain.cutDone ≤ k → s.told t E.NO_VALID_COPY) := by
  refine ⟨_, (bestCopy (s.validCopies k tie)).map (·.port), execCutOff_eq k tie s ht hu, ?_, ?_, fun p hp => ?_, ?_,
    fun hn hc hr hd => ?_⟩
  · split
    · rw [State.cutTold_tile]
      rfl
    · rfl
  · split
    · rw [State.cutTold_red]
      rfl
    · rfl
  · obtain ⟨c, hbest, hport⟩ := Option.map_eq_some_iff.mp hp
    obtain ⟨hmem, hmin⟩ := bestCopy_some hbest
    obtain ⟨hcopy, hvalid⟩ := State.mem_validCopies.mp hmem
    exact ⟨c, hcopy, hport, hvalid, fun d hd hv => hmin d (State.mem_validCopies.mpr ⟨hd, hv⟩)⟩
  · rw [Option.map_eq_none_iff, bestCopy_none, State.validCopies, List.filter_eq_nil_iff]
    simp only [Bool.not_eq_true]
  · rw [if_pos (by simp [hc, hr, hd]), Option.map_eq_none_iff.mp hn]
    exact State.told_of_before (State.cutTold_told _ _) rfl

/-! Correction (R22, R286) -/

/-- The copies in hand, with the buffers that hold or show one corrected. -/
def State.inHand (s : State) : List Back × Option Back × List Copy := (s.tile.backs, s.tile.front, s.chain.copies)

theorem State.count_inHand (s : State) (c n : Nat) : (s.count c n).inHand = s.inHand := by
  rw [State.count_eq]
  rfl

theorem State.raiseTick_inHand (s : State) (e i d : Nat) : (s.raiseTick e i d).inHand = s.inHand := by
  rw [State.raiseTick_eq]
  rfl

theorem State.present_inHand (s : State) (q code : Nat) : (s.present q code).inHand = s.inHand := by
  simp only [State.present]
  split
  · rfl
  · split
    · split
      · rfl
      · exact State.raiseTick_inHand _ _ _ _
    · rfl

theorem State.startSeq_inHand (s : State) (q k : Nat) : (s.startSeq q k).inHand = s.inHand := by
  simp only [State.startSeq]
  split <;> rfl

theorem State.presentFrame_inHand (s : State) (q k : Nat) : (s.presentFrame q k).inHand = s.inHand := by
  simp only [State.presentFrame]
  split
  · split
    · exact State.startSeq_inHand _ _ _
    · rfl
  · split
    · exact State.present_inHand _ _ _
    · rfl

theorem State.restartShift_inHand (s : State) (q k : Nat) : (s.restartShift q k).inHand = s.inHand := by
  simp only [State.restartShift]
  split <;> rfl

theorem State.quadsRestart_inHand (s : State) (qs : List Nat) (k : Nat) :
    (s.each qs fun s q => s.restartShift q k).inHand = s.inHand :=
  State.each_keeps State.inHand _ _ _ fun t q => t.restartShift_inHand q k

theorem State.quadsPresent_inHand (s : State) (qs : List Nat) (k : Nat) :
    (s.each qs fun s q => if s.quadModeFor k q = 1 then s.presentFrame q k else s).inHand = s.inHand :=
  State.each_keeps State.inHand _ _ _ fun t q => by
    split
    · exact t.presentFrame_inHand q k
    · rfl

/-- Offering a corrected copy to the quads touches no copy in hand. -/
theorem State.offerSource_inHand (s : State) (k p : Nat) : (s.offerSource k p).inHand = s.inHand := by
  simp only [State.offerSource]
  split
  · split
    · rfl
    · split
      · split
        · exact State.quadsRestart_inHand _ _ _
        · rfl
      · rfl
  · exact State.quadsPresent_inHand _ _ _

/-- The back buffer that copy `c` fills when it is corrected now. -/
def State.correctedBack (s : State) (b : Bind) (sn : Snap) (c : Copy) (k p : Nat) : Back :=
  { frame := k, port := p, words := ((s.under b).regionWords sn c.format k c.data).1
    clipped := ((s.under b).regionWords sn c.format k c.data).2, sig := c.sig.getD 0, prefixed := c.prefixed, epoch := c.epoch
    src := c.src, at_ := s.now, slot := s.freeSlot k p }

/-- The state with copy `p` of frame `k` corrected into buffer `back`. -/
def State.corrected (s : State) (back : Back) (k p : Nat) : State :=
  { s with
    tile := { s.tile with backs := back :: s.tile.backs.filter fun x => !(x.frame == k && x.port == p) }
    chain := { s.chain with copies := s.chain.copies.map fun (x : Copy) =>
                                        (if x.tick = k ∧ x.port = p then { x with written := some s.now } else x) } }

/-- The work of a correction is counted (R502). -/
def State.correctionCounted (s : State) : State := (s.count 256 (s.regionW * s.regionH)).count 258 s.lampCount

theorem State.correctionCounted_inHand (s : State) : s.correctionCounted.inHand = s.inHand := by
  rw [State.correctionCounted, State.count_inHand, State.count_inHand]

/-- A corrected copy that is valid is offered to the quads that shift (R317). -/
def State.sourceOffered (s : State) (c : Copy) (k p : Nat) : State :=
  if s.copyValid false s.red.eAcc c then s.offerSource k p else s

theorem State.sourceOffered_inHand (s : State) (c : Copy) (k p : Nat) : (s.sourceOffered c k p).inHand = s.inHand := by
  unfold State.sourceOffered
  split
  · exact s.offerSource_inHand k p
  · rfl

theorem execCorrectionWriteThrough_eq (p : Fin 2) (k : Nat) (s : State) (c : Copy) (b : Bind) (sn : Snap)
    (hc : (s.copiesOf k).find? (fun c => c.port == p.val) = some c) (hb : s.bindFor k = some b) (hs : s.snapFor k = some sn) :
    execCorrectionWriteThrough p k s = .next (
      if !s.rdy B.CORRECTION || s.clusterOut .image 8 || c.doneAt.isNone || c.written.isSome || sn.skip then s
      else
        ((s.corrected (s.correctedBack b sn c k p) k p).correctionCounted).sourceOffered c k p) := by
  unfold execCorrectionWriteThrough
  rw [hc, hb, hs]
  rfl

/-- After its correction a copy stands in its back buffer, written now, and the front buffer stays (R22, R286). -/
theorem State.corrected_holds {s t : State} {back : Back} {k p : Nat} (hf : back.frame = k) (hp : back.port = p)
    (ht : t.inHand = (s.corrected back k p).inHand) : t.backFor k p = some back ∧
      (∀ x ∈ t.copiesOf k, x.port = p → x.written = some s.now) ∧ t.tile.front = s.tile.front := by
  have hbacks : t.tile.backs = (s.corrected back k p).tile.backs := congrArg Prod.fst ht
  have hfront : t.tile.front = s.tile.front := congrArg (fun x => x.2.1) ht
  have hcopies : t.chain.copies = (s.corrected back k p).chain.copies := congrArg (fun x => x.2.2) ht
  refine ⟨?_, fun x hx hport => ?_, hfront⟩
  · rw [State.backFor, hbacks]
    exact List.find?_cons_of_pos (by simp [hf, hp])
  · rw [State.copiesOf, hcopies, List.mem_filter, beq_iff_eq] at hx
    obtain ⟨hx, htick⟩ := hx
    obtain ⟨y, -, rfl⟩ := List.mem_map.mp hx
    split
    · rfl
    · rename_i hno
      rw [if_neg hno] at htick hport
      exact absurd ⟨htick, hport⟩ hno

/-- A copy that has come whole is corrected into its back buffer once (R22, R286, R287). -/
theorem execCorrectionWriteThrough_corrects (p : Fin 2) (k : Nat) (s : State) (c : Copy) (b : Bind) (sn : Snap)
    (hc : (s.copiesOf k).find? (fun c => c.port == p.val) = some c) (hb : s.bindFor k = some b) (hs : s.snapFor k = some sn) :
    (s.rdy B.CORRECTION = true → s.clusterOut .image 8 = false → c.doneAt ≠ none → c.written = none → sn.skip = false →
      ∃ t w, exec (.correctionWriteThrough p k) s = .next t ∧ t.backFor k p = some w ∧
        (w.words, w.clipped) = (s.under b).regionWords sn c.format k c.data ∧ w.at_ = s.now ∧ w.epoch = c.epoch ∧
        (∀ x ∈ t.copiesOf k, x.port = p.val → x.written = some s.now) ∧
        t.tile.front = s.tile.front) ∧
    (c.written ≠ none ∨ sn.skip = true ∨ s.clusterOut .image 8 = true → exec (.correctionWriteThrough p k) s = .next s) := by
  have heq := execCorrectionWriteThrough_eq p k s c b sn hc hb hs
  refine ⟨fun hr ho hd hw hk => ?_, fun h => ?_⟩
  · have hgo : ¬ (!s.rdy B.CORRECTION || s.clusterOut .image 8 || c.doneAt.isNone || c.written.isSome || sn.skip) = true := by
      simp [hr, ho, hd, hw, hk]
    rw [if_neg hgo] at heq
    refine ⟨_, s.correctedBack b sn c k p, heq, ?_⟩
    have hkept := ((s.corrected (s.correctedBack b sn c k p) k p).correctionCounted).sourceOffered_inHand c k p
    rw [State.correctionCounted_inHand] at hkept
    obtain ⟨hback, hwritten, hfront⟩ := State.corrected_holds (k := k) (p := p) rfl rfl hkept
    exact ⟨hback, rfl, rfl, rfl, hwritten, hfront⟩
  · have hstop : (!s.rdy B.CORRECTION || s.clusterOut .image 8 || c.doneAt.isNone || c.written.isSome || sn.skip) = true := by
      rcases h with h | h | h
      · simp [Option.isSome_iff_ne_none.mpr h]
      · simp [h]
      · simp [h]
    rw [if_pos hstop] at heq
    exact heq

end Sys2Proof.Machine
end

section
/-! The display tick (R20, R22, R187, R317, R320): which frame a tile shows, and what it counts. -/

namespace Sys2Proof.Machine

/-- Two parameters of different number share no key while the lower one's index fits 16 bits. -/
theorem pkey_ne_of_lt {id idx id' idx' : Nat} (h : id < id') (hi : idx < 65536) : pkey id idx ≠ pkey id' idx' := by
  unfold pkey
  omega

/-! What the work after the choice of a frame leaves alone -/

/-- What is shown, in hand and counted at a display tick. -/
def State.shown (s : State) : (Option Back × List Back × Option (Nat × Option Nat) × Option Nat × Nat) × (Fin 3 → Nat) × Nat :=
  ((s.tile.front, s.tile.backs, s.tile.chosen, s.tile.dtAt, s.start.ready), fun i => s.par P.COPY_COUNT i,
    s.par P.EVENT_COUNT E.SHIFT_LATE)

/-- A parameter above COPY_COUNT is none that is counted at a display tick. -/
theorem State.setPar_shown (s : State) {id : Nat} (idx v : Nat) (h : P.COPY_COUNT < id) : (s.setPar id idx v).shown = s.shown := by
  have hcopy (i : Fin 3) : (s.setPar id idx v).par P.COPY_COUNT i = s.par P.COPY_COUNT i :=
    s.par_setPar_ne v (pkey_ne_of_lt h (by omega))
  have hlate : (s.setPar id idx v).par P.EVENT_COUNT E.SHIFT_LATE = s.par P.EVENT_COUNT E.SHIFT_LATE :=
    s.par_setPar_ne v (pkey_ne_of_lt (lt_trans (by decide) h) (by decide))
  simp only [State.shown, hcopy, hlate]
  rfl

theorem State.raise_shown (s : State) {e : Nat} (i d c : Nat) (he : e ≠ E.SHIFT_LATE) (hb : e < 65536) :
    (s.raise e i d c).shown = s.shown := by
  have hcopy (j : Fin 3) : (s.raise e i d c).par P.COPY_COUNT j = s.par P.COPY_COUNT j :=
    s.par_raise e i d c (by decide) (by omega) hb
  have hlate : (s.raise e i d c).par P.EVENT_COUNT E.SHIFT_LATE = s.par P.EVENT_COUNT E.SHIFT_LATE :=
    s.par_raiseRec_ne _ (fun hk => he (Nat.add_left_cancel hk).symm) (by decide)
  simp only [State.shown, hcopy, hlate, State.raise_tile, State.raise_start]

theorem State.raiseIf_shown (s : State) (b : Bool) {e : Nat} (i d : Nat) (he : e ≠ E.SHIFT_LATE) (hb : e < 65536) :
    (s.raiseIf b e i d).shown = s.shown := by
  cases b with
  | true => exact s.raise_shown i d 0 he hb
  | false => rfl

theorem State.setBlob_shown (s : State) (id idx off : Nat) (bs : List Byte) : (s.setBlob id idx off bs).shown = s.shown := by
  rw [State.setBlob_eq]
  rfl

theorem State.shiftMargins_shown (s : State) (k : Nat) : (s.shiftMargins k).shown = s.shown := by
  unfold State.shiftMargins
  refine State.each_keeps State.shown _ _ _ fun t q => ?_
  split
  · rfl
  · exact t.setPar_shown _ _ (by decide)

theorem State.sensorsJudge_shown (s : State) : s.sensorsJudge.shown = s.shown := by
  unfold State.sensorsJudge
  refine State.each_keeps State.shown _ _ _ fun t i => ?_
  dsimp only
  split
  · rfl
  · split
    · exact t.setPar_shown _ _ (by decide)
    · exact (State.raise_shown _ _ _ _ (by decide) (by decide)).trans (t.setPar_shown i 0x8000 (by decide))

theorem State.zoneTemps_shown (s : State) : s.zoneTemps.shown = s.shown := by
  unfold State.zoneTemps
  refine (State.each_keeps State.shown _ _ _ fun t z => ?_).trans rfl
  dsimp only
  split
  · exact State.raise_shown _ _ _ _ (by decide) (by decide)
  · exact State.setPar_shown _ _ _ (by decide)

theorem State.putK_shown (s : State) (id z : Nat) (k : List Int) : (s.putK id z k).shown = s.shown := s.setBlob_shown _ _ _ _

theorem State.slewZones_shown (s : State) (tie : Bool) : (s.slewZones tie).shown = s.shown := by
  unfold State.slewZones
  dsimp only
  split
  · exact (State.each_keeps State.shown _ _ _ fun t z => t.putK_shown _ _ _).trans (s.raiseIf_shown _ _ _ (by decide) (by decide))
  · exact s.raiseIf_shown _ _ _ (by decide) (by decide)
  · exact (State.each_keeps State.shown _ _ _ fun t z => t.putK_shown _ _ _).trans (s.raiseIf_shown _ _ _ (by decide) (by decide))

theorem State.snapBeta_shown (s : State) (n : Nat) (tie : Bool) : (s.snapBeta n tie).shown = s.shown := by
  unfold State.snapBeta
  exact (State.setPar_shown _ _ _ (by decide)).trans (s.raiseIf_shown _ _ _ (by decide) (by decide))

theorem State.loadLoops_shown (s : State) (n : Nat) (tie : Bool) : (s.loadLoops n tie).shown = s.shown := by
  unfold State.loadLoops
  split
  · rfl
  · split
    · exact s.raise_shown _ _ _ (by decide) (by decide)
    · dsimp only
      refine (State.each_keeps State.shown _ _ _ fun t r => ?_).trans ?_ <;> rfl

theorem State.takeMasks_shown (s : State) (n : Nat) (tie : Bool) : (s.takeMasks n tie).shown = s.shown := by
  unfold State.takeMasks
  split
  · rfl
  · refine (State.raiseIf_shown _ _ _ _ (by decide) (by decide)).trans ?_
    refine (State.each_keeps State.shown _ _ _ fun t r => ?_).trans ?_ <;> rfl

theorem State.gainSwap_shown (s : State) (k : Nat) (tie : Bool) : (s.gainSwap k tie).shown = s.shown := by
  unfold State.gainSwap
  split
  · rfl
  · split
    · split
      · rfl
      · exact State.raise_shown _ _ _ _ (by decide) (by decide)
    · exact s.raise_shown _ _ _ (by decide) (by decide)

theorem State.sendScale_shown (s : State) (n : Nat) : (s.sendScale n).shown = s.shown := by
  unfold State.sendScale
  split
  · rfl
  · simp only [State.sendMember, State.ownQueue]
    split
    · rfl
    · exact s.raise_shown _ _ _ (by decide) (by decide)

/-- What frame `n` reads of the sensors, the scales, the loops, the masks and the gains (R288). -/
def State.frameInputs (s : State) (n : Nat) (tie : Bool) : State :=
  ((((s.sensorsJudge.zoneTemps.slewZones tie).snapBeta n tie).loadLoops n tie).takeMasks n tie).gainSwap n tie

/-- The record of frame `n`'s inputs. -/
def State.snapOf (s : State) (n : Nat) (tie : Bool) : Snap :=
  { frame := n
    zones := (List.range 16).filterMap fun z =>
      let k := s.kList P.K_APPLIED z
      if k = identityK then none else some (z, k)
    beta := s.tile.betaLast, gains := s.tile.gains
    masks := (s.health.lamps.filter fun e => s.masked n e.1).map (·.1)
    skip := s.throttle2 tie && n % 2 == 1 }

/-- The record stands with those of the frames before. -/
def State.snapKept (s : State) (n : Nat) (sn : Snap) : State :=
  { s with
    tile := { s.tile with snaps := (sn :: s.tile.snaps.filter fun x => x.frame != n).take 3 }
    chain := { s.chain with copies := s.chain.copies.map fun (c : Copy) => (if c.tick = n then { c with entered := true } else c) } }

theorem State.snapshot_eq (s : State) (n : Nat) (tie : Bool) :
    s.snapshot n tie = (((s.frameInputs n tie).snapKept n ((s.frameInputs n tie).snapOf n tie)).sendScale n) := by
  unfold State.snapshot State.snapKept State.snapOf State.frameInputs
  rfl

theorem State.snapKept_shown (s : State) (n : Nat) (sn : Snap) : (s.snapKept n sn).shown = s.shown := rfl

/-- The inputs of frame `n` are taken; nothing shown or in hand changes (R187, R288). -/
theorem State.snapshot_shown (s : State) (n : Nat) (tie : Bool) : (s.snapshot n tie).shown = s.shown := by
  rw [State.snapshot_eq, State.sendScale_shown, State.snapKept_shown, State.frameInputs, State.gainSwap_shown,
    State.takeMasks_shown, State.loadLoops_shown, State.snapBeta_shown, State.slewZones_shown, State.zoneTemps_shown,
    State.sensorsJudge_shown]

theorem State.ledger_shown (s : State) (l : SMap Nat) : State.shown { s with tile := { s.tile with ledger := l } } = s.shown := rfl

theorem State.wearUpdate_shown (s : State) (n : Nat) (dark : Nat → Bool) : (s.wearUpdate n dark).shown = s.shown := by
  unfold State.wearUpdate
  split
  · rfl
  · refine State.each_keeps State.shown _ _ _ fun t e => ?_
    exact (State.raiseIf_shown _ _ _ _ (by decide) (by decide)).trans (t.ledger_shown _)

theorem State.gainStart_shown (s : State) (n : Nat) : (s.gainStart n).shown = s.shown := by
  unfold State.gainStart
  split <;> rfl

theorem State.healthFrame_shown (s : State) : s.healthFrame.shown = s.shown := by
  unfold State.healthFrame
  rfl

end Sys2Proof.Machine
end

section
/-! The display tick's choice (R20, R22, R320): the frame shown, its count by kind, and what stays without one. -/

namespace Sys2Proof.Machine

/-! The frame shown -/

theorem State.raiseTick_shown (s : State) {e : Nat} (i d : Nat) (he : e ≠ E.SHIFT_LATE) (hb : e < 65536) :
    (s.raiseTick e i d).shown = s.shown := by
  unfold State.raiseTick
  split
  · have hcopy (j : Fin 3) : (s.bump P.EVENT_COUNT e).par P.COPY_COUNT j = s.par P.COPY_COUNT j :=
      s.par_bump_other (by decide) hb (by omega)
    have hlate : (s.bump P.EVENT_COUNT e).par P.EVENT_COUNT E.SHIFT_LATE = s.par P.EVENT_COUNT E.SHIFT_LATE :=
      s.par_setPar_ne _ fun hk => he (Nat.add_left_cancel hk).symm
    simp only [State.shown, hcopy, hlate]
    rfl
  · exact (State.raise_shown _ _ _ _ he hb).trans rfl

theorem State.present_shown (s : State) (q code : Nat) : (s.present q code).shown = s.shown := by
  simp only [State.present]
  split
  · rfl
  · split
    · split
      · rfl
      · exact (State.raiseTick_shown _ _ _ (by decide) (by decide)).trans (s.setPar_shown _ _ (by decide))
    · rfl

/-- The frame of a back buffer comes to the front, each quad that was dark until it lit (R22, R311). -/
def State.frontTaken (s : State) (k : Nat) (b : Back) (lit : List Nat) : State :=
  ({ s with tile := { s.tile with front := some b, frontBind := s.bindFor k, prevBind := s.tile.frontBind }
            drive := { s.drive with begun := [] } } : State).each lit fun s q => s.updSeq q fun d => { d with dark := 0 }

/-- The frame shown is counted by its kind, and its clipped lamps stand (R320). -/
def State.copyCounted (s : State) (b : Back) : State :=
  ((s.bump P.COPY_COUNT (b2n b.prefixed)).raiseIf b.prefixed E.STANDBY_COPY_SHOWN).setPar P.CLIPPED_LAMPS 0 b.clipped

/-- The ports of the banks that show follow the map (R320). -/
def State.outputsFreed (s : State) : State :=
  { s with start := { s.start with
    oeFree := (List.range 32).filter fun p => SMap.get BankMode.off s.start.banks (p / 8) == BankMode.normal } }

theorem State.swapFrame_eq (s : State) (k : Nat) (b : Back) (tie : Bool) : s.swapFrame k b tie =
    (((s.frontTaken k b ((s.liveQuads k).filter fun q => (s.seq q).dark == 3 && s.shiftDone k q tie)).copyCounted
      b).outputsFreed.setReady B.SHOW).each
      ((((s.frontTaken k b ((s.liveQuads k).filter fun q => (s.seq q).dark == 3 && s.shiftDone k q tie)).copyCounted
        b).outputsFreed.setReady B.SHOW).liveQuads k) fun s q => (s.boundary q).present q 1 := by
  unfold State.swapFrame State.frontTaken State.copyCounted State.outputsFreed
  rfl

/-- Taking a frame to the front changes the tile's front buffer and the sequencers, nothing else. -/
theorem State.frontTaken_frame (s : State) (k : Nat) (b : Back) (lit : List Nat) : s.frontTaken k b lit =
    { s with tile := { s.tile with front := some b, frontBind := s.bindFor k, prevBind := s.tile.frontBind }
             drive := (s.frontTaken k b lit).drive } := by
  have hloop (d : PartDrive) : (fun t : State => ({ t with drive := d } : State)) (s.frontTaken k b lit) =
      { s with tile := { s.tile with front := some b, frontBind := s.bindFor k, prevBind := s.tile.frontBind }, drive := d } := by
    unfold State.frontTaken
    refine (State.each_keeps (fun t : State => ({ t with drive := d } : State)) _ _ _ fun t q => ?_).trans ?_ <;> rfl
  exact hloop (s.frontTaken k b lit).drive

theorem State.copyCounted_start (s : State) (b : Back) : (s.copyCounted b).start = s.start := by
  rw [State.copyCounted, State.setPar_start, State.raiseIf_start]
  rfl

theorem State.copyCounted_tile (s : State) (b : Back) : (s.copyCounted b).tile = s.tile := by
  rw [State.copyCounted, State.setPar_tile, State.raiseIf_tile]
  rfl

theorem State.copyCounted_count (s : State) (b : Back) : (s.copyCounted b).par P.COPY_COUNT (b2n b.prefixed) =
    (s.par P.COPY_COUNT (b2n b.prefixed) + 1) % 2 ^ 32 := by
  have hkind : b2n b.prefixed < 65536 := by cases b.prefixed <;> decide
  rw [State.copyCounted, State.par_setPar_ne _ _ (pkey_ne_of_lt (by decide) hkind),
    State.par_raiseIf _ _ _ _ _ (by decide) hkind (by decide)]
  exact s.par_bump _ _ _

/-- Setting a ready bit whose role runs it and whose prerequisites stand leaves it set (R78). -/
theorem State.rdy_setReady (s : State) (i : Nat) (hr : (roleBits s.start.role s.paired).contains i = true)
    (hp : (prereqs s.isHead i).all s.rdy = true) : (s.setReady i).rdy i = true := by
  by_cases h : s.rdy i = true
  · have hsame : s.setReady i = s := if_pos (by simp [h])
    rwa [hsame]
  · rw [Bool.not_eq_true] at h
    rw [State.rdy, s.setReady_ready i h hr hp, bit_eq_testBit, Nat.add_comm, Nat.testBit_two_pow_add_eq]
    rw [State.rdy, bit_eq_testBit] at h
    simp [h]

theorem State.front_of_shown {s t : State} (h : t.shown = s.shown) : t.tile.front = s.tile.front := congrArg (fun x => x.1.1) h
theorem State.backs_of_shown {s t : State} (h : t.shown = s.shown) : t.tile.backs = s.tile.backs := congrArg (fun x => x.1.2.1) h
theorem State.chosen_of_shown {s t : State} (h : t.shown = s.shown) : t.tile.chosen = s.tile.chosen :=
  congrArg (fun x => x.1.2.2.1) h
theorem State.dtAt_of_shown {s t : State} (h : t.shown = s.shown) : t.tile.dtAt = s.tile.dtAt :=
  congrArg (fun x => x.1.2.2.2.1) h
theorem State.ready_of_shown {s t : State} (h : t.shown = s.shown) : t.start.ready = s.start.ready :=
  congrArg (fun x => x.1.2.2.2.2) h
theorem State.copyCount_of_shown {s t : State} (h : t.shown = s.shown) (i : Fin 3) :
    t.par P.COPY_COUNT i = s.par P.COPY_COUNT i := congrArg (fun x => x.2.1 i) h
theorem State.shiftLate_of_shown {s t : State} (h : t.shown = s.shown) :
    t.par P.EVENT_COUNT E.SHIFT_LATE = s.par P.EVENT_COUNT E.SHIFT_LATE := congrArg (fun x => x.2.2) h

/-- A frame swapped in is at the front, counted by its kind, and SHOW is set (R22, R320). -/
theorem State.swapFrame_shows (s : State) (k : Nat) (b : Back) (tie : Bool) (ht : s.isTile = true) (hd : s.rdy B.DRIVE = true) :
    (s.swapFrame k b tie).tile.front = some b ∧ (s.swapFrame k b tie).rdy B.SHOW = true ∧
      (s.swapFrame k b tie).par P.COPY_COUNT (b2n b.prefixed) = (s.par P.COPY_COUNT (b2n b.prefixed) + 1) % 2 ^ 32 := by
  obtain ⟨u, hu⟩ : ∃ u, u = s.frontTaken k b ((s.liveQuads k).filter fun q => (s.seq q).dark == 3 && s.shiftDone k q tie) :=
    ⟨_, rfl⟩
  have hframe := s.frontTaken_frame k b ((s.liveQuads k).filter fun q => (s.seq q).dark == 3 && s.shiftDone k q tie)
  rw [← hu] at hframe
  have hfront : u.tile.front = some b := by rw [hframe]
  have hstart : u.start = s.start := by rw [hframe]
  have hcount (i : Nat) : u.par P.COPY_COUNT i = s.par P.COPY_COUNT i := by
    rw [hframe]
    rfl
  obtain ⟨v, hv⟩ : ∃ v, v = (u.copyCounted b).outputsFreed := ⟨_, rfl⟩
  have hvfront : v.tile.front = some b := by
    rw [hv, ← hfront, ← u.copyCounted_tile b]
    rfl
  have hvstart : v.start.ready = s.start.ready ∧ v.start.role = s.start.role ∧ v.start.record = s.start.record := by
    rw [hv, ← hstart, ← u.copyCounted_start b]
    exact ⟨rfl, rfl, rfl⟩
  have hvcount : v.par P.COPY_COUNT (b2n b.prefixed) = (s.par P.COPY_COUNT (b2n b.prefixed) + 1) % 2 ^ 32 := by
    rw [hv, ← hcount]
    exact u.copyCounted_count b
  obtain ⟨hready, hrole, hrecord⟩ := hvstart
  have hshow : (v.setReady B.SHOW).rdy B.SHOW = true := by
    have hrole' : v.start.role = .tile := by simpa [State.isTile, hrole] using ht
    refine v.rdy_setReady _ ?_ ?_
    · rw [hrole']
      cases v.paired <;> decide
    · have hdrive : v.rdy B.DRIVE = true := by rwa [State.rdy, hready]
      simp [State.isHead, hrole', prereqs, hdrive]
  have hkept : (s.swapFrame k b tie).shown = (v.setReady B.SHOW).shown := by
    rw [State.swapFrame_eq, ← hu, ← hv]
    exact State.each_keeps State.shown _ _ _ fun t q => (State.present_shown _ _ _).trans rfl
  have hkind : b2n b.prefixed < 3 := by cases b.prefixed <;> decide
  refine ⟨?_, ?_, ?_⟩
  · rw [State.front_of_shown hkept, State.setReady_tile, hvfront]
  · rwa [State.rdy, State.ready_of_shown hkept]
  · refine (State.copyCount_of_shown hkept ⟨_, hkind⟩).trans (Eq.trans ?_ hvcount)
    refine State.par_setReady_spared (ids := [P.READY_TIME]) (evs := []) ?_ v (by decide) (by decide)
    exact spared_iff.mpr ⟨by show b2n b.prefixed < 65536; omega, by decide, fun e => absurd e (by decide)⟩

/-! The display tick's choice -/

theorem State.rdy_of_shown {s t : State} (h : t.shown = s.shown) (i : Nat) : t.rdy i = s.rdy i := by
  rw [State.rdy, State.rdy, State.ready_of_shown h]

theorem State.revertCursors_shown (s : State) (k : Nat) : (s.revertCursors k).shown = s.shown := by
  unfold State.revertCursors
  refine State.each_keeps State.shown _ _ _ fun t q => ?_
  split <;> rfl

/-- A frame that comes too late for a shift leaves the front buffer, told and counted (R317, R320). -/
def State.shiftLate (s : State) (k q : Nat) : State :=
  (((s.bump P.SHIFT_LATE_COUNT).raise E.SHIFT_LATE q).bump P.COPY_COUNT 2).revertCursors k

theorem State.shiftLate_keeps (s : State) (k q : Nat) : (s.shiftLate k q).tile.front = s.tile.front ∧
    s.told (s.shiftLate k q) E.SHIFT_LATE ∧ (s.shiftLate k q).par P.COPY_COUNT 2 = (s.par P.COPY_COUNT 2 + 1) % 2 ^ 32 := by
  have hkept : (s.shiftLate k q).shown = (((s.bump P.SHIFT_LATE_COUNT).raise E.SHIFT_LATE q).bump P.COPY_COUNT 2).shown :=
    State.revertCursors_shown _ k
  have hbump : (s.bump P.SHIFT_LATE_COUNT).shown = s.shown := s.setPar_shown _ _ (by decide)
  refine ⟨?_, ?_, ?_⟩
  · refine (State.front_of_shown hkept).trans ?_
    rw [State.bump_tile, State.raise_tile]
    exact State.front_of_shown hbump
  · refine State.told_of_after (State.told_of_before (State.told_raise _ _ q 0 0 (by decide)) (State.shiftLate_of_shown hbump)) ?_
    refine (State.shiftLate_of_shown hkept).trans ?_
    exact State.par_bump_other _ (by decide) (by decide) (by decide)
  · refine (State.copyCount_of_shown hkept 2).trans ?_
    rw [show ((2 : Fin 3) : Nat) = 2 from rfl, State.par_bump, State.par_raise _ _ _ _ _ (by decide) (by decide) (by decide)]
    rw [show (s.bump P.SHIFT_LATE_COUNT).par P.COPY_COUNT 2 = s.par P.COPY_COUNT 2 from State.copyCount_of_shown hbump 2]

/-- The frame is swapped in unless one of the quads `late` is late with its shift (R317). -/
def State.swapUnless (s : State) (late : List Nat) (k : Nat) (b : Back) (tie : Bool) : State :=
  match late with
  | q :: _ => s.shiftLate k q
  | [] => s.swapFrame k b tie

/-- A frame that is written and not poisoned is swapped in, or is late for a shift (R317, R320). -/
theorem State.displaySwap_chosen (s : State) (k p : Nat) (b : Back) (tie : Bool) (hr : s.rdy B.CORRECTION = true)
    (hg : s.hasRegion = true) (hd : s.rdy B.DRIVE = true) (hs : ∀ sn, s.snapFor k = some sn → sn.skip = false)
    (hc : s.tile.chosen = some (k, some p)) (hb : s.backFor k p = some b) (ho : s.onTime tie b.at_ = true)
    (hm : 2 * k + p ∉ s.tile.corrMiss) :
    s.displaySwap k tie = s.swapUnless ((s.needsShift k).filter fun q => !s.shiftDone k q tie) k b tie := by
  unfold State.displaySwap
  dsimp only
  rw [if_neg (by simp [hr, hg]), if_neg (by simp [hd]), hc]
  dsimp only
  rw [if_neg (by simp)]
  refine (if_neg ?_).trans ?_
  · split
    · rename_i sn e
      simp [hs sn e]
    · exact Bool.false_ne_true
  · rw [hb]
    dsimp only
    rw [if_neg (by simp [ho, hm])]
    rfl

/-- Without a copy chosen for the frame, the front buffer stays, counted (R320). -/
theorem State.displaySwap_none (s : State) (k : Nat) (tie : Bool) (hr : s.rdy B.CORRECTION = true)
    (hg : s.hasRegion = true) (hd : s.rdy B.DRIVE = true) (hc : ∀ p, s.tile.chosen ≠ some (k, some p)) :
    (s.displaySwap k tie).tile.front = s.tile.front ∧
      (s.displaySwap k tie).par P.COPY_COUNT 2 = (s.par P.COPY_COUNT 2 + 1) % 2 ^ 32 := by
  have hskipped : (s.bump P.FRAMES_SKIPPED).par P.COPY_COUNT 2 = s.par P.COPY_COUNT 2 :=
    State.par_bump_other _ (by decide) (by decide) (by decide)
  have hcount (skip : Bool) (t : State)
      (ht : t = if skip = true then (s.bump P.FRAMES_SKIPPED).bump P.COPY_COUNT 2 else s.bump P.COPY_COUNT 2) :
      t.tile.front = s.tile.front ∧ t.par P.COPY_COUNT 2 = (s.par P.COPY_COUNT 2 + 1) % 2 ^ 32 := by
    subst ht
    split
    · rw [State.par_bump, hskipped]
      exact ⟨rfl, rfl⟩
    · exact ⟨rfl, s.par_bump _ _ _⟩
  unfold State.displaySwap
  dsimp only
  rw [if_neg (by simp [hr, hg]), if_neg (by simp [hd])]
  split
  · rename_i k' p e
    rw [if_pos (fun hk => hc p (by rw [e, hk]))]
    exact ⟨rfl, s.par_bump _ _ _⟩
  · exact hcount _ _ rfl

/-! The command -/

/-- At the display tick the banks that showed the map show the frame, and a tick named for a rate's change passes (R320, R212). -/
def State.displayBegun (s : State) (k : Nat) : State :=
  { s with
    scan := { s.scan with skip := if s.scan.skip ≤ k + 2 ∧ k ≤ s.scan.skip then s.scan.skip else 0 }
    start := { s.start with
      banks := s.start.banks.map fun (e : Nat × BankMode) => (e.1, if e.2 == BankMode.map then BankMode.normal else e.2) } }

/-- Whether frame `f` is later than the one displayed, at the rate in force. -/
def State.laterThan (s : State) (k f : Nat) : Bool := if s.thisRate k then decide (k < f) else f != k

/-- The display tick has passed: the back buffers are released (R22). -/
def State.displayPassed (s : State) (k : Nat) (later : Nat → Bool) : State :=
  { s with
    tile := { s.tile with
      displayed := if s.thisRate k then k + 1 else s.tile.displayed, dtAt := some s.now, shift := none, chosen := none, backs := []
      corrMiss := s.tile.corrMiss.filter fun x => later (x / 2) }
    chain := { s.chain with copies := s.chain.copies.filter fun (c : Copy) => later c.tick } }

/-- The work on the next frame's inputs, the wear and the health (R288, R302, R363). -/
def State.nextInputs (s : State) (k : Nat) (tie : Bool) : State :=
  if s.rdy B.CORRECTION then s.snapshot (k + 1) tie else s
def State.frameWorn (s : State) (k : Nat) : State :=
  ((s.wearUpdate k (s.lampDark (match s.tile.frontBind with | some b => s.under b | none => s).lampSlots)).gainStart k).healthFrame
def State.bindsKept (s : State) (later : Nat → Bool) : State :=
  { s with tile := { s.tile with binds := s.tile.binds.filter fun b => later b.frame } }

theorem execDisplayTick_eq (k : Nat) (tie : Bool) (s : State) (ht : s.isTile = true) (hu : s.unexpected k = false) :
    execDisplayTick k tie s = .next (((((((((s.displayBegun k).unfitFrom k).displaySwap k tie).shiftMargins k).displayPassed k
      (s.laterThan k)).nextInputs k tie).frameWorn k).bindsKept (s.laterThan k))) := by
  unfold execDisplayTick
  rw [if_neg (by simp [ht, hu])]
  unfold State.displayBegun State.displayPassed State.nextInputs State.frameWorn State.bindsKept State.laterThan
  rfl

theorem State.nextInputs_shown (s : State) (k : Nat) (tie : Bool) : (s.nextInputs k tie).shown = s.shown := by
  unfold State.nextInputs
  split
  · exact s.snapshot_shown _ _
  · rfl

theorem State.frameWorn_shown (s : State) (k : Nat) : (s.frameWorn k).shown = s.shown := by
  rw [State.frameWorn, State.healthFrame_shown, State.gainStart_shown, State.wearUpdate_shown]

theorem State.bindsKept_shown (s : State) (later : Nat → Bool) : (s.bindsKept later).shown = s.shown := rfl

/-- What the passing of the display tick leaves of what is shown. -/
theorem State.displayPassed_keeps (s : State) (k : Nat) (later : Nat → Bool) :
    (s.displayPassed k later).tile.front = s.tile.front ∧ (s.displayPassed k later).tile.backs = [] ∧
      (s.displayPassed k later).tile.chosen = none ∧ (s.displayPassed k later).tile.dtAt = some s.now ∧
      (∀ i, (s.displayPassed k later).rdy i = s.rdy i) ∧
      ∀ id idx, (s.displayPassed k later).par id idx = s.par id idx :=
  ⟨rfl, rfl, rfl, rfl, fun _ => rfl, fun _ _ => rfl⟩

theorem State.displayBegun_unfit (s : State) (k : Nat) : (s.displayBegun k).unfitFrom k = (s.unfitFrom k).displayBegun k := by
  unfold State.unfitFrom State.displayBegun
  dsimp only
  split
  · split <;> rfl
  · rfl

/-- What the choice reads of the state, and what it leaves, stand over the quads' fitness and the begun tick. -/
theorem State.unfitFrom_frame (s : State) (k : Nat) : s.unfitFrom k =
    { s with tile := { s.tile with unfit := (s.unfitFrom k).tile.unfit, unfitDue := (s.unfitFrom k).tile.unfitDue } } := by
  unfold State.unfitFrom
  split
  · split <;> rfl
  · rfl

/-- The state in which a display tick chooses: begun, and the quads found unfit from frame `k` taken (R317, R320). -/
def State.choosing (s : State) (k : Nat) : State := (s.displayBegun k).unfitFrom k

theorem State.choosing_shown (s : State) (k : Nat) : (s.choosing k).shown = s.shown := by
  rw [State.choosing, State.displayBegun_unfit, State.unfitFrom_frame]
  rfl

/-- What the choice reads, beside what is shown: the snapshots, the poisoned copies, the region, the time and the quads that shift. -/
theorem State.choosing_reads (s : State) (k : Nat) :
    (s.choosing k).isTile = s.isTile ∧ (s.choosing k).hasRegion = s.hasRegion ∧ (s.choosing k).now = s.now ∧
      (s.choosing k).snapFor k = s.snapFor k ∧ (s.choosing k).tile.corrMiss = s.tile.corrMiss ∧
      (∀ p, (s.choosing k).backFor k p = s.backFor k p) ∧ ∀ tie t, (s.choosing k).onTime tie t = s.onTime tie t := by
  rw [State.choosing, State.displayBegun_unfit, State.unfitFrom_frame]
  exact ⟨rfl, rfl, rfl, rfl, rfl, fun _ => rfl, fun _ _ => rfl⟩

theorem State.displayBegun_liveQuads (s : State) (k n : Nat) : (s.displayBegun k).liveQuads n = s.liveQuads n := by
  have hbind : (s.displayBegun k).bindFor n = s.bindFor n := rfl
  unfold State.liveQuads
  rw [hbind]
  cases s.bindFor n <;> rfl

theorem State.displayBegun_needsShift (s : State) (k n : Nat) : (s.displayBegun k).needsShift n = s.needsShift n := by
  rw [State.needsShift, s.displayBegun_liveQuads]
  rfl

/-- The quads that must have shifted, and whether they have, are those of the fitness taken. -/
theorem State.choosing_shift (s : State) (k : Nat) (tie : Bool) :
    (s.choosing k).needsShift k = (s.unfitFrom k).needsShift k ∧ ∀ q, (s.choosing k).shiftDone k q tie = s.shiftDone k q tie := by
  rw [State.choosing, State.displayBegun_unfit]
  refine ⟨State.displayBegun_needsShift _ _ _, fun q => ?_⟩
  rw [State.unfitFrom_frame]
  rfl

/-- The state after the choice and the margins of its shifts. -/
def State.chosenShown (s : State) (k : Nat) (tie : Bool) : State := ((s.choosing k).displaySwap k tie).shiftMargins k

theorem State.chosenShown_now (s : State) (k : Nat) (tie : Bool) : (s.chosenShown k tie).now = s.now := by
  have hnow (t : State) : t.now = t.fixed.2.1 := rfl
  rw [hnow, State.chosenShown, State.shiftMargins_fixed, State.displaySwap_fixed, State.choosing, State.unfitFrom_fixed]
  rfl

theorem State.chosenShown_shown (s : State) (k : Nat) (tie : Bool) :
    (s.chosenShown k tie).shown = ((s.choosing k).displaySwap k tie).shown := State.shiftMargins_shown _ k

/-- What a display tick shows and counts is what its choice left, and the back buffers are released. -/
theorem execDisplayTick_leaves (k : Nat) (tie : Bool) (s : State) (ht : s.isTile = true) (hu : s.unexpected k = false) :
    ∃ t, exec (.displayTick k tie) s = .next t ∧ t.tile.dtAt = some s.now ∧ t.tile.backs = [] ∧ t.tile.chosen = none ∧
      t.tile.front = ((s.choosing k).displaySwap k tie).tile.front ∧
      (∀ i, t.rdy i = ((s.choosing k).displaySwap k tie).rdy i) ∧
      (∀ i : Fin 3, t.par P.COPY_COUNT i = ((s.choosing k).displaySwap k tie).par P.COPY_COUNT i) ∧
      t.par P.EVENT_COUNT E.SHIFT_LATE = ((s.choosing k).displaySwap k tie).par P.EVENT_COUNT E.SHIFT_LATE := by
  refine ⟨_, execDisplayTick_eq k tie s ht hu, ?_⟩
  obtain ⟨hfront, hbacks, hchosen, hdt, hrdy, hpar⟩ := (s.chosenShown k tie).displayPassed_keeps k (s.laterThan k)
  have hlast := (State.bindsKept_shown _ (s.laterThan k)).trans ((State.frameWorn_shown _ k).trans
    (((s.chosenShown k tie).displayPassed k (s.laterThan k)).nextInputs_shown k tie))
  have hchoice := s.chosenShown_shown k tie
  refine ⟨?_, ?_, ?_, ?_, fun i => ?_, fun i => ?_, ?_⟩
  · exact (State.dtAt_of_shown hlast).trans (hdt.trans (congrArg some (s.chosenShown_now k tie)))
  · exact (State.backs_of_shown hlast).trans hbacks
  · exact (State.chosen_of_shown hlast).trans hchosen
  · exact (State.front_of_shown hlast).trans (hfront.trans (State.front_of_shown hchoice))
  · exact (State.rdy_of_shown hlast i).trans ((hrdy i).trans (State.rdy_of_shown hchoice i))
  · exact (State.copyCount_of_shown hlast i).trans ((hpar _ _).trans (State.copyCount_of_shown hchoice i))
  · exact (State.shiftLate_of_shown hlast).trans ((hpar _ _).trans (State.shiftLate_of_shown hchoice))

/-- At the display tick the chosen frame is shown and counted, or the front buffer stays, counted (R20, R22, R317, R320). -/
theorem execDisplayTick_shows (k : Nat) (tie : Bool) (s : State) (ht : s.isTile = true) (hu : s.unexpected k = false) :
    ∃ t, exec (.displayTick k tie) s = .next t ∧ t.tile.dtAt = some s.now ∧ t.tile.backs = [] ∧ t.tile.chosen = none ∧
      (s.rdy B.CORRECTION = true → s.hasRegion = true → s.rdy B.DRIVE = true →
        (∀ sn, s.snapFor k = some sn → sn.skip = false) →
        (∀ p b, s.tile.chosen = some (k, some p) → s.backFor k p = some b → s.onTime tie b.at_ = true →
          2 * k + p ∉ s.tile.corrMiss →
          ((∀ q ∈ (s.unfitFrom k).needsShift k, s.shiftDone k q tie = true) → t.tile.front = some b ∧ t.rdy B.SHOW = true ∧
            t.par P.COPY_COUNT (b2n b.prefixed) = (s.par P.COPY_COUNT (b2n b.prefixed) + 1) % 2 ^ 32) ∧
          ((∃ q ∈ (s.unfitFrom k).needsShift k, s.shiftDone k q tie = false) → t.tile.front = s.tile.front ∧ s.told t E.SHIFT_LATE ∧
            t.par P.COPY_COUNT 2 = (s.par P.COPY_COUNT 2 + 1) % 2 ^ 32)) ∧
        ((∀ p, s.tile.chosen ≠ some (k, some p)) → t.tile.front = s.tile.front ∧
          t.par P.COPY_COUNT 2 = (s.par P.COPY_COUNT 2 + 1) % 2 ^ 32)) := by
  obtain ⟨t, hexec, hdt, hbacks, hchosen, hfront, hrdy, hcount, hlate⟩ := execDisplayTick_leaves k tie s ht hu
  obtain ⟨htile, hregion, -, hsnap, hmiss, hback, htime⟩ := s.choosing_reads k
  obtain ⟨hneeds, hdone⟩ := s.choosing_shift k tie
  have hsame := s.choosing_shown k
  have hcount2 := State.copyCount_of_shown hsame 2
  refine ⟨t, hexec, hdt, hbacks, hchosen, fun hr hg hd hs => ⟨fun p b hc hb ho hm => ?_, fun hc => ?_⟩⟩
  · rw [← State.rdy_of_shown hsame] at hr hd
    have hswap := (s.choosing k).displaySwap_chosen k p b tie hr (hregion.trans hg) hd (by rwa [hsnap])
      ((State.chosen_of_shown hsame).trans hc) ((hback p).trans hb) ((htime tie b.at_).trans ho) (by rwa [hmiss])
    rw [hneeds] at hswap
    refine ⟨fun hall => ?_, fun hsome => ?_⟩
    · have hnone : ((s.unfitFrom k).needsShift k).filter (fun q => !(s.choosing k).shiftDone k q tie) = [] := by
        rw [List.filter_eq_nil_iff]
        intro q hq
        simp [hdone, hall q hq]
      rw [hnone] at hswap
      obtain ⟨hf, hshow, hn⟩ := (s.choosing k).swapFrame_shows k b tie (htile.trans ht) hd
      have hkind : b2n b.prefixed < 3 := by cases b.prefixed <;> decide
      rw [hswap] at hfront hrdy hcount
      refine ⟨hfront.trans hf, (hrdy _).trans hshow, (hcount ⟨_, hkind⟩).trans (hn.trans ?_)⟩
      rw [State.copyCount_of_shown hsame ⟨b2n b.prefixed, hkind⟩]
    · obtain ⟨q, hq, hqlate⟩ := hsome
      have hmem : q ∈ ((s.unfitFrom k).needsShift k).filter (fun q => !(s.choosing k).shiftDone k q tie) := by
        rw [List.mem_filter]
        exact ⟨hq, by simp [hdone, hqlate]⟩
      obtain ⟨q', l, hl⟩ := List.exists_cons_of_ne_nil (List.ne_nil_of_mem hmem)
      rw [hl] at hswap
      obtain ⟨hf, htold, hn⟩ := (s.choosing k).shiftLate_keeps k q'
      rw [hswap] at hfront hcount hlate
      refine ⟨hfront.trans (hf.trans (State.front_of_shown hsame)), ?_, (hcount 2).trans (hn.trans ?_)⟩
      · exact State.told_of_after (State.told_of_before htold (State.shiftLate_of_shown hsame)) hlate
      · exact congrArg (fun n => (n + 1) % 2 ^ 32) hcount2
  · rw [← State.rdy_of_shown hsame] at hr hd
    obtain ⟨hf, hn⟩ := (s.choosing k).displaySwap_none k tie hr (hregion.trans hg) hd
      (fun p => by rw [State.chosen_of_shown hsame]; exact hc p)
    exact ⟨hfront.trans (hf.trans (State.front_of_shown hsame)),
      (hcount 2).trans (hn.trans (congrArg (fun n => (n + 1) % 2 ^ 32) hcount2))⟩

/-- Settles O41: each clause is the law of its command. -/
theorem tileFrames : Obligations.TileFrames := by
  unfold Obligations.TileFrames
  refine ⟨?_, ?_, ?_⟩
  · exact execCutOff_chooses
  · exact execCorrectionWriteThrough_corrects
  · exact execDisplayTick_shows

end Sys2Proof.Machine
end

section
/-! What a tick's strobe and a commit latch act on (R100, R211 to R213): the pending transactions, the tick's numbers, a reset asked
for, and the elements APPLIED_TXN, APPLIED_TICK and the count of a rate's change.  Shared operations keep all of it. -/

namespace Sys2Proof.Machine

/-- The pending transactions, the tick's numbers and the reset asked for. -/
def State.clockPart (s : State) : List PendTxn × Nat × Nat × Nat × Bool :=
  (s.od.pending, s.time.tick, s.time.strobed, s.time.latched, s.upd.resetNow)

/-- What ticks and latches act on. -/
def State.ticked (s : State) : (List PendTxn × Nat × Nat × Nat × Bool) × Nat × Nat × Nat :=
  (s.clockPart, s.par P.APPLIED_TXN, s.par P.APPLIED_TICK, s.par P.EVENT_COUNT E.TICK_RATE_CHANGED)

theorem State.ticked_eq {s t : State} (hc : t.clockPart = s.clockPart) (hx : t.par P.APPLIED_TXN = s.par P.APPLIED_TXN)
    (ht : t.par P.APPLIED_TICK = s.par P.APPLIED_TICK)
    (he : t.par P.EVENT_COUNT E.TICK_RATE_CHANGED = s.par P.EVENT_COUNT E.TICK_RATE_CHANGED) : t.ticked = s.ticked := by
  simp only [State.ticked, hc, hx, ht, he]

/-- Either branch of a choice keeps it. -/
theorem State.ticked_ite {s a b : State} {c : Prop} [Decidable c] (ha : a.ticked = s.ticked) (hb : b.ticked = s.ticked) :
    (if c then a else b).ticked = s.ticked := by
  split
  · exact ha
  · exact hb

section
variable {s t : State} (h : t.ticked = s.ticked)
include h

theorem State.pending_of_ticked : t.od.pending = s.od.pending := congrArg (fun x => x.1.1) h
theorem State.tick_of_ticked : t.time.tick = s.time.tick := congrArg (fun x => x.1.2.1) h
theorem State.strobed_of_ticked : t.time.strobed = s.time.strobed := congrArg (fun x => x.1.2.2.1) h
theorem State.latched_of_ticked : t.time.latched = s.time.latched := congrArg (fun x => x.1.2.2.2.1) h
theorem State.resetNow_of_ticked : t.upd.resetNow = s.upd.resetNow := congrArg (fun x => x.1.2.2.2.2) h
theorem State.appliedTxn_of_ticked : t.par P.APPLIED_TXN = s.par P.APPLIED_TXN := congrArg (fun x => x.2.1) h
theorem State.appliedTick_of_ticked : t.par P.APPLIED_TICK = s.par P.APPLIED_TICK := congrArg (fun x => x.2.2.1) h
theorem State.rateChanges_of_ticked :
    t.par P.EVENT_COUNT E.TICK_RATE_CHANGED = s.par P.EVENT_COUNT E.TICK_RATE_CHANGED := congrArg (fun x => x.2.2.2) h

end

/-! The state's operations -/

/-- A parameter above APPLIED_TXN is none of these. -/
theorem State.setPar_ticked (s : State) {id : Nat} (idx v : Nat) (h : P.APPLIED_TXN < id) : (s.setPar id idx v).ticked = s.ticked :=
  State.ticked_eq rfl (s.par_setPar_ne v (pkey_ne_of_lt h (by decide)))
    (s.par_setPar_ne v (pkey_ne_of_lt (lt_trans (by decide) h) (by decide)))
    (s.par_setPar_ne v (pkey_ne_of_lt (lt_trans (by decide) h) (by decide)))

/-- Nor is another parameter, while its index fits 16 bits. -/
theorem State.setPar_ticked_ne (s : State) {id idx : Nat} (v : Nat) (hi : idx < 65536)
    (h : id ∉ [P.APPLIED_TXN, P.APPLIED_TICK, P.EVENT_COUNT]) : (s.setPar id idx v).ticked = s.ticked := by
  simp only [List.mem_cons, List.not_mem_nil, or_false, not_or] at h
  obtain ⟨htxn, htick, hev⟩ := h
  exact State.ticked_eq rfl (s.par_setPar_other v (Ne.symm htxn) hi (by decide))
    (s.par_setPar_other v (Ne.symm htick) hi (by decide)) (s.par_setPar_other v (Ne.symm hev) hi (by decide))

theorem State.bump_ticked (s : State) {id : Nat} (idx w : Nat) (h : P.APPLIED_TXN < id) : (s.bump id idx w).ticked = s.ticked :=
  s.setPar_ticked _ _ h

theorem State.bump_event_ticked (s : State) {e : Nat} (w : Nat) (he : e ≠ E.TICK_RATE_CHANGED) (hb : e < 65536) :
    (s.bump P.EVENT_COUNT e w).ticked = s.ticked :=
  State.ticked_eq rfl (s.par_bump_other (by decide) hb (by decide)) (s.par_bump_other (by decide) hb (by decide))
    (s.par_setPar_ne _ fun hk => he (Nat.add_left_cancel hk).symm)

theorem State.raise_ticked (s : State) {e : Nat} (i d c : Nat) (he : e ≠ E.TICK_RATE_CHANGED) (hb : e < 65536) :
    (s.raise e i d c).ticked = s.ticked := by
  refine State.ticked_eq ?_ (s.par_raise e i d c (by decide) (by decide) hb) (s.par_raise e i d c (by decide) (by decide) hb)
    (s.par_raiseRec_ne _ (fun hk => he (Nat.add_left_cancel hk).symm) (by decide))
  rw [State.raise_eq]
  rfl

theorem State.raiseIf_ticked (s : State) (b : Bool) {e : Nat} (i d : Nat) (he : e ≠ E.TICK_RATE_CHANGED) (hb : e < 65536) :
    (s.raiseIf b e i d).ticked = s.ticked := by
  cases b with
  | true => exact s.raise_ticked i d 0 he hb
  | false => rfl

theorem State.raiseLimited_ticked (s : State) {e : Nat} (i n d : Nat) (he : e ≠ E.TICK_RATE_CHANGED) (hb : e < 65536) :
    (s.raiseLimited e i n d).ticked = s.ticked := by
  unfold State.raiseLimited
  split
  · exact s.raise_ticked i d 0 he hb
  · exact s.bump_event_ticked 32 he hb

theorem State.setBlob_ticked (s : State) (id idx off : Nat) (bs : List Byte) : (s.setBlob id idx off bs).ticked = s.ticked := by
  rw [State.setBlob_eq]
  rfl

theorem State.count_ticked (s : State) (c n : Nat) : (s.count c n).ticked = s.ticked := by
  rw [State.count_eq]
  rfl

theorem State.send_ticked (s : State) (o : Out) : (s.send o).ticked = s.ticked := rfl
theorem State.takeFree_ticked (s : State) : s.takeFree.2.ticked = s.ticked := rfl
theorem State.updLane_ticked (s : State) (n : Nat) (f : Lane → Lane) : (s.updLane n f).ticked = s.ticked := rfl
theorem State.updBuf_ticked (s : State) (src b : Nat) (f : Buf → Buf) : (s.updBuf src b f).ticked = s.ticked := rfl
theorem State.updLayer_ticked (s : State) (n : Nat) (f : Layer → Layer) : (s.updLayer n f).ticked = s.ticked := rfl
theorem State.updChan_ticked (s : State) (c : Nat) (f : Chan → Chan) : (s.updChan c f).ticked = s.ticked := rfl
theorem State.macPush_ticked (s : State) (p : Nat) (k : TxKind) : (s.macPush p k).ticked = s.ticked := rfl

/-- What an operation spares of the table and leaves of the clock part, it keeps of all this. -/
theorem State.ticked_of_spared {s t : State} (ids evs : List Nat) (hc : t.clockPart = s.clockPart)
    (hp : ∀ id idx, spared ids evs id idx = true → t.par id idx = s.par id idx)
    (hs : spared ids evs P.APPLIED_TXN 0 = true ∧ spared ids evs P.APPLIED_TICK 0 = true ∧
      spared ids evs P.EVENT_COUNT E.TICK_RATE_CHANGED = true) : t.ticked = s.ticked :=
  State.ticked_eq hc (hp _ _ hs.1) (hp _ _ hs.2.1) (hp _ _ hs.2.2)

/-! The sluice and the manager function -/

theorem State.clockPart_of_sansGo {s t : State} (h : t.sansGo = s.sansGo) : t.clockPart = s.clockPart :=
  (congrArg State.clockPart h : t.sansGo.clockPart = s.sansGo.clockPart)

theorem State.syncEval_ticked (s : State) : s.syncEval.ticked = s.ticked :=
  State.ticked_of_spared [P.READY_TIME] syncEvents (State.clockPart_of_sansGo s.syncEval_sansGo)
    (fun _ _ h => State.par_syncEval_spared h s (by decide) (by simp)) (by decide)

theorem State.becomeManager_ticked (s : State) : s.becomeManager.ticked = s.ticked :=
  State.ticked_of_spared managerPars managerEvents (State.clockPart_of_sansGo s.becomeManager_sansGo)
    (fun _ _ h => State.par_becomeManager_spared h s (by simp) (by simp)) (by decide)

theorem State.sluiceGo_ticked (s : State) (new : Nat) : (s.sluiceGo new).ticked = s.ticked :=
  State.ticked_of_spared sluicePars sluiceEvents (State.clockPart_of_sansGo (s.sluiceGo_sansGo new))
    (fun _ _ h => State.par_sluiceGo_spared h s new (by simp) (by simp)) (by decide)

theorem State.claimMarked_ticked (s : State) (c : Nat) (b : Bool) : (s.claimMarked c b).ticked = s.ticked := rfl
theorem State.claimOpened_ticked (s : State) (b : Bool) : (s.claimOpened b).ticked = s.ticked := rfl

theorem State.claim_ticked (s : State) (c : Nat) (b : Bool) : (s.claim c b).ticked = s.ticked := by
  rw [State.claim_eq, State.claimOpened_ticked, State.sluiceGo_ticked, State.claimMarked_ticked]

theorem State.standbyEval_ticked (s : State) : s.standbyEval.ticked = s.ticked := by
  rcases s.standbyEval_cases with h | ⟨c, h⟩ <;> rw [h]
  exact s.claim_ticked c false

theorem State.goStandby_ticked (s : State) : s.goStandby.ticked = s.ticked := by
  rw [State.goStandby, State.standbyEval_ticked, State.sluiceGo_ticked]

theorem State.block_ticked (s : State) : s.block.ticked = s.ticked := by
  rw [State.block, State.sluiceGo_ticked, State.raiseIf_ticked _ _ _ _ (by decide) (by decide)]

theorem State.blockCheck_ticked (s : State) : s.blockCheck.ticked = s.ticked := by
  unfold State.blockCheck
  split
  · exact s.block_ticked
  · rfl

theorem State.managerEval_ticked (s : State) : s.managerEval.ticked = s.ticked := by
  unfold State.managerEval
  split
  · rfl
  · split
    · exact s.becomeManager_ticked
    · rfl

/-! Packets on the chain and to the partner -/

theorem State.sendLink_ticked (s : State) (p type : Nat) (seq : Option Nat) (body : List Nat) :
    (s.sendLink p type seq body).ticked = s.ticked := rfl

theorem State.headSend_ticked (s : State) (c dest size : Nat) (o : Out) : (s.headSend c dest size o).ticked = s.ticked := by
  unfold State.headSend
  dsimp only
  split <;> rfl

theorem State.sendPartner_ticked (s : State) (len : Nat) (o : Out) : (s.sendPartner len o).ticked = s.ticked := by
  unfold State.sendPartner
  dsimp only
  split
  · rfl
  · split
    · exact s.headSend_ticked _ _ _ _
    · rfl

theorem State.speedPass_ticked (s : State) : s.speedPass.ticked = s.ticked := by
  unfold State.speedPass
  split
  · rw [State.send_ticked, State.raise_ticked _ _ _ _ (by decide) (by decide),
      State.setPar_ticked_ne _ _ (by decide) (by decide)]
  · rfl

end Sys2Proof.Machine
end

section
/-! What the work of a tick keeps (R211, R212): the counters and monitors, the chain's packets, redundancy, composition and scan-out. -/

namespace Sys2Proof.Machine

/-! Counters and monitors (R499 to R506) -/

theorem State.setMonitor_ticked (s : State) (m : Nat) (v : Monitor) : (s.setMonitor m v).ticked = s.ticked := rfl

theorem State.monPublish_ticked (s : State) (m n : Nat) (cut : Bool) : (s.monPublish m n cut).ticked = s.ticked := by
  unfold State.monPublish
  exact (State.setMonitor_ticked _ _ _).trans (s.setBlob_ticked _ _ _ _)

theorem State.monTake_ticked (s : State) (m : Nat) : (s.monTake m).ticked = s.ticked := by
  have hfree (lane : Bool) : (if lane = true then s.takeFree else (0, s)).2.ticked = s.ticked := by cases lane <;> rfl
  unfold State.monTake
  exact (State.setMonitor_ticked _ _ _).trans (hfree _)

theorem State.monCut_ticked (s : State) (n : Nat) : (s.monCut n).ticked = s.ticked := by
  unfold State.monCut
  refine (State.each_keeps State.ticked _ _ _ fun t m => t.setMonitor_ticked _ _).trans ?_
  exact State.each_keeps State.ticked _ _ _ fun t m => (State.monPublish_ticked _ _ _ _).trans (t.monTake_ticked m)

theorem State.monTick_ticked (s : State) (n : Nat) : (s.monTick n).ticked = s.ticked := by
  unfold State.monTick
  refine State.each_keeps State.ticked _ _ _ fun t m => ?_
  exact State.ticked_ite ((State.monPublish_ticked _ _ _ _).trans (t.monTake_ticked m)) (t.monTake_ticked m)

theorem State.dumpLost_ticked (s : State) : s.dumpLost.ticked = s.ticked := by
  rw [State.dumpLost, State.raiseLimited_ticked _ _ _ _ (by decide) (by decide), State.bump_ticked _ _ _ (by decide)]

theorem State.dumpDrop_ticked (s : State) : s.dumpDrop.ticked = s.ticked := by
  unfold State.dumpDrop
  exact (State.dumpLost_ticked _).trans rfl

theorem State.dumpLatch_ticked (s : State) (n : Nat) : (s.dumpLatch n).ticked = s.ticked := by
  unfold State.dumpLatch
  dsimp only
  split
  · rfl
  · split
    · exact s.dumpDrop_ticked
    · split
      · exact s.dumpDrop_ticked
      · split
        · exact (State.dumpLost_ticked _).trans (s.setPar_ticked _ _ (by decide))
        · rfl

theorem State.perfTick_ticked (s : State) (n : Nat) (changed : Bool) : (s.perfTick n changed).ticked = s.ticked := by
  unfold State.perfTick
  dsimp only
  have hservo : (if (s.count 129).time.servo = 3 then (s.count 129).count 132 else s.count 129).ticked = s.ticked := by
    split
    · rw [State.count_ticked, State.count_ticked]
    · exact s.count_ticked 129 1
  rw [State.dumpLatch_ticked]
  split
  · rw [State.monCut_ticked, hservo]
  · rw [State.monTick_ticked, hservo]

/-! Redundancy at a tick -/

theorem State.freeLeaving_ticked (s : State) : s.freeLeaving.ticked = s.ticked := by
  unfold State.freeLeaving
  refine (State.each_keeps State.ticked _ _ _ fun t k => ?_).trans rfl
  split <;> rfl

theorem State.evidenceTick_ticked (s : State) : s.evidenceTick.ticked = s.ticked := rfl

theorem State.logTakeover_ticked (s : State) (cause : Nat) : (s.logTakeover cause).ticked = s.ticked := by
  unfold State.logTakeover
  exact (State.setBlob_ticked _ _ _ _ _).trans rfl

theorem State.namedTick_ticked (s : State) (tie : Bool) : (s.namedTick tie).ticked = s.ticked := by
  have hnamed : s.tickNamed.ticked = s.ticked := rfl
  have hdone : (s.tickNamed.raise E.SWITCHOVER_DONE).goStandby.ticked = s.ticked := by
    rw [State.goStandby_ticked, State.raise_ticked _ _ _ _ (by decide) (by decide), hnamed]
  have hclaim : (s.tickNamed.raise E.SWITCHOVER_REFUSED).goStandby.ticked = s.ticked := by
    rw [State.goStandby_ticked, State.raise_ticked _ _ _ _ (by decide) (by decide), hnamed]
  have hrefused : (((s.tickNamed.raise E.SWITCHOVER_REFUSED).sluiceGo s.tickNamed.actState).logTakeover 3).ticked = s.ticked := by
    rw [State.logTakeover_ticked, State.sluiceGo_ticked, State.raise_ticked _ _ _ _ (by decide) (by decide), hnamed]
  unfold State.namedTick
  split
  · rfl
  · refine State.ticked_ite ?_ (State.ticked_ite hclaim (State.ticked_ite ?_ rfl))
    · split
      · exact State.ticked_ite hdone hrefused
      · exact hrefused
    · rw [State.blockCheck_ticked, State.becomeManager_ticked, State.raise_ticked _ _ _ _ (by decide) (by decide)]
      rfl

/-! Held packets and markers (R156, R214) -/

theorem State.sendLatency_ticked (s : State) (p : Nat) : (s.sendLatency p).ticked = s.ticked := by
  unfold State.sendLatency
  split
  · rfl
  · dsimp only
    split <;> rfl

theorem State.sendHeld_ticked (s : State) (k : HeldPkt) : (s.sendHeld k).ticked = s.ticked := by
  unfold State.sendHeld
  dsimp only
  split
  · rfl
  · split
    · rfl
    · rfl
    · exact s.sendLatency_ticked _
    · rfl
    · split <;> rfl

theorem State.guardEnd_ticked (s : State) : s.guardEnd.ticked = s.ticked := by
  unfold State.guardEnd
  exact (State.each_keeps State.ticked _ _ _ State.sendHeld_ticked).trans rfl

theorem State.sendMarkers_ticked (s : State) (n : Nat) : (s.sendMarkers n).ticked = s.ticked := by
  unfold State.sendMarkers
  refine State.each_keeps State.ticked _ _ _ fun t l => ?_
  exact (State.send_ticked _ _).trans ((State.count_ticked _ _ _).trans t.takeFree_ticked)

theorem State.managerTick_ticked (s : State) : s.managerTick.ticked = s.ticked := by
  rw [State.managerTick, State.raiseIf_ticked _ _ _ _ (by decide) (by decide), State.managerEval_ticked]

/-! Time distribution by PTP (R200 to R204) -/

theorem State.portGo_ticked (s : State) (st : Nat) : (s.portGo st).ticked = s.ticked := by
  unfold State.portGo
  split
  · rfl
  · rw [State.raise_ticked _ _ _ _ (by decide) (by decide), State.setPar_ticked_ne _ _ (by decide) (by decide)]

theorem State.gmGo_ticked (s : State) (id : Nat) : (s.gmGo id).ticked = s.ticked := by
  unfold State.gmGo
  split
  · rfl
  · rw [State.raise_ticked _ _ _ _ (by decide) (by decide), State.setPar_ticked_ne _ _ (by decide) (by decide)]

theorem State.bmca_ticked (s : State) : s.bmca.ticked = s.ticked := by
  unfold State.bmca
  split
  · split
    · rfl
    · exact s.portGo_ticked _
  · split
    · rw [State.gmGo_ticked, State.portGo_ticked]
    · dsimp only
      rw [State.gmGo_ticked]
      split
      · rfl
      · exact s.portGo_ticked _

theorem State.ptpEligibility_ticked (s : State) (active : Bool) : (s.ptpEligibility active).ticked = s.ticked := by
  unfold State.ptpEligibility
  dsimp only
  split
  · rfl
  · exact (State.bmca_ticked _).trans rfl

theorem State.dutiesTick_ticked (s : State) : s.dutiesTick.ticked = s.ticked := by
  unfold State.dutiesTick
  exact (State.ptpEligibility_ticked _ _).trans rfl

theorem State.pathTick_ticked (s : State) (n : Nat) : (s.pathTick n).ticked = s.ticked := by
  unfold State.pathTick
  dsimp only
  split
  · rfl
  · split
    · exact (State.raiseLimited_ticked _ _ _ _ (by decide) (by decide)).trans rfl
    · split
      · exact (State.sendPartner_ticked _ _ _).trans rfl
      · exact (State.sendPartner_ticked _ _ _).trans ((State.sendPartner_ticked _ _ _).trans rfl)

/-! Composition, scan-out and the span (R171, R187, R188) -/

theorem State.composeMiss_ticked (s : State) (k : Nat) : (s.composeMiss k).ticked = s.ticked := by
  unfold State.composeMiss
  split
  · rfl
  · exact s.bump_ticked 0 32 (by decide)

theorem State.spanCheck_ticked (s : State) : s.spanCheck.ticked = s.ticked := by
  unfold State.spanCheck
  dsimp only
  split
  · exact s.raiseLimited_ticked _ _ _ (by decide) (by decide)
  · rfl

theorem State.kneeStep_ticked (s : State) (k : Nat) : (s.kneeStep k).ticked = s.ticked := by
  unfold State.kneeStep
  dsimp only
  refine (State.each_keeps State.ticked _ _ _ fun t n => ?_).trans ?_
  · split
    · rfl
    · exact t.setPar_ticked _ _ (by decide)
  · split
    · rfl
    · refine State.each_keeps State.ticked _ _ _ fun t n => ?_
      split <;> rfl

theorem State.putCanvas_ticked (s : State) (k : Nat) (c : Canvas) : (s.putCanvas k c).ticked = s.ticked := rfl

theorem State.composeStart_ticked (s : State) (k : Nat) : (s.composeStart k).ticked = s.ticked := by
  unfold State.composeStart
  exact (State.putCanvas_ticked _ _ _).trans (s.kneeStep_ticked k)

/-- A polder built for the tick is taken (R257). -/
def State.polderTaken (s : State) : State :=
  { s with comp := { s.comp with
      built := none, polder := s.runLength != 0, building := if s.comp.due.isEmpty then 0 else 2 } }

/-- A polder that comes late is told (R257). -/
def State.polderLate (s : State) : State := ({ s with comp := { s.comp with polderLate := true } } : State).raise E.POLDER_LATE

theorem State.polderLate_ticked (s : State) : s.polderLate.ticked = s.ticked :=
  (State.raise_ticked _ _ _ _ (by decide) (by decide)).trans rfl

theorem State.ticked_comp (s : State) (c : PartComp) : State.ticked { s with comp := c } = s.ticked := rfl

theorem State.polderTaken_ticked (s : State) : s.polderTaken.ticked = s.ticked := s.ticked_comp _

theorem State.polderTick_cases (s : State) (k : Nat) (tie : Bool) : ∃ mine late : Bool, s.polderTick k tie =
    if late = true then (if mine = true then s.polderTaken else s).polderLate else if mine = true then s.polderTaken else s := by
  unfold State.polderTick State.polderTaken State.polderLate
  exact ⟨_, _, rfl⟩

theorem State.polderTick_ticked (s : State) (k : Nat) (tie : Bool) : (s.polderTick k tie).ticked = s.ticked := by
  obtain ⟨mine, late, h⟩ := s.polderTick_cases k tie
  have htaken : (if mine = true then s.polderTaken else s).ticked = s.ticked := State.ticked_ite s.polderTaken_ticked rfl
  rw [h]
  exact State.ticked_ite ((State.polderLate_ticked _).trans htaken) htaken

theorem State.dikeTick_ticked (s : State) : s.dikeTick.ticked = s.ticked := by
  unfold State.dikeTick
  exact (State.raiseIf_ticked _ _ _ _ (by decide) (by decide)).trans rfl

theorem State.shedTick_ticked (s : State) : s.shedTick.ticked = s.ticked := by
  unfold State.shedTick
  split
  · dsimp only
    split
    · split
      · exact (State.raise_ticked _ _ _ _ (by decide) (by decide)).trans rfl
      · rfl
    · rfl
  · split
    · rfl
    · exact (State.raise_ticked _ _ _ _ (by decide) (by decide)).trans rfl

theorem State.fixStart_ticked (s : State) (k : Nat) : (s.fixStart k).ticked = s.ticked := by
  unfold State.fixStart
  exact State.ticked_ite rfl (State.ticked_ite rfl (State.ticked_ite rfl rfl))

theorem State.proxyGrants_ticked (s : State) : s.proxyGrants.ticked = s.ticked := by
  unfold State.proxyGrants
  refine State.each_keeps State.ticked _ _ _ fun t p => ?_
  refine (State.send_ticked _ _).trans (State.each_keeps State.ticked _ _ _ fun u d => ?_)
  dsimp only
  split <;> rfl

theorem State.proxyTick_ticked (s : State) : s.proxyTick.ticked = s.ticked := by
  unfold State.proxyTick
  split
  · rfl
  · refine (State.proxyGrants_ticked _).trans (State.each_keeps State.ticked _ _ _ fun t p => ?_)
    exact State.ticked_ite ((State.raise_ticked _ _ _ _ (by decide) (by decide)).trans rfl) rfl

theorem State.markerTick_ticked (s : State) : s.markerTick.ticked = s.ticked := rfl

theorem State.tileTick_ticked (s : State) : s.tileTick.ticked = s.ticked := by
  have hguard : s.proxyTick.markerTick.guardEnd.ticked = s.ticked := by
    rw [State.guardEnd_ticked, State.markerTick_ticked, State.proxyTick_ticked]
  unfold State.tileTick
  dsimp only
  split
  · exact hguard
  · exact hguard

theorem State.scanStart_ticked (s : State) (k : Nat) (tie : Bool) : (s.scanStart k tie).ticked = s.ticked := by
  unfold State.scanStart
  refine State.ticked_ite rfl ?_
  split
  · rfl
  · refine State.ticked_ite rfl ((State.each_keeps State.ticked _ _ _ fun t c => ?_).trans
      (State.ticked_ite (s.composeMiss_ticked k) rfl))
    refine State.ticked_ite rfl ?_
    dsimp only
    split <;> rfl

/-- The partner's record of a span tick is merged, or its absence counted and told (R171). -/
def State.spanMerged (s : State) (k : Nat) (rec_ : Option SpanRec) : State :=
  match rec_ with
  | some r => { s with comp := { s.comp with hists := s.comp.hists.filterMap (mergeHist k r) } }
  | none => (s.composeMiss (k + 2)).raise E.SPAN_STATS_LATE

theorem State.spanMerged_ticked (s : State) (k : Nat) (rec_ : Option SpanRec) : (s.spanMerged k rec_).ticked = s.ticked := by
  unfold State.spanMerged
  split
  · rfl
  · exact (State.raise_ticked _ _ _ _ (by decide) (by decide)).trans (s.composeMiss_ticked _)

/-- A tick at which the two heads agree, and one at which they do not (R188). -/
def State.spanGoodTick (s : State) : State :=
  let n := s.scan.goodTicks + 1
  let s := { s with scan := { s.scan with goodTicks := n } }
  if s.par P.SPAN_STATE ≠ 2 ∧ s.par P.SPAN_LOCK_TICKS ≤ n then
    (({ s with scan := { s.scan with everLocked := true } }).setPar P.SPAN_STATE 0 2).raise E.SPAN_LOCKED
  else if s.par P.SPAN_STATE = 0 then s.setPar P.SPAN_STATE 0 1 else s
def State.spanBadTick (s : State) : State :=
  let was := s.par P.SPAN_STATE
  let s := ({ s with scan := { s.scan with goodTicks := 0 } }).setPar P.SPAN_STATE 0 1
  s.raiseIf (was == 2) E.SPAN_LOCK_LOST

theorem State.spanGoodTick_ticked (s : State) : s.spanGoodTick.ticked = s.ticked := by
  unfold State.spanGoodTick
  refine State.ticked_ite ?_ (State.ticked_ite ?_ rfl)
  · exact (State.raise_ticked _ _ _ _ (by decide) (by decide)).trans ((State.setPar_ticked _ _ _ (by decide)).trans rfl)
  · exact (State.setPar_ticked _ _ _ (by decide)).trans rfl

theorem State.spanBadTick_ticked (s : State) : s.spanBadTick.ticked = s.ticked := by
  unfold State.spanBadTick
  exact (State.raiseIf_ticked _ _ _ _ (by decide) (by decide)).trans ((State.setPar_ticked _ _ _ (by decide)).trans rfl)

theorem State.spanTick_cases (s : State) (k : Nat) (tie : Bool) : ∃ good : Bool, s.spanTick k tie =
    if s.par P.SPAN_ROLE = 0 then (if s.par P.SPAN_STATE = 0 then s else s.setPar P.SPAN_STATE 0 0)
    else if s.scan.skip == k + 1 then s.spanCheck
    else if good = true then (s.spanCheck.spanMerged k (s.spanCheck.spanPartner k tie)).spanGoodTick
    else (s.spanCheck.spanMerged k (s.spanCheck.spanPartner k tie)).spanBadTick := by
  unfold State.spanTick State.spanMerged State.spanGoodTick State.spanBadTick
  exact ⟨_, rfl⟩

theorem State.spanTick_ticked (s : State) (k : Nat) (tie : Bool) : (s.spanTick k tie).ticked = s.ticked := by
  obtain ⟨good, h⟩ := s.spanTick_cases k tie
  have hmerged : (s.spanCheck.spanMerged k (s.spanCheck.spanPartner k tie)).ticked = s.ticked := by
    rw [State.spanMerged_ticked, State.spanCheck_ticked]
  rw [h]
  refine State.ticked_ite (State.ticked_ite rfl (s.setPar_ticked _ _ (by decide)))
    (State.ticked_ite s.spanCheck_ticked (State.ticked_ite ?_ ?_))
  · rw [State.spanGoodTick_ticked, hmerged]
  · rw [State.spanBadTick_ticked, hmerged]

/-- A head's tick up to the start of composition: redundancy, the chain, the span and the scan-out (R211). -/
def State.headTickBegun (s : State) (n : Nat) (tie : Bool) : State :=
  (((((((((((s.namedTick tie).evidenceTick).freeLeaving).dutiesTick).managerTick).sendMarkers n).guardEnd).pathTick n)).spanTick
    (n - 1) tie).scanStart (n - 1) tie)

theorem State.headTick_eq (s : State) (n : Nat) (tie : Bool) : s.headTick n tie =
    (((if (s.headTickBegun n tie).rdy B.COMPOSE then
      (((((s.headTickBegun n tie).shedTick).dikeTick).polderTick n tie).composeStart n) else s.headTickBegun n tie).fixStart
      (n - 1)).speedPass) := by
  unfold State.headTick State.headTickBegun
  rfl

theorem State.headTickBegun_ticked (s : State) (n : Nat) (tie : Bool) : (s.headTickBegun n tie).ticked = s.ticked := by
  rw [State.headTickBegun, State.scanStart_ticked, State.spanTick_ticked, State.pathTick_ticked, State.guardEnd_ticked,
    State.sendMarkers_ticked, State.managerTick_ticked, State.dutiesTick_ticked, State.freeLeaving_ticked,
    State.evidenceTick_ticked, State.namedTick_ticked]

/-- The work of a head's tick (R211). -/
theorem State.headTick_ticked (s : State) (n : Nat) (tie : Bool) : (s.headTick n tie).ticked = s.ticked := by
  rw [State.headTick_eq, State.speedPass_ticked, State.fixStart_ticked]
  refine State.ticked_ite ?_ (s.headTickBegun_ticked n tie)
  rw [State.composeStart_ticked, State.polderTick_ticked, State.dikeTick_ticked, State.shedTick_ticked,
    State.headTickBegun_ticked]

/-! The strobe (R211, R212) -/

/-- A tick's number stands as the one strobed and the one in force. -/
def State.tickStruck (s : State) (n : Nat) : State := { s with time := { s.time with tick := n, strobed := n } }

/-- A head whose rate changes at the tick tells it (R212). -/
def State.rateChangeTold (s : State) (changed : Bool) : State :=
  if changed then { s.raise E.TICK_RATE_CHANGED with perf := { s.perf with rateChanged := true } } else s

/-- The work of a tick by the device's kind. -/
def State.roleTick (s : State) (n : Nat) (tie : Bool) : State := if s.isHead then s.headTick n tie else s.tileTick

/-- A tick that was named for a rate's change is past. -/
def State.skipPassed (s : State) (changed : Bool) : State :=
  if changed then { s with scan := { s.scan with skip := 0 } } else s

theorem execTickStrobe_eq (n : Nat) (tie : Bool) (s : State) (hr : s.isReleased .time = true) (ht : s.start.tripped = false)
    (hn : s.time.strobed < n) : execTickStrobe n tie s = .next ((((((s.tickStruck n).rateChangeTold
      (s.isHead && s.scan.skip == n)).perfTick n (s.isHead && s.scan.skip == n)).rateMissed n).roleTick n tie).skipPassed
      (s.isHead && s.scan.skip == n)) := by
  unfold execTickStrobe
  rw [if_neg (by simp [hr, ht]; omega)]
  unfold State.tickStruck State.rateChangeTold State.roleTick State.skipPassed
  rfl

theorem State.roleTick_ticked (s : State) (n : Nat) (tie : Bool) : (s.roleTick n tie).ticked = s.ticked :=
  State.ticked_ite (s.headTick_ticked n tie) s.tileTick_ticked

theorem State.skipPassed_ticked (s : State) (changed : Bool) : (s.skipPassed changed).ticked = s.ticked :=
  State.ticked_ite rfl rfl

/-- A rate's change that comes too late waits for a later tick; the tick's numbers and its count stand (R213). -/
theorem State.rateMissed_keeps (s : State) (n : Nat) : (s.rateMissed n).time = s.time ∧
    (s.rateMissed n).par P.EVENT_COUNT E.TICK_RATE_CHANGED = s.par P.EVENT_COUNT E.TICK_RATE_CHANGED := by
  simp only [State.rateMissed]
  split
  · exact ⟨rfl, rfl⟩
  · exact ⟨rfl, State.par_setPar_other _ _ (by decide) (by decide) (by decide)⟩

theorem State.rateChangeTold_time (s : State) (changed : Bool) : (s.rateChangeTold changed).time = s.time := by
  unfold State.rateChangeTold
  split
  · exact s.raise_time _ _ _ _
  · rfl

/-- A tick's number is strobed once: it is the tick in force, and a head that changes its rate there tells it (R211, R212). -/
theorem execTickStrobe_strobes (n : Nat) (tie : Bool) (s : State) (hr : s.isReleased .time = true) (ht : s.start.tripped = false)
    (hn : s.time.strobed < n) : ∃ t, exec (.tickStrobe n tie) s = .next t ∧
      t.time.tick = n ∧ t.time.strobed = n ∧ (s.isHead = true → s.scan.skip = n → s.told t E.TICK_RATE_CHANGED) := by
  refine ⟨_, execTickStrobe_eq n tie s hr ht hn, ?_⟩
  generalize hc : (s.isHead && s.scan.skip == n) = changed
  generalize hu : (s.tickStruck n).rateChangeTold changed = u
  have hlast := (State.skipPassed_ticked _ changed).trans (((u.perfTick n changed).rateMissed n).roleTick_ticked n tie)
  obtain ⟨htime, hcount⟩ := (u.perfTick n changed).rateMissed_keeps n
  have hperf := u.perfTick_ticked n changed
  have hutime : u.time = (s.tickStruck n).time := by rw [← hu, State.rateChangeTold_time]
  refine ⟨?_, ?_, fun hh hs => ?_⟩
  · rw [State.tick_of_ticked hlast, htime, State.tick_of_ticked hperf, hutime]
    rfl
  · rw [State.strobed_of_ticked hlast, htime, State.strobed_of_ticked hperf, hutime]
    rfl
  · have htrue : changed = true := by rw [← hc, hh, hs]; simp
    have htold : s.told u E.TICK_RATE_CHANGED := by
      rw [← hu, htrue]
      exact State.told_of_before (State.told_raise (s.tickStruck n) _ _ _ _ (by decide)) rfl
    refine State.told_of_after htold ?_
    rw [State.rateChanges_of_ticked hlast, hcount, State.rateChanges_of_ticked hperf]

end Sys2Proof.Machine
end

section
/-! What a commit latch keeps beside the writes it applies (R100, R212, R213): lanes, redundancy, correction, drive and pumps, sources,
flips and loads. -/

namespace Sys2Proof.Machine

/-! Changes of one part -/

theorem State.ticked_lane (s : State) (x : PartLane) : State.ticked { s with lane := x } = s.ticked := rfl
theorem State.ticked_src (s : State) (x : PartSrc) : State.ticked { s with src := x } = s.ticked := rfl
theorem State.ticked_tile (s : State) (x : PartTile) : State.ticked { s with tile := x } = s.ticked := rfl
theorem State.ticked_pump (s : State) (x : PartPump) : State.ticked { s with pump := x } = s.ticked := rfl
theorem State.ticked_store (s : State) (x : PartSeal) : State.ticked { s with store := x } = s.ticked := rfl
theorem State.ticked_scan (s : State) (x : PartScan) : State.ticked { s with scan := x } = s.ticked := rfl
theorem State.ticked_eth (s : State) (x : PartEth) : State.ticked { s with eth := x } = s.ticked := rfl
theorem State.ticked_red (s : State) (x : PartRed) : State.ticked { s with red := x } = s.ticked := rfl

/-! Lanes, outputs and addresses (R114, R214, R409) -/

theorem State.scanEnd_ticked (s : State) (st : Nat) : (s.scanEnd st).ticked = s.ticked := by
  unfold State.scanEnd
  split
  · rfl
  · exact (State.raise_ticked _ _ _ _ (by decide) (by decide)).trans (s.setPar_ticked _ _ (by decide))

theorem State.scanCheck_ticked (s : State) : s.scanCheck.ticked = s.ticked := by
  unfold State.scanCheck
  split
  · rfl
  · exact State.ticked_ite rfl (s.scanEnd_ticked 3)

theorem State.laneEntered_ticked (s : State) (n : Nat) : (s.laneEntered n).ticked = s.ticked := rfl

theorem State.laneGo_ticked (s : State) (n st : Nat) : (s.laneGo n st).ticked = s.ticked := by
  rw [State.laneGo_eq, State.scanCheck_ticked, State.raiseIf_ticked _ _ _ _ (by decide) (by decide),
    State.raiseIf_ticked _ _ _ _ (by decide) (by decide), State.setPar_ticked _ _ _ (by decide),
    State.setPar_ticked _ _ _ (by decide), State.laneEntered_ticked]

theorem State.laneRestart_ticked (s : State) (n : Nat) : (s.laneRestart n).ticked = s.ticked :=
  (State.laneGo_ticked _ n L.SIGNAL).trans (s.updLane_ticked n _)

theorem State.laneOff_ticked (s : State) (n : Nat) : (s.laneOff n).ticked = s.ticked := by
  unfold State.laneOff
  exact (State.ticked_lane _ _).trans (s.laneGo_ticked n L.OFF)

theorem State.syncLoss_ticked (s : State) (n : Nat) : (s.syncLoss n).ticked = s.ticked := by
  have hlost : ((s.bump P.SYNC_LOSS n).raise E.SYNC_LOST n).ticked = s.ticked := by
    rw [State.raise_ticked _ _ _ _ (by decide) (by decide), State.bump_ticked _ _ _ (by decide)]
  unfold State.syncLoss
  refine State.ticked_ite ?_ ?_
  · rw [State.laneRestart_ticked, State.raise_ticked _ _ _ _ (by decide) (by decide), hlost]
  · rw [State.laneGo_ticked, State.updLane_ticked, hlost]

theorem State.updTpo_ticked (s : State) (n : Nat) (f : Tpo → Tpo) : (s.updTpo n f).ticked = s.ticked := rfl

theorem State.tpoApply_ticked (s : State) (n : Nat) : (s.tpoApply n).ticked = s.ticked := by
  unfold State.tpoApply
  refine State.ticked_ite (s.updTpo_ticked n _) (State.ticked_ite ?_ (s.updTpo_ticked n _))
  rw [State.raise_ticked _ _ _ _ (by decide) (by decide), State.updTpo_ticked]

theorem State.ipAcquire_ticked (s : State) : s.ipAcquire.ticked = s.ticked := by
  unfold State.ipAcquire
  split
  · exact State.ticked_ite rfl ((State.macPush_ticked _ _ _).trans (s.ticked_eth _))
  · exact s.macPush_ticked _ _
  · exact (State.macPush_ticked _ _ _).trans ((State.ticked_eth _ _).trans s.takeFree_ticked)

theorem State.ipRestart_ticked (s : State) : s.ipRestart.ticked = s.ticked := by
  unfold State.ipRestart
  exact State.ticked_ite ((State.ipAcquire_ticked _).trans (s.ticked_eth _)) (s.ticked_eth _)

theorem State.monSelect_ticked (s : State) (m : Nat) : (s.monSelect m).ticked = s.ticked := s.setMonitor_ticked _ _

theorem State.dumpRestart_ticked (s : State) : s.dumpRestart.ticked = s.ticked :=
  (State.setPar_ticked (s.setPar P.DUMP_WRITE 0 0) (id := P.DUMP_READ) 0 0 (by decide)).trans (s.setPar_ticked _ _ (by decide))

/-! Leases and redundancy (R94, R178, R190) -/

/-- The lease's holder goes, with its open transaction. -/
def State.leaseDropped (s : State) : State :=
  { s with od := { s.od with holder := none, txn := none }, red := { s.red with otherManager := none } }

theorem State.leaseDropped_ticked (s : State) : s.leaseDropped.ticked = s.ticked := rfl

theorem State.leaseFree_ticked (s : State) : s.leaseFree.ticked = s.ticked := by
  have hdrop : (s.leaseDropped.raise E.LEASE_CHANGED).ticked = s.ticked := by
    rw [State.raise_ticked _ _ _ _ (by decide) (by decide), State.leaseDropped_ticked]
  unfold State.leaseFree
  exact State.ticked_ite rfl (State.ticked_ite ((State.managerEval_ticked _).trans hdrop) hdrop)

theorem State.transportChanged_ticked (s before : State) : (s.transportChanged before).ticked = s.ticked := by
  unfold State.transportChanged
  split
  · exact State.ticked_ite s.leaseFree_ticked rfl
  · exact State.ticked_ite s.leaseFree_ticked rfl
  · rfl

theorem State.redModeChanged_ticked (s : State) : s.redModeChanged.ticked = s.ticked := by
  unfold State.redModeChanged
  exact State.ticked_ite (State.ticked_ite (s.sluiceGo_ticked _) rfl) (State.ticked_ite (s.sluiceGo_ticked _) rfl)

theorem State.sluiceEval_ticked (s : State) : s.sluiceEval.ticked = s.ticked := by
  have hsingle : (s.sluiceGo SL.SINGLE).blockCheck.ticked = s.ticked := by
    rw [State.blockCheck_ticked, State.sluiceGo_ticked]
  unfold State.sluiceEval
  refine State.ticked_ite rfl (State.ticked_ite s.block_ticked (State.ticked_ite ?_ (State.ticked_ite ?_
    (State.ticked_ite s.standbyEval_ticked (State.ticked_ite ?_ (State.ticked_ite ?_ rfl))))))
  · exact State.ticked_ite rfl (State.ticked_ite s.goStandby_ticked hsingle)
  · exact State.ticked_ite s.goStandby_ticked rfl
  · exact State.ticked_ite (State.ticked_ite rfl (s.ticked_red _))
      (State.ticked_ite s.goStandby_ticked (State.ticked_ite rfl (s.ticked_red _)))
  · exact State.ticked_ite (s.ticked_red _) rfl

theorem State.switchoverLatch_ticked (s : State) (j : Nat) : (s.switchoverLatch j).ticked = s.ticked := by
  unfold State.switchoverLatch
  refine State.ticked_ite ?_ (State.ticked_ite ?_ (s.raise_ticked _ _ _ (by decide) (by decide)))
  · rw [State.sluiceEval_ticked, State.sluiceGo_ticked, State.ticked_red]
  · rw [State.claim_ticked, State.ticked_red]

/-! Correction, drive and pumps on a tile (R286, R312, R388) -/

theorem State.fillExpansion_ticked (s : State) : s.fillExpansion.ticked = s.ticked := s.setBlob_ticked _ _ _ _

theorem State.driveDerive_ticked (s : State) : s.driveDerive.ticked = s.ticked := by
  unfold State.driveDerive
  refine (State.setPar_ticked _ _ _ (by decide)).trans (State.each_keeps State.ticked _ _ _ fun t q => ?_)
  dsimp only
  rw [State.setPar_ticked _ _ _ (by decide), State.setPar_ticked _ _ _ (by decide), State.setPar_ticked _ _ _ (by decide),
    State.setPar_ticked _ _ _ (by decide)]

theorem State.updLoop_ticked (s : State) (l : Nat) (f : Loop → Loop) : (s.updLoop l f).ticked = s.ticked := rfl

/-- Outputs that no loop drives are idle. -/
theorem State.idleOutputs_ticked (s : State) : s.idleOutputs.ticked = s.ticked := by
  unfold State.idleOutputs
  refine State.ticked_ite (s.ticked_pump _) (State.ticked_ite ?_ ?_)
  · exact (State.raise_ticked _ _ _ _ (by decide) (by decide)).trans ((State.ticked_pump _ _).trans
      ((State.setPar_ticked _ _ _ (by decide)).trans (s.ticked_pump _)))
  · exact (State.setPar_ticked _ _ _ (by decide)).trans (s.ticked_pump _)

theorem State.pumpLatch_ticked (s before : State) (written : List (Nat × Nat)) : (s.pumpLatch before written).ticked = s.ticked := by
  unfold State.pumpLatch
  refine State.ticked_ite rfl ((State.idleOutputs_ticked _).trans ?_)
  refine (State.each_keeps State.ticked _ _ _ fun t l => ?_).trans (s.ticked_pump _)
  exact t.updLoop_ticked _ _

theorem State.copyDue_ticked (s : State) : s.copyDue.ticked = s.ticked := by
  unfold State.copyDue
  split
  · rfl
  · exact s.ticked_store _

theorem State.corrLatch_ticked (s : State) (k : Nat) : (s.corrLatch k).ticked = s.ticked := by
  unfold State.corrLatch State.corrBind
  exact State.ticked_ite ((State.copyDue_ticked _).trans (s.ticked_tile _)) rfl

/-! Sources (R138, R221, R231) -/

theorem State.dpDamage_ticked (s : State) (n : Nat) : (s.dpDamage n).ticked = s.ticked := by
  unfold State.dpDamage
  exact State.ticked_ite rfl ((State.raise_ticked _ _ _ _ (by decide) (by decide)).trans (s.ticked_src _))

theorem State.updDp_ticked (s : State) (n : Nat) (f : DpRx → DpRx) : (s.updDp n f).ticked = s.ticked := rfl

theorem State.dpUntrain_ticked (s : State) (n st : Nat) : (s.dpUntrain n st).ticked = s.ticked := by
  unfold State.dpUntrain
  refine State.ticked_ite ?_ (s.updDp_ticked n _)
  rw [State.scanCheck_ticked, State.dpDamage_ticked, State.setPar_ticked _ _ _ (by decide), State.updDp_ticked]

theorem State.hpdDrop_ticked (s before : State) (n : Nat) : (s.hpdDrop before n).ticked = s.ticked :=
  State.ticked_ite (s.dpUntrain_ticked n 2) rfl

theorem State.hpdCycle_ticked (s : State) (n : Nat) : (s.hpdCycle n).ticked = s.ticked := by
  unfold State.hpdCycle
  refine State.ticked_ite ?_ rfl
  rw [State.dpUntrain_ticked, State.raise_ticked _ _ _ _ (by decide) (by decide), State.updDp_ticked]

theorem State.undefBuf_ticked (s : State) (src b : Nat) : (s.undefBuf src b).ticked = s.ticked := rfl

theorem State.sourceReset_ticked (s : State) (src : Nat) : (s.sourceReset src).ticked = s.ticked := by
  have hbufs : (s.each (List.range 4) fun s b => (s.updBuf src b fun _ => {}).undefBuf src b).ticked = s.ticked :=
    State.each_keeps State.ticked _ _ _ fun t b => (State.undefBuf_ticked _ _ _).trans (t.updBuf_ticked _ _ _)
  have hlayers (u : State) : (u.each (List.range 16) fun s n =>
      if (s.layerOf n).src = src then (s.updLayer n fun l => { l with buf := none }).setPar P.LAYER_SHOWN n 0 else s).ticked =
        u.ticked :=
    State.each_keeps State.ticked _ _ _ fun t n =>
      State.ticked_ite ((State.setPar_ticked _ _ _ (by decide)).trans (t.updLayer_ticked _ _)) rfl
  have hchans (u : State) (i : Nat) : (u.each (List.range 16) fun s c =>
      if s.par P.INGRESS_SURFACE c = i then s.updChan c fun _ => {} else s).ticked = u.ticked :=
    State.each_keeps State.ticked _ _ _ fun t c => State.ticked_ite (t.updChan_ticked _ _) rfl
  unfold State.sourceReset
  refine State.ticked_ite ?_ ?_
  · exact (State.ticked_src _ _).trans ((State.setPar_ticked _ _ _ (by decide)).trans ((hchans _ _).trans
      ((State.ticked_src _ _).trans ((hlayers _).trans hbufs))))
  · exact (State.ticked_src _ _).trans ((State.ticked_src _ _).trans ((hlayers _).trans hbufs))

theorem State.advanceFence_ticked (s : State) (i f : Nat) : (s.advanceFence i f).ticked = s.ticked := by
  unfold State.advanceFence
  refine State.ticked_ite rfl ?_
  rw [State.setPar_ticked _ _ _ (by decide), State.setPar_ticked _ _ _ (by decide), State.updBuf_ticked]
  refine State.each_keeps State.ticked _ _ _ fun t b => State.ticked_ite ?_ rfl
  rw [State.bump_ticked _ _ _ (by decide), State.updBuf_ticked]

theorem State.channelsMoved_ticked (s before : State) : (s.channelsMoved before).ticked = s.ticked := by
  unfold State.channelsMoved
  refine (State.each_keeps State.ticked _ _ _ fun t c => ?_).trans (State.each_keeps State.ticked _ _ _ fun t c => t.updChan_ticked _ _)
  dsimp only
  split
  · split
    · exact State.ticked_ite (t.advanceFence_ticked _ _) rfl
    · rfl
  · rfl

theorem State.sourceChanged_ticked (s : State) : s.sourceChanged.ticked = s.ticked := by
  unfold State.sourceChanged
  exact State.ticked_ite rfl rfl

theorem State.fixTerminate_ticked (s : State) (old : List Univ) : (s.fixTerminate old).ticked = s.ticked := by
  unfold State.fixTerminate
  refine State.ticked_ite rfl (State.each_keeps State.ticked _ _ _ fun t u => ?_)
  rw [State.macPush_ticked, State.macPush_ticked, State.macPush_ticked]

/-! Flips and their judgement (R249) -/

theorem State.judgeScale_ticked (s : State) (n : Nat) : (s.judgeScale n).ticked = s.ticked :=
  (State.updLayer_ticked _ _ _).trans (s.raiseIf_ticked _ _ _ (by decide) (by decide))

theorem State.polderLatch_ticked (s : State) : s.polderLatch.ticked = s.ticked := by
  unfold State.polderLatch
  split
  · exact State.ticked_ite (s.ticked_comp _) rfl
  · rfl

theorem State.judgeShown_ticked (s : State) : s.judgeShown.ticked = s.ticked :=
  (State.polderLatch_ticked _).trans (State.each_keeps State.ticked _ _ _ State.judgeScale_ticked)

theorem State.judgeLayer_ticked (s : State) (k n : Nat) : (s.judgeLayer k n).ticked = s.ticked := by
  unfold State.judgeLayer
  refine (State.setPar_ticked _ _ _ (by decide)).trans ((State.updLayer_ticked _ _ _).trans ?_)
  rw [State.raiseIf_ticked _ _ _ _ (by decide) (by decide), State.raiseIf_ticked _ _ _ _ (by decide) (by decide),
    State.raiseIf_ticked _ _ _ _ (by decide) (by decide)]

theorem State.settleFlips_ticked (s : State) (k : Nat) : (s.settleFlips k).ticked = s.ticked := by
  unfold State.settleFlips
  exact (State.each_keeps State.ticked _ _ _ fun t n => t.judgeLayer_ticked k n).trans
    (State.each_keeps State.ticked _ _ _ fun t g => t.bump_ticked _ _ (by decide))

theorem State.showBuf_ticked (s : State) (n : Nat) (b : Option Nat) : (s.showBuf n b).ticked = s.ticked := by
  unfold State.showBuf
  refine (State.setPar_ticked _ _ _ (by decide)).trans ((State.updLayer_ticked _ _ _).trans ?_)
  dsimp only
  split
  · exact State.ticked_ite rfl (s.ticked_src _)
  · rfl

theorem State.rebind_ticked (s : State) (k n : Nat) (tie : Bool) : (s.rebind k n tie).ticked = s.ticked := by
  unfold State.rebind
  refine State.ticked_ite rfl (State.ticked_ite ?_ ?_)
  · rw [State.updLayer_ticked, State.showBuf_ticked]
  · exact (State.raiseIf_ticked _ _ _ _ (by decide) (by decide)).trans
      ((State.updLayer_ticked _ _ _).trans (s.showBuf_ticked _ _))

theorem State.sendFlipSet_ticked (s : State) (k : Nat) : (s.sendFlipSet k).ticked = s.ticked := by
  unfold State.sendFlipSet
  have hpartner (c : Prop) [Decidable c] (len : Nat) (o : Out) : (if c then s.sendPartner len o else s).ticked = s.ticked :=
    State.ticked_ite (s.sendPartner_ticked _ _) rfl
  refine State.ticked_ite (hpartner _ _ _) ((State.send_ticked _ _).trans ?_)
  exact (State.each_keeps State.ticked _ _ _ fun t i => t.sendLink_ticked _ _ _ _).trans (hpartner _ _ _)

/-- The flips of a latch: settled ones end, layers bind again, ready buffers show (R249). -/
def State.flipsSettled (s : State) : State := if s.src.setDue = 0 then s else s.settleFlips (s.src.setDue - 1)
def State.flipsMarked (s : State) : State :=
  s.each (List.range 16) fun s n => s.updLayer n fun l => { l with flipped := false, before := l.buf.map fun b => bufKey l.src b }
def State.flipsMade (s : State) (fl : List (Nat × Nat)) (k : Nat) (tie : Bool) : State :=
  (s.each (List.range 16) fun s n => s.rebind k n tie).each fl fun s p =>
    (s.showBuf p.1 (some p.2)).updLayer p.1 fun l => { l with flipped := true }
def State.flipsSent (s : State) (k : Nat) : State := if s.redMode || s.par P.SPAN_ROLE != 0 then s.sendFlipSet k else s
def State.flipsLeft (s : State) (k : Nat) : State :=
  if s.flipsWait then { s with src := { s.src with setDue := k + 1, setFrom := s.now } }
  else ({ s with src := { s.src with setDue := 0 } } : State).settleFlips k

theorem State.flipLatch_eq (s : State) (k : Nat) (tie : Bool) : ∃ fl, s.flipLatch k tie =
    (((s.flipsSettled.flipsMarked).flipsMade fl k tie).flipsSent k).flipsLeft k := by
  unfold State.flipLatch State.flipsSettled State.flipsMarked State.flipsMade State.flipsSent State.flipsLeft
  exact ⟨_, rfl⟩

theorem State.flipLatch_ticked (s : State) (k : Nat) (tie : Bool) : (s.flipLatch k tie).ticked = s.ticked := by
  obtain ⟨fl, h⟩ := s.flipLatch_eq k tie
  have hsettled : s.flipsSettled.ticked = s.ticked := State.ticked_ite rfl (s.settleFlips_ticked _)
  have hmarked (u : State) : u.flipsMarked.ticked = u.ticked :=
    State.each_keeps State.ticked _ _ _ fun t n => t.updLayer_ticked _ _
  have hmade (u : State) : (u.flipsMade fl k tie).ticked = u.ticked :=
    (State.each_keeps State.ticked _ _ _ fun t p => (State.updLayer_ticked _ _ _).trans (t.showBuf_ticked _ _)).trans
      (State.each_keeps State.ticked _ _ _ fun t n => t.rebind_ticked k n tie)
  have hsent (u : State) : (u.flipsSent k).ticked = u.ticked := State.ticked_ite (u.sendFlipSet_ticked k) rfl
  have hleft (u : State) : (u.flipsLeft k).ticked = u.ticked :=
    State.ticked_ite (u.ticked_src _) ((State.settleFlips_ticked _ k).trans (u.ticked_src _))
  rw [h, hleft, hsent, hmade, hmarked, hsettled]

/-! Loads and bindings (R168, R187, R278) -/

theorem State.fixLoads_ticked (s : State) : s.fixLoads.ticked = s.ticked := by
  unfold State.fixLoads
  refine (State.each_keeps_mem State.ticked _ fun t p hp => ?_).trans ((State.each_keeps_mem State.ticked _ fun t p hp => ?_).trans
    (s.setPar_ticked_ne _ (by decide) (by decide)))
  · have hp16 : p < 65536 := lt_trans (List.mem_range.mp hp) (by decide)
    dsimp only
    split
    · exact t.setPar_ticked_ne _ hp16 (by decide)
    · exact State.ticked_ite (t.setPar_ticked_ne _ hp16 (by decide)) (t.setPar_ticked_ne _ hp16 (by decide))
  · exact t.setPar_ticked_ne _ (lt_trans (List.mem_range.mp hp) (by decide)) (by decide)

theorem State.chainLoads_ticked (s : State) : s.chainLoads.ticked = s.ticked := by
  unfold State.chainLoads
  exact State.each_keeps State.ticked _ _ _ fun t c =>
    State.ticked_ite (t.setPar_ticked _ _ (by decide)) (t.setPar_ticked _ _ (by decide))

theorem State.budgetLatch_ticked (s : State) : s.budgetLatch.ticked = s.ticked := by
  unfold State.budgetLatch
  exact (State.setBlob_ticked _ _ _ _ _).trans (s.setPar_ticked _ _ (by decide))

theorem State.bindLatch_ticked (s : State) (k : Nat) : (s.bindLatch k).ticked = s.ticked := by
  unfold State.bindLatch
  refine (State.ticked_scan _ _).trans ((State.each_keeps State.ticked _ _ _ fun t c => ?_).trans (s.setPar_ticked _ _ (by decide)))
  exact t.setPar_ticked _ _ (by decide)

theorem State.fixBind_ticked (s : State) (k : Nat) : (s.fixBind k).ticked = s.ticked :=
  (State.copyDue_ticked _).trans (s.ticked_tile _)

end Sys2Proof.Machine
end

section
/-! The commit latch (R100, R212, R213): the writes due are applied, and the rest of the latch keeps what they leave. -/

namespace Sys2Proof.Machine

/-! The latch's work after its writes -/

/-- Lanes that must start again, timed outputs that were written, and the told change of the display's delay. -/
def State.latchedLines (s before : State) (ws : List Write) : State :=
  ((s.each (List.range 32) fun s n =>
      if s.parDiff before P.LANE_USE n || s.parDiff before P.LANE_RATE n then s.laneOff n
      else if s.lanePolarity n / 2 != before.lanePolarity n / 2 && s.laneUp n then s.syncLoss n else s).each (List.range 8) fun s n =>
    if wroteAt ws [P.TPO_MODE, P.TPO_START, P.TPO_PERIOD, P.TPO_WIDTH, P.TPO_TICK_OFFSET] n then s.tpoApply n else s)

/-- The address, the monitors and the dump as written. -/
def State.latchedNet (s before : State) : State :=
  if s.parDiff before P.IP_MODE || s.parDiff before P.IPV4_ADDRESS then s.ipRestart else s
def State.latchedMonitors (s : State) (ws : List Write) : State :=
  s.each (List.range 32) fun s m => if wroteAt ws [P.BW_SELECT] m then s.monSelect m else s
def State.latchedDump (s : State) (ws : List Write) : State :=
  if wroteAny ws [P.DUMP_PERIOD, P.DUMP_COUNTERS, P.DUMP_MONITORS, P.DUMP_RING_SIZE, P.DUMP_MODE] then s.dumpRestart else s

/-- Redundancy as written (R175 to R190). -/
def State.latchedMode (s before : State) : State := if s.redMode != before.redMode then s.redModeChanged else s
def State.latchedForce (s before : State) : State := if s.parDiff before P.FORCE_STANDBY then s.sluiceEval else s
def State.latchedSwitch (s : State) (k : Nat) (ws : List Write) : State :=
  if wroteAny ws [P.SWITCHOVER] then s.switchoverLatch k else s

theorem State.latchBoth_eq (s before : State) (k : Nat) (ws : List Write) : s.latchBoth before k ws =
    ((((((((s.latchedLines before ws).raiseIf ((s.latchedLines before ws).parDiff before P.DISPLAY_DELAY)
      E.DISPLAY_DELAY_CHANGED).latchedNet before).latchedMonitors ws).latchedDump ws).transportChanged before).latchedMode
      before).latchedForce before).latchedSwitch k ws := by
  unfold State.latchBoth State.latchedLines State.latchedNet State.latchedMonitors State.latchedDump State.latchedMode
    State.latchedForce State.latchedSwitch
  rfl

theorem State.latchedLines_ticked (s before : State) (ws : List Write) : (s.latchedLines before ws).ticked = s.ticked := by
  unfold State.latchedLines
  refine (State.each_keeps State.ticked _ _ _ fun t n => State.ticked_ite (t.tpoApply_ticked n) rfl).trans ?_
  exact State.each_keeps State.ticked _ _ _ fun t n =>
    State.ticked_ite (t.laneOff_ticked n) (State.ticked_ite (t.syncLoss_ticked n) rfl)

theorem State.latchedNet_ticked (s before : State) : (s.latchedNet before).ticked = s.ticked :=
  State.ticked_ite s.ipRestart_ticked rfl
theorem State.latchedMonitors_ticked (s : State) (ws : List Write) : (s.latchedMonitors ws).ticked = s.ticked :=
  State.each_keeps State.ticked _ _ _ fun t m => State.ticked_ite (t.monSelect_ticked m) rfl
theorem State.latchedDump_ticked (s : State) (ws : List Write) : (s.latchedDump ws).ticked = s.ticked :=
  State.ticked_ite s.dumpRestart_ticked rfl
theorem State.latchedMode_ticked (s before : State) : (s.latchedMode before).ticked = s.ticked :=
  State.ticked_ite s.redModeChanged_ticked rfl
theorem State.latchedForce_ticked (s before : State) : (s.latchedForce before).ticked = s.ticked :=
  State.ticked_ite s.sluiceEval_ticked rfl
theorem State.latchedSwitch_ticked (s : State) (k : Nat) (ws : List Write) : (s.latchedSwitch k ws).ticked = s.ticked :=
  State.ticked_ite (s.switchoverLatch_ticked k) rfl

theorem State.latchBoth_ticked (s before : State) (k : Nat) (ws : List Write) : (s.latchBoth before k ws).ticked = s.ticked := by
  rw [State.latchBoth_eq, State.latchedSwitch_ticked, State.latchedForce_ticked, State.latchedMode_ticked,
    State.transportChanged_ticked, State.latchedDump_ticked, State.latchedMonitors_ticked, State.latchedNet_ticked,
    State.raiseIf_ticked _ _ _ _ (by decide) (by decide), State.latchedLines_ticked]

theorem State.updSeq_ticked (s : State) (q : Nat) (f : Seq → Seq) : (s.updSeq q f).ticked = s.ticked := rfl

theorem State.latchTile_ticked (s before : State) (ws : List Write) : (s.latchTile before ws).ticked = s.ticked := by
  have hexp (c : Prop) [Decidable c] : (if c then s.fillExpansion else s).ticked = s.ticked :=
    State.ticked_ite s.fillExpansion_ticked rfl
  have hdrive (c : Prop) [Decidable c] (u : State) (x : PartTile) :
      (if c then ({ u with tile := x } : State).driveDerive else u).ticked = u.ticked :=
    State.ticked_ite ((State.driveDerive_ticked _).trans (u.ticked_tile x)) rfl
  unfold State.latchTile
  refine (State.pumpLatch_ticked _ _ _).trans ((State.each_keeps State.ticked _ _ _ fun t q => ?_).trans
    ((hdrive _ _ _).trans (hexp _)))
  exact State.ticked_ite (t.updSeq_ticked _ _) rfl

theorem State.latchHead_ticked (s before : State) (nk : Nat) (ws : List Write) : (s.latchHead before nk ws).ticked = s.ticked := by
  have hhpd (u : State) : (u.each (List.range 4) fun s n =>
      let s := s.hpdDrop before n
      if s.parDiff before P.DP_MAX_RATE n || s.blob P.DP_EDID n 0 512 != before.blob P.DP_EDID n 0 512 then s.hpdCycle n
      else s).ticked = u.ticked :=
    State.each_keeps State.ticked _ _ _ fun t n =>
      State.ticked_ite ((State.hpdCycle_ticked _ n).trans (t.hpdDrop_ticked before n)) (t.hpdDrop_ticked before n)
  have hsources (u : State) : (u.each (List.range 16) fun s n =>
      let s := if s.parDiff before P.SURFACE_GEOMETRY n then s.sourceReset (srcKey 2 n) else s
      if s.parDiff before P.STILL_GEOMETRY n then s.sourceReset (srcKey 3 n) else s).ticked = u.ticked :=
    State.each_keeps State.ticked _ _ _ fun t n =>
      State.ticked_ite ((State.sourceReset_ticked _ _).trans (State.ticked_ite (t.sourceReset_ticked _) rfl))
        (State.ticked_ite (t.sourceReset_ticked _) rfl)
  have htime (c : Prop) [Decidable c] (u : State) : (if c then u.sourceChanged else u).ticked = u.ticked :=
    State.ticked_ite u.sourceChanged_ticked rfl
  have hrate (c : Prop) [Decidable c] (u : State) (x : PartScan) : (if c then { u with scan := x } else u).ticked = u.ticked :=
    State.ticked_ite (u.ticked_scan x) rfl
  have hfix (c : Prop) [Decidable c] (u : State) (l : List Univ) : (if c then u.fixTerminate l else u).ticked = u.ticked :=
    State.ticked_ite (u.fixTerminate_ticked l) rfl
  unfold State.latchHead
  exact (State.speedPass_ticked _).trans ((hfix _ _ _).trans ((hrate _ _ _).trans ((htime _ _).trans
    ((State.channelsMoved_ticked _ _).trans ((hsources _).trans (hhpd s))))))

/-- A tile's latch and a head's, after what they share. -/
def State.latchesTile (s before : State) (k : Nat) (ws : List Write) : State :=
  let s := s.latchTile before ws
  let s := s.setPar P.CONFIG_DIGEST 0 s.configDigest
  (s.corrLatch k).syncEval
def State.latchesHead (s before : State) (n : Nat) (tie : Bool) (ws : List Write) : State :=
  let s := s.latchHead before n ws
  let s := if s.rdy B.COMPOSE then (s.flipLatch n tie).judgeShown else s
  let s := s.setPar P.CONFIG_DIGEST 0 s.configDigest
  let s := ((s.budgetLatch).chainLoads).fixLoads
  let s := if s.rdy B.COMPOSE then s.bindLatch n else s
  (s.fixBind n).syncEval
def State.latchesRole (s before : State) (k n : Nat) (tie : Bool) (ws : List Write) : State :=
  if s.isTile then s.latchesTile before k ws else if s.isHead then s.latchesHead before n tie ws else s

theorem State.latchesTile_ticked (s before : State) (k : Nat) (ws : List Write) : (s.latchesTile before k ws).ticked = s.ticked := by
  unfold State.latchesTile
  dsimp only
  rw [State.syncEval_ticked, State.corrLatch_ticked, State.setPar_ticked _ _ _ (by decide), State.latchTile_ticked]

theorem State.latchesHead_ticked (s before : State) (n : Nat) (tie : Bool) (ws : List Write) :
    (s.latchesHead before n tie ws).ticked = s.ticked := by
  have hflips (u : State) : (if u.rdy B.COMPOSE then (u.flipLatch n tie).judgeShown else u).ticked = u.ticked :=
    State.ticked_ite ((State.judgeShown_ticked _).trans (u.flipLatch_ticked n tie)) rfl
  have hbind (u : State) : (if u.rdy B.COMPOSE then u.bindLatch n else u).ticked = u.ticked :=
    State.ticked_ite (u.bindLatch_ticked n) rfl
  unfold State.latchesHead
  dsimp only
  rw [State.syncEval_ticked, State.fixBind_ticked, hbind, State.fixLoads_ticked, State.chainLoads_ticked,
    State.budgetLatch_ticked, State.setPar_ticked _ _ _ (by decide), hflips, State.latchHead_ticked]

theorem State.latchesRole_ticked (s before : State) (k n : Nat) (tie : Bool) (ws : List Write) :
    (s.latchesRole before k n tie ws).ticked = s.ticked :=
  State.ticked_ite (s.latchesTile_ticked _ _ _) (State.ticked_ite (s.latchesHead_ticked _ _ _ _) rfl)

/-! The numbers of a latch -/

/-- What stays pending once the due transactions are applied. -/
def State.withPending (s : State) (l : List PendTxn) : State := { s with od := { s.od with pending := l } }

/-- The number the next tick takes after a latch: `k` unless the rate in force changed there (R212). -/
def State.numberAfter (s before : State) (k : Nat) : Nat := if s.rate = before.rate then k else newTick before.rate s.rate k
def State.latchNumbered (s before : State) (n : Nat) : State :=
  { s with time := { s.time with latched := n, strobed := if s.rate = before.rate then s.time.strobed else n - 1 } }

/-- The state after the writes of a latch and its numbers. -/
def State.latchApplied (s : State) (k : Nat) : State :=
  let r := s.applyDue k s.od.pending
  let u := r.1.withPending r.2.1
  u.latchNumbered s (u.numberAfter s k)

theorem State.latch_eq (s : State) (k : Nat) (tie : Bool) : s.latch k tie =
    ((s.latchApplied k).latchBoth s k (s.applyDue k s.od.pending).2.2).latchesRole s k
      (((s.applyDue k s.od.pending).1.withPending (s.applyDue k s.od.pending).2.1).numberAfter s k) tie
      (s.applyDue k s.od.pending).2.2 := by
  unfold State.latch State.latchApplied State.withPending State.latchNumbered State.numberAfter State.latchesRole
    State.latchesTile State.latchesHead
  rfl

/-- A latch leaves of the transactions and numbers what its writes leave. -/
theorem State.latch_ticked (s : State) (k : Nat) (tie : Bool) : (s.latch k tie).ticked = (s.latchApplied k).ticked := by
  rw [State.latch_eq, State.latchesRole_ticked, State.latchBoth_ticked]

end Sys2Proof.Machine
end

section
/-! A write that takes effect (R82, R83) asks for no reset unless it aborts an update: the operations of each target, in the order of the
chapters, leave `resetNow` of the update part alone. -/

namespace Sys2Proof.Machine

/-! Choices -/

theorem State.upd_ite {s a b : State} {c : Prop} [Decidable c] (ha : a.upd = s.upd) (hb : b.upd = s.upd) :
    (if c then a else b).upd = s.upd := by
  split
  · exact ha
  · exact hb

/-- The same of an operation that answers with a status. -/
theorem State.answer_ite {α : Type} {f : State → α} {s : State} {a b : Nat × State} {c : Prop} [Decidable c] (ha : f a.2 = f s)
    (hb : f b.2 = f s) : f (if c then a else b).2 = f s := by
  split
  · exact ha
  · exact hb

/-! Writes that do not touch the update part -/

theorem State.resetRequest_upd (s : State) (v : Nat) : (s.resetRequest v).upd = s.upd := by
  unfold State.resetRequest
  exact State.upd_ite rfl rfl

theorem State.overlayStep_upd (s : State) (off : Nat) (bs : List Byte) : (s.overlayStep off bs).2.upd = s.upd := by
  unfold State.overlayStep
  exact State.answer_ite (s.setBlob_upd _ _ _ _) rfl

theorem State.faultClear_upd (s : State) (v : Nat) : (s.faultClear v).upd = s.upd := State.raise_upd _ _ _ _ _

theorem State.lockAdvance_upd (s : State) (v : Nat) : (s.lockAdvance v).2.upd = s.upd := State.answer_ite rfl rfl

theorem State.attestLow_upd (s : State) : s.attestLow.upd = s.upd := State.upd_ite (State.raise_upd _ _ _ _ _) rfl

theorem State.attestRequest_upd (s : State) (v : List Byte) (flashOk : Bool) : (s.attestRequest v flashOk).2.upd = s.upd := by
  unfold State.attestRequest
  refine State.answer_ite rfl (State.answer_ite rfl (State.answer_ite (s.raise_upd _ _ _ _) (State.answer_ite ?_ ?_)))
  · exact State.raise_upd _ _ _ _ _
  · exact State.attestLow_upd _

theorem State.loadKey_upd (s : State) (slot perms : Nat) (key : List Byte) : (s.loadKey slot perms key).2.upd = s.upd :=
  State.answer_ite (State.raise_upd _ _ _ _ _) rfl

theorem State.keyLoad_upd (s : State) (v : List Byte) (gbe : Bool) (by_ : Option (Nat × Nat)) :
    (s.keyLoad v gbe by_).2.upd = s.upd := by
  unfold State.keyLoad
  refine State.answer_ite rfl (State.answer_ite (State.answer_ite rfl (State.answer_ite rfl (s.loadKey_upd _ _ _))) ?_)
  split
  · rfl
  · exact s.loadKey_upd _ _ _

theorem State.keyRevoke_upd (s : State) (n : Nat) : (s.keyRevoke n).2.upd = s.upd :=
  State.answer_ite (State.raise_upd _ _ _ _ _) rfl

theorem State.debugUnlock_upd (s : State) : s.debugUnlock.2.upd = s.upd := by
  unfold State.debugUnlock
  split
  · rfl
  · exact State.raise_upd _ _ _ _ _
  · rfl

theorem State.timeSetWrite_upd (s : State) (v : Nat) : (s.timeSetWrite v).upd = s.upd := State.raise_upd _ _ _ _ _

theorem State.setTxStep_upd (s : State) (p v : Nat) : (s.setTxStep p v).upd = s.upd := by
  unfold State.setTxStep
  exact (State.raiseIf_upd _ _ _ _ _).trans (State.upd_ite rfl rfl)

theorem State.rdmStep_upd (s : State) (p off : Nat) (bs : List Byte) : (s.rdmStep p off bs).2.upd = s.upd :=
  State.answer_ite rfl (State.answer_ite rfl rfl)

theorem State.bankStep_upd (s : State) (kind slot off : Nat) (bs : List Byte) : (s.bankStep kind slot off bs).2.upd = s.upd :=
  State.answer_ite rfl rfl

theorem State.sealReport_upd (s : State) (kind slot : Nat) (f : Nat × Bool) : (s.sealReport kind slot f).upd = s.upd := by
  have hfree (c : Prop) [Decidable c] (x : Nat) : ((if c then (let x := s.takeFree; (x.1 % 4096, x.2)) else (x, s)) : Nat × State).2.upd =
      s.upd := State.answer_ite rfl rfl
  unfold State.sealReport
  dsimp only
  exact (State.raise_upd _ _ _ _ _).trans (hfree _ _)

theorem State.bankSeal_upd (s : State) (kind slot crc : Nat) : (s.bankSeal kind slot crc).upd = s.upd := by
  unfold State.bankSeal
  exact (State.raise_upd _ _ _ _ _).trans (State.upd_ite rfl (State.upd_ite rfl rfl))

theorem State.sealStep_upd (s : State) (kind slot crc : Nat) : (s.sealStep kind slot crc).2.upd = s.upd := by
  unfold State.sealStep
  split
  · exact s.sealReport_upd _ _ _
  · exact State.answer_ite (s.bankSeal_upd _ _ _) rfl

theorem State.scanEnd_upd (s : State) (st : Nat) : (s.scanEnd st).upd = s.upd := by
  unfold State.scanEnd
  split
  · rfl
  · exact State.raise_upd _ _ _ _ _

theorem State.eyeScanWrite_upd (s : State) (v : Nat) : (s.eyeScanWrite v).upd = s.upd := by
  have hend : ((s.setPar P.EYE_SCAN_CTRL 0 (v % 2 ^ 31)).scanEnd 3).upd = s.upd := State.scanEnd_upd _ 3
  unfold State.eyeScanWrite
  exact State.upd_ite rfl (State.upd_ite hend ((State.scanEnd_upd _ 3).trans hend))

theorem State.laneGo_upd (s : State) (n st : Nat) : (s.laneGo n st).upd = s.upd := by
  have hcheck (u : State) : u.scanCheck.upd = u.upd := by
    unfold State.scanCheck
    split
    · rfl
    · exact State.upd_ite rfl (u.scanEnd_upd 3)
  rw [State.laneGo_eq, hcheck, State.raiseIf_upd, State.raiseIf_upd]
  rfl

theorem State.prbsClear_upd (s : State) (n : Nat) : (s.prbsClear n).upd = s.upd := by
  unfold State.prbsClear
  rfl

/-- The generator of a lane as written, its counts cleared where it runs (R127). -/
def State.prbsGenSet (s : State) (n v : Nat) : State :=
  let s := s.setPar P.PRBS_GEN n v
  if v % 8 = 0 then s
  else
    let w := if v % 8 = 5 then userWindow (s.par P.PRBS_USER) else Config.prbsSeed n % 2 ^ 40
    (s.updLane n fun l => { l with gen := { window := w, seq := 0 } }).prbsClear n

theorem State.prbsGenSet_upd (s : State) (n v : Nat) : (s.prbsGenSet n v).upd = s.upd := by
  unfold State.prbsGenSet
  exact State.upd_ite rfl ((State.prbsClear_upd _ n).trans rfl)

theorem State.prbsGenWrite_eq (s : State) (n v : Nat) : s.prbsGenWrite n v =
    if (v % 8 != 0 && !bit v 3) = true then (s.prbsGenSet n v).laneGo n L.RAW
    else if s.par P.PRBS_GEN n % 8 ≠ 0 ∧ ¬ bit (s.par P.PRBS_GEN n) 3 ∧ (s.prbsGenSet n v).laneState n = L.RAW then
      (s.prbsGenSet n v).laneRestart n
    else s.prbsGenSet n v := by
  unfold State.prbsGenWrite State.prbsGenSet
  rfl

theorem State.laneRestart_upd (s : State) (n : Nat) : (s.laneRestart n).upd = s.upd := (State.laneGo_upd _ n L.SIGNAL).trans rfl

theorem State.prbsGenWrite_upd (s : State) (n v : Nat) : (s.prbsGenWrite n v).upd = s.upd := by
  rw [State.prbsGenWrite_eq]
  split
  · rw [State.laneGo_upd, State.prbsGenSet_upd]
  · split
    · rw [State.laneRestart_upd, State.prbsGenSet_upd]
    · exact s.prbsGenSet_upd n v

theorem State.prbsStep_upd (s : State) (n v : Nat) : (s.prbsStep n v).2.upd = s.upd :=
  State.answer_ite rfl (State.answer_ite rfl (s.prbsGenWrite_upd n v))

theorem State.prbsChkWrite_upd (s : State) (n v : Nat) : (s.prbsChkWrite n v).upd = s.upd := State.upd_ite rfl rfl

theorem State.injectWrite_upd (s : State) (n v : Nat) : (s.injectWrite n v).upd = s.upd := State.raise_upd _ _ _ _ _

theorem State.syncEval_upd (s : State) : s.syncEval.upd = s.upd := by rw [State.syncEval_frame]

theorem State.epochFloorWrite_upd (s : State) (v : Nat) : (s.epochFloorWrite v).upd = s.upd :=
  State.upd_ite (State.syncEval_upd _) rfl

theorem State.putBuf_upd (s : State) (src b off : Nat) (bs : List Byte) : (s.putBuf src b off bs).upd = s.upd := by
  induction bs generalizing s off with
  | nil => rfl
  | cons x xs ih => exact (ih _ _).trans rfl

theorem State.stillStep_upd (s : State) (i off : Nat) (bs : List Byte) : (s.stillStep i off bs).2.upd = s.upd :=
  State.answer_ite rfl (s.putBuf_upd _ _ _ _)

theorem State.polderStill_upd (s : State) (i : Nat) : (s.polderStill i).upd = s.upd := by
  unfold State.polderStill State.polderBuild State.bgPauseStart
  exact State.upd_ite (State.upd_ite rfl rfl) rfl

theorem State.updBuf_upd (s : State) (src b : Nat) (f : Buf → Buf) : (s.updBuf src b f).upd = s.upd := rfl
theorem State.undefBuf_upd (s : State) (src b : Nat) : (s.undefBuf src b).upd = s.upd := rfl
theorem State.src_upd (s : State) (x : PartSrc) : State.upd { s with src := x } = s.upd := rfl

theorem State.stillSealWrite_upd (s : State) (i : Nat) : (s.stillSealWrite i).upd = s.upd := by
  unfold State.stillSealWrite
  exact (State.undefBuf_upd _ _ _).trans ((State.updBuf_upd _ _ _ _).trans ((State.src_upd _ _).trans
    ((State.updBuf_upd _ _ _ _).trans (s.bump_upd _ _ _))))

theorem State.stillSealStep_upd (s : State) (i crc : Nat) : (s.stillSealStep i crc).2.upd = s.upd := by
  unfold State.stillSealStep
  split
  · dsimp only
    rw [State.polderStill_upd, State.stillSealWrite_upd]
  · exact s.raise_upd _ _ _ _

theorem State.dumpRead_upd (s : State) (v : Nat) : (s.dumpRead v).2.upd = s.upd := State.answer_ite rfl rfl

theorem State.counterFreeze_upd (s : State) (v : Nat) : (s.counterFreeze v).upd = s.upd := by
  unfold State.counterFreeze
  split
  · exact State.raise_upd _ _ _ _ _
  · exact State.raise_upd _ _ _ _ _
  · refine (State.setPar_upd _ _ _ _).trans (State.each_keeps State.upd _ _ _ fun t c => ?_)
    exact t.setBlob_upd _ _ _ _
  · rfl

theorem State.putValue_upd (s : State) (id idx : Nat) (v : List Byte) : (s.putValue id idx v).upd = s.upd := by
  unfold State.putValue
  split
  · rfl
  · split
    · exact s.setBlob_upd _ _ _ _
    · exact s.setBlob_upd _ _ _ _
    · rfl

/-! Writes of the update part (R479 to R496) -/

/-- Whether a reset is asked for at the end of the latch. -/
def State.resetAsked (s : State) : Bool := s.upd.resetNow

theorem State.asked_of_upd {s t : State} (h : t.upd = s.upd) : t.resetAsked = s.resetAsked := congrArg PartUpd.resetNow h

theorem State.asked_ite {s a b : State} {c : Prop} [Decidable c] (ha : a.resetAsked = s.resetAsked)
    (hb : b.resetAsked = s.resetAsked) : (if c then a else b).resetAsked = s.resetAsked := by
  split
  · exact ha
  · exact hb

theorem State.updGo_asked (s : State) (st : Nat) : (s.updGo st).resetAsked = s.resetAsked := rfl
theorem State.setSlot_asked (s : State) (n : Nat) (v : Slot) : (s.setSlot n v).resetAsked = s.resetAsked := rfl
theorem State.dropImage_asked (s : State) : s.dropImage.resetAsked = s.resetAsked := rfl

theorem State.raise_asked (s : State) (e i d c : Nat) : (s.raise e i d c).resetAsked = s.resetAsked :=
  State.asked_of_upd (s.raise_upd e i d c)

/-- The count of verified blocks stands apart from a reset asked for. -/
theorem State.verified_asked (s : State) (n : Nat) :
    State.resetAsked { s with upd := { s.upd with verified := n } } = s.resetAsked := rfl

theorem State.imageDone_asked (s : State) : s.imageDone.resetAsked = s.resetAsked := by
  have hready : ((s.updGo U.READY).raise E.IMAGE_READY).resetAsked = s.resetAsked := by
    rw [State.raise_asked, State.updGo_asked]
  have hboot (u : State) : State.resetAsked { u with upd := { u.upd with bootDue := true } } = u.resetAsked := rfl
  unfold State.imageDone
  refine State.asked_ite (State.asked_ite ((hboot _).trans hready) hready) ?_
  rw [State.raise_asked, State.dropImage_asked]

theorem State.verifyRun_asked (s : State) (n : Nat) : (s.verifyRun n).resetAsked = s.resetAsked := by
  induction n generalizing s with
  | zero => rfl
  | succ n ih =>
    unfold State.verifyRun
    refine State.asked_ite (State.asked_ite s.imageDone_asked rfl) (State.asked_ite rfl (State.asked_ite ?_ ?_))
    · exact (ih _).trans (s.verified_asked _)
    · exact (State.asked_of_upd (State.raiseLimited_upd _ _ _ _ _)).trans (s.setSlot_asked _ _)

theorem State.rescan_asked (s : State) : s.rescan.resetAsked = s.resetAsked :=
  State.asked_ite ((State.verifyRun_asked _ _).trans (s.verified_asked _)) rfl

theorem State.takeManifest_asked (s : State) (m : List Byte) : (s.takeManifest m).resetAsked = s.resetAsked := by
  have hloading : ((s.updGo U.LOADING).rescan).resetAsked = s.resetAsked := by rw [State.rescan_asked, State.updGo_asked]
  unfold State.takeManifest
  refine State.asked_ite (State.asked_ite hloading rfl) ?_
  exact (State.raise_asked _ _ _ _ _).trans rfl

theorem State.manifestWrite_asked (s : State) (off : Nat) (bs : List Byte) :
    (s.manifestWrite off bs).2.resetAsked = s.resetAsked := by
  unfold State.manifestWrite
  refine State.answer_ite rfl (State.answer_ite rfl (State.answer_ite ?_ ?_))
  · exact (State.takeManifest_asked _ _).trans rfl
  · exact (State.raise_asked _ _ _ _ _).trans rfl

theorem State.storeBlock_asked (s : State) (i : Nat) (b : List Byte) : (s.storeBlock i b).resetAsked = s.resetAsked := by
  unfold State.storeBlock
  exact State.asked_ite rfl ((State.verifyRun_asked _ _).trans (s.setSlot_asked _ _))

theorem State.imageWrite_asked (s : State) (off : Nat) (bs : List Byte) : (s.imageWrite off bs).resetAsked = s.resetAsked := by
  have hpart (u : State) (p : SMap Nat) : State.resetAsked { u with upd := { u.upd with part := p } } = u.resetAsked := rfl
  unfold State.imageWrite
  refine State.asked_ite rfl ((State.each_keeps State.resetAsked _ _ _ fun t i => ?_).trans (hpart s _))
  exact State.asked_ite rfl ((State.storeBlock_asked _ _ _).trans (hpart t _))

theorem State.updActivate_asked (s : State) : s.updActivate.2.resetAsked = s.resetAsked := by
  unfold State.updActivate
  refine State.answer_ite ?_ rfl
  exact (State.raise_asked _ _ _ _ _).trans rfl

theorem State.confirmWrite_asked (s : State) : s.confirmWrite.2.resetAsked = s.resetAsked := by
  have hburn (u : State) (v : Nat) : (u.floorBurn v).resetAsked = u.resetAsked :=
    State.asked_ite ((State.raise_asked _ _ _ _ _).trans rfl) rfl
  have hout (u : State) : (u.outcome 1).resetAsked = u.resetAsked := State.asked_of_upd (u.setBlob_upd _ _ _ _)
  have hconfirm : s.confirm.resetAsked = s.resetAsked := by
    unfold State.confirm
    exact (hburn _ _).trans ((State.raise_asked _ _ _ _ _).trans ((State.updGo_asked _ _).trans (hout s)))
  exact State.answer_ite rfl (State.answer_ite rfl hconfirm)

/-! Any write -/

/-- A write that aborts no update asks for no reset. -/
theorem State.writeEffect_asked (s : State) (c : WriteCtx) {id : Nat} (idx : Nat) (value : List Byte) (h : id ≠ P.UPDATE_ABORT) :
    (s.writeEffect c id idx value).2.resetAsked = s.resetAsked := by
  unfold State.writeEffect
  refine State.answer_ite (State.asked_of_upd (s.resetRequest_upd _)) ?_
  refine State.answer_ite (State.asked_of_upd (s.overlayStep_upd _ _)) ?_
  refine State.answer_ite (State.asked_of_upd rfl) ?_
  refine State.answer_ite (State.answer_ite rfl (State.asked_of_upd (s.faultClear_upd _))) ?_
  refine State.answer_ite (State.asked_of_upd (s.lockAdvance_upd _)) ?_
  refine State.answer_ite (State.answer_ite rfl (State.asked_of_upd (s.attestRequest_upd _ _))) ?_
  refine State.answer_ite (State.answer_ite rfl (State.asked_of_upd (s.keyLoad_upd _ _ _))) ?_
  refine State.answer_ite (State.asked_of_upd (s.keyRevoke_upd _)) ?_
  refine State.answer_ite (State.asked_of_upd s.debugUnlock_upd) ?_
  refine State.answer_ite (s.manifestWrite_asked _ _) ?_
  refine State.answer_ite (State.answer_ite rfl (s.imageWrite_asked _ _)) ?_
  rw [if_neg h]
  refine State.answer_ite s.updActivate_asked ?_
  refine State.answer_ite s.confirmWrite_asked ?_
  refine State.answer_ite (State.answer_ite rfl (State.asked_of_upd (s.timeSetWrite_upd _))) ?_
  refine State.answer_ite (State.asked_of_upd (s.setTxStep_upd _ _)) ?_
  refine State.answer_ite (State.asked_of_upd (s.setTxStep_upd _ _)) ?_
  refine State.answer_ite (State.asked_of_upd (s.rdmStep_upd _ _ _)) ?_
  refine State.answer_ite (State.asked_of_upd (s.bankStep_upd _ _ _ _)) ?_
  refine State.answer_ite (State.asked_of_upd (s.sealStep_upd _ _ _)) ?_
  refine State.answer_ite (State.answer_ite rfl (State.asked_of_upd rfl)) ?_
  refine State.answer_ite (State.asked_of_upd (s.eyeScanWrite_upd _)) ?_
  refine State.answer_ite (State.asked_of_upd (s.prbsStep_upd _ _)) ?_
  refine State.answer_ite (State.asked_of_upd (s.prbsChkWrite_upd _ _)) ?_
  refine State.answer_ite (State.answer_ite rfl (State.asked_of_upd (s.injectWrite_upd _ _))) ?_
  refine State.answer_ite (State.asked_of_upd (s.epochFloorWrite_upd _)) ?_
  refine State.answer_ite (State.asked_of_upd (s.stillStep_upd _ _ _)) ?_
  refine State.answer_ite (State.asked_of_upd (s.stillSealStep_upd _ _)) ?_
  refine State.answer_ite (State.asked_of_upd (s.bankStep_upd _ _ _ _)) ?_
  refine State.answer_ite (State.asked_of_upd (s.sealStep_upd _ _ _)) ?_
  refine State.answer_ite (State.asked_of_upd (s.bankStep_upd _ _ _ _)) ?_
  refine State.answer_ite (State.asked_of_upd (s.sealStep_upd _ _ _)) ?_
  refine State.answer_ite (State.asked_of_upd (s.bankStep_upd _ _ _ _)) ?_
  refine State.answer_ite (State.asked_of_upd (s.sealStep_upd _ _ _)) ?_
  refine State.answer_ite rfl ?_
  refine State.answer_ite rfl ?_
  refine State.answer_ite rfl ?_
  refine State.answer_ite (State.asked_of_upd (s.dumpRead_upd _)) ?_
  refine State.answer_ite (State.asked_of_upd (s.counterFreeze_upd _)) ?_
  refine State.answer_ite rfl ?_
  exact State.answer_ite rfl (State.asked_of_upd (s.putValue_upd _ _ _))

theorem State.applyWrite_asked (s : State) {w : Write} (h : w.id ≠ P.UPDATE_ABORT) : (s.applyWrite w).resetAsked = s.resetAsked := by
  unfold State.applyWrite
  split
  · rename_i t e
    have hw := s.writeEffect_asked { by_ := w.by_, gbe := w.gbe } w.index w.value h
    rwa [e] at hw
  · rfl

theorem State.applyWrites_asked (s : State) {ws : List Write} (h : ∀ w ∈ ws, w.id ≠ P.UPDATE_ABORT) :
    (ws.foldl State.applyWrite s).resetAsked = s.resetAsked :=
  State.each_keeps_mem State.resetAsked s fun t w hw => t.applyWrite_asked (h w hw)

end Sys2Proof.Machine
end

section
/-! The commit latch's order (R100, R212, R213): the transactions due are applied in order, the later ones wait. -/

namespace Sys2Proof.Machine

/-! The transactions due -/

/-- A transaction that writes no tick rate changes none. -/
theorem State.pendRate_none (s : State) {p : PendTxn} (h : ∀ w ∈ p.writes, w.id ≠ P.TICK_RATE) : s.pendRate p = none := by
  have hfind : p.writes.reverse.find? (fun w => w.id == P.TICK_RATE) = none := by
    rw [List.find?_eq_none]
    intro w hw
    simpa using h w (List.mem_reverse.mp hw)
  have hrate : rateChange s.rate p.writes = none := by rw [rateChange, hfind]
  rw [State.pendRate, hrate, ite_self]

/-- The writes of a transaction, with the mark that settings changed. -/
def State.txnWritten (s : State) (p : PendTxn) : State :=
  let t := p.writes.foldl State.applyWrite s
  let changed := (p.writes.any fun w => storable w.id) && decide (t.dict ≠ s.dict ∨ t.blobs ≠ s.blobs)
  { t with od := { t.od with dirty := t.od.dirty || changed } }

/-- A transaction applied is numbered; one that was due before tick `k` names that tick (R100). -/
def State.txnNumbered (s : State) (k : Nat) (p : PendTxn) : State :=
  let t := (s.setPar P.APPLIED_TXN 0 p.num).count 5
  if p.tick < k then t.setPar P.APPLIED_TICK 0 (k % 2 ^ 48) else t

theorem State.applyTxn_eq (s : State) (k : Nat) (p : PendTxn) : s.applyTxn k p = (s.txnWritten p).txnNumbered k p := by
  unfold State.applyTxn State.txnWritten State.txnNumbered
  rfl

theorem State.txnNumbered_pars (s : State) (k : Nat) (p : PendTxn) : (s.txnNumbered k p).par P.APPLIED_TXN = p.num ∧
    (p.tick < k → (s.txnNumbered k p).par P.APPLIED_TICK = k % 2 ^ 48) := by
  have hnum : ((s.setPar P.APPLIED_TXN 0 p.num).count 5).par P.APPLIED_TXN = p.num :=
    (State.appliedTxn_of_ticked (State.count_ticked _ 5 1)).trans (s.par_setPar _ _ _)
  simp only [State.txnNumbered]
  split
  · exact ⟨(State.par_setPar_other _ _ (by decide) (by decide) (by decide)).trans hnum, fun _ => State.par_setPar _ _ _ _⟩
  · rename_i hk
    exact ⟨hnum, fun h => absurd h hk⟩

theorem State.txnNumbered_asked (s : State) (k : Nat) (p : PendTxn) : (s.txnNumbered k p).resetAsked = s.resetAsked :=
  State.asked_ite (State.asked_of_upd (State.count_upd _ _ _)) (State.asked_of_upd (State.count_upd _ _ _))

theorem State.applyTxn_asked (s : State) (k : Nat) {p : PendTxn} (h : ∀ w ∈ p.writes, w.id ≠ P.UPDATE_ABORT) :
    (s.applyTxn k p).resetAsked = s.resetAsked := by
  rw [State.applyTxn_eq, State.txnNumbered_asked]
  exact s.applyWrites_asked h

theorem State.applyDue_later (s : State) {k : Nat} {l : List PendTxn} (h : ∀ q ∈ l, k < q.tick) : s.applyDue k l = (s, l, []) := by
  cases l with
  | nil => rfl
  | cons q l =>
    rw [State.applyDue, if_pos (h q List.mem_cons_self)]

theorem State.applyDue_cons (s : State) {k : Nat} {p : PendTxn} (l : List PendTxn) (hp : p.tick ≤ k)
    (hw : ∀ w ∈ p.writes, w.id ≠ P.TICK_RATE) : (s.applyDue k (p :: l)).1 = ((s.applyTxn k p).applyDue k l).1 ∧
      (s.applyDue k (p :: l)).2.1 = ((s.applyTxn k p).applyDue k l).2.1 := by
  rw [State.applyDue, if_neg (by omega), s.pendRate_none hw]
  exact ⟨rfl, rfl⟩

/-- The transactions due are applied in order, the last of them last, and the later ones wait (R100). -/
theorem State.applyDue_due (s : State) {k : Nat} (due : List PendTxn) {p : PendTxn} {later : List PendTxn}
    (hdue : ∀ q ∈ due ++ [p], q.tick ≤ k ∧ ∀ w ∈ q.writes, w.id ≠ P.TICK_RATE ∧ w.id ≠ P.UPDATE_ABORT)
    (hl : ∀ q ∈ later, k < q.tick) : ∃ u : State, (s.applyDue k (due ++ p :: later)).1 = u.applyTxn k p ∧
      (s.applyDue k (due ++ p :: later)).2.1 = later ∧ u.resetAsked = s.resetAsked := by
  induction due generalizing s with
  | nil =>
    obtain ⟨hp, hw⟩ := hdue p (by simp)
    obtain ⟨hstate, hrest⟩ := s.applyDue_cons later hp fun w hm => (hw w hm).1
    rw [State.applyDue_later _ hl] at hstate hrest
    exact ⟨s, hstate, hrest, rfl⟩
  | cons q due ih =>
    obtain ⟨hq, hw⟩ := hdue q (by simp)
    obtain ⟨u, hu, hrest, hasked⟩ := ih (s.applyTxn k q) fun x hx => hdue x (List.mem_cons_of_mem q hx)
    obtain ⟨hstate, hrest'⟩ := s.applyDue_cons (due ++ p :: later) hq fun w hm => (hw w hm).1
    exact ⟨u, hstate.trans hu, hrest'.trans hrest, hasked.trans (s.applyTxn_asked k fun w hm => (hw w hm).2)⟩

/-! The latch -/

/-- The pending transactions, the elements and a reset asked for, as a latch's writes leave them. -/
theorem State.latchApplied_leaves (s : State) (k : Nat) :
    (s.latchApplied k).od.pending = (s.applyDue k s.od.pending).2.1 ∧
      (s.latchApplied k).resetAsked = (s.applyDue k s.od.pending).1.resetAsked ∧
      ∀ id idx, (s.latchApplied k).par id idx = (s.applyDue k s.od.pending).1.par id idx :=
  ⟨rfl, rfl, fun _ _ => rfl⟩

/-- With no reset asked for, the end of a latch is the latch itself. -/
theorem State.abortReset_none (s : State) (h : s.resetAsked = false) : s.abortReset = s :=
  if_neg (by rw [show s.upd.resetNow = false from h]; exact Bool.false_ne_true)

theorem execCommitLatch_eq (k : Nat) (tie : Bool) (s : State) (hr : s.start.resetting = none) (hh : s.start.latchHold = false)
    (ht : s.start.tripped = false) (hl : s.rdy B.TIME_LOCK = true) (hn : s.time.latched < k)
    (ha : (s.applyDue k s.od.pending).1.resetAsked = false) : exec (.commitLatch k tie) s = .next (s.latch k tie) := by
  have hasked : (s.latch k tie).resetAsked = false :=
    (State.resetNow_of_ticked (s.latch_ticked k tie)).trans ((s.latchApplied_leaves k).2.1.trans ha)
  have hgo : execCommitLatch k tie s = .next ((s.latch k tie).abortReset) :=
    congrArg Host.Outcome.next (if_neg (by simp [hr, hh, ht, hl]; omega))
  rw [State.abortReset_none _ hasked] at hgo
  exact hgo

/-- A latch with nothing due keeps the pending transactions and the last number, and takes its own (R100, R213). -/
theorem execCommitLatch_idle (k : Nat) (tie : Bool) (s : State) (hr : s.start.resetting = none) (hh : s.start.latchHold = false)
    (ht : s.start.tripped = false) (hl : s.rdy B.TIME_LOCK = true) (hn : s.time.latched < k) (ha : s.upd.resetNow = false)
    (hlater : ∀ p ∈ s.od.pending, k < p.tick) : ∃ t, exec (.commitLatch k tie) s = .next t ∧ t.time.latched = k ∧
      t.od.pending = s.od.pending ∧ t.par P.APPLIED_TXN = s.par P.APPLIED_TXN := by
  have hdue := s.applyDue_later hlater
  have hkept := s.latch_ticked k tie
  obtain ⟨hpending, -, hpar⟩ := s.latchApplied_leaves k
  rw [hdue] at hpending hpar
  refine ⟨_, execCommitLatch_eq k tie s hr hh ht hl hn (by rw [hdue]; exact ha), ?_, ?_, ?_⟩
  · rw [State.latched_of_ticked hkept, State.latchApplied, hdue]
    exact if_pos rfl
  · rw [State.pending_of_ticked hkept, hpending]
  · rw [State.appliedTxn_of_ticked hkept, hpar]

/-- A latch applies the transactions due in order, records the last one's number, and leaves the later ones pending (R100). -/
theorem execCommitLatch_applies (k : Nat) (tie : Bool) (s : State) (hr : s.start.resetting = none) (hh : s.start.latchHold = false)
    (ht : s.start.tripped = false) (hl : s.rdy B.TIME_LOCK = true) (hn : s.time.latched < k) (ha : s.upd.resetNow = false)
    (due : List PendTxn) (p : PendTxn) (later : List PendTxn) (hp : s.od.pending = due ++ p :: later)
    (hdue : ∀ q ∈ due ++ [p], q.tick ≤ k ∧ ∀ w ∈ q.writes, w.id ≠ P.TICK_RATE ∧ w.id ≠ P.UPDATE_ABORT)
    (hlater : ∀ q ∈ later, k < q.tick) : ∃ t, exec (.commitLatch k tie) s = .next t ∧ t.od.pending = later ∧
      t.par P.APPLIED_TXN = p.num ∧ (p.tick < k → t.par P.APPLIED_TICK = k % 2 ^ 48) := by
  obtain ⟨u, hu, hrest, hasked⟩ := s.applyDue_due due hdue hlater
  obtain ⟨hpending, -, hpar⟩ := s.latchApplied_leaves k
  have hkept := s.latch_ticked k tie
  obtain ⟨-, hw⟩ := hdue p (by simp)
  rw [← hp] at hu hrest
  rw [hrest] at hpending
  rw [hu, State.applyTxn_eq] at hpar
  obtain ⟨hnum, htick⟩ := (u.txnWritten p).txnNumbered_pars k p
  refine ⟨_, execCommitLatch_eq k tie s hr hh ht hl hn ?_, ?_, ?_, fun hlt => ?_⟩
  · rw [hu, u.applyTxn_asked k fun w hm => (hw w hm).2, hasked]
    exact ha
  · rw [State.pending_of_ticked hkept, hpending]
  · rw [State.appliedTxn_of_ticked hkept, hpar, hnum]
  · rw [State.appliedTick_of_ticked hkept, hpar, htick hlt]

/-- Settles O40: a tick is strobed once, and a commit latch applies what is due, in order. -/
theorem ticksAndLatches : Obligations.TicksAndLatches := by
  unfold Obligations.TicksAndLatches
  intro n tie s
  refine ⟨fun h => ?_, fun hr ht hn => execTickStrobe_strobes n tie s hr ht hn, fun h => ?_, fun hr hh ht hl hn ha =>
    ⟨fun hlater => execCommitLatch_idle n tie s hr hh ht hl hn ha hlater, fun due p later hp hdue hlater =>
      execCommitLatch_applies n tie s hr hh ht hl hn ha due p later hp hdue hlater⟩⟩
  · refine congrArg Host.Outcome.next (if_pos ?_)
    rcases h with h | h | h <;> simp [h]
  · refine congrArg Host.Outcome.next (if_pos ?_)
    rcases h with h | h | h | h | h
    · simp [Option.isSome_iff_ne_none.mpr h]
    · simp [h]
    · simp [h]
    · simp [h]
    · simp [h]

end Sys2Proof.Machine
end

section
/-! The state after reset (R43, R48, R54, R60, R74, R77). -/

namespace Sys2Proof.Machine

/-- With no bit of READY_MAP set, every bit reads clear (R77). -/
theorem State.rdy_of_ready_zero {s : State} (h : s.start.ready = 0) (i : Nat) : s.rdy i = false := by
  rw [State.rdy, h, bit_eq_testBit, Nat.zero_testBit]

/-- A blank root of trust is in order: fuses open, nothing burning, no report being signed (log entry 3). -/
theorem State.reset_rootOk : State.reset.rootOk := by
  refine ⟨by decide, fun r h => ?_, le_rfl, by decide, fun h => absurd rfl h⟩
  cases h

/-- Settles O58: each part of the device after reset reads its default. -/
theorem afterReset : Obligations.AfterReset := by
  unfold Obligations.AfterReset
  refine ⟨rfl, rfl, rfl, fun r => SMap.get_nil _ _, State.rdy_of_ready_zero rfl, SMap.get_nil _, SMap.get_nil _, rfl, rfl, rfl,
    fun id idx => ?_, rfl, State.reset_rootOk⟩
  have hside : State.reset.sideB = false := by decide
  rw [State.par, hside]
  rfl

end Sys2Proof.Machine
end

section
/-! Supplies, power-on reset and lamp banks (R48, R53 to R56, R66, R525, R526). -/

namespace Sys2Proof.Machine

/-! Supplies -/

theorem State.valid_setValid (s : State) (n : Nat) (b : Bool) : (s.setValid n b).valid n = b :=
  SMap.get_set_same _ _ _ _

theorem State.valid_setValid_ne (s : State) {n m : Nat} (b : Bool) (h : m ≠ n) : (s.setValid n b).valid m = s.valid m :=
  SMap.get_set_ne _ _ _ _ h

/-- While `VDDIO_G` is valid and the option bytes are unread, each group has its weak pull-down or high impedance (R48). -/
theorem State.weakGroups_valid {s : State} (h : s.valid 5 = true) {g : Nat} (hg : g < 16) :
    SMap.get .off s.weakGroups g = if g = 9 ∨ 13 ≤ g then .highZ else .weakDown := by
  have htable : ∀ g < 16, SMap.get .off ((List.range 16).map fun g => (g, if g = 9 ∨ 13 ≤ g then PinMode.highZ else .weakDown)) g =
      if g = 9 ∨ 13 ≤ g then .highZ else .weakDown := by decide
  have hvalid : s.weakGroups = _ := if_pos h
  rw [hvalid]
  exact htable g hg

theorem State.pinsWeak_groups (s : State) :
    s.pinsWeak.start.groups = if s.start.optionRead = true then s.start.groups else s.weakGroups := by
  unfold State.pinsWeak
  split <;> rfl

theorem State.pinsWeak_frame (s : State) :
    s.pinsWeak = { s with start := { s.start with groups := s.pinsWeak.start.groups } } := by
  unfold State.pinsWeak
  split <;> rfl

/-- A supply that rises is valid; `VDDIO_G` gives the pin groups their state before the option bytes are read (R48, R53). -/
theorem execSupplyValid_rises (x : Supply) (s : State) :
    ∃ t, exec (.supplyValid x) s = .next t ∧ t.valid (supplyNum x) = true ∧
      (∀ n, n ≠ supplyNum x → t.valid n = s.valid n) ∧
      (∀ g, g < 16 → SMap.get .off t.start.groups g =
        if x = .vddioG ∧ s.start.optionRead = false then (if g = 9 ∨ 13 ≤ g then .highZ else .weakDown)
        else SMap.get .off s.start.groups g) ∧
      t = { s with start := { s.start with valid := t.start.valid, groups := t.start.groups } } := by
  have hsame := s.valid_setValid (supplyNum x) true
  have hrest (n : Nat) (h : n ≠ supplyNum x) := s.valid_setValid_ne true h
  refine ⟨_, rfl, ?_⟩
  by_cases hx : x = .vddioG
  · subst hx
    rw [if_pos rfl, State.pinsWeak_frame]
    refine ⟨hsame, hrest, fun g hg => ?_, rfl⟩
    have hgroups := State.pinsWeak_groups (s.setValid (supplyNum .vddioG) true)
    cases ho : s.start.optionRead with
    | true =>
      rw [if_pos (show (s.setValid (supplyNum .vddioG) true).start.optionRead = true from ho)] at hgroups
      simpa [State.setValid] using congrArg (SMap.get PinMode.off · g) hgroups
    | false =>
      rw [if_neg (by simp [State.setValid, ho])] at hgroups
      have hweak := State.weakGroups_valid hsame hg
      rw [← hgroups] at hweak
      simpa using hweak
  · rw [if_neg hx]
    exact ⟨hsame, hrest, fun g _ => by simp [hx, State.setValid], rfl⟩

/-- Another supervised supply that falls is only no longer valid (R53, R55). -/
theorem execSupplyFall_falls (x : Supply) (s : State) (hc : x ≠ .vddCore) (hs : x ≠ .vddSram) (hg : x ≠ .vddioG) :
    ∃ t, exec (.supplyFall x) s = .next t ∧ t.valid (supplyNum x) = false ∧
      (∀ n, n ≠ supplyNum x → t.valid n = s.valid n) ∧
      t = { s with start := { s.start with valid := t.start.valid } } := by
  refine ⟨_, rfl, ?_⟩
  rw [if_neg (by simp [hc, hs, hg])]
  exact ⟨s.valid_setValid _ _, fun n h => s.valid_setValid_ne _ h, rfl⟩

/-! Power-on reset -/

/-- A burn cut by the loss of power leaves the fuses old or new, and nothing else of what the device stores (R465). -/
theorem State.burnCut_frame (s : State) : s.burnCut =
    { s with free := s.burnCut.free
             security := { s.security with burning := s.burnCut.security.burning, answer := s.burnCut.security.answer
                                           fuses := s.burnCut.security.fuses } } := by
  unfold State.burnCut
  split <;> rfl

/-- Power-on reset is asserted, before the reset of level L0 follows (R54, R66). -/
def State.porMarked (s : State) (deep : Bool) : State :=
  { s with start := { s.start with por := true, coreCleared := s.start.coreCleared || deep, lowSince := none
                                   longHeld := false, heldByPin := false } }

theorem State.enterPor_eq (s : State) (deep : Bool) : s.enterPor deep =
    if s.start.tripped then s.burnCut.porMarked deep else (s.burnCut.porMarked deep).resetL0 := by
  rw [State.enterPor, State.burnCut_frame]
  rfl

/-- Power-on reset under no trip resets at L0 and keeps flash and fuses; under a trip only the pins' logic waits (R54, R66). -/
theorem State.enterPor_resets (s : State) (deep : Bool) :
    (s.enterPor deep).start.por = true ∧ (s.enterPor deep).start.valid = s.start.valid ∧
      (s.enterPor deep).pending = s.pending ∧ (s.enterPor deep).now = s.now ∧
      (s.enterPor deep).start.tripped = s.start.tripped ∧
      (s.start.tripped = false → (s.enterPor deep).start.ready = 0 ∧ (s.enterPor deep).start.optionRead = false ∧
        (s.enterPor deep).start.resetting = some .l0 ∧ (s.enterPor deep).od.stored = s.od.stored ∧
        (s.enterPor deep).upd.slots = s.upd.slots ∧ (s.enterPor deep).store.flash = s.store.flash ∧
        (s.enterPor deep).start.otpA = s.start.otpA ∧ (s.enterPor deep).start.otpB = s.start.otpB ∧
        (s.enterPor deep).security.keys = s.security.keys) := by
  rw [State.enterPor_eq, State.burnCut_frame]
  cases ht : s.start.tripped with
  | true => exact ⟨rfl, rfl, rfl, rfl, ht, nofun⟩
  | false => exact ⟨rfl, rfl, rfl, rfl, ht, fun _ => ⟨rfl, rfl, rfl, rfl, rfl, rfl, rfl, rfl, rfl⟩⟩

/-- A dip of a monitored supply asserts power-on reset (R54). -/
theorem execSupplyDip_resets (x : Supply) (deep : Bool) (s : State) (h : x = .vddCore ∨ x = .vddSram ∨ x = .vddioG) :
    ∃ t, exec (.supplyDip x deep) s = .next t ∧ t.start.por = true ∧ t.valid (supplyNum x) = false ∧
      t.pending = s.pending ∧ t.now = s.now ∧ t.start.tripped = s.start.tripped ∧
      (s.start.tripped = false → t.start.ready = 0 ∧ t.start.optionRead = false ∧ t.start.resetting = some .l0 ∧
        t.od.stored = s.od.stored ∧ t.upd.slots = s.upd.slots ∧ t.store.flash = s.store.flash ∧
        t.start.otpA = s.start.otpA ∧ t.start.otpB = s.start.otpB ∧ t.security.keys = s.security.keys) := by
  refine ⟨_, rfl, ?_⟩
  rw [if_pos h]
  obtain ⟨hpor, hvalid, hrest⟩ := (s.setValid (supplyNum x) false).enterPor_resets (deep && x == .vddCore)
  refine ⟨hpor, ?_, hrest⟩
  rw [State.valid, hvalid]
  exact s.valid_setValid _ _

/-- A reset carried out names its level, its deepening and its source (R80). -/
theorem State.carryOut_cause (s : State) (l : Level) (source : Nat) (escalated : Bool) :
    (s.carryOut l source escalated).par P.RESET_CAUSE = 16 * levelCode l + 8 * b2n escalated + source := by
  unfold State.carryOut
  refine (State.par_raiseIf _ _ _ _ _ (by decide) (by decide) (by decide)).trans ?_
  refine (State.par_bump_other _ (id := P.RESET_COUNT) (id' := P.RESET_CAUSE) (by decide) ?_ (by decide)).trans
    (State.par_setPar _ _ _ _)
  cases l <;> decide

/-- Beyond the reset of level L0 itself, carrying one out touches only parameters and events (R62, R81). -/
theorem State.carryOut_l0_eq (s : State) (source : Nat) (escalated : Bool) : s.carryOut .l0 source escalated =
    { s.resetL0 with dict := (s.carryOut .l0 source escalated).dict, ev := (s.carryOut .l0 source escalated).ev } := by
  unfold State.carryOut
  rw [State.raiseIf_eq]
  rfl

/-- The last power-on reset ends; the pin then holds the regions where no trip does (R54, R58). -/
def State.porOver (s : State) : State :=
  { s with start := { s.start with por := false, coreCleared := false, heldByPin := !s.start.tripped && !s.start.resetN } }

/-- The trip latch is cleared with the core, and its reset carried out (R66). -/
def State.tripLeft (s : State) : State :=
  (State.carryOut { s with start := { s.start with tripped := false } } .l0 5 false).setPar P.THERMAL_STAGE 0 0

theorem execPorRelease_eq (s : State) (hp : s.start.por = true) (hm : s.monitored = true) :
    execPorRelease s = .next (State.porOver (if s.start.tripped then (if s.start.coreCleared then s.tripLeft else s.countReset .l0)
      else s.carryOut .l0 0 false)) := by
  unfold execPorRelease State.porOver State.tripLeft
  rw [if_neg (by simp [hp, hm])]

theorem State.par_porOver (s : State) (id idx : Nat) : s.porOver.par id idx = s.par id idx := rfl

/-- Power-on reset is released once its three supplies are valid; a trip is left only where the core was cleared (R54, R58, R66). -/
theorem execPorRelease_releases (s : State) (hp : s.start.por = true) (hm : s.monitored = true) :
    ∃ t, exec .porRelease s = .next t ∧ t.start.por = false ∧ t.pending = s.pending ∧ t.now = s.now ∧
      (s.start.tripped = false → t.par P.RESET_CAUSE = 0 ∧ t.start.resetting = some .l0 ∧ t.start.ready = 0 ∧
        (t.start.heldByPin = true ↔ s.start.resetN = false)) ∧
      (s.start.tripped = true → s.start.coreCleared = true → t.start.tripped = false ∧ t.par P.RESET_CAUSE = 5) ∧
      (s.start.tripped = true → s.start.coreCleared = false → t.start.tripped = true ∧
        t.par P.RESET_COUNT 0 = (s.par P.RESET_COUNT 0 + 1) % 2 ^ 32) := by
  refine ⟨_, execPorRelease_eq s hp hm, rfl, ?_⟩
  cases ht : s.start.tripped with
  | false =>
    have hcause := s.carryOut_cause .l0 0 false
    rw [if_neg nofun, State.par_porOver, hcause, State.carryOut_l0_eq]
    refine ⟨rfl, rfl, fun _ => ⟨rfl, rfl, rfl, ?_⟩, nofun, nofun⟩
    simp [State.porOver, State.resetL0, ht]
  | true =>
    rw [if_pos rfl]
    cases hc : s.start.coreCleared with
    | true =>
      have hcause := State.carryOut_cause { s with start := { s.start with tripped := false } } .l0 5 false
      rw [if_pos rfl, State.par_porOver, State.tripLeft, State.par_setPar_other (id := P.THERMAL_STAGE) (id' := P.RESET_CAUSE) _ _
        (by decide) (by decide) (by decide), hcause, State.carryOut_l0_eq]
      exact ⟨rfl, rfl, nofun, fun _ _ => ⟨rfl, rfl⟩, fun _ => nofun⟩
    | false =>
      rw [if_neg nofun]
      exact ⟨rfl, rfl, nofun, fun _ => nofun, fun _ _ => ⟨ht, State.par_bump s P.RESET_COUNT 0 32⟩⟩

/-! Lamp banks -/

/-- A bank that becomes valid takes the weak pull-down and its class (R48, R526). -/
theorem execBankSupplyValid_takes (b : Fin 4) (high : Bool) (s : State) (h : s.valid (7 + b) = false) :
    ∃ t, exec (.bankSupplyValid b high) s = .next t ∧ t.valid (7 + b) = true ∧
      SMap.get .off t.start.banks b = .weakDown ∧ (b.val ∈ t.start.class33 ↔ high = true) ∧
      t = { s with start := { s.start with valid := t.start.valid, banks := t.start.banks, class33 := t.start.class33 } } := by
  have hvalid : (s.setValid (7 + b) true).valid (7 + b) = true := s.valid_setValid _ _
  have hbank := SMap.get_set_same BankMode.off s.start.banks b .weakDown
  refine ⟨_, rfl, ?_⟩
  simp only [h, Bool.false_and, Bool.false_eq_true, if_false]
  refine ⟨hvalid, hbank, ?_, rfl⟩
  cases high with
  | true => simp [NSet.mem_add]
  | false => simp [NSet.mem_del]

/-- The map state of a bank follows its weak pull-down once the option bytes are read (R48, R56). -/
theorem execBankMapApply_maps (b : Fin 4) (s : State) (ho : s.start.optionRead = true)
    (hw : SMap.get .off s.start.banks b = .weakDown) :
    ∃ t, exec (.bankMapApply b) s = .next t ∧ SMap.get .off t.start.banks b = .map ∧
      t = { s with start := { s.start with banks := t.start.banks } } := by
  refine ⟨_, rfl, ?_⟩
  have hbank := SMap.get_set_same BankMode.off s.start.banks b .map
  rw [if_pos (by simp [ho, hw])]
  exact ⟨hbank, rfl⟩

/-- The transaction that bus `q` carries ends without a result, and the bus is free (R56). -/
def State.busStops (s : State) (q : Nat) : State :=
  match (s.bus q).owner with
  | .idle => s
  | .program a => s.programDone q a 3 []
  | .health n => (s.busFree q).healthFailed q n
  | _ => s.busFree q

/-- What leaves with a bank's supply before its buses: its pins and its ports (R56). -/
def State.bankDown (s : State) (b : Nat) : State :=
  let t := s.setValid (7 + b) false
  { t with start := { t.start with banks := SMap.set .off t.start.banks b .off
                                   oeFree := t.start.oeFree.filter fun p => p / 8 != b } }

theorem State.bankLost_eq (s : State) (b : Nat) : s.bankLost b =
    (((s.bankDown b).raiseIf s.start.optionRead E.BANK_SUPPLY_LOST b).busStops (2 * b)).busStops (2 * b + 1) := by
  unfold State.bankLost State.bankDown State.busStops
  rfl

theorem State.bus_busFree (s : State) (q p : Nat) :
    (s.busFree q).bus p = if p = q then { s.bus q with owner := .idle, retried := false } else s.bus p := by
  by_cases h : p = q
  · subst h
    rw [if_pos rfl]
    exact SMap.get_set_same _ _ _ _
  · rw [if_neg h]
    exact SMap.get_set_ne _ _ _ _ h

theorem State.present_buses (s : State) (q code : Nat) : (s.present q code).drive.buses = s.drive.buses := by
  simp only [State.present]
  split
  · rfl
  · split
    · split
      · rfl
      · rw [State.raiseTick_drive]
        rfl
    · rfl

/-- Both ends of a transaction leave the buses as a freed bus does, and the start-up state alone. -/
theorem State.programDone_keeps (s : State) (q a st : Nat) (bytes : List Byte) :
    (s.programDone q a st bytes).drive.buses = (s.busFree q).drive.buses ∧ (s.programDone q a st bytes).start = s.start := by
  unfold State.programDone
  rw [State.present_buses, State.present_start]
  exact ⟨rfl, rfl⟩

theorem State.healthFailed_keeps (s : State) (q strand : Nat) :
    (s.healthFailed q strand).drive.buses = s.drive.buses ∧ (s.healthFailed q strand).start = s.start := by
  unfold State.healthFailed
  rw [State.raiseLimited_drive, State.raiseLimited_start]
  exact ⟨rfl, rfl⟩

theorem State.busStops_start (s : State) (q : Nat) : (s.busStops q).start = s.start := by
  unfold State.busStops
  split
  · rfl
  · exact (s.programDone_keeps q _ 3 []).2
  · exact ((s.busFree q).healthFailed_keeps q _).2
  · rfl

theorem State.bus_congr {s t : State} (h : t.drive.buses = s.drive.buses) (p : Nat) : t.bus p = s.bus p := by
  rw [State.bus, h, State.bus]

/-- A bus that stops is idle, whatever it carried, and no other bus changes (R56). -/
theorem State.bus_busStops (s : State) (q : Nat) :
    ((s.busStops q).bus q).owner = .idle ∧ ∀ p, p ≠ q → (s.busStops q).bus p = s.bus p := by
  have hfree {t : State} (h : t.drive.buses = (s.busFree q).drive.buses) :
      (t.bus q).owner = .idle ∧ ∀ p, p ≠ q → t.bus p = s.bus p := by
    simp only [State.bus_congr h, State.bus_busFree]
    exact ⟨rfl, fun p hp => if_neg hp⟩
  unfold State.busStops
  split
  · rename_i hidle
    exact ⟨hidle, fun p _ => rfl⟩
  · exact hfree (s.programDone_keeps q _ 3 []).1
  · exact hfree ((s.busFree q).healthFailed_keeps q _).1
  · exact hfree rfl

/-! What a bus that stops may write and raise besides its own state -/

section
variable {ids evs : List Nat} {id idx : Nat}

theorem State.par_bumpEvent_spared (h : spared ids evs id idx = true) (s : State) {e : Nat} (w : Nat) (hm : e ∈ evs)
    (he : e < 65536) : (s.bump P.EVENT_COUNT e w).par id idx = s.par id idx := by
  rw [spared_iff] at h
  obtain ⟨hx, -, hev⟩ := h
  refine s.par_setPar_ne _ fun hk => ?_
  unfold pkey at hk
  exact hev (by omega) ((by omega : idx = e) ▸ hm)

theorem State.par_raiseTick_spared (h : spared ids evs id idx = true) (s : State) {e : Nat} (i d k : Nat) (hm : e ∈ evs)
    (ho : E.EVENT_OVERFLOW ∈ evs) (he : e < 65536) : (s.raiseTick e i d k).par id idx = s.par id idx := by
  unfold State.raiseTick
  split
  · exact State.par_bumpEvent_spared h s 32 hm he
  · exact State.par_raise_spared h _ _ _ _ hm ho he

theorem State.par_raiseLimited_spared (h : spared ids evs id idx = true) (s : State) {e : Nat} (i n d : Nat) (hm : e ∈ evs)
    (ho : E.EVENT_OVERFLOW ∈ evs) (he : e < 65536) : (s.raiseLimited e i n d).par id idx = s.par id idx := by
  unfold State.raiseLimited
  split
  · exact State.par_raise_spared h s _ _ _ hm ho he
  · exact State.par_bumpEvent_spared h s 32 hm he

/-- The parameters and events of a bus that stops. -/
def busPars : List Nat := [P.EVENT_MISSED, P.READ_ERRORS]
def busEvents : List Nat := [E.EVENT_OVERFLOW, E.SEQ_EVENT_MISSED, E.HEALTH_READ_FAILED]

theorem State.par_present_spared (h : spared ids evs id idx = true) (s : State) {q : Nat} (code : Nat) (hq : q < 65536)
    (hi : busPars ⊆ ids) (he : busEvents ⊆ evs) : (s.present q code).par id idx = s.par id idx := by
  simp only [State.present]
  split
  · rfl
  · split
    · split
      · rfl
      · rw [State.par_raiseTick_spared h _ _ _ _ (he (by decide)) (he (by decide)) (by decide)]
        exact State.par_setPar_spared h s _ (hi (by decide)) hq
    · rfl

theorem State.par_busStops_spared (h : spared ids evs id idx = true) (s : State) {q : Nat} (hq : q < 65536)
    (hi : busPars ⊆ ids) (he : busEvents ⊆ evs) : (s.busStops q).par id idx = s.par id idx := by
  unfold State.busStops
  split
  · rfl
  · exact State.par_present_spared h _ 5 hq hi he
  · exact (State.par_raiseLimited_spared h _ _ _ _ (he (by decide)) (he (by decide)) (by decide)).trans
      (State.par_setPar_spared h _ _ (hi (by decide)) hq)
  · rfl

end

/-- A bank whose supply leaves its range loses its pins, its ports and both its buses, told once the option bytes are read (R56). -/
theorem execBankSupplyLeavesRange_loses (b : Fin 4) (s : State) (h : s.valid (7 + b) = true) :
    ∃ t, exec (.bankSupplyLeavesRange b) s = .next t ∧ t.valid (7 + b) = false ∧
      SMap.get .off t.start.banks b = .off ∧ (∀ p, p ∈ t.start.oeFree ↔ p ∈ s.start.oeFree ∧ p / 8 ≠ b.val) ∧
      (t.bus (2 * b)).owner = .idle ∧ (t.bus (2 * b + 1)).owner = .idle ∧
      (s.start.optionRead = true → s.told t E.BANK_SUPPLY_LOST) := by
  have hvalid : (s.bankDown b).valid (7 + b) = false := s.valid_setValid (7 + b) false
  have hbank : SMap.get .off (s.bankDown b).start.banks b = .off := SMap.get_set_same BankMode.off s.start.banks b .off
  refine ⟨_, congrArg Host.Outcome.next (if_pos h), ?_⟩
  rw [State.bankLost_eq]
  generalize hu : (s.bankDown b).raiseIf s.start.optionRead E.BANK_SUPPLY_LOST b = u
  have hstart : ((u.busStops (2 * b)).busStops (2 * b + 1)).start = (s.bankDown b).start := by
    rw [State.busStops_start, State.busStops_start, ← hu, State.raiseIf_start]
  obtain ⟨hidle, -⟩ := u.bus_busStops (2 * b)
  obtain ⟨hidle', hkeep⟩ := (u.busStops (2 * b)).bus_busStops (2 * b + 1)
  rw [State.valid, hstart]
  refine ⟨hvalid, hbank, fun p => ?_, ?_, hidle', fun ho => ?_⟩
  · simp [State.bankDown, State.setValid]
  · rw [hkeep _ (by omega)]
    exact hidle
  · have hs : spared busPars busEvents P.EVENT_COUNT E.BANK_SUPPLY_LOST = true := by decide
    have htold : (s.bankDown b).told u E.BANK_SUPPLY_LOST := by
      rw [← hu, ho]
      exact State.told_raise _ _ _ _ _ (by decide)
    refine State.told_of_after (State.told_of_before htold rfl) ?_
    rw [State.par_busStops_spared hs _ (by omega) (by simp) (by simp),
      State.par_busStops_spared hs _ (by omega) (by simp) (by simp)]

/-- Settles O13: each clause is the law of its command. -/
theorem suppliesAndPowerOnReset : Obligations.SuppliesAndPowerOnReset := by
  unfold Obligations.SuppliesAndPowerOnReset
  refine ⟨execSupplyValid_rises, execSupplyDip_resets, execSupplyFall_falls, execPorRelease_releases, fun b s => ⟨?_, ?_, ?_⟩⟩
  · exact fun high => execBankSupplyValid_takes b high s
  · exact execBankMapApply_maps b s
  · exact execBankSupplyLeavesRange_loses b s

end Sys2Proof.Machine
end

section
/-! Operations of the staged start that leave the start-up state alone: lanes and trims, the log and the update's blocks, stored
banks, correction and pump. -/

namespace Sys2Proof.Machine

/-- Either branch of a choice keeps the start-up state. -/
theorem State.start_ite {s a b : State} {c : Prop} [Decidable c] (ha : a.start = s.start) (hb : b.start = s.start) :
    (if c then a else b).start = s.start := by
  split
  · exact ha
  · exact hb

/-! Lanes and trims (R122, R125, R458) -/

theorem State.laneRestart_start (s : State) (n : Nat) : (s.laneRestart n).start = s.start := State.laneGo_start _ n L.SIGNAL

theorem State.laneStart_start (s : State) (n : Nat) : (s.laneStart n).start = s.start := by
  unfold State.laneStart
  refine State.start_ite rfl (State.start_ite (State.laneGo_start _ _ _) ?_)
  exact (State.send_start _ _).trans (State.laneRestart_start _ n)

theorem State.lanesStart_start (s : State) : s.lanesStart.start = s.start :=
  State.each_keeps State.start _ _ _ fun t n => State.start_ite rfl (t.laneStart_start n)

theorem State.trimDirect_start (s : State) : s.trimDirect.start = s.start :=
  State.each_keeps State.start _ _ _ fun _ _ => State.start_ite rfl rfl

theorem State.domainFail_start (s : State) (d : Nat) : (s.domainFail d).start = s.start := by
  unfold State.domainFail
  refine State.start_ite rfl ?_
  rw [State.raiseIf_start, State.raise_start]
  rfl

theorem State.calibrateTerm_start (s : State) : s.calibrateTerm.start = s.start := by
  unfold State.calibrateTerm
  refine State.start_ite rfl ?_
  rw [State.domainFail_start]

theorem State.frontTrims_start (s : State) : s.frontTrims.start = s.start := by
  unfold State.frontTrims
  refine State.start_ite s.calibrateTerm_start ?_
  unfold State.retarget
  rw [State.trimDirect_start]
  exact s.calibrateTerm_start

theorem State.frontStart_start (s : State) : s.frontStart.start = s.start := by
  unfold State.frontStart
  rw [State.lanesStart_start]
  exact State.start_ite rfl rfl

theorem State.dramWake_start (s : State) : s.dramWake.start = s.start := State.start_ite rfl rfl

/-! The log and the update's blocks (R488, R508, R512) -/

theorem State.queueRec_start (s : State) (r : EvRec) : (s.queueRec r).start = s.start := by
  unfold State.queueRec
  refine State.start_ite rfl (State.start_ite rfl ?_)
  exact State.raiseLimited_start _ _ _ _ _

theorem State.pinsRec_start (s : State) (r : EvRec) : (s.pinsRec r).start = s.start := by
  unfold State.pinsRec
  dsimp only
  refine State.start_ite (State.setPar_start _ _ _ _ |>.trans ?_) ?_ <;> exact State.start_ite rfl rfl

theorem State.storeRec_start (s : State) (r : EvRec) : (s.storeRec r).start = s.start := State.start_ite rfl rfl

theorem State.amendRec_start (s : State) (r : EvRec) : (s.amendRec r).start = s.start := by
  unfold State.amendRec
  exact State.start_ite (State.start_ite rfl rfl) (State.start_ite rfl rfl)

theorem State.noteWrite_start (s : State) : s.noteWrite.start = s.start := State.start_ite rfl rfl

theorem State.writeRaise_start (s : State) (r : Raise) : (s.writeRaise r).start = s.start := by
  unfold State.writeRaise
  dsimp only
  split
  · exact (State.amendRec_start _ _).trans s.noteWrite_start
  · rw [State.pinsRec_start, State.queueRec_start, State.storeRec_start]
    exact (State.count_start _ _ _).trans s.noteWrite_start

theorem State.writeHeld_start (s : State) : s.writeHeld.start = s.start :=
  State.foldl_keeps State.start _ _ _ State.writeRaise_start

theorem State.imageDone_start (s : State) : s.imageDone.start = s.start := by
  unfold State.imageDone
  refine State.start_ite (State.start_ite ?_ ?_) ?_ <;> exact State.raise_start _ _ _ _ _

theorem State.verifyRun_start (s : State) (n : Nat) : (s.verifyRun n).start = s.start := by
  induction n generalizing s with
  | zero => rfl
  | succ n ih =>
    unfold State.verifyRun
    refine State.start_ite (State.start_ite s.imageDone_start rfl) (State.start_ite rfl (State.start_ite ?_ ?_))
    · exact ih _
    · exact State.raiseLimited_start _ _ _ _ _

theorem State.rescan_start (s : State) : s.rescan.start = s.start :=
  State.start_ite (State.verifyRun_start _ _) rfl

theorem State.logRecover_start (s : State) : s.logRecover.start = s.start := by
  unfold State.logRecover
  refine (State.raiseIf_start _ _ _ _ _).trans (State.each_keeps State.start _ _ _ fun t i => ?_)
  dsimp only
  split
  · exact State.start_ite rfl rfl
  · rfl

/-! Stored banks, the ledger and the fault list (R296, R305, R364) -/

theorem State.loadStored_start (s : State) (kind b : Nat) : (s.loadStored kind b).start = s.start := by
  unfold State.loadStored
  split
  · rfl
  · exact State.start_ite rfl (State.raiseIf_start _ _ _ _ _)

theorem State.loadBanks_start (s : State) : s.loadBanks.start = s.start := by
  unfold State.loadBanks
  refine State.start_ite ?_ (State.start_ite (s.loadStored_start _ _) rfl)
  refine (State.each_keeps State.start _ _ _ fun t i => t.loadStored_start _ _).trans ?_
  rw [State.loadStored_start, State.loadStored_start]

theorem State.loadLedger_start (s : State) : s.loadLedger.start = s.start := by
  unfold State.loadLedger
  dsimp only
  split
  · rfl
  · exact State.raise_start _ _ _ _ _

theorem State.loadTile_start (s : State) : s.loadTile.start = s.start := by
  unfold State.loadTile State.loadFaults
  refine State.start_ite rfl ?_
  exact (State.loadLedger_start _).trans (State.loadBanks_start _)

/-! Correction and pump (R284, R383) -/

theorem State.copyDue_start (s : State) : s.copyDue.start = s.start := by
  unfold State.copyDue
  split <;> rfl

theorem State.corrRise_start (s : State) : s.corrRise.start = s.start := by
  unfold State.corrRise
  refine State.each_keeps State.start _ _ _ fun t k => State.start_ite ?_ rfl
  exact State.copyDue_start _

theorem State.writeOut_start (s : State) (l : Nat) : (s.writeOut l).start = s.start := by
  unfold State.writeOut State.setDuty
  dsimp only
  refine State.start_ite (State.start_ite rfl rfl) (State.start_ite (State.start_ite rfl rfl) (State.start_ite ?_ rfl))
  exact State.raiseIf_start _ _ _ _ _

theorem State.idleOutputs_start (s : State) : s.idleOutputs.start = s.start := by
  unfold State.idleOutputs
  refine State.start_ite rfl (State.start_ite ?_ rfl)
  exact State.raise_start _ _ _ _ _

theorem State.pumpStart_start (s : State) : s.pumpStart.start = s.start := by
  unfold State.pumpStart
  rw [State.idleOutputs_start]
  refine (State.each_keeps State.start _ _ _ fun t l => State.start_ite rfl (t.writeOut_start l)).trans ?_
  exact State.each_keeps State.start _ _ _ fun _ _ => rfl

/-! What ends a standby or a downshift, and a member's message (R415, R440) -/

theorem State.sendMember_start (s : State) (len : Nat) (o : Out) : (s.sendMember len o).start = s.start :=
  State.start_ite rfl (State.raise_start _ _ _ _ _)

theorem State.speedPass_start (s : State) : s.speedPass.start = s.start :=
  State.start_ite ((State.send_start _ _).trans (State.raise_start _ _ _ _ _)) rfl

theorem State.standbyCheck_start (s : State) : s.standbyCheck.start = s.start := by
  unfold State.standbyCheck
  refine State.start_ite rfl ?_
  rw [State.raise_start, State.setPar_start]
  dsimp only
  refine State.each_keeps State.start s _ _ fun t c => ?_
  rfl

end Sys2Proof.Machine
end

section
/-! Ready bits and their prerequisites (R77, R78): the closure bit by bit, and what keeps a grounded bit grounded. -/

namespace Sys2Proof.Machine

/-! The closure, bit by bit -/

/-- The closure over the bits below `k`. -/
def closureBelow (head : Bool) (m k : Nat) : Nat :=
  (List.range k).foldl (fun r i => if bit m i && (prereqs head i).all (bit r) then r + 2 ^ i else r) 0

theorem readyClosure_eq (head : Bool) (m : Nat) : readyClosure head m = closureBelow head m 16 := rfl

theorem closureBelow_lt (head : Bool) (m k : Nat) : closureBelow head m k < 2 ^ k :=
  (fold_bits (fun r i => bit m i && (prereqs head i).all (bit r)) k).1

theorem closureBelow_succ (head : Bool) (m k : Nat) : closureBelow head m (k + 1) =
    if bit m k && (prereqs head k).all (bit (closureBelow head m k)) then closureBelow head m k + 2 ^ k
    else closureBelow head m k := by
  rw [closureBelow, List.range_succ, List.foldl_append]
  rfl

/-- A later bit changes no earlier one. -/
theorem bit_closureBelow_succ (head : Bool) (m : Nat) {k n : Nat} (h : n < k) :
    bit (closureBelow head m (k + 1)) n = bit (closureBelow head m k) n := by
  rw [closureBelow_succ]
  split
  · rw [bit_eq_testBit, bit_eq_testBit, Nat.add_comm, Nat.testBit_two_pow_add_gt h]
  · rfl

theorem bit_closureBelow_last (head : Bool) (m k : Nat) : bit (closureBelow head m (k + 1)) k =
    (bit m k && (prereqs head k).all (bit (closureBelow head m k))) := by
  have hlast : (closureBelow head m k).testBit k = false := Nat.testBit_lt_two_pow (closureBelow_lt head m k)
  rw [closureBelow_succ]
  split
  · rename_i h
    rw [h, bit_eq_testBit, Nat.add_comm, Nat.testBit_two_pow_add_eq, hlast]
    rfl
  · rename_i h
    rw [Bool.not_eq_true] at h
    rw [h, bit_eq_testBit, hlast]

theorem bit_closureBelow (head : Bool) (m : Nat) {k l n : Nat} (hn : n < k) (hk : k ≤ l) :
    bit (closureBelow head m l) n = bit (closureBelow head m k) n := by
  induction l, hk using Nat.le_induction with
  | base => rfl
  | succ l hl ih => rw [bit_closureBelow_succ head m (by omega), ih]

/-- A prerequisite has a lower number than its bit, and is never REDUNDANCY_SYNC (R77). -/
theorem prereqs_lower {head : Bool} {n p : Nat} (h : p ∈ prereqs head n) : p < n ∧ p ≠ B.REDUNDANCY_SYNC := by
  have htable : ∀ head : Bool, ∀ n < 16, ∀ p ∈ prereqs head n, p < n ∧ p ≠ B.REDUNDANCY_SYNC := by decide
  by_cases hn : n < 16
  · exact htable head n hn p h
  · obtain ⟨k, rfl⟩ := Nat.exists_eq_add_of_le' (not_lt.mp hn)
    cases (show p ∈ [] from h)

/-- A bit is in the closure where it is set and all its prerequisites are in the closure (R78). -/
theorem bit_readyClosure_iff {head : Bool} {m n : Nat} : bit (readyClosure head m) n = true ↔
    n < 16 ∧ bit m n = true ∧ ∀ p ∈ prereqs head n, bit (readyClosure head m) p = true := by
  rw [readyClosure_eq]
  by_cases hn : n < 16
  · have hbelow (p : Nat) (hp : p ∈ prereqs head n) :
        bit (closureBelow head m n) p = bit (closureBelow head m 16) p :=
      (bit_closureBelow head m (prereqs_lower hp).1 hn.le).symm
    rw [bit_closureBelow head m (Nat.lt_succ_self n) hn, bit_closureBelow_last, Bool.and_eq_true, List.all_eq_true]
    exact ⟨fun ⟨hm, hp⟩ => ⟨hn, hm, fun p h => (hbelow p h) ▸ hp p h⟩,
      fun ⟨_, hm, hp⟩ => ⟨hm, fun p h => (hbelow p h).symm ▸ hp p h⟩⟩
  · refine ⟨fun h => ?_, fun h => absurd h.1 hn⟩
    have hbig : closureBelow head m 16 < 2 ^ n :=
      lt_of_lt_of_le (closureBelow_lt head m 16) (Nat.pow_le_pow_right (by decide) (by omega))
    rw [bit_eq_testBit, Nat.testBit_lt_two_pow hbig] at h
    cases h

/-- Setting more bits than REDUNDANCY_SYNC takes no other bit out of the closure. -/
theorem readyClosure_mono {head : Bool} {m m' : Nat}
    (h : ∀ n, n ≠ B.REDUNDANCY_SYNC → bit (readyClosure head m) n = true → bit m' n = true) {n : Nat}
    (hn : n ≠ B.REDUNDANCY_SYNC) (hb : bit (readyClosure head m) n = true) : bit (readyClosure head m') n = true := by
  induction n using Nat.strong_induction_on with
  | _ n ih =>
    obtain ⟨hlt, -, hpre⟩ := bit_readyClosure_iff.mp hb
    refine bit_readyClosure_iff.mpr ⟨hlt, h n hn hb, fun p hp => ?_⟩
    obtain ⟨hpn, hp14⟩ := prereqs_lower hp
    exact ih p hpn hp14 (hpre p hp)

/-! Grounded bits -/

/-- Adding a power of two that is not in a number changes no other bit. -/
theorem testBit_two_pow_add_ne {m i j : Nat} (h : m.testBit i = false) (hj : j ≠ i) : (2 ^ i + m).testBit j = m.testBit j := by
  induction i generalizing m j with
  | zero =>
    obtain ⟨j, rfl⟩ := Nat.exists_eq_add_one_of_ne_zero hj
    rw [← Nat.mod_two_eq_zero_iff_testBit_zero] at h
    rw [Nat.testBit_add_one, Nat.testBit_add_one, show (2 ^ 0 + m) / 2 = m / 2 by omega]
  | succ i ih =>
    have hhalf : (2 ^ (i + 1) + m) / 2 = 2 ^ i + m / 2 := by omega
    cases j with
    | zero =>
      simp only [Nat.testBit_zero]
      congr 2
      omega
    | succ j =>
      rw [Nat.testBit_add_one] at h
      rw [Nat.testBit_add_one, Nat.testBit_add_one, hhalf]
      exact ih h (by omega)

theorem State.grounded_iff {s : State} {n : Nat} :
    s.grounded n ↔ n < 16 ∧ s.rdy n = true ∧ ∀ p ∈ prereqs s.isHead n, s.grounded p := bit_readyClosure_iff

/-- Every grounded bit but REDUNDANCY_SYNC stays so while no such bit clears and the role stays. -/
theorem State.grounded_mono {s t : State} (hr : t.start.role = s.start.role)
    (h : ∀ n, n ≠ B.REDUNDANCY_SYNC → s.grounded n → t.rdy n = true) {n : Nat} (hn : n ≠ B.REDUNDANCY_SYNC)
    (hg : s.grounded n) : t.grounded n := by
  have hhead : t.isHead = s.isHead := by rw [State.isHead, hr, State.isHead]
  rw [State.grounded, hhead]
  exact readyClosure_mono h hn hg

/-- A bit that rises changes no other bit (R78). -/
theorem State.rdy_setReady_ne (s : State) {i n : Nat} (h : n ≠ i) : (s.setReady i).rdy n = s.rdy n := by
  unfold State.setReady
  split
  · rfl
  · rename_i hc
    have hi : s.rdy i = false := by
      simp only [Bool.or_eq_true, not_or, Bool.not_eq_true] at hc
      exact hc.1.1
    change bit (s.start.ready + 2 ^ i) n = bit s.start.ready n
    rw [State.rdy, bit_eq_testBit] at hi
    rw [bit_eq_testBit, bit_eq_testBit, Nat.add_comm]
    exact testBit_two_pow_add_ne hi h

theorem State.role_setReady (s : State) (i : Nat) : (s.setReady i).start.role = s.start.role := by rw [State.setReady_frame]

/-- No bit clears as one rises. -/
theorem State.rdy_setReady_of (s : State) (i : Nat) {n : Nat} (h : s.rdy n = true) : (s.setReady i).rdy n = true := by
  by_cases hn : n = i
  · subst hn
    have hsame : s.setReady n = s := if_pos (by simp [h])
    rwa [hsame]
  · rwa [s.rdy_setReady_ne hn]

/-- As REDUNDANCY_SYNC clears, no other bit with its prerequisites does (R78). -/
theorem State.rdy_clearReady_sync (s : State) {n : Nat} (hn : n ≠ B.REDUNDANCY_SYNC) (h : s.grounded n) :
    (s.clearReady B.REDUNDANCY_SYNC).rdy n = true := by
  have hmask : ∀ n < 16, n ≠ B.REDUNDANCY_SYNC → bit (0xFFFF - 2 ^ B.REDUNDANCY_SYNC) n = true := by decide
  rw [State.clearReady, State.keepReady_frame]
  refine readyClosure_mono (fun n hn h => ?_) hn h
  obtain ⟨hlt, hb, -⟩ := bit_readyClosure_iff.mp h
  have hm := hmask n hlt hn
  rw [bit_eq_testBit] at hb hm ⊢
  rw [Nat.testBit_and, hb, hm]
  rfl

end Sys2Proof.Machine
end

section
/-! The staged start (R45, R67 to R76): the option bytes, the regions in their turns, clock-good and low-water. -/

namespace Sys2Proof.Machine

/-! Option bytes -/

/-- Each group named takes its map state, and no other group moves (R45). -/
theorem State.groups_takeMap (s : State) (gs : List Nat) (keep : Bool) (g : Nat) :
    SMap.get .off (s.takeMap gs keep).start.groups g = if g ∈ gs then .map else SMap.get .off s.start.groups g := by
  unfold State.takeMap State.each
  induction gs generalizing s with
  | nil => rfl
  | cons h gs ih =>
    rw [List.foldl_cons, ih]
    by_cases hg : g = h
    · subst hg
      simp
    · simp [hg, SMap.get_set_ne]

/-- The pins' map touches the groups and what is noted of their levels and outputs (R45 to R47). -/
theorem State.takeMap_frame (s : State) (gs : List Nat) (keep : Bool) : s.takeMap gs keep =
    { s with start := { s.start with
        tpoHeld := (s.takeMap gs keep).start.tpoHeld, oeLowDue := (s.takeMap gs keep).start.oeLowDue
        groups := (s.takeMap gs keep).start.groups, keeps := (s.takeMap gs keep).start.keeps
        oeFree := (s.takeMap gs keep).start.oeFree } } := by
  have hloop (u : State) : (fun t : State => ({ t with start := { t.start with
      tpoHeld := u.start.tpoHeld, oeLowDue := u.start.oeLowDue, groups := u.start.groups, keeps := u.start.keeps
      oeFree := u.start.oeFree } } : State)) (s.takeMap gs keep) = { s with start := { s.start with
        tpoHeld := u.start.tpoHeld, oeLowDue := u.start.oeLowDue, groups := u.start.groups, keeps := u.start.keeps
        oeFree := u.start.oeFree } } := by
    unfold State.takeMap
    exact State.each_keeps (fun t : State => ({ t with start := { t.start with
      tpoHeld := u.start.tpoHeld, oeLowDue := u.start.oeLowDue, groups := u.start.groups, keeps := u.start.keeps
      oeFree := u.start.oeFree } } : State)) _ _ _ fun t g => rfl
  exact hloop (s.takeMap gs keep)

/-- Events raised in turn change the event state and the counts, nothing else. -/
theorem State.eachRaise_frame (s : State) (evs : List Nat) : s.each evs (fun s e => s.raise e) =
    { s with dict := (s.each evs fun s e => s.raise e).dict, ev := (s.each evs fun s e => s.raise e).ev } := by
  have hloop (u : State) : (fun t : State => ({ t with dict := u.dict, ev := u.ev } : State))
      (s.each evs fun s e => s.raise e) = { s with dict := u.dict, ev := u.ev } :=
    State.each_keeps (fun t : State => ({ t with dict := u.dict, ev := u.ev } : State)) _ _ _ fun t e => by
      rw [State.raise_eq]
  exact hloop (s.each evs fun s e => s.raise e)

/-- The role in force of a record with its source code: none where neither OTP copy is valid (R69, R70). -/
def roleOf (rec_ : List Byte) (source : Nat) : Role := if bit source 5 then .none else recordRole rec_

/-- The option bytes are read: the record and its role stand, and the banks leave their state of before (R48, R70). -/
def State.recordTaken (s : State) (flashOk : Bool) (rec_ : List Byte) (source : Nat) : State :=
  { s with start := { s.start with
      optionRead := true, flashOk := flashOk, record := rec_, role := roleOf rec_ source
      stopped := roleOf rec_ source == Role.none
      banks := s.start.banks.map fun (e : Nat × BankMode) => (e.1, .normal) } }

/-- The registers of the option read (R69, R70). -/
def State.optionShown (s : State) (rec_ : List Byte) (source : Nat) : State :=
  ((s.setPar P.OPTION_SOURCE 0 source).setPar P.ROLE_REQUESTED 0 (recField rec_ 8 2)).setPar P.ROLE_IN_FORCE 0
    (roleCode (roleOf rec_ source))

theorem execOptionByteRead_eq (s : State) (ok : Bool) (hp : s.start.por = false) (ho : s.start.optionRead = false)
    (ht : s.start.tripped = false) : ∃ keep, execOptionByteRead s ok = .next
      ((((s.recordTaken ok (s.chooseRecord ok).1 (s.chooseRecord ok).2.1).each (s.chooseRecord ok).2.2 fun s e => s.raise e).optionShown
        (s.chooseRecord ok).1 (s.chooseRecord ok).2.1).takeMap (List.range 16) keep) := by
  unfold execOptionByteRead State.optionShown State.recordTaken roleOf
  rw [if_neg (by simp [hp, ho, ht])]
  exact ⟨_, rfl⟩

/-- The option read takes the record the procedure chooses, with its role and its pin map (R45, R67 to R72). -/
theorem execOptionByteRead_takes (ok : Bool) (s : State) (hp : s.start.por = false) (ho : s.start.optionRead = false)
    (ht : s.start.tripped = false) :
    let c := s.chooseRecord ok
    ∃ t, exec (.optionByteRead ok) s = .next t ∧ t.start.optionRead = true ∧ t.start.record = c.1 ∧ t.start.flashOk = ok ∧
      t.start.role = (if bit c.2.1 5 = true then .none else recordRole c.1) ∧
      t.par P.OPTION_SOURCE = c.2.1 ∧ t.par P.ROLE_REQUESTED = recField c.1 8 2 ∧
      (∀ g, g < 16 → SMap.get .off t.start.groups g = .map) ∧
      t = { s with start := t.start, dict := t.dict, ev := t.ev } := by
  obtain ⟨keep, he⟩ := execOptionByteRead_eq s ok hp ho ht
  generalize s.chooseRecord ok = c at he
  obtain ⟨rec_, source, evs⟩ := c
  dsimp only at he ⊢
  generalize hu : ((s.recordTaken ok rec_ source).each evs fun s e => s.raise e) = u at he
  have hframe : u = { s.recordTaken ok rec_ source with dict := u.dict, ev := u.ev } := by
    rw [← hu]
    exact State.eachRaise_frame _ evs
  have hstart : u.start = (s.recordTaken ok rec_ source).start := by rw [hframe]
  have hsource : (u.optionShown rec_ source).par P.OPTION_SOURCE = source :=
    (State.par_setPar_other _ (id := P.ROLE_IN_FORCE) (id' := P.OPTION_SOURCE) _ (by decide) (by decide) (by decide)).trans
      ((State.par_setPar_other _ (id := P.ROLE_REQUESTED) (id' := P.OPTION_SOURCE) _ (by decide) (by decide) (by decide)).trans
        (State.par_setPar _ _ _ _))
  have hrole : (u.optionShown rec_ source).par P.ROLE_REQUESTED = recField rec_ 8 2 :=
    (State.par_setPar_other _ (id := P.ROLE_IN_FORCE) (id' := P.ROLE_REQUESTED) _ (by decide) (by decide) (by decide)).trans
      (State.par_setPar _ _ _ _)
  refine ⟨_, he, ?_⟩
  rw [State.par_takeMap, State.par_takeMap, hsource, hrole]
  have hgroups (g : Nat) (hg : g < 16) := (u.optionShown rec_ source).groups_takeMap (List.range 16) keep g
  have hmap := State.takeMap_frame (u.optionShown rec_ source) (List.range 16) keep
  generalize (u.optionShown rec_ source).takeMap (List.range 16) keep = t at hgroups hmap
  refine ⟨?_, ?_, ?_, ?_, rfl, rfl, fun g hg => ?_, ?_⟩
  · rw [hmap]; exact congrArg PartStart.optionRead hstart
  · rw [hmap]; exact congrArg PartStart.record hstart
  · rw [hmap]; exact congrArg PartStart.flashOk hstart
  · rw [hmap]; exact congrArg PartStart.role hstart
  · rw [hgroups g hg, if_pos (List.mem_range.mpr hg)]
  · rw [hmap]
    simp only [State.optionShown]
    rw [hframe]
    rfl

/-! Regions and their turns -/

/-- What the sequence of releases goes by: the regions released, their clock-goods and the turn (R74). -/
def State.sequenced (s : State) : SMap Bool × SMap Bool × Nat := (s.start.released, s.start.clockGood, s.start.turn)

theorem State.sequenced_of_start {s t : State} (h : t.start = s.start) : t.sequenced = s.sequenced := by
  rw [State.sequenced, h, State.sequenced]

theorem State.isReleased_of_sequenced {s t : State} (h : t.sequenced = s.sequenced) (r : Region) :
    t.isReleased r = s.isReleased r := congrArg (fun x : SMap Bool × SMap Bool × Nat => SMap.get false x.1 r.num) h

theorem State.sequenced_ite {s a b : State} {c : Prop} [Decidable c] (ha : a.sequenced = s.sequenced)
    (hb : b.sequenced = s.sequenced) : (if c then a else b).sequenced = s.sequenced := by
  split
  · exact ha
  · exact hb

theorem State.raise_sequenced (s : State) (e i d c : Nat) : (s.raise e i d c).sequenced = s.sequenced :=
  State.sequenced_of_start (s.raise_start _ _ _ _)

theorem State.raiseIf_sequenced (s : State) (b : Bool) (e i d : Nat) : (s.raiseIf b e i d).sequenced = s.sequenced :=
  State.sequenced_of_start (s.raiseIf_start _ _ _ _)

/-- Front's lanes go OFF with it; of the start-up state only its quiesced clusters are forgotten (R75). -/
theorem State.frontLost_start (s : State) :
    s.frontLost.start = { s.start with quiesced := s.start.quiesced.filter fun c => c / 32 != 3 } := by
  have hloop : (s.each (List.range 32) fun s n => if s.laneState n = L.OFF then s else s.laneGo n L.OFF).start = s.start :=
    State.each_keeps State.start _ _ _ fun t n => State.start_ite rfl (t.laneGo_start n L.OFF)
  unfold State.frontLost
  rw [← hloop]

theorem State.roleGo_sequenced (s : State) (r : Role) : (s.roleGo r).sequenced = s.sequenced := by
  unfold State.roleGo
  dsimp only
  refine State.sequenced_ite ?_ rfl
  refine (State.sequenced_of_start (State.frontStart_start _)).trans ?_
  rw [State.sequenced, State.frontLost_start]
  rfl

theorem State.stopLow_sequenced (s : State) : s.stopLow.sequenced = s.sequenced := State.roleGo_sequenced _ _

theorem State.memoryChecks_sequenced (s : State) : s.memoryChecks.sequenced = s.sequenced := by
  have hstop (u : State) (c : Prop) [Decidable c] (e : Nat) :
      (if c then (u.raise e).stopLow else u).sequenced = u.sequenced :=
    State.sequenced_ite ((State.stopLow_sequenced _).trans (u.raise_sequenced _ _ _ _)) rfl
  unfold State.memoryChecks
  dsimp only
  rw [State.raiseIf_sequenced, hstop, hstop]
  rfl

/-- What a region does as it is released moves no region and no turn (R74). -/
theorem State.regionStart_sequenced (s : State) (r : Region) : (s.regionStart r).sequenced = s.sequenced := by
  unfold State.regionStart
  cases r with
  | memory =>
    refine State.sequenced_ite ?_ s.memoryChecks_sequenced
    exact (State.sequenced_of_start (State.dramWake_start _)).trans s.memoryChecks_sequenced
  | front => exact State.sequenced_of_start ((State.frontStart_start _).trans s.frontTrims_start)
  | control | image | time => rfl

theorem State.resetDone_sequenced (s : State) : s.resetDone.sequenced = s.sequenced := by
  unfold State.resetDone
  exact State.sequenced_ite rfl (State.raiseIf_sequenced _ _ _ _ _)

/-- The turn passes to the next region still held, or beyond the last (R74). -/
def State.turnPassed (s : State) : State := { s with start := { s.start with turn := s.nextTurn } }

theorem State.turnOver_sequenced (s : State) : s.turnOver.sequenced = s.turnPassed.sequenced :=
  State.sequenced_ite (State.resetDone_sequenced _) rfl

theorem State.turn_of_sequenced {s t : State} (h : t.sequenced = s.sequenced) : t.start.turn = s.start.turn :=
  congrArg (fun x => x.2.2) h

/-- The next turn is a later one (R74). -/
theorem State.nextTurn_later (s : State) (h : s.start.turn ≤ 4) : s.start.turn < s.nextTurn := by
  unfold State.nextTurn
  cases hf : (List.range 5).find? fun n => decide (s.start.turn < n) && !SMap.get false s.start.released n with
  | none => exact Nat.lt_succ_of_le h
  | some n =>
    have hn := List.find?_some hf
    simp only [Bool.and_eq_true, decide_eq_true_eq] at hn
    exact hn.1

theorem State.turnOver_later (s : State) (h : s.start.turn ≤ 4) : s.start.turn < s.turnOver.start.turn := by
  rw [State.turn_of_sequenced s.turnOver_sequenced]
  exact s.nextTurn_later h

theorem State.isReleased_turnOver (s : State) (r : Region) : s.turnOver.isReleased r = s.isReleased r :=
  (State.isReleased_of_sequenced s.turnOver_sequenced r).trans rfl

theorem Region.num_injective : Function.Injective Region.num := by
  intro a b h
  cases a <;> cases b <;> simp [Region.num] at h ⊢

/-- A region is marked released, its clock-good with it (R74). -/
def State.releaseMarked (s : State) (r : Region) : State :=
  { s with start := { s.start with released := SMap.set false s.start.released r.num true
                                   clockGood := SMap.set false s.start.clockGood r.num true } }

theorem State.releaseRegion_sequenced (s : State) (r : Region) : (s.releaseRegion r).sequenced = (s.releaseMarked r).sequenced :=
  congrArg (fun c : PartStart => (SMap.set false c.released r.num true, SMap.set false c.clockGood r.num true, c.turn))
    s.trimDirect_start

theorem State.isReleased_releaseMarked (s : State) (r : Region) : (s.releaseMarked r).isReleased r = true :=
  SMap.get_set_same false s.start.released r.num true

theorem State.isReleased_releaseMarked_ne (s : State) {r r' : Region} (h : r' ≠ r) :
    (s.releaseMarked r).isReleased r' = s.isReleased r' :=
  SMap.get_set_ne false false s.start.released true fun e => h (Region.num_injective e)

/-- The release of a region, with what it does then. -/
def State.regionReleased (s : State) (r : Region) : State := (s.releaseRegion r).regionStart r

theorem State.regionReleased_sequenced (s : State) (r : Region) : (s.regionReleased r).sequenced = (s.releaseMarked r).sequenced :=
  (State.regionStart_sequenced _ r).trans (s.releaseRegion_sequenced r)

theorem State.turn_regionReleased (s : State) (r : Region) : (s.regionReleased r).start.turn = s.start.turn := by
  rw [State.turn_of_sequenced (s.regionReleased_sequenced r)]
  rfl

/-- EV 16 tells a turn that expired, and the device moves on (R74). -/
def State.turnExpired (s : State) (n : Nat) : State := (s.raise E.CLOCK_GOOD_TIMEOUT n).turnOver

theorem State.isReleased_turnExpired (s : State) (n : Nat) (r : Region) : (s.turnExpired n).isReleased r = s.isReleased r :=
  (State.isReleased_turnOver _ r).trans (State.isReleased_of_sequenced (s.raise_sequenced _ _ _ _) r)

theorem State.turnExpired_later (s : State) (n : Nat) (h : s.start.turn ≤ 4) : s.start.turn < (s.turnExpired n).start.turn := by
  have hraise : (s.raise E.CLOCK_GOOD_TIMEOUT n).start = s.start := s.raise_start _ _ _ _
  have hlater := (s.raise E.CLOCK_GOOD_TIMEOUT n).turnOver_later (hraise ▸ h)
  rwa [hraise] at hlater

/-- A region in its turn, or skipped in one, is released where it may be; a clock-good in the turn's last cycle is late (R27, R74). -/
theorem execRegionRelease_eq (r : Region) (tie : Bool) (s : State) (ho : s.start.optionRead = true) (hp : s.start.por = false)
    (ht : s.start.tripped = false) (hpin : s.start.heldByPin = false) (hl : s.start.longHeld = false)
    (hr : s.isReleased r = false) (hn : r.num ≤ s.start.turn) (hs : s.regionSupplied r = true)
    (hi : r = .image → s.isReleased .memory = true ∧ s.start.safeHold = false) :
    execRegionRelease r s tie = .next (if s.start.turn = r.num then
      (if (tie && s.start.resetting.isSome) = true then (s.turnExpired r.num).regionReleased r else (s.regionReleased r).turnOver)
      else s.regionReleased r) := by
  have himage : (r == .image && (!s.isReleased .memory || s.start.safeHold)) = false := by
    by_cases h : r = .image
    · simp [hi h]
    · simp [h]
  unfold execRegionRelease State.turnExpired State.regionReleased
  rw [if_neg (by simp [ho, hp, ht, hpin, hl, hr, hs, himage, hn])]
  by_cases hturn : s.start.turn = r.num
  · by_cases hlate : (tie && s.start.resetting.isSome) = true <;> simp [hturn, hlate]
  · simp [hturn]

/-- The region is released with its clock-good, no other with it, and its turn is then over (R55, R74). -/
theorem execRegionRelease_releases (r : Region) (tie : Bool) (s : State) (ho : s.start.optionRead = true)
    (hp : s.start.por = false) (ht : s.start.tripped = false) (hpin : s.start.heldByPin = false)
    (hl : s.start.longHeld = false) (hr : s.isReleased r = false) (hn : r.num ≤ s.start.turn) (hs : s.regionSupplied r = true)
    (hi : r = .image → s.isReleased .memory = true ∧ s.start.safeHold = false) :
    ∃ t, exec (.regionRelease r tie) s = .next t ∧ t.isReleased r = true ∧ SMap.get false t.start.clockGood r.num = true ∧
      (∀ r', r' ≠ r → t.isReleased r' = s.isReleased r') ∧ (s.start.turn = r.num → s.start.turn < t.start.turn) := by
  have hgood (u : State) : SMap.get false (u.releaseMarked r).sequenced.2.1 r.num = true :=
    SMap.get_set_same false u.start.clockGood r.num true
  refine ⟨_, execRegionRelease_eq r tie s ho hp ht hpin hl hr hn hs hi, ?_⟩
  by_cases hturn : s.start.turn = r.num
  · have hfour : s.start.turn ≤ 4 := by
      rw [hturn]
      cases r <;> decide
    rw [if_pos hturn]
    split
    · have h := (s.turnExpired r.num).regionReleased_sequenced r
      refine ⟨?_, ?_, fun r' hne => ?_, fun _ => ?_⟩
      · rw [State.isReleased_of_sequenced h, State.isReleased_releaseMarked]
      · exact (congrArg (fun x => SMap.get false x.2.1 r.num) h).trans (hgood _)
      · rw [State.isReleased_of_sequenced h, State.isReleased_releaseMarked_ne _ hne, State.isReleased_turnExpired]
      · rw [State.turn_regionReleased]
        exact s.turnExpired_later _ hfour
    · have h := s.regionReleased_sequenced r
      refine ⟨?_, ?_, fun r' hne => ?_, fun _ => ?_⟩
      · rw [State.isReleased_turnOver, State.isReleased_of_sequenced h, State.isReleased_releaseMarked]
      · have hpass := (s.regionReleased r).turnOver_sequenced
        exact (congrArg (fun x => SMap.get false x.2.1 r.num) hpass).trans
          ((congrArg (fun x => SMap.get false x.2.1 r.num) h).trans (hgood s))
      · rw [State.isReleased_turnOver, State.isReleased_of_sequenced h, State.isReleased_releaseMarked_ne _ hne]
      · have hlater := (s.regionReleased r).turnOver_later ((s.turn_regionReleased r).symm ▸ hfour)
        rwa [State.turn_regionReleased] at hlater
  · have h := s.regionReleased_sequenced r
    rw [if_neg hturn]
    refine ⟨?_, ?_, fun r' hne => ?_, fun e => absurd e hturn⟩
    · rw [State.isReleased_of_sequenced h, State.isReleased_releaseMarked]
    · exact (congrArg (fun x => SMap.get false x.2.1 r.num) h).trans (hgood s)
    · rw [State.isReleased_of_sequenced h, State.isReleased_releaseMarked_ne _ hne]

/-! A turn that expires (R60, R74) -/

theorem State.resetDone_frame (s : State) : s.resetDone =
    { s with start := s.resetDone.start, dict := s.resetDone.dict, ev := s.resetDone.ev } := by
  unfold State.resetDone
  split
  · rfl
  · rw [State.raiseIf_eq]

theorem State.turnOver_frame (s : State) : s.turnOver =
    { s with start := s.turnOver.start, dict := s.turnOver.dict, ev := s.turnOver.ev } := by
  unfold State.turnOver
  dsimp only
  split
  · rw [State.resetDone_frame]
  · rfl

theorem State.par_turnOver_spared {ids evs : List Nat} {id idx : Nat} (h : spared ids evs id idx = true) (s : State)
    (hp : E.POWER_ON ∈ evs) (ho : E.EVENT_OVERFLOW ∈ evs) : s.turnOver.par id idx = s.par id idx := by
  have hdone (u : State) : u.resetDone.par id idx = u.par id idx := by
    unfold State.resetDone
    split
    · rfl
    · exact State.par_raiseIf_spared h _ _ _ _ hp ho (by decide)
  unfold State.turnOver
  dsimp only
  split
  · exact hdone _
  · rfl

/-- A turn that expires is told, and the device moves on without the region (R60, R74). -/
theorem execClockGoodTurnExpiry_tells (s : State) (ho : s.start.optionRead = true) (hpin : s.start.heldByPin = false)
    (hl : s.start.longHeld = false) (ht : s.start.tripped = false) (hr : s.start.resetting ≠ none) (hn : s.start.turn ≤ 4) :
    ∃ t, exec .clockGoodTurnExpiry s = .next t ∧ s.told t E.CLOCK_GOOD_TIMEOUT ∧ s.start.turn < t.start.turn ∧
      t.start.released = s.start.released ∧ t = { s with start := t.start, dict := t.dict, ev := t.ev } := by
  have he : execClockGoodTurnExpiry s = .next (s.turnExpired s.start.turn) := by
    have hsome : s.start.resetting.isNone = false := by simpa using Option.isSome_iff_ne_none.mpr hr
    unfold execClockGoodTurnExpiry
    rw [if_neg (by simp [ho, hpin, hl, ht, hsome, hn])]
    rfl
  refine ⟨_, he, ?_, s.turnExpired_later _ hn, ?_, ?_⟩
  · exact State.told_of_after (State.told_raise s _ _ _ _ (by decide))
      (State.par_turnOver_spared (ids := []) (evs := [E.POWER_ON, E.EVENT_OVERFLOW]) (by decide) _ (by decide) (by decide))
  · have h := (State.turnOver_sequenced (s.raise E.CLOCK_GOOD_TIMEOUT s.start.turn)).trans rfl
    exact (congrArg Prod.fst h).trans (congrArg Prod.fst (s.raise_sequenced _ _ _ _))
  · rw [State.turnExpired, State.turnOver_frame, State.raise_eq]

/-! Clock-good lost and returned (R75) -/

/-- A region is held again: its clock-good is gone, it is told, and its ready bits clear (R75). -/
def State.regionHeld (s : State) (r : Region) : State :=
  (State.raise { s with start := { s.start with
      clockGood := SMap.set false s.start.clockGood r.num false
      released := SMap.set false s.start.released r.num false } } E.CLOCK_GOOD_LOST r.num).dropReady (regionBits r)

/-- What goes with a region that is held: Front's links, the pipeline, or the device's work altogether (R33, R75). -/
def State.regionLost (s : State) (r : Region) : State :=
  match r with
  | .front => s.frontLost
  | .image => s.restartBegun.clampPins.imageLost
  | _ => s.enterSafeHold

theorem execClockGoodDrop_eq (r : Region) (s : State) (h : s.isReleased r = true) :
    execClockGoodDrop r s = .next ((s.regionHeld r).regionLost r) := by
  unfold execClockGoodDrop
  dsimp only
  rw [if_neg (by simp [h])]
  cases r <;> rfl

theorem State.isReleased_regionHeld (s : State) (r : Region) : (s.regionHeld r).isReleased r = false := by
  rw [State.regionHeld, State.dropReady, State.keepReady_frame, State.raise_eq]
  exact SMap.get_set_same false s.start.released r.num false

/-- A region's own ready bits are clear once it is held (R75, R78). -/
theorem State.rdy_regionHeld (s : State) (r : Region) {i : Nat} (hi : i < 16) (hb : bit (regionBits r) i = true) :
    (s.regionHeld r).rdy i = false := by
  have hmask : bit (0xFFFF - regionBits r) i = false := by
    have htable (r : Region) : ∀ i < 16, bit (regionBits r) i = true → bit (0xFFFF - regionBits r) i = false := by
      cases r <;> decide
    exact htable r i hi hb
  by_contra h
  rw [Bool.not_eq_false] at h
  exact absurd ((State.rdy_keepReady h).2.symm.trans hmask) nofun

theorem State.rdy_congr {s t : State} (h : t.start.ready = s.start.ready) (i : Nat) : t.rdy i = s.rdy i := by
  rw [State.rdy, h, State.rdy]

theorem State.rdy_keepReady_false {s : State} (m : Nat) {i : Nat} (h : s.rdy i = false) : (s.keepReady m).rdy i = false := by
  by_contra hc
  rw [Bool.not_eq_false] at hc
  exact absurd ((State.rdy_keepReady hc).1.symm.trans h) nofun

/-- The evaluation of REDUNDANCY_SYNC raises no other bit (R189). -/
theorem State.rdy_syncEval_false {s : State} {i : Nat} (hi : i ≠ B.REDUNDANCY_SYNC) (h : s.rdy i = false) :
    s.syncEval.rdy i = false := by
  have hset : (s.setReady B.REDUNDANCY_SYNC).rdy i = false := (s.rdy_setReady_ne hi).trans h
  rcases s.syncEval_cases with e | e | ⟨t, rfl, e⟩ | e <;> rw [e]
  · exact h
  · exact hset
  · exact (State.rdy_congr (s := s.setReady B.REDUNDANCY_SYNC) (by rw [State.raise_start]) i).trans hset
  · exact State.rdy_keepReady_false _ h

/-- Leaving the acting states raises no ready bit but REDUNDANCY_SYNC. -/
theorem State.rdy_sluiceGo_false {s : State} {i : Nat} (new : Nat) (hn : actsIn new = false) (hi : i ≠ B.REDUNDANCY_SYNC)
    (h : s.rdy i = false) : (s.sluiceGo new).rdy i = false := by
  rw [State.sluiceGo_eq]
  refine State.rdy_syncEval_false hi ((State.rdy_congr ?_ i).trans h)
  rw [State.sluiceDuties_resting _ _ ((s.acting_entered new).trans hn), State.entered_frame]

/-- The loss of Image/Drive raises no ready bit but REDUNDANCY_SYNC. -/
theorem State.rdy_imageLost_false {s : State} {i : Nat} (hi : i ≠ B.REDUNDANCY_SYNC) (h : s.rdy i = false) :
    s.imageLost.rdy i = false := by
  have hoff : s.sluiceOff.pumpStop.imageEmptied.rdy i = false := by
    rw [State.sluiceOff_eq, State.rdy_congr (State.quieted_ready _)]
    exact State.rdy_sluiceGo_false SL.OFF (by decide) hi h
  rw [State.imageLost_eq]
  split
  · exact (State.rdy_congr (by rw [State.refillSlots_start]) i).trans hoff
  · exact hoff

theorem State.rdy_enterSafeHold_false {s : State} {i : Nat} (hi : i ≠ B.REDUNDANCY_SYNC) (h : s.rdy i = false) :
    s.enterSafeHold.rdy i = false := by
  cases hs : s.start.safeHold with
  | true =>
    have hsame : s.enterSafeHold = s := if_pos hs
    rwa [hsame]
  | false =>
    have hlast (u : State) : ((((u.holdRegions [4]).pumpsOff).logDramLost).raise E.SAFE_HOLD).start.ready = u.start.ready := by
      rw [State.raise_start]
      rfl
    rw [State.enterSafeHold_eq s hs, State.rdy_congr (hlast _)]
    refine State.rdy_imageLost_false hi ?_
    rw [State.rdy_congr (State.takeMap_ready _ _ _)]
    exact State.rdy_keepReady_false _ h

/-- In safe hold the device stays there, and every region but Image/Drive stays as it was (R33). -/
theorem State.enterSafeHold_keeps (s : State) :
    s.enterSafeHold.start.safeHold = true ∧ ∀ r, r ≠ .image → s.enterSafeHold.isReleased r = s.isReleased r := by
  cases hs : s.start.safeHold with
  | true =>
    have hsame : s.enterSafeHold = s := if_pos hs
    rw [hsame]
    exact ⟨hs, fun _ _ => rfl⟩
  | false =>
    have h := s.enterSafeHold_sansImage hs
    refine ⟨State.safeHold_of_sansImage h, fun r hne => ?_⟩
    rw [State.isReleased_of_sansImage h, State.isReleased_imageHeld_ne _ hne]
    rfl

/-- What goes with a region releases none again, and raises none of its ready bits. -/
theorem State.regionLost_keeps (s : State) (r : Region) (hr : s.isReleased r = false)
    (hb : ∀ i, i < 16 → bit (regionBits r) i = true → s.rdy i = false) :
    (s.regionLost r).isReleased r = false ∧
      (∀ i, i < 16 → bit (regionBits r) i = true → (s.regionLost r).rdy i = false) ∧
      (r = .control ∨ r = .memory ∨ r = .time → (s.regionLost r).start.safeHold = true) := by
  have hsafe (r : Region) (hne : r ≠ .image) (hsync : bit (regionBits r) B.REDUNDANCY_SYNC = false)
      (hr : s.isReleased r = false) (hb : ∀ i, i < 16 → bit (regionBits r) i = true → s.rdy i = false) :
      s.enterSafeHold.isReleased r = false ∧
        (∀ i, i < 16 → bit (regionBits r) i = true → s.enterSafeHold.rdy i = false) ∧
        (r = .control ∨ r = .memory ∨ r = .time → s.enterSafeHold.start.safeHold = true) := by
    obtain ⟨hhold, hkeep⟩ := s.enterSafeHold_keeps
    refine ⟨(hkeep r hne).trans hr, fun i hi hbit => State.rdy_enterSafeHold_false ?_ (hb i hi hbit), fun _ => hhold⟩
    rintro rfl
    exact absurd (hbit.symm.trans hsync) nofun
  cases r with
  | control => exact hsafe .control nofun (by decide) hr hb
  | memory => exact hsafe .memory nofun (by decide) hr hb
  | time => exact hsafe .time nofun (by decide) hr hb
  | front =>
    have hstart := s.frontLost_start
    refine ⟨?_, fun i hi hbit => ?_, by simp⟩
    · change s.frontLost.isReleased .front = false
      rw [State.isReleased, hstart]
      exact hr
    · exact (State.rdy_congr (s := s) (t := s.frontLost) (by rw [hstart]) i).trans (hb i hi hbit)
  | image =>
    have h : s.restartBegun.clampPins.imageLost.sansImage = s.restartBegun.sansImage := by
      rw [State.imageLost_sansImage, State.clampPins_sansImage]
    have hunready : s.restartBegun.clampPins.imageLost.imageUnready :=
      State.imageLost_imageUnready ((State.imageUnready_congr (State.clampPins_ready s.restartBegun)).mpr hb)
    exact ⟨(State.isReleased_of_sansImage h .image).trans hr, hunready, by simp⟩

/-- A region whose clock-good drops is held with its ready bits clear; Control, Memory and Time lead to safe hold (R75). -/
theorem execClockGoodDrop_holds (r : Region) (s : State) (h : s.isReleased r = true) :
    ∃ t, exec (.clockGoodDrop r) s = .next t ∧ t.isReleased r = false ∧
      (∀ i, i < 16 → bit (regionBits r) i = true → t.rdy i = false) ∧
      (r = .control ∨ r = .memory ∨ r = .time → t.start.safeHold = true) :=
  ⟨_, execClockGoodDrop_eq r s h,
    State.regionLost_keeps _ r (s.isReleased_regionHeld r) fun _ hi hb => s.rdy_regionHeld r hi hb⟩

/-- A region's clock-good stands again (R75). -/
def State.clockGoodMarked (s : State) (r : Region) : State :=
  { s with start := { s.start with clockGood := SMap.set false s.start.clockGood r.num true } }

theorem execClockGoodReturn_eq (r : Region) (s : State) (hr : s.isReleased r = false) (hn : s.start.resetting = none)
    (hp : s.start.por = false) (ht : s.start.tripped = false) (hs : s.regionSupplied r = true) (h5 : 5 ≤ s.start.turn)
    (hi : r ≠ .image) : execClockGoodReturn r s = .next (
      if r = .front then (((s.clockGoodMarked r).releaseRegion r).frontTrims).lanesStart
      else (s.clockGoodMarked r).releaseRegion r) := by
  have hrun : ¬ (s.start.por || s.start.tripped) = true := by simp [hp, ht]
  have hgo : ¬ ((s.clockGoodMarked r).isReleased r || (s.clockGoodMarked r).start.resetting.isSome ||
      (s.clockGoodMarked r).start.por || (s.clockGoodMarked r).start.tripped || !(s.clockGoodMarked r).regionSupplied r ||
      decide ((s.clockGoodMarked r).start.turn < 5)) = true := by
    simp [show (s.clockGoodMarked r).isReleased r = false from hr, show (s.clockGoodMarked r).start.resetting = none from hn,
      show (s.clockGoodMarked r).start.por = false from hp, show (s.clockGoodMarked r).start.tripped = false from ht,
      show (s.clockGoodMarked r).regionSupplied r = true from hs, show 5 ≤ (s.clockGoodMarked r).start.turn from h5]
  unfold execClockGoodReturn
  rw [if_neg hrun]
  refine congrArg Host.Outcome.next ((if_neg hgo).trans ?_)
  cases r with
  | image => exact absurd rfl hi
  | control | memory | time | front => rfl

/-- A region whose clock-good returns after the start is released again, and no other (R75). -/
theorem execClockGoodReturn_releases (r : Region) (s : State) (hr : s.isReleased r = false) (hn : s.start.resetting = none)
    (hp : s.start.por = false) (ht : s.start.tripped = false) (hs : s.regionSupplied r = true) (h5 : 5 ≤ s.start.turn)
    (hi : r ≠ .image) :
    ∃ t, exec (.clockGoodReturn r) s = .next t ∧ t.isReleased r = true ∧ ∀ r', r' ≠ r → t.isReleased r' = s.isReleased r' := by
  have hrel := (s.clockGoodMarked r).releaseRegion_sequenced r
  have hseq : (if r = .front then (((s.clockGoodMarked r).releaseRegion r).frontTrims).lanesStart
      else (s.clockGoodMarked r).releaseRegion r).sequenced = ((s.clockGoodMarked r).releaseMarked r).sequenced := by
    split
    · rwa [State.sequenced_of_start ((State.lanesStart_start _).trans (State.frontTrims_start _))]
    · exact hrel
  refine ⟨_, execClockGoodReturn_eq r s hr hn hp ht hs h5 hi, ?_, fun r' hne => ?_⟩
  · rw [State.isReleased_of_sequenced hseq, State.isReleased_releaseMarked]
  · rw [State.isReleased_of_sequenced hseq, State.isReleased_releaseMarked_ne _ hne]
    rfl

/-! Low-water (R45, R67, R76) -/

/-- The ready bits that low-water sets: OD_MIN, and FORWARD where Front runs (R76). -/
def State.lowWaterBits (s : State) : State :=
  let t := s.setReady B.OD_MIN
  if t.isReleased .front then t.setReady B.FORWARD else t

/-- Low-water is reached, and the events held before it are written (R67). -/
def State.lowWaterReached (s : State) : State := State.writeHeld { s with start := { s.start with lowWater := true } }

/-- What is told at low-water, and the rescan of a download's slot (R45, R488). -/
def State.lowWaterTold (s : State) : State :=
  ((s.each s.fixedGroups fun s g => s.raise E.PIN_MAP_FIXED g).raise E.LOW_WATER).rescan

theorem execLowWaterEntry_eq (s : State) (hl : s.start.lowWater = false) (hc : s.isReleased .control = true)
    (hn : s.start.resetting = none) : ∃ b, execLowWaterEntry s = .next
      ((s.raiseIf b E.ROLE_INVALID).lowWaterBits.lowWaterReached.lowWaterTold) := by
  unfold execLowWaterEntry State.lowWaterTold State.lowWaterReached State.lowWaterBits
  rw [if_neg (by simp [hl, hc, hn])]
  exact ⟨_, rfl⟩

theorem State.lowWaterTold_start (s : State) : s.lowWaterTold.start = s.start := by
  unfold State.lowWaterTold
  rw [State.rescan_start, State.raise_start]
  exact State.each_keeps State.start _ _ _ fun t g => t.raise_start _ _ _ _

theorem State.lowWaterReached_start (s : State) : s.lowWaterReached.start = { s.start with lowWater := true } :=
  State.writeHeld_start _

/-- OD_MIN, which no role leaves out and which stands on no other bit, is set (R77). -/
theorem State.lowWaterBits_sets (s : State) : s.lowWaterBits.rdy B.OD_MIN = true ∧
    s.lowWaterBits.start.released = s.start.released ∧ s.lowWaterBits.start.role = s.start.role := by
  have hmin : (s.setReady B.OD_MIN).rdy B.OD_MIN = true := by
    refine s.rdy_setReady B.OD_MIN ?_ rfl
    cases s.start.role <;> simp [roleBits]
  unfold State.lowWaterBits
  dsimp only
  split
  · refine ⟨State.rdy_setReady_of _ _ hmin, ?_, ?_⟩ <;> rw [State.setReady_frame, State.setReady_frame]
  · refine ⟨hmin, ?_, ?_⟩ <;> rw [State.setReady_frame]

/-- Low-water keeps the regions and the role, and sets OD_MIN (R76, R77). -/
theorem execLowWaterEntry_sets (s : State) (hl : s.start.lowWater = false) (hc : s.isReleased .control = true)
    (hn : s.start.resetting = none) :
    ∃ t, exec .lowWaterEntry s = .next t ∧ t.start.lowWater = true ∧ t.rdy B.OD_MIN = true ∧
      t.start.released = s.start.released ∧ t.start.role = s.start.role := by
  obtain ⟨b, he⟩ := execLowWaterEntry_eq s hl hc hn
  obtain ⟨hmin, hreleased, hrole⟩ := (s.raiseIf b E.ROLE_INVALID).lowWaterBits_sets
  refine ⟨_, he, ?_⟩
  rw [State.rdy, State.lowWaterTold_start, State.lowWaterReached_start]
  rw [State.raiseIf_start] at hreleased hrole
  exact ⟨rfl, hmin, hreleased, hrole⟩

end Sys2Proof.Machine
end

section
/-! A rising ready bit (R49, R77, R78): what follows it keeps every grounded bit but REDUNDANCY_SYNC. -/

namespace Sys2Proof.Machine

/-- From `s` to `t` the role stays, every grounded bit but REDUNDANCY_SYNC stays grounded, and the time at which bit `i` rose
stays (R78). -/
def State.keepsGround (i : Nat) (s t : State) : Prop :=
  t.start.role = s.start.role ∧ SMap.get 0 t.start.readyAt i = SMap.get 0 s.start.readyAt i ∧
    ∀ n, n ≠ B.REDUNDANCY_SYNC → s.grounded n → t.grounded n

theorem State.keepsGround_of (i : Nat) {s t : State} (hr : t.start.role = s.start.role)
    (hm : t.start.ready = s.start.ready) (ha : t.start.readyAt = s.start.readyAt) : State.keepsGround i s t :=
  ⟨hr, by rw [ha], fun _ hn hg => State.grounded_mono hr (fun n _ h => by
    rw [State.rdy_congr hm]
    exact (State.grounded_iff.mp h).2.1) hn hg⟩

theorem State.keepsGround_start {i : Nat} {s t : State} (h : t.start = s.start) : State.keepsGround i s t :=
  State.keepsGround_of i (by rw [h]) (by rw [h]) (by rw [h])

theorem State.keepsGround_refl (i : Nat) (s : State) : State.keepsGround i s s := State.keepsGround_start rfl

theorem State.keepsGround.trans {i : Nat} {s t u : State} (h : State.keepsGround i s t) (h' : State.keepsGround i t u) :
    State.keepsGround i s u := by
  obtain ⟨hr, ha, hg⟩ := h
  obtain ⟨hr', ha', hg'⟩ := h'
  exact ⟨hr'.trans hr, ha'.trans ha, fun n hn h => hg' n hn (hg n hn h)⟩

theorem State.keepsGround_ite {i : Nat} {s a b : State} {c : Prop} [Decidable c] (ha : State.keepsGround i s a)
    (hb : State.keepsGround i s b) : State.keepsGround i s (if c then a else b) := by
  split
  · exact ha
  · exact hb

/-- Setting a bit keeps the ground: what is set stays set. -/
theorem State.grounded_setReady {s : State} {n : Nat} (i : Nat) (hn : n ≠ B.REDUNDANCY_SYNC) (h : s.grounded n) :
    (s.setReady i).grounded n :=
  State.grounded_mono (s.role_setReady i) (fun _ _ hg => s.rdy_setReady_of i (State.grounded_iff.mp hg).2.1) hn h

/-- Another bit that rises keeps the ground. -/
theorem State.setReady_keepsGround {i j : Nat} (h : i ≠ j) (s : State) : State.keepsGround i s (s.setReady j) := by
  refine ⟨s.role_setReady j, ?_, fun _ => State.grounded_setReady j⟩
  unfold State.setReady
  split
  · rfl
  · exact SMap.get_set_ne 0 0 s.start.readyAt s.now h

theorem State.leaveMap_keepsGround (i j : Nat) (s : State) : State.keepsGround i s (s.leaveMap j) := by
  unfold State.leaveMap
  exact State.keepsGround_of i (State.each_keeps (fun t => t.start.role) _ _ _ fun _ _ => rfl)
    (State.each_keeps (fun t => t.start.ready) _ _ _ fun _ _ => rfl)
    (State.each_keeps (fun t => t.start.readyAt) _ _ _ fun _ _ => rfl)

/-! The sluice (R178, R189) -/

theorem State.becomeManager_start (s : State) : s.becomeManager.start = s.start := by
  unfold State.becomeManager
  refine State.start_ite rfl ?_
  exact (State.send_start _ _).trans ((State.raise_start _ _ _ _ _).trans ((State.setPar_start _ _ _ _).trans
    (State.raise_start _ _ _ _ _)))

theorem State.sluiceDuties_start (s : State) (was : Bool) : (s.sluiceDuties was).start = s.start :=
  State.start_ite (State.start_ite rfl (State.becomeManager_start _)) (State.start_ite rfl rfl)

section
variable {i : Nat} (hi : i ≠ B.REDUNDANCY_SYNC)
include hi

theorem State.syncEval_keepsGround (s : State) : State.keepsGround i s s.syncEval := by
  have hset := s.setReady_keepsGround hi
  rcases s.syncEval_cases with e | e | ⟨t, rfl, e⟩ | e <;> rw [e]
  · exact s.keepsGround_refl i
  · exact hset
  · exact hset.trans (State.keepsGround_start (State.raise_start _ _ _ _ _))
  · have hrole : (s.clearReady B.REDUNDANCY_SYNC).start.role = s.start.role := by
      rw [State.clearReady, State.keepReady_frame]
    refine ⟨hrole, ?_, fun _ hn hg => State.grounded_mono hrole (fun n hn hg => s.rdy_clearReady_sync hn hg) hn hg⟩
    rw [State.clearReady, State.keepReady_frame]

theorem State.sluiceGo_keepsGround (s : State) (new : Nat) : State.keepsGround i s (s.sluiceGo new) := by
  have hentered : State.keepsGround i s (s.entered new) := by
    refine State.keepsGround_of i ?_ ?_ ?_ <;> rw [State.entered_frame]
  rw [State.sluiceGo_eq]
  exact (hentered.trans (State.keepsGround_start (State.sluiceDuties_start _ _))).trans (State.syncEval_keepsGround hi _)

theorem State.claim_keepsGround (s : State) (cause : Nat) (bySwitch : Bool) :
    State.keepsGround i s (s.claim cause bySwitch) := by
  have hmarked : State.keepsGround i s (s.claimMarked cause bySwitch) := State.keepsGround_start rfl
  have hopened (t : State) : State.keepsGround i t (t.claimOpened bySwitch) := State.keepsGround_start rfl
  rw [State.claim_eq]
  exact (hmarked.trans (State.sluiceGo_keepsGround hi _ SL.CLAIM)).trans (hopened _)

theorem State.standbyEval_keepsGround (s : State) : State.keepsGround i s s.standbyEval := by
  rcases s.standbyEval_cases with e | ⟨c, e⟩ <;> rw [e]
  · exact s.keepsGround_refl i
  · exact State.claim_keepsGround hi s c false

theorem State.goStandby_keepsGround (s : State) : State.keepsGround i s s.goStandby :=
  (State.sluiceGo_keepsGround hi s SL.STANDBY).trans (State.standbyEval_keepsGround hi _)

theorem State.block_keepsGround (s : State) : State.keepsGround i s s.block :=
  (State.keepsGround_start (State.raiseIf_start _ _ _ _ _)).trans (State.sluiceGo_keepsGround hi _ SL.BLOCKED)

theorem State.blockCheck_keepsGround (s : State) : State.keepsGround i s s.blockCheck := by
  rcases s.blockCheck_cases with e | e <;> rw [e]
  · exact s.keepsGround_refl i
  · exact State.block_keepsGround hi s

/-- Single operation: the sluice acts alone, unless it is blocked at once. -/
theorem State.single_keepsGround (s : State) : State.keepsGround i s (s.sluiceGo SL.SINGLE).blockCheck :=
  (State.sluiceGo_keepsGround hi s SL.SINGLE).trans (State.blockCheck_keepsGround hi _)

theorem State.sluiceEval_keepsGround (s : State) : State.keepsGround i s s.sluiceEval := by
  rcases s.sluiceEval_cases with e | e | e | e | e | ⟨l, w, a, e⟩ <;> rw [e]
  · exact s.keepsGround_refl i
  · exact State.block_keepsGround hi s
  · exact State.goStandby_keepsGround hi s
  · exact State.single_keepsGround hi s
  · exact State.standbyEval_keepsGround hi s
  · exact State.keepsGround_start rfl

theorem State.holdoffOver_keepsGround (s : State) : State.keepsGround i s s.holdoffOver := by
  unfold State.holdoffOver
  refine State.keepsGround_ite (State.keepsGround_ite ?_ (State.keepsGround_ite ?_ (State.keepsGround_ite ?_ ?_)))
    (State.keepsGround_ite ?_ ?_)
  · exact State.claim_keepsGround hi s 0 false
  · exact State.claim_keepsGround hi s 1 false
  · exact State.goStandby_keepsGround hi s
  · exact s.keepsGround_refl i
  · exact State.claim_keepsGround hi s 1 false
  · exact s.keepsGround_refl i

theorem State.sluiceStart_keepsGround (s : State) : State.keepsGround i s s.sluiceStart := by
  unfold State.sluiceStart
  have hrejoin : State.keepsGround i s { s with red := { s.red with rejoin := true } } := State.keepsGround_start rfl
  have hholdoff (t : State) : State.keepsGround i t (t.sluiceGo SL.HOLDOFF).sluiceEval :=
    (State.sluiceGo_keepsGround hi t SL.HOLDOFF).trans (State.sluiceEval_keepsGround hi _)
  refine State.keepsGround_ite (s.keepsGround_refl i) (hrejoin.trans ?_)
  refine State.keepsGround_ite (State.block_keepsGround hi _) (State.keepsGround_ite (State.single_keepsGround hi _) ?_)
  refine (hholdoff _).trans (State.keepsGround_ite ?_ (State.keepsGround_refl i _))
  exact (State.holdoffOver_keepsGround hi _).trans (State.sluiceEval_keepsGround hi _)

end

/-! What follows the rise (R78, R215) -/

theorem State.lockTold_start (s : State) : s.lockTold.start = s.start := State.raiseIf_start _ _ _ _ _

theorem State.lockAgain_keepsGround {i : Nat} (h : i ≠ B.TIME_LOCK) (s : State) : State.keepsGround i s s.lockAgain := by
  unfold State.lockAgain
  refine State.keepsGround_ite ((State.setReady_keepsGround h s).trans ?_) (s.keepsGround_refl i)
  refine State.keepsGround_ite ?_ (State.keepsGround_refl i _)
  exact (State.leaveMap_keepsGround i B.TIME_LOCK _).trans (State.keepsGround_start (State.lockTold_start _))

/-- What follows the rise of FW: a trial's window, the sluice, a tile's stored banks and TIME_LOCK. -/
theorem State.risenFw_keepsGround (s : State) : State.keepsGround B.FW s (s.risen B.FW) := by
  have hwindow : State.keepsGround B.FW s
      (if s.upd.st = U.TRIAL then { s with upd := { s.upd with windowAt := some s.controlNow } } else s) :=
    State.keepsGround_ite (State.keepsGround_start rfl) (s.keepsGround_refl _)
  have hsluice (t : State) : State.keepsGround B.FW t (if t.start.pg14Late then t else t.sluiceStart) :=
    State.keepsGround_ite (t.keepsGround_refl _) (State.sluiceStart_keepsGround (by decide) t)
  have hload (t : State) : State.keepsGround B.FW t (if t.isTile then t.loadTile else t) :=
    State.keepsGround_ite (State.keepsGround_start t.loadTile_start) (t.keepsGround_refl _)
  exact (hwindow.trans ((hsluice _).trans (hload _))).trans (State.lockAgain_keepsGround (by decide) _)

theorem State.risen_keepsGround {i : Nat} (hi : i ≠ B.REDUNDANCY_SYNC) (s : State) : State.keepsGround i s (s.risen i) := by
  unfold State.risen
  split
  · exact State.lockAgain_keepsGround (by decide) s
  · exact State.keepsGround_start s.logRecover_start
  · exact s.risenFw_keepsGround
  · exact State.keepsGround_start s.lockTold_start
  · exact State.keepsGround_of _ rfl rfl rfl
  · exact State.sluiceStart_keepsGround hi s
  · exact (State.keepsGround_start s.corrRise_start).trans (State.keepsGround_of _ rfl rfl rfl)
  · refine (State.sluiceStart_keepsGround hi s).trans (State.keepsGround_ite ?_ (State.keepsGround_refl _ _))
    exact State.keepsGround_start (State.sendMember_start _ _ _)
  · exact State.keepsGround_start s.pumpStart_start
  · exact s.keepsGround_refl i

/-! The law of READY_BIT_RISE -/

/-- What follows the bit once it is set: its pin groups, its function, a downshifted link and DRAM standby. -/
def State.afterRise (s : State) (i : Nat) : State := (((s.leaveMap i).risen i).speedPass).standbyCheck

theorem State.afterRise_keepsGround {i : Nat} (hi : i ≠ B.REDUNDANCY_SYNC) (s : State) :
    State.keepsGround i s (s.afterRise i) :=
  ((State.leaveMap_keepsGround i i s).trans (State.risen_keepsGround hi _)).trans
    (State.keepsGround_start ((State.standbyCheck_start _).trans (State.speedPass_start _)))

/-- The bank a head loads as FIXTURES rises (R312). -/
def State.fixLoaded (s : State) (i : Fin 16) : State :=
  if i.val = 12 ∧ s.isHead = true ∧ (s.bank BK.FIX (s.par P.FIX_BANK)).st = 0 then s.loadBanks else s

theorem State.fixLoaded_start (s : State) (i : Fin 16) : (s.fixLoaded i).start = s.start :=
  State.start_ite s.loadBanks_start rfl

theorem State.fixLoaded_now (s : State) (i : Fin 16) : (s.fixLoaded i).now = s.now := by
  unfold State.fixLoaded
  split
  · exact congrArg (fun x => x.2.1) s.loadBanks_fixed
  · rfl

section
variable {i : Fin 16} {s : State} (hr : s.rdy i = false) (hrole : i.val ∈ roleBits s.start.role s.paired)
  (hpre : ∀ p ∈ prereqs s.isHead i, s.grounded p)

include hrole hpre in
/-- A bit with grounded prerequisites is grounded once it is set. -/
theorem State.grounded_setReady_self : (s.setReady i).grounded i := by
  have hset : (prereqs s.isHead i).all s.rdy = true :=
    List.all_eq_true.mpr fun p hp => (State.grounded_iff.mp (hpre p hp)).2.1
  have hhead : (s.setReady i).isHead = s.isHead := by rw [State.isHead, s.role_setReady, State.isHead]
  refine State.grounded_iff.mpr ⟨i.isLt, s.rdy_setReady i (List.contains_iff_mem.mpr hrole) hset, fun p hp => ?_⟩
  rw [hhead] at hp
  exact State.grounded_setReady i (prereqs_lower hp).2 (hpre p hp)

include hr hrole hpre in
/-- A bit that may rise and has not takes the present as its time. -/
theorem State.readyAt_setReady : SMap.get 0 (s.setReady i).start.readyAt i = s.now := by
  have hset : (prereqs s.isHead i).all s.rdy = true :=
    List.all_eq_true.mpr fun p hp => (State.grounded_iff.mp (hpre p hp)).2.1
  unfold State.setReady
  rw [if_neg (by simp [hr, hset, hrole])]
  exact SMap.get_set_same _ _ _ _

end

theorem execReadyBitRise_eq {i : Fin 16} {s : State} (hi : i.val ≠ B.REDUNDANCY_SYNC) (ht : s.start.tripped = false)
    (hu : s.usable i = true) (hr : s.rdy i = false) (hset : ((s.fixLoaded i).setReady i).rdy i = true) :
    exec (.readyBitRise i) s = .next (((s.fixLoaded i).setReady i).afterRise i) := by
  change execReadyBitRise i s = _
  unfold execReadyBitRise
  rw [if_neg (by simp [ht, hu, hr]), if_neg hi]
  have hkept : (!((s.fixLoaded i).setReady i).rdy i) ≠ true := by simp [hset]
  exact congrArg Host.Outcome.next (if_neg hkept)

theorem execReadyBitRise_rises (i : Fin 16) (s : State) (hi : i.val ≠ 14) (ht : s.start.tripped = false)
    (hu : s.usable i = true) (hr : s.rdy i = false) (hrole : i.val ∈ roleBits s.start.role s.paired)
    (hpre : ∀ p ∈ prereqs s.isHead i, s.grounded p) :
    ∃ t, exec (.readyBitRise i) s = .next t ∧ t.grounded i ∧ SMap.get 0 t.start.readyAt i = s.now ∧
      ∀ n, n ≠ 14 → s.grounded n → t.grounded n := by
  have hground (n : Nat) : (s.fixLoaded i).grounded n ↔ s.grounded n := by
    rw [State.grounded, State.isHead, s.fixLoaded_start, State.grounded, State.isHead]
  have hr' : (s.fixLoaded i).rdy i = false := by rw [State.rdy, s.fixLoaded_start]; exact hr
  have hrole' : i.val ∈ roleBits (s.fixLoaded i).start.role (s.fixLoaded i).paired := by
    rw [State.paired, s.fixLoaded_start]; exact hrole
  have hpre' : ∀ p ∈ prereqs (s.fixLoaded i).isHead i, (s.fixLoaded i).grounded p := by
    rw [State.isHead, s.fixLoaded_start]; exact fun p hp => (hground p).mpr (hpre p hp)
  have hself := State.grounded_setReady_self hrole' hpre'
  obtain ⟨-, hat, hkept⟩ := State.afterRise_keepsGround hi ((s.fixLoaded i).setReady i)
  refine ⟨_, execReadyBitRise_eq hi ht hu hr (State.grounded_iff.mp hself).2.1, hkept i hi hself, ?_, fun n hn hg => ?_⟩
  · rw [hat, State.readyAt_setReady hr' hrole' hpre', s.fixLoaded_now]
  · exact hkept n hn (State.grounded_setReady i hn ((hground n).mpr hg))

/-- Settles O15: each clause is the law of its command. -/
theorem stagedStart : Obligations.StagedStart := by
  unfold Obligations.StagedStart
  exact ⟨execOptionByteRead_takes, execRegionRelease_releases, execClockGoodTurnExpiry_tells, execClockGoodDrop_holds,
    execClockGoodReturn_releases, execLowWaterEntry_sets, execReadyBitRise_rises⟩

end Sys2Proof.Machine
end

section
/-! Resets carried out (R57 to R66, R80, R81): what a reset of each level keeps and loses, and the presses, requests and time-outs
that lead to one. -/

namespace Sys2Proof.Machine

/-! What a reset keeps -/

/-- What lasts through a reset of any level, with the marks of its entry: queue and clock, stored settings, slots, flash, fuses, keys. -/
def State.lasting (s : State) :
    (List Instr × Nat × SMap Nat × SMap Slot × SMap Stored × Nat × SMap Key) × Option Level × Bool × Option ResetClass :=
  ((s.pending, s.now, s.od.stored, s.upd.slots, s.store.flash, s.security.fuses, s.security.keys),
    s.start.resetting, s.start.longHeld, s.start.request)

/-- The stored copies in flash. -/
def State.copies (s : State) : SMap Stored := s.store.flash

theorem State.lasting_of_sansImage {s t : State} (h : t.sansImage = s.sansImage) (hf : t.copies = s.copies) :
    t.lasting = s.lasting := by
  have hpart : ({ t.sansImage with store := { flash := t.copies } } : State).lasting =
      ({ s.sansImage with store := { flash := s.copies } } : State).lasting := by rw [h, hf]
  exact hpart

theorem State.raise_lasting (s : State) (e i d c : Nat) : (s.raise e i d c).lasting = s.lasting := by
  rw [State.raise_eq]
  rfl

theorem State.raiseIf_lasting (s : State) (b : Bool) (e i d : Nat) : (s.raiseIf b e i d).lasting = s.lasting := by
  rw [State.raiseIf_eq]
  rfl

theorem State.dropReady_lasting (s : State) (m : Nat) : (s.dropReady m).lasting = s.lasting := by
  rw [State.dropReady, State.keepReady_frame]
  rfl

theorem State.takeMap_lasting (s : State) (gs : List Nat) (keep : Bool) : (s.takeMap gs keep).lasting = s.lasting := by
  rw [State.takeMap_frame]
  rfl

/-- The program slots are filled from flash, which stays (R445). -/
theorem State.refillSlots_copies (s : State) : s.refillSlots.copies = s.copies := by
  have hload (u : State) (i : Nat) : ((u.putBank BK.PROG i {}).loadStored BK.PROG i).copies = u.copies := by
    unfold State.loadStored
    split <;> rfl
  unfold State.refillSlots
  refine (State.each_keeps State.copies _ _ _ fun t q => ?_).trans (State.each_keeps State.copies _ _ _ fun t i => ?_)
  · dsimp only
    split <;> rfl
  · dsimp only
    rw [State.copies, State.raiseIf_store, State.setPar_store]
    exact hload t i

theorem State.quieted_store (s : State) : s.sluiceQuiet.pumpStop.imageEmptied.store = s.store := rfl

theorem State.imageLost_copies (s : State) : s.imageLost.copies = s.copies := by
  have hgo : (s.sluiceGo SL.OFF).store = s.store :=
    (congrArg State.store (s.sluiceGo_sansGo SL.OFF) : (s.sluiceGo SL.OFF).sansGo.store = s.sansGo.store)
  have hoff : s.sluiceOff.pumpStop.imageEmptied.store = s.store := by
    rw [State.sluiceOff_eq, State.quieted_store, hgo]
  rw [State.imageLost_eq]
  split
  · rw [State.refillSlots_copies, State.copies, hoff, State.copies]
  · rw [State.copies, hoff, State.copies]

theorem State.imageLost_lasting (s : State) : s.imageLost.lasting = s.lasting :=
  State.lasting_of_sansImage s.imageLost_sansImage s.imageLost_copies

theorem State.scanCheck_lasting (s : State) : s.scanCheck.lasting = s.lasting := by
  unfold State.scanCheck
  split
  · rfl
  · split
    · rfl
    · unfold State.scanEnd
      split
      · rfl
      · exact State.raise_lasting _ _ _ _ _

theorem State.laneGo_lasting (s : State) (n st : Nat) : (s.laneGo n st).lasting = s.lasting := by
  rw [State.laneGo_eq, State.scanCheck_lasting, State.raiseIf_lasting, State.raiseIf_lasting]
  rfl

theorem State.frontLost_lasting (s : State) : s.frontLost.lasting = s.lasting := by
  unfold State.frontLost
  generalize hu : (s.each (List.range 32) fun s n => if s.laneState n = L.OFF then s else s.laneGo n L.OFF) = u
  have hloop : u.lasting = s.lasting := by
    rw [← hu]
    exact State.each_keeps State.lasting _ _ _ fun t n => by rw [apply_ite State.lasting, State.laneGo_lasting, ite_self]
  exact hloop

theorem State.scanCheck_tile (s : State) : s.scanCheck.tile = s.tile := by
  unfold State.scanCheck
  split
  · rfl
  · split
    · rfl
    · unfold State.scanEnd
      split
      · rfl
      · exact State.raise_tile _ _ _ _ _

theorem State.laneGo_tile (s : State) (n st : Nat) : (s.laneGo n st).tile = s.tile := by
  rw [State.laneGo_eq, State.scanCheck_tile, State.raiseIf_tile, State.raiseIf_tile]
  rfl

theorem State.frontLost_tile (s : State) : s.frontLost.tile = s.tile := by
  have hloop : (s.each (List.range 32) fun s n => if s.laneState n = L.OFF then s else s.laneGo n L.OFF).tile = s.tile :=
    State.each_keeps State.tile _ _ _ fun t n => by rw [apply_ite State.tile, State.laneGo_tile, ite_self]
  unfold State.frontLost
  rw [← hloop]

/-- The channels go to sleep: the DRAM part, its state and a counter change, nothing else (R439). -/
theorem State.dramSleep_keeps (s : State) : s.dramSleep.lasting = s.lasting ∧ s.dramSleep.start = s.start ∧ s.dramSleep.tile = s.tile := by
  have hchan (t : State) (c : Nat) : (t.chanSleep c).lasting = t.lasting ∧ (t.chanSleep c).start = t.start ∧
      (t.chanSleep c).tile = t.tile := by
    unfold State.chanSleep
    dsimp only
    rw [State.count_eq]
    exact ⟨rfl, rfl, rfl⟩
  unfold State.dramSleep
  split
  · exact ⟨rfl, rfl, rfl⟩
  · exact ⟨State.each_keeps State.lasting _ (List.range 16) State.chanSleep fun t c => (hchan t c).1,
      State.each_keeps State.start _ (List.range 16) State.chanSleep fun t c => (hchan t c).2.1,
      State.each_keeps State.tile _ (List.range 16) State.chanSleep fun t c => (hchan t c).2.2⟩

/-! The reset of each level -/

/-- A reset of a level, before RESET_CAUSE, RESET_COUNT and what is told of it (R62). -/
def State.resetTo (s : State) (l : Level) : State := match l with | .l0 => s.resetL0 | .l1 => s.resetL1 | .l2 => s.resetL2

/-- The entry of a reset: it is under way, and at L1 a waiting request goes (R59, R60). -/
def State.resetBegun (s : State) (l : Level) : State :=
  { s with start := { s.start with resetting := some l, request := if l = .l2 then s.start.request else none } }

/-- The entry of an L1 reset, with the marks of low-water, of PG14 and of the commit latch (R62). -/
def State.l1Begun (s : State) : State :=
  { s with start := { s.start with resetting := some .l1, lowWater := false, pg14Late := false, latchHold := false } }

/-- The entry of an L2 reset: PG14 and the commit latch wait for the pipeline (R46, R65). -/
def State.l2Begun (s : State) : State :=
  { s with start := { s.start with resetting := some .l2, pg14Late := true, latchHold := true } }

/-- What an L1 reset takes from the regions that restart, Control apart (R62, R439). -/
def State.l1Lost (s : State) : State :=
  ((((s.l1Begun.takeMap (List.range 16) true).dropReady 0xFFFF).dramSleep).imageLost).frontLost

/-- The end of an L1 reset's work: Control is lost, every region but Time is held, and the start sequence begins (R62). -/
def State.l1Ends (s : State) : State :=
  let s := s.controlLost
  let s := { s with red := { sluiceI := s.red.sluiceI, entries := s.red.entries, eAcc := s.red.eAcc, otherManager := s.red.otherManager }
                    chain := { s.chain with lValid := [] }, time := s.time.l1, health := { s.health with untold := 0 } }
  let s := ((s.resetParams .l1).countersLost [0, 1, 3, 4]).holdRegions [0, 1, 3, 4]
  { s with start := { s.start with
    turn := 0, optionRead := false, porOut := false, highWater := false, quiesced := [], restarting := false, request := none, safeHold := false
    stopped := false, noFirmware := false }, od := { s.od with dirty := false } }

theorem State.resetL1_eq (s : State) : s.resetL1 = s.l1Lost.l1Ends := by
  unfold State.resetL1 State.l1Ends State.l1Lost State.l1Begun
  rfl

/-- A waiting request does not outlive an L1 reset (R62). -/
def State.requestGone (s : State) : State := { s with start := { s.start with request := none } }

theorem State.requestGone_lasting {s t : State} (h : t.lasting = s.lasting) : t.requestGone.lasting = s.requestGone.lasting :=
  congrArg (fun x => (x.1, x.2.1, x.2.2.1, (none : Option ResetClass))) h

theorem State.l1Ends_keeps (s : State) : s.l1Ends.lasting = s.requestGone.lasting ∧ s.l1Ends.isReleased .image = false ∧
    s.l1Ends.tile.front = s.tile.front ∧ s.l1Ends.start.ready = s.start.ready :=
  ⟨rfl, SMap.get_set_same false _ 4 false, rfl, rfl⟩

theorem State.l1Lost_lasting (s : State) : s.l1Lost.lasting = s.l1Begun.lasting := by
  rw [State.l1Lost, State.frontLost_lasting, State.imageLost_lasting, (State.dramSleep_keeps _).1, State.dropReady_lasting,
    State.takeMap_lasting]

/-- Every ready bit clears at L1 (R62, R78): the pipeline's with REDUNDANCY_SYNC among them, and the others as none rises. -/
theorem State.l1Lost_unready (s : State) {i : Nat} (hi : i < 16) : s.l1Lost.rdy i = false := by
  have hdrop {j : Nat} (hj : j < 16) : ((s.l1Begun.takeMap (List.range 16) true).dropReady 0xFFFF).dramSleep.rdy j = false := by
    rw [State.rdy_congr (s := (s.l1Begun.takeMap (List.range 16) true).dropReady 0xFFFF) (by rw [(State.dramSleep_keeps _).2.1])]
    by_contra h
    rw [Bool.not_eq_false] at h
    have hnone : ∀ k < 16, bit (0xFFFF - 0xFFFF) k = false := by decide
    exact absurd ((State.rdy_keepReady h).2.symm.trans (hnone j hj)) nofun
  rw [State.l1Lost, State.rdy_congr (s := (((s.l1Begun.takeMap (List.range 16) true).dropReady 0xFFFF).dramSleep).imageLost)
    (by rw [State.frontLost_start])]
  by_cases hsync : i = B.REDUNDANCY_SYNC
  · exact State.imageLost_imageUnready (fun j hj _ => hdrop hj) i hi (by rw [hsync]; decide)
  · exact State.rdy_imageLost_false hsync (hdrop hi)

/-- What an L2 reset takes from Image/Drive, and what holds it until its restart (R46, R62). -/
def State.l2Lost (s : State) : State :=
  ((s.l2Begun.dropReady imageBits).takeMap s.l2Begun.pipelineGroups true).imageLost

/-- The end of an L2 reset's work: Image/Drive is held for its turn (R62). -/
def State.l2Ends (s : State) : State :=
  let s := ((s.resetParams .l2).countersLost [4]).holdRegions [4]
  { s with start := { s.start with turn := 4, restarting := false }
           time := { s.time with ranked := none, firstAt := none, rankNext := none } }

theorem State.resetL2_eq (s : State) : s.resetL2 = s.l2Lost.l2Ends := by
  unfold State.resetL2 State.l2Ends State.l2Lost State.l2Begun
  rfl

theorem State.l2Ends_keeps (s : State) : s.l2Ends.lasting = s.lasting ∧ s.l2Ends.isReleased .image = false ∧
    s.l2Ends.tile.front = s.tile.front ∧ s.l2Ends.start.ready = s.start.ready :=
  ⟨rfl, SMap.get_set_same false _ 4 false, rfl, rfl⟩

theorem State.l2Lost_lasting (s : State) : s.l2Lost.lasting = s.l2Begun.lasting := by
  rw [State.l2Lost, State.imageLost_lasting, State.takeMap_lasting, State.dropReady_lasting]

theorem State.l2Lost_unready (s : State) : s.l2Lost.imageUnready :=
  State.imageLost_imageUnready ((State.imageUnready_congr (State.takeMap_ready _ _ _)).mpr (State.dropReady_imageUnready _))

/-- A reset keeps what lasts, holds Image/Drive without a front buffer, and clears the pipeline's ready bits or all of them (R62, R78). -/
theorem State.resetTo_keeps (s : State) (l : Level) : (s.resetTo l).lasting = (s.resetBegun l).lasting ∧
    (s.resetTo l).isReleased .image = false ∧ (s.resetTo l).tile.front = none ∧
    ∀ i, i < 16 → l ≠ .l2 ∨ bit imageBits i = true → (s.resetTo l).rdy i = false := by
  cases l with
  | l0 => exact ⟨rfl, rfl, rfl, fun i _ _ => State.rdy_of_ready_zero rfl i⟩
  | l1 =>
    rw [State.resetTo, State.resetL1_eq]
    obtain ⟨hlast, hheld, hfront, hready⟩ := s.l1Lost.l1Ends_keeps
    refine ⟨hlast.trans (State.requestGone_lasting s.l1Lost_lasting), hheld, ?_, fun i hi _ => ?_⟩
    · rw [hfront, State.l1Lost, State.frontLost_tile, State.imageLost_front]
    · rw [State.rdy_congr hready, State.l1Lost_unready s hi]
  | l2 =>
    rw [State.resetTo, State.resetL2_eq]
    obtain ⟨hlast, hheld, hfront, hready⟩ := s.l2Lost.l2Ends_keeps
    refine ⟨hlast.trans s.l2Lost_lasting, hheld, ?_, fun i hi hb => ?_⟩
    · rw [hfront, State.l2Lost, State.imageLost_front]
    · rw [State.rdy_congr hready]
      exact s.l2Lost_unready i hi (hb.resolve_left fun h => h rfl)

/-! Carrying a reset out -/

/-- Beyond the reset itself, carrying one out touches only parameters and events (R62, R80, R81). -/
theorem State.carryOut_eq (s : State) (l : Level) (source : Nat) (escalated : Bool) : s.carryOut l source escalated =
    { s.resetTo l with dict := (s.carryOut l source escalated).dict, ev := (s.carryOut l source escalated).ev } := by
  have he : s.carryOut l source escalated = (((s.resetTo l).setPar P.RESET_CAUSE 0
      (16 * levelCode l + 8 * b2n escalated + source)).countReset l).raiseIf escalated E.RESET_ESCALATED := rfl
  rw [he, State.raiseIf_eq]
  rfl

/-- What is told of a reset by its source: EV 1 for a short one, EV 2 for a long one (R81). -/
def State.resetTold (s : State) (source : Nat) : State :=
  (s.raiseIf (source == 1 || source == 3) E.RESET_SHORT).raiseIf (source == 2 || source == 4) E.RESET_LONG

theorem State.resetTold_eq (s : State) (source : Nat) : s.resetTold source =
    { s with dict := (s.resetTold source).dict, ev := (s.resetTold source).ev } := by
  rw [State.resetTold, State.raiseIf_eq, State.raiseIf_eq]

theorem State.resetTold_cause (s : State) (source : Nat) : (s.resetTold source).par P.RESET_CAUSE = s.par P.RESET_CAUSE := by
  rw [State.resetTold, State.par_raiseIf _ _ _ _ _ (by decide) (by decide) (by decide),
    State.par_raiseIf _ _ _ _ _ (by decide) (by decide) (by decide)]

theorem State.enterReset_eq (s : State) (l : Level) (source : Nat) (hr : s.start.resetting = none)
    (ht : s.start.tripped = false) :
    s.enterReset l source = (s.carryOut (s.deepen l) source (s.deepen l != l)).resetTold source := by
  unfold State.enterReset State.resetTold
  rw [if_neg (by simp [ht]), hr]
  rfl

/-- With no trip latched and no reset under way, a reset is carried out at its level, deepened as R64 says (R60 to R64, R80). -/
theorem State.enterReset_resets (s : State) (l : Level) (source : Nat) (hr : s.start.resetting = none)
    (ht : s.start.tripped = false) : s.resetInto (s.enterReset l source) l source ∧
      (s.enterReset l source).start.longHeld = s.start.longHeld ∧
      (s.start.request = none → (s.enterReset l source).start.request = none) := by
  obtain ⟨hlast, hheld, hfront, hready⟩ := s.resetTo_keeps (s.deepen l)
  have hcause := (State.resetTold_cause _ source).trans (s.carryOut_cause (s.deepen l) source (s.deepen l != l))
  rw [← State.enterReset_eq s l source hr ht] at hcause
  have he : s.enterReset l source = { s.resetTo (s.deepen l) with
      dict := (s.enterReset l source).dict, ev := (s.enterReset l source).ev } := by
    rw [State.enterReset_eq s l source hr ht, State.resetTold_eq, State.carryOut_eq]
  generalize s.enterReset l source = t at hcause he ⊢
  have ht : t.lasting = (s.resetBegun (s.deepen l)).lasting := by rw [he]; exact hlast
  simp only [State.lasting, State.resetBegun, Prod.mk.injEq] at ht
  obtain ⟨⟨hpending, hnow, hstored, hslots, hflash, hfuses, hkeys⟩, hresetting, hlong, hrequest⟩ := ht
  refine ⟨⟨hresetting, hcause, ?_, ?_, ?_, hpending, hnow, hstored, hslots, hflash, hfuses, hkeys⟩, hlong, fun hn => ?_⟩
  · rw [he]
    exact hready
  · rw [he]
    exact hheld
  · rw [he]
    exact hfront
  · rw [hrequest, hn, ite_self]

/-- With a trip latched, or while a reset as deep is carried out, a reset is only counted (R60, R66). -/
theorem State.enterReset_counts (s : State) (l : Level) (source : Nat)
    (h : s.start.tripped = true ∨ ∃ r, s.start.resetting = some r ∧ levelDepth l ≤ levelDepth r) :
    s.enterReset l source = s.bump P.RESET_COUNT (levelCode l) := by
  have hcount : s.countReset l = s.bump P.RESET_COUNT (levelCode l) := by cases l <;> rfl
  unfold State.enterReset
  split
  · exact hcount
  · rename_i ht
    obtain ⟨r, hr, hd⟩ := h.resolve_left ht
    rw [hr]
    exact (if_pos (decide_eq_true hd)).trans hcount

/-! The commands -/

/-- The pin that falls starts the count of its low time (R57). -/
theorem execResetNAssert_counts (s : State) (h : s.start.resetN = true) : exec .resetNAssert s =
    .next { s with start := { s.start with resetN := false, lowSince := if s.start.por then none else some s.now } } :=
  congrArg Host.Outcome.next (if_neg (by simp [h]))

/-- The long reset of a press is settled, and is held while the pin stays low (R57). -/
def State.longSettled (s : State) : State := { s with start := { s.start with lowSince := none, longHeld := true } }

/-- The pin is high again: nothing is counted and nothing held (R57, R58). -/
def State.pinHigh (s : State) : State :=
  { s with start := { s.start with resetN := true, lowSince := none, longHeld := false, heldByPin := false } }

/-- A long press enters the long reset (R57). -/
theorem State.longPress_resets (s : State) (hr : s.start.resetting = none) (ht : s.start.tripped = false) :
    s.resetInto s.longPress (s.classLevel .long) 2 ∧ s.longPress.start.longHeld = true := by
  obtain ⟨hinto, hlong, -⟩ := s.longSettled.enterReset_resets (s.classLevel .long) 2 hr ht
  exact ⟨hinto, hlong⟩

section
variable {s : State} {τ : Nat} (hlow : s.start.lowSince = some τ)
include hlow

theorem execResetNRelease_eq (ref : Bool) : exec (.resetNRelease ref) s = .next (State.pinHigh
    (if s.now < τ + 10 * us then s
      else if τ + 200 * ms ≤ s.now ∨ (ref = false ∧ τ + 10 * us < s.now) then s.longPress
      else s.enterReset (s.classLevel .short) 1)) := by
  change execResetNRelease s ref = _
  unfold execResetNRelease
  rw [hlow]
  rfl

/-- A press of less than 10 µs is ignored, one of less than 200 ms is short, and any other long (R27, R57). -/
theorem execResetNRelease_presses (hr : s.start.resetting = none) (ht : s.start.tripped = false) :
    (∃ t, exec .resetNLongCount s = .next t ∧ s.resetInto t (s.classLevel .long) 2 ∧ t.start.longHeld = true) ∧
    (∀ ref, s.now < τ + 10 * us → exec (.resetNRelease ref) s = .next { s with start := { s.start with
      resetN := true, lowSince := none, longHeld := false, heldByPin := false } }) ∧
    (τ + 10 * us ≤ s.now → s.now < τ + 200 * ms →
      ∃ t, exec (.resetNRelease true) s = .next t ∧ s.resetInto t (s.classLevel .short) 1 ∧ t.start.resetN = true) ∧
    (∀ ref, τ + 200 * ms ≤ s.now ∨ (ref = false ∧ τ + 10 * us < s.now) →
      ∃ t, exec (.resetNRelease ref) s = .next t ∧ s.resetInto t (s.classLevel .long) 2 ∧ t.start.resetN = true) := by
  obtain ⟨hinto, hlong⟩ := s.longPress_resets hr ht
  refine ⟨⟨s.longPress, ?_, hinto, hlong⟩, fun ref h => ?_, fun h h' => ⟨_, execResetNRelease_eq hlow true, ?_, rfl⟩,
    fun ref h => ⟨_, execResetNRelease_eq hlow ref, ?_, rfl⟩⟩
  · change execResetNLongCount s = _
    rw [execResetNLongCount, hlow]
  · rw [execResetNRelease_eq hlow, if_pos h]
    rfl
  · rw [if_neg (Nat.not_lt.mpr h), if_neg (by simp [h'])]
    exact (s.enterReset_resets (s.classLevel .short) 1 hr ht).1
  · rw [if_neg (by unfold us ms at *; omega), if_pos h]
    exact hinto

end

theorem execResetRequestExecute_eq {s : State} {c : ResetClass} (h : s.start.request = some c) :
    exec .resetRequestExecute s = .next (s.requestGone.enterReset (s.classLevel c) (if c = .short then 3 else 4)) := by
  change execResetRequestExecute s = _
  rw [execResetRequestExecute, h]
  cases c <;> rfl

/-- A request whose time has come is carried out at the level of its class (R59). -/
theorem execResetRequestExecute_resets (s : State) (c : ResetClass) (h : s.start.request = some c) (hr : s.start.resetting = none)
    (ht : s.start.tripped = false) :
    ∃ t, exec .resetRequestExecute s = .next t ∧ s.resetInto t (s.classLevel c) (if c = .short then 3 else 4) ∧
      t.start.request = none := by
  obtain ⟨hinto, -, hrequest⟩ := s.requestGone.enterReset_resets (s.classLevel c) (if c = .short then 3 else 4) hr ht
  exact ⟨_, execResetRequestExecute_eq h, hinto, hrequest rfl⟩

/-- A request under a trip, or in a reset as deep, is only counted (R60, R66). -/
theorem execResetRequestExecute_counts (s : State) (c : ResetClass) (h : s.start.request = some c)
    (hb : s.start.tripped = true ∨ ∃ r, s.start.resetting = some r ∧ levelDepth (s.classLevel c) ≤ levelDepth r) :
    exec .resetRequestExecute s = .next ({ s with start := { s.start with request := none } }.bump P.RESET_COUNT
      (levelCode (s.classLevel c))) := by
  rw [execResetRequestExecute_eq h]
  exact congrArg Host.Outcome.next (s.requestGone.enterReset_counts (s.classLevel c) _ hb)

/-- A self-refresh that times out deepens its L1 reset to L0, whose cause keeps the source (R64, R439). -/
theorem execSelfRefreshTimeout_deepens (s : State) (hd : s.dram.entering = true) (hr : s.start.resetting = some .l1) :
    ∃ t, exec .selfRefreshTimeout s = .next t ∧ t.start.resetting = some .l0 ∧ t.start.ready = 0 ∧
      t.par P.RESET_CAUSE = 8 + s.par P.RESET_CAUSE % 8 ∧ t.pending = s.pending ∧ t.now = s.now := by
  have he : exec .selfRefreshTimeout s = .next (((s.carryOut .l0 (s.par P.RESET_CAUSE % 8) true).raise E.SELF_REFRESH_FAIL).resetTold
      (s.par P.RESET_CAUSE % 8)) := by
    change execSelfRefreshTimeout s = _
    unfold execSelfRefreshTimeout
    rw [if_neg (by simp [hd, hr])]
    rfl
  refine ⟨_, he, ?_⟩
  rw [State.resetTold_cause, State.par_raise _ _ _ _ _ (by decide) (by decide) (by decide), State.carryOut_cause, State.resetTold_eq,
    State.raise_eq, State.carryOut_l0_eq]
  exact ⟨rfl, rfl, rfl, rfl, rfl⟩

/-- Settles O14: each clause is the law of its command. -/
theorem resetsCarriedOut : Obligations.ResetsCarriedOut := by
  unfold Obligations.ResetsCarriedOut
  exact ⟨execResetNAssert_counts, fun s τ hlow hr ht => execResetNRelease_presses hlow hr ht, execResetRequestExecute_resets,
    execResetRequestExecute_counts, execSelfRefreshTimeout_deepens⟩

end Sys2Proof.Machine
end

section
/-! The settings record, the image that starts, and the end of an activation and of its window (R76, R85, R467, R490 to R494). -/

namespace Sys2Proof.Machine

/-! The settings record (R85) -/

/-- A whole record of the storable values in force is written (R85). -/
theorem execSettingsStoreWrite_records (s : State) (h : s.od.dirty = true) :
    ∃ t, exec .settingsStoreWrite s = .next t ∧ t.od.dirty = false ∧
      (∀ e, e ∈ t.od.stored ↔ e ∈ s.dict ∧ storable (e.1 / 65536) = true) ∧
      (∀ e, e ∈ t.od.storedBlobs ↔ e ∈ s.blobs ∧ storable (e.1 / 268435456 / 65536) = true) ∧
      t = { s with od := { s.od with dirty := false, stored := t.od.stored, storedBlobs := t.od.storedBlobs } } :=
  ⟨_, congrArg Host.Outcome.next (if_neg (by simp [h])), rfl, fun _ => List.mem_filter, fun _ => List.mem_filter, rfl⟩

/-! What the start of an image leaves -/

/-- The image that runs, the role in force and the root of trust. -/
def State.booted (s : State) : Nat × Bool × Role × List Byte :=
  (s.upd.running, s.upd.started, s.start.role, s.security.rootHash)

/-- The part of the state that `booted` reads. -/
theorem State.booted_of_parts {s t : State} (hu : t.upd = s.upd) (hs : t.start = s.start) (hf : t.fixed = s.fixed) :
    t.booted = s.booted := by
  have hsec : t.security = s.security := congrArg (fun x => x.2.2) hf
  rw [State.booted, hu, hs, hsec, State.booted]

theorem State.booted_ite {s a b : State} {c : Prop} [Decidable c] (ha : a.booted = s.booted) (hb : b.booted = s.booted) :
    (if c then a else b).booted = s.booted := by
  split
  · exact ha
  · exact hb

theorem State.setPar_booted (s : State) (id idx v : Nat) : (s.setPar id idx v).booted = s.booted := rfl

theorem State.setBlob_booted (s : State) (id idx off : Nat) (bs : List Byte) : (s.setBlob id idx off bs).booted = s.booted := by
  rw [State.setBlob_eq]
  rfl

theorem State.raise_booted (s : State) (e i d c : Nat) : (s.raise e i d c).booted = s.booted := by
  rw [State.raise_eq]
  rfl

/-! Settings that take effect at the start of an image (R63, R85) -/

theorem State.laneGo_booted (s : State) (n st : Nat) : (s.laneGo n st).booted = s.booted :=
  State.booted_of_parts (s.laneGo_upd n st) (s.laneGo_start n st) (s.laneGo_fixed n st)

theorem State.laneOff_booted (s : State) (n : Nat) : (s.laneOff n).booted = s.booted := s.laneGo_booted n L.OFF

theorem State.laneStart_upd (s : State) (n : Nat) : (s.laneStart n).upd = s.upd := by
  unfold State.laneStart
  refine State.upd_ite rfl (State.upd_ite (s.laneGo_upd n _) ?_)
  exact State.laneRestart_upd _ n

theorem State.lanesStart_upd (s : State) : s.lanesStart.upd = s.upd :=
  State.each_keeps State.upd _ _ _ fun t n => State.upd_ite rfl (t.laneStart_upd n)

theorem State.lanesStart_booted (s : State) : s.lanesStart.booted = s.booted :=
  State.booted_of_parts s.lanesStart_upd s.lanesStart_start s.lanesStart_fixed

theorem State.builtInEnd_booted (s : State) : s.builtInEnd.booted = s.booted := by
  have hclear : State.booted { s with lane := { s.lane with builtIn := false } } = s.booted := rfl
  unfold State.builtInEnd
  refine State.booted_ite rfl ((State.each_keeps State.booted _ _ _ fun t n => ?_).trans hclear)
  exact State.booted_ite (t.laneOff_booted n) rfl

theorem State.tpoRestore_booted (s : State) (n : Nat) : (s.tpoRestore n).booted = s.booted := by
  have hmissed (u : State) : (u.raise E.TPO_MISSED n).booted = u.booted := u.raise_booted _ _ _ _
  unfold State.tpoRestore State.tpoApply
  exact State.booted_ite rfl (State.booted_ite rfl (State.booted_ite ((hmissed _).trans rfl) rfl))

theorem State.driveDerive_booted (s : State) : s.driveDerive.booted = s.booted := by
  unfold State.driveDerive
  refine (State.setPar_booted _ _ _ _).trans (State.each_keeps State.booted _ _ _ fun t q => ?_)
  dsimp only
  rw [State.setPar_booted, State.setPar_booted, State.setPar_booted, State.setPar_booted]

theorem State.budgetLatch_booted (s : State) : s.budgetLatch.booted = s.booted :=
  (State.setBlob_booted _ P.BUDGET_STATE 0 0 _).trans (State.setPar_booted _ P.SCALER_MAP 0 _)

theorem State.chainLoads_booted (s : State) : s.chainLoads.booted = s.booted :=
  State.each_keeps State.booted _ _ _ fun _ _ => State.booted_ite rfl rfl

theorem State.fixLoads_booted (s : State) : s.fixLoads.booted = s.booted := by
  unfold State.fixLoads
  refine (State.each_keeps State.booted _ _ _ fun t p => ?_).trans ((State.each_keeps State.booted _ _ _ fun t p => ?_).trans
    (State.setPar_booted _ _ _ _))
  · dsimp only
    split
    · exact State.setPar_booted _ _ _ _
    · exact State.booted_ite rfl rfl
  · exact State.setPar_booted _ _ _ _

theorem State.settingsActive_booted (s : State) : s.settingsActive.booted = s.booted := by
  have hlanes (u : State) : (if SMap.get false u.start.released Region.front.num then u.lanesStart else u).booted = u.booted :=
    State.booted_ite u.lanesStart_booted rfl
  have hderived (u : State) : (if u.isTile then u.driveDerive else if u.isHead then ((u.budgetLatch).chainLoads).fixLoads
      else u).booted = u.booted := by
    refine State.booted_ite u.driveDerive_booted (State.booted_ite ?_ rfl)
    rw [State.fixLoads_booted, State.chainLoads_booted, State.budgetLatch_booted]
  unfold State.settingsActive
  dsimp only
  rw [State.setPar_booted, hderived]
  refine (State.each_keeps State.booted _ _ _ fun t n => t.tpoRestore_booted n).trans ?_
  rw [hlanes, State.builtInEnd_booted]

theorem State.applyStored_booted (s : State) : s.applyStored.booted = s.booted := by
  unfold State.applyStored
  dsimp only
  rw [State.raise_booted, State.settingsActive_booted]
  refine (State.each_keeps State.booted _ _ _ fun t e => t.setBlob_booted _ _ _ _).trans
    ((State.each_keeps State.booted _ _ _ fun t e => t.setPar_booted _ _ _).trans rfl)

/-! The start of an image (R467, R475, R488, R492, R494) -/

theorem State.attestStart_booted (s : State) : s.attestStart.booted = s.booted := by
  have hindex (x : PartSec) (h : x.rootHash = s.security.rootHash) : State.booted { s with security := x } = s.booted := by
    rw [State.booted, h, State.booted]
  unfold State.attestStart State.attestLow
  exact State.booted_ite ((State.raise_booted _ _ _ _ _).trans (hindex _ rfl)) (hindex _ rfl)

theorem State.unfreeze_booted (s : State) : s.unfreeze.booted = s.booted := by
  unfold State.unfreeze
  split <;> rfl

theorem State.floorBurn_booted (s : State) (v : Nat) : (s.floorBurn v).booted = s.booted := by
  unfold State.floorBurn
  exact State.booted_ite ((State.raise_booted _ _ _ _ _).trans rfl) rfl

theorem State.updGo_booted (s : State) (st : Nat) : (s.updGo st).booted = s.booted := rfl

theorem State.dropImage_booted (s : State) : s.dropImage.booted = s.booted := rfl

theorem State.imageDone_booted (s : State) : s.imageDone.booted = s.booted := by
  have hready : ((s.updGo U.READY).raise E.IMAGE_READY).booted = s.booted := by
    rw [State.raise_booted, State.updGo_booted]
  have hboot (u : State) : State.booted { u with upd := { u.upd with bootDue := true } } = u.booted := rfl
  unfold State.imageDone
  refine State.booted_ite (State.booted_ite ((hboot _).trans hready) hready) ?_
  rw [State.raise_booted, State.dropImage_booted]

theorem State.verifyRun_booted (s : State) (n : Nat) : (s.verifyRun n).booted = s.booted := by
  have hbad (u : State) (k : Nat) (v : Slot) : ((u.setSlot k v).raiseLimited E.BLOCK_BAD 0xFFFF sec).booted = u.booted :=
    (State.booted_of_parts (State.raiseLimited_upd _ _ _ _ _) (State.raiseLimited_start _ _ _ _ _)
      (State.raiseLimited_fixed _ _ _ _ _)).trans rfl
  induction n generalizing s with
  | zero => rfl
  | succ n ih =>
    unfold State.verifyRun
    refine State.booted_ite (State.booted_ite s.imageDone_booted rfl) (State.booted_ite rfl (State.booted_ite ?_ ?_))
    · exact (ih _).trans rfl
    · exact hbad s _ _

theorem State.rescan_booted (s : State) : s.rescan.booted = s.booted :=
  State.booted_ite ((State.verifyRun_booted _ _).trans rfl) rfl

/-- Outside a trial the image of a slot starts and runs, in the role in force (R467). -/
theorem State.startImage_booted (s : State) (n : Nat) (h : s.upd.st ≠ U.TRIAL) :
    (s.startImage n).booted = (n, true, s.start.role, s.security.rootHash) := by
  unfold State.startImage
  extract_lets img shown versioned _ started attested _ keyed settled r
  have hversioned : versioned.upd = s.upd ∧ versioned.booted = s.booted := ⟨s.setBlob_upd _ _ _ _, s.setBlob_booted _ _ _ _⟩
  have hstarted : started.booted = (n, true, s.start.role, s.security.rootHash) :=
    (State.raise_booted _ _ _ _ _).trans (congrArg (fun b => (n, true, b.2.2)) hversioned.2)
  have hstarted' : started.upd.st ≠ U.TRIAL := by
    have hs : started.upd = _ := State.raise_upd _ _ _ _ _
    rw [hs]
    change versioned.upd.st ≠ U.TRIAL
    rwa [hversioned.1]
  clear_value started
  have hattested : attested.booted = started.booted := started.attestStart_booted
  have hattested' : attested.upd = started.upd := State.attestLow_upd _
  clear_value attested
  have hkeyed : keyed.booted = attested.booted := State.booted_ite rfl ((State.raise_booted _ _ _ _ _).trans rfl)
  have hkeyed' : keyed.upd = attested.upd := State.upd_ite rfl ((State.raise_upd _ _ _ _ _).trans rfl)
  clear_value keyed
  have hst : keyed.upd.st ≠ U.TRIAL := by rwa [hkeyed', hattested']
  have hsettled : settled = keyed := if_neg fun hc => hst hc.1
  have hr : r = (keyed.unfreeze, true) := by
    rw [← hsettled]
    exact if_neg (hsettled ▸ hst)
  rw [hr, if_pos rfl, State.rescan_booted, State.floorBurn_booted, State.applyStored_booted, State.unfreeze_booted, hkeyed,
    hattested, hstarted]

/-! The boot ROM's choice (R76, R467, R491) -/

/-- The images the ROM tries outside a trial (R491). -/
def State.bootUsual (s : State) : List Nat :=
  [s.upd.confirmed, s.inactive] ++ (if recField s.start.record 96 2 = 2 then [2] else [])

/-! A device without an image (R76, R467) -/

/-- Whether the device has stopped without firmware, its role and whether an image has started. -/
def State.roleHeld (s : State) : Bool × Role × Bool := (s.start.noFirmware, s.start.role, s.upd.started)

theorem State.roleHeld_frontRestart (s : State) : s.frontLost.frontStart.roleHeld = s.roleHeld := by
  have hlost : s.frontLost.upd = s.upd := by
    have hloop : (s.each (List.range 32) fun s n => if s.laneState n = L.OFF then s else s.laneGo n L.OFF).upd = s.upd :=
      State.each_keeps State.upd _ _ _ fun t n => State.upd_ite rfl (t.laneGo_upd n L.OFF)
    unfold State.frontLost
    rw [← hloop]
  have hstarted (u : State) : u.frontStart.upd = u.upd := by
    unfold State.frontStart
    exact (State.lanesStart_upd _).trans (State.upd_ite rfl rfl)
  rw [State.roleHeld, State.frontStart_start, State.frontLost_start, hstarted, hlost, State.roleHeld]

theorem State.roleGo_roleHeld (s : State) (r : Role) : (s.roleGo r).roleHeld = (s.start.noFirmware, r, s.upd.started) := by
  have hite (u : State) (b : Bool) : (if b then u.frontLost.frontStart else u).roleHeld = u.roleHeld := by
    cases b with
    | true => exact u.roleHeld_frontRestart
    | false => rfl
  unfold State.roleGo
  dsimp only
  rw [hite]
  rfl

/-- No image is there to start: the device stays without a role (R76, R467). -/
def State.unbootable (s : State) : State :=
  (({ s with start := { s.start with noFirmware := true } }).roleGo .none).raise E.NO_VALID_FIRMWARE

theorem State.unbootable_roleHeld (s : State) : s.unbootable.roleHeld = (true, .none, s.upd.started) := by
  have hraise (u : State) : (u.raise E.NO_VALID_FIRMWARE).roleHeld = u.roleHeld := by
    rw [State.raise_eq]
    rfl
  unfold State.unbootable
  rw [hraise, State.roleGo_roleHeld]

/-- When no image of the list verifies, each is told and none starts (R467). -/
theorem State.bootWalk_none {s : State} {l : List Nat} (h : ∀ n ∈ l, s.bootReject (s.slotImage n) ≠ none) :
    (s.bootWalk l).2 = none ∧ (s.bootWalk l).1.upd = s.upd := by
  have hbad : (l.takeWhile fun n => (s.bootReject (s.slotImage n)).isSome) = l :=
    List.takeWhile_eq_self_iff.mpr fun n hn => Option.isSome_iff_ne_none.mpr (h n hn)
  unfold State.bootWalk
  rw [hbad]
  dsimp only
  rw [List.drop_length]
  exact ⟨rfl, State.each_keeps State.upd _ _ _ fun t n => t.raise_upd _ _ _ _⟩

section
variable {s : State} (hlow : s.start.lowWater = true) (hstop : s.start.stopped = false) (hstart : s.upd.started = false)
  (hfirm : s.start.noFirmware = false) (hrole : s.start.role ≠ .none) (htrip : s.start.tripped = false)
  (htrial : s.upd.st ≠ U.TRIAL)
include hlow hstop hstart hfirm hrole htrip htrial

theorem execSecureBootVerify_eq {w : State} {r : Option Nat} (hw : s.bootWalk s.bootUsual = (w, r)) :
    exec .secureBootVerify s = .next (match r with | some n => w.startImage n | none => w.unbootable) := by
  have hc : s.bootCandidates = (s, s.bootUsual) := if_pos htrial
  have hr : (s.start.role == Role.none) = false := by simpa using hrole
  change execSecureBootVerify s = _
  unfold execSecureBootVerify
  rw [if_neg (by simp [hlow, hstop, hstart, hfirm, hr, htrip]), hc]
  extract_lets c v
  have hv : v = (w, r) := hw
  clear_value v
  subst hv
  cases r with
  | some n => rfl
  | none =>
    unfold State.unbootable
    rfl

/-- The confirmed slot's image starts when it verifies (R467, R491). -/
theorem execSecureBootVerify_confirmed (hok : s.bootReject (s.slotImage s.upd.confirmed) = none) :
    ∃ t, exec .secureBootVerify s = .next t ∧ t.upd.running = s.upd.confirmed ∧ t.upd.started = true ∧
      t.start.role = s.start.role ∧ t.security.rootHash = s.security.rootHash := by
  have hwalk : s.bootWalk s.bootUsual = (s, some s.upd.confirmed) := by
    have hfirst : (s.bootUsual.takeWhile fun n => (s.bootReject (s.slotImage n)).isSome) = [] := by
      rw [State.bootUsual, List.cons_append, List.takeWhile_cons_of_neg (by simp [hok])]
    unfold State.bootWalk
    rw [hfirst]
    rfl
  have hb := s.startImage_booted s.upd.confirmed htrial
  simp only [State.booted, Prod.mk.injEq] at hb
  obtain ⟨hrun, hon, hrl, hroot⟩ := hb
  exact ⟨s.startImage s.upd.confirmed, execSecureBootVerify_eq hlow hstop hstart hfirm hrole htrip htrial hwalk, hrun, hon, hrl, hroot⟩

/-- Without a verified image in its slots and without a factory image, the device starts none and holds no role (R467). -/
theorem execSecureBootVerify_none (hbad : ∀ n, s.bootReject (s.slotImage n) ≠ none) :
    ∃ t, exec .secureBootVerify s = .next t ∧ t.start.noFirmware = true ∧ t.start.role = .none ∧ t.upd.started = false := by
  obtain ⟨w, r, hw⟩ : ∃ w r, s.bootWalk s.bootUsual = (w, r) := ⟨_, _, rfl⟩
  have hwalk := State.bootWalk_none (s := s) (l := s.bootUsual) fun n _ => hbad n
  rw [hw] at hwalk
  obtain ⟨rfl, hupd⟩ : r = none ∧ w.upd = s.upd := hwalk
  have hb := w.unbootable_roleHeld
  rw [hupd, hstart] at hb
  simp only [State.roleHeld, Prod.mk.injEq] at hb
  obtain ⟨hfw, hrl, hon⟩ := hb
  exact ⟨w.unbootable, execSecureBootVerify_eq hlow hstop hstart hfirm hrole htrip htrial hw, hfw, hrl, hon⟩

end

/-! The activation and its window (R490, R493) -/

/-- An accepted activation ends in an L1 reset with source 3 (R490). -/
theorem execActivationReset_resets (s : State) (h : s.upd.resetDue ≠ none) (ht : s.start.tripped = false)
    (hr : s.start.resetting = none) : ∃ t, exec .activationReset s = .next t ∧ s.resetInto t .l1 3 := by
  obtain ⟨due, hdue⟩ := Option.ne_none_iff_exists'.mp h
  refine ⟨s.enterReset .l1 3, ?_, (s.enterReset_resets .l1 3 hr ht).1⟩
  change execActivationReset s = _
  rw [execActivationReset, hdue]

theorem execActivationReset_idle (s : State) (h : s.upd.resetDue = none) : exec .activationReset s = .next s := by
  change execActivationReset s = _
  rw [execActivationReset, h]

/-- A window that ends unconfirmed ends in an L1 reset with source 3 (R493; log entries 14 and 23). -/
theorem execConfirmWindowExpiry_resets (s : State) (h : s.upd.st = U.TRIAL) (hw : s.upd.windowAt ≠ none)
    (ht : s.start.tripped = false) (hr : s.start.resetting = none) :
    ∃ t, exec .confirmWindowExpiry s = .next t ∧ s.resetInto t .l1 3 :=
  ⟨s.enterReset .l1 3, congrArg Host.Outcome.next (if_pos ⟨h, Option.isSome_iff_ne_none.mpr hw⟩),
    (s.enterReset_resets .l1 3 hr ht).1⟩

theorem execConfirmWindowExpiry_idle (s : State) (h : s.upd.st ≠ U.TRIAL ∨ s.upd.windowAt = none) :
    exec .confirmWindowExpiry s = .next s :=
  congrArg Host.Outcome.next (if_neg fun hc => h.elim (fun hn => hn hc.1) fun hn => Option.isSome_iff_ne_none.mp hc.2 hn)

/-! The confirmation (R493, R494) -/

/-- The floor that a burn to a security version leaves (R494). -/
def State.floorAfter (s : State) (v : Nat) : Nat :=
  if s.par P.FLOOR_ADVANCE = 1 then max s.security.floor (min v 255) else s.security.floor

theorem State.floorBurn_eq (s : State) (v : Nat) : s.floorBurn v =
    { s with security := { s.security with floor := s.floorAfter v }, dict := (s.floorBurn v).dict, ev := (s.floorBurn v).ev } := by
  unfold State.floorBurn State.floorAfter
  split
  · rename_i h
    rw [if_pos h.1, max_eq_right h.2.le]
    exact State.raise_eq _ _ _ _ _
  · rename_i h
    by_cases hp : s.par P.FLOOR_ADVANCE = 1
    · rw [if_pos hp, max_eq_left (not_lt.mp fun hl => h ⟨hp, hl⟩)]
    · rw [if_neg hp]

theorem State.par_floorBurn_spared {ids evs : List Nat} {id idx : Nat} (h : spared ids evs id idx = true) (s : State) (v : Nat)
    (hf : E.FLOOR_ADVANCED ∈ evs) (ho : E.EVENT_OVERFLOW ∈ evs) : (s.floorBurn v).par id idx = s.par id idx := by
  unfold State.floorBurn
  split
  · exact (State.par_raise_spared h _ _ _ _ hf ho (by decide)).trans (State.par_congr rfl rfl id idx)
  · rfl

/-- The update part once its trial is confirmed (R494). -/
def PartUpd.trialKept (u : PartUpd) : PartUpd :=
  { u with confirmed := u.trial, trial := 255, boots := 0, windowAt := none, frozen := none, frozenFormat := 0, st := U.IDLE
           stateDue := List.range 20 }

/-- The confirmed trial, before what is told of it and its floor fuses (R494). -/
def State.trialKept (s : State) : State := { s.outcome 1 with upd := s.upd.trialKept }

theorem State.trialKept_eq (s : State) : s.trialKept = { s with blobs := s.trialKept.blobs, upd := s.upd.trialKept } := by
  unfold State.trialKept State.outcome
  rw [State.setBlob_eq]

theorem State.confirm_eq (s : State) :
    s.confirm = (s.trialKept.raise E.CONFIRMED).floorBurn (mfield s.upd.manifest 18 2) := by
  have hupd : (s.outcome 1).upd = s.upd := s.setBlob_upd _ _ _ _
  unfold State.confirm State.trialKept State.updGo PartUpd.trialKept
  rw [← hupd]

theorem State.par_trialKept (s : State) (id idx : Nat) : s.trialKept.par id idx = s.par id idx := by
  rw [State.trialKept_eq]
  rfl

theorem State.told_confirm (s : State) : s.told s.confirm E.CONFIRMED := by
  have hraised : s.told (s.trialKept.raise E.CONFIRMED) E.CONFIRMED :=
    State.told_of_before (State.told_raise s.trialKept E.CONFIRMED _ _ _ (by decide)) (s.par_trialKept _ _)
  have hspared : spared [] [E.FLOOR_ADVANCED, E.EVENT_OVERFLOW] P.EVENT_COUNT E.CONFIRMED = true := by decide
  rw [State.confirm_eq]
  exact (State.par_floorBurn_spared hspared _ _ (by simp) (by simp)).trans hraised

theorem State.samePars_confirm (s : State) : s.samePars s.confirm [P.EVENT_COUNT] := by
  intro id idx hid hidx
  have hs : spared [P.EVENT_COUNT] [E.CONFIRMED, E.FLOOR_ADVANCED, E.EVENT_OVERFLOW] id idx = true :=
    spared_iff.mpr ⟨hidx, hid, fun h => absurd (by simp [h]) hid⟩
  rw [State.confirm_eq, State.par_floorBurn_spared hs _ _ (by simp) (by simp),
    State.par_raise_spared hs _ _ _ _ (by simp) (by simp) (by decide), State.par_trialKept]

theorem State.floorAfter_trialKept (s : State) (v : Nat) : (s.trialKept.raise E.CONFIRMED).floorAfter v = s.floorAfter v := by
  rw [State.floorAfter, State.par_raise _ _ _ _ _ (by decide) (by decide) (by decide), State.par_trialKept, State.raise_eq,
    State.trialKept_eq]
  rfl

theorem State.confirm_frame (s : State) : s.confirm =
    { s with blobs := s.trialKept.blobs, upd := s.upd.trialKept, dict := s.confirm.dict, ev := s.confirm.ev
             security := { s.security with floor := s.floorAfter (mfield s.upd.manifest 18 2) } } := by
  rw [State.confirm_eq, State.floorBurn_eq, State.floorAfter_trialKept, State.raise_eq, State.trialKept_eq]

/-- A confirmed trial: its slot is confirmed, told, and with FLOOR_ADVANCE the floor rises to its security version (R494). -/
theorem State.confirm_confirms (s : State) :
    s.confirm.upd.st = U.IDLE ∧ s.confirm.upd.confirmed = s.upd.trial ∧ s.confirm.upd.windowAt = none ∧
      s.confirm.upd.slots = s.upd.slots ∧ s.told s.confirm E.CONFIRMED ∧ s.samePars s.confirm [P.EVENT_COUNT] ∧
      s.confirm.security = { s.security with floor := s.floorAfter (mfield s.upd.manifest 18 2) } ∧
      s.confirm = { s with upd := s.confirm.upd, security := s.confirm.security, blobs := s.confirm.blobs,
                           dict := s.confirm.dict, ev := s.confirm.ev } := by
  have htold := s.told_confirm
  have hpars := s.samePars_confirm
  have he := s.confirm_frame
  generalize s.confirm = t at htold hpars he ⊢
  have hupd : t.upd = s.upd.trialKept := by rw [he]
  have hsec : t.security = { s.security with floor := s.floorAfter (mfield s.upd.manifest 18 2) } := by rw [he]
  have hblobs : t.blobs = s.trialKept.blobs := by rw [he]
  rw [hupd, hsec, hblobs]
  exact ⟨rfl, rfl, rfl, rfl, htold, hpars, rfl, he⟩

/-- Set bits of one map among those of another, below their width, are all there. -/
theorem and_eq_right_of_bits {m r : Nat} (hm : m < 2 ^ 16) (h : ∀ i, i < 16 → bit m i = true → bit r i = true) :
    (r &&& m) = m := by
  refine Nat.eq_of_testBit_eq fun i => ?_
  rw [Nat.testBit_and, Bool.and_eq_right_iff_imp]
  intro hi
  have hlt : i < 16 := Nat.lt_of_not_le fun hge =>
    absurd (Nat.testBit_lt_two_pow (lt_of_lt_of_le hm (Nat.pow_le_pow_right (by decide) hge))) (by simp [hi])
  rw [← bit_eq_testBit] at hi ⊢
  exact h i hlt hi

/-- Every AUTO_CONFIRM bit set for 60 s inside the window confirms the trial (R493). -/
theorem execAutoConfirmTimer_confirms (s : State) (ht : s.upd.st = U.TRIAL) (hw : s.windowOver = false)
    (h0 : s.par P.AUTO_CONFIRM ≠ 0) (hm : s.par P.AUTO_CONFIRM < 2 ^ 16)
    (hbits : ∀ i, i < 16 → bit (s.par P.AUTO_CONFIRM) i = true →
      s.rdy i = true ∧ SMap.get 0 s.start.readyAt i + 60 * sec ≤ s.now) :
    exec .autoConfirmTimer s = .next s.confirm := by
  refine congrArg Host.Outcome.next (if_pos ⟨ht, hw, h0, and_eq_right_of_bits hm fun i hi hb => (hbits i hi hb).1, ?_⟩)
  rw [List.all_eq_true]
  intro i hi
  cases hb : bit (s.par P.AUTO_CONFIRM) i with
  | false => rfl
  | true => simpa using (hbits i (List.mem_range.mp hi) hb).2

theorem execAutoConfirmTimer_idle (s : State)
    (h : s.upd.st ≠ U.TRIAL ∨ s.windowOver = true ∨ s.par P.AUTO_CONFIRM = 0) : exec .autoConfirmTimer s = .next s := by
  refine congrArg Host.Outcome.next (if_neg fun hc => ?_)
  obtain ⟨ht, hw, h0, -⟩ := hc
  obtain hn | hn | hn := h
  · exact hn ht
  · exact absurd (hw.symm.trans hn) nofun
  · exact h0 hn

/-- Settles O17: each clause is the law of its command. -/
theorem settingsBootAndConfirmation : Obligations.SettingsBootAndConfirmation := by
  unfold Obligations.SettingsBootAndConfirmation
  refine ⟨⟨execSettingsStoreWrite_records, fun s hlow hstop hstart hfirm hrole htrip htrial =>
    ⟨execSecureBootVerify_confirmed hlow hstop hstart hfirm hrole htrip htrial,
      fun hbad _ => execSecureBootVerify_none hlow hstop hstart hfirm hrole htrip htrial hbad⟩⟩,
    fun s => ⟨execActivationReset_resets s, execActivationReset_idle s, execConfirmWindowExpiry_resets s,
      execConfirmWindowExpiry_idle s, fun ht hw h0 hm hbits =>
        ⟨s.confirm, execAutoConfirmTimer_confirms s ht hw h0 hm hbits, s.confirm_confirms⟩, execAutoConfirmTimer_idle s⟩⟩

end Sys2Proof.Machine
end

section
/-! A plain WRITE of one item (R89 to R107, R539): the service around the effect, which renews the lease, answers and reports, and
leaves alone what the effect is about. -/

namespace Sys2Proof.Machine

/-! What the service leaves alone -/

/-- The state without what the service itself keeps and sends: parameters, counters, keys, events and packets. -/
def State.sansService (s : State) : State :=
  { s with dict := [], ev := {}, perf := {}, eth := {}, chain := {}, outbox := [], security := {} }

/-- The same without the marks of the lease's latest message. -/
def State.sansMarks (s : State) : State :=
  { s.sansService with od := { s.od with lastMsg := 0, lastCounter := none, lastResp := none } }

theorem State.sansMarks_of_sansService {s t : State} (h : t.sansService = s.sansService) : t.sansMarks = s.sansMarks := by
  have hod : t.sansService.od = s.sansService.od := congrArg State.od h
  change t.od = s.od at hod
  rw [State.sansMarks, h, hod, State.sansMarks]

/-- Events the service may tell of (R92, R105, R155). -/
def serviceEvents : List Nat := [E.KEY_COUNTER_SPENT, E.OD_REFUSED, E.OWN_QUEUE_FULL, E.EVENT_OVERFLOW]

/-- From `s` to `t` only the service has worked, on the parameters `ids`. -/
structure State.served (ids : List Nat) (s t : State) : Prop where
  parts : t.sansService = s.sansService
  pars : ∀ id idx, spared ids serviceEvents id idx = true → t.par id idx = s.par id idx

section
variable {ids : List Nat} {s t u : State}

theorem State.served.refl (ids : List Nat) (s : State) : State.served ids s s := ⟨rfl, fun _ _ _ => rfl⟩

theorem State.served.trans (h : State.served ids s t) (h' : State.served ids t u) : State.served ids s u :=
  ⟨h'.parts.trans h.parts, fun id idx hs => (h'.pars id idx hs).trans (h.pars id idx hs)⟩

theorem State.served.ite {c : Prop} [Decidable c] (ht : State.served ids s t) (hu : State.served ids s u) :
    State.served ids s (if c then t else u) := by
  split
  · exact ht
  · exact hu

theorem State.served.mono {ids' : List Nat} (h : State.served ids s t) (hsub : ids ⊆ ids') : State.served ids' s t := by
  refine ⟨h.parts, fun id idx hs => h.pars id idx (spared_iff.mpr ?_)⟩
  obtain ⟨hidx, hid, hev⟩ := spared_iff.mp hs
  exact ⟨hidx, fun hm => hid (hsub hm), hev⟩

end

theorem State.served_of_dict (ids : List Nat) {s t : State} (h : t.sansService = s.sansService) (hd : t.dict = s.dict) :
    State.served ids s t := by
  have hstart : t.sansService.start = s.sansService.start := congrArg State.start h
  exact ⟨h, fun id idx _ => State.par_congr hd hstart id idx⟩

theorem State.served_raise (ids : List Nat) (s : State) {e : Nat} (i d c : Nat) (he : e ∈ serviceEvents) :
    State.served ids s (s.raise e i d c) := by
  have hlt : ∀ n ∈ serviceEvents, n < 65536 := by decide
  refine ⟨?_, fun id idx hs => State.par_raise_spared hs s i d c he (by decide) (hlt e he)⟩
  rw [State.raise_eq]
  rfl

theorem State.served_raiseIf (ids : List Nat) (s : State) (b : Bool) {e : Nat} (i d : Nat) (he : e ∈ serviceEvents) :
    State.served ids s (s.raiseIf b e i d) := by
  cases b with
  | true => exact State.served_raise ids s i d 0 he
  | false => exact State.served.refl ids s

theorem State.served_setPar {ids : List Nat} (s : State) {id : Nat} (v : Nat) (hid : id ∈ ids) :
    State.served ids s (s.setPar id 0 v) :=
  ⟨rfl, fun _ _ hs => State.par_setPar_spared hs s v hid (by decide)⟩

theorem State.served_count (ids : List Nat) (s : State) (c n : Nat) : State.served ids s (s.count c n) := by
  rw [State.count_eq]
  exact State.served_of_dict ids rfl rfl

/-! The counter, a refusal and the answer -/

theorem State.served_acceptCounter (s : State) (h : OdHead) : State.served [] s (s.acceptCounter h) := by
  have hkey (k : Key) : State.served [] s (s.setKey h.keyId.toNat k) := State.served_of_dict _ rfl rfl
  unfold State.acceptCounter
  exact State.served.ite (State.served.refl _ s) ((hkey _).trans (State.served_raiseIf _ _ _ _ _ (by decide)))

theorem State.served_odRefused (s : State) (h : OdHead) (op : Nat) (sts : List Nat) (named : Option Nat) :
    State.served [P.LAST_REFUSAL] s (s.odRefused h op sts named) := by
  unfold State.odRefused
  split
  · exact State.served.refl _ s
  · exact (s.served_setPar _ (by decide)).trans ((State.served_count _ _ _ _).trans (State.served_raiseIf _ _ _ _ _ (by decide)))

theorem State.served_send (s : State) (o : Out) : State.served [] s (s.send o) := State.served_of_dict _ rfl rfl

theorem State.served_chain (s : State) (c : PartChain) : State.served [] s { s with chain := c } := State.served_of_dict _ rfl rfl

theorem State.served_ownQueue (s : State) (k : OwnPkt) : State.served [] s (s.ownQueue k) :=
  State.served.ite (s.served_chain _) (State.served_raise _ _ _ _ _ (by decide))

theorem State.served_headSend (s : State) (c dest size : Nat) (o : Out) : State.served [] s (s.headSend c dest size o) := by
  have hspend : State.served [] s (s.ctrlSpend c size) := s.served_chain _
  unfold State.headSend
  exact hspend.trans (State.served.ite (State.served_chain _ _) ((State.served_send _ _).trans (State.served_send _ _)))

theorem State.served_respond (s : State) (p : Path) (r : Resp) : State.served [] s (s.respond p r) := by
  have hmac (n : Nat) (k : TxKind) : State.served [] s (s.macPush n k) := State.served_of_dict _ rfl rfl
  unfold State.respond
  cases p with
  | chain src =>
    unfold State.sendOn
    dsimp only
    refine State.served.ite (s.served_ownQueue _) (State.served.ite (s.served_send _) ?_)
    split
    · exact s.served_headSend _ _ _ _
    · exact State.served.refl _ s
  | gbe ip port => exact (hmac _ _).trans (State.served_send _ _)
  | t1s n ip port => exact (hmac _ _).trans (State.served_send _ _)

theorem State.served_odAnswer (s : State) (h : OdHead) (r : Resp) (hold : Bool) : State.served [] s (s.odAnswer h r hold) := by
  have hheld (x : PartSec) : State.served [] s { s with security := x } := State.served_of_dict _ rfl rfl
  unfold State.odAnswer
  exact State.served.ite (State.served.refl _ s) (State.served.ite (hheld _) (s.served_respond _ _))

/-! The marks of the lease (R95, R96) -/

/-- What an accepted message leaves of itself, where its sender holds the lease. -/
def State.marked (s : State) (h : OdHead) (r : Resp) : State :=
  ({ s with od := { s.od with
    lastMsg := s.controlNow, lastCounter := if h.authed then some h.counter.toNat else none, lastResp := some r } }).setPar
      P.LEASE_SEQ 0 h.seq.toNat

theorem State.odAccepted_write (s : State) (h : OdHead) (r : Resp) : s.odAccepted h OP.WRITE r =
    if s.od.holder ≠ some h.path then s.count 3 else (s.count 3).marked h r := by
  unfold State.odAccepted State.marked
  rw [State.count_eq]
  rfl

/-- An accepted write touches the marks of the lease and LEASE_SEQ, and renews the lease where its sender holds it. -/
theorem State.odAccepted_keeps (s : State) (h : OdHead) (r : Resp) :
    (s.odAccepted h OP.WRITE r).sansMarks = s.sansMarks ∧
    (∀ id idx, spared [P.LEASE_SEQ] serviceEvents id idx = true → (s.odAccepted h OP.WRITE r).par id idx = s.par id idx) ∧
    (s.od.holder = some h.path → (s.odAccepted h OP.WRITE r).par P.LEASE_SEQ = h.seq.toNat ∧
      (s.odAccepted h OP.WRITE r).od.lastMsg = s.controlNow) := by
  have hcount := State.served_count [P.LEASE_SEQ] s 3 1
  have hnow : (s.count 3).controlNow = s.controlNow := by
    rw [State.count_eq]
    rfl
  rw [State.odAccepted_write]
  split
  · rename_i hne
    exact ⟨State.sansMarks_of_sansService hcount.parts, hcount.pars, fun he => absurd he hne⟩
  · refine ⟨(State.sansMarks_of_sansService hcount.parts ▸ rfl : ((s.count 3).marked h r).sansMarks = s.sansMarks),
      fun id idx hs => ?_, fun _ => ⟨State.par_setPar _ _ _ _, hnow⟩⟩
    refine (State.par_setPar_spared hs _ _ (by decide) (by decide)).trans ((State.par_congr rfl rfl id idx).trans
      (hcount.pars id idx hs))

/-! The way of a WRITE (R539) -/

/-- What a WRITE that reached its items leaves: its refusals reported, its acceptance noted, its answer, and what it asked for at
once. -/
def Done.closed (d : Done) (h : OdHead) (items : List OdItem) (burning : Bool) : State :=
  let r : Resp := { op := OP.WRITE, seq := h.seq.toNat, txn := h.txn.toNat, items := d.items.getD (statusItems OP.WRITE items d.sts) }
  let s := d.state.odRefused h OP.WRITE d.sts d.named
  let s := if d.sts.all (· == ST.OK) then s.odAccepted h OP.WRITE r else s
  (s.odAnswer h r (!burning && s.security.burning.isSome)).odAfter

section
variable {s : State} {h : OdHead} {items : List OdItem}

theorem State.odServe_of_clears (fl : Bool) (ht : s.tagCause h OP.WRITE items = none) (ho : s.orderStatus h OP.WRITE items = none)
    (hn : s.isNew h OP.WRITE) :
    s.odServe h OP.WRITE items fl = (s.odWrite h items fl).closed h items s.security.burning.isSome := by
  have hretry : (OP.WRITE != OP.READ && s.od.holder == some h.path && h.seq.toNat == s.par P.LEASE_SEQ &&
      (!h.authed || s.od.lastCounter == some h.counter.toNat) && s.od.lastResp.isSome) = false := by
    obtain hr | hr | hr | hr := hn
    · exact absurd hr (by decide)
    · simp [hr]
    · simp [hr]
    · simp [hr]
  have hact : s.odAct h OP.WRITE items fl = s.odWrite h items fl := by
    unfold State.odAct
    exact if_pos rfl
  have hknown : knownOp OP.WRITE = true := by decide
  have hrelease : (OP.WRITE == OP.LEASE_RELEASE) = false := by decide
  unfold State.odServe
  dsimp only
  rw [ht]
  dsimp only
  rw [hretry]
  dsimp only
  rw [ho]
  dsimp only
  rw [hact, hknown, hrelease, Bool.and_false, if_neg nofun]
  simp only [Bool.true_and]
  rfl

theorem State.odMessage_of_clears (fl : Bool) (hc : s.clears h OP.WRITE items) :
    s.odMessage h OP.WRITE items fl = (s.odWrite h items fl).closed h items s.security.burning.isSome := by
  obtain ⟨⟨hpath, hframe, htaken, horder, hstale, hburn, hdue⟩, htag, hstatus, hnew, -, -⟩ := hc
  have hturn : (h.authed && s.security.burning.isSome) = false := by
    cases ha : h.authed with
    | false => rfl
    | true => simp [hburn ha]
  unfold State.odMessage
  rw [if_neg (by simp [hpath]), if_neg (by simp [hframe]), if_neg (by simp [htaken, horder]), if_neg (by simp [hstale]), State.odTurn,
    if_neg (by simp [hturn]), hdue]
  exact State.odServe_of_clears fl htag hstatus hnew

end

/-! The effect of one item -/

/-- What a write by message `h` carries. -/
def writeCtx (h : OdHead) (fl : Bool) : WriteCtx :=
  { by_ := if h.authed then some (h.keyId.toNat, h.counter.toNat) else none
    gbe := match h.path with | .gbe _ _ => true | _ => false, flashOk := fl }

/-- The element an item names, as the effect takes it. -/
def elementOf (i : OdItem) : Nat := match findParam i.id with | some p => elemOf p i | none => 0

section
variable {s t : State} {h : OdHead} {id idx ty e st : Nat} {v : List Byte} {fl : Bool} (hw : s.writes h id idx ty v)
  (hid : (oneWrite id idx ty v).id = id) (he : elementOf (oneWrite id idx ty v) = e)
include hw hid he

/-- The only item of a plain WRITE comes to its effect: it is kept, or refused with what its refusal reports (R539 step 7). -/
theorem State.item_of_writes (heff : s.writeEffect (writeCtx h fl) id e v = (st, t)) :
    ({ scratch := s, base := s } : WriteRun).item h fl (oneWrite id idx ty v) =
      if st = ST.OK then { scratch := t, base := s, sts := [ST.OK], writes := [keptWrite h id e v] }
      else { scratch := s, base := t, sts := [st] } := by
  obtain ⟨⟨-, hstatus, hperm⟩, -⟩ := hw
  have heff' : s.writeEffect (writeCtx h fl) (oneWrite id idx ty v).id (elementOf (oneWrite id idx ty v)) v = (st, t) := by
    rwa [hid, he]
  have hkept : keptWrite h id e v = keptWrite h (oneWrite id idx ty v).id (elementOf (oneWrite id idx ty v)) v := by rw [hid, he]
  rw [hkept]
  unfold WriteRun.item
  dsimp only
  rw [if_neg, if_neg (by simp [hstatus])]
  · generalize hr : s.writeEffect _ _ _ _ = r
    obtain rfl : r = (st, t) := hr.symm.trans heff'
    cases st with
    | zero => rfl
    | succ n => rfl
  · cases hp : writePerm (oneWrite id idx ty v) with
    | none => nofun
    | some p => simp [hperm p hp]

theorem State.odWrite_refused (heff : s.writeEffect (writeCtx h fl) id e v = (st, t)) (hst : st ≠ ST.OK) (ha : st ≠ ST.AUTH) :
    s.odWrite h [oneWrite id idx ty v] fl = { state := t.acceptCounter h, sts := [st] } := by
  have hitem := State.item_of_writes hw hid he heff
  rw [if_neg hst] at hitem
  have hnum : h.txn.toNat = 0 := by rw [hw.2]; rfl
  unfold State.odWrite
  dsimp only
  rw [if_pos hnum, List.foldl_cons, List.foldl_nil, hitem]
  dsimp only
  rw [if_pos (by simp [hst]), if_neg (by simpa using fun h => ha h.symm)]
  rfl

theorem State.odWrite_accepted (heff : s.writeEffect (writeCtx h fl) id e v = (ST.OK, t)) (hsh : shadowed id = false) :
    s.odWrite h [oneWrite id idx ty v] fl =
      { state := ((s.acceptCounter h).writeEffect (writeCtx h fl) id e v).2, sts := [ST.OK] } := by
  have hitem := State.item_of_writes hw hid he heff
  rw [if_pos rfl] at hitem
  have hnum : h.txn.toNat = 0 := by rw [hw.2]; rfl
  unfold State.odWrite
  dsimp only
  rw [if_pos hnum, List.foldl_cons, List.foldl_nil, hitem]
  dsimp only
  rw [if_neg (by simp), if_pos hnum, if_neg (by simp [keptWrite, hsh])]
  rfl

/-- A shadowed parameter's write is committed at once (R100). -/
theorem State.odWrite_committed (heff : s.writeEffect (writeCtx h fl) id e v = (ST.OK, t)) (hsh : shadowed id = true)
    (hc : (s.acceptCounter h).commitRefused [keptWrite h id e v] 0 false = none) :
    s.odWrite h [oneWrite id idx ty v] fl =
      { state := (s.acceptCounter h).commit 0 [keptWrite h id e v] 0, sts := [ST.OK] } := by
  have hitem := State.item_of_writes hw hid he heff
  rw [if_pos rfl] at hitem
  have hnum : h.txn.toNat = 0 := by rw [hw.2]; rfl
  unfold State.odWrite
  dsimp only
  rw [if_pos hnum, List.foldl_cons, List.foldl_nil, hitem]
  dsimp only
  rw [if_neg (by simp), if_pos hnum, if_pos (by simp [keptWrite, hsh])]
  have hone : [keptWrite h id e v].reverse = [keptWrite h id e v] := rfl
  rw [hone, hc]
  rfl

end

/-! What a plain WRITE leaves -/

/-- What the service looks at behind the effect: the update part, the lease's holder and the Control region's clock. -/
def State.desk (s : State) : PartUpd × Option Path × Nat := (s.upd, s.od.holder, s.controlNow)

/-- From the state `u` of its effect, an accepted WRITE of message `h` in `s` has left `t`. -/
structure State.attended (s : State) (h : OdHead) (u t : State) : Prop where
  parts : t.sansMarks = u.sansMarks
  pars : ∀ id idx, spared [P.LEASE_SEQ] serviceEvents id idx = true → t.par id idx = u.par id idx
  acked : s.acked t h

/-- From the state `u` of what it reports, a WRITE refused with status `st` has left `t`. -/
structure State.turnedDown (u t : State) (st : Nat) : Prop where
  parts : t.sansMarks = u.sansMarks
  pars : ∀ id idx, spared [P.LAST_REFUSAL] serviceEvents id idx = true → t.par id idx = u.par id idx
  refused : t.refusedWrite st

theorem State.odAfter_quiet {s : State} (hb : s.upd.bootDue = false) (hr : s.upd.resetNow = false) : s.odAfter = s := by
  have hboot : s.bootIfDue = s := if_pos (by simp [hb])
  rw [State.odAfter, hboot, State.abortReset_none s hr]

/-- An answer changes no scalar but the counts of its events. -/
theorem State.par_odAnswer (s : State) (h : OdHead) (r : Resp) (hold : Bool) {id : Nat}
    (hid : spared [] serviceEvents id 0 = true) : (s.odAnswer h r hold).par id = s.par id :=
  (s.served_odAnswer h r hold).pars id 0 hid

/-- LAST_REFUSAL names the only item of a refused WRITE (R107). -/
theorem State.par_odRefused_one (s : State) (h : OdHead) {st : Nat} (hst : st ≠ ST.OK) :
    (s.odRefused h OP.WRITE [st] none).par P.LAST_REFUSAL = OP.WRITE * 2 ^ 24 + st * 65536 := by
  have hfound : [st].findIdx? (· ≠ ST.OK) = some 0 := by simp [List.findIdx?_cons, hst]
  unfold State.odRefused
  rw [hfound]
  dsimp only
  rw [State.par_raiseIf _ _ _ _ _ (by decide) (by decide) (by decide), State.par_congr (State.count_dict _ _ _) (State.count_start _ _ _),
    State.par_setPar]
  rfl

section
variable {s u : State} (h : OdHead) (items : List OdItem) (b : Bool) (hb : s.upd.bootDue = false) (hr : s.upd.resetNow = false)
include hb hr

theorem State.attended_closed (hu : u.desk = s.desk) :
    s.attended h u (({ state := u, sts := [ST.OK] } : Done).closed h items b) := by
  simp only [State.desk, Prod.mk.injEq] at hu
  obtain ⟨hupd, hholder, hnow⟩ := hu
  unfold Done.closed
  extract_lets r a c
  have ha : a = u := rfl
  have hc : c = a.odAccepted h OP.WRITE r := if_pos rfl
  rw [ha] at hc
  clear_value c r
  obtain ⟨hparts, hpars, hacked⟩ := u.odAccepted_keeps h r
  rw [← hc] at hparts hpars hacked
  have hans := c.served_odAnswer h r (!b && c.security.burning.isSome)
  have hlast (t : State) (ht : t.sansService = c.sansService) : t.od.lastMsg = c.od.lastMsg := by
    have hod : t.sansService.od = c.sansService.od := congrArg State.od ht
    exact congrArg PartOd.lastMsg hod
  have hseq := c.par_odAnswer h r (!b && c.security.burning.isSome) (id := P.LEASE_SEQ) (by decide)
  generalize c.odAnswer h r (!b && c.security.burning.isSome) = t at hans hseq
  have htu : t.sansMarks = u.sansMarks := (State.sansMarks_of_sansService hans.parts).trans hparts
  have hup : t.upd = s.upd := (congrArg State.upd htu : t.sansMarks.upd = u.sansMarks.upd).trans hupd
  rw [State.odAfter_quiet (by rw [hup, hb]) (by rw [hup, hr])]
  refine ⟨htu, fun id idx hs => ((hans.mono (List.nil_subset _)).pars id idx hs).trans (hpars id idx hs), fun hp => ?_⟩
  obtain ⟨hq, hm⟩ := hacked (hholder.trans hp)
  exact ⟨hseq.trans hq, (hlast t hans.parts).trans (hm.trans hnow)⟩

theorem State.turnedDown_closed {st : Nat} (hst : st ≠ ST.OK) (hu : u.upd = s.upd) :
    State.turnedDown u (({ state := u.acceptCounter h, sts := [st] } : Done).closed h items b) st := by
  unfold Done.closed
  extract_lets r a c
  have hall : [st].all (· == ST.OK) = false := by simpa using hst
  have hc : c = a := if_neg (by rw [hall]; decide)
  have hcounted : State.served [P.LAST_REFUSAL] u (u.acceptCounter h) := (u.served_acceptCounter h).mono (List.nil_subset _)
  have hrefused : State.served [P.LAST_REFUSAL] u a := hcounted.trans (State.served_odRefused _ _ _ _ _)
  have hnamed : a.par P.LAST_REFUSAL = OP.WRITE * 2 ^ 24 + st * 65536 := State.par_odRefused_one _ h hst
  rw [hc]
  clear_value a r
  have hans := a.served_odAnswer h r (!b && a.security.burning.isSome)
  have hlast := a.par_odAnswer h r (!b && a.security.burning.isSome) (id := P.LAST_REFUSAL) (by decide)
  generalize a.odAnswer h r (!b && a.security.burning.isSome) = t at hans hlast
  have ht : State.served [P.LAST_REFUSAL] u t := hrefused.trans (hans.mono (List.nil_subset _))
  have hup : t.upd = s.upd := (congrArg State.upd ht.parts : t.sansService.upd = u.sansService.upd).trans hu
  rw [State.odAfter_quiet (by rw [hup, hb]) (by rw [hup, hr])]
  exact ⟨State.sansMarks_of_sansService ht.parts, ht.pars, hlast.trans hnamed⟩

end

/-! Plain WRITEs of one item -/

section
variable {s t : State} {h : OdHead} {id idx ty e st : Nat} {v : List Byte} {fl : Bool} (hw : s.writes h id idx ty v)
  (hid : (oneWrite id idx ty v).id = id) (he : elementOf (oneWrite id idx ty v) = e)
include hw hid he

/-- An accepted write has its effect, from the state that has recorded its counter, and renews the lease. -/
theorem State.odMessage_attended (heff : s.writeEffect (writeCtx h fl) id e v = (ST.OK, t)) (hsh : shadowed id = false)
    (hu : ((s.acceptCounter h).writeEffect (writeCtx h fl) id e v).2.desk = s.desk) :
    s.attended h ((s.acceptCounter h).writeEffect (writeCtx h fl) id e v).2
      (s.odMessage h OP.WRITE [oneWrite id idx ty v] fl) := by
  have hclear := hw.1.1
  obtain ⟨-, -, -, -, hb, hr⟩ := hclear
  rw [State.odMessage_of_clears fl hw.1.1, State.odWrite_accepted hw hid he heff hsh]
  exact State.attended_closed h _ _ hb hr hu

theorem State.odMessage_committed (heff : s.writeEffect (writeCtx h fl) id e v = (ST.OK, t)) (hsh : shadowed id = true)
    (hc : (s.acceptCounter h).commitRefused [keptWrite h id e v] 0 false = none)
    (hu : ((s.acceptCounter h).commit 0 [keptWrite h id e v] 0).desk = s.desk) :
    s.attended h ((s.acceptCounter h).commit 0 [keptWrite h id e v] 0) (s.odMessage h OP.WRITE [oneWrite id idx ty v] fl) := by
  have hclear := hw.1.1
  obtain ⟨-, -, -, -, hb, hr⟩ := hclear
  rw [State.odMessage_of_clears fl hw.1.1, State.odWrite_committed hw hid he heff hsh hc]
  exact State.attended_closed h _ _ hb hr hu

/-- A write that its effect refuses changes only what that reports, and LAST_REFUSAL names it. -/
theorem State.odMessage_turnedDown (heff : s.writeEffect (writeCtx h fl) id e v = (st, t)) (hst : st ≠ ST.OK) (ha : st ≠ ST.AUTH)
    (hu : t.upd = s.upd) : State.turnedDown t (s.odMessage h OP.WRITE [oneWrite id idx ty v] fl) st := by
  have hclear := hw.1.1
  obtain ⟨-, -, -, -, hb, hr⟩ := hclear
  rw [State.odMessage_of_clears fl hw.1.1, State.odWrite_refused hw hid he heff hst ha]
  exact State.turnedDown_closed h _ _ hb hr hst hu

end

/-! Reading through the service -/

/-- A part that the service does not touch. -/
theorem State.served.part {ids : List Nat} {s t : State} (h : State.served ids s t) {α : Type} (f : State → α)
    (hf : ∀ x : State, f x.sansService = f x) : f t = f s := by
  rw [← hf t, h.parts, hf]

theorem State.served.par {s t : State} (h : State.served [] s t) {id : Nat} (idx : Nat) (hid : id ≠ P.EVENT_COUNT)
    (hidx : idx < 65536) : t.par id idx = s.par id idx :=
  h.pars id idx (spared_iff.mpr ⟨hidx, List.not_mem_nil, fun he => absurd he hid⟩)

theorem State.served.desk {ids : List Nat} {s t : State} (h : State.served ids s t) : t.desk = s.desk :=
  h.part State.desk fun _ => rfl

section
variable {s u t : State} {h : OdHead} {st : Nat}

theorem State.attended.part (ha : s.attended h u t) {α : Type} (f : State → α) (hf : ∀ x : State, f x.sansMarks = f x) :
    f t = f u := by
  rw [← hf t, ha.parts, hf]

theorem State.attended.par (ha : s.attended h u t) {id : Nat} (idx : Nat) (hid : id ≠ P.EVENT_COUNT) (hid' : id ≠ P.LEASE_SEQ)
    (hidx : idx < 65536) : t.par id idx = u.par id idx :=
  ha.pars id idx (spared_iff.mpr ⟨hidx, by simpa using hid', fun he => absurd he hid⟩)

theorem State.turnedDown.part (ha : State.turnedDown u t st) {α : Type} (f : State → α) (hf : ∀ x : State, f x.sansMarks = f x) :
    f t = f u := by
  rw [← hf t, ha.parts, hf]

/-- An event of the effect is told once over the whole write. -/
theorem State.attended.told (ha : s.attended h u t) {e : Nat} (he : spared [] serviceEvents P.EVENT_COUNT e = true)
    (hu : (s.acceptCounter h).told u e) : s.told t e := by
  obtain ⟨hidx, -, hev⟩ := spared_iff.mp he
  have hlease : spared [P.LEASE_SEQ] serviceEvents P.EVENT_COUNT e = true := spared_iff.mpr ⟨hidx, by decide, hev⟩
  exact State.told_of_after (State.told_of_before hu ((s.served_acceptCounter h).pars _ _ he)) (ha.pars _ _ hlease)

theorem State.turnedDown.told (ha : State.turnedDown u t st) {e : Nat} (he : spared [] serviceEvents P.EVENT_COUNT e = true)
    (hu : s.told u e) : s.told t e := by
  obtain ⟨hidx, -, hev⟩ := spared_iff.mp he
  exact State.told_of_after hu (ha.pars _ _ (spared_iff.mpr ⟨hidx, by decide, hev⟩))

end

/-! The item of a listed write -/

theorem oneWrite_id {id : Nat} (idx ty : Nat) (v : List Byte) (h : id < 2 ^ 24) : (oneWrite id idx ty v).id = id := by
  have harea : (BitVec.ofNat 8 (id / 65536)).toNat = id / 65536 := by
    rw [BitVec.toNat_ofNat, Nat.mod_eq_of_lt (by omega)]
  have hitem : (BitVec.ofNat 16 id).toNat = id % 65536 := BitVec.toNat_ofNat _ _
  unfold OdItem.id oneWrite
  rw [harea, hitem]
  omega

/-- The element of a parameter that is an array, or of one that is none. -/
theorem elementOf_oneWrite {id : Nat} {b : Bool} (idx ty : Nat) (v : List Byte) (h : id < 2 ^ 24)
    (hp : (findParam id).map (·.arr) = some b) (hidx : idx < 65536) :
    elementOf (oneWrite id idx ty v) = if b then idx else 0 := by
  obtain ⟨p, hfind, harr⟩ := Option.map_eq_some_iff.mp hp
  have hindex : (oneWrite id idx ty v).index.toNat = idx := by
    rw [oneWrite, BitVec.toNat_ofNat, Nat.mod_eq_of_lt hidx]
  unfold elementOf
  rw [oneWrite_id idx ty v h, hfind]
  dsimp only
  rw [elemOf, harr, hindex]

theorem leNat_offset {off : Nat} (h : off < 2 ^ 32) (data : List Byte) : leNat ((leBytes 4 off ++ data).take 4) = off := by
  rw [List.take_left' (leBytes_length 4 off), leNat_leBytes]
  exact Nat.mod_eq_of_lt h

theorem data_of_offset (off : Nat) (data : List Byte) : (leBytes 4 off ++ data).drop 4 = data :=
  List.drop_left' (leBytes_length 4 off)

/-! Plain WRITEs as the listed commands send them -/

section
variable {s t u : State} {h : OdHead} {id idx ty e st : Nat} {v : List Byte} (hw : s.writes h id idx ty v) (hid : id < 2 ^ 24)
  (he : elementOf (oneWrite id idx ty v) = e)
include hw hid he

theorem State.write_attended (hsh : shadowed id = false) (heff : s.writeEffect (writeCtx h true) id e v = (0, t))
    (heff' : (s.acceptCounter h).writeEffect (writeCtx h true) id e v = (st, u)) (hu : u.desk = (s.acceptCounter h).desk) :
    s.attended h u (s.odMessage h OP.WRITE [oneWrite id idx ty v]) := by
  have hdesk : ((s.acceptCounter h).writeEffect (writeCtx h true) id e v).2.desk = s.desk := by
    rw [heff']
    exact hu.trans (s.served_acceptCounter h).desk
  have ht := State.odMessage_attended hw (oneWrite_id idx ty v hid) he heff hsh hdesk
  rwa [heff'] at ht

theorem State.write_turnedDown (heff : s.writeEffect (writeCtx h true) id e v = (st, t)) (hst : st ≠ ST.OK) (ha : st ≠ ST.AUTH)
    (hu : t.upd = s.upd) : State.turnedDown t (s.odMessage h OP.WRITE [oneWrite id idx ty v]) st :=
  State.odMessage_turnedDown hw (oneWrite_id idx ty v hid) he heff hst ha hu

end

end Sys2Proof.Machine
end

section
/-! Writes of banks, overlays and stills (R72, R73, R227, R295, R312, R343, R388). -/

namespace Sys2Proof.Machine

/-! Bytes of a bank (R295) -/

/-- What a bank took at an offset reads back there. -/
theorem Sealed.byte_set_same (d : Sealed) (off n : Nat) :
    ({ d with bytes := SMap.set 0 d.bytes off (n + 1) } : Sealed).byte off = n := by
  unfold Sealed.byte
  dsimp only
  rw [SMap.get_set_same]

theorem Sealed.byte_set_ne (d : Sealed) {off j : Nat} (n : Nat) (h : j ≠ off) :
    ({ d with bytes := SMap.set 0 d.bytes off n } : Sealed).byte j = d.byte j := by
  unfold Sealed.byte
  dsimp only
  rw [SMap.get_set_ne _ _ _ _ h]

theorem Sealed.byte_write_ne (d : Sealed) {off j : Nat} (bs : List Byte) (h : j < off ∨ off + bs.length ≤ j) :
    (d.write off bs).byte j = d.byte j := by
  induction bs generalizing d off with
  | nil => rfl
  | cons b bs ih =>
    rw [List.length_cons] at h
    exact (ih _ (by omega)).trans (d.byte_set_ne _ (by omega))

theorem Sealed.byte_write (d : Sealed) (off : Nat) (bs : List Byte) (j : Nat) (hj : j < bs.length) :
    (d.write off bs).byte (off + j) = (bs.getD j 0).toNat := by
  induction bs generalizing d off j with
  | nil => exact absurd hj (Nat.not_lt_zero j)
  | cons b bs ih =>
    cases j with
    | zero => exact (Sealed.byte_write_ne _ bs (.inl (Nat.lt_succ_self off))).trans (d.byte_set_same off b.toNat)
    | succ j =>
      have hbytes := ih { d with bytes := SMap.set 0 d.bytes off (b.toNat + 1) } (off + 1) j (Nat.lt_of_succ_lt_succ hj)
      rwa [show off + 1 + j = off + (j + 1) by omega] at hbytes

theorem State.bank_putBank (s : State) (kind b : Nat) (d : Sealed) : (s.putBank kind b d).bank kind b = d :=
  SMap.get_set_same _ _ _ _

/-- The load area has taken the bytes that a write of the bank brings (R295). -/
theorem State.bankTook_bankWrite (s : State) (kind slot off : Nat) (data : List Byte) :
    s.bankTook (s.bankWrite kind slot off data) kind slot off data := by
  have hbank : (s.bankWrite kind slot off data).bank kind (s.loadBank kind slot) = _ := State.bank_putBank _ _ _ _
  unfold State.bankTook
  dsimp only
  rw [hbank]
  exact ⟨rfl, fun j hj => Sealed.byte_write _ off data j hj, fun j hj => Sealed.byte_write_ne _ data hj⟩

/-! Banks through the service -/

section
variable {s t : State} (hs : State.served [] s t)
include hs

theorem State.served.store : t.store = s.store := hs.part State.store fun _ => rfl
theorem State.served.tile : t.tile = s.tile := hs.part State.tile fun _ => rfl
theorem State.served.start : t.start = s.start := hs.part State.start fun _ => rfl

theorem State.served.bank (kind b : Nat) : t.bank kind b = s.bank kind b := by
  rw [State.bank, hs.store, State.bank]

theorem State.served.loadBank {kind : Nat} (slot : Nat) : t.loadBank kind slot = s.loadBank kind slot := by
  have hid : bankParam kind ≠ P.EVENT_COUNT := by
    unfold bankParam
    split <;> decide
  rw [State.loadBank, hs.par 0 hid (by decide), State.loadBank]

theorem State.served.bankBound (kind b : Nat) : t.bankBound kind b = s.bankBound kind b := by
  rw [State.bankBound, hs.tile, State.isTile, hs.start, State.bankBound, State.isTile]

theorem State.served.lampCount : t.lampCount = s.lampCount := by
  rw [State.lampCount, State.regionW, State.regionH, State.perPixel, hs.par 0 (by decide) (by decide),
    hs.par 0 (by decide) (by decide), State.lampCount, State.regionW, State.regionH, State.perPixel]

theorem State.served.sealFails (kind slot crc : Nat) : t.sealFails kind slot crc = s.sealFails kind slot crc := by
  have hcrc (d : Sealed) : t.sealCrc kind d = s.sealCrc kind d := by
    unfold State.sealCrc State.sealSize
    rw [hs.lampCount]
  have hbad (d : Sealed) : t.badRecord kind d = s.badRecord kind d := by
    unfold State.badRecord
    rw [hs.lampCount]
  unfold State.sealFails
  rw [hs.bank, hs.loadBank]
  dsimp only
  rw [hcrc, hbad]

end

/-- What a flash must hold depends on no parameter but those of the lamps, nor on anything but the banks and the role (R482). -/
theorem State.storeFits_congr {s t : State} (hst : t.store = s.store) (hs : t.start = s.start) (hu : t.upd = s.upd)
    (hp : ∀ id, [P.TILE_REGION, P.LAMP_LAYOUT, P.LEDGER_SLOTS].contains id = true → t.par id = s.par id) :
    t.storeFits = s.storeFits := by
  have hlamps : t.lampCount = s.lampCount := by
    rw [State.lampCount, State.regionW, State.regionH, State.perPixel, hp _ (by decide), hp _ (by decide), State.lampCount,
      State.regionW, State.regionH, State.perPixel]
  unfold State.storeFits State.storeUnits
  rw [State.isHead, State.isTile, hs, hlamps, State.bank, State.bank, hst, hp _ (by decide), hu]
  rfl

/-! Seals (R295, R312, R343, R388) -/

theorem State.bankSeal_eq (s : State) (kind slot crc : Nat) : s.bankSeal kind slot crc =
    { s with store := (s.putBank kind (s.loadBank kind slot)
              { s.bank kind (s.loadBank kind slot) with st := 2, crc := crc, copied := false }).store
             dict := (s.bankSeal kind slot crc).dict, ev := (s.bankSeal kind slot crc).ev } := by
  unfold State.bankSeal
  dsimp only
  rw [State.raise_eq]
  split
  · rfl
  · split <;> rfl

theorem State.bank_bankSeal (s : State) (kind slot crc : Nat) :
    (s.bankSeal kind slot crc).bank kind (s.loadBank kind slot) =
      { s.bank kind (s.loadBank kind slot) with st := 2, crc := crc, copied := false } := by
  rw [State.bankSeal_eq]
  exact State.bank_putBank _ _ _ _

theorem State.loadBank_lt (s : State) (kind : Nat) {slot : Nat} (h : slot < 65536) : s.loadBank kind slot < 65536 := by
  unfold State.loadBank
  split
  · exact h
  · omega

/-- The events of seals are none of the service's. -/
theorem sealEvents_spared (kind : Nat) : spared [] serviceEvents P.EVENT_COUNT (sealEvents kind).1 = true ∧
    spared [] serviceEvents P.EVENT_COUNT (sealEvents kind).2 = true := by
  unfold sealEvents
  split <;> exact ⟨by decide, by decide⟩

theorem sealEvents_ne (kind : Nat) : (sealEvents kind).1 ≠ E.EVENT_OVERFLOW ∧ (sealEvents kind).2 ≠ E.EVENT_OVERFLOW := by
  unfold sealEvents
  split <;> exact ⟨by decide, by decide⟩

/-- The checksum that stands of a sealed coefficient bank or program (R295, R343). -/
def State.crcShown (s : State) (kind b crc : Nat) : State :=
  if kind = BK.COEFF then s.setPar P.COEFF_CRC b crc else if kind = BK.PROG then s.setPar P.PROG_CRC b crc else s

theorem State.par_crcShown {ids evs : List Nat} {id idx : Nat} (h : spared ids evs id idx = true) (s : State) (kind crc : Nat)
    {b : Nat} (hb : b < 65536) (hc : P.COEFF_CRC ∈ ids) (hp : P.PROG_CRC ∈ ids) :
    (s.crcShown kind b crc).par id idx = s.par id idx := by
  unfold State.crcShown
  split
  · exact State.par_setPar_spared h s crc hc hb
  · split
    · exact State.par_setPar_spared h s crc hp hb
    · rfl

theorem State.bankSeal_raises (s : State) (kind slot crc : Nat) : s.bankSeal kind slot crc =
    ((s.putBank kind (s.loadBank kind slot)
      { s.bank kind (s.loadBank kind slot) with st := 2, crc := crc, copied := false }).crcShown kind (s.loadBank kind slot) crc).raise
        (sealEvents kind).1 (s.loadBank kind slot) := rfl

theorem State.par_bankSeal_spared {ids : List Nat} {id idx : Nat} {s : State} {kind slot : Nat} (crc : Nat)
    (h : spared ids [(sealEvents kind).1, E.EVENT_OVERFLOW] id idx = true) (hslot : slot < 65536)
    (hc : P.COEFF_CRC ∈ ids) (hp : P.PROG_CRC ∈ ids) : (s.bankSeal kind slot crc).par id idx = s.par id idx := by
  have hev : (sealEvents kind).1 < 65536 := (spared_iff.mp (sealEvents_spared kind).1).1
  rw [State.bankSeal_raises, State.par_raise_spared h _ _ _ _ (by simp) (by simp) hev,
    State.par_crcShown h _ _ _ (s.loadBank_lt kind hslot) hc hp]
  exact State.par_congr rfl rfl id idx

theorem State.told_bankSeal (s : State) (kind crc : Nat) {slot : Nat} (hslot : slot < 65536) :
    s.told (s.bankSeal kind slot crc) (sealEvents kind).1 := by
  have hsp : spared [P.COEFF_CRC, P.PROG_CRC] [] P.EVENT_COUNT (sealEvents kind).1 = true :=
    spared_iff.mpr ⟨(spared_iff.mp (sealEvents_spared kind).1).1, by decide, fun _ => List.not_mem_nil⟩
  rw [State.bankSeal_raises]
  refine State.told_of_before (State.told_raise _ _ _ _ _ (sealEvents_ne kind).1) ?_
  rw [State.par_crcShown hsp _ _ _ (s.loadBank_lt kind hslot) (by simp) (by simp)]
  exact State.par_congr rfl rfl _ _

/-- What a flash must hold reads no checksum and no count (R482). -/
theorem spared_of_storePar {id : Nat} (kind : Nat) (hid : [P.TILE_REGION, P.LAMP_LAYOUT, P.LEDGER_SLOTS].contains id = true) :
    id ≠ P.EVENT_COUNT ∧ spared [P.COEFF_CRC, P.PROG_CRC] [(sealEvents kind).1, E.EVENT_OVERFLOW] id 0 = true := by
  have hne : ∀ n ∈ [P.TILE_REGION, P.LAMP_LAYOUT, P.LEDGER_SLOTS], n ∉ [P.COEFF_CRC, P.PROG_CRC] ∧ n ≠ P.EVENT_COUNT := by
    decide
  obtain ⟨hids, hev⟩ := hne id (by simpa using hid)
  exact ⟨hev, spared_iff.mpr ⟨by decide, hids, fun h => absurd h hev⟩⟩

/-- Whether the flash holds the copies of a sealed bank is the same behind the service (R482). -/
theorem State.served.storeFits_bankSeal {s t : State} (hs : State.served [] s t) (kind crc : Nat) {slot : Nat} (hslot : slot < 65536) :
    (t.bankSeal kind slot crc).storeFits = (s.bankSeal kind slot crc).storeFits := by
  refine State.storeFits_congr ?_ ?_ ?_ fun id hid => ?_
  · rw [State.bankSeal_eq, State.bankSeal_eq s, hs.bank, hs.loadBank]
    dsimp only
    rw [State.putBank, hs.store, State.putBank]
  · rw [State.bankSeal_eq, State.bankSeal_eq s]
    exact hs.start
  · rw [State.bankSeal_upd, State.bankSeal_upd]
    exact hs.part State.upd fun _ => rfl
  · obtain ⟨hne, hsp⟩ := spared_of_storePar kind hid
    rw [State.par_bankSeal_spared crc hsp hslot (by simp) (by simp), State.par_bankSeal_spared crc hsp hslot (by simp) (by simp),
      hs.par 0 hne (by decide)]

/-! A write of a bank's bytes -/

section
variable {s : State} {h : OdHead} {id idx e kind slot off : Nat} {data : List Byte}
  (hw : s.writes h id idx 14 (leBytes 4 off ++ data)) (hid : id < 2 ^ 24) (hsh : shadowed id = false)
  (he : elementOf (oneWrite id idx 14 (leBytes 4 off ++ data)) = e) (hoff : off < 2 ^ 32)
  (heff : ∀ (u : State) c v, u.writeEffect c id e v = u.bankStep kind slot (leNat (v.take 4)) (v.drop 4))
include hw hid hsh he hoff heff

/-- Bytes of a bank land in the load area, unless it is bound: then they are refused with ACCESS (R295). -/
theorem State.bankData_lands {c : Instr}
    (hc : exec c s = .next (s.odMessage h OP.WRITE [oneWrite id idx 14 (leBytes 4 off ++ data)])) :
    (s.bankBound kind (s.loadBank kind slot) = false → ∃ t, exec c s = .next t ∧ s.acked t h ∧ s.bankTook t kind slot off data) ∧
      (s.bankBound kind (s.loadBank kind slot) = true → ∃ t, exec c s = .next t ∧ t.store = s.store ∧ t.refusedWrite ST.ACCESS) := by
  have hstep (u : State) : u.writeEffect (writeCtx h true) id e (leBytes 4 off ++ data) = u.bankStep kind slot off data := by
    rw [heff, leNat_offset hoff, data_of_offset]
  refine ⟨fun hb => ⟨_, hc, ?_⟩, fun hb => ⟨_, hc, ?_⟩⟩
  · have hacc := s.served_acceptCounter h
    have hdone (u : State) (hu : u.bankBound kind (u.loadBank kind slot) = false) :
        u.bankStep kind slot off data = (0, u.bankWrite kind slot off data) := if_neg (by simp [hu])
    have ht := State.write_attended hw hid he hsh ((hstep s).trans (hdone s hb))
      ((hstep _).trans (hdone _ (by rw [hacc.bankBound, hacc.loadBank, hb]))) rfl
    have htook := (s.acceptCounter h).bankTook_bankWrite kind slot off data
    unfold State.bankTook at htook ⊢
    dsimp only at htook ⊢
    rw [ht.part (fun x => x.bank kind (s.loadBank kind slot)) fun _ => rfl]
    rw [hacc.loadBank, hacc.bank] at htook
    exact ⟨ht.acked, htook⟩
  · have hno : s.bankStep kind slot off data = (5, s) := if_pos hb
    have ht := State.write_turnedDown hw hid he ((hstep s).trans hno) (by decide) (by decide) rfl
    exact ⟨ht.part State.store fun _ => rfl, ht.refused⟩

end

/-! A seal -/

section
variable {s : State} {kind slot crc : Nat}

theorem State.sealStep_good (hf : s.sealFails kind slot crc = none) (hfit : (s.bankSeal kind slot crc).storeFits = true) :
    s.sealStep kind slot crc = (0, s.bankSeal kind slot crc) := by
  rw [State.sealStep, hf]
  exact if_pos hfit

theorem State.sealStep_full (hf : s.sealFails kind slot crc = none) (hfit : (s.bankSeal kind slot crc).storeFits = false) :
    s.sealStep kind slot crc = (4, s) := by
  rw [State.sealStep, hf]
  exact if_neg (by simp [hfit])

theorem State.sealStep_bad {f : Nat × Bool} (hf : s.sealFails kind slot crc = some f) :
    s.sealStep kind slot crc = (4, s.sealReport kind slot f) := by
  rw [State.sealStep, hf]

end

theorem State.bankSeal_desk (s : State) (kind slot crc : Nat) : (s.bankSeal kind slot crc).desk = s.desk := by
  rw [State.bankSeal_eq]
  rfl

/-- The record a failed seal names, a free one where its state cannot hold it. -/
def State.sealNamed (s : State) (kind : Nat) (f : Nat × Bool) : Nat × State :=
  if kind = BK.PROG ∧ 4096 ≤ f.1 then (s.takeFree.1 % 4096, s.takeFree.2) else (f.1, s)

theorem State.sealReport_eq (s : State) (kind slot : Nat) (f : Nat × Bool) : s.sealReport kind slot f =
    ((s.sealNamed kind f).2.setPar (stateParam kind) (256 + slot) (2 * (s.sealNamed kind f).1 + b2n f.2)).raise (sealEvents kind).2
      ((s.sealNamed kind f).2.loadBank kind slot) := rfl

theorem State.sealNamed_keeps (s : State) (kind : Nat) (f : Nat × Bool) :
    (s.sealNamed kind f).2.store = s.store ∧ (s.sealNamed kind f).2.dict = s.dict ∧ (s.sealNamed kind f).2.start = s.start := by
  unfold State.sealNamed
  split <;> exact ⟨rfl, rfl, rfl⟩

theorem State.sealReport_store (s : State) (kind slot : Nat) (f : Nat × Bool) : (s.sealReport kind slot f).store = s.store := by
  rw [State.sealReport_eq, State.raise_store]
  exact (s.sealNamed_keeps kind f).1

theorem State.told_sealReport (s : State) (kind : Nat) {slot : Nat} (f : Nat × Bool) (hslot : slot < 256) :
    s.told (s.sealReport kind slot f) (sealEvents kind).2 := by
  obtain ⟨-, hdict, hstart⟩ := s.sealNamed_keeps kind f
  have hid : P.EVENT_COUNT ≠ stateParam kind := by
    unfold stateParam
    split <;> decide
  rw [State.sealReport_eq]
  refine State.told_of_before (State.told_raise _ _ _ _ _ (sealEvents_ne kind).2) ?_
  exact (State.par_setPar_other _ _ hid (by omega) (spared_iff.mp (sealEvents_spared kind).2).1).trans
    (State.par_congr hdict hstart _ _)

section
variable {s : State} {h : OdHead} {id idx e kind slot : Nat} {crc : BitVec 32}
  (hw : s.writes h id idx 5 (leBytes 4 crc.toNat)) (hid : id < 2 ^ 24) (hsh : shadowed id = false)
  (he : elementOf (oneWrite id idx 5 (leBytes 4 crc.toNat)) = e) (hslot : slot < 256)
  (heff : ∀ (u : State) c v, u.writeEffect c id e v = u.sealStep kind slot (leNat v))
include hw hid hsh he hslot heff

/-- A good seal seals the bank as long as the flash holds the copies; another is refused with RANGE, told (R295, R482). -/
theorem State.bankSeal_seals {c : Instr}
    (hc : exec c s = .next (s.odMessage h OP.WRITE [oneWrite id idx 5 (leBytes 4 crc.toNat)])) :
    (s.sealFails kind slot crc.toNat = none → (s.bankSeal kind slot crc.toNat).storeFits = true → ∃ t, exec c s = .next t ∧
      s.acked t h ∧ s.told t (sealEvents kind).1 ∧ t.bank kind (s.loadBank kind slot) =
        { s.bank kind (s.loadBank kind slot) with st := 2, crc := crc.toNat, copied := false }) ∧
    (s.sealFails kind slot crc.toNat = none → (s.bankSeal kind slot crc.toNat).storeFits = false → ∃ t, exec c s = .next t ∧
      t.store = s.store ∧ t.refusedWrite ST.RANGE) ∧
    (s.sealFails kind slot crc.toNat ≠ none → ∃ t, exec c s = .next t ∧ t.store = s.store ∧ s.told t (sealEvents kind).2 ∧
      t.refusedWrite ST.RANGE) := by
  have hstep (u : State) : u.writeEffect (writeCtx h true) id e (leBytes 4 crc.toNat) = u.sealStep kind slot crc.toNat := by
    rw [heff, leNat_leBytes]
    exact congrArg _ (Nat.mod_eq_of_lt crc.isLt)
  have hslot' : slot < 65536 := by omega
  refine ⟨fun hf hfit => ⟨_, hc, ?_⟩, fun hf hfit => ⟨_, hc, ?_⟩, fun hf => ⟨_, hc, ?_⟩⟩
  · have hacc := s.served_acceptCounter h
    have ht := State.write_attended hw hid he hsh ((hstep s).trans (State.sealStep_good hf hfit))
      ((hstep _).trans (State.sealStep_good (by rwa [hacc.sealFails]) (by rwa [hacc.storeFits_bankSeal kind _ hslot'])))
      (State.bankSeal_desk _ _ _ _)
    have hbank := (s.acceptCounter h).bank_bankSeal kind slot crc.toNat
    rw [hacc.loadBank, hacc.bank] at hbank
    exact ⟨ht.acked, ht.told (sealEvents_spared kind).1 (State.told_bankSeal _ kind _ hslot'),
      (ht.part (fun x => x.bank kind (s.loadBank kind slot)) fun _ => rfl).trans hbank⟩
  · have ht := State.write_turnedDown hw hid he ((hstep s).trans (State.sealStep_full hf hfit)) (by decide) (by decide) rfl
    exact ⟨ht.part State.store fun _ => rfl, ht.refused⟩
  · obtain ⟨f, hf⟩ := Option.ne_none_iff_exists'.mp hf
    have ht := State.write_turnedDown hw hid he ((hstep s).trans (State.sealStep_bad hf)) (by decide) (by decide)
      (s.sealReport_upd _ _ _)
    exact ⟨(ht.part State.store fun _ => rfl).trans (s.sealReport_store kind slot f),
      ht.told (sealEvents_spared kind).2 (s.told_sealReport kind f hslot), ht.refused⟩

end

/-! The overlay (R72, R73) -/

theorem State.setBlob_blobs_congr {s t : State} (h : t.blobs = s.blobs) (id idx off : Nat) (bs : List Byte) :
    (t.setBlob id idx off bs).blobs = (s.setBlob id idx off bs).blobs := by
  induction bs generalizing s t off with
  | nil => exact h
  | cons b bs ih =>
    refine ih ?_ (off + 1)
    dsimp only
    rw [h]

theorem State.blob_congr {s t : State} (h : t.blobs = s.blobs) (id idx off n : Nat) : t.blob id idx off n = s.blob id idx off n := by
  unfold State.blob State.blobByte
  rw [h]

/-- A write of the overlay is accepted: the record allows overlays, and the bytes keep R72. -/
def State.overlayFits (s : State) (off : Nat) (data : List Byte) : Prop :=
  recField s.start.record 98 1 = 1 ∧
    overlayOk ((s.setBlob P.OPTION_OVERLAY 0 off data).blob P.OPTION_OVERLAY 0 0 64) s.start.record = true

theorem State.overlayStep_fits {s : State} {off : Nat} {data : List Byte} (h : s.overlayFits off data) :
    s.overlayStep off data = (0, s.setBlob P.OPTION_OVERLAY 0 off data) := if_pos h

theorem State.overlayStep_unfit {s : State} {off : Nat} {data : List Byte} (h : ¬ s.overlayFits off data) :
    s.overlayStep off data = (4, s) := if_neg h

theorem State.served.overlayFits {s t : State} (hs : State.served [] s t) {off : Nat} {data : List Byte}
    (h : s.overlayFits off data) : t.overlayFits off data := by
  have hblobs : t.blobs = s.blobs := hs.part State.blobs fun _ => rfl
  rwa [State.overlayFits, hs.start, State.blob_congr (State.setBlob_blobs_congr hblobs _ _ _ _)]

theorem State.blobByte_setBlob_getD (s : State) (id idx off : Nat) (bs : List Byte) {j : Nat} (hj : j < bs.length) :
    (s.setBlob id idx off bs).blobByte id idx (off + j) = (bs.getD j 0).toNat := by
  rw [State.blobByte_setBlob _ _ _ _ _ _ hj, List.getD_eq_getElem _ _ hj]

theorem State.setBlob_desk (s : State) (id idx off : Nat) (bs : List Byte) : (s.setBlob id idx off bs).desk = s.desk := by
  rw [State.setBlob_eq]
  rfl

section
variable {s : State} {h : OdHead} {off : Nat} {data : List Byte}
  (hw : s.writes h P.OPTION_OVERLAY 0xFFFF 14 (leBytes 4 off ++ data)) (hoff : off < 2 ^ 32)
include hw hoff

/-- An overlay that R72 accepts is stored; any other is refused with RANGE. -/
theorem execOptionOverlay_stores :
    (s.overlayFits off data → ∃ t, exec (.optionOverlay h off data) s = .next t ∧ s.acked t h ∧ t.start = s.start ∧
      ∀ j, j < data.length → t.blobByte P.OPTION_OVERLAY 0 (off + j) = (data.getD j 0).toNat) ∧
    (¬ s.overlayFits off data → ∃ t, exec (.optionOverlay h off data) s = .next t ∧ t.blobs = s.blobs ∧
      t.refusedWrite ST.RANGE) := by
  have helem : elementOf (oneWrite P.OPTION_OVERLAY 0xFFFF 14 (leBytes 4 off ++ data)) = 0 :=
    elementOf_oneWrite (b := false) _ _ _ (by decide) (by decide) (by decide)
  have hstep (u : State) : u.writeEffect (writeCtx h true) P.OPTION_OVERLAY 0 (leBytes 4 off ++ data) = u.overlayStep off data := by
    have he : u.writeEffect (writeCtx h true) P.OPTION_OVERLAY 0 (leBytes 4 off ++ data) =
      u.overlayStep (leNat ((leBytes 4 off ++ data).take 4)) ((leBytes 4 off ++ data).drop 4) := rfl
    rw [he, leNat_offset hoff, data_of_offset]
  refine ⟨fun hf => ⟨_, rfl, ?_⟩, fun hf => ⟨_, rfl, ?_⟩⟩
  · have hacc := s.served_acceptCounter h
    have ht := State.write_attended hw (by decide) helem (by decide) ((hstep s).trans (State.overlayStep_fits hf))
      ((hstep _).trans (State.overlayStep_fits (hacc.overlayFits hf))) (State.setBlob_desk _ _ _ _ _)
    refine ⟨ht.acked, ?_, fun j hj => ?_⟩
    · exact (ht.part State.start fun _ => rfl).trans ((State.setBlob_start _ _ _ _ _).trans hacc.start)
    · exact (ht.part (fun x => x.blobByte P.OPTION_OVERLAY 0 (off + j)) fun _ => rfl).trans (State.blobByte_setBlob_getD _ _ _ _ _ hj)
  · have ht := State.write_turnedDown hw (by decide) helem ((hstep s).trans (State.overlayStep_unfit hf)) (by decide) (by decide) rfl
    exact ⟨ht.part State.blobs fun _ => rfl, ht.refused⟩

end

/-! Stills (R227, R249) -/

theorem State.served.src {s t : State} (hs : State.served [] s t) : t.src = s.src := hs.part State.src fun _ => rfl

theorem State.served.bufSize {s t : State} (hs : State.served [] s t) (src b : Nat) : t.bufSize src b = s.bufSize src b := by
  have hlt : src % 16 < 65536 := by omega
  have hgeo : t.geometry src = s.geometry src := by
    unfold State.geometry
    rw [hs.par _ (by decide) hlt, hs.par _ (by decide) hlt]
  unfold State.bufSize State.bufShape State.bufOf
  rw [hs.src, hgeo]

theorem State.bufByte_congr {s t : State} (h : t.src = s.src) (src b off : Nat) : t.bufByte src b off = s.bufByte src b off := by
  unfold State.bufByte State.bufOf
  rw [h]

theorem State.served.stillCrc {s t : State} (hs : State.served [] s t) (i : Nat) : t.stillCrc i = s.stillCrc i := by
  unfold State.stillCrc
  rw [hs.src]
  dsimp only
  rw [hs.bufSize]
  simp only [State.bufByte_congr hs.src]

/-- Bytes written into a buffer stand before the next one as they stood. -/
theorem State.putBuf_get_before (s : State) (src b off : Nat) (bs : List Byte) {k : Nat} (h : k < bufKey src b * 2 ^ 32 + off) :
    SMap.get 0 (s.putBuf src b off bs).src.bytes k = SMap.get 0 s.src.bytes k := by
  induction bs generalizing s off with
  | nil => rfl
  | cons x xs ih => exact (ih _ (off + 1) (by omega)).trans (SMap.get_put_ne _ _ _ (by omega))

theorem State.putBuf_get (s : State) (src b off : Nat) (bs : List Byte) (j : Nat) (hj : j < bs.length) :
    SMap.get 0 (s.putBuf src b off bs).src.bytes (bufKey src b * 2 ^ 32 + (off + j)) = (bs.getD j 0).toNat + 1 := by
  induction bs generalizing s off j with
  | nil => exact absurd hj (Nat.not_lt_zero j)
  | cons x xs ih =>
    cases j with
    | zero => exact (State.putBuf_get_before _ _ _ _ xs (by omega)).trans (SMap.get_put_same _ _ _ _)
    | succ j =>
      have hbyte := ih { s with src := { s.src with
        bytes := SMap.put s.src.bytes (bufKey src b * 2 ^ 32 + off) (x.toNat + 1) } } (off + 1) j (Nat.lt_of_succ_lt_succ hj)
      rwa [show off + 1 + j = off + (j + 1) by omega] at hbyte

theorem State.bufByte_putBuf (s : State) (src b off : Nat) (bs : List Byte) {j : Nat} (hj : j < bs.length) :
    (s.putBuf src b off bs).bufByte src b (off + j) = (bs.getD j 0).toNat := by
  unfold State.bufByte
  rw [State.putBuf_get s src b off bs j hj]

theorem State.putBuf_desk (s : State) (src b off : Nat) (bs : List Byte) : (s.putBuf src b off bs).desk = s.desk := by
  induction bs generalizing s off with
  | nil => rfl
  | cons x xs ih => exact (ih _ _).trans rfl

section
variable {s : State} {h : OdHead} {off : Nat} {data : List Byte} {n : Fin 16}
  (hw : s.writes h P.STILL_DATA n 14 (leBytes 4 off ++ data)) (hoff : off < 2 ^ 32)
include hw hoff

/-- A still's bytes land in its load buffer within its geometry; beyond it they are refused with RANGE (R227). -/
theorem execStillData_lands :
    (off + data.length ≤ s.bufSize (srcKey 3 n) (SMap.get 0 s.src.stillLoad n) → ∃ t, exec (.stillData h n off data) s = .next t ∧
      s.acked t h ∧ ∀ j, j < data.length →
        t.bufByte (srcKey 3 n) (SMap.get 0 s.src.stillLoad n) (off + j) = (data.getD j 0).toNat) ∧
    (s.bufSize (srcKey 3 n) (SMap.get 0 s.src.stillLoad n) < off + data.length → ∃ t, exec (.stillData h n off data) s = .next t ∧
      t.src = s.src ∧ t.refusedWrite ST.RANGE) := by
  have helem : elementOf (oneWrite P.STILL_DATA n 14 (leBytes 4 off ++ data)) = n :=
    elementOf_oneWrite (b := true) _ _ _ (by decide) (by decide) (by omega)
  have hstep (u : State) : u.writeEffect (writeCtx h true) P.STILL_DATA n (leBytes 4 off ++ data) = u.stillStep n off data := by
    have he : u.writeEffect (writeCtx h true) P.STILL_DATA n (leBytes 4 off ++ data) =
      u.stillStep n (leNat ((leBytes 4 off ++ data).take 4)) ((leBytes 4 off ++ data).drop 4) := rfl
    rw [he, leNat_offset hoff, data_of_offset]
  refine ⟨fun hfit => ⟨_, rfl, ?_⟩, fun hfit => ⟨_, rfl, ?_⟩⟩
  · have hacc := s.served_acceptCounter h
    have hdone (u : State) (hu : off + data.length ≤ u.bufSize (srcKey 3 n) (SMap.get 0 u.src.stillLoad n)) :
        u.stillStep n off data = (0, u.stillDataWrite n off data) := if_neg (by omega)
    have ht := State.write_attended hw (by decide) helem (by decide) ((hstep s).trans (hdone s hfit))
      ((hstep _).trans (hdone _ (by rwa [hacc.src, hacc.bufSize]))) (State.putBuf_desk _ _ _ _ _)
    refine ⟨ht.acked, fun j hj => ?_⟩
    have hbyte := State.bufByte_putBuf (s.acceptCounter h) (srcKey 3 n) (SMap.get 0 s.src.stillLoad n) off data hj
    rw [← hacc.src] at hbyte ⊢
    exact (ht.part (fun x => x.bufByte (srcKey 3 n) (SMap.get 0 (s.acceptCounter h).src.stillLoad n) (off + j)) fun _ => rfl).trans
      hbyte
  · have hno : s.stillStep n off data = (4, s) := if_pos hfit
    have ht := State.write_turnedDown hw (by decide) helem ((hstep s).trans hno) (by decide) (by decide) rfl
    exact ⟨ht.part State.src fun _ => rfl, ht.refused⟩

end

/-! A still's seal (R227, R249) -/

/-- The buffer that is loaded next (R227). -/
def State.stillNext (s : State) (i : Nat) : Nat :=
  match s.readyBuf (srcKey 3 i) (fun _ => true) with
  | some c => c
  | none => ((List.range 3).find? fun c => c != SMap.get 0 s.src.stillLoad i && !s.inUse (srcKey 3 i) c).getD (SMap.get 0 s.src.stillLoad i)

theorem State.polderStill_keeps (s : State) (i : Nat) : (s.polderStill i).src = s.src ∧ (s.polderStill i).dict = s.dict ∧
    (s.polderStill i).start = s.start ∧ (s.polderStill i).desk = s.desk := by
  have hpause (u : State) (op : Nat) : (u.bgPauseStart op).src = u.src ∧ (u.bgPauseStart op).dict = u.dict ∧
      (u.bgPauseStart op).start = u.start ∧ (u.bgPauseStart op).desk = u.desk := by
    unfold State.bgPauseStart
    split <;> exact ⟨rfl, rfl, rfl, rfl⟩
  unfold State.polderStill
  split
  · exact hpause _ _
  · exact ⟨rfl, rfl, rfl, rfl⟩

theorem State.stillSealWrite_keeps (s : State) (i : Nat) : (s.stillSealWrite i).dict = (s.bump P.STILL_SEALS i).dict ∧
    (s.stillSealWrite i).start = s.start ∧ (s.stillSealWrite i).desk = s.desk ∧
    SMap.get 0 (s.stillSealWrite i).src.stillLoad i = s.stillNext i :=
  ⟨rfl, rfl, rfl, SMap.get_set_same _ _ _ _⟩

theorem State.bufOf_updBuf_ne (s : State) {src b b' : Nat} (f : Buf → Buf) (h : b' ≠ b) :
    (s.updBuf src b f).bufOf src b' = s.bufOf src b' :=
  SMap.get_set_ne _ _ _ _ (by unfold bufKey; omega)

theorem State.bufOf_updBuf_same (s : State) (src b : Nat) (f : Buf → Buf) : (s.updBuf src b f).bufOf src b = f (s.bufOf src b) :=
  SMap.get_set_same _ _ _ _

theorem State.bufOf_undefBuf_ne (s : State) {src b b' : Nat} (h : b' ≠ b) : (s.undefBuf src b).bufOf src b' = s.bufOf src b' :=
  State.bufOf_updBuf_ne _ _ h

/-- A sealed buffer that is not loaded next is ready under the count of its seal. -/
theorem State.bufOf_stillSealWrite (s : State) (i : Nat) (h : s.stillNext i ≠ SMap.get 0 s.src.stillLoad i) :
    ((s.stillSealWrite i).bufOf (srcKey 3 i) (SMap.get 0 s.src.stillLoad i)).st = 2 ∧
      ((s.stillSealWrite i).bufOf (srcKey 3 i) (SMap.get 0 s.src.stillLoad i)).ident = (s.bump P.STILL_SEALS i).par P.STILL_SEALS i := by
  unfold State.stillSealWrite
  extract_lets src b next counted marked _ moved
  have hne : b ≠ next := h.symm
  rw [State.bufOf_undefBuf_ne _ hne, State.bufOf_updBuf_ne _ _ hne]
  have hmoved : moved.bufOf src b = marked.bufOf src b := rfl
  have hbuf : marked.bufOf src b = _ := State.bufOf_updBuf_same counted src b _
  rw [hmoved, hbuf]
  exact ⟨rfl, rfl⟩

/-- A still whose seal is good: its load buffer is ready under the next count (R227). -/
def State.stillSealed (s : State) (i : Nat) : State := (s.stillSealWrite i).polderStill i

theorem State.stillSealStep_good {s : State} {i crc : Nat} (hc : s.stillCrc i = crc) (hg : s.par P.STILL_GEOMETRY i ≠ 0) :
    s.stillSealStep i crc = (0, s.stillSealed i) := if_pos ⟨hc, hg⟩

theorem State.stillSealed_counts (s : State) (i : Nat) :
    (s.stillSealed i).par P.STILL_SEALS i = (s.par P.STILL_SEALS i + 1) % 2 ^ 32 := by
  obtain ⟨-, hdict, hstart, -⟩ := (s.stillSealWrite i).polderStill_keeps i
  obtain ⟨hdict', hstart', -⟩ := s.stillSealWrite_keeps i
  rw [State.stillSealed, State.par_congr (hdict.trans hdict') (hstart.trans hstart'), State.par_bump]

theorem State.stillSealed_desk (s : State) (i : Nat) : (s.stillSealed i).desk = s.desk := by
  obtain ⟨-, -, -, hdesk⟩ := (s.stillSealWrite i).polderStill_keeps i
  obtain ⟨-, -, hdesk', -⟩ := s.stillSealWrite_keeps i
  exact hdesk.trans hdesk'

theorem State.stillSealed_ready (s : State) (i : Nat)
    (h : SMap.get 0 (s.stillSealed i).src.stillLoad i ≠ SMap.get 0 s.src.stillLoad i) :
    ((s.stillSealed i).bufOf (srcKey 3 i) (SMap.get 0 s.src.stillLoad i)).st = 2 ∧
      ((s.stillSealed i).bufOf (srcKey 3 i) (SMap.get 0 s.src.stillLoad i)).ident = (s.stillSealed i).par P.STILL_SEALS i := by
  obtain ⟨hsrc, -, -, -⟩ := (s.stillSealWrite i).polderStill_keeps i
  obtain ⟨-, -, -, hnext⟩ := s.stillSealWrite_keeps i
  have hbuf : (s.stillSealed i).bufOf (srcKey 3 i) (SMap.get 0 s.src.stillLoad i) =
      (s.stillSealWrite i).bufOf (srcKey 3 i) (SMap.get 0 s.src.stillLoad i) := by
    rw [State.bufOf, State.stillSealed, hsrc, State.bufOf]
  rw [State.stillSealed, hsrc, hnext] at h
  rw [hbuf, State.stillSealed_counts, ← State.par_bump]
  exact s.bufOf_stillSealWrite i h

theorem stillSeal_writes (u : State) (c : WriteCtx) (n : Nat) (v : BitVec 32) :
    u.writeEffect c P.STILL_SEAL n (leBytes 4 v.toNat) = u.stillSealStep n v.toNat := by
  have he : u.writeEffect c P.STILL_SEAL n (leBytes 4 v.toNat) = u.stillSealStep n (leNat (leBytes 4 v.toNat)) := rfl
  rw [he, leNat_leBytes]
  exact congrArg _ (Nat.mod_eq_of_lt v.isLt)

section
variable {s : State} {h : OdHead} {v : BitVec 32} {n : Fin 16} (hw : s.writes h P.STILL_SEAL n 5 (leBytes 4 v.toNat))
include hw

/-- The matching CRC makes the load buffer ready and counts; another is refused, told (R227). -/
theorem execStillSeal_seals :
    (s.stillCrc n = v.toNat → s.par P.STILL_GEOMETRY n ≠ 0 → ∃ t, exec (.stillSeal h n v) s = .next t ∧ s.acked t h ∧
      t.par P.STILL_SEALS n = (s.par P.STILL_SEALS n + 1) % 2 ^ 32 ∧
      (SMap.get 0 t.src.stillLoad n ≠ SMap.get 0 s.src.stillLoad n →
        (t.bufOf (srcKey 3 n) (SMap.get 0 s.src.stillLoad n)).st = 2 ∧
        (t.bufOf (srcKey 3 n) (SMap.get 0 s.src.stillLoad n)).ident = t.par P.STILL_SEALS n)) ∧
    (s.stillCrc n ≠ v.toNat ∨ s.par P.STILL_GEOMETRY n = 0 → ∃ t, exec (.stillSeal h n v) s = .next t ∧ t.src = s.src ∧
      s.told t E.STILL_SEAL_FAILED ∧ t.refusedWrite ST.RANGE) := by
  have helem : elementOf (oneWrite P.STILL_SEAL n 5 (leBytes 4 v.toNat)) = n :=
    elementOf_oneWrite (b := true) _ _ _ (by decide) (by decide) (by omega)
  have hn : (n : Nat) < 65536 := by omega
  refine ⟨fun hcrc hgeo => ?_, fun hbad => ?_⟩
  · have hacc := s.served_acceptCounter h
    obtain ⟨t, hexec, ht⟩ : ∃ t, exec (.stillSeal h n v) s = .next t ∧ s.attended h ((s.acceptCounter h).stillSealed n) t :=
      ⟨_, rfl, State.write_attended hw (by decide) helem (by decide)
        ((stillSeal_writes s _ _ _).trans (State.stillSealStep_good hcrc hgeo))
        ((stillSeal_writes _ _ _ _).trans (State.stillSealStep_good (by rwa [hacc.stillCrc]) (by rwa [hacc.par _ (by decide) hn])))
        (State.stillSealed_desk _ _)⟩
    have hready := (s.acceptCounter h).stillSealed_ready n
    have hcount := (s.acceptCounter h).stillSealed_counts n
    have hsrc := ht.part State.src fun _ => rfl
    have hpar := ht.par (id := P.STILL_SEALS) n (by decide) (by decide) hn
    rw [hacc.par _ (by decide) hn] at hcount
    rw [hacc.src, ← hsrc, ← hpar, State.bufOf, ← hsrc] at hready
    exact ⟨t, hexec, ht.acked, hpar.trans hcount, hready⟩
  · have hno : s.stillSealStep n v.toNat = (4, s.raise E.STILL_SEAL_FAILED n) := if_neg fun hc => hbad.elim (fun h => h hc.1) hc.2
    obtain ⟨t, hexec, ht⟩ : ∃ t, exec (.stillSeal h n v) s = .next t ∧ State.turnedDown (s.raise E.STILL_SEAL_FAILED n) t 4 :=
      ⟨_, rfl, State.write_turnedDown hw (by decide) helem ((stillSeal_writes s _ _ _).trans hno) (by decide) (by decide)
        (s.raise_upd _ _ _ _)⟩
    exact ⟨t, hexec, (ht.part State.src fun _ => rfl).trans (s.raise_src _ _ _ _),
      ht.told (by decide) (s.told_raise _ _ _ _ (by decide)), ht.refused⟩

end

/-- Settles O49: each write is the law of its bank, the overlay's or a still's. -/
theorem bankWrites : Obligations.BankWrites := by
  unfold Obligations.BankWrites
  intro h off data v i n s hoff lands seals
  have hlone (id : Nat) (ty : Nat) (v : List Byte) (hid : id < 2 ^ 24) (hp : (findParam id).map (·.arr) = some false) :
      elementOf (oneWrite id 0xFFFF ty v) = 0 := elementOf_oneWrite _ _ _ hid hp (by decide)
  have hslot (id : Nat) (ty : Nat) (v : List Byte) (hid : id < 2 ^ 24) (hp : (findParam id).map (·.arr) = some true) :
      elementOf (oneWrite id i ty v) = i := elementOf_oneWrite _ _ _ hid hp (by omega)
  refine ⟨fun hw => ?_, fun hw => ?_, fun hw => ?_, fun hw => ?_, fun hw => ?_, fun hw => ?_, fun hw => ?_, fun hw => ?_,
    fun hw => execOptionOverlay_stores hw hoff, fun hw => execStillData_lands hw hoff, execStillSeal_seals⟩
  · exact State.bankData_lands hw (by decide) (by decide) (hlone _ _ _ (by decide) (by decide)) hoff (fun _ _ _ => rfl) rfl
  · exact State.bankData_lands hw (by decide) (by decide) (hlone _ _ _ (by decide) (by decide)) hoff (fun _ _ _ => rfl) rfl
  · exact State.bankData_lands hw (by decide) (by decide) (hslot _ _ _ (by decide) (by decide)) hoff (fun _ _ _ => rfl) rfl
  · exact State.bankData_lands hw (by decide) (by decide) (hlone _ _ _ (by decide) (by decide)) hoff (fun _ _ _ => rfl) rfl
  · exact State.bankSeal_seals (kind := BK.COEFF) (slot := 0) hw (by decide) (by decide) (hlone _ _ _ (by decide) (by decide)) (by decide)
      (fun _ _ _ => by simp [State.writeEffect]) rfl
  · exact State.bankSeal_seals (kind := BK.MAP) (slot := 0) hw (by decide) (by decide) (hlone _ _ _ (by decide) (by decide)) (by decide)
      (fun _ _ _ => by simp [State.writeEffect]) rfl
  · exact State.bankSeal_seals (kind := BK.PROG) (slot := i) hw (by decide) (by decide) (hslot _ _ _ (by decide) (by decide)) (by omega)
      (fun _ _ _ => by simp [State.writeEffect]) rfl
  · exact State.bankSeal_seals (kind := BK.FIX) (slot := 0) hw (by decide) (by decide) (hlone _ _ _ (by decide) (by decide)) (by decide)
      (fun _ _ _ => by simp [State.writeEffect]) rfl

end Sys2Proof.Machine
end

section
/-! Writes that ask for resets, tests, switchovers and requests (R59, R127 to R131, R141, R184, R190, R382, R402, R419). -/

namespace Sys2Proof.Machine

/-! Writes that every state accepts -/

/-- A write whose effect is the same operation in every state, and touches nothing the service looks at. -/
theorem State.total_attended {s : State} {h : OdHead} {id idx ty e : Nat} {v : List Byte} {g : State → State}
    (hw : s.writes h id idx ty v) (hid : id < 2 ^ 24) (he : elementOf (oneWrite id idx ty v) = e) (hsh : shadowed id = false)
    (heff : ∀ u : State, u.writeEffect (writeCtx h true) id e v = (0, g u)) (hdesk : ∀ u, (g u).desk = u.desk) :
    s.attended h (g (s.acceptCounter h)) (s.odMessage h OP.WRITE [oneWrite id idx ty v]) :=
  State.write_attended hw hid he hsh (heff s) (heff _) (hdesk _)

theorem State.desk_ite {s a b : State} {c : Prop} [Decidable c] (ha : a.desk = s.desk) (hb : b.desk = s.desk) :
    (if c then a else b).desk = s.desk := by
  split
  · exact ha
  · exact hb

theorem leNat_leBytes_of_lt {n v : Nat} (h : v < 256 ^ n) : leNat (leBytes n v) = v := by
  rw [leNat_leBytes, Nat.mod_eq_of_lt h]

theorem elementOf_lone {id : Nat} (ty : Nat) (v : List Byte) (hid : id < 2 ^ 24)
    (hp : (findParam id).map (·.arr) = some false) : elementOf (oneWrite id 0xFFFF ty v) = 0 :=
  elementOf_oneWrite _ _ _ hid hp (by decide)

theorem elementOf_array {id n : Nat} (ty : Nat) (v : List Byte) (hid : id < 2 ^ 24)
    (hp : (findParam id).map (·.arr) = some true) (hn : n < 65536) : elementOf (oneWrite id n ty v) = n :=
  elementOf_oneWrite _ _ _ hid hp hn

/-! Reset requests and oscillators (R59, R382) -/

theorem State.resetRequest_desk (s : State) (v : Nat) : (s.resetRequest v).desk = s.desk := by
  unfold State.resetRequest
  exact State.desk_ite rfl rfl

theorem State.resetRequest_start {s : State} (v : Nat) (h : s.start.request = none) :
    (s.resetRequest v).start = { s.start with request := some (if v = 1 then .short else .long) } := by
  unfold State.resetRequest
  rw [h]
  rfl

section
variable {s : State} {h : OdHead}

/-- A write of RESET_REQUEST without one waiting notes its class (R59). -/
theorem State.request_noted {v : List Byte} (hw : s.writes h P.RESET_REQUEST 0xFFFF 2 v) (hr : s.start.request = none) :
    (s.odMessage h OP.WRITE [oneWrite P.RESET_REQUEST 0xFFFF 2 v]).start =
        { s.start with request := some (if leNat v = 1 then .short else .long) } ∧
      s.acked (s.odMessage h OP.WRITE [oneWrite P.RESET_REQUEST 0xFFFF 2 v]) h := by
  have hacc := s.served_acceptCounter h
  have ht := State.total_attended (g := fun u => u.resetRequest (leNat v)) hw (by decide)
    (elementOf_lone _ _ (by decide) (by decide)) (by decide) (fun _ => rfl) fun u => u.resetRequest_desk _
  have hstart := State.resetRequest_start (leNat v) (s := s.acceptCounter h) (by rw [hacc.start, hr])
  rw [hacc.start] at hstart
  exact ⟨(ht.part State.start fun _ => rfl).trans hstart, ht.acked⟩

theorem execOscReset_waits (b : BitVec 16) (hw : s.writes h P.OSC_RESET 0xFFFF 3 (leBytes 2 b.toNat)) :
    ∃ t, exec (.oscReset h b) s = .next t ∧ t.pump = { s.pump with oscReset := s.pump.oscReset ||| b.toNat } ∧ s.acked t h := by
  have hacc := s.served_acceptCounter h
  have hv : leNat (leBytes 2 b.toNat) = b.toNat := leNat_leBytes_of_lt b.isLt
  have ht := State.total_attended (g := fun u => { u with pump := { u.pump with oscReset := u.pump.oscReset ||| b.toNat } }) hw
    (by decide) (elementOf_lone _ _ (by decide) (by decide)) (by decide) (fun u => by simp [State.writeEffect, hv]) fun _ => rfl
  have hpump : (s.acceptCounter h).pump = s.pump := hacc.part State.pump fun _ => rfl
  exact ⟨_, rfl, (ht.part State.pump fun _ => rfl).trans (by rw [hpump]), ht.acked⟩

end

/-! Eye scans (R127) -/

theorem State.scanEnd_keeps (s : State) (st : Nat) :
    (s.scanEnd st).desk = s.desk ∧ (s.scanEnd st).lane.dp = s.lane.dp := by
  unfold State.scanEnd
  split
  · exact ⟨rfl, rfl⟩
  · rw [State.raise_eq]
    exact ⟨rfl, rfl⟩

theorem State.par_scanEnd_spared {ids evs : List Nat} {id idx : Nat} (h : spared ids evs id idx = true) (s : State) (st : Nat)
    (hi : P.EYE_SCAN_STATUS ∈ ids) (he : E.EYE_SCAN_DONE ∈ evs) (ho : E.EVENT_OVERFLOW ∈ evs) :
    (s.scanEnd st).par id idx = s.par id idx := by
  unfold State.scanEnd
  split
  · rfl
  · exact (State.par_raise_spared h _ _ _ _ he ho (by decide)).trans (State.par_setPar_spared h s (idx' := 0) _ hi (by decide))

/-- Whether a lane's eye can be measured is read off its state and its receiver's training (R126). -/
theorem State.eyeOpen_congr {s t : State} (n : Nat) (hl : t.laneState n = s.laneState n) (hd : t.lane.dp = s.lane.dp) :
    t.eyeOpen n = s.eyeOpen n := by
  unfold State.eyeOpen
  rw [hl, hd]

/-- The scan of a lane starts at its first point (R127). -/
def State.eyeScanBegun (s : State) (n : Nat) : State :=
  ({ s with lane := { s.lane with scanLane := some n, scanPoints := 0 } }).setPar P.EYE_SCAN_STATUS 0 (n * 256 + 1)

theorem State.eyeScanWrite_eq (s : State) (v : Nat) : s.eyeScanWrite v =
    let kept := s.setPar P.EYE_SCAN_CTRL 0 (v % 2 ^ 31)
    let begun := (kept.scanEnd 3).eyeScanBegun (field v 0 5)
    if bit v 31 = false then kept else if begun.eyeOpen (field v 0 5) then begun else begun.scanEnd 3 := by
  unfold State.eyeScanWrite
  cases bit v 31 <;> rfl

theorem State.eyeScanWrite_desk (s : State) (v : Nat) : (s.eyeScanWrite v).desk = s.desk := by
  have hbegun : (((s.setPar P.EYE_SCAN_CTRL 0 (v % 2 ^ 31)).scanEnd 3).eyeScanBegun (field v 0 5)).desk = s.desk :=
    (State.scanEnd_keeps (s.setPar P.EYE_SCAN_CTRL 0 (v % 2 ^ 31)) 3).1
  rw [State.eyeScanWrite_eq]
  exact State.desk_ite rfl (State.desk_ite hbegun ((State.scanEnd_keeps _ 3).1.trans hbegun))

theorem State.eyeScanWrite_ctrl (s : State) (v : Nat) : (s.eyeScanWrite v).par P.EYE_SCAN_CTRL = v % 2 ^ 31 := by
  have hend (u : State) : (u.scanEnd 3).par P.EYE_SCAN_CTRL = u.par P.EYE_SCAN_CTRL :=
    State.par_scanEnd_spared (ids := [P.EYE_SCAN_STATUS]) (evs := [E.EYE_SCAN_DONE, E.EVENT_OVERFLOW]) (by decide) u 3 (by simp)
      (by simp) (by simp)
  have hstart (u : State) (n : Nat) : (u.eyeScanBegun n).par P.EYE_SCAN_CTRL = u.par P.EYE_SCAN_CTRL :=
    (State.par_setPar_other _ _ (by decide) (by decide) (by decide)).trans (State.par_congr rfl rfl _ _)
  have hbegun : (((s.setPar P.EYE_SCAN_CTRL 0 (v % 2 ^ 31)).scanEnd 3).eyeScanBegun (field v 0 5)).par P.EYE_SCAN_CTRL = v % 2 ^ 31 := by
    rw [hstart, hend, State.par_setPar]
  rw [State.eyeScanWrite_eq]
  dsimp only
  split
  · exact State.par_setPar _ _ _ _
  · split
    · exact hbegun
    · exact (hend _).trans hbegun

/-- A scan of an open eye is under way from its first point (R127). -/
theorem State.eyeScanWrite_starts (s : State) {v : Nat} (hb : bit v 31 = true) (ho : s.eyeOpen (field v 0 5) = true) :
    (s.eyeScanWrite v).lane.scanLane = some (field v 0 5) ∧ (s.eyeScanWrite v).lane.scanPoints = 0 ∧
      (s.eyeScanWrite v).par P.EYE_SCAN_STATUS = field v 0 5 * 256 + 1 := by
  have hn : field v 0 5 < 65536 := lt_of_lt_of_le (Nat.mod_lt _ (by decide)) (by decide)
  have hsp : spared [P.EYE_SCAN_STATUS, P.EYE_SCAN_CTRL] [E.EYE_SCAN_DONE, E.EVENT_OVERFLOW] P.LANE_STATE (field v 0 5) = true :=
    spared_iff.mpr ⟨hn, by decide, fun e => absurd e (by decide)⟩
  have hopen : (((s.setPar P.EYE_SCAN_CTRL 0 (v % 2 ^ 31)).scanEnd 3).eyeScanBegun (field v 0 5)).eyeOpen (field v 0 5) = true := by
    have hdp : (((s.setPar P.EYE_SCAN_CTRL 0 (v % 2 ^ 31)).scanEnd 3).eyeScanBegun (field v 0 5)).lane.dp = s.lane.dp :=
      (State.scanEnd_keeps (s.setPar P.EYE_SCAN_CTRL 0 (v % 2 ^ 31)) 3).2
    refine (State.eyeOpen_congr _ ?_ hdp).trans ho
    refine (State.par_setPar_spared hsp _ _ (by simp) (by decide)).trans ((State.par_congr rfl rfl _ _).trans ?_)
    exact (State.par_scanEnd_spared hsp _ 3 (by simp) (by simp) (by simp)).trans
      (State.par_setPar_spared hsp s _ (by simp) (by decide))
  rw [State.eyeScanWrite_eq]
  dsimp only
  rw [if_neg (by simp [hb]), if_pos hopen]
  exact ⟨rfl, rfl, State.par_setPar _ _ _ _⟩

section
variable {s : State} {h : OdHead}

theorem execEyeScanStart_scans (c : BitVec 32) (hw : s.writes h P.EYE_SCAN_CTRL 0xFFFF 5 (leBytes 4 c.toNat)) :
    ∃ t, exec (.eyeScanStart h c) s = .next t ∧ t.par P.EYE_SCAN_CTRL = c.toNat % 2 ^ 31 ∧ s.acked t h ∧
      (bit c.toNat 31 = true → s.eyeOpen (field c.toNat 0 5) = true → t.lane.scanLane = some (field c.toNat 0 5) ∧
        t.lane.scanPoints = 0 ∧ t.par P.EYE_SCAN_STATUS = field c.toNat 0 5 * 256 + 1) := by
  have hacc := s.served_acceptCounter h
  have hv : leNat (leBytes 4 c.toNat) = c.toNat := leNat_leBytes_of_lt c.isLt
  obtain ⟨t, hexec, ht⟩ : ∃ t, exec (.eyeScanStart h c) s = .next t ∧
      s.attended h ((s.acceptCounter h).eyeScanWrite c.toNat) t :=
    ⟨_, rfl, State.total_attended (g := fun u => u.eyeScanWrite c.toNat) hw (by decide)
      (elementOf_lone _ _ (by decide) (by decide)) (by decide) (fun u => by simp [State.writeEffect, hv])
      fun u => u.eyeScanWrite_desk _⟩
  have hlane := ht.part State.lane fun _ => rfl
  have hn : field c.toNat 0 5 < 65536 := lt_of_lt_of_le (Nat.mod_lt _ (by decide)) (by decide)
  have hdp : (s.acceptCounter h).lane.dp = s.lane.dp := hacc.part (fun x => x.lane.dp) fun _ => rfl
  refine ⟨t, hexec, (ht.par 0 (by decide) (by decide) (by decide)).trans (State.eyeScanWrite_ctrl _ _), ht.acked, fun hb ho => ?_⟩
  have hopen : (s.acceptCounter h).eyeOpen (field c.toNat 0 5) = true :=
    (State.eyeOpen_congr _ (hacc.par _ (by decide) hn) hdp).trans ho
  obtain ⟨hl, hp, hst⟩ := (s.acceptCounter h).eyeScanWrite_starts hb hopen
  rw [hlane]
  exact ⟨hl, hp, (ht.par 0 (by decide) (by decide) (by decide)).trans hst⟩

end

/-! Pattern tests (R127 to R130, R141) -/

theorem State.scanCheck_desk (s : State) : s.scanCheck.desk = s.desk := by
  unfold State.scanCheck
  split
  · rfl
  · exact State.desk_ite rfl (s.scanEnd_keeps 3).1

theorem State.laneGo_desk (s : State) (n st : Nat) : (s.laneGo n st).desk = s.desk := by
  rw [State.laneGo_eq, State.scanCheck_desk, State.raiseIf_eq, State.raiseIf_eq]
  rfl

theorem State.prbsGenSet_desk (s : State) (n v : Nat) : (s.prbsGenSet n v).desk = s.desk := by
  have hclear (u : State) : (u.prbsClear n).desk = u.desk := rfl
  unfold State.prbsGenSet
  exact State.desk_ite rfl ((hclear _).trans rfl)

theorem State.prbsGenWrite_desk (s : State) (n v : Nat) : (s.prbsGenWrite n v).desk = s.desk := by
  have hrestart (u : State) : (u.laneRestart n).desk = u.desk := (State.laneGo_desk _ n L.SIGNAL).trans rfl
  rw [State.prbsGenWrite_eq]
  refine State.desk_ite ?_ (State.desk_ite ?_ (s.prbsGenSet_desk n v))
  · rw [State.laneGo_desk, State.prbsGenSet_desk]
  · rw [hrestart, State.prbsGenSet_desk]

/-- A lane's pattern counts and its lock are cleared. -/
def State.testCleared (s : State) (n : Nat) : Prop :=
  s.par P.PRBS_BITS n = 0 ∧ s.par P.PRBS_ERRORS n = 0 ∧ s.par P.PRBS_LOCK n = 0

section
variable {n : Nat} (hn : n < 65536)
include hn

theorem State.testCleared_prbsClear (s : State) : (s.prbsClear n).testCleared n := by
  unfold State.prbsClear
  refine ⟨?_, ?_, State.par_setPar _ _ _ _⟩
  · rw [State.par_setPar_other _ _ (by decide) hn hn, State.par_setPar_other _ _ (by decide) hn hn, State.par_setPar]
  · rw [State.par_setPar_other _ _ (by decide) hn hn, State.par_setPar]

theorem State.par_prbsClear (s : State) {id : Nat} (h : id ∉ [P.PRBS_BITS, P.PRBS_ERRORS, P.PRBS_LOCK]) :
    (s.prbsClear n).par id n = s.par id n := by
  have hs : spared [P.PRBS_BITS, P.PRBS_ERRORS, P.PRBS_LOCK] [] id n = true :=
    spared_iff.mpr ⟨hn, h, fun _ => List.not_mem_nil⟩
  unfold State.prbsClear
  rw [State.par_setPar_spared hs _ _ (by simp) hn, State.par_setPar_spared hs _ _ (by simp) hn,
    State.par_setPar_spared hs _ _ (by simp) hn]
  exact State.par_congr rfl rfl _ _

theorem State.prbsGenSet_pars (s : State) {v : Nat} (hv : v % 8 ≠ 0) :
    (s.prbsGenSet n v).par P.PRBS_GEN n = v ∧ (s.prbsGenSet n v).testCleared n := by
  have hset (u : State) (f : Lane → Lane) : ((u.setPar P.PRBS_GEN n v).updLane n f).par P.PRBS_GEN n = v :=
    (State.par_congr rfl rfl _ _).trans (u.par_setPar _ _ _)
  unfold State.prbsGenSet
  dsimp only
  rw [if_neg hv]
  exact ⟨(State.par_prbsClear hn _ (by decide)).trans (hset s _), State.testCleared_prbsClear hn _⟩

/-- A change of a lane's state leaves its test alone. -/
theorem State.par_laneGo_test (s : State) (st : Nat) {id : Nat}
    (h : id ∈ [P.PRBS_GEN, P.PRBS_BITS, P.PRBS_ERRORS, P.PRBS_LOCK]) : (s.laneGo n st).par id n = s.par id n := by
  have hne : ∀ x ∈ [P.PRBS_GEN, P.PRBS_BITS, P.PRBS_ERRORS, P.PRBS_LOCK], x ∉ P.LANE_STATE :: lanePars ∧ x ≠ P.EVENT_COUNT := by
    decide
  obtain ⟨hids, hev⟩ := hne id h
  exact State.par_laneGo_spared (ids := P.LANE_STATE :: lanePars) (evs := laneEvents)
    (spared_iff.mpr ⟨hn, hids, fun e => absurd e hev⟩) s n st hn (by simp) (by simp) (by simp)

theorem State.par_prbsGenWrite_test (s : State) (v : Nat) {id : Nat}
    (h : id ∈ [P.PRBS_GEN, P.PRBS_BITS, P.PRBS_ERRORS, P.PRBS_LOCK]) :
    (s.prbsGenWrite n v).par id n = (s.prbsGenSet n v).par id n := by
  rw [State.prbsGenWrite_eq]
  split
  · exact State.par_laneGo_test hn _ _ h
  · split
    · exact (State.par_laneGo_test hn _ _ h).trans (State.par_congr rfl rfl _ _)
    · rfl

/-- A pattern code in force: the lane's counts and lock are cleared, and a raw one takes it to TEST_RAW (R128, R141). -/
theorem State.prbsGenWrite_sets (s : State) {v : Nat} (hv : v % 8 ≠ 0) :
    (s.prbsGenWrite n v).par P.PRBS_GEN n = v ∧ (s.prbsGenWrite n v).testCleared n ∧
      (bit v 3 = false → (s.prbsGenWrite n v).laneState n = L.RAW) := by
  obtain ⟨hgen, hbits, herrors, hlock⟩ := State.prbsGenSet_pars hn s hv
  refine ⟨(State.par_prbsGenWrite_test hn s v (by simp)).trans hgen, ⟨?_, ?_, ?_⟩, fun hraw => ?_⟩
  · exact (State.par_prbsGenWrite_test hn s v (by simp)).trans hbits
  · exact (State.par_prbsGenWrite_test hn s v (by simp)).trans herrors
  · exact (State.par_prbsGenWrite_test hn s v (by simp)).trans hlock
  · rw [State.prbsGenWrite_eq, if_pos (by simp [hv, hraw]), State.laneState_laneGo _ _ hn hn, if_pos rfl]

theorem State.prbsChkWrite_sets (s : State) (v : Nat) : (s.prbsChkWrite n v).par P.PRBS_CHK n = v ∧
    (v % 8 ≠ 0 → (s.prbsChkWrite n v).testCleared n) := by
  unfold State.prbsChkWrite
  dsimp only
  split
  · rename_i hz
    exact ⟨State.par_setPar _ _ _ _, fun hv => absurd hz hv⟩
  · exact ⟨(State.par_prbsClear hn _ (by decide)).trans (State.par_setPar _ _ _ _), fun _ => State.testCleared_prbsClear hn _⟩

end

theorem State.prbsChkWrite_desk (s : State) (n v : Nat) : (s.prbsChkWrite n v).desk = s.desk := by
  unfold State.prbsChkWrite
  exact State.desk_ite rfl rfl

/-- A pattern starts in a head, in band or on a test lane (R129, R141). -/
theorem State.prbsStep_starts {s : State} {n v : Nat} (ht : s.isTile = false) (hu : bit v 3 = true ∨ s.laneUse n / 16 = 5) :
    s.prbsStep n v = (0, s.prbsGenWrite n v) := by
  have hno : ¬ (v % 8 ≠ 0 ∧ bit v 3 = false ∧ s.laneUse n / 16 ≠ 5) := fun hc => hu.elim (by simp [hc.2.1]) hc.2.2
  unfold State.prbsStep
  rw [if_neg (by simp [ht]), if_neg hno]

theorem State.attended.testCleared {s u t : State} {h : OdHead} (ht : s.attended h u t) {n : Nat} (hn : n < 65536)
    (hu : u.testCleared n) : t.testCleared n := by
  obtain ⟨hbits, herrors, hlock⟩ := hu
  exact ⟨(ht.par n (by decide) (by decide) hn).trans hbits, (ht.par n (by decide) (by decide) hn).trans herrors,
    (ht.par n (by decide) (by decide) hn).trans hlock⟩

section
variable {s : State} {h : OdHead}

theorem execPrbsGen_starts (n : Fin 32) (c : BitVec 8) (hw : s.writes h P.PRBS_GEN n 2 (leBytes 1 c.toNat))
    (htile : s.isTile = false) (hc : c.toNat % 8 ≠ 0) (hu : bit c.toNat 3 = true ∨ s.laneUse n / 16 = 5) :
    ∃ t, exec (.prbsGen h n c) s = .next t ∧ s.acked t h ∧ t.par P.PRBS_GEN n = c.toNat ∧ t.par P.PRBS_BITS n = 0 ∧
      t.par P.PRBS_ERRORS n = 0 ∧ t.par P.PRBS_LOCK n = 0 ∧ (bit c.toNat 3 = false → t.laneState n = L.RAW) := by
  have hn : (n : Nat) < 65536 := by omega
  have hacc := s.served_acceptCounter h
  have hv : leNat (leBytes 1 c.toNat) = c.toNat := leNat_leBytes_of_lt c.isLt
  have heff (u : State) : u.writeEffect (writeCtx h true) P.PRBS_GEN n (leBytes 1 c.toNat) = u.prbsStep n c.toNat := by
    simp [State.writeEffect, hv]
  have huse : (s.acceptCounter h).laneUse n = s.laneUse n := by
    have hlane : (s.acceptCounter h).lane = s.lane := hacc.part State.lane fun _ => rfl
    rw [State.laneUse, State.isHead, hacc.start, hlane, hacc.par _ (by decide) hn, State.laneUse, State.isHead]
  have htile' : (s.acceptCounter h).isTile = false := by rwa [State.isTile, hacc.start]
  obtain ⟨t, hexec, ht⟩ : ∃ t, exec (.prbsGen h n c) s = .next t ∧
      s.attended h ((s.acceptCounter h).prbsGenWrite n c.toNat) t :=
    ⟨_, rfl, State.write_attended hw (by decide) (elementOf_array _ _ (by decide) (by decide) hn) (by decide)
      ((heff s).trans (State.prbsStep_starts htile hu)) ((heff _).trans (State.prbsStep_starts htile' (by rwa [huse])))
      (State.prbsGenWrite_desk _ _ _)⟩
  obtain ⟨hgen, hclear, hraw⟩ := State.prbsGenWrite_sets hn (s.acceptCounter h) hc
  obtain ⟨hbits, herrors, hlock⟩ := ht.testCleared hn hclear
  exact ⟨t, hexec, ht.acked, (ht.par n (by decide) (by decide) hn).trans hgen, hbits, herrors, hlock,
    fun hb => (ht.par n (by decide) (by decide) hn).trans (hraw hb)⟩

theorem execPrbsChk_sets (n : Fin 32) (c : BitVec 8) (hw : s.writes h P.PRBS_CHK n 2 (leBytes 1 c.toNat)) :
    ∃ t, exec (.prbsChk h n c) s = .next t ∧ s.acked t h ∧ t.par P.PRBS_CHK n = c.toNat ∧
      (c.toNat % 8 ≠ 0 → t.par P.PRBS_BITS n = 0 ∧ t.par P.PRBS_ERRORS n = 0 ∧ t.par P.PRBS_LOCK n = 0) := by
  have hn : (n : Nat) < 65536 := by omega
  have hv : leNat (leBytes 1 c.toNat) = c.toNat := leNat_leBytes_of_lt c.isLt
  obtain ⟨t, hexec, ht⟩ : ∃ t, exec (.prbsChk h n c) s = .next t ∧
      s.attended h ((s.acceptCounter h).prbsChkWrite n c.toNat) t :=
    ⟨_, rfl, State.total_attended (g := fun u => u.prbsChkWrite n c.toNat) hw (by decide)
      (elementOf_array _ _ (by decide) (by decide) hn) (by decide) (fun u => by simp [State.writeEffect, hv])
      fun u => u.prbsChkWrite_desk _ _⟩
  obtain ⟨hchk, hclear⟩ := State.prbsChkWrite_sets hn (s.acceptCounter h) c.toNat
  exact ⟨t, hexec, ht.acked, (ht.par n (by decide) (by decide) hn).trans hchk, fun hc => ht.testCleared hn (hclear hc)⟩

/-- Injected errors wait for the lane's next symbol, told (R131). -/
theorem execInject_waits (n : Fin 32) (c : BitVec 8) (hw : s.writes h P.INJECT n 2 (leBytes 1 c.toNat))
    (hl : s.laneState n ≠ L.OFF) : ∃ t, exec (.inject h n c) s = .next t ∧ SMap.get 0 t.lane.injects n = c.toNat ∧
      s.told t E.ERROR_INJECTED ∧ s.acked t h := by
  have hn : (n : Nat) < 65536 := by omega
  have hacc := s.served_acceptCounter h
  have hv : leNat (leBytes 1 c.toNat) = c.toNat := leNat_leBytes_of_lt c.isLt
  have heff (u : State) (hu : u.laneState n ≠ L.OFF) : u.writeEffect (writeCtx h true) P.INJECT n (leBytes 1 c.toNat) =
      (0, u.injectWrite n c.toNat) := by
    have he : u.writeEffect (writeCtx h true) P.INJECT n (leBytes 1 c.toNat) =
        if u.laneState n = L.OFF then (4, u) else (0, u.injectWrite n c.toNat) := by
      simp [State.writeEffect, hv]
    rw [he, if_neg hu]
  have hdesk (u : State) : (u.injectWrite n c.toNat).desk = u.desk := by
    rw [State.injectWrite, State.raise_eq]
    rfl
  have hlane' : (s.acceptCounter h).laneState n ≠ L.OFF := by rwa [State.laneState, hacc.par _ (by decide) hn]
  obtain ⟨t, hexec, ht⟩ : ∃ t, exec (.inject h n c) s = .next t ∧ s.attended h ((s.acceptCounter h).injectWrite n c.toNat) t :=
    ⟨_, rfl, State.write_attended hw (by decide) (elementOf_array _ _ (by decide) (by decide) hn) (by decide) (heff s hl)
      (heff _ hlane') (hdesk _)⟩
  have hlane : t.lane = ((s.acceptCounter h).injectWrite n c.toNat).lane := ht.part State.lane fun _ => rfl
  refine ⟨t, hexec, ?_, ht.told (by decide) ?_, ht.acked⟩
  · rw [hlane, State.injectWrite, State.raise_lane]
    exact SMap.get_set_same _ _ _ _
  · exact State.told_of_before (State.told_raise _ _ _ _ _ (by decide)) (State.par_congr rfl rfl _ _)

end

/-! Switchovers (R99, R190) -/

/-- What a commit leaves alone but for its new pending transaction. -/
def State.commitDesk (s : State) : PartOd × PartUpd × Nat × Nat := (s.od, s.upd, s.now, s.phase)

theorem State.desk_of_commitDesk {s t : State} (hh : t.od.holder = s.od.holder) (hu : t.upd = s.upd) (hn : t.now = s.now)
    (hp : t.phase = s.phase) : t.desk = s.desk := by
  rw [State.desk, hh, hu, State.controlNow, hn, hp, State.desk, State.controlNow]

theorem State.polderCommit_desk (s : State) (k : Nat) : (s.polderCommit k).commitDesk = s.commitDesk := by
  have hpause (u : State) (op : Nat) : (u.bgPauseStart op).commitDesk = u.commitDesk := by
    unfold State.bgPauseStart
    split <;> rfl
  exact (hpause _ _).trans rfl

/-- A commit pends its transaction at its applied tick (R99). -/
theorem State.commit_pends (s : State) (num : Nat) (ws : List Write) (target : Nat) :
    (s.commit num ws target).commitDesk =
      ({ s.od with pending := s.od.pending ++ [({ num := num, tick := s.appliedTick ws target, at_ := s.now, writes := ws } : PendTxn)] },
        s.upd, s.now, s.phase) := by
  have hloads (u v : State) : (u.each (List.range 16) fun s c => s.setPar P.CHAIN_LOAD c (v.par P.CHAIN_LOAD c)).commitDesk =
      u.commitDesk := State.each_keeps State.commitDesk _ _ _ fun _ _ => rfl
  have hite (c : Bool) (a u : State) (ha : a.commitDesk = u.commitDesk) : (if c then a else u).commitDesk = u.commitDesk := by
    cases c with
    | true => exact ha
    | false => rfl
  have hnoted (u : State) (k : Nat) (c : Bool) : ((u.setPar P.APPLIED_TICK 0 k).raiseIf c E.TXN_LATE).commitDesk = u.commitDesk := by
    rw [State.raiseIf_eq]
    rfl
  unfold State.commit
  extract_lets k b t loads loaded _ pended noted
  have hloaded : loaded.commitDesk = s.commitDesk := hite _ _ _ (hloads s loads)
  have hn : noted.commitDesk = pended.commitDesk := hnoted pended _ _
  rw [hite _ _ _ (noted.polderCommit_desk k), hn]
  simp only [State.commitDesk, Prod.mk.injEq] at hloaded
  obtain ⟨hod, hupd, hnow, hphase⟩ := hloaded
  have hpended : pended.commitDesk = ({ loaded.od with
      pending := loaded.od.pending ++ [({ num := num, tick := k, at_ := loaded.now, writes := ws } : PendTxn)] },
      loaded.upd, loaded.now, loaded.phase) := rfl
  rw [hpended, hod, hupd, hnow, hphase]

theorem le_foldl_max_tick (l : List PendTxn) (m : Nat) : m ≤ l.foldl (fun m (p : PendTxn) => max m p.tick) m := by
  induction l generalizing m with
  | nil => exact le_refl m
  | cons p l ih => exact (le_max_left m p.tick).trans (ih _)

/-- No transaction that leaves the rate alone is applied before the earliest tick (R99). -/
theorem State.earliestTick_le_appliedTick (s : State) {ws : List Write} (target : Nat) (h : rateChange s.rate ws = none) :
    s.earliestTick ≤ s.appliedTick ws target := by
  unfold State.appliedTick
  rw [h, ite_self]
  exact (le_max_right _ _).trans (le_foldl_max_tick _ _)

section
variable {s : State} {h : OdHead}

/-- A switchover is pending alone at its applied tick (R99, R190). -/
theorem execSwitchover_pends (c : BitVec 8) (hw : s.writes h P.SWITCHOVER 0xFFFF 2 (leBytes 1 c.toNat))
    (hc : (s.acceptCounter h).commitRefused [keptWrite h P.SWITCHOVER 0 (leBytes 1 c.toNat)] 0 false = none) :
    ∃ t k, exec (.switchover h c) s = .next t ∧ s.acked t h ∧ s.earliestTick ≤ k ∧
      t.od.pending = s.od.pending ++ [({ num := 0, tick := k, at_ := s.now
                                         writes := [keptWrite h P.SWITCHOVER 0 (leBytes 1 c.toNat)] } : PendTxn)] := by
  have hacc := s.served_acceptCounter h
  have hod : (s.acceptCounter h).od = s.od := hacc.part State.od fun _ => rfl
  have hnow : (s.acceptCounter h).now = s.now := hacc.part State.now fun _ => rfl
  have htime : (s.acceptCounter h).time = s.time := hacc.part State.time fun _ => rfl
  have hearliest : (s.acceptCounter h).earliestTick = s.earliestTick := by
    unfold State.earliestTick State.rate State.isTile
    rw [htime, hacc.start, hacc.par 0 (by decide) (by decide)]
  have heff : s.writeEffect (writeCtx h true) P.SWITCHOVER 0 (leBytes 1 c.toNat) = (ST.OK, s) := by
    simp [State.writeEffect]
  generalize hws : [keptWrite h P.SWITCHOVER 0 (leBytes 1 c.toNat)] = ws at hc ⊢
  have hrate : rateChange (s.acceptCounter h).rate ws = none := by
    rw [← hws]
    rfl
  have hle := (s.acceptCounter h).earliestTick_le_appliedTick (ws := ws) 0 hrate
  rw [hearliest] at hle
  have hpends := (s.acceptCounter h).commit_pends 0 ws 0
  have hdesk : ((s.acceptCounter h).commit 0 ws 0).desk = s.desk := by
    simp only [State.commitDesk, Prod.mk.injEq] at hpends
    obtain ⟨hcod, hcupd, hcnow, hcphase⟩ := hpends
    exact (State.desk_of_commitDesk (by rw [hcod]) hcupd hcnow hcphase).trans hacc.desk
  obtain ⟨t, hexec, ht⟩ : ∃ t, exec (.switchover h c) s = .next t ∧ s.attended h ((s.acceptCounter h).commit 0 ws 0) t := by
    subst hws
    exact ⟨_, rfl, State.odMessage_committed hw (oneWrite_id _ _ _ (by decide)) (elementOf_lone _ _ (by decide) (by decide)) heff
      (by decide) hc hdesk⟩
  have hpending : t.od.pending = _ := (ht.part (fun x => x.od.pending) fun _ => rfl).trans
    (congrArg (fun x => x.1.pending) hpends)
  rw [hod, hnow] at hpending
  exact ⟨t, _, hexec, ht.acked, hle, hpending⟩

/-! Epochs, RDM requests and thresholds (R184, R402, R419) -/

/-- EPOCH_FLOOR is the tile's E_t (R184). -/
theorem execEpochFloor_sets (e : BitVec 32) (htile : s.isTile = true) (hw : s.writes h P.EPOCH_FLOOR 0xFFFF 5 (leBytes 4 e.toNat)) :
    ∃ t, exec (.epochFloor h e) s = .next t ∧ t.par P.EPOCH = e.toNat ∧ s.acked t h := by
  have hacc := s.served_acceptCounter h
  have hv : leNat (leBytes 4 e.toNat) = e.toNat := leNat_leBytes_of_lt e.isLt
  have hdesk (u : State) : (u.epochFloorWrite e.toNat).desk = u.desk := by
    unfold State.epochFloorWrite
    refine State.desk_ite ?_ rfl
    rw [State.syncEval_frame]
    rfl
  have hset (u : State) (hu : u.isTile = true) : (u.epochFloorWrite e.toNat).par P.EPOCH = e.toNat := by
    unfold State.epochFloorWrite
    rw [if_pos hu, State.par_syncEval_spared (ids := [P.READY_TIME]) (evs := syncEvents) (by decide) _ (by simp) (by simp),
      State.par_setPar]
  obtain ⟨t, hexec, ht⟩ : ∃ t, exec (.epochFloor h e) s = .next t ∧ s.attended h ((s.acceptCounter h).epochFloorWrite e.toNat) t :=
    ⟨_, rfl, State.total_attended (g := fun u => u.epochFloorWrite e.toNat) hw (by decide)
      (elementOf_lone _ _ (by decide) (by decide)) (by decide) (fun u => by simp [State.writeEffect, hv]) hdesk⟩
  exact ⟨t, hexec, (ht.par 0 (by decide) (by decide) (by decide)).trans (hset _ (by rwa [State.isTile, hacc.start])), ht.acked⟩

/-- An RDM request waits at its port, and no other port changes (R402). -/
theorem execRdmRequest_waits (p : Fin 16) (data : List Byte) (hw : s.writes h P.RDM_REQUEST p 14 (leBytes 4 0 ++ data))
    (ha : s.acting = true) (h2 : 2 ≤ data.length) (hlen : 2 + leNat (data.take 2) ≤ data.length) :
    ∃ t, exec (.rdmRequest h p data) s = .next t ∧ s.acked t h ∧
      (t.dmxOf p).requests = (s.dmxOf p).requests ++ [((data.drop 2).take (leNat (data.take 2)), s.now)] ∧
      ∀ q, q ≠ p.val → t.dmxOf q = s.dmxOf q := by
  have hacc := s.served_acceptCounter h
  have hfix : (s.acceptCounter h).fix = s.fix := hacc.part State.fix fun _ => rfl
  have hnow : (s.acceptCounter h).now = s.now := hacc.part State.now fun _ => rfl
  have hact : (s.acceptCounter h).acting = true := by
    rwa [State.acting, State.sluice, hacc.par 0 (by decide) (by decide)]
  have heff (u : State) (hu : u.acting = true) : u.writeEffect (writeCtx h true) P.RDM_REQUEST p (leBytes 4 0 ++ data) =
      (0, u.updDmx p fun d => { d with requests := d.requests ++ [((data.drop 2).take (leNat (data.take 2)), u.now)] }) := by
    have he : u.writeEffect (writeCtx h true) P.RDM_REQUEST p (leBytes 4 0 ++ data) =
        u.rdmStep p (leNat ((leBytes 4 0 ++ data).take 4)) ((leBytes 4 0 ++ data).drop 4) := by
      simp [State.writeEffect]
    rw [he, leNat_offset (by decide), data_of_offset, State.rdmStep, if_neg (by simp [hu]), if_neg (by omega)]
  obtain ⟨t, hexec, ht⟩ : ∃ t, exec (.rdmRequest h p data) s = .next t ∧ s.attended h ((s.acceptCounter h).updDmx p fun d =>
      { d with requests := d.requests ++ [((data.drop 2).take (leNat (data.take 2)), (s.acceptCounter h).now)] }) t :=
    ⟨_, rfl, State.write_attended hw (by decide) (elementOf_array _ _ (by decide) (by decide) (by omega)) (by decide) (heff s ha)
      (heff _ hact) rfl⟩
  have hport : t.fix = _ := ht.part State.fix fun _ => rfl
  refine ⟨t, hexec, ht.acked, ?_, fun q hq => ?_⟩
  · rw [State.dmxOf, hport, State.updDmx, SMap.upd, SMap.get_set_same, hfix, hnow, State.dmxOf]
  · rw [State.dmxOf, hport, State.updDmx, SMap.upd, SMap.get_set_ne _ _ _ _ hq, hfix, State.dmxOf]

end

/-! Transmit thresholds (R419) -/

/-- A port's transmit threshold takes its step, before what is told of it. -/
def State.txSet (s : State) (p v : Nat) : State :=
  if p = 0 then s.setPar P.TX_THRESHOLD 0 v else s.setPar P.T1S_THRESHOLD (p - 1) v

theorem State.setTxStep_eq (s : State) (p v : Nat) :
    s.setTxStep p v = (s.txSet p v).raiseIf (v == 8 && s.txStep p != 8) E.TX_STORE_FORWARD p := rfl

theorem State.txStep_raiseIf (s : State) (b : Bool) (i d : Nat) {p : Nat} (hp : p ≤ 65536) :
    (s.raiseIf b E.TX_STORE_FORWARD i d).txStep p = s.txStep p := by
  unfold State.txStep
  rw [State.par_raiseIf _ _ _ _ _ (by decide) (by decide) (by decide),
    State.par_raiseIf _ _ _ _ _ (by decide) (by omega) (by decide)]

theorem State.txStep_txSet (s : State) (p v : Nat) : (s.txSet p v).txStep p = v := by
  unfold State.txSet State.txStep
  split <;> exact State.par_setPar _ _ _ _

theorem State.setTxStep_desk (s : State) (p v : Nat) : (s.setTxStep p v).desk = s.desk := by
  have hset : (s.txSet p v).desk = s.desk := State.desk_ite rfl rfl
  rw [State.setTxStep_eq, State.raiseIf_eq]
  exact hset

/-- The last step, newly taken, is told. -/
theorem State.told_setTxStep (s : State) {p : Nat} (hp : p ≤ 65536) (h : s.txStep p ≠ 8) :
    s.told (s.setTxStep p 8) E.TX_STORE_FORWARD := by
  have hset : (s.txSet p 8).par P.EVENT_COUNT E.TX_STORE_FORWARD = s.par P.EVENT_COUNT E.TX_STORE_FORWARD := by
    unfold State.txSet
    split
    · exact State.par_setPar_other _ _ (by decide) (by decide) (by decide)
    · exact State.par_setPar_other _ _ (by decide) (by omega) (by decide)
  have hb : (8 == 8 && s.txStep p != 8) = true := by simpa using h
  rw [State.setTxStep_eq, hb]
  exact State.told_of_before (State.told_raise _ _ _ _ _ (by decide)) hset

section
variable {s : State} {h : OdHead} {id idx e p : Nat} {c : BitVec 8} (hw : s.writes h id idx 2 (leBytes 1 c.toNat))
  (hid : id < 2 ^ 24) (he : elementOf (oneWrite id idx 2 (leBytes 1 c.toNat)) = e) (hsh : shadowed id = false) (hp : p < 65536)
  (heff : ∀ (u : State) x v, u.writeEffect x id e v = (0, u.setTxStep p (leNat v)))
include hw hid he hsh hp heff

/-- A transmit threshold is in force, its last step told (R419). -/
theorem State.txThreshold_sets {i : Instr} (hi : exec i s = .next (s.odMessage h OP.WRITE [oneWrite id idx 2 (leBytes 1 c.toNat)])) :
    ∃ t, exec i s = .next t ∧ t.txStep p = c.toNat ∧ s.acked t h ∧ (c = 8 → s.txStep p ≠ 8 → s.told t E.TX_STORE_FORWARD) := by
  have hacc := s.served_acceptCounter h
  have hv : leNat (leBytes 1 c.toNat) = c.toNat := leNat_leBytes_of_lt c.isLt
  obtain ⟨t, hexec, ht⟩ : ∃ t, exec i s = .next t ∧ s.attended h ((s.acceptCounter h).setTxStep p c.toNat) t :=
    ⟨_, hi, State.total_attended (g := fun u => u.setTxStep p c.toNat) hw hid he hsh (fun u => by rw [heff, hv])
      fun u => u.setTxStep_desk _ _⟩
  have hp1 : p - 1 < 65536 := by omega
  have hstep : t.txStep p = ((s.acceptCounter h).setTxStep p c.toNat).txStep p := by
    unfold State.txStep
    rw [ht.par 0 (by decide) (by decide) (by decide), ht.par _ (by decide) (by decide) hp1]
  have hwas : (s.acceptCounter h).txStep p = s.txStep p := by
    unfold State.txStep
    rw [hacc.par 0 (by decide) (by decide), hacc.par _ (by decide) hp1]
  refine ⟨t, hexec, ?_, ht.acked, fun hc hne => ht.told (by decide) ?_⟩
  · rw [hstep, State.setTxStep_eq, State.txStep_raiseIf _ _ _ _ hp.le, State.txStep_txSet]
  · rw [hc]
    exact State.told_setTxStep _ hp.le (by rwa [hwas])

end

/-- Settles O50: each write is the law of its parameter. -/
theorem deviceWrites : Obligations.DeviceWrites := by
  unfold Obligations.DeviceWrites
  intro h s
  refine ⟨fun hw hr => ?_, fun hw hr => ?_, execOscReset_waits, execEyeScanStart_scans, execPrbsGen_starts, execPrbsChk_sets,
    execInject_waits, execSwitchover_pends, execEpochFloor_sets, execRdmRequest_waits, fun c hw => ?_, fun n c hw => ?_⟩
  · exact ⟨_, rfl, State.request_noted hw hr⟩
  · exact ⟨_, rfl, State.request_noted hw hr⟩
  · exact State.txThreshold_sets hw (by decide) (elementOf_lone _ _ (by decide) (by decide)) (by decide) (by decide)
      (fun _ _ _ => by simp [State.writeEffect]) rfl
  · exact State.txThreshold_sets hw (by decide) (elementOf_array _ _ (by decide) (by decide) (by omega)) (by decide) (by omega)
      (fun _ _ _ => by simp [State.writeEffect]) rfl

end Sys2Proof.Machine
end

section
/-! The way of a message of any operation through the service (R92 to R107, R539): what a refusal and an acceptance leave. -/

namespace Sys2Proof.Machine

/-! Frames -/

/-- States that agree outside what the service keeps and sends differ in nothing else. -/
theorem State.eq_of_sansService {s t : State} (h : t.sansService = s.sansService) :
    t = { s with dict := t.dict, ev := t.ev, perf := t.perf, eth := t.eth, chain := t.chain, outbox := t.outbox
                 security := t.security } :=
  calc t = { t.sansService with dict := t.dict, ev := t.ev, perf := t.perf, eth := t.eth, chain := t.chain, outbox := t.outbox
                                security := t.security } := rfl
    _ = { s.sansService with dict := t.dict, ev := t.ev, perf := t.perf, eth := t.eth, chain := t.chain, outbox := t.outbox
                             security := t.security } := by rw [h]

/-- An operation that spares all parameters but some, and raises events, leaves the others as they are. -/
theorem State.samePars_of_spared {s t : State} {ids evs : List Nat}
    (hp : ∀ id idx, spared ids evs id idx = true → t.par id idx = s.par id idx) {ids' : List Nat}
    (hsub : P.EVENT_COUNT :: ids ⊆ ids') : s.samePars t ids' := fun id idx hid hidx =>
  hp id idx (spared_iff.mpr ⟨hidx, fun hm => hid (hsub (List.mem_cons_of_mem _ hm)),
    fun he => absurd (hsub (he ▸ List.mem_cons_self)) hid⟩)

theorem State.samePars_trans {s t u : State} {ids : List Nat} (h : s.samePars t ids) (h' : t.samePars u ids) : s.samePars u ids :=
  fun id idx hid hidx => (h' id idx hid hidx).trans (h id idx hid hidx)

theorem State.samePars_raise (s : State) {e : Nat} (i d c : Nat) (he : e < 65536) {ids : List Nat} (hc : P.EVENT_COUNT ∈ ids) :
    s.samePars (s.raise e i d c) ids := fun _ _ hid hidx =>
  State.par_raise s e i d c (fun h => hid (h ▸ hc)) hidx he

/-! The time of the latest claim (R96) -/

theorem State.noteClaim_eq (s : State) (h : OdHead) (op : Nat) :
    s.noteClaim h op = { s with od := { s.od with claimAt := (s.noteClaim h op).od.claimAt } } := by
  unfold State.noteClaim
  split <;> rfl

theorem State.noteClaim_other (s : State) (h : OdHead) {op : Nat} (hop : op ≠ OP.LEASE_CLAIM) : s.noteClaim h op = s :=
  if_neg hop

theorem State.par_noteClaim (s : State) (h : OdHead) (op id idx : Nat) : (s.noteClaim h op).par id idx = s.par id idx := by
  rw [State.noteClaim_eq]
  rfl

/-! The turn of a message (R465, R471, R539) -/

section
variable {s : State} {h : OdHead} {op : Nat} {items : List OdItem} (fl : Bool)

/-- A message that reaches the dictionary has its turn at once. -/
theorem State.odMessage_of_reaches (hr : s.reaches h op items) :
    s.odMessage h op items fl = (s.noteClaim h op).odServe h op items fl := by
  obtain ⟨hpath, hframe, htaken, horder, hstale, hburn, hdue⟩ := hr
  have hturn : (h.authed && s.security.burning.isSome) = false := by
    cases ha : h.authed with
    | false => rfl
    | true => simp [hburn ha]
  unfold State.odMessage
  rw [if_neg (by simp [hpath]), if_neg (by simp [hframe]), if_neg (by simp [htaken, horder]), if_neg (by simp [hstale]), State.odTurn,
    if_neg (by simp [hturn]), hdue]

/-- The message repeats the one the holder had answered last (R95). -/
def State.repeats (s : State) (h : OdHead) (op : Nat) : Bool :=
  op != OP.READ && s.od.holder == some h.path && h.seq.toNat == s.par P.LEASE_SEQ &&
    (!h.authed || s.od.lastCounter == some h.counter.toNat) && s.od.lastResp.isSome

theorem State.repeats_of_isNew (hn : s.isNew h op) : s.repeats h op = false := by
  unfold State.repeats
  obtain hr | hr | hr | hr := hn
  · simp [hr]
  · simp [hr]
  · simp [hr]
  · simp [hr]

theorem State.repeats_of_not_isNew (hn : ¬ s.isNew h op) (ha : h.authed = false) :
    s.repeats h op = true ∧ ∃ r, s.od.lastResp = some r := by
  unfold State.isNew at hn
  push Not at hn
  obtain ⟨hop, hholder, hresp, hseq⟩ := hn
  obtain ⟨r, hr⟩ := Option.ne_none_iff_exists'.mp hresp
  exact ⟨by simp [State.repeats, hop, hholder, hseq, ha, hr], r, hr⟩

/-- A message refused as a whole shows in LAST_REFUSAL and is answered with its status (R91, R107). -/
def State.refuseWhole (s : State) (h : OdHead) (op : Nat) (items : List OdItem) (st : Nat) : State :=
  (s.odRefused h op [st] none).odAnswer h { op := op, seq := h.seq.toNat, txn := h.txn.toNat, items := allItems op items st } false

/-- What a refusal for the order of counter, lease, epoch and SEQ tells before it is answered (R104, R105). -/
def State.orderTold (s : State) (h : OdHead) (st : Nat) : State :=
  if st = ST.AUTH then s.authRefused h 3 else if st = ST.REPLAY then s.raise E.REPLAY_REFUSED h.keyId.toNat else s

/-- What the message is answered once its operation has been carried out (R91). -/
def Done.response (d : Done) (h : OdHead) (op : Nat) (items : List OdItem) : Resp :=
  { op := op, seq := h.seq.toNat, txn := h.txn.toNat, items := d.items.getD (statusItems op items d.sts) }

/-- Every item of a listed operation was accepted. -/
def Done.good (d : Done) (op : Nat) : Bool := knownOp op && d.sts.all (· == ST.OK)

/-- The refusal or the acceptance is noted (R95, R96, R107). -/
def Done.noted (d : Done) (h : OdHead) (op : Nat) (items : List OdItem) : State :=
  let s := d.state.odRefused h op d.sts d.named
  if d.good op then s.odAccepted h op (d.response h op items) else s

/-- The response is sent, or held back while the fuses it reports burn. -/
def Done.answered (d : Done) (h : OdHead) (op : Nat) (items : List OdItem) (burning : Bool) : State :=
  (d.noted h op items).odAnswer h (d.response h op items) (!burning && (d.noted h op items).security.burning.isSome)

/-- What an operation that was carried out leaves: a release frees the lease behind its answer. -/
def Done.ended (d : Done) (h : OdHead) (op : Nat) (items : List OdItem) (burning : Bool) : State :=
  (if d.good op && op == OP.LEASE_RELEASE then (d.answered h op items burning).leaseFree
    else d.answered h op items burning).odAfter

theorem State.odServe_of_tagCause {c : Nat} (ht : s.tagCause h op items = some c) :
    s.odServe h op items fl = (s.authRefused h c).refuseWhole h op items ST.AUTH := by
  unfold State.odServe
  dsimp only
  rw [ht]
  rfl

theorem State.odServe_repeats {r : Resp} (ht : s.tagCause h op items = none) (hn : s.repeats h op = true)
    (hr : s.od.lastResp = some r) : s.odServe h op items fl = s.odAnswer h r false := by
  unfold State.repeats at hn
  unfold State.odServe
  dsimp only
  rw [ht]
  dsimp only
  rw [hn, hr]

theorem State.odServe_of_orderStatus {st : Nat} (ht : s.tagCause h op items = none) (hn : s.isNew h op)
    (ho : s.orderStatus h op items = some st) : s.odServe h op items fl = (s.orderTold h st).refuseWhole h op items st := by
  have hretry := State.repeats_of_isNew hn
  unfold State.repeats at hretry
  unfold State.odServe
  dsimp only
  rw [ht]
  dsimp only
  rw [hretry]
  dsimp only
  rw [ho]
  rfl

theorem State.odServe_of_passed (ht : s.tagCause h op items = none) (hn : s.isNew h op) (ho : s.orderStatus h op items = none) :
    s.odServe h op items fl = (s.odAct h op items fl).ended h op items s.security.burning.isSome := by
  have hretry := State.repeats_of_isNew hn
  unfold State.repeats at hretry
  unfold State.odServe
  dsimp only
  rw [ht]
  dsimp only
  rw [hretry]
  dsimp only
  rw [ho]
  rfl

/-- The checks do not look at the time of the latest claim. -/
theorem State.checks_noteClaim (s : State) (h : OdHead) (op : Nat) (items : List OdItem) :
    (s.noteClaim h op).tagCause h op items = s.tagCause h op items ∧
      (s.noteClaim h op).orderStatus h op items = s.orderStatus h op items ∧
      ((s.noteClaim h op).isNew h op ↔ s.isNew h op) := by
  rw [State.noteClaim_eq]
  exact ⟨rfl, rfl, Iff.rfl⟩

/-- A message that clears the checks is carried out (R539 step 7). -/
theorem State.odMessage_of_cleared (hc : s.clears h op items) :
    s.odMessage h op items fl = ((s.noteClaim h op).odAct h op items fl).ended h op items s.security.burning.isSome := by
  obtain ⟨hreach, htag, horder, hnew, -, -⟩ := hc
  obtain ⟨htag', horder', hnew'⟩ := s.checks_noteClaim h op items
  have hburn : (s.noteClaim h op).security.burning = s.security.burning := by rw [State.noteClaim_eq]
  rw [State.odMessage_of_reaches fl hreach,
    State.odServe_of_passed fl (htag'.trans htag) (hnew'.mpr hnew) (horder'.trans horder), hburn]

end

/-! A refusal (R91, R107) -/

/-- LAST_REFUSAL names the only status of a refused message (R107). -/
theorem State.par_odRefused_lone (s : State) (h : OdHead) (op : Nat) {st : Nat} (hst : st ≠ ST.OK) :
    (s.odRefused h op [st] none).par P.LAST_REFUSAL = op * 2 ^ 24 + st * 65536 := by
  have hfound : [st].findIdx? (· ≠ ST.OK) = some 0 := by simp [List.findIdx?_cons, hst]
  unfold State.odRefused
  rw [hfound]
  dsimp only
  rw [State.par_raiseIf _ _ _ _ _ (by decide) (by decide) (by decide), State.par_congr (State.count_dict _ _ _) (State.count_start _ _ _),
    State.par_setPar, List.getD_cons_zero, Option.getD_none, Nat.zero_mod, Nat.add_zero]

theorem State.odRefused_accepted (s : State) (h : OdHead) (op : Nat) {sts : List Nat} (named : Option Nat)
    (hs : sts.all (· == ST.OK) = true) : s.odRefused h op sts named = s := by
  have hnone : sts.findIdx? (· ≠ ST.OK) = none := by
    rw [List.findIdx?_eq_none_iff]
    intro st hst
    simpa using List.all_eq_true.mp hs st hst
  unfold State.odRefused
  rw [hnone]

theorem State.security_odRefused (s : State) (h : OdHead) (op : Nat) (sts : List Nat) (named : Option Nat) :
    (s.odRefused h op sts named).security = s.security :=
  congrArg (fun x => x.2.2) ((State.fixed_fold _).trans ((s.odRefused_fixed h op sts named).trans (State.fixed_fold s).symm))

theorem State.security_respond (s : State) (p : Path) (r : Resp) : (s.respond p r).security = s.security :=
  congrArg (fun x => x.2.2) ((State.fixed_fold _).trans ((s.respond_fixed p r).trans (State.fixed_fold s).symm))

theorem State.security_odAnswer_now (s : State) (h : OdHead) (r : Resp) : (s.odAnswer h r false).security = s.security := by
  unfold State.odAnswer
  split
  · rfl
  · exact s.security_respond h.path r

/-! An acceptance (R95, R96) -/

theorem State.odAccepted_as_write (s : State) (h : OdHead) {op : Nat} (r : Resp) (hop : op ≠ OP.READ) :
    s.odAccepted h op r = s.odAccepted h OP.WRITE r := by
  unfold State.odAccepted
  dsimp only
  rw [if_neg hop, if_neg (show OP.WRITE ≠ OP.READ by decide)]

/-- An accepted message other than a READ is noted, and answered, around the effect of its operation. -/
theorem Done.attended_answered {d : Done} {op : Nat} (h : OdHead) (items : List OdItem) (b : Bool) (hk : knownOp op = true)
    (hop : op ≠ OP.READ) (hs : d.sts.all (· == ST.OK) = true) :
    d.state.attended h d.state (d.answered h op items b) := by
  have hgood : d.good op = true := by simp only [Done.good, hk, hs, Bool.and_self]
  have hnoted : d.noted h op items = d.state.odAccepted h OP.WRITE (d.response h op items) := by
    unfold Done.noted
    dsimp only
    rw [if_pos hgood, State.odRefused_accepted _ _ _ _ hs, State.odAccepted_as_write _ _ _ hop]
  obtain ⟨hparts, hpars, hacked⟩ := d.state.odAccepted_keeps h (d.response h op items)
  rw [← hnoted] at hparts hpars hacked
  have hans := (d.noted h op items).served_odAnswer h (d.response h op items) (!b && (d.noted h op items).security.burning.isSome)
  have hod : (d.answered h op items b).od = (d.noted h op items).od := hans.part State.od fun _ => rfl
  refine ⟨(State.sansMarks_of_sansService hans.parts).trans hparts, fun id idx hsp => ?_, fun hp => ?_⟩
  · exact ((hans.mono (List.nil_subset _)).pars id idx hsp).trans (hpars id idx hsp)
  · obtain ⟨hseq, hlast⟩ := hacked hp
    exact ⟨(hans.par 0 (by decide) (by decide)).trans hseq, by rw [hod, hlast]⟩

/-- With no image start and no reset left due, an accepted message other than a READ and a release leaves the effect of its
operation, noted. -/
theorem Done.attended_ended {d : Done} {op : Nat} (h : OdHead) (items : List OdItem) (b : Bool) (hk : knownOp op = true)
    (hop : op ≠ OP.READ) (hrel : op ≠ OP.LEASE_RELEASE) (hs : d.sts.all (· == ST.OK) = true) (hb : d.state.upd.bootDue = false)
    (hr : d.state.upd.resetNow = false) : d.state.attended h d.state (d.ended h op items b) := by
  have ht := Done.attended_answered h items b hk hop hs
  have hupd : (d.answered h op items b).upd = d.state.upd := ht.part State.upd fun _ => rfl
  unfold Done.ended
  rw [if_neg (by simp [hrel]), State.odAfter_quiet (by rw [hupd, hb]) (by rw [hupd, hr])]
  exact ht

end Sys2Proof.Machine
end

section
/-! Messages that fail a check of R539 (R92 to R106, R184). -/

namespace Sys2Proof.Machine

/-! Nothing but the reports -/

section
variable {s t u : State}

theorem State.onlyReports_trans (h : s.onlyReports t) (h' : t.onlyReports u) : s.onlyReports u := by
  obtain ⟨hpars, ht⟩ := h
  obtain ⟨hpars', hu⟩ := h'
  exact ⟨State.samePars_trans hpars hpars', hu.trans (by rw [ht])⟩

theorem State.onlyReports_raise (s : State) {e : Nat} (i d c : Nat) (he : e < 65536) : s.onlyReports (s.raise e i d c) := by
  refine ⟨s.samePars_raise i d c he (by decide), ?_⟩
  rw [State.raise_eq]

theorem State.onlyReports_noteClaim (s : State) (h : OdHead) (op : Nat) : s.onlyReports (s.noteClaim h op) := by
  refine ⟨fun id idx _ _ => s.par_noteClaim h op id idx, ?_⟩
  rw [State.noteClaim_eq]

/-- The service that reports a refusal keeps the keys, too. -/
theorem State.onlyReports_served {ids : List Nat} (h : State.served ids s t) (hids : ids ⊆ [P.LAST_REFUSAL])
    (hsec : t.security = s.security) : s.onlyReports t := by
  refine ⟨State.samePars_of_spared h.pars (List.cons_subset_cons _ hids), (State.eq_of_sansService h.parts).trans ?_⟩
  rw [hsec, ← h.part State.od fun _ => rfl]

end

section
variable (s : State) (h : OdHead) (op : Nat) (items : List OdItem) (st : Nat)

theorem State.served_refuseWhole : State.served [P.LAST_REFUSAL] s (s.refuseWhole h op items st) :=
  (s.served_odRefused h op [st] none).trans ((State.served_odAnswer _ _ _ _).mono (List.nil_subset _))

theorem State.onlyReports_refuseWhole : s.onlyReports (s.refuseWhole h op items st) :=
  State.onlyReports_served (s.served_refuseWhole h op items st) (List.Subset.refl _)
    ((State.security_odAnswer_now _ _ _).trans (s.security_odRefused h op [st] none))

theorem State.par_refuseWhole (hst : st ≠ ST.OK) :
    (s.refuseWhole h op items st).par P.LAST_REFUSAL = op * 2 ^ 24 + st * 65536 :=
  (State.par_odAnswer _ _ _ _ (by decide)).trans (s.par_odRefused_lone h op hst)

theorem State.onlyReports_authRefused (cause : Nat) : s.onlyReports (s.authRefused h cause) :=
  s.onlyReports_raise _ _ _ (by decide)

theorem State.onlyReports_orderTold : s.onlyReports (s.orderTold h st) := by
  unfold State.orderTold
  split
  · exact s.onlyReports_authRefused h 3
  · split
    · exact s.onlyReports_raise _ _ _ (by decide)
    · exact State.onlyReports_served (State.served.refl [] s) (List.nil_subset _) rfl

end

/-! The order of counter, lease, epoch and SEQ -/

/-- The order of a message is refused with a status that says so (R105, R94, R95). -/
theorem State.orderStatus_ne_ok {s : State} {h : OdHead} {op : Nat} {items : List OdItem} {st : Nat}
    (ho : s.orderStatus h op items = some st) : st ≠ ST.OK := by
  have hite {c : Prop} [Decidable c] {n : Nat} {o : Option Nat} (hn : n ≠ ST.OK) (hne : o ≠ some ST.OK) :
      (if c then some n else o) ≠ some ST.OK := by
    split
    · exact fun he => hn (Option.some.inj he)
    · exact hne
  have hnone {c : Prop} [Decidable c] {o : Option Nat} (hne : o ≠ some ST.OK) : (if c then none else o) ≠ some ST.OK := by
    split
    · exact nofun
    · exact hne
  have hclaim {c d : Prop} [Decidable c] [Decidable d] {o : Option Nat} (hne : o ≠ some ST.OK) :
      (if c then (if d then some ST.STALE_EPOCH else none) else o) ≠ some ST.OK := by
    split
    · exact hite (by decide) nofun
    · exact hne
  have hne : s.orderStatus h op items ≠ some ST.OK :=
    hite (by decide) <| hite (by decide) <| hnone <| hclaim <| hite (by decide) <| hite (by decide) <| hnone <| hite (by decide) <|
      hite (by decide) nofun
  exact fun hst => hne (ho.trans (congrArg some hst))

/-! A refused message -/

section
variable {s : State} {h : OdHead} {op : Nat} {items : List OdItem} (fl : Bool) (hr : s.reaches h op items)
include hr

/-- A failed tag is told by EV AUTH_FAILED (R104). -/
theorem State.odMessage_tagFails (ht : s.tagCause h op items ≠ none) :
    s.onlyReports (s.odMessage h op items fl) ∧ s.told (s.odMessage h op items fl) E.AUTH_FAILED := by
  obtain ⟨c, hc⟩ := Option.ne_none_iff_exists'.mp ht
  obtain ⟨htag, -, -⟩ := s.checks_noteClaim h op items
  rw [State.odMessage_of_reaches fl hr, State.odServe_of_tagCause fl (htag.trans hc)]
  refine ⟨State.onlyReports_trans (s.onlyReports_noteClaim h op)
    (State.onlyReports_trans (State.onlyReports_authRefused _ _ _) (State.onlyReports_refuseWhole _ _ _ _ _)), ?_⟩
  have htold : (s.noteClaim h op).told ((s.noteClaim h op).authRefused h c) E.AUTH_FAILED := State.told_raise _ _ _ _ _ (by decide)
  exact State.told_of_after (State.told_of_before htold (s.par_noteClaim h op _ _))
    ((State.served_refuseWhole _ _ _ _ _).pars _ _ (by decide))

/-- A message out of order shows in LAST_REFUSAL with its status (R105, R95, R107). -/
theorem State.odMessage_outOfOrder {st : Nat} (ht : s.tagCause h op items = none) (ho : s.orderStatus h op items = some st)
    (hn : s.isNew h op) : s.onlyReports (s.odMessage h op items fl) ∧
      (s.odMessage h op items fl).par P.LAST_REFUSAL = op * 2 ^ 24 + st * 65536 := by
  obtain ⟨htag, horder, hnew⟩ := s.checks_noteClaim h op items
  rw [State.odMessage_of_reaches fl hr, State.odServe_of_orderStatus fl (htag.trans ht) (hnew.mpr hn) (horder.trans ho)]
  exact ⟨State.onlyReports_trans (s.onlyReports_noteClaim h op)
    (State.onlyReports_trans (State.onlyReports_orderTold _ _ _) (State.onlyReports_refuseWhole _ _ _ _ _)),
    State.par_refuseWhole _ _ _ _ _ (State.orderStatus_ne_ok ho)⟩

/-- A repeat of the holder's last message is answered anew (R95). -/
theorem State.odMessage_repeated (ht : s.tagCause h op items = none) (hn : ¬ s.isNew h op) (ha : h.authed = false) :
    s.onlyReports (s.odMessage h op items fl) ∧ (s.odMessage h op items fl).par P.LAST_REFUSAL = s.par P.LAST_REFUSAL := by
  obtain ⟨htag, -, hnew⟩ := s.checks_noteClaim h op items
  obtain ⟨hrep, r, hresp⟩ := State.repeats_of_not_isNew (mt hnew.mp hn) ha
  rw [State.odMessage_of_reaches fl hr, State.odServe_repeats fl (htag.trans ht) hrep hresp]
  exact ⟨State.onlyReports_trans (s.onlyReports_noteClaim h op)
    (State.onlyReports_served (State.served_odAnswer _ _ _ _) (List.nil_subset _) (State.security_odAnswer_now _ _ _)),
    (State.par_odAnswer _ _ _ _ (by decide)).trans (s.par_noteClaim h op _ _)⟩

end

/-- The commands of R90 are messages of their operations. -/
theorem exec_odCommands {h : OdHead} {items : List OdItem} {c : Instr × Nat} (hc : c ∈ odCommands h items) (s : State) :
    exec c.1 s = .next (s.odMessage h c.2 items) := by
  simp only [odCommands, List.mem_cons, List.not_mem_nil, or_false] at hc
  rcases hc with rfl | rfl | rfl | rfl | rfl | rfl | rfl | rfl | rfl | rfl <;> rfl

/-- Settles O45: each check of R539, in its order, ends the message with its report alone. -/
theorem dictionaryRefusals : Obligations.DictionaryRefusals := by
  unfold Obligations.DictionaryRefusals
  intro h items s c hc
  rw [exec_odCommands hc s]
  refine ⟨fun hp => ?_, fun hp hf => ?_, fun hp hf ho => ?_, fun hp hf ht ho hs => ?_, fun hr => ⟨fun ht => ?_,
    fun st ht ho hn => ?_, fun ht hn ha => ?_⟩⟩
  · rw [State.odMessage, if_pos (by simp [hp])]
  · rw [State.odMessage, if_neg (by simp [hp]), if_pos (by simp [hf])]
  · rw [State.odMessage, if_neg (by simp [hp]), if_neg (by simp [hf]), if_pos (by simpa using ho)]
  · rw [State.odMessage, if_neg (by simp [hp]), if_neg (by simp [hf]), if_neg (by simp [ht, ho]), if_pos hs]
  · exact ⟨_, rfl, State.odMessage_tagFails _ hr ht⟩
  · exact ⟨_, rfl, State.odMessage_outOfOrder _ hr ht ho hn⟩
  · exact ⟨_, rfl, State.odMessage_repeated _ hr ht hn ha⟩

end Sys2Proof.Machine
end

section
/-! The lease: claims, renewals, releases and lapses (R6, R90, R94 to R96). -/

namespace Sys2Proof.Machine

/-! The manager function stays where it is (R6, R182) -/

section
variable {s t : State}

theorem State.managed_congr (hrole : t.start.role = s.start.role) (hrec : t.start.record = s.start.record)
    (hman : t.red.manager = s.red.manager) (hsl : t.sluice = s.sluice) (hm : s.managed) : t.managed := by
  unfold State.managed State.isHead State.managerEn State.acting
  rw [hrole, hrec, hman, hsl]
  exact hm

/-- The state with the mark of the manager function as `m`. -/
def State.managerSet (s : State) (m : Bool) : State := { s with red := { s.red with manager := m } }

theorem State.par_managerSet (s : State) (m : Bool) (id idx : Nat) : (s.managerSet m).par id idx = s.par id idx :=
  State.par_congr rfl rfl _ _

/-- A head that manages where it could does not take the function anew, at most it gives it up (R6). -/
theorem State.managerEval_of_managed (hm : s.managed) :
    ∃ m, s.managerEval = s.managerSet m := by
  unfold State.managerEval
  split
  · exact ⟨false, rfl⟩
  · refine ⟨s.red.manager, ?_⟩
    split
    · rename_i hact
      have hact' : s.acting = true := (Bool.and_eq_true _ _ ▸ hact).1
      have hkeep : (!s.isHead || !s.managerEn || s.red.manager || s.managerAbove || s.spent) = true := by
        cases hh : s.isHead with
        | false => simp
        | true =>
          cases he : s.managerEn with
          | false => simp
          | true => simp [hm hh he hact']
      exact if_pos hkeep
    · rfl

end

/-! The lease is freed (R96) -/

/-- The lease dropped and told, before the manager function is judged. -/
def State.leaseLost (s : State) : State := s.leaseDropped.raise E.LEASE_CHANGED

theorem State.leaseFree_none {s : State} (h : s.od.holder = none) : s.leaseFree = s := by
  unfold State.leaseFree
  rw [h]
  rfl

theorem State.leaseFree_held {s : State} (h : s.od.holder ≠ none) :
    s.leaseFree = if s.leaseLost.isHead then s.leaseLost.managerEval else s.leaseLost := by
  obtain ⟨p, hp⟩ := Option.ne_none_iff_exists'.mp h
  unfold State.leaseFree
  rw [hp]
  rfl

theorem State.managed_leaseLost {s : State} (hm : s.managed) : s.leaseLost.managed := by
  refine State.managed_congr ?_ ?_ ?_ ?_ hm
  · rw [State.leaseLost, State.raise_start, State.leaseDropped]
  · rw [State.leaseLost, State.raise_start, State.leaseDropped]
  · rw [State.leaseLost, State.raise_red, State.leaseDropped]
  · exact s.leaseDropped.par_raise _ _ _ _ (by decide) (by decide) (by decide)

theorem State.par_leaseDropped (s : State) (id idx : Nat) : s.leaseDropped.par id idx = s.par id idx := State.par_congr rfl rfl _ _

theorem State.told_leaseLost (s : State) : s.told s.leaseLost E.LEASE_CHANGED :=
  have htold : s.leaseDropped.told s.leaseLost E.LEASE_CHANGED := State.told_raise _ _ _ _ _ (by decide)
  State.told_of_before htold (s.par_leaseDropped _ _)

theorem State.par_leaseLost (s : State) {id idx : Nat} (hid : id ≠ P.EVENT_COUNT) (hidx : idx < 65536) :
    s.leaseLost.par id idx = s.par id idx :=
  (s.leaseDropped.par_raise _ _ _ _ hid hidx (by decide)).trans (s.par_leaseDropped id idx)

theorem State.leaseFree_of_managed {s : State} (hh : s.od.holder ≠ none) (hm : s.managed) :
    ∃ m, s.leaseFree = s.leaseLost.managerSet m := by
  rw [State.leaseFree_held hh]
  split
  · exact State.managerEval_of_managed (State.managed_leaseLost hm)
  · exact ⟨s.leaseLost.red.manager, rfl⟩

/-- A held lease that is freed, with its open transaction, is told, and no parameter changes. -/
theorem State.leaseFree_frees {s : State} (hh : s.od.holder ≠ none) (hm : s.managed) :
    s.leaseFree.od = { s.od with holder := none, txn := none } ∧ s.told s.leaseFree E.LEASE_CHANGED ∧
      s.samePars s.leaseFree [P.EVENT_COUNT] ∧ s.leaseFree.upd = s.upd := by
  obtain ⟨m, he⟩ := State.leaseFree_of_managed hh hm
  have hpar (id idx : Nat) : s.leaseFree.par id idx = s.leaseLost.par id idx := by
    rw [he, State.par_managerSet]
  refine ⟨?_, ?_, fun id idx hid hidx => ?_, ?_⟩
  · rw [he]
    exact State.raise_od _ _ _ _ _
  · exact State.told_of_after s.told_leaseLost (hpar _ _)
  · rw [hpar, State.par_leaseLost s (by simpa using hid) hidx]
  · rw [he]
    exact State.raise_upd _ _ _ _ _

/-! An epoch is heard (R182, R189) -/

/-- A head has seen an epoch, and REDUNDANCY_SYNC is judged. -/
def State.epochHeard (s : State) (e : Nat) : State := (s.seeEpoch e).syncEval

/-- The parameters an epoch heard may write, and the events it may raise. -/
def heardPars : List Nat := [P.EPOCH_HIGHEST, P.READY_TIME, P.SLUICE_STATE]
def heardEvents : List Nat := E.EPOCH_SPENT :: syncEvents

theorem State.keepEpoch_eq (s : State) (e : Nat) : s.keepEpoch e = { s with dict := (s.keepEpoch e).dict } := by
  unfold State.keepEpoch
  split <;> rfl

theorem State.od_block (s : State) : s.block.od = s.od :=
  (State.od_sluiceGo_resting _ SL.BLOCKED rfl).trans (State.raiseIf_od _ _ _ _ _)

theorem State.sansSluice_epochHeard (s : State) (e : Nat) : (s.epochHeard e).sansSluice = s.sansSluice := by
  have hkeep : (s.keepEpoch e).sansSluice = s.sansSluice := by
    rw [State.keepEpoch_eq]
    rfl
  exact (State.sansSluice_of_sansGo (State.syncEval_sansGo _)).trans ((State.blockCheck_sansSluice _).trans hkeep)

theorem State.od_epochHeard (s : State) (e : Nat) : (s.epochHeard e).od = s.od := by
  have hkeep : (s.keepEpoch e).od = s.od := by rw [State.keepEpoch_eq]
  rw [State.epochHeard, State.od_syncEval, State.seeEpoch]
  rcases (s.keepEpoch e).blockCheck_cases with hb | hb <;> rw [hb]
  · exact hkeep
  · exact (State.od_block _).trans hkeep

theorem State.upd_epochHeard (s : State) (e : Nat) : (s.epochHeard e).upd = s.upd :=
  (congrArg State.upd (s.sansSluice_epochHeard e) : (s.epochHeard e).sansSluice.upd = s.sansSluice.upd)

theorem State.par_block_resting {ids evs : List Nat} {id idx : Nat} (h : spared ids evs id idx = true) (s : State)
    (hs : restPars ⊆ ids) (he : heardEvents ⊆ evs) : s.block.par id idx = s.par id idx :=
  (State.par_sluiceGo_resting h _ SL.BLOCKED rfl hs (List.Subset.trans (List.subset_cons_self _ _) he)).trans
    (State.par_raiseIf_spared h _ _ _ _ (he (by decide)) (he (by decide)) (by decide))

theorem State.par_epochHeard {id idx : Nat} (h : spared heardPars heardEvents id idx = true) (s : State) (e : Nat) :
    (s.epochHeard e).par id idx = s.par id idx := by
  have hkeep : (s.keepEpoch e).par id idx = s.par id idx := by
    unfold State.keepEpoch
    split
    · exact State.par_setPar_spared h s (idx' := 0) e (by decide) (by decide)
    · rfl
  rw [State.epochHeard, State.par_syncEval_spared h _ (by decide) (List.subset_cons_self _ _), State.seeEpoch]
  rcases (s.keepEpoch e).blockCheck_cases with hb | hb <;> rw [hb]
  · exact hkeep
  · exact (State.par_block_resting h _ (by decide) (List.Subset.refl _)).trans hkeep

/-- An epoch heard makes no head take the manager function: at most it blocks the sluice, and then the head no longer acts. -/
theorem State.managed_epochHeard {s : State} (hm : s.managed) (e : Nat) : (s.epochHeard e).managed := by
  have hsync (u : State) (hu : u.managed) : u.syncEval.managed := by
    refine State.managed_congr ?_ ?_ ?_ u.sluice_syncEval hu
    · rw [State.syncEval_frame]
    · rw [State.syncEval_frame]
    · rw [State.syncEval_red]
  have hkeep : (s.keepEpoch e).managed := by
    have hsl : (s.keepEpoch e).sluice = s.sluice := by
      unfold State.keepEpoch State.sluice
      split
      · exact State.par_setPar_other _ _ (by decide) (by decide) (by decide)
      · rfl
    refine State.managed_congr ?_ ?_ ?_ hsl hm <;> rw [State.keepEpoch_eq]
  rw [State.epochHeard, State.seeEpoch]
  refine hsync _ ?_
  rcases (s.keepEpoch e).blockCheck_cases with hb | hb <;> rw [hb]
  · exact hkeep
  · intro _ _ hact
    rw [State.acting, State.block, State.sluice_sluiceGo] at hact
    exact absurd hact (by decide)

/-! A claim (R94) -/

/-- The sender of `h` holds the lease, and no transaction is open. -/
def State.holderSet (s : State) (h : OdHead) : State := { s with od := { s.od with holder := some h.path, txn := none } }

/-- The lease with its new holder and its epoch, before that is told. -/
def State.leaseHeld (s : State) (h : OdHead) : State := (s.holderSet h).setPar P.LEASE_EPOCH 0 h.epoch.toNat

/-- The lease taken with its epoch and told, before the epoch is heard. -/
def State.leaseTaken (s : State) (h : OdHead) : State := (s.leaseHeld h).raise E.LEASE_CHANGED

theorem State.par_leaseHeld (s : State) (h : OdHead) {id idx : Nat} (hid : id ≠ P.LEASE_EPOCH) (hidx : idx < 65536) :
    (s.leaseHeld h).par id idx = s.par id idx :=
  (State.par_setPar_other _ _ hid (by decide) hidx).trans (State.par_congr rfl rfl _ _)

theorem State.od_leaseTaken (s : State) (h : OdHead) : (s.leaseTaken h).od = { s.od with holder := some h.path, txn := none } :=
  (s.leaseHeld h).raise_od _ _ _ _

theorem State.upd_leaseTaken (s : State) (h : OdHead) : (s.leaseTaken h).upd = s.upd := (s.leaseHeld h).raise_upd _ _ _ _

theorem State.epoch_leaseTaken (s : State) (h : OdHead) : (s.leaseTaken h).par P.LEASE_EPOCH = h.epoch.toNat :=
  ((s.leaseHeld h).par_raise _ _ _ _ (by decide) (by decide) (by decide)).trans (State.par_setPar _ _ _ _)

theorem State.told_leaseTaken (s : State) (h : OdHead) : s.told (s.leaseTaken h) E.LEASE_CHANGED :=
  have htold : (s.leaseHeld h).told (s.leaseTaken h) E.LEASE_CHANGED := State.told_raise _ _ _ _ _ (by decide)
  State.told_of_before htold (s.par_leaseHeld h (by decide) (by decide))

/-- The other manager of whom the claim of message `h` tells a head (R6). -/
def State.claimant (s : State) (h : OdHead) : Option Nat :=
  match h.path with
  | .chain src => if s.isHead && src.val != s.par P.DEVICE_ID && src.val != s.par P.PARTNER_ID then some src.val else none
  | _ => none

def State.managerHeard (s : State) (o : Option Nat) : State := { s with red := { s.red with otherManager := o } }

theorem State.par_managerHeard (s : State) (o : Option Nat) (id idx : Nat) : (s.managerHeard o).par id idx = s.par id idx :=
  State.par_congr rfl rfl _ _

/-- The claim granted, before the manager function is judged. -/
def State.claimGranted (s : State) (h : OdHead) : State :=
  let u := (s.leaseTaken h).epochHeard h.epoch.toNat
  u.managerHeard (u.claimant h)

theorem State.odClaim_eq (s : State) (h : OdHead) : s.odClaim h = (s.claimGranted h).managerEval := by
  unfold State.odClaim State.claimGranted State.claimant State.leaseTaken State.leaseHeld State.holderSet State.epochHeard
    State.managerHeard
  cases h.path <;> rfl

theorem State.managed_managerHeard {s : State} (hm : s.managed) (o : Option Nat) : (s.managerHeard o).managed :=
  State.managed_congr rfl rfl rfl rfl hm

theorem State.managed_leaseTaken {s : State} (hm : s.managed) (h : OdHead) : (s.leaseTaken h).managed := by
  refine State.managed_congr ?_ ?_ ?_ ?_ hm
  · rw [State.leaseTaken, State.raise_start, State.leaseHeld, State.setPar_start, State.holderSet]
  · rw [State.leaseTaken, State.raise_start, State.leaseHeld, State.setPar_start, State.holderSet]
  · rw [State.leaseTaken, State.raise_red, State.leaseHeld, State.setPar_red, State.holderSet]
  · exact ((s.leaseHeld h).par_raise _ _ _ _ (by decide) (by decide) (by decide)).trans
      (s.par_leaseHeld h (by decide) (by decide))

/-- The claim takes the lease with its epoch, told, and ends an open transaction. -/
theorem State.odClaim_grants {s : State} (hm : s.managed) (h : OdHead) :
    (s.odClaim h).od = { s.od with holder := some h.path, txn := none } ∧ (s.odClaim h).par P.LEASE_EPOCH = h.epoch.toNat ∧
      s.told (s.odClaim h) E.LEASE_CHANGED ∧ (s.odClaim h).upd = s.upd := by
  have hmanaged : (s.claimGranted h).managed :=
    State.managed_managerHeard (State.managed_epochHeard (State.managed_leaseTaken hm h) h.epoch.toNat) _
  obtain ⟨m, he⟩ := State.managerEval_of_managed hmanaged
  rw [← State.odClaim_eq] at he
  have hpar (id idx : Nat) (hs : spared heardPars heardEvents id idx = true) :
      (s.odClaim h).par id idx = (s.leaseTaken h).par id idx := by
    rw [he, State.par_managerSet, State.claimGranted, State.par_managerHeard, State.par_epochHeard hs]
  refine ⟨?_, (hpar _ _ (by decide)).trans (s.epoch_leaseTaken h), State.told_of_after (s.told_leaseTaken h) (hpar _ _ (by decide)),
    ?_⟩
  · rw [he, State.managerSet, State.claimGranted, State.managerHeard, State.od_epochHeard, State.od_leaseTaken]
  · rw [he, State.managerSet, State.claimGranted, State.managerHeard, State.upd_epochHeard, State.upd_leaseTaken]

/-! Messages of the lease through the service -/

section
variable {s : State} {h : OdHead} {op : Nat} {items : List OdItem}

theorem State.od_acceptCounter (s : State) (h : OdHead) : (s.acceptCounter h).od = s.od :=
  (s.served_acceptCounter h).part State.od fun _ => rfl

theorem State.holder_acceptCounter (s : State) (h : OdHead) : (s.acceptCounter h).od.holder = s.od.holder := by
  rw [State.od_acceptCounter]

theorem State.txn_acceptCounter (s : State) (h : OdHead) : (s.acceptCounter h).od.txn = s.od.txn := by
  rw [State.od_acceptCounter]

theorem State.pending_acceptCounter (s : State) (h : OdHead) : (s.acceptCounter h).od.pending = s.od.pending := by
  rw [State.od_acceptCounter]

theorem State.upd_acceptCounter (s : State) (h : OdHead) : (s.acceptCounter h).upd = s.upd :=
  (s.served_acceptCounter h).part State.upd fun _ => rfl

theorem State.controlNow_acceptCounter (s : State) (h : OdHead) : (s.acceptCounter h).controlNow = s.controlNow :=
  (s.served_acceptCounter h).part State.controlNow fun _ => rfl

/-- An operation that needs the lease clears the checks for its holder alone (R90, R94). -/
theorem State.holder_of_clears (hc : s.clears h op items) (hop : op ≠ OP.READ) (hclaim : op ≠ OP.LEASE_CLAIM)
    (hneed : needsLease op items = true) : s.od.holder = some h.path := by
  obtain ⟨-, -, horder, -, -, -⟩ := hc
  by_contra hne
  have hfree : (!(s.od.holder == some h.path)) = true := by simpa using hne
  unfold State.orderStatus at horder
  dsimp only at horder
  split at horder
  · exact absurd horder nofun
  · split at horder
    · exact absurd horder nofun
    · simp [hneed, hfree] at horder

/-- An accepted message other than a READ and a release leaves the effect of its operation, noted. -/
theorem State.odMessage_accepted (fl : Bool) {d : Done} (hc : s.clears h op items) (hk : knownOp op = true) (hop : op ≠ OP.READ)
    (hrel : op ≠ OP.LEASE_RELEASE) (hd : (s.noteClaim h op).odAct h op items fl = d) (hs : d.sts.all (· == ST.OK) = true)
    (hu : d.state.upd = s.upd) : d.state.attended h d.state (s.odMessage h op items fl) := by
  rw [State.odMessage_of_cleared fl hc, hd]
  obtain ⟨-, -, -, -, hb, hr⟩ := hc
  exact Done.attended_ended h items _ hk hop hrel hs (by rw [hu, hb]) (by rw [hu, hr])

theorem State.odMessage_carried (fl : Bool) {u : State} {it : Option (List RespItem)} (hc : s.clears h op items)
    (hk : knownOp op = true) (hop : op ≠ OP.READ) (hclaim : op ≠ OP.LEASE_CLAIM) (hrel : op ≠ OP.LEASE_RELEASE)
    (hd : s.odAct h op items fl = { state := u, sts := [ST.OK], items := it }) (hu : u.upd = s.upd) :
    u.attended h u (s.odMessage h op items fl) :=
  State.odMessage_accepted fl hc hk hop hrel ((congrArg (·.odAct h op items fl) (s.noteClaim_other h hclaim)).trans hd) rfl hu

/-- Reading the dictionary's part behind an accepted message, but for the marks of the lease. -/
theorem State.attended.od_eq {u t : State} (ha : u.attended h u t) : t.od =
    { u.od with lastMsg := t.od.lastMsg, lastCounter := t.od.lastCounter, lastResp := t.od.lastResp } := by
  have hod : t.sansMarks.od = u.sansMarks.od := congrArg State.od ha.parts
  calc t.od = { t.sansMarks.od with lastMsg := t.od.lastMsg, lastCounter := t.od.lastCounter, lastResp := t.od.lastResp } := rfl
    _ = _ := by rw [hod]; rfl

theorem State.odAct_claim (fl : Bool) (hp : bit (s.key h.keyId.toNat).perms 0 = true) :
    s.odAct h OP.LEASE_CLAIM [] fl = { state := (s.acceptCounter h).odClaim h, sts := [ST.OK] } := by
  unfold State.odAct
  dsimp only
  rw [hp]
  rfl

/-- A claim with the permission is granted (R94). -/
theorem execLeaseClaim_grants (hc : s.clears h OP.LEASE_CLAIM []) (hm : s.managed)
    (hp : bit (s.key h.keyId.toNat).perms 0 = true) : ∃ t, exec (.leaseClaim h []) s = .next t ∧
      t.od.holder = some h.path ∧ t.od.txn = none ∧ t.par P.LEASE_EPOCH = h.epoch.toNat ∧
      t.par P.LEASE_SEQ = h.seq.toNat ∧ s.told t E.LEASE_CHANGED ∧ t.od.pending = s.od.pending := by
  have hnoted := s.noteClaim_eq h OP.LEASE_CLAIM
  have hpars := s.par_noteClaim h OP.LEASE_CLAIM
  have hact := State.odAct_claim (s := s.noteClaim h OP.LEASE_CLAIM) (h := h) true (by rw [hnoted]; exact hp)
  have hmessage := State.odMessage_accepted true hc (by decide) (by decide) (by decide) hact (by simp)
  generalize s.noteClaim h OP.LEASE_CLAIM = v at hnoted hpars hmessage
  have hacc := v.served_acceptCounter h
  have hstart : (v.acceptCounter h).start = s.start := hacc.start.trans (by rw [hnoted])
  have hmanaged : (v.acceptCounter h).managed := by
    refine State.managed_congr (by rw [hstart]) (by rw [hstart]) ?_ ((hacc.par 0 (by decide) (by decide)).trans (hpars _ _)) hm
    rw [hacc.part State.red fun _ => rfl, hnoted]
  obtain ⟨hod, hepoch, htold, hupd⟩ := State.odClaim_grants hmanaged h
  have hpending : (v.acceptCounter h).od.pending = s.od.pending := by rw [State.pending_acceptCounter, hnoted]
  have ht := hmessage (hupd.trans ((v.upd_acceptCounter h).trans (by rw [hnoted])))
  dsimp only at ht
  generalize (v.acceptCounter h).odClaim h = u at hod hepoch htold ht
  have htod := ht.od_eq
  rw [hod] at htod
  obtain ⟨hseq, -⟩ := ht.acked (by rw [hod])
  refine ⟨_, rfl, by rw [htod], by rw [htod], (ht.par 0 (by decide) (by decide) (by decide)).trans hepoch, hseq, ?_,
    by rw [htod, ← hpending]⟩
  exact State.told_of_after (State.told_of_before htold ((hacc.pars _ _ (by decide)).trans (hpars _ _))) (ht.pars _ _ (by decide))

/-- A renewal renews the lease (R96). -/
theorem execLeaseRenew_renews (hc : s.clears h OP.LEASE_RENEW []) : ∃ t, exec (.leaseRenew h []) s = .next t ∧
    t.od.holder = some h.path ∧ t.od.lastMsg = s.controlNow ∧ t.par P.LEASE_SEQ = h.seq.toNat ∧ t.od.txn = s.od.txn ∧
    t.od.pending = s.od.pending := by
  have hheld := State.holder_of_clears hc (by decide) (by decide) rfl
  have ht := State.odMessage_carried true hc (by decide) (by decide) (by decide) (by decide) rfl (s.upd_acceptCounter h)
  obtain ⟨hseq, hlast⟩ := ht.acked (by rw [State.od_acceptCounter, hheld])
  have htod := ht.od_eq
  rw [State.od_acceptCounter] at htod
  exact ⟨_, rfl, by rw [htod, hheld], hlast.trans (s.controlNow_acceptCounter h), hseq, by rw [htod], by rw [htod]⟩

/-- A release frees the lease behind its answer (R96). -/
theorem execLeaseRelease_frees (hc : s.clears h OP.LEASE_RELEASE []) (hm : s.managed) :
    ∃ t, exec (.leaseRelease h []) s = .next t ∧ t.od.holder = none ∧ t.od.txn = none ∧ s.told t E.LEASE_CHANGED ∧
      t.od.pending = s.od.pending := by
  have hheld := State.holder_of_clears hc (by decide) (by decide) rfl
  have hacc := s.served_acceptCounter h
  have hact : (s.noteClaim h OP.LEASE_RELEASE).odAct h OP.LEASE_RELEASE [] true = { state := s.acceptCounter h, sts := [ST.OK] } := by
    rw [State.noteClaim_other _ _ (by decide)]
    rfl
  have hmessage := State.odMessage_of_cleared true hc
  rw [hact] at hmessage
  obtain ⟨-, -, -, -, hb, hr⟩ := hc
  have ht := Done.attended_answered (d := { state := s.acceptCounter h, sts := [ST.OK] }) h [] s.security.burning.isSome
    (op := OP.LEASE_RELEASE) (by decide) (by decide) (by simp)
  generalize hv : Done.answered _ _ _ _ _ = v at ht
  have hended : s.odMessage h OP.LEASE_RELEASE [] true = v.leaseFree.odAfter := by
    rw [hmessage, Done.ended, hv]
    rfl
  have hvod := ht.od_eq
  dsimp only at ht hvod
  rw [State.od_acceptCounter] at hvod
  have hvstart : v.start = s.start := (ht.part State.start fun _ => rfl).trans hacc.start
  have hmanaged : v.managed := by
    refine State.managed_congr (by rw [hvstart]) (by rw [hvstart]) ?_
      ((ht.par 0 (by decide) (by decide) (by decide)).trans (hacc.par 0 (by decide) (by decide))) hm
    rw [ht.part State.red fun _ => rfl, hacc.part State.red fun _ => rfl]
  obtain ⟨hod, htold, -, hupd⟩ := State.leaseFree_frees (s := v) (by rw [hvod, hheld]; exact nofun) hmanaged
  have hvupd : v.leaseFree.upd = s.upd := hupd.trans ((ht.part State.upd fun _ => rfl).trans (s.upd_acceptCounter h))
  rw [State.odAfter_quiet (by rw [hvupd, hb]) (by rw [hvupd, hr])] at hended
  refine ⟨v.leaseFree, congrArg Host.Outcome.next hended, by rw [hod], by rw [hod], ?_, by rw [hod, hvod]⟩
  exact State.told_of_before htold ((ht.pars _ _ (by decide)).trans (hacc.pars _ _ (by decide)))

end

end Sys2Proof.Machine
end

section
/-! Transactions: opened, written to, committed, cancelled and discarded (R97 to R102). -/

namespace Sys2Proof.Machine

/-! Operations of a transaction on the state behind its checks -/

section
variable {s : State} {h : OdHead} {tx : OpenTxn} (fl : Bool)

theorem State.odAct_write (s : State) (h : OdHead) (items : List OdItem) (fl : Bool) :
    s.odAct h OP.WRITE items fl = s.odWrite h items fl := rfl

theorem State.odAct_commit (s : State) (h : OdHead) (items : List OdItem) (fl : Bool) :
    s.odAct h OP.TXN_COMMIT items fl = s.odCommit h items := rfl

theorem State.odAct_cancel (s : State) (h : OdHead) (items : List OdItem) (fl : Bool) :
    s.odAct h OP.TXN_CANCEL items fl = (s.acceptCounter h).odCancel items := rfl

theorem State.openTxn_eq (ht : s.od.txn = some tx) {num : Nat} (hn : tx.num = num) : s.openTxn num = some tx := by
  unfold State.openTxn
  rw [ht]
  exact if_pos hn

/-- The state in which the transaction open is `o`. -/
def State.txnSet (s : State) (o : Option OpenTxn) : State := { s with od := { s.od with txn := o } }

theorem State.par_txnSet (s : State) (o : Option OpenTxn) (id idx : Nat) : (s.txnSet o).par id idx = s.par id idx :=
  State.par_congr rfl rfl _ _

/-- The transaction of message `h` is open. -/
def State.txnOpened (s : State) (h : OdHead) : State :=
  { s with od := { s.od with
    txn := some { num := h.txn.toNat, openedAt := s.controlNow, writes := [] }, timedOut := none } }

theorem State.odAct_open (hn : s.od.txn = none) (ht : h.txn ≠ 0) : s.odAct h OP.TXN_OPEN [] fl =
    { state := (s.acceptCounter h).txnOpened h, sts := [ST.OK] } := by
  have hact : s.odAct h OP.TXN_OPEN [] fl =
      { state := ((s.acceptCounter h).odOpen h).2, sts := [((s.acceptCounter h).odOpen h).1] } := rfl
  rw [hact]
  unfold State.odOpen
  rw [if_neg ht, if_neg (by simp [State.od_acceptCounter, hn])]
  rfl

theorem State.odAct_abort (ht : s.od.txn = some tx) (hn : tx.num = h.txn.toNat) : s.odAct h OP.TXN_ABORT [] fl =
    { state := (s.acceptCounter h).txnSet none, sts := [ST.OK] } := by
  have hact : s.odAct h OP.TXN_ABORT [] fl =
      { state := ((s.acceptCounter h).odAbort h).2, sts := [((s.acceptCounter h).odAbort h).1] } := rfl
  rw [hact]
  unfold State.odAbort
  rw [State.openTxn_eq (by rw [State.od_acceptCounter, ht]) hn]
  rfl

end

/-! A write that joins the open transaction (R98) -/

section
variable {s sh t : State} {h : OdHead} {id idx ty e : Nat} {v : List Byte} (fl : Bool) (hid : (oneWrite id idx ty v).id = id)
  (he : elementOf (oneWrite id idx ty v) = e)
include hid he

/-- An item that passes its checks and its effect on the values the transaction would leave in force is kept. -/
theorem State.item_kept (hperm : ∀ p, writePerm (oneWrite id idx ty v) = some p → bit (s.key h.keyId.toNat).perms p = true)
    (hstatus : s.writeStatus sh (oneWrite id idx ty v) = ST.OK)
    (heff : sh.writeEffect (writeCtx h fl) id e v = (0, t)) :
    ({ scratch := sh, base := s } : WriteRun).item h fl (oneWrite id idx ty v) =
      { scratch := t, base := s, sts := [ST.OK], writes := [keptWrite h id e v] } := by
  have heff' : sh.writeEffect (writeCtx h fl) (oneWrite id idx ty v).id (elementOf (oneWrite id idx ty v)) v = (0, t) := by
    rwa [hid, he]
  have hkept : keptWrite h id e v = keptWrite h (oneWrite id idx ty v).id (elementOf (oneWrite id idx ty v)) v := by rw [hid, he]
  rw [hkept]
  unfold WriteRun.item
  dsimp only
  rw [if_neg, if_neg (by simp [hstatus])]
  · generalize hr : sh.writeEffect _ _ _ _ = r
    obtain rfl : r = (0, t) := hr.symm.trans heff'
    rfl
  · cases hp : writePerm (oneWrite id idx ty v) with
    | none => nofun
    | some p => simp [hperm p hp]

theorem State.odWrite_joined {tx : OpenTxn} (htx : s.od.txn = some tx) (hnum : tx.num = h.txn.toNat) (hn : h.txn ≠ 0)
    (hroom : tx.writes.length < 256)
    (hperm : ∀ p, writePerm (oneWrite id idx ty v) = some p → bit (s.key h.keyId.toNat).perms p = true)
    (hstatus : s.writeStatus (s.shadow tx.writes) (oneWrite id idx ty v) = ST.OK)
    (heff : ((s.shadow tx.writes).writeEffect (writeCtx h fl) id e v).1 = 0) :
    s.odWrite h [oneWrite id idx ty v] fl =
      { state := (s.acceptCounter h).txnSet (some { tx with writes := tx.writes ++ [keptWrite h id e v] }), sts := [ST.OK] } := by
  have hitem := State.item_kept fl hid he hperm hstatus (Prod.ext heff rfl)
  have hne : ¬ h.txn.toNat = 0 := fun hz => hn (BitVec.eq_of_toNat_eq hz)
  have hopen : s.openWrites = tx.writes := by
    unfold State.openWrites
    rw [htx]
  unfold State.odWrite
  dsimp only
  rw [if_neg hne, hopen, List.foldl_cons, List.foldl_nil, hitem]
  dsimp only
  rw [if_neg (by simp), if_neg hne, State.openTxn_eq (by rw [State.od_acceptCounter, htx]) hnum]
  dsimp only
  rw [if_neg (by rw [List.length_reverse, List.length_singleton]; omega)]
  rfl

end

/-! Commits (R99) -/

section
variable {s t : State}

theorem State.served.time (hs : State.served [] s t) : t.time = s.time := hs.part State.time fun _ => rfl

theorem State.served.rate (hs : State.served [] s t) : t.rate = s.rate := by
  unfold State.rate State.isTile
  rw [hs.start, hs.time, hs.par 0 (by decide) (by decide)]

theorem State.served.earliestTick (hs : State.served [] s t) : t.earliestTick = s.earliestTick := by
  unfold State.earliestTick
  rw [hs.rate, hs.time]

theorem State.served.appliedTick (hs : State.served [] s t) (ws : List Write) (target : Nat) :
    t.appliedTick ws target = s.appliedTick ws target := by
  have hod : t.od = s.od := hs.part State.od fun _ => rfl
  unfold State.appliedTick State.isHead
  rw [hod, hs.earliestTick, hs.rate, hs.start]

end

theorem State.par_polderCommit (s : State) (k id idx : Nat) : (s.polderCommit k).par id idx = s.par id idx := by
  have hpause (u : State) (op : Nat) : (u.bgPauseStart op).par id idx = u.par id idx := by
    unfold State.bgPauseStart
    split
    · exact State.par_congr rfl rfl _ _
    · rfl
  exact (hpause _ _).trans (State.par_congr rfl rfl _ _)

/-- A commit shows its applied tick (R99). -/
theorem State.appliedTick_commit (s : State) (num : Nat) (ws : List Write) (target : Nat) :
    (s.commit num ws target).par P.APPLIED_TICK = s.appliedTick ws target % 2 ^ 48 := by
  unfold State.commit
  extract_lets k b t loads loaded _ pended noted
  have hnoted : noted.par P.APPLIED_TICK = k % 2 ^ 48 :=
    (State.par_raiseIf _ _ _ _ _ (by decide) (by decide) (by decide)).trans (State.par_setPar _ _ _ _)
  split
  · exact (noted.par_polderCommit k _ _).trans hnoted
  · exact hnoted

section
variable {s : State} {h : OdHead}

/-- The item of a TXN_COMMIT that names its target tick. -/
def targetItem (v : Nat) : OdItem := oneWrite P.TXN_TARGET_TICK 0xFFFF 6 (leBytes 8 v)

/-- The tick a TXN_COMMIT aims at, 0 for the earliest. -/
def State.targetTick (s : State) (v : Nat) : Nat := if v = 0 then 0 else max 1 (nearTick s.time.tick v)

/-- The response of a commit names its applied tick. -/
def State.commitAnswer (s : State) : RespItem :=
  { area := 0x0E, item := 2, index := 0xFFFF, ty := 6, status := ST.OK, value := leBytes 8 (s.par P.APPLIED_TICK) }

theorem State.odCommit_pends {tx : OpenTxn} {v : Nat} (htx : s.od.txn = some tx) (hnum : tx.num = h.txn.toNat) (hv : v < 2 ^ 48)
    (hperm : s.commitsRwsa h.txn.toNat = true → bit (s.key h.keyId.toNat).perms 1 = true)
    (hok : (s.acceptCounter h).commitRefused tx.writes (s.targetTick v) (bit h.flags.toNat 2) = none) :
    s.odCommit h [targetItem v] =
      (let u := ((s.acceptCounter h).txnSet none).commit tx.num tx.writes (s.targetTick v)
       { state := u, sts := [ST.OK], items := some [u.commitAnswer] }) := by
  have hlen : (targetItem v).value.length = 8 := leBytes_length 8 v
  have hval : leNat (targetItem v).value = v := leNat_leBytes_of_lt (hv.trans (by decide))
  have hid : (targetItem v).id = P.TXN_TARGET_TICK := oneWrite_id _ _ _ (by decide)
  have hty : (targetItem v).ty = 6 := rfl
  have hindex : (targetItem v).index = 0xFFFF := rfl
  have htarget : s.targetTick v = (s.acceptCounter h).targetTick v := by
    rw [State.targetTick, State.targetTick, (s.served_acceptCounter h).time]
  rw [htarget] at hok ⊢
  unfold State.targetTick at hok ⊢
  unfold State.odCommit
  dsimp only
  rw [if_neg fun hc => absurd (hperm hc.2.1) (by simp [hc.2.2]), if_neg (by simp [hid, hty]), if_neg (by simp [hindex]),
    if_neg (by simp [hlen]), hval, if_neg (by omega), State.openTxn_eq (by rw [State.od_acceptCounter, htx]) hnum]
  dsimp only
  rw [hok]
  rfl

end

/-! Cancels (R102) -/

/-- The item of a TXN_CANCEL that names a transaction. -/
def cancelItem (num : Nat) : OdItem := oneWrite P.APPLIED_TXN 0xFFFF 3 (leBytes 2 num)

/-- The state with those transactions pending. -/
def State.pendingSet (s : State) (l : List PendTxn) : State := { s with od := { s.od with pending := l } }

theorem State.odCancel_drops {s : State} {num n : Nat} {p : PendTxn} (hnum : num < 2 ^ 16)
    (hfind : (s.od.pending.findIdx? fun (p : PendTxn) => p.num == num) = some n) (hp : s.od.pending[n]? = some p)
    (hdue : s.earliestTick ≤ p.tick) :
    s.odCancel [cancelItem num] = { state := (s.pendingSet (s.od.pending.take n)).polderCancel, sts := [ST.OK] } := by
  have hlen : (cancelItem num).value.length = 2 := leBytes_length 2 num
  have hval : leNat (cancelItem num).value = num := leNat_leBytes_of_lt (hnum.trans_eq (by decide))
  have hid : (cancelItem num).id = P.APPLIED_TXN := oneWrite_id _ _ _ (by decide)
  have hty : (cancelItem num).ty = 3 := rfl
  have hindex : (cancelItem num).index = 0xFFFF := rfl
  unfold State.odCancel
  dsimp only
  rw [if_neg (by simp [hid, hty, hlen]), if_neg (by simp [hindex]), hval, hfind]
  dsimp only
  rw [if_neg (by rw [List.getD_eq_getElem?_getD, hp, Option.getD_some]; omega)]
  rfl

/-! The messages through the service -/

section
variable {s : State} {h : OdHead}

/-- An operation of the holder that leaves the lease and the update part alone advances SEQ. -/
theorem State.seq_of_accepted {op : Nat} {items : List OdItem} {u t : State} (hc : s.clears h op items) (hop : op ≠ OP.READ)
    (hclaim : op ≠ OP.LEASE_CLAIM) (hneed : needsLease op items = true) (ht : u.attended h u t)
    (hu : u.od.holder = s.od.holder) : t.par P.LEASE_SEQ = h.seq.toNat :=
  (ht.acked (hu.trans (State.holder_of_clears hc hop hclaim hneed))).1

theorem execTxnOpen_opens (hc : s.clears h OP.TXN_OPEN []) (hn : s.od.txn = none) (hz : h.txn ≠ 0) :
    ∃ t, exec (.txnOpen h []) s = .next t ∧
      t.od.txn = some { num := h.txn.toNat, openedAt := s.controlNow, writes := [] } ∧ t.par P.LEASE_SEQ = h.seq.toNat ∧
      t.od.pending = s.od.pending := by
  have ht := State.odMessage_carried true hc (by decide) (by decide) (by decide) (by decide) (State.odAct_open true hn hz)
    (s.upd_acceptCounter h)
  have htod := ht.od_eq
  refine ⟨_, rfl, ?_, State.seq_of_accepted hc (by decide) (by decide) rfl ht (s.holder_acceptCounter h), ?_⟩
  · rw [htod, State.txnOpened, State.controlNow_acceptCounter]
  · rw [htod]
    exact s.pending_acceptCounter h

theorem execTxnAbort_discards {tx : OpenTxn} (htx : s.od.txn = some tx) (hnum : tx.num = h.txn.toNat)
    (hc : s.clears h OP.TXN_ABORT []) : ∃ t, exec (.txnAbort h []) s = .next t ∧ t.od.txn = none ∧
      t.od.pending = s.od.pending ∧ t.par P.LEASE_SEQ = h.seq.toNat := by
  have ht := State.odMessage_carried true hc (by decide) (by decide) (by decide) (by decide) (State.odAct_abort true htx hnum)
    (s.upd_acceptCounter h)
  have htod := ht.od_eq
  exact ⟨_, rfl, by rw [htod]; rfl, by rw [htod]; exact s.pending_acceptCounter h,
    State.seq_of_accepted hc (by decide) (by decide) rfl ht (s.holder_acceptCounter h)⟩

/-- A write in an open transaction joins it and changes no parameter (R98). -/
theorem execWrite_joins {tx : OpenTxn} {id idx ty e : Nat} {v : List Byte} (htx : s.od.txn = some tx)
    (hnum : tx.num = h.txn.toNat) (hz : h.txn ≠ 0) (hw : s.mayWrite h id idx ty v) (hroom : tx.writes.length < 256)
    (hstatus : s.writeStatus (s.shadow tx.writes) (oneWrite id idx ty v) = ST.OK)
    (he : elementOf (oneWrite id idx ty v) = e) (hid : id < 2 ^ 24)
    (heff : ((s.shadow tx.writes).writeEffect (writeCtx h true) id e v).1 = 0) :
    ∃ t, exec (.write h [oneWrite id idx ty v]) s = .next t ∧
      t.od.txn = some { tx with writes := tx.writes ++ [keptWrite h id e v] } ∧
      s.samePars t [P.LEASE_SEQ, P.EVENT_COUNT] ∧ s.acked t h := by
  obtain ⟨hc, -, hperm⟩ := hw
  have hacc := s.served_acceptCounter h
  have hact := State.odWrite_joined true (oneWrite_id idx ty v hid) he htx hnum hz hroom hperm hstatus heff
  have ht := State.odMessage_carried true hc (by decide) (by decide) (by decide) (by decide)
    ((State.odAct_write s h _ true).trans hact) (s.upd_acceptCounter h)
  have htod := ht.od_eq
  refine ⟨_, rfl, by rw [htod]; rfl, ?_, fun hp => ?_⟩
  · refine State.samePars_of_spared (ids := [P.LEASE_SEQ]) (evs := serviceEvents) (fun i j hs => ?_) (by decide)
    obtain ⟨hj, -, hev⟩ := spared_iff.mp hs
    exact (ht.pars i j hs).trans ((State.par_txnSet _ _ _ _).trans
      (hacc.pars i j (spared_iff.mpr ⟨hj, List.not_mem_nil, hev⟩)))
  · obtain ⟨hseq, hlast⟩ := ht.acked ((s.holder_acceptCounter h).trans hp)
    exact ⟨hseq, hlast.trans (s.controlNow_acceptCounter h)⟩

/-- A commit makes the transaction pending at its applied tick (R99). -/
theorem execTxnCommit_pends {tx : OpenTxn} {v : Nat} (htx : s.od.txn = some tx) (hnum : tx.num = h.txn.toNat) (hv : v < 2 ^ 48)
    (hc : s.clears h OP.TXN_COMMIT [targetItem v])
    (hperm : s.commitsRwsa h.txn.toNat = true → bit (s.key h.keyId.toNat).perms 1 = true)
    (hok : (s.acceptCounter h).commitRefused tx.writes (s.targetTick v) (bit h.flags.toNat 2) = none) :
    ∃ t, exec (.txnCommit h [targetItem v]) s = .next t ∧ t.od.txn = none ∧
      t.od.pending = s.od.pending ++ [({ num := tx.num, tick := s.appliedTick tx.writes (s.targetTick v), at_ := s.now
                                         writes := tx.writes } : PendTxn)] ∧
      t.par P.APPLIED_TICK = s.appliedTick tx.writes (s.targetTick v) % 2 ^ 48 ∧ t.par P.LEASE_SEQ = h.seq.toNat := by
  have hacc := s.served_acceptCounter h
  have hact := (State.odAct_commit s h [targetItem v] true).trans (State.odCommit_pends htx hnum hv hperm hok)
  have htick : ((s.acceptCounter h).txnSet none).appliedTick tx.writes (s.targetTick v) = s.appliedTick tx.writes (s.targetTick v) :=
    (rfl : _ = (s.acceptCounter h).appliedTick tx.writes (s.targetTick v)).trans (hacc.appliedTick _ _)
  have hpends := ((s.acceptCounter h).txnSet none).commit_pends tx.num tx.writes (s.targetTick v)
  have hshown := ((s.acceptCounter h).txnSet none).appliedTick_commit tx.num tx.writes (s.targetTick v)
  simp only [State.commitDesk, Prod.mk.injEq] at hpends
  obtain ⟨hcod, hcupd, -, -⟩ := hpends
  rw [htick] at hcod hshown
  have ht := State.odMessage_carried true hc (by decide) (by decide) (by decide) (by decide) hact
    (hcupd.trans (s.upd_acceptCounter h))
  generalize ((s.acceptCounter h).txnSet none).commit tx.num tx.writes (s.targetTick v) = u at hcod hshown ht
  have htod := ht.od_eq
  have hod := s.od_acceptCounter h
  have hnow : (s.acceptCounter h).now = s.now := hacc.part State.now fun _ => rfl
  rw [State.txnSet] at hcod
  dsimp only at hcod
  rw [hod, hnow] at hcod
  rw [hcod] at htod
  exact ⟨_, rfl, by rw [htod], by rw [htod], (ht.par 0 (by decide) (by decide) (by decide)).trans hshown,
    State.seq_of_accepted hc (by decide) (by decide) rfl ht (by rw [hcod])⟩

/-- A cancel discards the named pending transaction and every later one (R102). -/
theorem execTxnCancel_drops {num n : Nat} {p : PendTxn} (hnum : num < 2 ^ 16) (hc : s.clears h OP.TXN_CANCEL [cancelItem num])
    (hfind : (s.od.pending.findIdx? fun (p : PendTxn) => p.num == num) = some n) (hp : s.od.pending[n]? = some p)
    (hdue : s.earliestTick ≤ p.tick) : ∃ t, exec (.txnCancel h [cancelItem num]) s = .next t ∧
      t.od.pending = s.od.pending.take n ∧ t.od.txn = s.od.txn ∧ t.par P.LEASE_SEQ = h.seq.toNat := by
  have hod := s.od_acceptCounter h
  have hcancel := State.odCancel_drops (s := s.acceptCounter h) hnum (by rw [hod]; exact hfind) (by rw [hod]; exact hp)
    (by rw [(s.served_acceptCounter h).earliestTick]; exact hdue)
  rw [hod] at hcancel
  have ht := State.odMessage_carried true hc (by decide) (by decide) (by decide) (by decide)
    ((State.odAct_cancel s h _ true).trans hcancel) (s.upd_acceptCounter h)
  have htod := ht.od_eq
  exact ⟨_, rfl, by rw [htod]; rfl, by rw [htod]; exact s.txn_acceptCounter h,
    State.seq_of_accepted hc (by decide) (by decide) rfl ht (s.holder_acceptCounter h)⟩

end

/-! The clocks of the lease and of the transaction (R96, R101) -/

/-- The timeout of the open transaction discards it and is told (R101). -/
theorem State.txnTimeout_discards {s : State} {tx : OpenTxn} (htx : s.od.txn = some tx) :
    s.txnTimeout.od = { s.od with txn := none, timedOut := some tx.num } ∧ s.told s.txnTimeout E.TXN_TIMEOUT ∧
      s.samePars s.txnTimeout [P.EVENT_COUNT] := by
  obtain ⟨u, hu, hod, hpar⟩ : ∃ u : State, s.txnTimeout = u.raise E.TXN_TIMEOUT ∧
      u.od = { s.od with txn := none, timedOut := some tx.num } ∧ ∀ id idx, u.par id idx = s.par id idx := by
    unfold State.txnTimeout
    rw [htx]
    exact ⟨_, rfl, rfl, fun _ _ => State.par_congr rfl rfl _ _⟩
  rw [hu]
  refine ⟨(u.raise_od _ _ _ _).trans hod, State.told_of_before (u.told_raise _ _ _ _ (by decide)) (hpar _ _),
    fun id idx hid hidx => (u.par_raise _ _ _ _ (by simpa using hid) hidx (by decide)).trans (hpar id idx)⟩

/-- Settles O46: each clause is the law of its message or of its timer. -/
theorem leaseAndTransactions : Obligations.LeaseAndTransactions := by
  unfold Obligations.LeaseAndTransactions
  refine ⟨fun h s => ⟨execLeaseClaim_grants, execLeaseRenew_renews, execLeaseRelease_frees, execTxnOpen_opens,
    fun tx htx hnum => ⟨execTxnAbort_discards htx hnum, ?_, fun v hv => execTxnCommit_pends htx hnum hv⟩,
    fun num n p hnum => execTxnCancel_drops hnum⟩, fun s => ⟨fun hh hm => ?_, fun hn => ?_, fun tx htx => ?_⟩⟩
  · rintro id idx ty v e hz hw hroom hstatus ⟨p, hp, hpe⟩ hid heff
    have he : elementOf (oneWrite id idx ty v) = e := by
      unfold elementOf
      rw [oneWrite_id idx ty v hid, hp]
      exact hpe
    exact execWrite_joins htx hnum hz hw hroom hstatus he hid heff
  · obtain ⟨hod, htold, hpars, -⟩ := State.leaseFree_frees hh hm
    exact ⟨_, rfl, hod, htold, hpars⟩
  · exact congrArg Host.Outcome.next (State.leaseFree_none hn)
  · exact ⟨_, rfl, State.txnTimeout_discards htx⟩

end Sys2Proof.Machine
end

section
/-! The way of a response out of the device (R93, R155, R158). -/

namespace Sys2Proof.Machine

/-- What the way of a response hangs on, but for the parameters below LANE_STATE. -/
def State.way (s : State) : List Out × PartChain × PartStart × PartTime × PartLane × Option Nat × (Nat → Nat) :=
  (s.outbox, s.chain, s.start, s.time, s.lane, s.security.burning, s.laneState)

theorem State.way_raise (s : State) {e : Nat} (i d c : Nat) (he : e < 65536) : (s.raise e i d c).way = s.way := by
  have hne (n x : Nat) (hx : x < 65536) : pkey P.LANE_STATE n ≠ pkey P.EVENT_COUNT x := by
    unfold pkey P.LANE_STATE P.EVENT_COUNT
    omega
  have hlanes : (s.raise e i d c).laneState = s.laneState :=
    funext fun n => State.par_raiseRec_ne s (s.mkRaise e i d c) (hne n e he) (hne n E.EVENT_OVERFLOW (by decide))
  unfold State.way
  rw [hlanes, State.raise_eq]

theorem State.way_raiseIf (s : State) (b : Bool) {e : Nat} (i d : Nat) (he : e < 65536) : (s.raiseIf b e i d).way = s.way := by
  cases b with
  | true => exact s.way_raise i d 0 he
  | false => rfl

theorem State.way_count (s : State) (c n : Nat) : (s.count c n).way = s.way := by
  rw [State.count_eq]
  rfl

theorem State.way_refusalSet (s : State) (v : Nat) : (s.setPar P.LAST_REFUSAL 0 v).way = s.way := by
  have hne (n : Nat) : pkey P.LANE_STATE n ≠ pkey P.LAST_REFUSAL 0 := by
    unfold pkey P.LANE_STATE P.LAST_REFUSAL
    omega
  have hlanes : (s.setPar P.LAST_REFUSAL 0 v).laneState = s.laneState := funext fun n => State.par_setPar_ne s v (hne n)
  unfold State.way
  rw [hlanes]
  rfl

theorem State.way_acceptCounter (s : State) (h : OdHead) : (s.acceptCounter h).way = s.way := by
  unfold State.acceptCounter
  split
  · rfl
  · exact (State.way_raiseIf _ _ _ _ (by decide)).trans rfl

theorem State.way_odRefused (s : State) (h : OdHead) (op : Nat) (sts : List Nat) (named : Option Nat) :
    (s.odRefused h op sts named).way = s.way := by
  unfold State.odRefused
  split
  · rfl
  · exact (State.way_raiseIf _ _ _ _ (by decide)).trans ((State.way_count _ _ _).trans (s.way_refusalSet _))

section
variable {s w : State} (hway : w.way = s.way) (hp : s.samePars w [P.EVENT_COUNT, P.LAST_REFUSAL])
include hway hp

theorem State.chainLane_of_way (c : Nat) : w.chainLane c = s.chainLane c := by
  simp only [State.way, Prod.mk.injEq] at hway
  obtain ⟨-, -, hstart, -, hlane, -, -⟩ := hway
  unfold State.chainLane State.isHead
  rw [hstart, hlane]
  split
  · refine List.find?_congr fun n hn => ?_
    rw [hp _ n (by decide) ((List.mem_range.mp hn).trans (by decide))]
  · rfl

theorem State.chainTo_of_way (dest : Nat) : w.chainTo dest = s.chainTo dest := by
  have hup : w.chainUp = s.chainUp := funext fun c => by
    have hlanes : w.laneState = s.laneState := congrArg (fun x => x.2.2.2.2.2.2) hway
    unfold State.chainUp State.laneUp
    rw [State.chainLane_of_way hway hp c, hlanes]
  have hchain : w.chain = s.chain := congrArg (fun x => x.2.1) hway
  unfold State.chainTo
  rw [hchain, hup]

/-- Outside a tile a link is quiet by the time, the rate and the chain's lane (R158). -/
theorem State.linkQuiet_of_way (htile : s.isTile = false) (c : Nat) : w.linkQuiet c = s.linkQuiet c := by
  have hlanes := State.chainLane_of_way hway hp c
  simp only [State.way, Prod.mk.injEq] at hway
  obtain ⟨-, -, hstart, htime, hlane, -, -⟩ := hway
  have htile' : w.isTile = s.isTile := by rw [State.isTile, hstart, State.isTile]
  have hhead : w.isHead = s.isHead := by rw [State.isHead, hstart, State.isHead]
  have hrate : w.rate = s.rate := by rw [State.rate, htile', htime, hp _ 0 (by decide) (by decide), State.rate]
  have htick : w.toTick = s.toTick := by
    rw [State.toTick, State.tickReached, hrate, htime, State.toTick, State.tickReached]
  have hrun (n : Nat) (hn : n < 32) : w.laneRunRate n = s.laneRunRate n := by
    unfold State.laneRunRate State.laneRate State.builtIn
    rw [hhead, hlane, htile', hp _ n (by decide) (hn.trans (by decide))]
  unfold State.linkQuiet
  rw [htile', htile, hhead, hlanes, htick, if_neg (by decide), if_neg (by decide)]
  cases hh : s.isHead with
  | false => simp only [Bool.false_and]
  | true =>
    cases hc : s.chainLane c with
    | none => rfl
    | some n =>
      have hn : n < 32 := by
        rw [State.chainLane, hh, if_pos rfl] at hc
        exact List.mem_range.mp (List.mem_of_find?_eq_some hc)
      dsimp only
      rw [hrun n hn]

/-- A response that has left `t` by its way has left it so as seen from any state with the same way. -/
theorem State.answers_of_way {t : State} {p : Path} {r : Resp} (ha : w.answers t p r) : s.answers t p r := by
  have hchainTo := State.chainTo_of_way hway hp
  have hquiet := State.linkQuiet_of_way hway hp
  have hid := hp P.DEVICE_ID 0 (by decide) (by decide)
  simp only [State.way, Prod.mk.injEq] at hway
  obtain ⟨houtbox, hchain, hstart, -, -, -, -⟩ := hway
  have htile : w.isTile = s.isTile := by rw [State.isTile, hstart, State.isTile]
  cases p with
  | chain src =>
    unfold State.answers State.ownFits at ha ⊢
    dsimp only at ha ⊢
    rw [htile, hchain, houtbox, hid] at ha
    obtain ⟨hqueued, hself, hsent⟩ := ha
    refine ⟨hqueued, hself, fun c ht hother hc hq => hsent c ht hother ((hchainTo _).trans hc) ((hquiet ht c).trans hq)⟩
  | gbe ip port => exact ha.trans (by rw [houtbox])
  | t1s n ip port => exact ha.trans (by rw [houtbox])

end

theorem State.linkQuiet_ctrlSpend (s : State) (c size d : Nat) : (s.ctrlSpend c size).linkQuiet d = s.linkQuiet d := rfl

/-- A response leaves by the path its request came by (R93). -/
theorem State.answers_respond (s : State) (p : Path) (r : Resp) : s.answers (s.respond p r) p r := by
  unfold State.answers State.respond State.sendOn
  cases p with
  | chain src =>
    dsimp only
    refine ⟨fun htile hfits => ?_, fun htile hown => ?_, fun c htile hother hc hquiet => ?_⟩
    · rw [if_pos htile, State.ownQueue, if_pos hfits]
    · rw [if_neg (by simp [htile]), if_pos hown]
      rfl
    · rw [if_neg (by simp [htile]), if_neg hother, hc]
      dsimp only
      unfold State.headSend
      dsimp only
      rw [State.linkQuiet_ctrlSpend, hquiet]
      rfl
  | gbe ip port => rfl
  | t1s n ip port => rfl

end Sys2Proof.Machine
end

section
/-! Reads, events and operations that R90 does not list (R89 to R91, R96, R107, R513, R514). -/

namespace Sys2Proof.Machine

/-! The records received (R513) -/

theorem State.received_enqueue (s : State) (r : Raise) : (s.enqueue r).1.ev.received = s.ev.received := by
  unfold State.enqueue
  split
  · rfl
  · dsimp only
    split <;> rfl

theorem State.received_raise (s : State) (e i d c : Nat) : (s.raise e i d c).ev.received = s.ev.received := by
  have hq := (s.bump P.EVENT_COUNT e).received_enqueue (s.mkRaise e i d c)
  simp only [State.raise, State.raiseRec, State.mkRaise] at hq ⊢
  split
  · rename_i t ht
    rw [ht] at hq
    exact hq
  · rename_i t ht
    rw [ht] at hq
    split
    · exact (State.received_enqueue _ _).trans hq
    · exact hq

theorem State.received_raiseIf (s : State) (b : Bool) (e i d : Nat) : (s.raiseIf b e i d).ev.received = s.ev.received := by
  cases b with
  | true => exact s.received_raise e i d 0
  | false => rfl

theorem State.received_ite {s a b : State} {c : Prop} [Decidable c] (ha : a.ev.received = s.ev.received)
    (hb : b.ev.received = s.ev.received) : (if c then a else b).ev.received = s.ev.received := by
  split
  · exact ha
  · exact hb

theorem State.received_count (s : State) (c n : Nat) : (s.count c n).ev.received = s.ev.received := by rw [State.count_eq]

theorem State.received_acceptCounter (s : State) (h : OdHead) : (s.acceptCounter h).ev.received = s.ev.received := by
  unfold State.acceptCounter
  exact State.received_ite rfl ((State.received_raiseIf _ _ _ _ _).trans rfl)

theorem State.received_odRefused (s : State) (h : OdHead) (op : Nat) (sts : List Nat) (named : Option Nat) :
    (s.odRefused h op sts named).ev.received = s.ev.received := by
  unfold State.odRefused
  split
  · rfl
  · rw [State.received_raiseIf, State.received_count, State.setPar_ev]

theorem State.received_odAccepted (s : State) (h : OdHead) (op : Nat) (r : Resp) :
    (s.odAccepted h op r).ev.received = s.ev.received := by
  unfold State.odAccepted
  exact State.received_ite (s.received_count 3 1) (State.received_ite (s.received_count 3 1) (s.received_count 3 1))

theorem State.received_respond (s : State) (p : Path) (r : Resp) : (s.respond p r).ev.received = s.ev.received := by
  unfold State.respond State.sendOn
  cases p with
  | chain src =>
    dsimp only
    refine State.received_ite (State.received_ite rfl (s.received_raise _ _ _ _)) (State.received_ite rfl ?_)
    split
    · unfold State.headSend
      exact State.received_ite rfl rfl
    · rfl
  | gbe ip port => rfl
  | t1s n ip port => rfl

theorem State.received_odAnswer (s : State) (h : OdHead) (r : Resp) (hold : Bool) :
    (s.odAnswer h r hold).ev.received = s.ev.received := by
  unfold State.odAnswer
  exact State.received_ite rfl (State.received_ite rfl (s.received_respond _ _))

/-! Items of a READ (R89) -/

/-- An item that names no parameter is refused with a status that says so (R86, R91, R111). -/
theorem State.lookup_refuses {s : State} {i : OdItem} {st : Nat} (h : s.lookup i = .inl st) : st ≠ ST.OK := by
  unfold State.lookup at h
  rintro rfl
  split at h
  · split at h <;> exact absurd (Sum.inl.inj h) (by decide)
  · split at h
    · split at h
      · exact absurd (Sum.inl.inj h) (by decide)
      · split at h
        · exact absurd (Sum.inl.inj h) (by decide)
        · split at h
          · split at h
            · exact absurd (Sum.inl.inj h) (by decide)
            · exact absurd h nofun
          · split at h
            · exact absurd h nofun
            · exact absurd (Sum.inl.inj h) (by decide)
    · exact absurd (Sum.inl.inj h) (by decide)

theorem Ty.width_le (t : Ty) : t.width ≤ 10 := by
  cases t <;> simp [Ty.width]

/-- What a read item comes to: a refusal names a status, and a scalar has at most the 10 bytes of a TIME80 (R83). -/
theorem State.readItem_cases (s t : State) (i : OdItem) :
    (∀ st, s.readItem t i = .refused st → st ≠ ST.OK) ∧ (∀ b, s.readItem t i = .scalar b → b.length ≤ 10) := by
  have hrefused {st : Nat} (hst : st ≠ ST.OK) : (∀ n, ReadOut.refused st = .refused n → n ≠ ST.OK) ∧
      (∀ b, ReadOut.refused st = .scalar b → b.length ≤ 10) :=
    ⟨fun n hn => ReadOut.refused.inj hn ▸ hst, fun _ hb => absurd hb nofun⟩
  unfold State.readItem
  split
  · rename_i hl
    exact hrefused (State.lookup_refuses hl)
  · rename_i p _
    split
    · exact hrefused (by decide)
    · split
      · exact hrefused (by decide)
      · split
        · split
          · refine ⟨fun _ hn => absurd hn nofun, fun b hb => ?_⟩
            rw [← ReadOut.scalar.inj hb, leBytes_length]
            exact p.ty.width_le
          · exact hrefused (by decide)
        · dsimp only
          split
          · exact hrefused (by decide)
          · split
            · exact hrefused (by decide)
            · exact ⟨fun _ hn => absurd hn nofun, fun _ hb => absurd hb nofun⟩

/-- The item of a response that answers `i` with its status and value (R91). -/
def itemAnswer (i : OdItem) (st : Nat) (v : List Byte) : RespItem :=
  { area := i.area.toNat, item := i.item.toNat, index := i.index.toNat, ty := i.ty.toNat, status := st, value := v }

theorem State.readItems_length (s : State) (room : Nat) (l : List (OdItem × ReadOut)) : (s.readItems room l).length = l.length := by
  induction l generalizing room with
  | nil => rfl
  | cons e l ih =>
    obtain ⟨i, o⟩ := e
    cases o <;> exact congrArg Nat.succ (ih _)

/-! The operation READ -/

section
variable (s : State) (h : OdHead)

theorem State.odRead_state (items : List OdItem) : (s.odRead h items).state = s := by
  unfold State.odRead
  dsimp only
  split <;> rfl

/-- A READ is answered with one item per item. -/
theorem State.odRead_response_length {items : List OdItem} (hi : items ≠ []) :
    ((s.odRead h items).response h OP.READ items).items.length = items.length := by
  unfold State.odRead
  dsimp only
  split
  · have hno : (noItems OP.READ || !knownOp OP.READ || items.isEmpty) = false := by
      simp [hi, show noItems OP.READ = false by decide, show knownOp OP.READ = true by decide]
    unfold Done.response statusItems
    dsimp only
    rw [Option.getD_none, hno]
    simp
  · unfold Done.response
    dsimp only
    rw [Option.getD_some, State.readItems_length, List.length_map]

variable {s h}

section
variable {i : OdItem} (hf : bit h.flags.toNat 3 = false)
include hf

theorem State.odRead_scalar {b : List Byte} (hr : s.readItem s i = .scalar b) : s.odRead h [i] =
    { state := s, sts := [ST.OK], items := some [itemAnswer i ST.OK b] } := by
  have hlen := (s.readItem_cases s i).2 b hr
  unfold State.odRead
  simp only [hf, Bool.false_and, Bool.false_eq_true, if_false, List.map_cons, List.map_nil, hr, ReadOut.fixed, List.sum_cons,
    List.sum_nil]
  rw [if_neg (by omega)]
  rfl

theorem State.odRead_refused {st : Nat} (hr : s.readItem s i = .refused st) : s.odRead h [i] =
    { state := s, sts := [st], items := some [itemAnswer i st []] } := by
  unfold State.odRead
  simp only [hf, Bool.false_and, Bool.false_eq_true, if_false, List.map_cons, List.map_nil, hr, ReadOut.fixed, List.sum_cons,
    List.sum_nil]
  rw [if_neg (by decide)]
  rfl

end

end

/-! What an operation notes (R96, R107) -/

/-- From `s` to `t` only counts, keys, the refusal reported and the lease's time have changed, and the way of a response is the
same. -/
structure State.onlyNotes (s t : State) : Prop where
  od : t.od = { s.od with lastMsg := t.od.lastMsg }
  upd : t.upd = s.upd
  pars : s.samePars t [P.EVENT_COUNT, P.LAST_REFUSAL]
  way : t.way = s.way

theorem State.onlyNotes.trans {s t u : State} (h : State.onlyNotes s t) (h' : State.onlyNotes t u) : State.onlyNotes s u where
  od := h'.od.trans (by rw [h.od])
  upd := h'.upd.trans h.upd
  pars := State.samePars_trans h.pars h'.pars
  way := h'.way.trans h.way

theorem State.served.onlyNotes {ids : List Nat} {s t : State} (h : State.served ids s t) (hids : ids ⊆ [P.LAST_REFUSAL])
    (hway : t.way = s.way) : State.onlyNotes s t where
  od := by rw [h.part State.od fun _ => rfl]
  upd := h.part State.upd fun _ => rfl
  pars := State.samePars_of_spared h.pars (List.cons_subset_cons _ hids)
  way := hway

/-- The lease's time is the Control region's clock (R96). -/
def State.renewed (s : State) : State := { s with od := { s.od with lastMsg := s.controlNow } }

theorem State.odAccepted_read (s : State) (h : OdHead) (r : Resp) : s.odAccepted h OP.READ r =
    if (s.count 3).od.holder = some h.path then (s.count 3).renewed else s.count 3 := by
  unfold State.odAccepted
  dsimp only
  rw [ite_not, if_pos rfl]
  rfl

theorem State.onlyNotes_odAccepted (s : State) (h : OdHead) (r : Resp) : State.onlyNotes s (s.odAccepted h OP.READ r) := by
  have hcount : State.onlyNotes s (s.count 3) :=
    (State.served_count [] s 3 1).onlyNotes (List.nil_subset _) (s.way_count 3 1)
  have hrenewed (u : State) : State.onlyNotes u u.renewed := ⟨rfl, rfl, fun _ _ _ _ => State.par_congr rfl rfl _ _, rfl⟩
  rw [State.odAccepted_read]
  split
  · exact hcount.trans (hrenewed _)
  · exact hcount

theorem State.onlyNotes_odRefused (s : State) (h : OdHead) (op : Nat) (sts : List Nat) (named : Option Nat) :
    State.onlyNotes s (s.odRefused h op sts named) :=
  (s.served_odRefused h op sts named).onlyNotes (List.Subset.refl _) (s.way_odRefused h op sts named)

theorem State.onlyNotes_acceptCounter (s : State) (h : OdHead) : State.onlyNotes s (s.acceptCounter h) :=
  (s.served_acceptCounter h).onlyNotes (List.nil_subset _) (s.way_acceptCounter h)

theorem Done.onlyNotes_noted (d : Done) (h : OdHead) (items : List OdItem) : State.onlyNotes d.state (d.noted h OP.READ items) := by
  unfold Done.noted
  dsimp only
  split
  · exact (d.state.onlyNotes_odRefused h OP.READ d.sts d.named).trans (State.onlyNotes_odAccepted _ _ _)
  · exact d.state.onlyNotes_odRefused h OP.READ d.sts d.named

theorem Done.noted_refused (u : State) (h : OdHead) (op : Nat) (items : List OdItem) (it : Option (List RespItem)) {st : Nat}
    (hst : st ≠ ST.OK) :
    ({ state := u, sts := [st], items := it } : Done).noted h op items = u.odRefused h op [st] none := by
  have hgood : ({ state := u, sts := [st], items := it } : Done).good op = false := by
    simp [Done.good, hst]
  unfold Done.noted
  rw [hgood]
  rfl

/-- Behind an operation other than a release, with no image start and no reset left due, comes its answer. -/
theorem Done.ended_quiet {d : Done} {op : Nat} (h : OdHead) (items : List OdItem) (b : Bool) (hrel : op ≠ OP.LEASE_RELEASE)
    (hupd : (d.answered h op items b).upd = d.state.upd) (hb : d.state.upd.bootDue = false) (hr : d.state.upd.resetNow = false) :
    d.ended h op items b = d.answered h op items b := by
  unfold Done.ended
  rw [if_neg (by simp [hrel]), State.odAfter_quiet (by rw [hupd, hb]) (by rw [hupd, hr])]

/-! A READ through the service -/

section
variable {s : State} {h : OdHead} {items : List OdItem}

theorem State.odAct_read (s : State) (h : OdHead) (items : List OdItem) (fl : Bool) :
    s.odAct h OP.READ items fl = (s.acceptCounter h).odRead h items := rfl

/-- A READ that clears the checks is noted and answered at once. -/
theorem State.odMessage_read (hc : s.clears h OP.READ items) :
    let d := (s.acceptCounter h).odRead h items
    State.onlyNotes s (d.noted h OP.READ items) ∧
      s.odMessage h OP.READ items = (d.noted h OP.READ items).odAnswer h (d.response h OP.READ items) false := by
  intro d
  have hstate : d.state = s.acceptCounter h := State.odRead_state _ _ _
  have hnotes : State.onlyNotes s (d.noted h OP.READ items) :=
    (s.onlyNotes_acceptCounter h).trans (hstate ▸ d.onlyNotes_noted h items)
  have hburn : (d.noted h OP.READ items).security.burning = s.security.burning :=
    congrArg (fun x => x.2.2.2.2.2.1) hnotes.way
  have hanswered : d.answered h OP.READ items s.security.burning.isSome =
      (d.noted h OP.READ items).odAnswer h (d.response h OP.READ items) false := by
    unfold Done.answered
    rw [hburn, Bool.not_and_self]
  have hans := (d.noted h OP.READ items).served_odAnswer h (d.response h OP.READ items) false
  have hupd : (d.answered h OP.READ items s.security.burning.isSome).upd = d.state.upd := by
    rw [hanswered, hans.part State.upd fun _ => rfl, hnotes.upd, hstate, State.upd_acceptCounter]
  refine ⟨hnotes, ?_⟩
  rw [State.odMessage_of_cleared true hc, State.noteClaim_other _ _ (by decide), State.odAct_read, ← hanswered]
  obtain ⟨-, -, -, -, hb, hr⟩ := hc
  exact Done.ended_quiet h items _ (by decide) hupd (by rw [hstate, State.upd_acceptCounter, hb])
    (by rw [hstate, State.upd_acceptCounter, hr])

/-- It changes nothing but its notes, and its response leaves by its path. -/
theorem State.odMessage_read_keeps (hc : s.clears h OP.READ items) :
    let r := ((s.acceptCounter h).odRead h items).response h OP.READ items
    let t := s.odMessage h OP.READ items
    (h.broadcast = false → s.answers t h.path r) ∧ s.samePars t [P.EVENT_COUNT, P.LAST_REFUSAL] ∧
      t.od = { s.od with lastMsg := t.od.lastMsg } ∧
      t.od = (((s.acceptCounter h).odRead h items).noted h OP.READ items).od := by
  obtain ⟨hnotes, hmessage⟩ := State.odMessage_read hc
  intro r t
  have ht : t = _ := hmessage
  generalize ((s.acceptCounter h).odRead h items).noted h OP.READ items = w at hnotes ht ⊢
  have hans := w.served_odAnswer h r false
  have hod : t.od = w.od := ht ▸ hans.part State.od fun _ => rfl
  refine ⟨fun hcast => ?_, ?_, ?_, hod⟩
  · have hsent : t = w.respond h.path r := by
      rw [ht, State.odAnswer, if_neg (by simp [hcast])]
      rfl
    rw [hsent]
    exact State.answers_of_way hnotes.way hnotes.pars (w.answers_respond h.path r)
  · rw [ht]
    exact State.samePars_trans hnotes.pars (State.samePars_of_spared hans.pars (List.cons_subset_cons _ (List.nil_subset _)))
  · rw [hod]
    exact hnotes.od

theorem State.odMessage_read_scalar {i : OdItem} {b : List Byte} (hc : s.clears h OP.READ [i]) (hf : bit h.flags.toNat 3 = false)
    (hr : (s.acceptCounter h).readItem (s.acceptCounter h) i = .scalar b) :
    (s.odMessage h OP.READ [i]).od.lastMsg = if s.od.holder = some h.path then s.controlNow else s.od.lastMsg := by
  obtain ⟨-, -, -, hod⟩ := State.odMessage_read_keeps hc
  rw [State.odRead_scalar hf hr] at hod
  have hgood (u : State) (it : Option (List RespItem)) :
      ({ state := u, sts := [ST.OK], items := it } : Done).good OP.READ = true := by
    unfold Done.good
    rfl
  unfold Done.noted at hod
  dsimp only at hod
  rw [hgood, if_pos rfl, State.odRefused_accepted _ _ _ _ (by rfl), State.odAccepted_read, State.count_od,
    State.holder_acceptCounter] at hod
  rw [hod]
  split
  · unfold State.renewed State.controlNow
    rw [State.count_eq]
    exact s.controlNow_acceptCounter h
  · rw [State.count_od, State.od_acceptCounter]

end

/-! An operation refused in its place (R90, R107) -/

section
variable {s : State} {h : OdHead} {op st : Nat} {items : List OdItem} {it : Option (List RespItem)}

/-- An operation refused behind the checks shows in LAST_REFUSAL, and its answer and counts are all it leaves. -/
theorem State.odMessage_refused (hc : s.clears h op items) (hclaim : op ≠ OP.LEASE_CLAIM) (hrel : op ≠ OP.LEASE_RELEASE)
    (hd : s.odAct h op items true = { state := s.acceptCounter h, sts := [st], items := it }) (hst : st ≠ ST.OK) :
    State.served [P.LAST_REFUSAL] s (s.odMessage h op items) ∧
      (s.odMessage h op items).par P.LAST_REFUSAL = op * 2 ^ 24 + st * 65536 ∧
      (s.odMessage h op items).ev.received = s.ev.received := by
  have hmessage := State.odMessage_of_cleared true hc
  rw [State.noteClaim_other s h hclaim, hd] at hmessage
  generalize hdone : ({ state := s.acceptCounter h, sts := [st], items := it } : Done) = d at hmessage
  have hnoted : d.noted h op items = (s.acceptCounter h).odRefused h op [st] none :=
    hdone ▸ Done.noted_refused _ h op items it hst
  have hstate : d.state = s.acceptCounter h := hdone ▸ rfl
  have hserved : State.served [P.LAST_REFUSAL] s (d.noted h op items) := by
    rw [hnoted]
    exact ((s.served_acceptCounter h).mono (List.nil_subset _)).trans (State.served_odRefused _ _ _ _ _)
  have hlast : (d.noted h op items).par P.LAST_REFUSAL = op * 2 ^ 24 + st * 65536 := by
    rw [hnoted]
    exact State.par_odRefused_lone _ h op hst
  have hreceived : (d.noted h op items).ev.received = s.ev.received := by
    rw [hnoted, State.received_odRefused, State.received_acceptCounter]
  have hans := (d.noted h op items).served_odAnswer h (d.response h op items)
  have hupd : (d.answered h op items s.security.burning.isSome).upd = d.state.upd := by
    rw [Done.answered, (hans _).part State.upd fun _ => rfl, hserved.part State.upd fun _ => rfl, hstate, State.upd_acceptCounter]
  obtain ⟨-, -, -, -, hb, hr⟩ := hc
  rw [hmessage, Done.ended_quiet h items _ hrel hupd (by rw [hstate, State.upd_acceptCounter, hb])
    (by rw [hstate, State.upd_acceptCounter, hr]), Done.answered]
  exact ⟨hserved.trans ((hans _).mono (List.nil_subset _)), ((d.noted h op items).par_odAnswer h _ _ (by decide)).trans hlast,
    (State.received_odAnswer _ _ _ _).trans hreceived⟩

theorem State.odMessage_read_refused {i : OdItem} (hc : s.clears h OP.READ [i]) (hf : bit h.flags.toNat 3 = false)
    (hr : (s.acceptCounter h).readItem (s.acceptCounter h) i = .refused st) :
    (s.odMessage h OP.READ [i]).od.lastMsg = s.od.lastMsg ∧
      (s.odMessage h OP.READ [i]).par P.LAST_REFUSAL = OP.READ * 2 ^ 24 + st * 65536 := by
  obtain ⟨hserved, hlast, -⟩ := State.odMessage_refused hc (by decide) (by decide)
    ((s.odAct_read h [i] true).trans (State.odRead_refused hf hr)) (((s.acceptCounter h).readItem_cases _ i).1 st hr)
  exact ⟨by rw [hserved.part State.od fun _ => rfl], hlast⟩

end

/-! Operations that R90 does not list -/

theorem ne_of_unlisted {op n : Nat} (hk : knownOp op = false) (hn : knownOp n = true) : op ≠ n := fun he => by
  rw [he, hn] at hk
  exact absurd hk nofun

theorem State.odAct_unknown (s : State) (h : OdHead) (items : List OdItem) (fl : Bool) {op : Nat} (hk : knownOp op = false) :
    s.odAct h op items fl = { state := s.acceptCounter h, sts := [ST.UNKNOWN] } := by
  have hne {n : Nat} (hn : knownOp n = true) : op ≠ n := ne_of_unlisted hk hn
  have hno : noItems op = false := by
    simp [noItems, hne (n := 3) (by decide), hne (n := 5) (by decide), hne (n := 7) (by decide), hne (n := 8) (by decide), hne (n := 9) (by decide)]
  unfold State.odAct
  dsimp only
  rw [if_neg (hne (n := 2) (by decide)), if_neg (hne (n := 4) (by decide)), if_neg (by simp [hne (n := 7) (by decide)]), hno, if_neg (by simp)]
  split
  · exact absurd rfl (hne (n := 1) (by decide))
  · exact absurd rfl (hne (n := 3) (by decide))
  · exact absurd rfl (hne (n := 5) (by decide))
  · exact absurd rfl (hne (n := 6) (by decide))
  · exact absurd rfl (hne (n := 7) (by decide))
  · exact absurd rfl (hne (n := 8) (by decide))
  · exact absurd rfl (hne (n := 9) (by decide))
  · exact absurd rfl (hne (n := OP.EVENT) (by decide))
  · rfl

/-- An operation that R90 does not list is refused with UNKNOWN. -/
theorem execUnknownOp_refuses {s : State} {h : OdHead} {o : BitVec 8} {items : List OdItem} (hk : knownOp o.toNat = false)
    (hc : s.clears h o.toNat items) : ∃ t, exec (.unknownOp h o items) s = .next t ∧
      t.par P.LAST_REFUSAL = o.toNat * 2 ^ 24 + ST.UNKNOWN * 65536 ∧ t.od = s.od ∧
      s.samePars t [P.EVENT_COUNT, P.LAST_REFUSAL] := by
  have hexec : exec (.unknownOp h o items) s = .next (s.odMessage h o.toNat items) :=
    congrArg Host.Outcome.next (if_neg (by simp [hk]))
  obtain ⟨hserved, hlast, -⟩ := State.odMessage_refused hc (ne_of_unlisted hk (by decide)) (ne_of_unlisted hk (by decide))
    (s.odAct_unknown h items true hk) (by decide)
  exact ⟨_, hexec, hlast, hserved.part State.od fun _ => rfl, State.samePars_of_spared hserved.pars (List.Subset.refl _)⟩

/-! Events (R513, R514) -/

/-- The record list `l` with the record `r` of device `d`, unless one of that device with its SEQ is held. -/
def keepRecord (d : Nat) (l : List (Nat × List Byte)) (r : List Byte) : List (Nat × List Byte) :=
  if l.any fun e => e.1 == d && e.2.take 4 == r.take 4 then l else l ++ [(d, r)]

/-- What tells one record from another: its device and its SEQ. -/
def recordKey (e : Nat × List Byte) : Nat × List Byte := (e.1, e.2.take 4)

section
variable {d : Nat} (l : List (Nat × List Byte)) (r : List Byte) (rs : List (List Byte))

theorem keepRecord_held : ∃ e ∈ keepRecord d l r, e.1 = d ∧ e.2.take 4 = r.take 4 := by
  unfold keepRecord
  split
  · rename_i hany
    obtain ⟨e, he, hkey⟩ := List.any_eq_true.mp hany
    exact ⟨e, he, by simpa using hkey⟩
  · exact ⟨(d, r), by simp, rfl, rfl⟩

theorem keepRecord_extends : l <+: keepRecord d l r := by
  unfold keepRecord
  split
  · exact ⟨[], List.append_nil l⟩
  · exact ⟨_, rfl⟩

theorem mem_keepRecord {e : Nat × List Byte} (he : e ∈ keepRecord d l r) : e ∈ l ∨ e = (d, r) := by
  unfold keepRecord at he
  split at he
  · exact .inl he
  · simpa using he

theorem nodup_keepRecord (h : (l.map recordKey).Nodup) : ((keepRecord d l r).map recordKey).Nodup := by
  unfold keepRecord
  split
  · exact h
  · rename_i hany
    rw [List.map_append, List.nodup_append]
    refine ⟨h, List.nodup_singleton _, fun a ha b hb hab => hany ?_⟩
    obtain ⟨e, he, rfl⟩ := List.mem_map.mp ha
    rw [List.map_singleton, List.mem_singleton] at hb
    obtain ⟨hdev, hseq⟩ := Prod.mk.inj (hab.trans hb)
    exact List.any_eq_true.mpr ⟨e, he, by simpa using ⟨hdev, hseq⟩⟩

theorem keepRecords_extends : l <+: rs.foldl (keepRecord d) l := by
  induction rs generalizing l with
  | nil => exact ⟨[], List.append_nil l⟩
  | cons r rs ih => exact (keepRecord_extends l r).trans (ih _)

theorem keepRecords_held {r : List Byte} (hr : r ∈ rs) : ∃ e ∈ rs.foldl (keepRecord d) l, e.1 = d ∧ e.2.take 4 = r.take 4 := by
  induction rs generalizing l with
  | nil => exact absurd hr List.not_mem_nil
  | cons x rs ih =>
    rcases List.mem_cons.mp hr with rfl | hr
    · obtain ⟨e, he, hkey⟩ := keepRecord_held (d := d) l r
      exact ⟨e, (keepRecords_extends _ rs).subset he, hkey⟩
    · exact ih _ hr

theorem mem_keepRecords {e : Nat × List Byte} (he : e ∈ rs.foldl (keepRecord d) l) : e ∈ l ∨ ∃ r ∈ rs, e = (d, r) := by
  induction rs generalizing l with
  | nil => exact .inl he
  | cons x rs ih =>
    rcases ih _ he with hl | ⟨r, hr, he⟩
    · exact (mem_keepRecord l x hl).imp_right fun h => ⟨x, List.mem_cons_self, h⟩
    · exact .inr ⟨r, List.mem_cons_of_mem _ hr, he⟩

theorem nodup_keepRecords (h : (l.map recordKey).Nodup) : ((rs.foldl (keepRecord d) l).map recordKey).Nodup := by
  induction rs generalizing l with
  | nil => exact h
  | cons r rs ih => exact ih _ (nodup_keepRecord l r h)

end

/-- The state with those records received. -/
def State.receivedSet (s : State) (l : List (Nat × List Byte)) : State := { s with ev := { s.ev with received := l } }

/-- The record an item of an EVENT message carries, behind the manager's number of it. -/
def recordOf (i : OdItem) : List Byte := i.value.drop 4

theorem State.odEvent_keeps {s : State} {h : OdHead} (items : List OdItem) (hm : s.red.manager = true) : s.odEvent h items =
    { state := s.receivedSet ((items.map recordOf).foldl (keepRecord (h.target.toNat % 4096)) s.ev.received)
      sts := items.map fun _ => ST.OK } := by
  have hfold (u : State) (l : List OdItem) : (l.foldl (fun (s : State) i =>
      if s.ev.received.any fun (e : Nat × List Byte) => e.1 == h.target.toNat % 4096 && e.2.take 4 == (i.value.drop 4).take 4 then s
      else { s with ev := { s.ev with received := s.ev.received ++ [(h.target.toNat % 4096, i.value.drop 4)] } }) u) =
      u.receivedSet ((l.map recordOf).foldl (keepRecord (h.target.toNat % 4096)) u.ev.received) := by
    induction l generalizing u with
    | nil => rfl
    | cons i l ih =>
      rw [List.foldl_cons, ih, List.map_cons, List.foldl_cons, keepRecord]
      unfold recordOf
      split <;> rfl
  unfold State.odEvent
  rw [hm, if_neg (by decide)]
  dsimp only
  rw [hfold]

theorem State.odEvent_refuses {s : State} {h : OdHead} (i : OdItem) (hm : s.red.manager = false) :
    s.odEvent h [i] = { state := s, sts := [ST.UNKNOWN] } := by
  unfold State.odEvent
  rw [hm]
  rfl

theorem State.odAct_event (s : State) (h : OdHead) (items : List OdItem) (fl : Bool) :
    s.odAct h OP.EVENT items fl = (s.acceptCounter h).odEvent h items := rfl

section
variable {s : State} {h : OdHead}

theorem State.manager_acceptCounter (s : State) (h : OdHead) : (s.acceptCounter h).red.manager = s.red.manager :=
  (s.served_acceptCounter h).part (fun x => x.red.manager) fun _ => rfl

/-- An acting manager holds, behind an EVENT message, the records it held and those of the message. -/
theorem State.received_event {items : List OdItem} (hc : s.clears h OP.EVENT items) (hm : s.red.manager = true) :
    (s.odMessage h OP.EVENT items).ev.received =
      (items.map recordOf).foldl (keepRecord (h.target.toNat % 4096)) s.ev.received := by
  have hmessage := State.odMessage_of_cleared true hc
  rw [State.noteClaim_other s h (by decide), State.odAct_event,
    State.odEvent_keeps items ((s.manager_acceptCounter h).trans hm), State.received_acceptCounter] at hmessage
  generalize (items.map recordOf).foldl (keepRecord (h.target.toNat % 4096)) s.ev.received = l at hmessage ⊢
  generalize hdone : ({ state := (s.acceptCounter h).receivedSet l, sts := items.map fun _ => ST.OK } : Done) = d at hmessage
  have hstate : d.state = (s.acceptCounter h).receivedSet l := hdone ▸ rfl
  have hsts : d.sts.all (· == ST.OK) = true := by
    rw [← hdone]
    simp
  have hupd : d.state.upd = s.upd := by
    rw [hstate]
    exact s.upd_acceptCounter h
  have ht := Done.attended_answered h items s.security.burning.isSome (op := OP.EVENT) (by decide) (by decide) hsts
  obtain ⟨-, -, -, -, hb, hr⟩ := hc
  rw [hmessage, Done.ended_quiet h items _ (by decide) (ht.part State.upd fun _ => rfl) (by rw [hupd, hb]) (by rw [hupd, hr]),
    Done.answered, State.received_odAnswer, Done.noted, State.odRefused_accepted _ _ _ _ hsts,
    apply_ite (fun x : State => x.ev.received), State.received_odAccepted, ite_self, hstate]
  rfl

theorem execEvent_keeps {items : List OdItem} (hc : s.clears h OP.EVENT items) (hm : s.red.manager = true) :
    ∃ t, exec (.event h items) s = .next t ∧ s.ev.received <+: t.ev.received ∧
      (∀ i ∈ items, ∃ e ∈ t.ev.received, e.1 = h.target.toNat % 4096 ∧ e.2.take 4 = (i.value.drop 4).take 4) ∧
      (∀ e ∈ t.ev.received, e ∈ s.ev.received ∨ ∃ i ∈ items, e = (h.target.toNat % 4096, i.value.drop 4)) ∧
      ((s.ev.received.map fun e => (e.1, e.2.take 4)).Nodup → (t.ev.received.map fun e => (e.1, e.2.take 4)).Nodup) := by
  refine ⟨_, rfl, ?_⟩
  rw [State.received_event hc hm]
  refine ⟨keepRecords_extends _ _, fun i hi => keepRecords_held _ _ (List.mem_map_of_mem hi), fun e he => ?_,
    nodup_keepRecords _ _⟩
  refine (mem_keepRecords _ _ he).imp_right ?_
  rintro ⟨r, hr, rfl⟩
  obtain ⟨i, hi, rfl⟩ := List.mem_map.mp hr
  exact ⟨i, hi, rfl⟩

/-- A device that is no manager refuses an EVENT message with UNKNOWN. -/
theorem execEvent_refuses {i : OdItem} (hc : s.clears h OP.EVENT [i]) (hm : s.red.manager = false) :
    ∃ t, exec (.event h [i]) s = .next t ∧ t.ev.received = s.ev.received ∧
      t.par P.LAST_REFUSAL = OP.EVENT * 2 ^ 24 + ST.UNKNOWN * 65536 := by
  obtain ⟨-, hlast, hreceived⟩ := State.odMessage_refused hc (by decide) (by decide)
    ((s.odAct_event h [i] true).trans (State.odEvent_refuses i ((s.manager_acceptCounter h).trans hm))) (by decide)
  exact ⟨_, rfl, hreceived, hlast⟩

end

/-- Settles O47: reads, events and operations not listed each leave what their law says. -/
theorem readsEventsAndUnknown : Obligations.ReadsEventsAndUnknown := by
  unfold Obligations.ReadsEventsAndUnknown
  refine fun h s => ⟨fun items hc => ?_, fun items => execEvent_keeps, fun i => execEvent_refuses,
    fun o items hk => execUnknownOp_refuses hk, fun o items hk => congrArg Host.Outcome.next (if_pos hk)⟩
  obtain ⟨hsent, hpars, hod, -⟩ := State.odMessage_read_keeps hc
  refine ⟨_, _, rfl, hsent, rfl, rfl, rfl, State.odRead_response_length _ _, hpars, hod, ?_, ?_⟩
  · rintro i b rfl hf hr
    exact ⟨by rw [State.odRead_scalar hf hr]; rfl, State.odMessage_read_scalar hc hf hr⟩
  · rintro i st rfl hf hr
    exact ⟨by rw [State.odRead_refused hf hr]; rfl, State.odMessage_read_refused hc hf hr⟩

end Sys2Proof.Machine
end

section
/-! What a lane's change of state changes, and what it leaves alone (R114, R118, R122, R127). -/

namespace Sys2Proof.Machine

/-! Events and their limits (R510) -/

/-- A raise that its rule limits is counted whether it is suppressed or not (R510). -/
theorem State.told_raiseLimited (s : State) {e : Nat} (i n d : Nat) (h : e ≠ E.EVENT_OVERFLOW) :
    s.told (s.raiseLimited e i n d) e := by
  unfold State.raiseLimited
  split
  · exact s.told_raise e i d 0 h
  · exact s.par_bump _ _ _

/-- An element of a parameter outside `ids` that counts no events is spared. -/
theorem spared_of_param {ids evs : List Nat} {id idx : Nat} (hi : id ∉ ids) (he : id ≠ P.EVENT_COUNT) (hx : idx < 65536) :
    spared ids evs id idx = true := spared_iff.mpr ⟨hx, hi, fun e => absurd e he⟩

/-! Records of the lanes -/

theorem State.laneOf_updLane_same (s : State) (n : Nat) (f : Lane → Lane) : (s.updLane n f).laneOf n = f (s.laneOf n) :=
  SMap.get_set_same _ _ _ _

theorem State.laneOf_congr {s t : State} (h : t.lane.lanes = s.lane.lanes) (n : Nat) : t.laneOf n = s.laneOf n := by
  unfold State.laneOf
  rw [h]

theorem State.par_updLane (s : State) (n : Nat) (f : Lane → Lane) (id idx : Nat) : (s.updLane n f).par id idx = s.par id idx := rfl

theorem State.blobByte_updLane (s : State) (n : Nat) (f : Lane → Lane) (id idx off : Nat) :
    (s.updLane n f).blobByte id idx off = s.blobByte id idx off := rfl

/-! The end of a scan (R127) -/

theorem State.scanEnd_lane (s : State) (st : Nat) :
    (s.scanEnd st).lane = { s.lane with scanLane := (s.scanEnd st).lane.scanLane } := by
  unfold State.scanEnd
  split
  · rfl
  · rw [State.raise_lane]
    rfl

theorem State.scanCheck_lane (s : State) : s.scanCheck.lane = { s.lane with scanLane := s.scanCheck.lane.scanLane } := by
  unfold State.scanCheck
  split
  · rfl
  · split
    · rfl
    · exact s.scanEnd_lane 3

theorem State.scanEnd_blobs (s : State) (st : Nat) : (s.scanEnd st).blobs = s.blobs := by
  unfold State.scanEnd
  split
  · rfl
  · exact State.raise_blobs _ _ _ _ _

theorem State.scanCheck_blobs (s : State) : s.scanCheck.blobs = s.blobs := by
  unfold State.scanCheck
  split
  · rfl
  · split
    · rfl
    · exact s.scanEnd_blobs 3

theorem State.par_scanCheck_ended {ids evs : List Nat} {id idx : Nat} (h : spared ids evs id idx = true) (s : State)
    (hi : P.EYE_SCAN_STATUS ∈ ids) (he : E.EYE_SCAN_DONE ∈ evs) (ho : E.EVENT_OVERFLOW ∈ evs) :
    s.scanCheck.par id idx = s.par id idx := by
  unfold State.scanCheck
  split
  · rfl
  · split
    · rfl
    · exact State.par_scanEnd_spared h s 3 hi he ho

/-! Outside the lanes -/

/-- The state without the lanes' part, the parameters and the events: what no lane's change of state touches. -/
def State.sansLanes (s : State) : State := { s with lane := {}, dict := [], blobs := [], ev := {} }

theorem State.eq_of_sansLanes {s t : State} (h : t.sansLanes = s.sansLanes) :
    t = { s with lane := t.lane, dict := t.dict, blobs := t.blobs, ev := t.ev } :=
  calc t = { t.sansLanes with lane := t.lane, dict := t.dict, blobs := t.blobs, ev := t.ev } := rfl
    _ = { s.sansLanes with lane := t.lane, dict := t.dict, blobs := t.blobs, ev := t.ev } := by rw [h]

theorem State.raise_sansLanes (s : State) (e i d c : Nat) : (s.raise e i d c).sansLanes = s.sansLanes := by
  rw [State.raise_eq]
  rfl

theorem State.raiseIf_sansLanes (s : State) (b : Bool) (e i d : Nat) : (s.raiseIf b e i d).sansLanes = s.sansLanes := by
  rw [State.raiseIf_eq]
  rfl

theorem State.raiseLimited_sansLanes (s : State) (e i n d : Nat) : (s.raiseLimited e i n d).sansLanes = s.sansLanes := by
  rw [State.raiseLimited_eq]
  rfl

theorem State.setBlob_sansLanes (s : State) (id idx off : Nat) (bs : List Byte) :
    (s.setBlob id idx off bs).sansLanes = s.sansLanes := by
  rw [State.setBlob_eq]
  rfl

theorem State.scanCheck_sansLanes (s : State) : s.scanCheck.sansLanes = s.sansLanes := by
  unfold State.scanCheck
  split
  · rfl
  · split
    · rfl
    · unfold State.scanEnd
      split
      · rfl
      · exact State.raise_sansLanes _ _ _ _ _

/-! A change of state (R118) -/

theorem State.laneGo_sansLanes (s : State) (n st : Nat) : (s.laneGo n st).sansLanes = s.sansLanes := by
  rw [State.laneGo_eq, State.scanCheck_sansLanes, State.raiseIf_sansLanes, State.raiseIf_sansLanes]
  rfl

/-- A change of state writes the time of entry into the lane's record and may end a scan, and changes nothing else of the lanes. -/
theorem State.laneGo_lane (s : State) (n st : Nat) :
    (s.laneGo n st).lane = { (s.laneEntered n).lane with scanLane := (s.laneGo n st).lane.scanLane } := by
  rw [State.laneGo_eq, State.scanCheck_lane, State.raiseIf_lane, State.raiseIf_lane]
  rfl

theorem State.laneGo_blobs (s : State) (n st : Nat) : (s.laneGo n st).blobs = s.blobs := by
  rw [State.laneGo_eq, State.scanCheck_blobs, State.raiseIf_blobs, State.raiseIf_blobs]
  rfl

theorem State.laneOf_laneGo_same (s : State) (n st : Nat) :
    (s.laneGo n st).laneOf n = { s.laneOf n with enteredAt := s.now + 1 } :=
  (State.laneOf_congr (t := s.laneGo n st) (s := s.laneEntered n) ((congrArg PartLane.lanes (s.laneGo_lane n st)).trans rfl) n).trans
    (s.laneOf_updLane_same n _)

/-- The rate a lane runs at is shown as it enters a state (R118, R122). -/
theorem State.par_rateInUse_laneGo (s : State) {n : Nat} (st : Nat) (hn : n < 65536) :
    (s.laneGo n st).par P.RATE_IN_USE n = if st = L.OFF then 0xFF else s.laneRunRate n := by
  have hs : spared [P.EYE_SCAN_STATUS] laneEvents P.RATE_IN_USE n = true := spared_of_param (by decide) (by decide) hn
  have hrate : ((s.laneEntered n).setPar P.LANE_STATE n st).par P.LANE_RATE n = s.par P.LANE_RATE n :=
    (State.par_setPar_other _ _ (by decide) hn hn).trans (State.par_congr rfl rfl _ _)
  rw [State.laneGo_eq, State.par_scanCheck_ended hs _ (by simp) (by decide) (by decide),
    State.par_raiseIf_spared hs _ _ _ _ (by decide) (by decide) (by decide),
    State.par_raiseIf_spared hs _ _ _ _ (by decide) (by decide) (by decide), State.par_setPar]
  unfold State.laneRunRate State.laneRate
  rw [hrate]
  rfl

/-- A lane that comes UP is told (R118). -/
theorem State.told_laneGo_up (s : State) {n : Nat} (hn : n < 65536) (h : s.laneState n ≠ L.UP) :
    s.told (s.laneGo n L.UP) E.LANE_UP := by
  have hs : spared [P.LANE_STATE, P.RATE_IN_USE, P.EYE_SCAN_STATUS] [E.EYE_SCAN_DONE, E.EVENT_OVERFLOW] P.EVENT_COUNT E.LANE_UP
      = true := by decide
  have hup : (s.laneState n != L.UP && L.UP == L.UP) = true := by simp [h]
  rw [State.laneGo_eq, hup, show (s.laneState n == L.UP && L.UP != L.UP) = false by simp]
  refine State.told_of_after (State.told_of_before (State.told_raise _ E.LANE_UP n 0 0 (by decide)) ?_)
    (State.par_scanCheck_ended hs _ (by simp) (by simp) (by simp))
  exact (State.par_setPar_spared hs _ _ (by simp) hn).trans ((State.par_setPar_spared hs _ _ (by simp) hn).trans rfl)

/-- An event told before a lane changes its state is not told again by the change. -/
theorem State.told.laneGo {s t : State} {e : Nat} (h : s.told t e) {n : Nat} (st : Nat) (hn : n < 65536)
    (he : spared (P.LANE_STATE :: lanePars) laneEvents P.EVENT_COUNT e = true) : s.told (t.laneGo n st) e :=
  State.told_of_after h (State.par_laneGo_spared he t n st hn (by simp) (by simp) (by simp))

/-! What a lane's settings are read from -/

theorem State.laneRate_congr {s t : State} {n : Nat} (hs : t.start = s.start) (hb : t.lane.builtIn = s.lane.builtIn)
    (hp : t.par P.LANE_RATE n = s.par P.LANE_RATE n) : t.laneRate n = s.laneRate n := by
  unfold State.laneRate State.builtIn State.isHead State.isTile
  rw [hs, hb, hp]

theorem State.laneUse_congr {s t : State} {n : Nat} (hs : t.start = s.start) (hw : t.lane.portW = s.lane.portW)
    (he : t.lane.portE = s.lane.portE) (hp : t.par P.LANE_USE n = s.par P.LANE_USE n) : t.laneUse n = s.laneUse n := by
  unfold State.laneUse State.isHead
  rw [hs, hw, he, hp]

theorem State.laneRate_laneGo (s : State) {m n : Nat} (st : Nat) (hm : m < 65536) (hn : n < 65536) :
    (s.laneGo m st).laneRate n = s.laneRate n :=
  State.laneRate_congr (s.laneGo_start m st) ((congrArg PartLane.builtIn (s.laneGo_lane m st)).trans rfl)
    (State.par_laneGo_spared (ids := P.LANE_STATE :: lanePars) (evs := laneEvents)
      (spared_of_param (by decide) (by decide) hn) s m st hm (by simp) (by simp) (by simp))

theorem State.laneUse_laneGo (s : State) {m n : Nat} (st : Nat) (hm : m < 65536) (hn : n < 65536) :
    (s.laneGo m st).laneUse n = s.laneUse n :=
  State.laneUse_congr (s.laneGo_start m st) ((congrArg PartLane.portW (s.laneGo_lane m st)).trans rfl)
    ((congrArg PartLane.portE (s.laneGo_lane m st)).trans rfl)
    (State.par_laneGo_spared (ids := P.LANE_STATE :: lanePars) (evs := laneEvents)
      (spared_of_param (by decide) (by decide) hn) s m st hm (by simp) (by simp) (by simp))

/-! Up to the change of state -/

/-- Between `s` and `u` a lane has been made ready for its next state: only the lanes' own records, the bytes, the events and the
counts of events and lost syncs have changed. -/
structure State.readied (s u : State) : Prop where
  pars : s.samePars u [P.SYNC_LOSS, P.EVENT_COUNT]
  rest : u.sansLanes = s.sansLanes
  lane : u.lane = { s.lane with lanes := u.lane.lanes }

theorem State.readied_refl (s : State) : s.readied s := ⟨fun _ _ _ _ => rfl, rfl, rfl⟩

theorem State.readied.trans {s t u : State} (h : s.readied t) (h' : t.readied u) : s.readied u :=
  ⟨State.samePars_trans h.pars h'.pars, h'.rest.trans h.rest, by rw [h'.lane, h.lane]⟩

theorem State.readied_updLane (s : State) (n : Nat) (f : Lane → Lane) : s.readied (s.updLane n f) :=
  ⟨fun _ _ _ _ => rfl, rfl, rfl⟩

theorem State.readied_setBlob (s : State) (id idx off : Nat) (bs : List Byte) : s.readied (s.setBlob id idx off bs) :=
  ⟨fun _ _ _ _ => State.par_congr (by rw [State.setBlob_eq]) (by rw [State.setBlob_eq]) _ _, s.setBlob_sansLanes _ _ _ _,
    by rw [State.setBlob_eq]⟩

theorem State.readied_raise (s : State) {e : Nat} (i d c : Nat) (he : e < 65536) : s.readied (s.raise e i d c) :=
  ⟨s.samePars_raise i d c he (by simp), s.raise_sansLanes _ _ _ _, by rw [State.raise_lane]⟩

theorem State.readied_raiseIf (s : State) (b : Bool) {e : Nat} (i d : Nat) (he : e < 65536) : s.readied (s.raiseIf b e i d) := by
  cases b with
  | true => exact s.readied_raise i d 0 he
  | false => exact s.readied_refl

theorem State.readied_raiseLimited (s : State) {e : Nat} (i n d : Nat) (he : e < 65536) : s.readied (s.raiseLimited e i n d) :=
  ⟨fun _ _ hid hidx => s.par_raiseLimited e i n d (fun h => hid (by simp [h])) hidx he, s.raiseLimited_sansLanes _ _ _ _,
    by rw [State.raiseLimited_lane]⟩

theorem State.readied_bump_syncLoss (s : State) {n : Nat} (hn : n < 65536) : s.readied (s.bump P.SYNC_LOSS n) :=
  ⟨fun _ _ hid hidx => s.par_bump_other (fun h => hid (by simp [h])) hn hidx, rfl, rfl⟩

theorem State.readied.par {s u : State} (h : s.readied u) {id idx : Nat} (hid : id ∉ [P.SYNC_LOSS, P.EVENT_COUNT])
    (hx : idx < 65536) : u.par id idx = s.par id idx := h.pars id idx hid hx

theorem State.readied.start {s u : State} (h : s.readied u) : u.start = s.start :=
  show u.sansLanes.start = s.sansLanes.start by rw [h.rest]

theorem State.readied.laneState {s u : State} (h : s.readied u) {n : Nat} (hn : n < 65536) : u.laneState n = s.laneState n :=
  h.par (by decide) hn

theorem State.readied.laneRate {s u : State} (h : s.readied u) {n : Nat} (hn : n < 65536) : u.laneRate n = s.laneRate n :=
  State.laneRate_congr h.start ((congrArg PartLane.builtIn h.lane).trans rfl) (h.par (by decide) hn)

theorem State.readied.laneRunRate {s u : State} (h : s.readied u) {n : Nat} (hn : n < 65536) :
    u.laneRunRate n = s.laneRunRate n := by
  unfold State.laneRunRate
  rw [h.laneRate hn, h.lane]

/-- A lane made ready moves to its next state. -/
theorem State.readied.laneMoved {s u : State} (h : s.readied u) {n : Nat} (st : Nat) (hn : n < 65536) :
    s.laneMoved (u.laneGo n st) n st := by
  refine ⟨?_, ?_, fun m hne hm => ?_, State.eq_of_sansLanes ((u.laneGo_sansLanes n st).trans h.rest)⟩
  · rw [State.laneState_laneGo u st hn hn, if_pos rfl]
  · rw [State.par_rateInUse_laneGo u st hn, h.laneRunRate hn]
  · rw [State.laneState_laneGo u st hn hm, if_neg hne, h.laneState hm]

end Sys2Proof.Machine
end

section
/-! How a lane comes up, loses sync and starts again (R118 to R122, R132). -/

namespace Sys2Proof.Machine

/-! The equaliser's settings (R121, R123) -/

theorem unsigned_lt (w : Nat) (x : Int) : unsigned w x < 2 ^ w := by
  have hpos : (0 : Int) < (2 ^ w : Nat) := by exact_mod_cast Nat.two_pow_pos w
  have hlt := Int.emod_lt_of_pos x hpos
  have hnn := Int.emod_nonneg x hpos.ne'
  unfold unsigned
  omega

theorem toNat_codeByte (x : Int) : (codeByte x).toNat = unsigned 8 x :=
  (BitVec.toNat_ofNat _ _).trans (Nat.mod_eq_of_lt (unsigned_lt 8 x))

theorem State.ctle_setEq (s : State) (n : Nat) (ctle : Int) (taps : List Int) :
    (s.setEq n ctle taps).blobByte P.EQ_STATE n 0 = unsigned 8 (clampI 0 15 ctle) :=
  (State.blobByte_setBlob s P.EQ_STATE n 0 _ 0 (by simp)).trans (toNat_codeByte _)

theorem State.tap_setEq (s : State) (n : Nat) (ctle : Int) (taps : List Int) {k : Nat} (hk : k < 5) :
    (s.setEq n ctle taps).blobByte P.EQ_STATE n (k + 1) = unsigned 8 (clampI (-(tapLimit k)) (tapLimit k) (taps.getD k 0)) := by
  have hb := State.blobByte_setBlob_getD s P.EQ_STATE n 0 (codeByte (clampI 0 15 ctle) ::
    (List.range 5).map fun k => codeByte (clampI (-(tapLimit k)) (tapLimit k) (taps.getD k 0))) (j := k + 1) (by simp; omega)
  rw [Nat.zero_add] at hb
  refine hb.trans ?_
  rw [List.getD_cons_succ, List.getD_eq_getElem _ _ (by simpa using hk), List.getElem_map, List.getElem_range, toNat_codeByte]

/-- A CTLE setting within its range stands as it is. -/
theorem unsigned_clampI_fin (c : Fin 16) : unsigned 8 (clampI 0 15 (c.val : Int)) = c.val := by
  have hc := c.isLt
  rw [clampI, if_neg (by omega), if_neg (by omega), unsigned]
  omega

/-! The restart of a lane (R118, R119) -/

/-- A lane forgets what its last bring-up has found. -/
def State.laneReset (s : State) (n : Nat) : State :=
  s.updLane n fun l => { l with adapted := false, losses := [], invalid := [], polarityTold := false }

theorem State.laneRestart_eq (s : State) (n : Nat) : s.laneRestart n = (s.laneReset n).laneGo n L.SIGNAL := rfl

theorem State.readied_laneReset (s : State) (n : Nat) : s.readied (s.laneReset n) := s.readied_updLane n _

theorem State.adapted_laneRestart (s : State) (n : Nat) : ((s.laneRestart n).laneOf n).adapted = false := by
  rw [State.laneRestart_eq, State.laneOf_laneGo_same]
  exact congrArg Lane.adapted (s.laneOf_updLane_same n _)

theorem State.laneState_laneRestart (s : State) {m n : Nat} (hm : m < 65536) (hn : n < 65536) :
    (s.laneRestart m).laneState n = if n = m then L.SIGNAL else s.laneState n := by
  rw [State.laneRestart_eq, State.laneState_laneGo _ _ hm hn, (s.readied_laneReset m).laneState hn]

/-! Lost sync (R119) -/

/-- A loss of sync is counted and told. -/
def State.syncCounted (s : State) (n : Nat) : State := (s.bump P.SYNC_LOSS n).raise E.SYNC_LOST n

/-- The losses of sync within the last second. -/
def State.recentLosses (s : State) (n : Nat) : List Nat := (s.laneOf n).losses.filter fun x => decide (s.now < x + sec)

/-- The lane remembers when it lost sync and forgets its invalid symbols. -/
def State.lossNoted (s : State) (n : Nat) : State :=
  s.updLane n fun l => { l with losses := s.now :: s.recentLosses n, invalid := [] }

theorem State.syncLoss_eq (s : State) (n : Nat) : s.syncLoss n =
    if 2 ≤ (s.recentLosses n).length then ((s.syncCounted n).raise E.LANE_RESTART n).laneRestart n
    else ((s.syncCounted n).lossNoted n).laneGo n L.ALIGN := by
  have hrecent : (s.syncCounted n).recentLosses n = s.recentLosses n := by
    unfold State.recentLosses
    rw [State.laneOf_congr (s := s) (by rw [State.syncCounted, State.raise_lane]; rfl) n,
      show (s.syncCounted n).now = s.now from State.raise_now _ _ _ _ _]
  rw [← hrecent]
  rfl

section
variable {n : Nat} (hn : n < 65536)
include hn

theorem State.readied_syncCounted (s : State) : s.readied (s.syncCounted n) :=
  (s.readied_bump_syncLoss hn).trans (State.readied_raise _ _ _ _ (by decide))

/-- What a lane that loses sync has gone through when it leaves UP. -/
theorem State.syncLoss_goes (s : State) : ∃ u : State, s.readied u ∧
    s.syncLoss n = u.laneGo n (if 2 ≤ (s.recentLosses n).length then L.SIGNAL else L.ALIGN) ∧
    (∀ ids evs id idx, spared ids evs id idx = true → E.LANE_RESTART ∈ evs → E.EVENT_OVERFLOW ∈ evs →
      u.par id idx = (s.syncCounted n).par id idx) := by
  have hcount := State.readied_syncCounted hn s
  rw [State.syncLoss_eq]
  split
  · refine ⟨((s.syncCounted n).raise E.LANE_RESTART n).laneReset n,
      hcount.trans ((State.readied_raise _ _ _ _ (by decide)).trans (State.readied_laneReset _ n)), rfl, ?_⟩
    intro ids evs id idx h hr ho
    exact State.par_raise_spared h (s.syncCounted n) n 0 0 hr ho (by decide)
  · exact ⟨(s.syncCounted n).lossNoted n, hcount.trans (State.readied_updLane _ n _), rfl, fun _ _ _ _ _ _ _ => rfl⟩

/-- Every element but those of a lane's state, of the lost syncs and of their events stands over a loss of sync. -/
theorem State.par_syncLoss {ids evs : List Nat} {id idx : Nat} (h : spared ids evs id idx = true) (s : State)
    (hl : P.LANE_STATE ∈ ids) (hi : lanePars ⊆ ids) (he : laneEvents ⊆ evs) (hr : E.LANE_RESTART ∈ evs) :
    (s.syncLoss n).par id idx = (s.syncCounted n).par id idx := by
  obtain ⟨u, -, hgo, hpar⟩ := State.syncLoss_goes hn s
  rw [hgo, State.par_laneGo_spared h u n _ hn hl hi he]
  exact hpar ids evs id idx h hr (he (by decide))

theorem State.laneMoved_syncLoss (s : State) :
    s.laneMoved (s.syncLoss n) n (if 2 ≤ (s.recentLosses n).length then L.SIGNAL else L.ALIGN) := by
  obtain ⟨u, hready, hgo, -⟩ := State.syncLoss_goes hn s
  rw [hgo]
  exact hready.laneMoved _ hn

theorem State.par_syncLoss_count (s : State) :
    (s.syncLoss n).par P.SYNC_LOSS n = (s.par P.SYNC_LOSS n + 1) % 2 ^ 32 := by
  have h : spared (P.LANE_STATE :: lanePars) (E.LANE_RESTART :: laneEvents) P.SYNC_LOSS n = true :=
    spared_of_param (by decide) (by decide) hn
  rw [State.par_syncLoss hn h s (by simp) (by simp) (by simp) (by simp)]
  exact (State.par_raise (s.bump P.SYNC_LOSS n) E.SYNC_LOST n 0 0 (by decide) hn (by decide)).trans (s.par_bump _ _ _)

theorem State.told_syncLoss (s : State) : s.told (s.syncLoss n) E.SYNC_LOST := by
  have h : spared (P.LANE_STATE :: lanePars) (E.LANE_RESTART :: laneEvents) P.EVENT_COUNT E.SYNC_LOST = true := by decide
  refine State.told_of_after (State.told_of_before (State.told_raise (s.bump P.SYNC_LOSS n) E.SYNC_LOST n 0 0 (by decide)) ?_)
    (State.par_syncLoss hn h s (by simp) (by simp) (by simp) (by simp))
  exact s.par_bump_other (by decide) hn (by decide)

end

theorem execCommaTimeout_losesSync (n : Fin 32) (s : State) (h : s.laneState n = L.UP) :
    ∃ t, exec (.commaTimeout n) s = .next t ∧ s.told t E.SYNC_LOST ∧
      t.par P.SYNC_LOSS n = (s.par P.SYNC_LOSS n + 1) % 2 ^ 32 ∧
      s.laneMoved t n (if 2 ≤ (s.recentLosses n).length then L.SIGNAL else L.ALIGN) := by
  have hn : n.val < 65536 := by omega
  have hup : s.laneUp n = true := by simp [State.laneUp, h]
  exact ⟨_, congrArg Host.Outcome.next (if_pos hup), State.told_syncLoss hn s, State.par_syncLoss_count hn s,
    State.laneMoved_syncLoss hn s⟩

/-! Bring-up (R118) -/

theorem execLaneSignalDetect_moves (n : Fin 32) (s : State) (h : s.laneState n = L.SIGNAL) (hu : s.laneUse n / 16 ≠ 4)
    (hq : s.quadOut (n.val / 4) = false) : ∃ t, exec (.laneSignalDetect n) s = .next t ∧ s.laneMoved t n L.CDR :=
  ⟨_, congrArg Host.Outcome.next (if_pos ⟨h, hu, hq⟩), s.readied_refl.laneMoved L.CDR (by omega)⟩

theorem execCdrLock_moves (n : Fin 32) (s : State) (h : s.laneState n = L.CDR) :
    ∃ t, exec (.cdrLock n) s = .next t ∧ s.laneMoved t n L.ALIGN :=
  ⟨_, congrArg Host.Outcome.next (if_pos h), s.readied_refl.laneMoved L.ALIGN (by omega)⟩

theorem execCdrTimeout_moves (n : Fin 32) (tie : Bool) (s : State) (h : s.laneState n = L.CDR) :
    ∃ t, exec (.cdrTimeout n tie) s = .next t ∧ s.laneMoved t n L.SIGNAL :=
  ⟨_, congrArg Host.Outcome.next (if_pos (.inl h)), s.readied_refl.laneMoved L.SIGNAL (by omega)⟩

/-- The polarity found at alignment is noted where it is automatic, and an inverted one told once (R121). -/
def State.polarityFound (s : State) (n : Nat) (inverted : Bool) : State :=
  let auto := bit (s.lanePolarity n) 2
  let told := (s.laneOf n).polarityTold
  let s := if auto then s.setBlob P.EQ_STATE n 6 [if inverted then 1 else 0] else s
  let s := if auto then s.updLane n fun l => { l with polarityTold := inverted } else s
  s.raiseIf (auto && inverted && !told) E.RX_POLARITY_INVERTED n

theorem State.readied_polarityFound (s : State) (n : Nat) (inverted : Bool) : s.readied (s.polarityFound n inverted) := by
  unfold State.polarityFound
  dsimp only
  refine State.readied.trans ?_ (State.readied_raiseIf _ _ _ _ (by decide))
  split
  · exact (s.readied_setBlob _ _ _ _).trans (State.readied_updLane _ n _)
  · exact s.readied_refl

theorem State.blobByte_polarityFound (s : State) (n : Nat) (inverted : Bool) :
    (s.polarityFound n inverted).blobByte P.EQ_STATE n 6 =
      if bit (s.lanePolarity n) 2 = true then b2n inverted else s.blobByte P.EQ_STATE n 6 := by
  unfold State.polarityFound
  dsimp only
  rw [State.blobByte_congr (State.raiseIf_blobs _ _ _ _ _)]
  split
  · refine (State.blobByte_setBlob s P.EQ_STATE n 6 [if inverted then 1 else 0] 0 (by simp)).trans ?_
    cases inverted <;> rfl
  · rfl

theorem execLaneAlign_aligns (n : Fin 32) (inv : Bool) (s : State) (h : s.laneState n = L.ALIGN) :
    ∃ t, exec (.laneAlign n inv) s = .next t ∧ s.laneMoved t n L.ADAPT ∧
      t.blobByte P.EQ_STATE n 6 = if bit (s.lanePolarity n) 2 = true then b2n inv else s.blobByte P.EQ_STATE n 6 :=
  ⟨(s.polarityFound n inv).laneGo n L.ADAPT, congrArg Host.Outcome.next (if_neg (not_not_intro h)),
    (s.readied_polarityFound n inv).laneMoved L.ADAPT (by omega),
    (State.blobByte_congr (State.laneGo_blobs _ _ _) _ _ _).trans (s.blobByte_polarityFound n inv)⟩

/-! UP and the adopted rate (R118, R119, R122) -/

/-- Adaptation has settled: its results are taken unless the lane had kept them. -/
def State.adaptSettled (s : State) (n : Nat) (ctle : Int) (taps : List Int) : State :=
  (if (s.laneOf n).adapted then s else s.setEq n ctle taps).updLane n fun l => { l with adapted := true, invalid := [] }

theorem State.readied_adaptSettled (s : State) (n : Nat) (ctle : Int) (taps : List Int) : s.readied (s.adaptSettled n ctle taps) := by
  unfold State.adaptSettled
  refine State.readied.trans ?_ (State.readied_updLane _ n _)
  split
  · exact s.readied_refl
  · exact s.readied_setBlob _ _ _ _

theorem State.blobByte_adaptSettled (s : State) (n : Nat) (c : Fin 16) (taps : List Int) :
    (s.adaptSettled n c.val taps).blobByte P.EQ_STATE n 0 =
      if (s.laneOf n).adapted = true then s.blobByte P.EQ_STATE n 0 else c.val := by
  unfold State.adaptSettled
  by_cases h : (s.laneOf n).adapted = true
  · rw [if_pos h, if_pos h]
    rfl
  · rw [if_neg h, if_neg h]
    rw [State.blobByte_updLane, State.ctle_setEq]
    exact unsigned_clampI_fin c

/-- The ports have adopted a rate. -/
def State.rateAdopted (s : State) : State := { s with lane := { s.lane with adopted := true } }

/-- A lane that comes UP leaves the ports as they are, or they adopt its rate, which the other port's may then show (R122). -/
theorem State.adoptRate_cases (s : State) (n : Nat) : s.adoptRate n = s ∨ s.adoptRate n = s.rateAdopted ∨
    ∃ other v, s.adoptRate n = s.rateAdopted.setPar P.RATE_IN_USE other v := by
  unfold State.adoptRate
  split
  · exact .inl rfl
  · exact .inr ((ite_eq_or_eq _ _ _).imp id fun h => ⟨_, _, h⟩)

theorem State.adoptRate_keeps (s : State) (n : Nat) : (s.adoptRate n).lane.lanes = s.lane.lanes ∧ (s.adoptRate n).blobs = s.blobs := by
  rcases s.adoptRate_cases n with h | h | ⟨other, v, h⟩ <;> rw [h] <;> exact ⟨rfl, rfl⟩

/-- Whatever lane the other port has, its rate stands behind every element of a lower parameter. -/
theorem State.par_adoptRate (s : State) (n : Nat) {id idx : Nat} (h : id < P.RATE_IN_USE) (hx : idx < 65536) :
    (s.adoptRate n).par id idx = s.par id idx := by
  rcases s.adoptRate_cases n with e | e | ⟨other, v, e⟩ <;> rw [e]
  · rfl
  · have hk : pkey id idx ≠ pkey P.RATE_IN_USE other := by
      unfold pkey
      omega
    exact s.rateAdopted.par_setPar_ne v hk

theorem execLaneAdaptComplete_up (n : Fin 32) (ctle : Fin 16) (taps : List Int) (s : State) (h : s.laneState n = L.ADAPT) :
    ∃ t, exec (.laneAdaptComplete n ctle taps) s = .next t ∧ t.laneState n = L.UP ∧ s.told t E.LANE_UP ∧
      (t.laneOf n).adapted = true ∧
      t.blobByte P.EQ_STATE n 0 = (if (s.laneOf n).adapted = true then s.blobByte P.EQ_STATE n 0 else ctle.val) ∧
      ∀ m : Fin 32, m ≠ n → t.laneState m = s.laneState m := by
  have hn : n.val < 65536 := by omega
  have hready := s.readied_adaptSettled n ctle.val taps
  obtain ⟨hlanes, hblobs⟩ := State.adoptRate_keeps ((s.adaptSettled n ctle.val taps).laneGo n L.UP) n
  obtain ⟨hup, -, hothers, -⟩ := hready.laneMoved L.UP hn
  have hadopt (m : Nat) (hm : m < 65536) := State.par_adoptRate ((s.adaptSettled n ctle.val taps).laneGo n L.UP) n
    (show P.LANE_STATE < P.RATE_IN_USE by decide) hm
  refine ⟨((s.adaptSettled n ctle.val taps).laneGo n L.UP).adoptRate n, congrArg Host.Outcome.next (if_neg (not_not_intro h)),
    (hadopt n hn).trans hup, ?_, ?_, ?_, fun m hm => ?_⟩
  · have htold := State.told_laneGo_up (s.adaptSettled n ctle.val taps) hn (by rw [hready.laneState hn, h]; decide)
    refine State.told_of_after (State.told_of_before htold ?_) (State.par_adoptRate _ n (by decide) (by decide))
    show State.par ((if (s.laneOf n).adapted then s else s.setEq n ctle.val taps).updLane n _) _ _ = _
    split
    · rfl
    · exact State.par_congr (by rw [State.setEq, State.setBlob_eq]; rfl) (by rw [State.setEq, State.setBlob_eq]; rfl) _ _
  · rw [State.laneOf_congr hlanes, State.laneOf_laneGo_same]
    exact congrArg Lane.adapted (State.laneOf_updLane_same _ n _)
  · exact (State.blobByte_congr (hblobs.trans (State.laneGo_blobs _ _ _)) _ _ _).trans (s.blobByte_adaptSettled n ctle taps)
  · exact (hadopt m (by omega)).trans (hothers m (fun e => hm (Fin.ext e)) (by omega))

/-! Restarts by a timer (R120, R122, R132) -/

theorem execLaneBringupTimer_restarts (n : Fin 32) (tie : Bool) (s : State)
    (h : s.laneState n = L.CDR ∨ s.laneState n = L.ALIGN ∨ s.laneState n = L.ADAPT ∨
      (tie = true ∧ s.laneUp n = true ∧ s.enteredNow n = true)) :
    ∃ t, exec (.laneBringupTimer n tie) s = .next t ∧ s.laneMoved t n L.SIGNAL ∧ s.told t E.LANE_BRINGUP_TIMEOUT ∧
      (t.laneOf n).adapted = false := by
  have hn : n.val < 65536 := by omega
  have hready := (s.readied_raiseLimited (e := E.LANE_BRINGUP_TIMEOUT) n (10 * sec) 0 (by decide)).trans
    (State.readied_laneReset _ n)
  refine ⟨_, congrArg Host.Outcome.next (if_pos h), hready.laneMoved L.SIGNAL hn, ?_, State.adapted_laneRestart _ n⟩
  have htold := s.told_raiseLimited (e := E.LANE_BRINGUP_TIMEOUT) n (10 * sec) 0 (by decide)
  exact State.told.laneGo (t := State.laneReset _ n) htold L.SIGNAL hn (by decide)

/-- An allocated lane that is OFF starts: one that serves a receiver in DP, any other in SIGNAL (R115, R118, R133). -/
theorem State.laneStart_starts (s : State) {n : Nat} (hn : n < 65536) (hoff : s.laneState n = L.OFF) (hu : s.laneUse n / 16 ≠ 0) :
    (s.laneStart n).lane.hold = s.lane.hold ∧ ∀ m, m < 65536 → (s.laneStart n).laneState m =
      if m = n then (if s.laneUse n / 16 = 4 ∧ s.quadOut (n / 4) = false then L.DP else L.SIGNAL) else s.laneState m := by
  have hgo : ¬ ((s.laneState n != L.OFF || s.laneUse n / 16 == 0) = true) := by simp [hoff, hu]
  unfold State.laneStart
  rw [if_neg hgo]
  by_cases h4 : s.laneUse n / 16 = 4
  · have hst : (if s.quadOut (n / 4) = true then L.SIGNAL else L.DP) =
        if s.laneUse n / 16 = 4 ∧ s.quadOut (n / 4) = false then L.DP else L.SIGNAL := by
      cases s.quadOut (n / 4) <;> simp [h4]
    rw [if_pos h4, ← hst]
    exact ⟨(congrArg PartLane.hold (s.laneGo_lane n _)).trans rfl, fun m hm => s.laneState_laneGo _ hn hm⟩
  · rw [if_neg h4, if_neg fun h => h4 h.1]
    exact ⟨(congrArg PartLane.hold (State.laneGo_lane _ n L.SIGNAL)).trans rfl,
      fun m hm => (State.laneState_laneRestart (s.updLane n _) hn hm).trans rfl⟩

theorem execLaneOffHoldExpiry_starts (n : Fin 32) (s : State) (hh : n.val ∈ s.lane.hold) (hoff : s.laneState n = L.OFF)
    (hu : s.laneUse n / 16 ≠ 0) :
    ∃ t, exec (.laneOffHoldExpiry n) s = .next t ∧ n.val ∉ t.lane.hold ∧
      t.laneState n = (if s.laneUse n / 16 = 4 ∧ s.quadOut (n / 4) = false then L.DP else L.SIGNAL) ∧
      ∀ m : Fin 32, m ≠ n → t.laneState m = s.laneState m := by
  obtain ⟨hhold, hstate⟩ := State.laneStart_starts { s with lane := { s.lane with hold := NSet.del s.lane.hold n } }
    (n := n) (by omega) hoff hu
  refine ⟨_, congrArg Host.Outcome.next (if_pos (by simpa using hh)), ?_, ?_, fun m hm => ?_⟩
  · rw [hhold, NSet.mem_del]
    exact fun h => h.2 rfl
  · exact (hstate n (by omega)).trans (if_pos rfl)
  · exact (hstate m (by omega)).trans (if_neg fun e => hm (Fin.ext e))

/-- A port lane in auto restarts at the next rate, unless it is OFF (R122). -/
def State.huntStep (s : State) (n : Nat) : State :=
  if s.laneRate n = 3 ∧ s.laneState n ≠ L.OFF then s.laneRestart n else s

theorem State.huntStep_keeps (s : State) (m : Nat) (hm : m < 65536) : (s.huntStep m).lane.hunt = s.lane.hunt ∧
    ∀ n, n < 65536 → (s.huntStep m).laneRate n = s.laneRate n ∧ (s.huntStep m).laneState n =
      if n = m ∧ s.laneRate n = 3 ∧ s.laneState n ≠ L.OFF then L.SIGNAL else s.laneState n := by
  unfold State.huntStep
  split
  · rename_i h
    refine ⟨(congrArg PartLane.hunt (State.laneGo_lane _ m L.SIGNAL)).trans rfl, fun n hn => ⟨?_, ?_⟩⟩
    · rw [State.laneRestart_eq, State.laneRate_laneGo _ _ hm hn, (s.readied_laneReset m).laneRate hn]
    · rw [State.laneState_laneRestart s hm hn]
      by_cases e : n = m
      · rw [if_pos e, if_pos ⟨e, e ▸ h⟩]
      · rw [if_neg e, if_neg fun c => e c.1]
  · rename_i h
    exact ⟨rfl, fun n _ => ⟨rfl, (if_neg fun ⟨e, c⟩ => h (e ▸ c)).symm⟩⟩

/-- The ports hunt at the next rate. -/
def State.huntNext (s : State) : State := { s with lane := { s.lane with hunt := (s.lane.hunt + 1) % 3, adopted := false } }

theorem execRateHuntTimer_hunts (s : State) (w e : Fin 32) (tie : Bool) (hh : s.isHead = false) (ha : s.lane.adopted = false)
    (hw : s.lane.portW = w) (he : s.lane.portE = e) :
    ∃ t, exec (.rateHuntTimer tie) s = .next t ∧ t.lane.hunt = (s.lane.hunt + 1) % 3 ∧
      ∀ n : Fin 32, t.laneState n =
        if (n = w ∨ n = e) ∧ s.laneRate n = 3 ∧ s.laneState n ≠ L.OFF then L.SIGNAL else s.laneState n := by
  have hexec : exec (.rateHuntTimer tie) s = .next ((s.huntNext.huntStep s.lane.portW).huntStep s.lane.portE) :=
    congrArg Host.Outcome.next (if_neg (by simp [hh, ha]))
  obtain ⟨hunt1, hstep1⟩ := State.huntStep_keeps s.huntNext w (by omega)
  obtain ⟨hunt2, hstep2⟩ := State.huntStep_keeps (s.huntNext.huntStep w) e (by omega)
  rw [hw, he] at hexec
  refine ⟨_, hexec, hunt2.trans hunt1, fun n => ?_⟩
  obtain ⟨hrate, hst⟩ := hstep1 n (by omega)
  have hrate0 : s.huntNext.laneRate n = s.laneRate n := rfl
  have hstate0 : s.huntNext.laneState n = s.laneState n := rfl
  have hwn : n.val = w.val ↔ n = w := Fin.ext_iff.symm
  have hen : n.val = e.val ↔ n = e := Fin.ext_iff.symm
  rw [(hstep2 n (by omega)).2, hrate, hst, hrate0, hstate0]
  simp only [hwn, hen]
  by_cases hgone : n = w ∧ s.laneRate n = 3 ∧ s.laneState n ≠ L.OFF
  · rw [if_pos hgone, ite_self, if_pos ⟨.inl hgone.1, hgone.2⟩]
  · rw [if_neg hgone]
    exact if_congr (by tauto) rfl rfl

end Sys2Proof.Machine
end

section
/-! The lanes of a quad whose PLL loses lock and locks again (R114; lanes of a receiver as log entry 8 reads it). -/

namespace Sys2Proof.Machine

/-! What a receiver that is no longer trained leaves alone (R136, R143) -/

theorem State.dpDamage_lane (s : State) (n : Nat) : (s.dpDamage n).lane = s.lane := by
  unfold State.dpDamage
  split
  · rfl
  · rw [State.raise_lane]

/-- The receiver has the state `st` and delivers nothing. -/
def DpRx.untrained (d : DpRx) (st : Nat) : DpRx := { d with train := st, delivered := false }

theorem State.dpUntrain_lane (s : State) (n st : Nat) : (s.dpUntrain n st).lane =
    { (s.updDp n fun d => d.untrained st).lane with scanLane := (s.dpUntrain n st).lane.scanLane } := by
  simp only [State.dpUntrain]
  split
  · rw [State.scanCheck_lane, State.dpDamage_lane]
    rfl
  · rfl

theorem State.dpUntrain_pllLost (s : State) (n st : Nat) : (s.dpUntrain n st).lane.pllLost = s.lane.pllLost :=
  (congrArg PartLane.pllLost (s.dpUntrain_lane n st)).trans rfl

theorem State.dpLinkLoss_pllLost (s : State) (n lane : Nat) : (s.dpLinkLoss n lane).lane.pllLost = s.lane.pllLost := by
  unfold State.dpLinkLoss
  split
  · rfl
  · dsimp only
    rw [State.dpUntrain_pllLost, State.raise_lane]
    rfl

/-! A quad leaves (R114) -/

theorem State.laneGo_pllLost (s : State) (n st : Nat) : (s.laneGo n st).lane.pllLost = s.lane.pllLost :=
  (congrArg PartLane.pllLost (s.laneGo_lane n st)).trans rfl

theorem State.quadLeaves_pllLost (s : State) (q : Nat) : (s.quadLeaves q).lane.pllLost = s.lane.pllLost := by
  rw [State.quadLeaves_eq]
  refine State.each_keeps (fun s => s.lane.pllLost) _ _ _ fun s i => ?_
  unfold State.laneLeaves
  split
  · rfl
  · split
    · rw [State.laneGo_pllLost, State.dpLinkLoss_pllLost]
    · exact s.laneGo_pllLost _ _

theorem State.par_quadLeaves_spared {ids evs : List Nat} {id idx : Nat} (h : spared ids evs id idx = true) (s : State) {q : Nat}
    (hq : q < 8) (hl : P.LANE_STATE ∈ ids) (hi : lanePars ⊆ ids) (he : laneEvents ⊆ evs) :
    (s.quadLeaves q).par id idx = s.par id idx := by
  have hlane (i : Nat) (hi4 : i < 4) (s : State) : (s.laneLeaves q i).par id idx = s.par id idx := by
    unfold State.laneLeaves
    split
    · rfl
    · split
      · rw [State.par_laneGo_spared h _ _ _ (by omega) hl hi he, State.par_dpLinkLoss_spared h _ _ _ (by omega) hi he]
      · exact State.par_laneGo_spared h _ _ _ (by omega) hl hi he
  rw [State.quadLeaves_eq]
  simp only [State.each, List.foldl_cons, List.foldl_nil]
  rw [hlane 3 (by decide), hlane 2 (by decide), hlane 1 (by decide), hlane 0 (by decide)]

/-- The quad's PLL has lost lock, which is told. -/
def State.pllOut (s : State) (q : Nat) : State :=
  State.raise { s with lane := { s.lane with pllLost := NSet.add s.lane.pllLost q } } E.QUAD_PLL_LOST q 0

theorem execQuadPllLockLoss_leaves (q : Fin 8) (s : State) (h : q.val ∉ s.lane.pllLost) :
    ∃ t, exec (.quadPllLockLoss q) s = .next t ∧ q.val ∈ t.lane.pllLost ∧ s.told t E.QUAD_PLL_LOST ∧
      ∀ n : Fin 32, t.laneState n = if n.val / 4 = q ∧ s.laneState n ≠ L.OFF then L.SIGNAL else s.laneState n := by
  have hlost : (s.pllOut q).lane.pllLost = NSet.add s.lane.pllLost q := congrArg PartLane.pllLost (State.raise_lane _ _ _ _ _)
  have htold : s.told (s.pllOut q) E.QUAD_PLL_LOST :=
    State.told_of_before (State.told_raise _ E.QUAD_PLL_LOST q 0 0 (by decide)) rfl
  refine ⟨(s.pllOut q).quadLeaves q, congrArg Host.Outcome.next (if_neg (by simpa using h)), ?_, ?_, fun n => ?_⟩
  · rw [State.quadLeaves_pllLost, hlost, NSet.mem_add]
    exact .inr rfl
  · exact State.told_of_after htold (State.par_quadLeaves_spared (ids := P.LANE_STATE :: lanePars) (evs := laneEvents) (by decide)
      _ q.isLt (by simp) (by simp) (by simp))
  · have hstate : (s.pllOut q).laneState n = s.laneState n :=
      State.par_raise _ _ _ _ _ (by decide) (show n.val < 65536 by omega) (by decide)
    rw [State.laneState_quadLeaves _ q.isLt n.isLt, hstate]

/-! A quad returns (R114) -/

theorem State.laneReturns_keeps (s : State) {q i n : Nat} (hq : q < 8) (hi : i < 4) (hn : n < 32) :
    (s.laneReturns q i).lane.pllLost = s.lane.pllLost ∧ (s.laneReturns q i).laneUse n = s.laneUse n := by
  unfold State.laneReturns
  split
  · exact ⟨rfl, rfl⟩
  · split
    · exact ⟨s.laneGo_pllLost _ _, s.laneUse_laneGo _ (by omega) (by omega)⟩
    · exact ⟨State.laneGo_pllLost _ _ _, State.laneUse_laneGo _ _ (by omega) (by omega)⟩

/-- The state a lane of a returning quad takes up (R114). -/
def State.returnState (s : State) (n : Nat) : Nat := if s.laneUse n / 16 = 4 then L.DP else L.CDR

theorem State.returnState_ne_signal (s : State) (n : Nat) : s.returnState n ≠ L.SIGNAL := by
  unfold State.returnState
  split <;> decide

theorem State.laneState_laneReturns (s : State) {q i n : Nat} (hq : q < 8) (hi : i < 4) (hn : n < 32) :
    (s.laneReturns q i).laneState n =
      if n = q * 4 + i ∧ s.laneState n = L.SIGNAL then s.returnState n else s.laneState n := by
  have hm : q * 4 + i < 65536 := by omega
  by_cases hsig : s.laneState (q * 4 + i) = L.SIGNAL
  · have hgo : (s.laneReturns q i).laneState n = if n = q * 4 + i then s.returnState (q * 4 + i) else s.laneState n := by
      unfold State.laneReturns State.returnState
      rw [if_neg (not_not_intro hsig)]
      split
      · exact s.laneState_laneGo L.DP hm (by omega)
      · exact State.laneState_laneGo _ L.CDR hm (by omega)
    rw [hgo]
    by_cases e : n = q * 4 + i
    · rw [if_pos e, if_pos ⟨e, e ▸ hsig⟩, e]
    · rw [if_neg e, if_neg fun c => e c.1]
  · rw [show s.laneReturns q i = s from if_pos hsig, if_neg]
    rintro ⟨rfl, h⟩
    exact hsig h

/-- The lanes of a quad that wait in SIGNAL take up their work, and no other lane moves (R114). -/
theorem State.laneState_quadReturns (s : State) {q n : Nat} (hq : q < 8) (hn : n < 32) :
    (s.quadReturns q).laneState n = if n / 4 = q ∧ s.laneState n = L.SIGNAL then s.returnState n else s.laneState n := by
  have hloop (l : List Nat) (hl : ∀ i ∈ l, i < 4) (s : State) : (s.each l fun s i => s.laneReturns q i).laneState n =
      if (∃ i ∈ l, n = q * 4 + i) ∧ s.laneState n = L.SIGNAL then s.returnState n else s.laneState n := by
    induction l generalizing s with
    | nil => simp [State.each]
    | cons i l ih =>
      have hi := hl i (by simp)
      have hret : (s.laneReturns q i).returnState n = s.returnState n := by
        unfold State.returnState
        rw [(s.laneReturns_keeps hq hi hn).2]
      change ((s.laneReturns q i).each l fun s i => s.laneReturns q i).laneState n = _
      rw [ih (fun j hj => hl j (by simp [hj])), s.laneState_laneReturns hq hi hn, hret]
      by_cases hgone : n = q * 4 + i ∧ s.laneState n = L.SIGNAL
      · rw [if_pos hgone, if_neg fun c => s.returnState_ne_signal n c.2, if_pos ⟨⟨i, by simp, hgone.1⟩, hgone.2⟩]
      · rw [if_neg hgone]
        simp only [List.mem_cons, exists_eq_or_imp]
        exact if_congr (by tauto) rfl rfl
  have hquad : (∃ i ∈ [0, 1, 2, 3], n = q * 4 + i) ↔ n / 4 = q := by
    simp only [List.mem_cons, List.not_mem_nil, or_false, exists_eq_or_imp, exists_eq_left]
    omega
  rw [State.quadReturns_eq, hloop _ (by decide)]
  simp only [hquad]

theorem State.quadReturns_pllLost (s : State) {q : Nat} (hq : q < 8) : (s.quadReturns q).lane.pllLost = s.lane.pllLost := by
  have hlane (i : Nat) (hi : i < 4) (s : State) : (s.laneReturns q i).lane.pllLost = s.lane.pllLost :=
    (s.laneReturns_keeps hq hi (n := 0) (by decide)).1
  rw [State.quadReturns_eq]
  simp only [State.each, List.foldl_cons, List.foldl_nil]
  rw [hlane 3 (by decide), hlane 2 (by decide), hlane 1 (by decide), hlane 0 (by decide)]

/-- The quad's PLL has lock. -/
def State.pllBack (s : State) (q : Nat) : State := { s with lane := { s.lane with pllLost := NSet.del s.lane.pllLost q } }

theorem execQuadPllRelock_returns (q : Fin 8) (s : State) (h : q.val ∈ s.lane.pllLost) :
    ∃ t, exec (.quadPllRelock q) s = .next t ∧ q.val ∉ t.lane.pllLost ∧
      ∀ n : Fin 32, t.laneState n = if s.clusterOut .front q = false ∧ n.val / 4 = q ∧ s.laneState n = L.SIGNAL then
        (if s.laneUse n / 16 = 4 then L.DP else L.CDR) else s.laneState n := by
  have hback : q.val ∉ (s.pllBack q).lane.pllLost := fun hm => ((NSet.mem_del _ _ _).mp hm).2 rfl
  have hexec : exec (.quadPllRelock q) s =
      .next (if s.clusterOut .front q = true then s.pllBack q else (s.pllBack q).quadReturns q) :=
    congrArg Host.Outcome.next (if_neg (by simpa using h))
  refine ⟨_, hexec, ?_⟩
  by_cases hout : s.clusterOut .front q = true
  · rw [if_pos hout]
    exact ⟨hback, fun n => (if_neg fun c => by simp [hout] at c).symm⟩
  · have hin : s.clusterOut .front q = false := by simpa using hout
    rw [if_neg hout, State.quadReturns_pllLost _ q.isLt]
    refine ⟨hback, fun n => (State.laneState_quadReturns _ q.isLt n.isLt).trans ?_⟩
    simp only [hin, true_and]
    rfl

/-- Settles O18, by the moves of R118 to R122 and R132 lane by lane and of R114 quad by quad. -/
theorem laneBringUp : Obligations.LaneBringUp := by
  unfold Obligations.LaneBringUp
  refine ⟨fun n s => ⟨execLaneSignalDetect_moves n s, fun h => ⟨execCdrLock_moves n s h, fun tie => execCdrTimeout_moves n tie s h⟩,
    fun inv => execLaneAlign_aligns n inv s, fun ctle taps => execLaneAdaptComplete_up n ctle taps s,
    fun tie => execLaneBringupTimer_restarts n tie s, execCommaTimeout_losesSync n s, execLaneOffHoldExpiry_starts n s⟩,
    fun q s => ⟨execQuadPllLockLoss_leaves q s, execQuadPllRelock_returns q s⟩, execRateHuntTimer_hunts⟩

end Sys2Proof.Machine
end

section
/-! The upkeep of a lane: SKIPs, slips, adaptation, eye measurements and scans (R117, R123, R125 to R127). -/

namespace Sys2Proof.Machine

/-! SKIP (R117) -/

/-- A lane has sent its SKIP. -/
def State.skipSent (s : State) (n : Nat) : State :=
  (s.updLane n fun l => { l with skipAt := s.quarterNow }).send (.symbol n Sym.SKIP)

theorem State.skipAt_skipSent (s : State) (n : Nat) : ((s.skipSent n).laneOf n).skipAt = s.quarterNow :=
  congrArg Lane.skipAt (s.laneOf_updLane_same n _)

theorem execSkipInsert_sends (n : Fin 32) (s : State) (hoff : s.laneState n ≠ L.OFF) (hdp : s.laneState n ≠ L.DP)
    (hraw : s.laneState n ≠ L.RAW) (hu : s.laneUse n / 16 ≠ 4) (hd : s.skipDue n = true) :
    ∃ t, exec (.skipInsert n) s = .next t ∧ (t.laneOf n).skipAt = s.quarterNow ∧
      t = { s with lane := t.lane, outbox := .symbol n Sym.SKIP :: s.outbox, scan := t.scan } := by
  have hgo : ¬ (s.laneState n = L.OFF ∨ s.laneState n = L.DP ∨ s.laneState n = L.RAW ∨ s.laneUse n / 16 = 4 ∨
      s.skipDue n = false) := by simp [hoff, hdp, hraw, hu, hd]
  have hexec : exec (.skipInsert n) s = .next (match (s.skipSent n).laneChain n with
      | some c => if s.isHead && (SMap.get {} s.scan.streamers c).active then (s.skipSent n).addSigma c 1 else s.skipSent n
      | none => s.skipSent n) := congrArg Host.Outcome.next (if_neg hgo)
  refine ⟨_, hexec, ?_⟩
  split
  · split
    · exact ⟨s.skipAt_skipSent n, rfl⟩
    · exact ⟨s.skipAt_skipSent n, rfl⟩
  · exact ⟨s.skipAt_skipSent n, rfl⟩

/-! Slips (R117) -/

theorem State.poisonSymbol_eq (s : State) (n : Nat) : s.poisonSymbol n = { s with outbox := (s.poisonSymbol n).outbox } := by
  unfold State.poisonSymbol
  split <;> rfl

theorem State.par_poisonSymbol (s : State) (n id idx : Nat) : (s.poisonSymbol n).par id idx = s.par id idx := by
  rw [State.poisonSymbol_eq]
  rfl

/-- A slip is counted and told, and leaves the buffer full or dry. -/
def State.slipNoted (s : State) (n : Nat) (ov : Bool) : State :=
  ((s.bump P.SLIPS n).raise E.ELASTIC_SLIP n).updLane n fun l => { l with fill := if ov then 16 else 0 }

theorem State.samePars_slipNoted (s : State) {n : Nat} (hn : n < 65536) (ov : Bool) :
    s.samePars (s.slipNoted n ov) [P.SLIPS, P.EVENT_COUNT] :=
  State.samePars_trans (t := s.bump P.SLIPS n) (fun _ _ hid hidx => s.par_bump_other (fun h => hid (by simp [h])) hn hidx)
    (State.samePars_raise (s.bump P.SLIPS n) (e := E.ELASTIC_SLIP) n 0 0 (by decide) (by simp))

theorem execElasticBufferSlip_slips (n : Fin 32) (ov : Bool) (s : State) (h : s.decoding n = true) :
    ∃ t, exec (.elasticBufferSlip n ov) s = .next t ∧ t.par P.SLIPS n = (s.par P.SLIPS n + 1) % 2 ^ 32 ∧
      s.told t E.ELASTIC_SLIP ∧ t.laneState n = s.laneState n ∧ s.samePars t [P.SLIPS, P.EVENT_COUNT] := by
  have hn : n.val < 65536 := by omega
  have hexec : exec (.elasticBufferSlip n ov) s = .next (if ov then s.slipNoted n ov else (s.slipNoted n ov).poisonSymbol n) :=
    congrArg Host.Outcome.next (if_neg (by simp [h]))
  have hpar (id idx : Nat) : State.par (if ov then s.slipNoted n ov else (s.slipNoted n ov).poisonSymbol n) id idx =
      (s.slipNoted n ov).par id idx := by
    split
    · rfl
    · exact State.par_poisonSymbol _ _ _ _
  have hsame := s.samePars_slipNoted hn ov
  refine ⟨_, hexec, ?_, ?_, ?_, fun id idx hid hx => (hpar id idx).trans (hsame id idx hid hx)⟩
  · rw [hpar]
    exact (State.par_raise (s.bump P.SLIPS n) E.ELASTIC_SLIP n 0 0 (by decide) hn (by decide)).trans (s.par_bump _ _ _)
  · refine State.told_of_after ?_ (hpar _ _)
    exact State.told_of_before (State.told_raise (s.bump P.SLIPS n) E.ELASTIC_SLIP n 0 0 (by decide))
      (s.par_bump_other (by decide) hn (by decide))
  · exact (hpar _ _).trans (hsame _ _ (by decide) hn)

/-! Adaptation (R123, R125) -/

/-- The alarm of one tap (R123). -/
def State.tapAlarm (s : State) (n k : Nat) : State :=
  let v := signed 8 (s.blobByte P.EQ_STATE n (k + 1))
  let l := s.laneOf n
  if v = tapLimit k ∨ v = -(tapLimit k) then
    match SMap.get 0 l.limitSince k with
    | 0 => s.updLane n fun l => { l with limitSince := SMap.set 0 l.limitSince k (s.now + 1) }
    | t + 1 =>
      if t + sec ≤ s.now ∧ ¬ l.limitTold.contains k then
        (s.raise E.ADAPT_AT_LIMIT n (k + 1)).updLane n fun l => { l with limitTold := NSet.add l.limitTold k }
      else s
  else s.updLane n fun l => { l with limitSince := SMap.set 0 l.limitSince k 0, limitTold := NSet.del l.limitTold k }

theorem State.tapAlarms_eq (s : State) (n : Nat) : s.tapAlarms n = s.each (List.range 5) fun s k => s.tapAlarm n k := rfl

theorem State.tapAlarm_keeps (s : State) (n k : Nat) :
    (s.tapAlarm n k).blobs = s.blobs ∧ s.samePars (s.tapAlarm n k) [P.EVENT_COUNT] := by
  unfold State.tapAlarm
  dsimp only
  split
  · split
    · exact ⟨rfl, fun _ _ _ _ => rfl⟩
    · split
      · exact ⟨State.raise_blobs _ _ _ _ _, s.samePars_raise (e := E.ADAPT_AT_LIMIT) n (k + 1) 0 (by decide) (by simp)⟩
      · exact ⟨rfl, fun _ _ _ _ => rfl⟩
  · exact ⟨rfl, fun _ _ _ _ => rfl⟩

/-- The alarms of the taps tell and note, and move no tap (R123). -/
theorem State.tapAlarms_keeps (s : State) (n : Nat) :
    (s.tapAlarms n).blobs = s.blobs ∧ s.samePars (s.tapAlarms n) [P.EVENT_COUNT] := by
  rw [State.tapAlarms_eq]
  refine State.each_inv (fun t => t.blobs = s.blobs ∧ s.samePars t [P.EVENT_COUNT]) s _ _ ⟨rfl, fun _ _ _ _ => rfl⟩ ?_
  rintro t k ⟨hblobs, hpars⟩
  obtain ⟨hb, hp⟩ := t.tapAlarm_keeps n k
  exact ⟨hb.trans hblobs, State.samePars_trans hpars hp⟩

/-- The taps one sign-sign step on. -/
def State.steppedTaps (s : State) (n : Nat) (dt : List Int) : List Int :=
  (List.range 5).map fun k => signed 8 (s.blobByte P.EQ_STATE n (k + 1)) + (dt.getD k 0).sign

theorem State.getD_steppedTaps (s : State) (n : Nat) (dt : List Int) {k : Nat} (hk : k < 5) :
    (s.steppedTaps n dt).getD k 0 = signed 8 (s.blobByte P.EQ_STATE n (k + 1)) + (dt.getD k 0).sign := by
  unfold State.steppedTaps
  rw [List.getD_eq_getElem _ _ (by simpa using hk), List.getElem_map, List.getElem_range]

theorem execAdaptUpdate_steps (n : Fin 32) (dc : Int) (dt : List Int) (s : State)
    (hst : s.laneState n = L.UP ∨ s.laneState n = L.ADAPT ∨ s.laneState n = L.DP)
    (hfree : s.laneState n = L.UP → s.adaptMode n ≠ 1) (htrim : s.lane.trimAt ≠ s.now + 1) :
    ∃ t, exec (.adaptUpdate n dc dt false) s = .next t ∧
      t.blobByte P.EQ_STATE n 0 = unsigned 8 (clampI 0 15 (s.blobByte P.EQ_STATE n 0 + dc.sign)) ∧
      (∀ k, k < 5 → t.blobByte P.EQ_STATE n (k + 1) = unsigned 8 (clampI (-(tapLimit k)) (tapLimit k)
        (signed 8 (s.blobByte P.EQ_STATE n (k + 1)) + (dt.getD k 0).sign))) ∧ s.samePars t [P.EVENT_COUNT] := by
  have hgo : ¬ (false = true ∨ s.lane.trimAt = s.now + 1 ∨ ¬ (s.laneState n = L.ADAPT ∨ s.laneState n = L.UP ∨ s.laneState n = L.DP)) := by
    tauto
  have hmoves : ¬ (s.laneState n = L.UP ∧ s.adaptMode n = 1) := fun h => hfree h.1 h.2
  have hexec : exec (.adaptUpdate n dc dt false) s =
      .next ((s.setEq n (s.blobByte P.EQ_STATE n 0 + dc.sign) (s.steppedTaps n dt)).tapAlarms n) :=
    congrArg Host.Outcome.next ((if_neg hgo).trans (if_neg hmoves))
  obtain ⟨hblobs, hpars⟩ := (s.setEq n (s.blobByte P.EQ_STATE n 0 + dc.sign) (s.steppedTaps n dt)).tapAlarms_keeps n
  refine ⟨_, hexec, ?_, fun k hk => ?_, fun id idx hid hx => (hpars id idx hid hx).trans ?_⟩
  · rw [State.blobByte_congr hblobs, State.ctle_setEq]
  · rw [State.blobByte_congr hblobs, State.tap_setEq _ _ _ _ hk, State.getD_steppedTaps _ _ _ hk]
  · rw [State.setEq, State.setBlob_eq]
    rfl

/-- A step that meets a trim tap is skipped (R125). -/
theorem execAdaptUpdate_skipped (n : Fin 32) (dc : Int) (dt : List Int) (tap : Bool) (s : State)
    (h : tap = true ∨ s.lane.trimAt = s.now + 1) : exec (.adaptUpdate n dc dt tap) s = .next s :=
  congrArg Host.Outcome.next (if_pos (by tauto))

theorem execAdaptUpdate_frozen (n : Fin 32) (dc : Int) (dt : List Int) (tap : Bool) (s : State) (hup : s.laneState n = L.UP)
    (hm : s.adaptMode n = 1) :
    ∃ t, exec (.adaptUpdate n dc dt tap) s = .next t ∧ t.blobs = s.blobs ∧ s.samePars t [P.EVENT_COUNT] := by
  by_cases htap : tap = true ∨ s.lane.trimAt = s.now + 1
  · exact ⟨s, execAdaptUpdate_skipped n dc dt tap s htap, rfl, fun _ _ _ _ => rfl⟩
  · have hgo : ¬ (tap = true ∨ s.lane.trimAt = s.now + 1 ∨
        ¬ (s.laneState n = L.ADAPT ∨ s.laneState n = L.UP ∨ s.laneState n = L.DP)) := by tauto
    exact ⟨_, congrArg Host.Outcome.next ((if_neg hgo).trans (if_pos ⟨hup, hm⟩)), s.tapAlarms_keeps n⟩

/-! Eye measurements (R126) -/

/-- A measured eye is below the minimum in force. -/
def State.eyeLow (s : State) (h w : Nat) : Bool :=
  decide (h < field (s.par P.EYE_MARGIN_MIN) 8 8) || decide (w < field (s.par P.EYE_MARGIN_MIN) 0 8)

/-- A measured eye stands in EYE_MARGIN, and its fall below the minimum is told. -/
def State.eyeTold (s : State) (n h w : Nat) : State :=
  (s.setPar P.EYE_MARGIN n (h * 256 + w)).raiseIf (s.eyeLow h w && !(s.laneOf n).marginLow) E.EYE_MARGIN_LOW n

theorem execEyeMarginMeasure_eq (n : Fin 32) (h : Fin 65) (w : Fin 129) (s : State) (ho : s.eyeOpen n = true)
    (hs : s.lane.scanLane ≠ some n.val) : exec (.eyeMarginMeasure n h w) s =
      .next ((s.eyeTold n h w).updLane n fun l => { l with marginLow := s.eyeLow h w }) := by
  have hmin : (s.setPar P.EYE_MARGIN n (h.val * 256 + w.val)).par P.EYE_MARGIN_MIN = s.par P.EYE_MARGIN_MIN :=
    s.par_setPar_other _ (by decide) (show n.val < 65536 by omega) (by decide)
  refine (congrArg Host.Outcome.next (if_neg (by simp [ho, hs]))).trans ?_
  unfold State.eyeTold State.eyeLow
  rw [← hmin]
  rfl

theorem execEyeMarginMeasure_measures (n : Fin 32) (h : Fin 65) (w : Fin 129) (s : State) (ho : s.eyeOpen n = true)
    (hs : s.lane.scanLane ≠ some n.val) :
    ∃ t, exec (.eyeMarginMeasure n h w) s = .next t ∧ t.par P.EYE_MARGIN n = h.val * 2 ^ 8 + w.val ∧
      ((t.laneOf n).marginLow = true ↔
        h.val < field (s.par P.EYE_MARGIN_MIN) 8 8 ∨ w.val < field (s.par P.EYE_MARGIN_MIN) 0 8) ∧
      ((t.laneOf n).marginLow = true → (s.laneOf n).marginLow = false → s.told t E.EYE_MARGIN_LOW) ∧
      ((s.laneOf n).marginLow = true → t.par P.EVENT_COUNT E.EYE_MARGIN_LOW = s.par P.EVENT_COUNT E.EYE_MARGIN_LOW) := by
  have hn : n.val < 65536 := by omega
  have hcount : (s.setPar P.EYE_MARGIN n (h.val * 256 + w.val)).par P.EVENT_COUNT E.EYE_MARGIN_LOW =
      s.par P.EVENT_COUNT E.EYE_MARGIN_LOW := s.par_setPar_other _ (by decide) hn (by decide)
  have hmark : (((s.eyeTold n h w).updLane n fun l => { l with marginLow := s.eyeLow h w }).laneOf n).marginLow = s.eyeLow h w :=
    congrArg Lane.marginLow (State.laneOf_updLane_same _ n _)
  refine ⟨_, execEyeMarginMeasure_eq n h w s ho hs, ?_, ?_, fun hlow hwas => ?_, fun hwas => ?_⟩
  · exact (State.par_raiseIf _ _ E.EYE_MARGIN_LOW n 0 (by decide) hn (by decide)).trans (s.par_setPar _ _ _)
  · rw [hmark]
    simp [State.eyeLow]
  · rw [hmark] at hlow
    have hraise : (s.eyeLow h w && !(s.laneOf n).marginLow) = true := by simp [hlow, hwas]
    have htold := (State.told_raise (s.setPar P.EYE_MARGIN n (h.val * 256 + w.val)) E.EYE_MARGIN_LOW n 0 0 (by decide))
    unfold State.eyeTold
    rw [hraise]
    exact State.told_of_before htold hcount
  · have hquiet : (s.eyeLow h w && !(s.laneOf n).marginLow) = false := by simp [hwas]
    unfold State.eyeTold
    rw [hquiet]
    exact hcount

/-! Full scans (R127, R452) -/

/-- Bytes written read back as one. -/
theorem State.blob_setBlob (s : State) (id idx off : Nat) (bs : List Byte) :
    (s.setBlob id idx off bs).blob id idx off bs.length = bs := by
  refine List.ext_getElem (by simp [State.blob]) fun i hi hi' => ?_
  simp [State.blob, State.blobByte_setBlob s id idx off bs i hi']

theorem State.bgPauseStart_eq (s : State) (op : Nat) : s.bgPauseStart op = { s with therm := (s.bgPauseStart op).therm } := by
  unfold State.bgPauseStart
  split <;> rfl

/-- The next point of a scan of lane `n` is stored. -/
def State.pointKept (s : State) (n count : Nat) : State :=
  let s' := s.setBlob P.EYE_MAP 0 (2 * s.lane.scanPoints) (leBytes 2 (min count 0xFFFF))
  ({ s' with lane := { s'.lane with scanPoints := s.lane.scanPoints + 1 } }).setPar P.EYE_SCAN_STATUS 0
    ((s.lane.scanPoints + 1) * 65536 + n * 256 + 1)

/-- The next point has been measured: at throttle-1 and above the scan pauses (R452). -/
def State.pointDone (s : State) (n count : Nat) : State := (s.pointKept n count).bgPauseStart Bg.EYE_SCAN

theorem State.pointDone_lane (s : State) (n count : Nat) :
    (s.pointDone n count).lane = { s.lane with scanPoints := s.lane.scanPoints + 1 } := by
  rw [State.pointDone, State.bgPauseStart_eq, State.pointKept, State.setBlob_eq]
  rfl

theorem State.par_pointDone (s : State) (n count id idx : Nat) : (s.pointDone n count).par id idx =
    (s.setPar P.EYE_SCAN_STATUS 0 ((s.lane.scanPoints + 1) * 65536 + n * 256 + 1)).par id idx := by
  rw [State.pointDone, State.bgPauseStart_eq, State.pointKept, State.setBlob_eq]
  rfl

theorem State.blob_pointDone (s : State) (n count : Nat) :
    (s.pointDone n count).blob P.EYE_MAP 0 (2 * s.lane.scanPoints) 2 = leBytes 2 (min count 0xFFFF) := by
  have hblobs : (s.pointDone n count).blobs =
      (s.setBlob P.EYE_MAP 0 (2 * s.lane.scanPoints) (leBytes 2 (min count 0xFFFF))).blobs := by
    rw [State.pointDone, State.bgPauseStart_eq]
    rfl
  exact (State.blob_congr hblobs _ _ _ _).trans (State.blob_setBlob s P.EYE_MAP 0 _ (leBytes 2 (min count 0xFFFF)))

/-- A running scan ends: told, with its points and how it ended in EYE_SCAN_STATUS (R127). -/
theorem State.scanEnd_running (s : State) {n : Nat} (st : Nat) (hl : s.lane.scanLane = some n) :
    (s.scanEnd st).lane.scanLane = none ∧ s.told (s.scanEnd st) E.EYE_SCAN_DONE ∧
      (s.scanEnd st).par P.EYE_SCAN_STATUS = s.lane.scanPoints * 65536 + n * 256 + st := by
  unfold State.scanEnd
  rw [hl]
  dsimp only
  rw [State.raise_lane, State.par_raise _ _ _ _ _ (by decide) (by decide) (by decide)]
  refine ⟨rfl, State.told_of_before (State.told_raise _ E.EYE_SCAN_DONE n st 0 (by decide)) ?_, s.par_setPar _ _ _⟩
  exact s.par_setPar_other (idx := 0) _ (by decide) (by decide) (by decide)

theorem execEyeScanPoint_eq (s : State) {n : Nat} (count : Nat) (hl : s.lane.scanLane = some n)
    (hp : s.bgPaused Bg.EYE_SCAN = false) : exec (.eyeScanPoint count) s =
      .next (if s.lane.scanPoints + 1 = 8192 then (s.pointDone n count).scanEnd 2 else s.pointDone n count) := by
  show execEyeScanPoint count s = _
  unfold execEyeScanPoint
  rw [hl]
  dsimp only
  rw [if_neg (by simp [hp])]
  rfl

theorem execEyeScanPoint_stores (n : Fin 32) (count : Nat) (s : State) (hl : s.lane.scanLane = some n.val)
    (hp : s.bgPaused Bg.EYE_SCAN = false) :
    ∃ t, exec (.eyeScanPoint count) s = .next t ∧
      t.blob P.EYE_MAP 0 (2 * s.lane.scanPoints) 2 = leBytes 2 (min count 0xFFFF) ∧
      t.lane.scanPoints = s.lane.scanPoints + 1 ∧
      (s.lane.scanPoints + 1 ≠ 8192 → t.lane.scanLane = some n.val ∧
        t.par P.EYE_SCAN_STATUS = (s.lane.scanPoints + 1) * 2 ^ 16 + n * 2 ^ 8 + 1) ∧
      (s.lane.scanPoints + 1 = 8192 → t.lane.scanLane = none ∧ s.told t E.EYE_SCAN_DONE ∧
        t.par P.EYE_SCAN_STATUS = 8192 * 2 ^ 16 + n * 2 ^ 8 + 2) := by
  have hblob := s.blob_pointDone n count
  have hpoints : (s.pointDone n count).lane.scanPoints = s.lane.scanPoints + 1 := by rw [s.pointDone_lane n count]
  have hlane : (s.pointDone n count).lane.scanLane = some n.val := by rw [s.pointDone_lane n count, hl]
  refine ⟨_, execEyeScanPoint_eq s count hl hp, ?_⟩
  by_cases hlast : s.lane.scanPoints + 1 = 8192
  · rw [if_pos hlast]
    obtain ⟨hnone, htold, hstatus⟩ := (s.pointDone n count).scanEnd_running 2 hlane
    refine ⟨(State.blob_congr (State.scanEnd_blobs _ 2) _ _ _ _).trans hblob, ?_, fun h => absurd hlast h, fun _ => ⟨hnone, ?_, ?_⟩⟩
    · rw [State.scanEnd_lane]
      exact hpoints
    · refine State.told_of_before htold ((s.par_pointDone _ _ _ _).trans ?_)
      exact s.par_setPar_other (idx := 0) _ (by decide) (by decide) (by decide)
    · rw [hstatus, hpoints, hlast]
      norm_num
  · rw [if_neg hlast]
    exact ⟨hblob, hpoints, fun _ => ⟨hlane, (s.par_pointDone _ _ _ _).trans (s.par_setPar _ _ _)⟩, fun h => absurd h hlast⟩

end Sys2Proof.Machine
end

section
/-! The test patterns of a lane: generators and checkers (R128 to R130). -/

namespace Sys2Proof.Machine

/-! Generators (R128) -/

theorem patOctets_length (code k w : Nat) : (patOctets code k w).1.length = k := by
  induction k generalizing w with
  | zero => rfl
  | succ k ih => exact congrArg (· + 1) (ih _)

/-- The octets a lane's generator sends next, and its history after them. -/
def State.genOctets (s : State) (n : Nat) : List Byte × Nat :=
  patOctets (s.par P.PRBS_GEN n % 8) 256 (s.laneOf n).gen.window

theorem execTestBlockSend_inBand (n : Fin 32) (s : State) (hg : s.par P.PRBS_GEN n % 8 ≠ 0)
    (hb : bit (s.par P.PRBS_GEN n) 3 = true) (hup : s.laneUp n = true) :
    ∃ t data, exec (.testBlockSend n) s = .next t ∧ data.length = 256 ∧
      t.outbox = .testBlock n ((s.laneOf n).gen.seq % 256) data :: s.outbox ∧
      (t.laneOf n).gen.seq = ((s.laneOf n).gen.seq % 256 + 1) % 256 ∧ t.dict = s.dict := by
  have hexec : exec (.testBlockSend n) s = .next ((s.updLane n fun l => { l with gen :=
      { (s.laneOf n).gen with window := (s.genOctets n).2, seq := ((s.laneOf n).gen.seq % 256 + 1) % 256 } }).send
      (.testBlock n ((s.laneOf n).gen.seq % 256) (s.genOctets n).1)) :=
    congrArg Host.Outcome.next ((if_neg hg).trans ((if_neg (by simp [hb])).trans (if_neg (not_not_intro hup))))
  exact ⟨_, (s.genOctets n).1, hexec, patOctets_length _ _ _, rfl,
    congrArg (fun l : Lane => l.gen.seq) (s.laneOf_updLane_same n _), rfl⟩

theorem execTestBlockSend_raw (n : Fin 32) (s : State) (hg : s.par P.PRBS_GEN n % 8 ≠ 0)
    (hb : bit (s.par P.PRBS_GEN n) 3 = false) (hraw : s.laneState n = L.RAW) :
    ∃ t data, exec (.testBlockSend n) s = .next t ∧ data.length = 256 ∧ t.outbox = .rawSpan n data :: s.outbox ∧
      t.dict = s.dict :=
  ⟨_, (s.genOctets n).1, congrArg Host.Outcome.next ((if_neg hg).trans ((if_pos hb).trans (if_pos hraw))),
    patOctets_length _ _ _, rfl, rfl⟩

/-! Checkers (R130) -/

/-- A locked checker compares the bit and stays locked, without locking anew. -/
theorem checkBit_locked (code user : Nat) (r : CheckRun) (b : Nat) (h : r.locked = true) :
    (checkBit code user r b).locked = true ∧ (checkBit code user r b).lockedNow = r.lockedNow ∧
      (checkBit code user r b).compared = r.compared + 1 ∧ (checkBit code user r b).wrong ≤ r.wrong + 1 := by
  have hbit : checkBit code user r b = { r with
      pat := { r.pat with window := patShift r.pat.window (patNext code r.pat.window) }
      compared := r.compared + 1, wrong := r.wrong + (if patNext code r.pat.window = b then 0 else 1) } := if_pos h
  rw [hbit]
  refine ⟨h, rfl, rfl, ?_⟩
  dsimp only
  split <;> omega

/-- A locked checker compares every bit it gets. -/
theorem foldl_checkBit_locked (code user : Nat) (bits : List Nat) (r : CheckRun) (h : r.locked = true) :
    let r' := bits.foldl (checkBit code user) r
    r'.locked = true ∧ r'.lockedNow = r.lockedNow ∧ r'.compared = r.compared + bits.length ∧ r'.wrong ≤ r.wrong + bits.length := by
  induction bits generalizing r with
  | nil => exact ⟨h, rfl, rfl, le_refl _⟩
  | cons b bits ih =>
    obtain ⟨hl, hn, hc, hw⟩ := checkBit_locked code user r b h
    obtain ⟨hl', hn', hc', hw'⟩ := ih _ hl
    refine ⟨hl', hn'.trans hn, ?_, ?_⟩ <;> rw [List.length_cons]
    · exact hc'.trans (by omega)
    · exact hw'.trans (by omega)

theorem length_octetBits (data : List Byte) : (data.flatMap octetBits).length = 8 * data.length := by
  induction data with
  | nil => rfl
  | cons b data ih =>
    rw [List.flatMap_cons, List.length_append, ih, List.length_cons]
    simp only [octetBits, List.length_map, List.length_range]
    omega

theorem State.passTestBlock_eq (s : State) (n : Nat) (sq : Option Byte) (data : List Byte) :
    s.passTestBlock n sq data = { s with outbox := (s.passTestBlock n sq data).outbox } := by
  unfold State.passTestBlock
  split <;> rfl

/-- The bits and errors that a checker has seen are counted (R130). -/
def State.bitsCounted (s : State) (n : Nat) (r : CheckRun) : State :=
  let s := s.setPar P.PRBS_BITS n ((s.par P.PRBS_BITS n + r.compared) % 2 ^ 64)
  s.setPar P.PRBS_ERRORS n (min (s.par P.PRBS_ERRORS n + r.wrong) 0xFFFFFFFF)

/-- A block is counted, and the checker's lock taken, kept or lost, and told (R130). -/
def State.blockChecked (s : State) (n : Nat) (r : CheckRun) : State :=
  let drop := r.wrong > 64
  let s := (s.bitsCounted n r).setPar P.PRBS_LOCK n (b2n (r.locked && !drop))
  let s := s.updLane n fun l => { l with chk := if drop then { r.pat with run := 0, filled := 0 } else r.pat }
  let s := s.raiseIf r.lockedNow E.PRBS_LOCKED n
  s.raiseIf drop E.PRBS_LOCK_LOST n

section
variable {n : Nat} (hn : n < 65536) (s : State) (r : CheckRun)
include hn

theorem State.bitsCounted_pars :
    (s.bitsCounted n r).par P.PRBS_BITS n = (s.par P.PRBS_BITS n + r.compared) % 2 ^ 64 ∧
      (s.bitsCounted n r).par P.PRBS_ERRORS n = min (s.par P.PRBS_ERRORS n + r.wrong) 0xFFFFFFFF ∧
      (s.bitsCounted n r).laneState n = s.laneState n := by
  have hother (u : State) {id id' : Nat} (v : Nat) (h : id' ≠ id) : (u.setPar id n v).par id' n = u.par id' n :=
    u.par_setPar_other v h hn hn
  unfold State.bitsCounted
  refine ⟨?_, ?_, ?_⟩
  · rw [hother _ _ (by decide), State.par_setPar]
  · rw [State.par_setPar, hother _ _ (by decide)]
  · exact (hother _ _ (by decide)).trans (hother _ _ (by decide))

theorem State.par_blockChecked {id : Nat} (he : id ≠ P.EVENT_COUNT) (hl : id ≠ P.PRBS_LOCK) :
    (s.blockChecked n r).par id n = (s.bitsCounted n r).par id n := by
  unfold State.blockChecked
  dsimp only
  rw [State.par_raiseIf _ _ _ _ _ he hn (by decide), State.par_raiseIf _ _ _ _ _ he hn (by decide)]
  exact (s.bitsCounted n r).par_setPar_other _ hl hn hn

end

/-- An in-band block that follows the last one is compared by the locked checker of an UP lane. -/
theorem execTestBlockReceive_eq (n : Fin 32) (s : State) (sq : Byte) (data : List Byte)
    (hc : s.par P.PRBS_CHK n % 8 ≠ 0) (hb : bit (s.par P.PRBS_CHK n) 3 = true) (hup : s.laneUp n = true)
    (hlock : s.par P.PRBS_LOCK n = 1) (hsq : sq.toNat = ((s.laneOf n).chk.seq + 1) % 256) :
    exec (.testBlockReceive n (some sq) data) s = .next ((s.passTestBlock n (some sq) data).blockChecked n
      ((data.flatMap octetBits).foldl (checkBit (s.par P.PRBS_CHK n % 8) (s.par P.PRBS_USER))
        { pat := { (s.laneOf n).chk with seq := sq.toNat }, locked := true, compared := 0, wrong := 0, lockedNow := false })) := by
  have hgap : ((s.laneOf n).chk.seq != 256 && sq.toNat != ((s.laneOf n).chk.seq + 1) % 256) = false := by simp [hsq]
  have hlocked : (s.par P.PRBS_LOCK n == 1 && !false) = true := by simp [hlock]
  have hpass := s.passTestBlock_eq n (some sq) data
  show execTestBlockReceive n (some sq) data s = _
  unfold execTestBlockReceive
  generalize s.passTestBlock n (some sq) data = u at hpass ⊢
  have hpar (id idx : Nat) : u.par id idx = s.par id idx := by
    rw [hpass]
    rfl
  have hlane : u.laneOf n = s.laneOf n := by
    rw [hpass]
    rfl
  have hopen : ¬ (s.par P.PRBS_CHK n % 8 = 0 ∨ ¬ (u.laneUp n && (some sq).isSome) = true) := by
    have hlaneUp : u.laneUp n = s.laneUp n := congrArg (· == L.UP) (hpar _ _)
    simp [hc, hlaneUp, hup]
  dsimp only
  rw [hpar P.PRBS_CHK, if_pos hb, if_neg hopen, hlane, hpar P.PRBS_LOCK, hpar P.PRBS_USER, hgap, hlocked]
  rfl

theorem execTestBlockReceive_compares (n : Fin 32) (s : State) (sq : Byte) (data : List Byte)
    (hc : s.par P.PRBS_CHK n % 8 ≠ 0) (hb : bit (s.par P.PRBS_CHK n) 3 = true) (hup : s.laneUp n = true)
    (hlock : s.par P.PRBS_LOCK n = 1) (hsq : sq.toNat = ((s.laneOf n).chk.seq + 1) % 256) :
    ∃ t, exec (.testBlockReceive n (some sq) data) s = .next t ∧
      t.par P.PRBS_BITS n = (s.par P.PRBS_BITS n + 8 * data.length) % 2 ^ 64 ∧
      t.par P.PRBS_ERRORS n ≤ s.par P.PRBS_ERRORS n + 8 * data.length ∧ t.laneState n = s.laneState n := by
  have hn : n.val < 65536 := by omega
  have hpass (id idx : Nat) : (s.passTestBlock n (some sq) data).par id idx = s.par id idx := by
    rw [State.passTestBlock_eq]
    rfl
  refine ⟨_, execTestBlockReceive_eq n s sq data hc hb hup hlock hsq, ?_⟩
  obtain ⟨-, -, hcompared, hwrong⟩ := foldl_checkBit_locked (s.par P.PRBS_CHK n % 8) (s.par P.PRBS_USER) (data.flatMap octetBits)
    { pat := { (s.laneOf n).chk with seq := sq.toNat }, locked := true, compared := 0, wrong := 0, lockedNow := false } rfl
  dsimp only at hcompared hwrong
  rw [length_octetBits, Nat.zero_add] at hcompared hwrong
  generalize List.foldl _ _ _ = r at hcompared hwrong ⊢
  obtain ⟨hbits, herrors, hstate⟩ := State.bitsCounted_pars hn (s.passTestBlock n (some sq) data) r
  refine ⟨?_, ?_, ?_⟩
  · rw [State.par_blockChecked hn _ _ (by decide) (by decide), hbits, hpass, hcompared]
  · rw [State.par_blockChecked hn _ _ (by decide) (by decide), herrors, hpass]
    exact (Nat.min_le_left _ _).trans (Nat.add_le_add_left hwrong _)
  · exact (State.par_blockChecked hn _ _ (by decide) (by decide)).trans (hstate.trans (hpass _ _))

/-- Settles O19: each upkeep command writes what its rule says, and no more. -/
theorem laneUpkeep : Obligations.LaneUpkeep := by
  unfold Obligations.LaneUpkeep
  exact fun n s => ⟨execSkipInsert_sends n s, fun ov => execElasticBufferSlip_slips n ov s,
    fun dc dt => execAdaptUpdate_steps n dc dt s, fun dc dt tap => execAdaptUpdate_frozen n dc dt tap s,
    fun dc dt tap => execAdaptUpdate_skipped n dc dt tap s, fun h w => execEyeMarginMeasure_measures n h w s,
    fun count => execEyeScanPoint_stores n count s, execTestBlockSend_inBand n s, execTestBlockSend_raw n s,
    execTestBlockReceive_compares n s⟩

end Sys2Proof.Machine
end

section
/-! DisplayPort receivers: AUX, training, the loss of a link, HPD and the stream's format (R134 to R139, R143). -/

namespace Sys2Proof.Machine

/-! Records of the receivers -/

theorem State.dpOf_congr {s t : State} (h : t.lane.dp = s.lane.dp) (n : Nat) : t.dpOf n = s.dpOf n := by
  unfold State.dpOf
  rw [h]

theorem State.dpOf_updDp_same (s : State) (n : Nat) (f : DpRx → DpRx) : (s.updDp n f).dpOf n = f (s.dpOf n) :=
  SMap.get_set_same _ _ _ _

theorem State.dpOf_updDp_ne (s : State) {n m : Nat} (f : DpRx → DpRx) (h : m ≠ n) : (s.updDp n f).dpOf m = s.dpOf m :=
  SMap.get_set_ne _ _ _ _ h

theorem State.dpOf_raise (s : State) (e i d c n : Nat) : (s.raise e i d c).dpOf n = s.dpOf n :=
  State.dpOf_congr (congrArg PartLane.dp (s.raise_lane e i d c)) n

theorem State.par_updDp (s : State) (n : Nat) (f : DpRx → DpRx) (id idx : Nat) : (s.updDp n f).par id idx = s.par id idx := rfl

theorem State.dpcd_setDpcd_ne (s : State) {n a b : Nat} (v : Nat) (h : b ≠ a) : (s.setDpcd n a v).dpcd n b = s.dpcd n b := by
  unfold State.dpcd State.setDpcd
  rw [State.dpOf_updDp_same]
  exact SMap.get_set_ne _ _ _ _ h

/-! A receiver that is no longer trained (R136, R143) -/

theorem State.dpOf_dpUntrain (s : State) (n st m : Nat) :
    (s.dpUntrain n st).dpOf m = (s.updDp n fun d => d.untrained st).dpOf m :=
  State.dpOf_congr ((congrArg PartLane.dp (s.dpUntrain_lane n st)).trans rfl) m

theorem State.par_dpDamage {ids evs : List Nat} {id idx : Nat} (h : spared ids evs id idx = true) (s : State) (n : Nat)
    (he : E.DP_FRAME_DAMAGED ∈ evs) (ho : E.EVENT_OVERFLOW ∈ evs) : (s.dpDamage n).par id idx = s.par id idx := by
  unfold State.dpDamage
  split
  · rfl
  · exact State.par_raise_spared h _ _ _ _ he ho (by decide)

/-- The events that may follow when a trained receiver loses its training. -/
def untrainEvents : List Nat := [E.EVENT_OVERFLOW, E.EYE_SCAN_DONE, E.DP_FRAME_DAMAGED]

/-- A trained receiver's link status goes with its training. -/
theorem State.par_dpUntrain_trained {ids : List Nat} {id idx : Nat} (h : spared ids untrainEvents id idx = true) (s : State)
    (n st : Nat) (hi : P.EYE_SCAN_STATUS ∈ ids) (ht : (s.dpOf n).train = 5 ∨ (s.dpOf n).train = 6) :
    (s.dpUntrain n st).par id idx = (s.setPar P.DP_LINK_STATUS n 0xF0).par id idx := by
  simp only [State.dpUntrain]
  rw [if_pos ht, State.par_scanCheck_ended h _ hi (by decide) (by decide), State.par_dpDamage h _ _ (by decide) (by decide)]
  rfl

/-! AUX (R134, R138) -/

/-- A receiver whose HPD is high answers. -/
theorem execAuxRequest_nativeRead (n : Fin 4) (a len : Nat) (cr eq : Bool) (s : State) (he : s.hpdEnabled n = true)
    (hc : (s.dpOf n).cycling = false) (hp : (s.dpOf n).pulse = false) :
    exec (.auxRequest n (.nativeRead a len) cr eq) s = .next { s with
      outbox := .aux n true ((List.range len).map fun i => BitVec.ofNat 8 (s.dpcdRead n (a + i))) :: s.outbox } :=
  congrArg Host.Outcome.next (if_neg (by simp [he, hc, hp]))

/-- The bytes of the EDID from the segment and offset in force (R138; 0 beyond the 512, log entry 8). -/
def State.edidBytes (s : State) (n len : Nat) : List Byte :=
  (List.range len).map fun i => BitVec.ofNat 8
    (if (s.dpOf n).segment * 256 + ((s.dpOf n).offset + i) % 256 < 512 then
      s.blobByte P.DP_EDID n ((s.dpOf n).segment * 256 + ((s.dpOf n).offset + i) % 256) else 0)

theorem execAuxRequest_edidRead (n : Fin 4) (len : Nat) (cr eq : Bool) (s : State) (he : s.hpdEnabled n = true)
    (hc : (s.dpOf n).cycling = false) (hp : (s.dpOf n).pulse = false) :
    ∃ t, exec (.auxRequest n (.i2cRead 0x50#7 len) cr eq) s = .next t ∧
      t.outbox = .aux n true (s.edidBytes n len) :: s.outbox ∧
      t.dpOf n = { s.dpOf n with offset := ((s.dpOf n).offset + len) % 256 } ∧
      t = { s with lane := t.lane, outbox := t.outbox } := by
  have hexec : exec (.auxRequest n (.i2cRead 0x50#7 len) cr eq) s =
      .next ((s.updDp n fun d => { d with offset := (d.offset + len) % 256 }).send (.aux n true (s.edidBytes n len))) :=
    congrArg Host.Outcome.next ((if_neg (by simp [he, hc, hp])).trans (if_pos rfl))
  exact ⟨_, hexec, rfl, s.dpOf_updDp_same n _, rfl⟩

theorem execAuxRequest_otherRead (n : Fin 4) (dev : BitVec 7) (len : Nat) (cr eq : Bool) (s : State) (he : s.hpdEnabled n = true)
    (hc : (s.dpOf n).cycling = false) (hp : (s.dpOf n).pulse = false) (hdev : dev ≠ 0x50#7) :
    exec (.auxRequest n (.i2cRead dev len) cr eq) s = .next { s with outbox := .aux n false [] :: s.outbox } :=
  congrArg Host.Outcome.next ((if_neg (by simp [he, hc, hp])).trans (if_neg hdev))

/-! The end of training (R135) -/

/-- A pattern of 0 ends training with success where every lane is done (R135). -/
theorem State.dpTrain_ends (s : State) {n : Nat} (hn : n < 65536) (cr eq : Bool) (ht : (s.dpOf n).train = 4)
    (hok : s.trainable n = true) (h2 : s.dpcd n 0x202 = 0x77) (h3 : s.dpcd n 0x203 = 0x77) (h4 : s.dpcd n 0x204 % 2 = 1) :
    ((s.dpTrain n 0 cr eq).dpOf n).train = 5 ∧ s.told (s.dpTrain n 0 cr eq) E.DP_TRAINED ∧
      (s.dpTrain n 0 cr eq).outbox = s.outbox := by
  have hlanes (b : Nat) (hb : b ≠ 0x102) : (s.setDpcd n 0x102 0).dpcd n b = s.dpcd n b := s.dpcd_setDpcd_ne 0 hb
  have htrain : ((s.setDpcd n 0x102 0).dpOf n).train = 3 ∨ ((s.setDpcd n 0x102 0).dpOf n).train = 4 :=
    .inr ((congrArg DpRx.train (s.dpOf_updDp_same n _)).trans ht)
  have hdone : (s.setDpcd n 0x102 0).trainable n = true ∧ (s.setDpcd n 0x102 0).dpcd n 0x202 = 0x77 ∧
      (s.setDpcd n 0x102 0).dpcd n 0x203 = 0x77 ∧ (s.setDpcd n 0x102 0).dpcd n 0x204 % 2 = 1 := by
    refine ⟨?_, (hlanes _ (by decide)).trans h2, (hlanes _ (by decide)).trans h3, by rw [hlanes _ (by decide), h4]⟩
    unfold State.trainable at hok ⊢
    rw [hlanes _ (by decide), hlanes _ (by decide)]
    exact hok
  unfold State.dpTrain
  simp only [Nat.zero_mod, if_neg (show ¬ (0 = 1) by decide), ne_eq, not_true_eq_false, if_false, if_pos htrain, if_pos hdone]
  refine ⟨?_, State.told_of_before (State.told_raise _ E.DP_TRAINED n 0 0 (by decide)) ?_, State.raise_outbox _ _ _ _ _⟩
  · rw [State.dpOf_raise, State.dpOf_updDp_same]
  · rw [State.par_updDp, State.par_setPar_other _ _ (by decide) hn (by decide), State.setDpcd, State.par_updDp]

theorem execAuxRequest_endsTraining (n : Fin 4) (cr eq : Bool) (s : State) (he : s.hpdEnabled n = true)
    (hc : (s.dpOf n).cycling = false) (hp : (s.dpOf n).pulse = false) (ht : (s.dpOf n).train = 4)
    (hok : s.trainable n = true) (h2 : s.dpcd n 0x202 = 0x77) (h3 : s.dpcd n 0x203 = 0x77) (h4 : s.dpcd n 0x204 % 2 = 1) :
    ∃ t, exec (.auxRequest n (.nativeWrite 0x102 [0]) cr eq) s = .next t ∧ (t.dpOf n).train = 5 ∧
      s.told t E.DP_TRAINED ∧ t.outbox = .aux n true [] :: s.outbox := by
  obtain ⟨htrain, htold, hout⟩ := s.dpTrain_ends (n := n) (by omega) cr eq ht hok h2 h3 h4
  have hexec : exec (.auxRequest n (.nativeWrite 0x102 [0]) cr eq) s = .next ((s.dpTrain n 0 cr eq).send (.aux n true [])) :=
    congrArg Host.Outcome.next (if_neg (by simp [he, hc, hp]))
  exact ⟨_, hexec, htrain, htold, congrArg _ hout⟩

/-! The loss of a link (R136) -/

/-- The receiver's lane status shows the lost lane, and HPD goes low for its pulse, which is told. -/
def State.linkLost (s : State) (n lane : Nat) : State :=
  let a := 0x202 + lane / 2
  let v := if lane % 2 = 0 then s.dpcd n a / 16 * 16 else s.dpcd n a % 16
  ((((s.setDpcd n a v).setDpcd n 0x204 0).updDp n fun d => { d with pulse := true }).raise E.DP_LINK_LOST n lane)

theorem State.linkLost_dp (s : State) (n lane : Nat) : ((s.linkLost n lane).dpOf n).train = (s.dpOf n).train ∧
    ((s.linkLost n lane).dpOf n).pulse = true ∧ ∀ m, m ≠ n → (s.linkLost n lane).dpOf m = s.dpOf m := by
  unfold State.linkLost State.setDpcd
  dsimp only
  simp only [State.dpOf_raise, State.dpOf_updDp_same, true_and]
  intro m hm
  simp only [State.dpOf_updDp_ne _ _ hm]

theorem State.told_linkLost (s : State) (n lane : Nat) : s.told (s.linkLost n lane) E.DP_LINK_LOST := by
  unfold State.linkLost
  refine State.told_of_before (State.told_raise _ E.DP_LINK_LOST n lane 0 (by decide)) ?_
  simp only [State.setDpcd, State.par_updDp]

theorem execDpLaneLockLoss_losesLink (n lane : Fin 4) (s : State) (ht : (s.dpOf n).train = 5 ∨ (s.dpOf n).train = 6) :
    ∃ t, exec (.dpLaneLockLoss n lane) s = .next t ∧ (t.dpOf n).train = 2 ∧ (t.dpOf n).pulse = true ∧
      (t.dpOf n).delivered = false ∧ t.par P.DP_LINK_STATUS n = 0xF0 ∧ s.told t E.DP_LINK_LOST ∧
      ∀ m : Fin 4, m ≠ n → t.dpOf m = s.dpOf m := by
  have hn : n.val < 65536 := by omega
  have hexec : exec (.dpLaneLockLoss n lane) s = .next ((s.linkLost n lane).dpUntrain n 2) :=
    congrArg Host.Outcome.next (if_neg (by tauto))
  obtain ⟨htrain, hpulse, hothers⟩ := s.linkLost_dp n lane
  have hlost : ((s.linkLost n lane).dpUntrain n 2).dpOf n = ((s.linkLost n lane).dpOf n).untrained 2 :=
    (State.dpOf_dpUntrain _ n 2 n).trans (State.dpOf_updDp_same _ n _)
  rw [← htrain] at ht
  refine ⟨_, hexec, by rw [hlost]; rfl, by rw [hlost]; exact hpulse, by rw [hlost]; rfl, ?_, ?_, fun m hm => ?_⟩
  · rw [State.par_dpUntrain_trained (ids := [P.EYE_SCAN_STATUS]) (spared_of_param (by decide) (by decide) hn) _ _ _ (by simp) ht,
      State.par_setPar]
  · refine State.told_of_after (s.told_linkLost n lane)
      ((State.par_dpUntrain_trained (ids := [P.EYE_SCAN_STATUS]) (by decide) _ n 2 (by simp) ht).trans ?_)
    exact State.par_setPar_other _ _ (by decide) hn (by decide)
  · have hne : m.val ≠ n.val := fun e => hm (Fin.ext e)
    rw [State.dpOf_dpUntrain, State.dpOf_updDp_ne _ _ hne, hothers m hne]

/-! HPD (R136, R139) -/

theorem State.updDp_only (s : State) (n : Fin 4) (f : DpRx → DpRx) : (s.updDp n f).dpOf n = f (s.dpOf n) ∧
    (∀ m, m ≠ n.val → (s.updDp n f).dpOf m = s.dpOf m) ∧ s.updDp n f = { s with lane := (s.updDp n f).lane } :=
  ⟨s.dpOf_updDp_same n f, fun _ hm => s.dpOf_updDp_ne f hm, rfl⟩

/-! The stream's format (R137) -/

/-- A stream's format is read. -/
def State.formatRead (s : State) (n : Nat) (m : MsaInfo) : State :=
  s.updDp n fun d => { d with format := msaFmt m, delivered := msaSupported m, train := 6
                              hdr := match m.hdr with | some h => h | none => d.hdr }

/-- A changed format is shown and told, and damages the frame under way. -/
def State.formatChanged (s : State) (n : Nat) (m : MsaInfo) : State :=
  ((s.setBlob P.DP_VIDEO_FORMAT n 0 (msaFmt m).bytes).raise E.DP_FORMAT_CHANGED n).dpDamage n

theorem State.formatChanged_lane (s : State) (n : Nat) (m : MsaInfo) : (s.formatChanged n m).lane = s.lane := by
  unfold State.formatChanged
  rw [State.dpDamage_lane, State.raise_lane, State.setBlob_eq]

theorem State.told_formatChanged (s : State) (n : Nat) (m : MsaInfo) : s.told (s.formatChanged n m) E.DP_FORMAT_CHANGED := by
  refine State.told_of_after (State.told_of_before (State.told_raise _ E.DP_FORMAT_CHANGED n 0 0 (by decide)) ?_)
    (State.par_dpDamage (ids := []) (evs := untrainEvents) (by decide) _ n (by decide) (by decide))
  exact State.par_congr (by rw [State.setBlob_eq]) (by rw [State.setBlob_eq]) _ _

/-- A trained link reads the format: a change is told, and a stream outside the limits when it begins or changes. -/
theorem execMsaReceived_eq (n : Fin 4) (m : MsaInfo) (s : State) (ht : (s.dpOf n).train = 5 ∨ (s.dpOf n).train = 6) :
    exec (.msaReceived n m) s = .next ((if (s.dpOf n).format != msaFmt m then (s.formatRead n m).formatChanged n m
      else s.formatRead n m).raiseIf (!msaSupported m && ((s.dpOf n).format != msaFmt m || (s.dpOf n).train == 5))
        E.DP_FORMAT_UNSUPPORTED n) :=
  congrArg Host.Outcome.next (if_neg (by tauto))

theorem msaSupported_iff (m : MsaInfo) : msaSupported m = true ↔ m.format ≤ 2 ∧
    (m.bits = 6 ∨ m.bits = 8 ∨ m.bits = 10 ∨ m.bits = 12) ∧ m.width ≤ 8192 ∧ m.height ≤ 8192 ∧ m.clock ≤ 1200000 := by
  simp only [msaSupported, Bool.and_eq_true, Bool.or_eq_true, decide_eq_true_eq, beq_iff_eq]
  tauto

theorem execMsaReceived_reads (n : Fin 4) (m : MsaInfo) (s : State) (ht : (s.dpOf n).train = 5 ∨ (s.dpOf n).train = 6) :
    ∃ t, exec (.msaReceived n m) s = .next t ∧ (t.dpOf n).format = msaFmt m ∧ (t.dpOf n).train = 6 ∧
      ((t.dpOf n).delivered = true ↔ m.format ≤ 2 ∧ (m.bits = 6 ∨ m.bits = 8 ∨ m.bits = 10 ∨ m.bits = 12) ∧
        m.width ≤ 8192 ∧ m.height ≤ 8192 ∧ m.clock ≤ 1200000) ∧
      ((s.dpOf n).format ≠ msaFmt m → s.told t E.DP_FORMAT_CHANGED) ∧
      ((s.dpOf n).format = msaFmt m → (s.dpOf n).train = 6 ∨ msaSupported m = true → t.dict = s.dict ∧ t.blobs = s.blobs) ∧
      ∀ k : Fin 4, k ≠ n → t.dpOf k = s.dpOf k := by
  have hexec := execMsaReceived_eq n m s ht
  generalize htt : State.raiseIf _ _ E.DP_FORMAT_UNSUPPORTED n.val 0 = t at hexec
  have hlane : t.lane = (s.formatRead n m).lane := by
    rw [← htt, State.raiseIf_lane, apply_ite State.lane, State.formatChanged_lane, ite_self]
  have hread : t.dpOf n = (s.formatRead n m).dpOf n := State.dpOf_congr (congrArg PartLane.dp hlane) n
  rw [State.formatRead, State.dpOf_updDp_same] at hread
  refine ⟨t, hexec, by rw [hread], by rw [hread], by rw [hread]; exact msaSupported_iff m, fun hne => ?_, fun heq hold => ?_,
    fun k hk => ?_⟩
  · rw [← htt, if_pos (by simpa using hne)]
    refine State.told_of_after (State.told_of_before ((s.formatRead n m).told_formatChanged n m) (s.par_updDp n _ _ _)) ?_
    exact State.par_raiseIf_spared (ids := []) (evs := [E.DP_FORMAT_UNSUPPORTED, E.EVENT_OVERFLOW]) (by decide) _ _ _ _ (by simp)
      (by simp) (by decide)
  · have hsame : ((s.dpOf n).format != msaFmt m) = false := by simp [heq]
    have hquiet : (!msaSupported m && ((s.dpOf n).format != msaFmt m || (s.dpOf n).train == 5)) = false := by
      rw [hsame]
      rcases hold with h | h <;> simp [h]
    rw [← htt, hquiet, hsame]
    exact ⟨rfl, rfl⟩
  · rw [State.dpOf_congr (congrArg PartLane.dp hlane)]
    exact s.dpOf_updDp_ne _ fun e => hk (Fin.ext e)

end Sys2Proof.Machine
end

section
/-! Invalid symbols (R115, R119, R135, R144). -/

namespace Sys2Proof.Machine

/-! On a lane of a receiver (R135) -/

/-- Symbol errors change the receiver's DPCD and their count, and no other parameter. -/
theorem State.par_dpSymbolErrors (s : State) (n lane k id idx : Nat) : (s.dpSymbolErrors n lane k).par id idx =
    (s.bumpBy P.DP_SYMBOL_ERRORS (4 * n + lane) k).par id idx := rfl

theorem execInvalidSymbol_valid (n : Fin 32) (gap : Nat) (pos mis : Bool) (code : BitVec 10) (s : State)
    (h : symbolInvalid pos code.toNat mis = false) : exec (.invalidSymbol n gap pos code mis) s = .next s :=
  congrArg Host.Outcome.next (if_pos (by simp [h]))

theorem execInvalidSymbol_dp (n : Fin 32) (gap : Nat) (pos mis : Bool) (code : BitVec 10) (s : State)
    (h : symbolInvalid pos code.toNat mis = true) (hdp : s.laneState n = L.DP) :
    ∃ t, exec (.invalidSymbol n gap pos code mis) s = .next t ∧
      t.par P.DP_SYMBOL_ERRORS n = (s.par P.DP_SYMBOL_ERRORS n + 1) % 2 ^ 32 ∧ s.samePars t [P.DP_SYMBOL_ERRORS] := by
  have hn : n.val < 65536 := by omega
  have hlane : 4 * (n.val / 4) + n.val % 4 = n.val := by omega
  refine ⟨s.dpSymbolErrors (n.val / 4) (n.val % 4) 1,
    congrArg Host.Outcome.next ((if_neg (by simp [h])).trans (if_pos hdp)), ?_, fun id idx hid hx => ?_⟩
  · rw [State.par_dpSymbolErrors, hlane]
    exact s.par_setPar _ _ _
  · rw [State.par_dpSymbolErrors, hlane]
    exact s.par_setPar_other _ (fun e => hid (by simp [e])) hn hx

/-! On a lane that decodes (R115, R119, R144) -/

/-- An invalid symbol is counted and replaced by K30.7. -/
def State.codeErrorCounted (s : State) (n : Nat) : State := ((s.bump P.CODE_ERRORS n).count 197).poisonSymbol n

/-- The invalid symbols among the last 64 of a lane before the one `gap` after its last invalid one. -/
def State.nearInvalid (s : State) (n gap : Nat) : List Nat :=
  (s.laneOf n).invalid.filter fun p => decide ((s.laneOf n).symbols + gap < p + 64)

/-- Invalid symbols in the running second, with one more (R144). -/
def State.secondCount (s : State) (n : Nat) : Nat := if (s.laneOf n).secStart + sec ≤ s.now then 1 else (s.laneOf n).secCount + 1

/-- The lane remembers where the invalid symbol stood. -/
def State.invalidNoted (s : State) (n gap : Nat) : State :=
  s.updLane n fun l => { l with
    symbols := (s.laneOf n).symbols + gap
    invalid := (((s.laneOf n).symbols + gap) :: s.nearInvalid n gap).take 4
    secStart := if (s.laneOf n).secStart + sec ≤ s.now then s.now else l.secStart
    secCount := s.secondCount n }

/-- Above the limit in a second the error rate is told. -/
def State.codeRateTold (s : State) (n cnt : Nat) : State :=
  if s.par P.CODE_ERROR_LIMIT < cnt then s.raiseLimited E.CODE_ERROR_RATE n sec else s

/-- An invalid symbol has been counted, noted and told. -/
def State.codeErrorTaken (s : State) (n gap : Nat) : State :=
  let u := s.codeErrorCounted n
  (u.invalidNoted n gap).codeRateTold n (u.secondCount n)

theorem State.codeErrorCounted_lane (s : State) (n : Nat) : (s.codeErrorCounted n).lane = s.lane := by
  unfold State.codeErrorCounted
  rw [State.poisonSymbol_eq]
  exact State.count_lane _ _ _

theorem State.nearInvalid_codeErrorCounted (s : State) (n gap : Nat) :
    (s.codeErrorCounted n).nearInvalid n gap = s.nearInvalid n gap := by
  unfold State.nearInvalid
  rw [State.laneOf_congr (congrArg PartLane.lanes (s.codeErrorCounted_lane n))]

theorem State.par_codeErrorCounted (s : State) (n id idx : Nat) :
    (s.codeErrorCounted n).par id idx = (s.bump P.CODE_ERRORS n).par id idx := by
  unfold State.codeErrorCounted
  rw [State.par_poisonSymbol]
  exact State.par_congr (State.count_dict _ _ _) (State.count_start _ _ _) _ _

theorem State.par_codeRateTold {id idx : Nat} (s : State) (n cnt : Nat)
    (h : spared [] [E.CODE_ERROR_RATE, E.EVENT_OVERFLOW] id idx = true) : (s.codeRateTold n cnt).par id idx = s.par id idx := by
  unfold State.codeRateTold
  split
  · exact State.par_raiseLimited_spared h _ _ _ _ (by simp) (by simp) (by decide)
  · rfl

theorem State.par_codeErrorTaken {id idx : Nat} (s : State) (n gap : Nat)
    (h : spared [] [E.CODE_ERROR_RATE, E.EVENT_OVERFLOW] id idx = true) :
    (s.codeErrorTaken n gap).par id idx = (s.bump P.CODE_ERRORS n).par id idx := by
  rw [State.codeErrorTaken, State.par_codeRateTold _ _ _ h, State.invalidNoted, State.par_updLane, State.par_codeErrorCounted]

theorem execInvalidSymbol_decoding (n : Fin 32) (gap : Nat) (pos mis : Bool) (code : BitVec 10) (s : State)
    (h : symbolInvalid pos code.toNat mis = true) (hd : s.decoding n = true) :
    exec (.invalidSymbol n gap pos code mis) s = .next
      (if (s.codeErrorTaken n gap).laneUp n && decide ((s.nearInvalid n gap).length ≥ 3) then (s.codeErrorTaken n gap).syncLoss n
        else s.codeErrorTaken n gap) := by
  have hdp : s.laneState n ≠ L.DP := by
    intro e
    simp [State.decoding, e] at hd
  rw [← State.nearInvalid_codeErrorCounted]
  exact congrArg Host.Outcome.next ((if_neg (by simp [h])).trans ((if_neg hdp).trans (if_neg (by simp [hd]))))

theorem execInvalidSymbol_counts (n : Fin 32) (gap : Nat) (pos mis : Bool) (code : BitVec 10) (s : State)
    (h : symbolInvalid pos code.toNat mis = true) (hd : s.decoding n = true) :
    ∃ t, exec (.invalidSymbol n gap pos code mis) s = .next t ∧
      t.par P.CODE_ERRORS n = (s.par P.CODE_ERRORS n + 1) % 2 ^ 32 ∧
      (s.laneUp n = true → 3 ≤ (s.nearInvalid n gap).length →
        t.par P.SYNC_LOSS n = (s.par P.SYNC_LOSS n + 1) % 2 ^ 32 ∧ t.laneState n ≠ L.UP) ∧
      ((s.nearInvalid n gap).length < 3 → t.laneState n = s.laneState n) := by
  have hn : n.val < 65536 := by omega
  have htaken {id : Nat} (he : id ≠ P.EVENT_COUNT) : (s.codeErrorTaken n gap).par id n = (s.bump P.CODE_ERRORS n).par id n :=
    s.par_codeErrorTaken n gap (spared_of_param List.not_mem_nil he hn)
  have herrors : (s.codeErrorTaken n gap).par P.CODE_ERRORS n = (s.par P.CODE_ERRORS n + 1) % 2 ^ 32 :=
    (htaken (by decide)).trans (s.par_bump _ _ _)
  have hstate : (s.codeErrorTaken n gap).laneState n = s.laneState n :=
    (htaken (by decide)).trans (s.par_bump_other (by decide) hn hn)
  have hup : (s.codeErrorTaken n gap).laneUp n = s.laneUp n := congrArg (· == L.UP) hstate
  refine ⟨_, execInvalidSymbol_decoding n gap pos mis code s h hd, ?_⟩
  rw [hup]
  by_cases hloss : (s.laneUp n && decide ((s.nearInvalid n gap).length ≥ 3)) = true
  · rw [if_pos hloss]
    simp only [Bool.and_eq_true, decide_eq_true_eq] at hloss
    refine ⟨?_, fun _ _ => ⟨?_, ?_⟩, fun hfew => absurd hfew (by omega)⟩
    · have hs : spared (P.LANE_STATE :: lanePars) (E.LANE_RESTART :: laneEvents) P.CODE_ERRORS n = true :=
        spared_of_param (by decide) (by decide) hn
      rw [State.par_syncLoss hn hs _ (by simp) (by simp) (by simp) (by simp)]
      exact ((State.readied_syncCounted hn _).par (by decide) hn).trans herrors
    · rw [State.par_syncLoss_count hn, htaken (by decide), State.par_bump_other _ (by decide) hn hn]
    · obtain ⟨hgone, -⟩ := State.laneMoved_syncLoss hn (s.codeErrorTaken n gap)
      rw [hgone]
      split <;> decide
  · rw [if_neg hloss]
    exact ⟨herrors, fun hu hmany => absurd (by simp [hu, hmany]) hloss, fun _ => hstate⟩

/-- Settles O20: each command of a receiver, and each invalid symbol, does what its rule says. -/
theorem displayPortReceivers : Obligations.DisplayPortReceivers := by
  unfold Obligations.DisplayPortReceivers
  refine ⟨fun n cr eq s he hc hp => ⟨fun a len => execAuxRequest_nativeRead n a len cr eq s he hc hp,
      fun len => execAuxRequest_edidRead n len cr eq s he hc hp, fun dev len => execAuxRequest_otherRead n dev len cr eq s he hc hp,
      execAuxRequest_endsTraining n cr eq s he hc hp⟩,
    execDpLaneLockLoss_losesLink, fun n s => ⟨⟨_, rfl, s.updDp_only n _⟩, ⟨_, rfl, s.updDp_only n _⟩⟩, execMsaReceived_reads,
    fun n gap pos mis code s => ⟨execInvalidSymbol_valid n gap pos mis code s, execInvalidSymbol_dp n gap pos mis code s,
      execInvalidSymbol_counts n gap pos mis code s⟩⟩

end Sys2Proof.Machine
end

section
/-! The streamers of the chains: their packets, their ends and the chains' loads (R149, R168, R266 to R271). -/

namespace Sys2Proof.Machine

/-! Records of the streamers -/

theorem State.streamerOf_congr {s t : State} (h : t.scan.streamers = s.scan.streamers) (c : Nat) :
    t.streamerOf c = s.streamerOf c := by
  unfold State.streamerOf
  rw [h]

theorem State.streamerOf_updStreamer_same (s : State) (c : Nat) (f : Streamer → Streamer) :
    (s.updStreamer c f).streamerOf c = f (s.streamerOf c) :=
  SMap.get_set_same _ _ _ _

theorem State.streamerOf_updStreamer_ne (s : State) {c d : Nat} (f : Streamer → Streamer) (h : d ≠ c) :
    (s.updStreamer c f).streamerOf d = s.streamerOf d :=
  SMap.get_set_ne _ _ _ _ h

theorem State.par_updStreamer (s : State) (c : Nat) (f : Streamer → Streamer) (id idx : Nat) :
    (s.updStreamer c f).par id idx = s.par id idx := rfl

theorem State.each_send {α : Type} (s : State) (l : List α) (g : α → Out) :
    s.each l (fun s x => s.send (g x)) = { s with outbox := (l.map g).reverse ++ s.outbox } := by
  unfold State.each
  induction l generalizing s with
  | nil => rfl
  | cons x l ih =>
    rw [List.foldl_cons, ih]
    simp [State.send]

/-! The loads of the chains (R168) -/

/-- The load of chain `c` in 0.01 %, as it is shown (rounded to nearest, and its ends: log entry 13). -/
def State.loadOf (s : State) (c : Nat) : Nat :=
  if (s.chainLane c).isNone then 0 else if s.chainCarries c ≤ 0 then 0xFFFF
  else min ⌊(s.chainS c : ℚ) * 10000 / s.chainCarries c + 1 / 2⌋.toNat 0xFFFF

theorem State.chainLoads_eq (s : State) :
    s.chainLoads = s.each (List.range 16) fun s c => s.setPar P.CHAIN_LOAD c (s.loadOf c) := by
  unfold State.chainLoads
  refine congrArg (State.each s (List.range 16)) (funext fun s => funext fun c => ?_)
  unfold State.loadOf
  dsimp only
  split <;> rfl


/-- `t` is `s` but for the loads shown. -/
def State.loadsApart (s t : State) : Prop := s.samePars t [P.CHAIN_LOAD] ∧ t = { s with dict := t.dict }

theorem State.loadsApart_refl (s : State) : s.loadsApart s := ⟨fun _ _ _ _ => rfl, rfl⟩

theorem State.loadsApart.setPar {s t : State} (h : s.loadsApart t) {c : Nat} (hc : c < 2 ^ 16) (v : Nat) :
    s.loadsApart (t.setPar P.CHAIN_LOAD c v) := by
  obtain ⟨hp, he⟩ := h
  refine ⟨fun id idx hid hx => ?_, by rw [he]; rfl⟩
  exact (t.par_setPar_other v (fun e => hid (by rw [e]; exact List.mem_singleton_self _)) hc hx).trans (hp id idx hid hx)

/-- A head's loads are the same whatever loads are shown. -/
theorem State.loadOf_loadsApart {s t : State} (h : s.loadsApart t) (hh : s.isHead = true) {c : Nat} (hc : c < 2 ^ 16) :
    t.loadOf c = s.loadOf c := by
  obtain ⟨hp, he⟩ := h
  have hhead : t.isHead = s.isHead := by rw [he]; rfl
  have hlane : t.chainLane c = s.chainLane c := by
    unfold State.chainLane
    rw [hhead, if_pos hh, if_pos hh]
    refine List.find?_congr fun n hn => ?_
    rw [hp _ n (by decide) ((List.mem_range.mp hn).trans (by decide))]
  have hregions : t.regions = s.regions := by rw [he]; rfl
  have htile : t.isTile = s.isTile := by rw [he]; rfl
  have htime : t.time = s.time := by rw [he]
  have hchain : t.chain = s.chain := by rw [he]
  have hrate : t.rate = s.rate := by rw [State.rate, htile, htime, hp _ 0 (by decide) (by decide), State.rate]
  have hL : t.chainL c = s.chainL c := by
    rw [State.chainL, hchain, hp _ c (by decide) hc, hp _ 0 (by decide) (by decide), State.chainL]
  have hcarries : t.chainCarries c = s.chainCarries c := by
    unfold State.chainCarries
    rw [hlane]
    cases hn : s.chainLane c with
    | none => rfl
    | some n =>
      rw [State.chainLane, if_pos hh] at hn
      have hlt : n < 32 := List.mem_range.mp (List.mem_of_find?_eq_some hn)
      dsimp only
      rw [State.window, hrate, hL, hp _ 0 (by decide) (by decide), hp _ n (by decide) (hlt.trans (by decide)), State.window]
  have hS : t.chainS c = s.chainS c := by
    rw [State.chainS, hregions, hp _ 0 (by decide) (by decide), hp _ 0 (by decide) (by decide), hp _ 0 (by decide) (by decide),
      State.chainS]
  unfold State.loadOf
  rw [hlane, hcarries, hS]

/-- One load after another is shown, each as it was before the first. -/
theorem State.each_loadOf {s t : State} (h : s.loadsApart t) (hh : s.isHead = true) {l : List Nat} (hl : ∀ c ∈ l, c < 2 ^ 16) :
    s.loadsApart (t.each l fun s c => s.setPar P.CHAIN_LOAD c (s.loadOf c)) ∧ ∀ c,
      (t.each l fun s c => s.setPar P.CHAIN_LOAD c (s.loadOf c)).par P.CHAIN_LOAD c =
        if c ∈ l then s.loadOf c else t.par P.CHAIN_LOAD c := by
  unfold State.each
  induction l generalizing t with
  | nil => exact ⟨h, fun c => rfl⟩
  | cons d l ih =>
    have hd : d < 2 ^ 16 := hl d List.mem_cons_self
    obtain ⟨happart, hshown⟩ := ih (h.setPar hd (t.loadOf d)) fun c hc => hl c (List.mem_cons_of_mem _ hc)
    refine ⟨happart, fun c => (hshown c).trans ?_⟩
    by_cases hcd : c = d
    · subst hcd
      simp [State.loadOf_loadsApart h hh hd]
    · rw [State.par_setPar_ne _ _ (by unfold pkey; omega)]
      simp [hcd]

theorem execChainLoadRecompute_shows (s : State) (hh : s.isHead = true) : ∃ t, exec .chainLoadRecompute s = .next t ∧
    (∀ c, c < 16 → t.par P.CHAIN_LOAD c = s.loadOf c) ∧ s.samePars t [P.CHAIN_LOAD] ∧ t = { s with dict := t.dict } := by
  obtain ⟨⟨hsame, heq⟩, hshown⟩ := State.each_loadOf s.loadsApart_refl hh (l := List.range 16)
    fun c hc => (List.mem_range.mp hc).trans (by decide)
  rw [← State.chainLoads_eq] at hsame heq hshown
  refine ⟨s.chainLoads, congrArg Host.Outcome.next (if_pos hh), fun c hc => ?_, hsame, heq⟩
  rw [hshown, if_pos (List.mem_range.mpr hc)]

/-! The end of a frame's stream (R267, R281, R487) -/

/-- The grants behind the last region go out, and nothing else but the update's turn changes. -/
theorem State.relayGrants_sends (s : State) (c : Nat) : (∃ pre, (s.relayGrants c).outbox = pre ++ s.outbox) ∧
    s.relayGrants c = { s with outbox := (s.relayGrants c).outbox, upd := (s.relayGrants c).upd } := by
  unfold State.relayGrants
  dsimp only
  split
  · exact ⟨⟨[], rfl⟩, rfl⟩
  · rw [State.each_send]
    exact ⟨⟨_, rfl⟩, rfl⟩

/-- The streamer of chain `c` rests. -/
def State.rested (s : State) (c : Nat) : State := s.updStreamer c fun t => { t with active := false, urgency := 0 }

/-- A stream with regions left, or at rest, goes on as it is. -/
theorem State.streamerDone_idle (s : State) (c : Nat) (h : (s.streamerOf c).regions ≠ [] ∨ (s.streamerOf c).active = false) :
    s.streamerDone c = s := by
  refine if_pos ?_
  rcases h with h | h <;> simp [h]

theorem State.streamerDone_ends (s : State) (c : Nat) (hr : (s.streamerOf c).regions = []) (ha : (s.streamerOf c).active = true) :
    ∃ w m, s.streamerDone c = (((s.rested c).relayGrants c).setPar P.WELL_STATE c w).setPar P.SCAN_MARGIN c m := by
  refine ⟨_, _, if_neg ?_⟩
  simp [hr, ha]

theorem State.streamerDone_cases (s : State) (c : Nat) : s.streamerDone c = s ∧
      ((s.streamerOf c).regions ≠ [] ∨ (s.streamerOf c).active = false) ∨
    (s.streamerOf c).regions = [] ∧ ∃ w m, s.streamerDone c =
      (((s.rested c).relayGrants c).setPar P.WELL_STATE c w).setPar P.SCAN_MARGIN c m := by
  by_cases h : (s.streamerOf c).regions ≠ [] ∨ (s.streamerOf c).active = false
  · exact .inl ⟨s.streamerDone_idle c h, h⟩
  · simp only [not_or, not_not, Bool.not_eq_false] at h
    obtain ⟨hr, ha⟩ := h
    exact .inr ⟨hr, s.streamerDone_ends c hr ha⟩

theorem State.streamerOf_relayGrants (s : State) (c d : Nat) : (s.relayGrants c).streamerOf d = s.streamerOf d := by
  rw [(s.relayGrants_sends c).2]
  rfl

theorem State.par_relayGrants (s : State) (c id idx : Nat) : (s.relayGrants c).par id idx = s.par id idx := by
  rw [(s.relayGrants_sends c).2]
  rfl

/-- What a stream's record holds beside whether it is at rest. -/
def Streamer.work (t : Streamer) : List TileRegion × Nat × Nat × Bool × Bool :=
  (t.regions, t.packet, t.level, t.dryTold, t.lateTold)

theorem State.streamerOf_streamerDone_work (s : State) (c : Nat) :
    ((s.streamerDone c).streamerOf c).work = (s.streamerOf c).work := by
  rcases s.streamerDone_cases c with ⟨h, -⟩ | ⟨-, w, m, h⟩ <;> rw [h]
  have hrest : ((s.rested c).streamerOf c).work = (s.streamerOf c).work :=
    (congrArg Streamer.work (s.streamerOf_updStreamer_same c _)).trans rfl
  exact (congrArg Streamer.work ((s.rested c).streamerOf_relayGrants c c)).trans hrest

/-- A stream without regions rests once it is done. -/
theorem State.active_streamerDone (s : State) (c : Nat) (hr : (s.streamerOf c).regions = []) :
    ((s.streamerDone c).streamerOf c).active = false := by
  rcases s.streamerDone_cases c with ⟨h, hn⟩ | ⟨-, w, m, h⟩ <;> rw [h]
  · exact hn.resolve_left (not_not_intro hr)
  · have hrest : ((s.rested c).streamerOf c).active = false := congrArg Streamer.active (s.streamerOf_updStreamer_same c _)
    exact (congrArg Streamer.active ((s.rested c).streamerOf_relayGrants c c)).trans hrest

theorem State.streamerOf_streamerDone_ne (s : State) {c d : Nat} (hd : d ≠ c) :
    (s.streamerDone c).streamerOf d = s.streamerOf d := by
  rcases s.streamerDone_cases c with ⟨h, -⟩ | ⟨-, w, m, h⟩ <;> rw [h]
  exact ((s.rested c).streamerOf_relayGrants c d).trans (s.streamerOf_updStreamer_ne _ hd)

/-- What is shown of a stream that is done (R281). -/
def doneShows : List Nat := [P.WELL_STATE, P.SCAN_MARGIN]

theorem State.par_streamerDone {evs : List Nat} {id idx : Nat} (h : spared doneShows evs id idx = true) (s : State) {c : Nat}
    (hc : c < 65536) : (s.streamerDone c).par id idx = s.par id idx := by
  rcases s.streamerDone_cases c with ⟨he, -⟩ | ⟨-, w, m, he⟩ <;> rw [he]
  rw [State.par_setPar_spared h _ _ (by decide) hc, State.par_setPar_spared h _ _ (by decide) hc, State.par_relayGrants]
  rfl

theorem State.outbox_streamerDone (s : State) (c : Nat) : ∃ pre, (s.streamerDone c).outbox = pre ++ s.outbox ∧
    ((s.streamerOf c).regions ≠ [] → pre = []) := by
  rcases s.streamerDone_cases c with ⟨he, -⟩ | ⟨hr, w, m, he⟩ <;> rw [he]
  · exact ⟨[], rfl, fun _ => rfl⟩
  · obtain ⟨⟨pre, hpre⟩, -⟩ := (s.rested c).relayGrants_sends c
    exact ⟨pre, hpre, fun hn => absurd hr hn⟩

/-! A packet leaves (R149, R266) -/

/-- The packet that is recorded, with the header of R149. -/
def State.videoOut (s : State) (c : Nat) (r : TileRegion) (index count flags : Nat) (last : Bool) (sig : Nat)
    (payload : List Byte) : Out :=
  .packet c K.VIDEO ([b2n (s.streamerOf c).prefixed, r.dest, s.par P.DEVICE_ID, (s.streamerOf c).epoch, (s.streamerOf c).frame,
    index * (groupOf (s.streamerOf c).format).2.2, index, count, flags, (s.streamerOf c).format,
    (if last then (s.streamerOf c).gap else 0), sig] ++ payload.map (·.toNat))

section
variable {s : State} {c : Nat} {r : TileRegion} {rs : List TileRegion} (hr : (s.streamerOf c).regions = r :: rs)
  (len index count flags : Nat) (last : Bool) (sig : Nat) (payload : List Byte)
include hr

/-- A packet sent is recorded and accounted for in its streamer; a region's last one leaves its signature behind. -/
theorem State.sendVideo_eq : ∃ (sigs : List SigRec) (σ : Nat → Nat) (ended gone : Int), s.sendVideo c len index count flags last sig payload =
    State.updStreamer { s with outbox := s.videoOut c r index count flags last sig payload :: s.outbox
                               red := { s.red with sigOwn := sigs } } c
      fun t => { t with sigma := σ t.sigma, packetEnd := ended, lastEnd := gone } := by
  unfold State.sendVideo
  dsimp only
  rw [hr]
  cases last with
  | true => exact ⟨_, fun n => _, _, _, rfl⟩
  | false => exact ⟨s.red.sigOwn, fun n => _, _, _, rfl⟩

theorem State.outbox_sendVideo : (s.sendVideo c len index count flags last sig payload).outbox =
    s.videoOut c r index count flags last sig payload :: s.outbox := by
  obtain ⟨sigs, σ, ended, gone, h⟩ := State.sendVideo_eq hr len index count flags last sig payload
  rw [h]
  rfl

theorem State.streamerOf_sendVideo_work :
    ((s.sendVideo c len index count flags last sig payload).streamerOf c).work = (s.streamerOf c).work := by
  obtain ⟨sigs, σ, ended, gone, h⟩ := State.sendVideo_eq hr len index count flags last sig payload
  rw [h, State.streamerOf_updStreamer_same]
  rfl

theorem State.streamerOf_sendVideo_ne {d : Nat} (hd : d ≠ c) :
    (s.sendVideo c len index count flags last sig payload).streamerOf d = s.streamerOf d := by
  obtain ⟨sigs, σ, ended, gone, h⟩ := State.sendVideo_eq hr len index count flags last sig payload
  rw [h, State.streamerOf_updStreamer_ne _ _ hd]
  rfl

theorem State.par_sendVideo (id idx : Nat) : (s.sendVideo c len index count flags last sig payload).par id idx = s.par id idx := by
  obtain ⟨sigs, σ, ended, gone, h⟩ := State.sendVideo_eq hr len index count flags last sig payload
  rw [h]
  rfl

end

/-! A region ends early (R152, R270) -/

/-- The incomplete packet that closes a region in progress, if it ends by E (R152). -/
def State.regionClosed (s : State) (c : Nat) : State :=
  let t := s.streamerOf c
  if s.fitsE c t (packetSymbols 0 true t.prefixed) then
    s.sendVideo c 0 t.packet (match t.regions with | r :: _ => regionPackets t.format r.width r.height | [] => 0)
      (128 + 64 + 32 * b2n t.repeat_) true 0 []
  else s

theorem State.endRegion_eq (s : State) (c : Nat) :
    s.endRegion c = ((s.regionClosed c).updStreamer c Streamer.dropRegion).streamerDone c := rfl

section
variable {s : State} {c : Nat} {r : TileRegion} {rs : List TileRegion} (hr : (s.streamerOf c).regions = r :: rs)
include hr

theorem State.streamerOf_regionClosed_work : ((s.regionClosed c).streamerOf c).work = (s.streamerOf c).work := by
  unfold State.regionClosed
  dsimp only
  split
  · exact State.streamerOf_sendVideo_work hr _ _ _ _ _ _ _
  · rfl

theorem State.par_regionClosed (id idx : Nat) : (s.regionClosed c).par id idx = s.par id idx := by
  unfold State.regionClosed
  dsimp only
  split
  · exact State.par_sendVideo hr _ _ _ _ _ _ _ _ _
  · rfl

/-- The next region follows, and what has been told stays. -/
theorem State.streamerOf_endRegion : ((s.endRegion c).streamerOf c).regions = rs ∧
    ((s.endRegion c).streamerOf c).dryTold = (s.streamerOf c).dryTold := by
  have hdone := ((s.regionClosed c).updStreamer c Streamer.dropRegion).streamerOf_streamerDone_work c
  have hclosed := State.streamerOf_regionClosed_work hr
  rw [← State.endRegion_eq, State.streamerOf_updStreamer_same] at hdone
  simp only [Streamer.work, Prod.mk.injEq] at hdone hclosed
  obtain ⟨hregions, -, -, hdry, -⟩ := hdone
  obtain ⟨hregions', -, -, hdry', -⟩ := hclosed
  refine ⟨hregions.trans ?_, hdry.trans hdry'⟩
  change ((s.regionClosed c).streamerOf c).regions.tail = rs
  rw [hregions', hr, List.tail_cons]

theorem State.par_endRegion {evs : List Nat} {id idx : Nat} (h : spared doneShows evs id idx = true) (hc : c < 65536) :
    (s.endRegion c).par id idx = s.par id idx := by
  rw [State.endRegion_eq, State.par_streamerDone h _ hc, State.par_updStreamer, State.par_regionClosed hr]

end

/-! A dry well (R270) -/

/-- A dry well is counted, and told if it has not been in this frame. -/
def State.dryCounted (s : State) (c : Nat) : State :=
  ((s.bump P.DRY_COUNT c).count 260).raiseIf (!(s.streamerOf c).dryTold) E.WELL_DRY c

theorem State.wellDry_eq (s : State) (c : Nat) :
    s.wellDry c = ((s.dryCounted c).updStreamer c fun t => { t with dryTold := true }).endRegion c := by
  unfold State.wellDry State.dryCounted
  dsimp only
  rw [State.streamerOf_congr (s := s) (by rw [State.count_scan, State.bump_scan])]

theorem State.streamerOf_dryCounted (s : State) (c d : Nat) : (s.dryCounted c).streamerOf d = s.streamerOf d := by
  refine State.streamerOf_congr ?_ d
  unfold State.dryCounted
  rw [State.raiseIf_scan, State.count_scan, State.bump_scan]

theorem State.par_count (s : State) (c n id idx : Nat) : (s.count c n).par id idx = s.par id idx := by
  rw [State.count_eq]
  rfl

theorem execDryLimitExpiry_ends {c : Fin 16} {s : State} {r : TileRegion} {rs : List TileRegion}
    (ha : (s.streamerOf c).active = true) (hr : (s.streamerOf c).regions = r :: rs)
    (hd : s.dryReached (s.streamerOf c) = true) (hw : s.wellLacks (s.streamerOf c) = true) :
    ∃ t, exec (.dryLimitExpiry c) s = .next t ∧
      t.par P.DRY_COUNT c = (s.par P.DRY_COUNT c + 1) % 2 ^ 32 ∧ (t.streamerOf c).regions = rs ∧
      (t.streamerOf c).dryTold = true ∧ ((s.streamerOf c).dryTold = false → s.told t E.WELL_DRY) := by
  have hc : c.val < 65536 := c.isLt.trans (by decide)
  have hmarked := (s.dryCounted c).streamerOf_updStreamer_same c fun t => { t with dryTold := true }
  rw [State.streamerOf_dryCounted] at hmarked
  have hregions : (((s.dryCounted c).updStreamer c fun t => { t with dryTold := true }).streamerOf c).regions = r :: rs := by
    rw [hmarked]
    exact hr
  obtain ⟨hnext, htold⟩ := State.streamerOf_endRegion hregions
  refine ⟨s.wellDry c, congrArg Host.Outcome.next (if_neg (by simp [ha, hr, hd, hw])), ?_, ?_, ?_, fun hnot => ?_⟩
  · rw [State.wellDry_eq, State.par_endRegion hregions (evs := []) (spared_iff.mpr ⟨hc, by decide, by simp⟩) hc,
      State.par_updStreamer, State.dryCounted, State.par_raiseIf _ _ _ _ _ (by decide) hc (by decide), State.par_count,
      State.par_bump]
  · rw [State.wellDry_eq, hnext]
  · rw [State.wellDry_eq, htold, hmarked]
  · have hcount : s.told (s.dryCounted c) E.WELL_DRY := by
      refine State.told_of_before (t := (s.bump P.DRY_COUNT c).count 260) ?_ ?_
      · rw [State.dryCounted, hnot]
        exact State.told_raise _ _ _ _ _ (by decide)
      · rw [State.par_count, State.par_bump_other _ (by decide) hc (by decide)]
    refine State.told_of_after hcount ?_
    rw [State.wellDry_eq, State.par_endRegion hregions (evs := []) (by decide) hc, State.par_updStreamer]

/-! E (R271) -/

/-- The region in progress is closed. -/
def State.lateClosed (s : State) (c : Nat) : State := if (s.streamerOf c).packet ≠ 0 then s.endRegion c else s

/-- The regions left at E are counted and told. -/
def State.lateCounted (s : State) (c : Nat) : State :=
  ((s.lateClosed c).bumpBy P.LATE_REGIONS c (s.streamerOf c).regions.length).raiseIf (!(s.streamerOf c).lateTold) E.SCANOUT_LATE c

/-- A streamer at E: no region is left to it. -/
def Streamer.abandoned (t : Streamer) : Streamer := { t with lateTold := true, regions := [], level := 0, unread := 0 }

theorem State.par_lateClosed {evs : List Nat} {id idx : Nat} (h : spared doneShows evs id idx = true) {s : State} {c : Nat}
    {r : TileRegion} {rs : List TileRegion} (hr : (s.streamerOf c).regions = r :: rs) (hc : c < 65536) :
    (s.lateClosed c).par id idx = s.par id idx := by
  unfold State.lateClosed
  split
  · exact State.par_endRegion hr h hc
  · rfl

theorem execScanEndPoint_leaves {c : Fin 16} {s : State} {r : TileRegion} {rs : List TileRegion}
    (ha : (s.streamerOf c).active = true) (hr : (s.streamerOf c).regions = r :: rs) :
    ∃ t, exec (.scanEndPoint c) s = .next t ∧
      t.par P.LATE_REGIONS c = (s.par P.LATE_REGIONS c + (rs.length + 1)) % 2 ^ 32 ∧ (t.streamerOf c).regions = [] ∧
      (t.streamerOf c).active = false ∧ ((s.streamerOf c).lateTold = false → s.told t E.SCANOUT_LATE) := by
  have hc : c.val < 65536 := c.isLt.trans (by decide)
  have hexec : exec (.scanEndPoint c) s = .next (((s.lateCounted c).updStreamer c Streamer.abandoned).streamerDone c) :=
    congrArg Host.Outcome.next (if_neg (by simp [ha, hr]))
  have hempty : (((s.lateCounted c).updStreamer c Streamer.abandoned).streamerOf c).regions = [] :=
    congrArg Streamer.regions (State.streamerOf_updStreamer_same _ _ _)
  have hdone := ((s.lateCounted c).updStreamer c Streamer.abandoned).streamerOf_streamerDone_work c
  refine ⟨_, hexec, ?_, ?_, State.active_streamerDone _ _ hempty, fun hnot => ?_⟩
  · have hs : spared doneShows [] P.LATE_REGIONS c = true := spared_iff.mpr ⟨hc, by decide, by simp⟩
    rw [State.par_streamerDone hs _ hc, State.par_updStreamer, State.lateCounted,
      State.par_raiseIf _ _ _ _ _ (by decide) hc (by decide), State.bumpBy, State.par_setPar, State.par_lateClosed hs hr hc, hr,
      List.length_cons]
  · exact (congrArg Prod.fst hdone).trans hempty
  · have hs : spared doneShows [] P.EVENT_COUNT E.SCANOUT_LATE = true := by decide
    have htold : s.told (s.lateCounted c) E.SCANOUT_LATE := by
      rw [State.lateCounted, hnot]
      refine State.told_of_before (State.told_raise _ _ _ _ _ (by decide)) ?_
      rw [State.bumpBy, State.par_setPar_other _ _ (by decide) hc (by decide), State.par_lateClosed hs hr hc]
    refine State.told_of_after htold ?_
    rw [State.par_streamerDone hs _ hc, State.par_updStreamer]

/-! The next packet (R149, R266, R267) -/

/-- The canvas a streamer of frame content `k` reads. -/
def State.canvasShown (s : State) (k : Nat) : Canvas :=
  match s.scan.last with
  | some (cv, _) => if cv.frame = k then cv else s.canvasOf k
  | none => s.canvasOf k

/-- A streamer whose packet of `len` bytes has started. -/
def Streamer.advanced (len : Nat) (last : Bool) (t : Streamer) : Streamer :=
  Streamer.relevel { t with level := t.level - len, levelWas := t.levelWas - len, packet := if last then 0 else t.packet + 1
                            regions := if last then t.regions.tail else t.regions }

theorem Streamer.packet_advanced (len : Nat) (last : Bool) (t : Streamer) :
    (t.advanced len last).packet = if last then 0 else t.packet + 1 := rfl

theorem Streamer.regions_advanced (len : Nat) (last : Bool) (t : Streamer) :
    (t.advanced len last).regions = if last then t.regions.tail else t.regions := rfl

/-- The next packet of region `r`, the first of its streamer, has left. -/
def State.nextSent (s : State) (c : Nat) (r : TileRegion) (sig : Nat) (pay : List Byte) : State :=
  let d := s.streamerOf c
  let count := regionPackets d.format r.width r.height
  let last := decide (d.packet + 1 = count)
  s.sendVideo c d.nextLen d.packet count (128 * b2n last + 32 * b2n d.repeat_) last (if last then sig else 0) pay

/-- Nothing but the payload can still hold the next packet of chain `c` back: the lane is UP and free, the packet due, its region
clean, its content known, and it ends by E. -/
def State.packetTurn (s : State) (c k : Nat) (r : TileRegion) : Prop :=
  (s.streamerOf c).active = true ∧ s.chainUp c = true ∧ s.clusterOut .image 4 = false ∧ dueAt (s.streamerOf c) ≤ s.nowQ ∧
    (s.streamerOf c).lastEnd ≤ ⌊s.nowQ * 65536⌋ ∧ (s.streamerOf c).poisoned.contains r.number = false ∧
    (s.streamerOf c).content = some k ∧
    s.fitsE c (s.streamerOf c) (packetSymbols (s.streamerOf c).nextLen
      (decide ((s.streamerOf c).packet + 1 = regionPackets (s.streamerOf c).format r.width r.height))
      (s.streamerOf c).prefixed) = true

section
variable {c : Fin 16} {k : Nat} {s : State} {r : TileRegion} {rs : List TileRegion}
  (hr : (s.streamerOf c).regions = r :: rs) (hturn : s.packetTurn c k r)
include hr hturn

/-- At a packet's turn the payload decides (R266, R270). -/
theorem execScanoutPacketStart_eq : ∃ sig pay, exec (.scanoutPacketStart c) s = .next
    (if (s.dryReached (s.streamerOf c) && s.wellLacks (s.streamerOf c)) = true then s.wellDry c
    else if (s.streamerOf c).level < (s.streamerOf c).nextLen then s
    else ((s.nextSent c r sig pay).updStreamer c (Streamer.advanced (s.streamerOf c).nextLen
      (decide ((s.streamerOf c).packet + 1 = regionPackets (s.streamerOf c).format r.width r.height)))).streamerDone c) := by
  obtain ⟨ha, hup, hout, hdue, hfree, hclean, hcontent, hfits⟩ := hturn
  refine ⟨crc64 (regionPayload (s.canvasShown k) (s.streamerOf c).format r),
    (((regionPayload (s.canvasShown k) (s.streamerOf c).format r).drop
      ((s.streamerOf c).packet * (groupOf (s.streamerOf c).format).2.2)).take (s.streamerOf c).nextLen),
    congrArg Host.Outcome.next ?_⟩
  dsimp only
  rw [hr]
  dsimp only
  rw [if_neg (by simp [ha, hup, hout, hdue, hfree]), if_neg (by rw [hclean]; decide), hcontent]
  dsimp only
  rw [if_neg (by rw [hfits]; decide)]
  rfl

theorem execScanoutPacketStart_waits (hd : s.dryReached (s.streamerOf c) = false)
    (hl : (s.streamerOf c).level < (s.streamerOf c).nextLen) : exec (.scanoutPacketStart c) s = .next s := by
  obtain ⟨sig, pay, h⟩ := execScanoutPacketStart_eq hr hturn
  rw [h, if_neg (by simp [hd]), if_pos hl]

theorem execScanoutPacketStart_sends (hd : (s.dryReached (s.streamerOf c) && s.wellLacks (s.streamerOf c)) = false)
    (hl : (s.streamerOf c).nextLen ≤ (s.streamerOf c).level) :
    let d := s.streamerOf c
    let last := decide (d.packet + 1 = regionPackets d.format r.width r.height)
    ∃ t pre sig pay, exec (.scanoutPacketStart c) s = .next t ∧
      t.outbox = pre ++ Out.packet c K.VIDEO ([b2n d.prefixed, r.dest, s.par P.DEVICE_ID, d.epoch, d.frame,
        d.packet * (groupOf d.format).2.2, d.packet, regionPackets d.format r.width r.height,
        128 * b2n last + 32 * b2n d.repeat_, d.format, (if last = true then d.gap else 0), sig] ++ pay) :: s.outbox ∧
      (t.streamerOf c).level = d.level - d.nextLen ∧
      (last = false → pre = [] ∧ sig = 0 ∧ (t.streamerOf c).packet = d.packet + 1 ∧ (t.streamerOf c).regions = r :: rs) ∧
      (last = true → (t.streamerOf c).packet = 0 ∧ (t.streamerOf c).regions = rs) ∧
      ∀ e, e ≠ c.val → t.streamerOf e = s.streamerOf e := by
  intro d last
  obtain ⟨sig, pay, hexec⟩ := execScanoutPacketStart_eq hr hturn
  rw [if_neg (by simp [hd]), if_neg (Nat.not_lt.mpr hl)] at hexec
  have hsent : ((s.nextSent c r sig pay).streamerOf c).work = d.work := State.streamerOf_sendVideo_work hr _ _ _ _ _ _ _
  have hout := State.outbox_sendVideo hr d.nextLen d.packet (regionPackets d.format r.width r.height)
    (128 * b2n last + 32 * b2n d.repeat_) last (if last = true then sig else 0) pay
  have helse (e : Nat) (he : e ≠ c.val) : (s.nextSent c r sig pay).streamerOf e = s.streamerOf e :=
    State.streamerOf_sendVideo_ne hr _ _ _ _ _ _ _ he
  have hadv := (s.nextSent c r sig pay).streamerOf_updStreamer_same c (Streamer.advanced d.nextLen last)
  have hwork := ((s.nextSent c r sig pay).updStreamer c (Streamer.advanced d.nextLen last)).streamerOf_streamerDone_work c
  obtain ⟨pre, hpre, hnone⟩ :=
    ((s.nextSent c r sig pay).updStreamer c (Streamer.advanced d.nextLen last)).outbox_streamerDone c
  rw [hadv] at hwork hnone
  simp only [Streamer.work, Prod.mk.injEq] at hsent hwork
  obtain ⟨hregions, hpacket, hlevel, -, -⟩ := hsent
  obtain ⟨hregions', hpacket', hlevel', -, -⟩ := hwork
  refine ⟨_, pre, if last = true then sig else 0, pay.map (·.toNat), hexec, ?_, ?_, fun hlast => ?_, fun hlast => ?_, fun e he => ?_⟩
  · rw [hpre]
    exact congrArg (pre ++ ·) hout
  · rw [hlevel']
    exact congrArg (· - d.nextLen) hlevel
  · have hleft : (((s.nextSent c r sig pay).streamerOf c).advanced d.nextLen last).regions = r :: rs := by
      rw [Streamer.regions_advanced, hlast, hregions, hr, if_neg (by decide)]
    refine ⟨hnone (by rw [hleft]; exact List.cons_ne_nil r rs), by simp [hlast], hpacket'.trans ?_, hregions'.trans hleft⟩
    rw [Streamer.packet_advanced, hlast, hpacket, if_neg (by decide)]
  · refine ⟨hpacket'.trans ?_, hregions'.trans ?_⟩
    · rw [Streamer.packet_advanced, hlast, if_pos rfl]
    · rw [Streamer.regions_advanced, hlast, hregions, hr, if_pos rfl, List.tail_cons]
  · rw [State.streamerOf_streamerDone_ne _ he, State.streamerOf_updStreamer_ne _ _ he, helse e he]

end

/-- Settles O38: the loads of R168, and a chain's packets, dry wells and ends of R266 to R271. -/
theorem scanOut : Obligations.ScanOut := by
  unfold Obligations.ScanOut
  refine ⟨execChainLoadRecompute_shows, ?_⟩
  intro c s r rs d ha hr
  refine ⟨?_, execDryLimitExpiry_ends ha hr, execScanEndPoint_leaves ha hr⟩
  intro k hup hout hdue hfree hclean hcontent last hfits
  have hturn : s.packetTurn c k r := ⟨ha, hup, hout, hdue, hfree, hclean, hcontent, hfits⟩
  exact ⟨execScanoutPacketStart_waits hr hturn, execScanoutPacketStart_sends hr hturn⟩

end Sys2Proof.Machine
end

section
/-! Link management between neighbours: ECHO, LATENCY and IDENT (R159 to R162; readings of log entry 12). -/

namespace Sys2Proof.Machine

/-! Records of the links -/

theorem State.linkOf_congr {s t : State} (h : t.chain.links = s.chain.links) (p : Nat) : t.linkOf p = s.linkOf p := by
  unfold State.linkOf
  rw [h]

theorem State.linkOf_updLink_same (s : State) (p : Nat) (f : Link → Link) : (s.updLink p f).linkOf p = f (s.linkOf p) :=
  SMap.get_set_same _ _ _ _

theorem State.linkOf_updLink_ne (s : State) {p q : Nat} (f : Link → Link) (h : q ≠ p) : (s.updLink p f).linkOf q = s.linkOf q :=
  SMap.get_set_ne _ _ _ _ h

theorem State.par_updLink (s : State) (p : Nat) (f : Link → Link) (id idx : Nat) : (s.updLink p f).par id idx = s.par id idx := rfl

theorem State.linkOf_setPar (s : State) (id idx v p : Nat) : (s.setPar id idx v).linkOf p = s.linkOf p := rfl

/-! What every link-management packet shares (R146, R159) -/

theorem State.hold_only (s : State) (k : HeldPkt) :
    s.hold k = { s with chain := { s.chain with guarded := (s.hold k).chain.guarded } } ∧
      (s.hold k).chain.guarded.length = s.chain.guarded.length + 1 :=
  ⟨rfl, List.length_append⟩

section
variable {p : Fin 20} {s : State} (hup : s.chainUp p = true)
include hup

theorem exec_linkPacket_badCrc : ∀ c ∈ ([.echoReq p 0 false 0, .echoResp p 0 0 false 0, .latency p ⟨0, 0, 0, true⟩ false,
    .ident p 0 false] : List Instr), exec c s = .next (s.bump P.CRC_ERRORS p) := by
  have hdown : ¬ (!s.chainUp p) = true := by simp [hup]
  simp only [List.mem_cons, List.not_mem_nil, or_false]
  rintro c (rfl | rfl | rfl | rfl) <;> exact congrArg Host.Outcome.next ((if_neg hdown).trans (if_pos rfl))

theorem exec_linkPacket_waits (hq : s.linkQuiet p = true) :
    ∀ c ∈ ([.echoReq p 0 true 0, .echoSendTimer p 0, .latencySendTimer p, .identSendTimer p] : List Instr),
      ∃ t, exec c s = .next t ∧ t = { s with chain := { s.chain with guarded := t.chain.guarded } } ∧
        t.chain.guarded.length = s.chain.guarded.length + 1 := by
  have hdown : ¬ (!s.chainUp p) = true := by simp [hup]
  simp only [List.mem_cons, List.not_mem_nil, or_false]
  rintro c (rfl | rfl | rfl | rfl)
  · exact ⟨_, congrArg Host.Outcome.next ((if_neg hdown).trans ((if_neg (by decide)).trans (if_pos hq))), s.hold_only _⟩
  all_goals exact ⟨_, congrArg Host.Outcome.next ((if_neg hdown).trans (if_pos hq)), s.hold_only _⟩

/-! ECHO (R159, R160) -/

theorem execEchoReq_answers (seq : BitVec 16) (turn : BitVec 40) (hq : s.linkQuiet p = false) :
    ∃ t, exec (.echoReq p seq true turn) s = .next t ∧ t = { s with chain := t.chain, outbox := t.outbox } ∧
      t.outbox = .packet p 2 [seq.toNat, turn.toNat] :: s.outbox := by
  have hexec : exec (.echoReq p seq true turn) s = .next (s.sendLink p 2 (some seq.toNat) [turn.toNat]) :=
    congrArg Host.Outcome.next ((if_neg (by simp [hup])).trans ((if_neg (by decide)).trans (if_neg (by simp [hq]))))
  exact ⟨_, hexec, rfl, rfl⟩

theorem execEchoSendTimer_asks (t1 : Nat) (hq : s.linkQuiet p = false) :
    ∃ t, exec (.echoSendTimer p t1) s = .next t ∧ (t.linkOf p).echo = some ((s.linkOf p).seq, t1) ∧
      (t.linkOf p).seq = ((s.linkOf p).seq + 1) % 2 ^ 16 ∧ t.outbox = .packet p 1 [(s.linkOf p).seq] :: s.outbox ∧
      t = { s with chain := t.chain, outbox := t.outbox } ∧ ∀ p', p' ≠ p.val → t.linkOf p' = s.linkOf p' := by
  have hexec : exec (.echoSendTimer p t1) s = .next (s.sendEcho p t1) :=
    congrArg Host.Outcome.next ((if_neg (by simp [hup])).trans (if_neg (by simp [hq])))
  have hsent : ((s.sendLink p 1 none []).linkOf p).seq = ((s.linkOf p).seq + 1) % 2 ^ 16 :=
    congrArg Link.seq (s.linkOf_updLink_same p _)
  have hrecord := (s.sendLink p 1 none []).linkOf_updLink_same p fun l => { l with echo := some ((s.linkOf p).seq, t1) }
  refine ⟨_, hexec, congrArg Link.echo hrecord, (congrArg Link.seq hrecord).trans hsent, rfl, rfl, fun q hne => ?_⟩
  exact ((s.sendLink p 1 none []).linkOf_updLink_ne _ hne).trans (s.linkOf_updLink_ne _ hne)

end

/-! L and POSITION (R160) -/

theorem State.deriveLatency_eq (s : State) (p : Nat) : s.deriveLatency p = { s with dict := (s.deriveLatency p).dict } := by
  unfold State.deriveLatency
  split
  · rfl
  · split
    · dsimp only
      split <;> rfl
    · rfl

theorem State.linkOf_deriveLatency (s : State) (p q : Nat) : (s.deriveLatency p).linkOf q = s.linkOf q := by
  rw [State.deriveLatency_eq]
  rfl

theorem State.par_deriveLatency {ids evs : List Nat} {id idx : Nat} (h : spared ids evs id idx = true) (s : State) {p : Nat}
    (hp : p < 65536) (hpos : P.POSITION ∈ ids) (hl : P.LATENCY ∈ ids) : (s.deriveLatency p).par id idx = s.par id idx := by
  unfold State.deriveLatency
  split
  · rfl
  · split
    · dsimp only
      split
      · exact (State.par_setPar_spared h _ _ hl hp).trans (State.par_setPar_spared h _ _ hpos hp)
      · rfl
    · exact (State.par_setPar_spared h _ _ hl hp).trans (State.par_setPar_spared h _ _ hpos hp)

/-- A tile with a measured link behind its neighbour's LATENCY takes its own POSITION and L (R160). -/
theorem State.deriveLatency_takes (s : State) {p o pos lout : Nat} (hp : p < 65536) (htile : s.isTile = true)
    (hup : (s.linkOf p).up = some (o, pos, lout)) (hm : (s.linkOf p).measured = true) (hf : (s.linkOf p).stale = false) :
    (s.deriveLatency p).par P.POSITION p = (pos + 1) % 2 ^ 8 ∧
      (s.deriveLatency p).par P.LATENCY p = (lout + (s.linkOf p).d) % 2 ^ 40 := by
  have heq : s.deriveLatency p =
      (s.setPar P.POSITION p ((pos + 1) % 256)).setPar P.LATENCY p ((lout + (s.linkOf p).d) % 2 ^ 40) := by
    unfold State.deriveLatency
    rw [if_neg (by simp [htile]), hup]
    dsimp only
    rw [if_pos hm, State.linkOf_setPar, hf]
    rfl
  rw [heq]
  exact ⟨(State.par_setPar_other _ _ (by decide) hp hp).trans (State.par_setPar _ _ _ _), State.par_setPar _ _ _ _⟩

/-! The link's delay (R160, R161) -/

/-- A link whose delay is `v` from now on. -/
def Link.delayed (v : Nat) (l : Link) : Link := { l with measured := true, d := v, cand := [] }

/-- The delay in use becomes `v` (R161). -/
def State.delayTaken (s : State) (p v : Nat) : State :=
  ((if p < 16 then s.setPar P.LINK_DELAY p v else s).updLink p (Link.delayed v)).deriveLatency p

/-- The first measurement, or one within 1 ns of the delay in use, is taken at once (R161, log entry 12). -/
theorem State.measure_takes (s : State) (p : Nat) (d : Int)
    (h : (s.linkOf p).measured = false ∨ within1ns d (s.linkOf p).d = true) :
    s.measure p d = s.delayTaken p (min d.toNat 0xFFFFFFFF) := by
  refine if_pos ?_
  rcases h with h | h <;> simp [h]

theorem State.linkOf_delayTaken (s : State) (p v q : Nat) :
    (s.delayTaken p v).linkOf q = (s.updLink p (Link.delayed v)).linkOf q := by
  unfold State.delayTaken
  rw [State.linkOf_deriveLatency]
  split <;> rfl

theorem State.par_delayTaken (s : State) {p : Nat} (v : Nat) (hp : p < 16) : (s.delayTaken p v).par P.LINK_DELAY p = v := by
  have hs : spared [P.POSITION, P.LATENCY] [] P.LINK_DELAY p = true :=
    spared_iff.mpr ⟨hp.trans (by decide), by decide, fun h => absurd h (by decide)⟩
  rw [State.delayTaken, if_pos hp, State.par_deriveLatency hs _ (hp.trans (by decide)) (by decide) (by decide), State.par_updLink,
    State.par_setPar]

theorem execEchoResp_measures {p : Fin 20} {s : State} (hup : s.chainUp p = true) (seq : BitVec 16) (turn : BitVec 40)
    (t1 t2 : Nat) (hecho : (s.linkOf p).echo = some (seq.toNat, t1)) :
    let d : Int := Int.fdiv ((t2 : Int) - t1 - turn.toNat) 2 + s.asymmetry p
    (s.linkOf p).measured = false ∨ within1ns d (s.linkOf p).d = true →
    ∃ t, exec (.echoResp p seq turn true t2) s = .next t ∧ (t.linkOf p).measured = true ∧ (t.linkOf p).echo = none ∧
      (t.linkOf p).d = min d.toNat 0xFFFFFFFF ∧ (p.val < 16 → t.par P.LINK_DELAY p = min d.toNat 0xFFFFFFFF) ∧
      ∀ p', p' ≠ p.val → t.linkOf p' = s.linkOf p' := by
  intro d hd
  have hcleared := s.linkOf_updLink_same p fun l => { l with echo := none }
  have htaken := (s.updLink p fun l => { l with echo := none }).measure_takes p d (by rw [hcleared]; exact hd)
  have hexec : exec (.echoResp p seq turn true t2) s =
      .next ((s.updLink p fun l => { l with echo := none }).delayTaken p (min d.toNat 0xFFFFFFFF)) := by
    rw [← htaken]
    refine congrArg Host.Outcome.next ((if_neg (by simp [hup])).trans ((if_neg (by decide)).trans ?_))
    rw [hecho]
    exact if_neg (fun hne => hne rfl)
  have hlink := (State.linkOf_delayTaken (s.updLink p fun l => { l with echo := none }) p (min d.toNat 0xFFFFFFFF) p).trans
    (State.linkOf_updLink_same _ _ _)
  refine ⟨_, hexec, by rw [hlink]; rfl, ?_, by rw [hlink]; rfl, fun hp => State.par_delayTaken _ _ hp, fun q hne => ?_⟩
  · rw [hlink, hcleared]
    rfl
  · rw [State.linkOf_delayTaken, State.linkOf_updLink_ne _ _ hne, State.linkOf_updLink_ne _ _ hne]

/-! LATENCY (R160, R161) -/

/-- What a LATENCY says of the neighbour; nothing where the neighbour has no valid L. -/
def latencySays (body : LatencyBody) : Option (Nat × Nat × Nat) :=
  if body.valid then some (body.origin.toNat, body.position.toNat, body.lout.toNat) else none

/-- The LATENCY received is noted. -/
def State.latencyNoted (s : State) (p : Nat) (body : LatencyBody) : State :=
  s.updLink p fun l => { l with up := latencySays body, upAt := s.now, stale := false }

theorem execLatency_takes {p : Fin 20} {s : State} (hup : s.chainUp p = true) (body : LatencyBody) :
    ∃ t, exec (.latency p body true) s = .next t ∧ (t.linkOf p).upAt = s.now ∧ (t.linkOf p).stale = false ∧
      (t.linkOf p).up = (if body.valid = true then some (body.origin.toNat, body.position.toNat, body.lout.toNat) else none) ∧
      (s.isTile = true → body.valid = true → (s.linkOf p).measured = true →
        t.par P.POSITION p = (body.position.toNat + 1) % 2 ^ 8 ∧
          t.par P.LATENCY p = (body.lout.toNat + (s.linkOf p).d) % 2 ^ 40) ∧ s.samePars t [P.POSITION, P.LATENCY] := by
  have hp : p.val < 65536 := p.isLt.trans (by decide)
  have hexec : exec (.latency p body true) s = .next ((s.latencyNoted p body).deriveLatency p) :=
    congrArg Host.Outcome.next ((if_neg (by simp [hup])).trans (if_neg (by decide)))
  have hnoted : (s.latencyNoted p body).linkOf p = { s.linkOf p with up := latencySays body, upAt := s.now, stale := false } :=
    s.linkOf_updLink_same p _
  have hlink := ((s.latencyNoted p body).linkOf_deriveLatency p p).trans hnoted
  refine ⟨_, hexec, by rw [hlink], by rw [hlink], by rw [hlink]; rfl, fun htile hv hm => ?_, fun id idx hid hx => ?_⟩
  · have htold : ((s.latencyNoted p body).linkOf p).up = some (body.origin.toNat, body.position.toNat, body.lout.toNat) := by
      rw [hnoted]
      exact if_pos hv
    have htakes := (s.latencyNoted p body).deriveLatency_takes hp htile htold (by rw [hnoted]; exact hm) (by rw [hnoted])
    rw [hnoted] at htakes
    exact htakes
  · have hs : spared [P.POSITION, P.LATENCY] [] id idx = true := spared_iff.mpr ⟨hx, hid, fun _ => List.not_mem_nil⟩
    exact (State.par_deriveLatency hs _ hp (by decide) (by decide)).trans rfl

theorem execLatencySendTimer_head {p : Fin 20} {s : State} (hup : s.chainUp p = true) (hq : s.linkQuiet p = false)
    (hh : s.isHead = true) : ∃ t, exec (.latencySendTimer p) s = .next t ∧
      t.outbox = .packet p 3 [(s.linkOf p).seq, s.par P.DEVICE_ID, 0, 0, 1] :: s.outbox ∧ t.dict = s.dict := by
  have hexec : exec (.latencySendTimer p) s = .next (s.sendLink p 3 none [s.par P.DEVICE_ID, 0, 0, 1]) :=
    congrArg Host.Outcome.next ((if_neg (by simp [hup])).trans ((if_neg (by simp [hq])).trans (if_pos hh)))
  exact ⟨_, hexec, rfl, rfl⟩

/-- The flag of a port's stale values is set (R161). -/
def Link.marked (l : Link) : Link := { l with stale := true }

/-- A tile shows a stale L with its flag (R161). -/
def State.staleShown (s : State) (p : Nat) : State := if s.isTile then s.setPar P.LATENCY p (s.latency p + 2 ^ 63) else s

theorem State.linkOf_staleShown (s : State) (p q : Nat) : (s.staleShown p).linkOf q = s.linkOf q := by
  unfold State.staleShown
  split
  · exact s.linkOf_setPar _ _ _ _
  · rfl

theorem State.par_staleShown_tile (s : State) (p : Nat) (h : s.isTile = true) :
    (s.staleShown p).par P.LATENCY p = s.par P.LATENCY p % 2 ^ 40 + 2 ^ 63 := by
  rw [State.staleShown, if_pos h, State.par_setPar, State.latency]

theorem State.par_staleShown_other (s : State) {p id idx : Nat} (hp : p < 65536) (hid : id ≠ P.LATENCY) (hx : idx < 65536) :
    (s.staleShown p).par id idx = s.par id idx := by
  unfold State.staleShown
  split
  · exact State.par_setPar_other _ _ hid hp hx
  · rfl

theorem execLatencyStaleTimer_late {p : Fin 20} {s : State} (hlive : ¬ (!s.chainUp p || (s.linkOf p).stale) = true)
    (hnow : (s.linkOf p).upAt = s.now) : exec (.latencyStaleTimer p true) s = .next (s.raise E.LATENCY_STALE p) :=
  congrArg Host.Outcome.next ((if_neg hlive).trans (if_pos (by simp [hnow])))

theorem execLatencyStaleTimer_inTime {p : Fin 20} {s : State} {tie : Bool} (hlive : ¬ (!s.chainUp p || (s.linkOf p).stale) = true)
    (h : tie = false ∨ (s.linkOf p).upAt ≠ s.now) :
    exec (.latencyStaleTimer p tie) s = .next (((s.updLink p Link.marked).staleShown p).raise E.LATENCY_STALE p) := by
  refine congrArg Host.Outcome.next ((if_neg hlive).trans ((if_neg ?_).trans rfl))
  rcases h with h | h <;> simp [h]

theorem execLatencyStaleTimer_marks (p : Fin 20) (tie : Bool) (s : State) (hup : s.chainUp p = true)
    (hf : (s.linkOf p).stale = false) :
    ∃ t, exec (.latencyStaleTimer p tie) s = .next t ∧ s.told t E.LATENCY_STALE ∧
      (tie = false ∨ (s.linkOf p).upAt ≠ s.now → (t.linkOf p).stale = true ∧
        (s.isTile = true → t.par P.LATENCY p = s.par P.LATENCY p % 2 ^ 40 + 2 ^ 63)) ∧
      (tie = true → (s.linkOf p).upAt = s.now → t.chain = s.chain) := by
  have hp : p.val < 65536 := p.isLt.trans (by decide)
  have hlive : ¬ (!s.chainUp p || (s.linkOf p).stale) = true := by simp [hup, hf]
  by_cases h : tie = false ∨ (s.linkOf p).upAt ≠ s.now
  · refine ⟨_, execLatencyStaleTimer_inTime hlive h, State.told_of_before (State.told_raise _ _ _ _ _ (by decide)) ?_,
      fun _ => ⟨?_, fun htile => ?_⟩, fun htie hnow => absurd h (by simp [htie, hnow])⟩
    · rw [State.par_staleShown_other _ hp (by decide) (by decide), State.par_updLink]
    · rw [State.linkOf_congr (congrArg PartChain.links (State.raise_chain _ _ _ _ _)), State.linkOf_staleShown,
        State.linkOf_updLink_same, Link.marked]
    · rw [State.par_raise _ _ _ _ _ (by decide) hp (by decide), (s.updLink p Link.marked).par_staleShown_tile p htile,
        State.par_updLink]
  · simp only [not_or, Bool.not_eq_false, not_not] at h
    obtain ⟨rfl, hnow⟩ := h
    exact ⟨_, execLatencyStaleTimer_late hlive hnow, State.told_raise _ _ _ _ _ (by decide),
      fun hor => absurd hnow (hor.resolve_left (by decide)), fun _ _ => State.raise_chain _ _ _ _ _⟩

/-! IDENT (R159) -/

theorem execIdent_records {p : Fin 20} {s : State} (hup : s.chainUp p = true) (body : BitVec 40) :
    ∃ t, exec (.ident p body true) s = .next t ∧ (t.linkOf p).known = true ∧
      t.blob P.NEIGHBOUR p 0 5 = leBytes 5 body.toNat ∧
      ((s.linkOf p).known = true → s.blobNat P.NEIGHBOUR p 0 5 ≠ body.toNat → s.told t E.NEIGHBOUR_CHANGED) ∧
      ((s.linkOf p).known = false ∨ s.blobNat P.NEIGHBOUR p 0 5 = body.toNat → t.dict = s.dict) := by
  generalize hdiff : ((s.linkOf p).known && s.blobNat P.NEIGHBOUR p 0 5 != body.toNat) = differs
  generalize hset : s.setBlob P.NEIGHBOUR p 0 (leBytes 5 body.toNat) = u
  have hu : u = { s with blobs := u.blobs } := by
    rw [← hset]
    exact s.setBlob_eq _ _ _ _
  have hexec : exec (.ident p body true) s =
      .next ((u.updLink p fun l => { l with known := true }).raiseIf differs E.NEIGHBOUR_CHANGED p) := by
    rw [← hset, ← hdiff]
    exact congrArg Host.Outcome.next ((if_neg (by simp [hup])).trans (if_neg (by decide)))
  refine ⟨_, hexec, ?_, ?_, fun hk hne => ?_, fun h => ?_⟩
  · rw [State.linkOf_congr (congrArg PartChain.links (State.raiseIf_chain _ _ _ _ _)), State.linkOf_updLink_same]
  · have hblob := s.blob_setBlob_append P.NEIGHBOUR p (leBytes 5 body.toNat) []
    rw [List.append_nil, leBytes_length, hset] at hblob
    exact (State.blob_congr (State.raiseIf_blobs _ _ _ _ _) _ _ _ _).trans hblob
  · have htrue : differs = true := by simp [← hdiff, hk, hne]
    rw [htrue]
    refine State.told_of_before (State.told_raise _ _ _ _ _ (by decide)) ?_
    rw [State.par_updLink, hu]
    rfl
  · have hfalse : differs = false := by
      rw [← hdiff]
      rcases h with h | h <;> simp [h]
    rw [hfalse, hu]
    rfl

theorem execIdentSendTimer_sends {p : Fin 20} {s : State} (hup : s.chainUp p = true) (hq : s.linkQuiet p = false) :
    ∃ t, exec (.identSendTimer p) s = .next t ∧ t.dict = s.dict ∧
      t.outbox = .packet p 4 [(s.linkOf p).seq, s.par P.DEVICE_ID,
        (if s.isHead = true then 1 else if s.isTile = true then 2 else 0) + 4 * b2n s.sideB + 8 * b2n s.paired,
        s.par P.LINK_VERSION] :: s.outbox := by
  have hexec : exec (.identSendTimer p) s = .next (s.sendIdent p) :=
    congrArg Host.Outcome.next ((if_neg (by simp [hup])).trans (if_neg (by simp [hq])))
  exact ⟨_, hexec, rfl, rfl⟩

/-! A head's reading of its chain's L (R162) -/

/-- A control packet of a head: it leaves at once, or waits for the end of the guard (R153, R158). -/
theorem State.headSend_sends (s : State) (c dest size : Nat) (o : Out) :
    s.headSend c dest size o = { s with chain := { s.chain with ctrlUsed := (s.headSend c dest size o).chain.ctrlUsed
                                                                guarded := (s.headSend c dest size o).chain.guarded }
                                        outbox := (s.headSend c dest size o).outbox } ∧
      (s.linkQuiet c = false →
        (s.headSend c dest size o).outbox = o :: .packet c K.CONTROL ((s.ctrlSpend c size).controlHeader dest size) :: s.outbox) := by
  unfold State.headSend
  dsimp only
  rw [State.linkQuiet_ctrlSpend]
  split
  · rename_i hq
    exact ⟨rfl, fun hn => absurd (hq.symm.trans hn) (by decide)⟩
  · exact ⟨rfl, fun _ => rfl⟩

/-- A head's READ of L goes to the last tile of the chain. -/
def State.latencyAsked (s : State) (c : Nat) : State :=
  match (onChain s.regions c).getLast? with
  | some r => s.headSend c (r.dest % 4096) (controlSymbols (readSize 2)) (.odRead (r.dest % 4096) [(P.LATENCY, 0), (P.LATENCY, 1)])
  | none => s

theorem State.latencyAsked_eq (s : State) (c : Nat) : s.latencyAsked c =
    { s with chain := { s.chain with ctrlUsed := (s.latencyAsked c).chain.ctrlUsed, guarded := (s.latencyAsked c).chain.guarded }
             outbox := (s.latencyAsked c).outbox } := by
  unfold State.latencyAsked
  split
  · exact (s.headSend_sends _ _ _ _).1
  · rfl

theorem State.latencyAsked_sends (s : State) (c : Nat) {r : TileRegion} (hr : (onChain s.regions c).getLast? = some r)
    (hq : s.linkQuiet c = false) :
    Out.odRead (r.dest % 4096) [(P.LATENCY, 0), (P.LATENCY, 1)] ∈ (s.latencyAsked c).outbox := by
  unfold State.latencyAsked
  rw [hr]
  dsimp only
  rw [(s.headSend_sends _ _ _ _).2 hq]
  exact List.mem_cons_self

/-- A value read is taken where it is valid: not stale, and not the 0 of a tile without a valid L (R162). -/
def State.latencyRead (s : State) (c : Nat) (v : Option (BitVec 64)) : State :=
  match v with
  | none => s
  | some w =>
    if bit w.toNat 63 || w.toNat % 2 ^ 40 == 0 then s
    else (({ s with chain := { s.chain with lValid := NSet.add s.chain.lValid c } } : State)).setPar P.CHAIN_L c (w.toNat % 2 ^ 40)

theorem State.latencyRead_leaves (s : State) (c : Nat) {v : Option (BitVec 64)}
    (h : ∀ w, v = some w → bit w.toNat 63 = true ∨ w.toNat % 2 ^ 40 = 0) : s.latencyRead c v = s := by
  unfold State.latencyRead
  cases v with
  | none => rfl
  | some w =>
    refine if_pos ?_
    simp only [Bool.or_eq_true, beq_iff_eq]
    exact h w rfl

theorem State.latencyRead_takes (s : State) (c : Nat) {w : BitVec 64} (hs : bit w.toNat 63 = false) (hz : w.toNat % 2 ^ 40 ≠ 0) :
    s.latencyRead c (some w) =
      (({ s with chain := { s.chain with lValid := NSet.add s.chain.lValid c } } : State)).setPar P.CHAIN_L c (w.toNat % 2 ^ 40) :=
  if_neg (by
    simp only [Bool.or_eq_true, beq_iff_eq, not_or]
    exact ⟨by rw [hs]; decide, hz⟩)

/-- A reading is either left or taken. -/
theorem State.latencyRead_cases (s : State) (c : Nat) (v : Option (BitVec 64)) : s.latencyRead c v = s ∨
    ∃ l, s.latencyRead c v =
      (({ s with chain := { s.chain with lValid := NSet.add s.chain.lValid c } } : State)).setPar P.CHAIN_L c l := by
  by_cases h : ∀ w, v = some w → bit w.toNat 63 = true ∨ w.toNat % 2 ^ 40 = 0
  · exact .inl (s.latencyRead_leaves c h)
  · simp only [not_forall, not_or, Bool.not_eq_true] at h
    obtain ⟨w, rfl, hs, hz⟩ := h
    exact .inr ⟨_, s.latencyRead_takes c hs hz⟩

theorem State.par_latencyRead_ne (s : State) (c : Nat) (v : Option (BitVec 64)) {id idx : Nat}
    (h : pkey id idx ≠ pkey P.CHAIN_L c) : (s.latencyRead c v).par id idx = s.par id idx := by
  rcases s.latencyRead_cases c v with e | ⟨l, e⟩ <;> rw [e]
  exact State.par_setPar_ne _ _ h

theorem execChainLatencyRead_reads (c : Fin 16) (v : Option (BitVec 64)) (s : State) (hh : s.isHead = true) :
    ∃ t, exec (.chainLatencyRead c v) s = .next t ∧
      (∀ r, (onChain s.regions c).getLast? = some r → s.linkQuiet c = false →
        Out.odRead (r.dest % 4096) [(P.LATENCY, 0), (P.LATENCY, 1)] ∈ t.outbox) ∧
      (∀ w, v = some w → bit w.toNat 63 = false → w.toNat % 2 ^ 40 ≠ 0 →
        t.par P.CHAIN_L c = w.toNat % 2 ^ 40 ∧ c.val ∈ t.chain.lValid) ∧
      ((∀ w, v = some w → bit w.toNat 63 = true ∨ w.toNat % 2 ^ 40 = 0) → t.dict = s.dict ∧ t.chain.lValid = s.chain.lValid) ∧
      (∀ c', c' ≠ c.val → c' < 2 ^ 16 → t.par P.CHAIN_L c' = s.par P.CHAIN_L c') ∧
      s.samePars t [P.CHAIN_L] ∧ t = { s with chain := t.chain, dict := t.dict, outbox := t.outbox } := by
  have hexec : exec (.chainLatencyRead c v) s = .next ((s.latencyAsked c).latencyRead c v) :=
    congrArg Host.Outcome.next ((if_neg (by simp [hh])).trans rfl)
  have hasked := s.latencyAsked_eq c
  have hpar (id idx : Nat) (h : pkey id idx ≠ pkey P.CHAIN_L c) :
      ((s.latencyAsked c).latencyRead c v).par id idx = s.par id idx := by
    rw [State.par_latencyRead_ne _ _ _ h, hasked]
    rfl
  have hout : ((s.latencyAsked c).latencyRead c v).outbox = (s.latencyAsked c).outbox := by
    rcases (s.latencyAsked c).latencyRead_cases c v with e | ⟨l, e⟩ <;> rw [e]
    rfl
  refine ⟨_, hexec, fun r hr hq => ?_, fun w hw hs hz => ?_, fun h => ?_, fun c' hne hlt => ?_, fun id idx hid hx => ?_, ?_⟩
  · rw [hout]
    exact s.latencyAsked_sends c hr hq
  · rw [hw, State.latencyRead_takes _ _ hs hz]
    exact ⟨State.par_setPar _ _ _ _, (NSet.mem_add _ _ _).mpr (.inr rfl)⟩
  · rw [State.latencyRead_leaves _ _ h, hasked]
    exact ⟨rfl, rfl⟩
  · exact hpar _ _ (by unfold pkey; omega)
  · exact hpar _ _ (pkey_ne (fun e => hid (by rw [e]; exact List.mem_singleton_self _)) (c.isLt.trans (by decide)) hx)
  · rcases (s.latencyAsked c).latencyRead_cases c v with e | ⟨l, e⟩ <;> rw [e, hasked]
    rfl

/-- Settles O21: each packet of link management, each of its timers, and a head's reading of L does what its rule says. -/
theorem linkManagementPackets : Obligations.LinkManagementPackets := by
  unfold Obligations.LinkManagementPackets
  refine ⟨fun p s hup => ⟨exec_linkPacket_badCrc hup, exec_linkPacket_waits hup, fun seq turn => execEchoReq_answers hup seq turn,
      fun t1 => execEchoSendTimer_asks hup t1, fun seq turn t1 t2 hecho => execEchoResp_measures hup seq turn t1 t2 hecho,
      execLatency_takes hup, execLatencySendTimer_head hup, execIdent_records hup, execIdentSendTimer_sends hup⟩,
    execLatencyStaleTimer_marks, fun c v s => ⟨fun hh => ?_, execChainLatencyRead_reads c v s⟩⟩
  exact congrArg Host.Outcome.next (if_pos (by simp [hh]))

end Sys2Proof.Machine
end

section
/-! Ingress: packets, fills, fences and the completion of a fill (R167, R220 to R225; parts of a fill as log entry 15 reads them). -/

namespace Sys2Proof.Machine

/-! Channels and their parts (R222, R224) -/

theorem State.chanOf_congr {s t : State} (h : t.src.chans = s.src.chans) (c : Nat) : t.chanOf c = s.chanOf c := by
  unfold State.chanOf
  rw [h]

theorem State.chanOf_updChan_same (s : State) (c : Nat) (f : Chan → Chan) : (s.updChan c f).chanOf c = f (s.chanOf c) :=
  SMap.get_set_same _ _ _ _

theorem State.chanOf_updChan_ne (s : State) {c d : Nat} (f : Chan → Chan) (h : d ≠ c) : (s.updChan c f).chanOf d = s.chanOf d :=
  SMap.get_set_ne _ _ _ _ h

/-- A part changed without its fill's number is found as it has become. -/
theorem Chan.part_map {ch : Chan} {f : Nat} {p : FillPart} (g : FillPart → FillPart) (hg : ∀ p, (g p).fill = p.fill)
    (h : ch.part f = some p) :
    Chan.part { ch with parts := ch.parts.map fun p => if p.fill == f then g p else p } f = some (g p) := by
  have hfill : (p.fill == f) = true := List.find?_some (p := fun q : FillPart => q.fill == f) h
  have hsame : ((fun q : FillPart => q.fill == f) ∘ fun q => if q.fill == f then g q else q) = fun q => q.fill == f := by
    funext q
    dsimp only [Function.comp]
    split
    · rw [hg]
    · rfl
  change List.find? _ (List.map _ _) = _
  unfold Chan.part at h
  rw [List.find?_map, hsame, h]
  exact congrArg some (if_pos hfill)

theorem State.part_updPart (s : State) (c f : Nat) (g : FillPart → FillPart) (hg : ∀ p, (g p).fill = p.fill) {p : FillPart}
    (h : (s.chanOf c).part f = some p) : ((s.updPart c f g).chanOf c).part f = some (g p) := by
  unfold State.updPart
  rw [State.chanOf_updChan_same]
  exact Chan.part_map g hg h

/-! Damaged fills (R222) -/

theorem State.damageFill_known (s : State) (i f : Nat) (h : s.isDamaged i f = true) : s.damageFill i f = s := if_pos h

/-- Fill `f` of surface `i` is noted as damaged. -/
def State.damageNoted (s : State) (i f : Nat) : State :=
  { s with src := { s.src with damaged := SMap.set [] s.src.damaged i ((f :: SMap.get [] s.src.damaged i).take 16) } }

/-- The buffer that fill `f` of surface `i` was filling is free again. -/
def State.bufFreed (s : State) (i f : Nat) : State :=
  if (s.bufOf (srcKey 2 i) (s.fillBuf (srcKey 2 i) f)).st = 1 ∧ (s.bufOf (srcKey 2 i) (s.fillBuf (srcKey 2 i) f)).ident = f then
    s.updBuf (srcKey 2 i) (s.fillBuf (srcKey 2 i) f) fun x => { x with st := 0 } else s

theorem State.bufFreed_eq (s : State) (i f : Nat) :
    s.bufFreed i f = { s with src := { s.src with bufs := (s.bufFreed i f).src.bufs } } := by
  unfold State.bufFreed
  split <;> rfl

/-- A fill damaged for the first time is noted, its buffer is freed, and it is counted and told. -/
theorem State.damageFill_new (s : State) (i f : Nat) (h : s.isDamaged i f = false) : s.damageFill i f =
    (((s.damageNoted i f).bufFreed i f).bump P.FILLS_DAMAGED i).raise E.SURFACE_FILL_DAMAGED i :=
  (if_neg (by simp [h])).trans rfl

theorem State.par_damageNoted (s : State) (i f id idx : Nat) : ((s.damageNoted i f).bufFreed i f).par id idx = s.par id idx := by
  rw [State.bufFreed_eq]
  rfl

/-- What damaging a fill leaves of the ingress: the channels and the bytes. -/
theorem State.damageFill_src (s : State) (i f : Nat) :
    (s.damageFill i f).src = { s.src with damaged := (s.damageFill i f).src.damaged, bufs := (s.damageFill i f).src.bufs } := by
  cases h : s.isDamaged i f with
  | true => rw [s.damageFill_known i f h]
  | false =>
    rw [s.damageFill_new i f h, State.raise_src, State.bump_src, State.bufFreed_eq]
    rfl

theorem State.isDamaged_damageFill (s : State) (i f : Nat) : (s.damageFill i f).isDamaged i f = true := by
  cases h : s.isDamaged i f with
  | true => rw [s.damageFill_known i f h, h]
  | false =>
    unfold State.isDamaged
    rw [s.damageFill_new i f h, State.raise_src, State.bump_src, State.bufFreed_eq]
    simp [State.damageNoted]

/-- The events that damage to a fill raises. -/
def damageEvents : List Nat := [E.EVENT_OVERFLOW, E.SURFACE_FILL_DAMAGED]

theorem State.par_damageFill {ids evs : List Nat} {id idx : Nat} (h : spared ids evs id idx = true) (s : State) {i : Nat} (f : Nat)
    (hi : i < 65536) (hd : P.FILLS_DAMAGED ∈ ids) (he : damageEvents ⊆ evs) : (s.damageFill i f).par id idx = s.par id idx := by
  cases hk : s.isDamaged i f with
  | true => rw [s.damageFill_known i f hk]
  | false =>
    rw [s.damageFill_new i f hk, State.par_raise_spared h _ _ _ _ (he (by decide)) (he (by decide)) (by decide)]
    exact (State.par_setPar_spared h _ _ hd hi).trans (s.par_damageNoted i f id idx)

/-- A fill damaged for the first time is counted and told. -/
theorem State.damageFill_tells (s : State) {i : Nat} (f : Nat) (hi : i < 65536) (h : s.isDamaged i f = false) :
    s.told (s.damageFill i f) E.SURFACE_FILL_DAMAGED ∧
      (s.damageFill i f).par P.FILLS_DAMAGED i = (s.par P.FILLS_DAMAGED i + 1) % 2 ^ 32 := by
  rw [s.damageFill_new i f h]
  refine ⟨State.told_of_before (State.told_raise _ _ _ _ _ (by decide)) ?_, ?_⟩
  · rw [State.par_bump_other _ (by decide) hi (by decide), State.par_damageNoted]
  · rw [State.par_raise _ _ _ _ _ (by decide) hi (by decide), State.par_bump, State.par_damageNoted]

/-! A packet that fails a check (R167, R222) -/

/-- A packet dropped is counted and told. -/
def State.dropCounted (s : State) (c : Nat) : State := (s.bump P.INGRESS_DROPS c).raise E.INGRESS_DROPPED c

/-- A packet is dropped: counted and told, and at most its fill, or the one open on its channel, is damaged (R167, R222). -/
theorem State.ingressDrop_cases (s : State) (c : Nat) (v : VideoPacket) : s.ingressDrop c v = s.dropCounted c ∨
    s.par P.INGRESS_SURFACE c ≤ 15 ∧ ∃ f, s.ingressDrop c v = (s.dropCounted c).damageFill (s.par P.INGRESS_SURFACE c) f := by
  unfold State.ingressDrop
  dsimp only
  split
  · exact .inl rfl
  · rename_i hi
    split
    · exact .inr ⟨by omega, _, rfl⟩
    · split
      · split
        · exact .inl rfl
        · exact .inr ⟨by omega, _, rfl⟩
      · exact .inl rfl

theorem State.ingressDrop_counts (s : State) (c : Fin 16) (v : VideoPacket) :
    (s.ingressDrop c v).par P.INGRESS_DROPS c = (s.par P.INGRESS_DROPS c + 1) % 2 ^ 32 ∧
      s.told (s.ingressDrop c v) E.INGRESS_DROPPED ∧ (s.ingressDrop c v).src.bytes = s.src.bytes := by
  have hc : c.val < 65536 := c.isLt.trans (by decide)
  have hcounted : (s.dropCounted c).par P.INGRESS_DROPS c = (s.par P.INGRESS_DROPS c + 1) % 2 ^ 32 := by
    rw [State.dropCounted, State.par_raise _ _ _ _ _ (by decide) hc (by decide), State.par_bump]
  have htold : s.told (s.dropCounted c) E.INGRESS_DROPPED :=
    State.told_of_before (State.told_raise _ _ _ _ _ (by decide)) (State.par_bump_other _ (by decide) hc (by decide))
  have hbytes : (s.dropCounted c).src.bytes = s.src.bytes := by
    rw [State.dropCounted, State.raise_src, State.bump_src]
  rcases s.ingressDrop_cases c v with e | ⟨hi, f, e⟩ <;> rw [e]
  · exact ⟨hcounted, htold, hbytes⟩
  · have hi' : s.par P.INGRESS_SURFACE c < 65536 := by omega
    have hs : spared [P.FILLS_DAMAGED] damageEvents P.INGRESS_DROPS c = true :=
      spared_iff.mpr ⟨hc, by decide, fun h => absurd h (by decide)⟩
    have hs' : spared [P.FILLS_DAMAGED] damageEvents P.EVENT_COUNT E.INGRESS_DROPPED = true := by decide
    refine ⟨(State.par_damageFill hs _ f hi' (by decide) (List.Subset.refl _)).trans hcounted,
      State.told_of_after htold (State.par_damageFill hs' _ f hi' (by decide) (List.Subset.refl _)), ?_⟩
    rw [State.damageFill_src]
    exact hbytes

/-! The first packet of a fill (R222) -/

/-- Part `f` is the first on its channel, or every fill it is newer than has had its fence packet: nothing is abandoned. -/
def State.opensAlone (s : State) (c f : Nat) : Prop :=
  ((s.chanOf c).part f).isSome = true ∨ ∀ p ∈ (s.chanOf c).parts, newer (2 ^ 48) f p.fill = true → p.fenced = true

/-- The part of fill `f` joins the channel's parts. -/
def Chan.opened (f : Nat) (ch : Chan) : Chan := { ch with parts := ({ fill := f } :: ch.parts).take 16 }

theorem Chan.part_opened (f : Nat) (ch : Chan) : (Chan.opened f ch).part f = some { fill := f } :=
  List.find?_cons_of_pos (beq_self_eq_true f)

theorem State.openPart_alone (s : State) (c i f : Nat) (h : s.opensAlone c f) :
    s.openPart c i f = if ((s.chanOf c).part f).isSome then s else s.updChan c (Chan.opened f) := by
  unfold State.openPart
  split
  · rfl
  · rename_i hnone
    have hold : (s.chanOf c).parts.filter (fun p => newer (2 ^ 48) f p.fill && !p.fenced) = [] := by
      refine List.filter_eq_nil_iff.mpr fun p hp => ?_
      cases hn : newer (2 ^ 48) f p.fill with
      | false => simp
      | true => simp [h.resolve_left hnone p hp hn]
    rw [hold]
    rfl

/-- A part is open on its channel: it was before, or it is new. -/
theorem State.openPart_keeps (s : State) (c i f : Nat) (h : s.opensAlone c f) :
    s.openPart c i f = { s with src := { s.src with chans := (s.openPart c i f).src.chans } } ∧
      ((s.openPart c i f).chanOf c).part f = some (((s.chanOf c).part f).getD { fill := f }) ∧
      ∀ d, d ≠ c → (s.openPart c i f).chanOf d = s.chanOf d := by
  rw [s.openPart_alone c i f h]
  cases hp : (s.chanOf c).part f with
  | some p => exact ⟨rfl, hp, fun _ _ => rfl⟩
  | none =>
    refine ⟨rfl, ?_, fun d hd => s.chanOf_updChan_ne _ hd⟩
    exact (congrArg (Chan.part · f) (s.chanOf_updChan_same c _)).trans (Chan.part_opened f _)

theorem newer_self {f : Nat} (h : f < 2 ^ 48) : newer (2 ^ 48) f f = false := by
  have hzero : (f + 2 ^ 48 - f % 2 ^ 48) % 2 ^ 48 = 0 := by
    rw [Nat.mod_eq_of_lt h]
    omega
  simp only [newer, hzero]
  decide

/-- A new fill abandons the one older fill that is incomplete on its channel. -/
theorem State.openPart_abandons (s : State) (c i : Nat) {f : Nat} (hf : f < 2 ^ 48) {p : FillPart} (hp : (s.chanOf c).parts = [p])
    (hn : newer (2 ^ 48) f p.fill = true) (ho : p.fenced = false) :
    s.openPart c i f = (s.damageFill i p.fill).updChan c (Chan.opened f) := by
  have hne : p.fill ≠ f := by
    rintro rfl
    exact absurd ((newer_self hf).symm.trans hn) (by decide)
  have hnone : (s.chanOf c).part f = none := by
    unfold Chan.part
    rw [hp]
    exact List.find?_cons_of_neg (by simpa using hne)
  unfold State.openPart
  rw [hnone, if_neg (by decide), hp]
  simp only [List.filter_cons, hn, ho, Bool.not_false, Bool.and_true, if_true, List.filter_nil]
  rfl

/-! Data (R221, R222) -/

/-- Bytes go into a buffer, and nothing else changes. -/
theorem State.putBuf_eq (s : State) (src b off : Nat) (bs : List Byte) :
    s.putBuf src b off bs = { s with src := { s.src with bytes := (s.putBuf src b off bs).src.bytes } } := by
  induction bs generalizing s off with
  | nil => rfl
  | cons x xs ih =>
    unfold State.putBuf
    rw [ih]

/-- A part that has taken a data packet. -/
def FillPart.taken (v : VideoPacket) (p : FillPart) : FillPart :=
  let first := p.count == 0 && p.indices.isEmpty
  { p with
    count := if first then v.head.count.toNat else p.count
    format := if first then v.head.format.toNat else p.format
    indices := NSet.add p.indices v.head.index.toNat
    mixed := p.mixed || (!first && (p.count != v.head.count.toNat || p.format != v.head.format.toNat)) }

/-- The buffer of fill `f` is filling. -/
def State.filling (s : State) (src f : Nat) : State :=
  (s.count 195).updBuf src (s.fillBuf src f) fun x => { x with st := 1, ident := f }

/-- The packet's bytes stand in its buffer. -/
def State.dataPut (s : State) (src f off : Nat) (bs : List Byte) : State :=
  (s.filling src f).putBuf src ((s.filling src f).fillBuf src f) off bs

theorem State.takeData_eq (s : State) (c i : Nat) (v : VideoPacket) : s.takeData c i v =
    if (s.openPart c i v.head.tick.toNat).isDamaged i v.head.tick.toNat then s.openPart c i v.head.tick.toNat
    else ((s.openPart c i v.head.tick.toNat).dataPut (srcKey 2 i) v.head.tick.toNat v.head.offset.toNat v.payload).updPart c
      v.head.tick.toNat (FillPart.taken v) := rfl

theorem State.fillBuf_congr {s t : State} (hd : t.dict = s.dict) (hs : t.start = s.start) (src f : Nat) :
    t.fillBuf src f = s.fillBuf src f := by
  unfold State.fillBuf State.bufCount State.geometry
  simp only [State.par_congr hd hs]

theorem State.fillBuf_filling (s : State) (src f : Nat) : (s.filling src f).fillBuf src f = s.fillBuf src f :=
  State.fillBuf_congr (s.count_dict 195 1) (s.count_start 195 1) src f

/-- What a data packet changes: the bytes and the buffer's record, and a counter. -/
theorem State.dataPut_keeps (s : State) (src f off : Nat) (bs : List Byte) :
    s.dataPut src f off bs = { s with src := { s.src with bytes := (s.dataPut src f off bs).src.bytes
                                                          bufs := (s.dataPut src f off bs).src.bufs }
                                      perf := (s.dataPut src f off bs).perf } := by
  unfold State.dataPut State.filling
  rw [State.putBuf_eq, State.count_eq]
  rfl

/-- A data packet stands byte for byte in the buffer of its fill, which is filling. -/
theorem State.dataPut_fills (s : State) (src f off : Nat) (bs : List Byte) :
    ((s.dataPut src f off bs).bufOf src (s.fillBuf src f)).st = 1 ∧
      ((s.dataPut src f off bs).bufOf src (s.fillBuf src f)).ident = f ∧
      ∀ n, n < bs.length → (s.dataPut src f off bs).bufByte src (s.fillBuf src f) (off + n) = (bs.getD n 0).toNat := by
  have hbuf : (s.dataPut src f off bs).bufOf src (s.fillBuf src f) =
      { (s.count 195).bufOf src (s.fillBuf src f) with st := 1, ident := f } := by
    unfold State.dataPut
    rw [State.putBuf_eq]
    exact (s.count 195).bufOf_updBuf_same src (s.fillBuf src f) fun x => { x with st := 1, ident := f }
  refine ⟨by rw [hbuf], by rw [hbuf], fun n hn => ?_⟩
  unfold State.dataPut
  rw [State.fillBuf_filling]
  exact State.bufByte_putBuf _ _ _ _ _ hn

/-! A packet at an ingress channel (R167, R222, R224) -/

/-- A packet that passes its checks belongs to one of the 16 surfaces (R167). -/
theorem State.surface_of_good {s : State} {c : Nat} {v : VideoPacket} (h : s.ingressBad c v = false) :
    s.par P.INGRESS_SURFACE c ≤ 15 := by
  simp only [State.ingressBad, Bool.or_eq_false_iff, decide_eq_false_iff_not, not_lt] at h
  tauto

section
variable {c : Fin 16} {v : VideoPacket} {s : State} (hup : s.ingressUp c = true)
include hup

theorem State.takeIngress_bad (hb : s.ingressBad c v = true) : s.takeIngress c v = s.ingressDrop c v :=
  (if_neg (by simp [hup])).trans (if_pos hb)

theorem exec_ingress_drops (hb : s.ingressBad c v = true) : ∀ x ∈ ([.ingressPacket c v, .fencePacket c v] : List Instr),
    ∃ t, exec x s = .next t ∧ t.par P.INGRESS_DROPS c = (s.par P.INGRESS_DROPS c + 1) % 2 ^ 32 ∧
      s.told t E.INGRESS_DROPPED ∧ t.src.bytes = s.src.bytes := by
  simp only [List.mem_cons, List.not_mem_nil, or_false]
  rintro x (rfl | rfl) <;>
    exact ⟨_, congrArg Host.Outcome.next (State.takeIngress_bad hup hb), s.ingressDrop_counts c v⟩

variable (hgood : s.ingressBad c v = false)
include hgood

theorem State.takeIngress_data (hdata : isFence v = false)
    (hopen : ∀ p, (s.chanOf c).part v.head.tick.toNat = some p → p.fenced = false)
    (hst : s.bufState (srcKey 2 (s.par P.INGRESS_SURFACE c))
      (s.fillBuf (srcKey 2 (s.par P.INGRESS_SURFACE c)) v.head.tick.toNat) < 2) :
    s.takeIngress c v = s.takeData c (s.par P.INGRESS_SURFACE c) v := by
  unfold State.takeIngress
  dsimp only
  rw [if_neg (by simp [hup]), if_neg (by simp [hgood])]
  cases hp : (s.chanOf c).part v.head.tick.toNat with
  | none => exact (if_neg (by simp)).trans ((if_neg (by simp [hdata])).trans (if_neg (Nat.not_le.mpr hst)))
  | some p => exact (if_neg (by simp [hopen p hp])).trans ((if_neg (by simp [hdata])).trans (if_neg (Nat.not_le.mpr hst)))

theorem State.takeIngress_fence (hfence : isFence v = true)
    (hopen : s.isDamaged (s.par P.INGRESS_SURFACE c) v.head.tick.toNat = true ∨
      ∀ p, (s.chanOf c).part v.head.tick.toNat = some p → p.fenced = false) :
    s.takeIngress c v = s.takeFence c (s.par P.INGRESS_SURFACE c) v.head.tick.toNat := by
  unfold State.takeIngress
  dsimp only
  rw [if_neg (by simp [hup]), if_neg (by simp [hgood])]
  refine (if_neg ?_).trans (if_pos hfence)
  rcases hopen with h | h
  · simp [hfence, h]
  · cases hp : (s.chanOf c).part v.head.tick.toNat with
    | none => simp
    | some p => simp [h p hp]

end

section
variable {c : Fin 16} {v : VideoPacket} {s : State} (hup : s.ingressUp c = true) (hgood : s.ingressBad c v = false)
  (hdata : isFence v = false) (hopen : ∀ p, (s.chanOf c).part v.head.tick.toNat = some p → p.fenced = false)
  (hst : s.bufState (srcKey 2 (s.par P.INGRESS_SURFACE c))
    (s.fillBuf (srcKey 2 (s.par P.INGRESS_SURFACE c)) v.head.tick.toNat) < 2)
include hup hgood hdata hopen hst

/-- A data packet that abandons no other fill is taken. -/
theorem execIngressPacket_fills (hd : s.isDamaged (s.par P.INGRESS_SURFACE c) v.head.tick.toNat = false)
    (halone : s.opensAlone c v.head.tick.toNat) :
    let src := srcKey 2 (s.par P.INGRESS_SURFACE c)
    let b := s.fillBuf src v.head.tick.toNat
    ∃ t p, exec (.ingressPacket c v) s = .next t ∧ (t.bufOf src b).st = 1 ∧ (t.bufOf src b).ident = v.head.tick.toNat ∧
      (∀ n, n < v.payload.length → t.bufByte src b (v.head.offset.toNat + n) = (v.payload.getD n 0).toNat) ∧
      (t.chanOf c).part v.head.tick.toNat = some p ∧ v.head.index.toNat ∈ p.indices ∧
      (∀ d, d ≠ c.val → t.chanOf d = s.chanOf d) ∧ t = { s with src := t.src, perf := t.perf } := by
  intro src b
  obtain ⟨hkept, hpart, hothers⟩ := s.openPart_keeps c (s.par P.INGRESS_SURFACE c) v.head.tick.toNat halone
  have htake := State.takeData_eq s c (s.par P.INGRESS_SURFACE c) v
  generalize s.openPart c (s.par P.INGRESS_SURFACE c) v.head.tick.toNat = u at hkept hpart hothers htake
  have hdam : u.isDamaged (s.par P.INGRESS_SURFACE c) v.head.tick.toNat = false := by
    rw [hkept]
    exact hd
  have hbuf : u.fillBuf src v.head.tick.toNat = b :=
    State.fillBuf_congr (congrArg State.dict hkept) (congrArg State.start hkept) src _
  rw [if_neg (by simp [hdam])] at htake
  have hexec : exec (.ingressPacket c v) s = .next _ :=
    congrArg Host.Outcome.next ((State.takeIngress_data hup hgood hdata hopen hst).trans htake)
  obtain ⟨hfilling, hident, hbytes⟩ := u.dataPut_fills src v.head.tick.toNat v.head.offset.toNat v.payload
  rw [hbuf] at hfilling hident hbytes
  have hput := u.dataPut_keeps src v.head.tick.toNat v.head.offset.toNat v.payload
  have hchans (d : Nat) : (u.dataPut src v.head.tick.toNat v.head.offset.toNat v.payload).chanOf d = u.chanOf d :=
    State.chanOf_congr (congrArg (fun t => t.src.chans) hput) d
  rw [← hchans] at hpart
  refine ⟨_, _, hexec, hfilling, hident, hbytes, State.part_updPart _ c _ (FillPart.taken v) (fun _ => rfl) hpart,
    (NSet.mem_add _ _ _).mpr (.inr rfl), fun d hne => ?_, ?_⟩
  · exact (State.chanOf_updChan_ne _ _ hne).trans ((hchans d).trans (hothers d hne))
  · rw [State.updPart, State.updChan, hput, hkept]

/-- The first packet of a fill damages an older one left incomplete on its channel. -/
theorem execIngressPacket_abandons {p : FillPart} (hp : (s.chanOf c).parts = [p])
    (hn : newer (2 ^ 48) v.head.tick.toNat p.fill = true) (ho : p.fenced = false)
    (hd : s.isDamaged (s.par P.INGRESS_SURFACE c) p.fill = false) :
    ∃ t, exec (.ingressPacket c v) s = .next t ∧ t.isDamaged (s.par P.INGRESS_SURFACE c) p.fill = true ∧
      s.told t E.SURFACE_FILL_DAMAGED ∧ t.par P.FILLS_DAMAGED (s.par P.INGRESS_SURFACE c) =
        (s.par P.FILLS_DAMAGED (s.par P.INGRESS_SURFACE c) + 1) % 2 ^ 32 := by
  have hi : s.par P.INGRESS_SURFACE c < 65536 := Nat.lt_of_le_of_lt (State.surface_of_good hgood) (by decide)
  have hopens := s.openPart_abandons c (s.par P.INGRESS_SURFACE c) v.head.tick.isLt hp hn ho
  have hdamaged := s.isDamaged_damageFill (s.par P.INGRESS_SURFACE c) p.fill
  obtain ⟨htold, hcount⟩ := s.damageFill_tells p.fill hi hd
  have hexec : exec (.ingressPacket c v) s = .next (s.takeData c (s.par P.INGRESS_SURFACE c) v) :=
    congrArg Host.Outcome.next (State.takeIngress_data hup hgood hdata hopen hst)
  refine ⟨_, hexec, ?_⟩
  rw [State.takeData_eq, hopens]
  split
  · exact ⟨hdamaged, htold, hcount⟩
  · rw [State.updPart, State.dataPut_keeps]
    exact ⟨hdamaged, htold, hcount⟩

end

/-! Fences (R224, R225) -/

/-- A part whose fence packet has come. -/
def FillPart.closed (p : FillPart) : FillPart := { p with fenced := true }

/-- All packets of the channel's part of fill `f` have been taken. -/
def Chan.holds (ch : Chan) (f : Nat) : Bool :=
  match ch.part f with
  | some p => p.whole
  | none => false

theorem Chan.holds_of_part {ch : Chan} {f : Nat} {p : FillPart} (h : ch.part f = some p) : ch.holds f = p.whole := by
  unfold Chan.holds
  rw [h]

/-- A channel that has completed fill `f` and writes its fence. -/
def Chan.completed (f : Nat) (ch : Chan) : Chan := { ch with complete := some f, writing := ch.writing ++ [f] }

section
variable {c : Fin 16} {v : VideoPacket} {s : State} (hup : s.ingressUp c = true) (hgood : s.ingressBad c v = false)
  (hfence : isFence v = true)
include hup hgood hfence

theorem execFencePacket_refuses (h : s.isDamaged (s.par P.INGRESS_SURFACE c) v.head.tick.toNat = true ∨
      ((∀ p, (s.chanOf c).part v.head.tick.toNat = some p → p.fenced = false) ∧
        ∃ g, s.fenceOf (s.par P.INGRESS_SURFACE c) = some g ∧ newer (2 ^ 48) v.head.tick.toNat g = false)) :
    ∃ t, exec (.fencePacket c v) s = .next t ∧ s.told t E.FENCE_REFUSED ∧ t.src = s.src := by
  have htake : s.takeFence c (s.par P.INGRESS_SURFACE c) v.head.tick.toNat =
      s.raise E.FENCE_REFUSED (s.par P.INGRESS_SURFACE c) := by
    refine if_pos ?_
    rcases h with h | ⟨-, g, hg, hn⟩
    · simp [h]
    · rw [hg]
      dsimp only
      rw [hn]
      rfl
  refine ⟨_, congrArg Host.Outcome.next ((State.takeIngress_fence hup hgood hfence (h.imp_right And.left)).trans htake),
    State.told_raise _ _ _ _ _ (by decide), State.raise_src _ _ _ _ _⟩

variable (hopen : ∀ p, (s.chanOf c).part v.head.tick.toNat = some p → p.fenced = false)
  (hnew : ∀ g, s.fenceOf (s.par P.INGRESS_SURFACE c) = some g → newer (2 ^ 48) v.head.tick.toNat g = true)
  (hd : s.isDamaged (s.par P.INGRESS_SURFACE c) v.head.tick.toNat = false)
include hopen hnew hd

/-- The fence packet of a new, undamaged fill is judged by the channel's part. -/
theorem execFencePacket_judges : exec (.fencePacket c v) s = .next
    (let i := s.par P.INGRESS_SURFACE c
    let f := v.head.tick.toNat
    let u := s.openPart c i f
    if (u.chanOf c).holds f = true then (u.updPart c f FillPart.closed).updChan c (Chan.completed f)
    else ((u.updPart c f FillPart.closed).damageFill i f).raise E.FENCE_REFUSED i) := by
  refine congrArg Host.Outcome.next ((State.takeIngress_fence hup hgood hfence (.inr hopen)).trans ((if_neg ?_).trans rfl))
  rw [hd]
  cases hg : s.fenceOf (s.par P.INGRESS_SURFACE c) with
  | none => simp
  | some g => simp only [hnew g hg]; decide

/-- Behind all packets of a fill its fence packet completes the part and lets the fence write follow. -/
theorem execFencePacket_completes {p : FillPart} (hp : (s.chanOf c).part v.head.tick.toNat = some p) (hw : p.whole = true) :
    ∃ t, exec (.fencePacket c v) s = .next t ∧ (t.chanOf c).complete = some v.head.tick.toNat ∧
      (t.chanOf c).writing = (s.chanOf c).writing ++ [v.head.tick.toNat] ∧
      (t.chanOf c).part v.head.tick.toNat = some { p with fenced := true } ∧ t = { s with src := t.src } := by
  have hexec := execFencePacket_judges hup hgood hfence hopen hnew hd
  have hopened : s.openPart c (s.par P.INGRESS_SURFACE c) v.head.tick.toNat = s := if_pos (by simp [hp])
  dsimp only at hexec
  rw [hopened, if_pos ((Chan.holds_of_part hp).trans hw)] at hexec
  have hchan := (s.updPart c v.head.tick.toNat FillPart.closed).chanOf_updChan_same c (Chan.completed v.head.tick.toNat)
  have hpart := s.part_updPart c v.head.tick.toNat FillPart.closed (fun _ => rfl) hp
  refine ⟨_, hexec, by rw [hchan]; rfl, ?_, by rw [hchan]; exact hpart, rfl⟩
  rw [hchan, State.updPart, State.chanOf_updChan_same]
  rfl

/-- The fence packet of an incomplete fill damages it. -/
theorem execFencePacket_damages (halone : s.opensAlone c v.head.tick.toNat)
    (hpart : ∀ p, (s.chanOf c).part v.head.tick.toNat = some p → p.whole = false) :
    ∃ t, exec (.fencePacket c v) s = .next t ∧ t.isDamaged (s.par P.INGRESS_SURFACE c) v.head.tick.toNat = true ∧
      s.told t E.SURFACE_FILL_DAMAGED ∧ t.par P.FILLS_DAMAGED (s.par P.INGRESS_SURFACE c) =
        (s.par P.FILLS_DAMAGED (s.par P.INGRESS_SURFACE c) + 1) % 2 ^ 32 := by
  have hi : s.par P.INGRESS_SURFACE c < 65536 := Nat.lt_of_le_of_lt (State.surface_of_good hgood) (by decide)
  have hexec := execFencePacket_judges hup hgood hfence hopen hnew hd
  obtain ⟨hkept, hopened, -⟩ := s.openPart_keeps c (s.par P.INGRESS_SURFACE c) v.head.tick.toNat halone
  dsimp only at hexec
  generalize s.openPart c (s.par P.INGRESS_SURFACE c) v.head.tick.toNat = u at hexec hkept hopened
  have hlacks : ¬ (u.chanOf c).holds v.head.tick.toNat = true := by
    rw [Chan.holds_of_part hopened]
    cases hp : (s.chanOf c).part v.head.tick.toNat with
    | none => simp [FillPart.whole]
    | some p => rw [Option.getD_some, hpart p hp]; decide
  rw [if_neg hlacks] at hexec
  have hclosed : (u.updPart c v.head.tick.toNat FillPart.closed).isDamaged (s.par P.INGRESS_SURFACE c) v.head.tick.toNat = false := by
    rw [hkept]
    exact hd
  obtain ⟨htold, hcount⟩ := (u.updPart c v.head.tick.toNat FillPart.closed).damageFill_tells v.head.tick.toNat hi hclosed
  have hsame (id idx : Nat) : (u.updPart c v.head.tick.toNat FillPart.closed).par id idx = s.par id idx := by
    rw [hkept]
    rfl
  refine ⟨_, hexec, ?_, State.told_of_after (State.told_of_before htold (hsame _ _)) ?_, ?_⟩
  · unfold State.isDamaged
    rw [State.raise_src]
    exact State.isDamaged_damageFill _ _ _
  · exact State.par_raise_spared (ids := []) (evs := [E.FENCE_REFUSED, E.EVENT_OVERFLOW]) (by decide) _ _ _ _ (by decide)
      (by decide) (by decide)
  · rw [State.par_raise _ _ _ _ _ (by decide) hi (by decide), hcount, hsame]

end

/-! The fence write (R225) -/

/-- A channel whose fence write of fill `g` has landed. -/
def Chan.landed (g : Nat) (rest : List Nat) (ch : Chan) : Chan := { ch with writing := rest, done := some g }

/-- The surface's ready buffers are passed over. -/
def State.readySkipped (s : State) (i : Nat) : State :=
  s.each (List.range (s.bufCount (srcKey 2 i))) fun s b =>
    if s.bufState (srcKey 2 i) b = 2 then (s.updBuf (srcKey 2 i) b fun x => { x with st := 0 }).bump P.FILLS_SKIPPED i else s

/-- Fill `f` is ready in its buffer, and the surface's fence is its number. -/
def State.fenceSet (s : State) (i f : Nat) : State :=
  ((s.updBuf (srcKey 2 i) (f % s.bufCount (srcKey 2 i)) fun x => { x with st := 2, ident := f, at_ := s.now }).setPar
    P.SURFACE_FENCE i (2 ^ 63 + f)).setPar P.SURFACE_FENCE_TIME i (time80 s.nowNs)

/-- All signalling channels of surface `i` have completed fill `f`, newer than its fence and not damaged, of a surface in use. -/
def State.fenceDue (s : State) (i f : Nat) : Prop :=
  (∃ c, c < 16 ∧ s.par P.INGRESS_SURFACE c = i) ∧
    (∀ c, c < 16 → s.par P.INGRESS_SURFACE c = i → (s.chanOf c).complete = some f ∧ (s.chanOf c).done = some f) ∧
    (∀ g, s.fenceOf i = some g → newer (2 ^ 48) f g = true) ∧ s.isDamaged i f = false ∧ s.geometry (srcKey 2 i) ≠ 0

theorem State.advanceFence_cases (s : State) (i f : Nat) :
    s.advanceFence i f = s ∨ s.advanceFence i f = (s.readySkipped i).fenceSet i f :=
  ite_eq_or_eq _ _ _

theorem State.advanceFence_due (s : State) (i f : Nat) (h : s.fenceDue i f) :
    s.advanceFence i f = (s.readySkipped i).fenceSet i f := by
  obtain ⟨⟨c, hc, hci⟩, hall, hnew, hd, hgeo⟩ := h
  have hmem (d : Nat) : d ∈ (List.range 16).filter (fun d => s.par P.INGRESS_SURFACE d == i) ↔
      d < 16 ∧ s.par P.INGRESS_SURFACE d = i := by
    simp only [List.mem_filter, List.mem_range, beq_iff_eq]
  have hsome : ((List.range 16).filter fun d => s.par P.INGRESS_SURFACE d == i).isEmpty = false :=
    List.isEmpty_eq_false_iff.mpr (List.ne_nil_of_mem ((hmem c).mpr ⟨hc, hci⟩))
  have hdone : (((List.range 16).filter fun d => s.par P.INGRESS_SURFACE d == i).all fun d =>
      (s.chanOf d).complete == some f && (s.chanOf d).done == some f) = true := by
    refine List.all_eq_true.mpr fun d hdm => ?_
    obtain ⟨hlt, hdi⟩ := (hmem d).mp hdm
    obtain ⟨hcomplete, hdone⟩ := hall d hlt hdi
    simp [hcomplete, hdone]
  refine (if_neg ?_).trans rfl
  rw [hsome, hdone, hd]
  cases hg : s.fenceOf i with
  | none => simpa using hgeo
  | some g =>
    simp only [hnew g hg]
    simpa using hgeo

theorem State.chanOf_readySkipped (s : State) (i c : Nat) : (s.readySkipped i).chanOf c = s.chanOf c := by
  refine State.chanOf_congr (State.each_keeps (fun t => t.src.chans) _ _ _ fun t b => ?_) c
  split <;> rfl

theorem State.nowNs_readySkipped (s : State) (i : Nat) : (s.readySkipped i).nowNs = s.nowNs := by
  refine State.each_keeps State.nowNs _ _ _ fun t b => ?_
  split <;> rfl

theorem State.bufCount_readySkipped (s : State) {i : Nat} (hi : i < 65536) (src : Nat) :
    (s.readySkipped i).bufCount src = s.bufCount src := by
  refine State.each_keeps (fun t => t.bufCount src) _ _ _ fun t b => ?_
  have hlt : src % 16 < 65536 := by omega
  split
  · unfold State.bufCount State.geometry
    rw [State.par_bump_other _ (by decide) hi hlt, State.par_bump_other _ (by decide) hi hlt]
    rfl
  · rfl

theorem State.fenceSet_src (s : State) (i f : Nat) : (s.fenceSet i f).src =
    (s.updBuf (srcKey 2 i) (f % s.bufCount (srcKey 2 i)) fun x => { x with st := 2, ident := f, at_ := s.now }).src := by
  rw [State.fenceSet, State.setPar_src, State.setPar_src]

theorem State.advanceFence_chan (s : State) (i f c : Nat) : (s.advanceFence i f).chanOf c = s.chanOf c := by
  rcases s.advanceFence_cases i f with e | e <;> rw [e]
  exact (State.chanOf_congr (congrArg PartSrc.chans (State.fenceSet_src _ i f)) c).trans (s.chanOf_readySkipped i c)

/-- The fence takes its fill, whose buffer is ready from now on. -/
theorem State.fenceSet_shows (s : State) {i : Nat} (f : Nat) (hi : i < 65536) :
    (s.fenceSet i f).par P.SURFACE_FENCE i = 2 ^ 63 + f ∧
      ((s.fenceSet i f).bufOf (srcKey 2 i) (f % s.bufCount (srcKey 2 i))).st = 2 ∧
      ((s.fenceSet i f).bufOf (srcKey 2 i) (f % s.bufCount (srcKey 2 i))).ident = f ∧
      (s.fenceSet i f).par P.SURFACE_FENCE_TIME i = time80 s.nowNs := by
  have hbuf := s.bufOf_updBuf_same (srcKey 2 i) (f % s.bufCount (srcKey 2 i)) fun x => { x with st := 2, ident := f, at_ := s.now }
  have hset : (s.fenceSet i f).bufOf (srcKey 2 i) (f % s.bufCount (srcKey 2 i)) =
      { s.bufOf (srcKey 2 i) (f % s.bufCount (srcKey 2 i)) with st := 2, ident := f, at_ := s.now } := by
    rw [State.bufOf, State.fenceSet_src]
    exact hbuf
  refine ⟨?_, by rw [hset], by rw [hset], ?_⟩
  · rw [State.fenceSet, State.par_setPar_other _ _ (by decide) hi hi, State.par_setPar]
  · rw [State.fenceSet, State.par_setPar]

theorem execFenceWriteAck_lands (c : Fin 16) (s : State) {g : Nat} {rest : List Nat} (hw : (s.chanOf c).writing = g :: rest) :
    let i := s.par P.INGRESS_SURFACE c
    let src := srcKey 2 i
    ∃ t, exec (.fenceWriteAck c) s = .next t ∧ t.chanOf c = { s.chanOf c with writing := rest, done := some g } ∧
      (i ≤ 15 → (∀ d, d < 16 → s.par P.INGRESS_SURFACE d = i →
          (s.chanOf d).complete = some g ∧ (d ≠ c.val → (s.chanOf d).done = some g)) →
        (∀ h, s.fenceOf i = some h → newer (2 ^ 48) g h = true) → s.isDamaged i g = false →
        s.geometry src ≠ 0 → t.par P.SURFACE_FENCE i = 2 ^ 63 + g ∧
          (t.bufOf src (g % s.bufCount src)).st = 2 ∧ (t.bufOf src (g % s.bufCount src)).ident = g ∧
          t.par P.SURFACE_FENCE_TIME i = time80 s.nowNs) := by
  intro i src
  have hexec : exec (.fenceWriteAck c) s = .next
      (if 15 < i then s.updChan c (Chan.landed g rest) else (s.updChan c (Chan.landed g rest)).advanceFence i g) := by
    change execFenceWriteAck c s = _
    unfold execFenceWriteAck
    rw [hw]
    rfl
  have hchan := s.chanOf_updChan_same c (Chan.landed g rest)
  refine ⟨_, hexec, ?_, fun hi hall hnew hd hgeo => ?_⟩
  · split
    · exact hchan
    · exact (State.advanceFence_chan _ _ _ _).trans hchan
  · have hdue : (s.updChan c (Chan.landed g rest)).fenceDue i g := by
      refine ⟨⟨c, c.isLt, rfl⟩, fun d hlt hdi => ?_, hnew, hd, hgeo⟩
      obtain ⟨hcomplete, hdone⟩ := hall d hlt hdi
      by_cases hdc : d = c.val
      · subst hdc
        rw [hchan]
        exact ⟨hcomplete, rfl⟩
      · rw [State.chanOf_updChan_ne _ _ hdc]
        exact ⟨hcomplete, hdone hdc⟩
    have hi' : i < 65536 := by omega
    have hshown := ((s.updChan c (Chan.landed g rest)).readySkipped i).fenceSet_shows g hi'
    rw [State.bufCount_readySkipped _ hi', State.nowNs_readySkipped] at hshown
    rw [if_neg (by omega), State.advanceFence_due _ _ _ hdue]
    exact hshown

/-- Settles O36: packets taken and dropped, fences, and the fence write of R220 to R225. -/
theorem surfaceFills : Obligations.SurfaceFills := by
  unfold Obligations.SurfaceFills
  intro c v s i f src b open_ alone
  refine ⟨fun hup hgood hdata hopen hst hd => ⟨execIngressPacket_fills hup hgood hdata hopen hst hd, ?_⟩,
    exec_ingress_drops, fun hup hgood hfence => ⟨execFencePacket_refuses hup hgood hfence, fun hopen hnew hd => ⟨?_, ?_⟩⟩,
    fun g rest hw => execFenceWriteAck_lands c s hw⟩
  · exact fun p hp hn ho hpd => execIngressPacket_abandons hup hgood hdata hopen hst hp hn ho hpd
  · exact fun p hp hw => execFencePacket_completes hup hgood hfence hopen hnew hd hp hw
  · exact execFencePacket_damages hup hgood hfence hopen hnew hd

end Sys2Proof.Machine
end

section
/-! Packets that arrive on a port (R145 to R154, R164, R173, R184): what a tile's way through them leaves alone, video packets and
control packets. -/

namespace Sys2Proof.Machine

/-! Passed on (R145) -/

/-- A packet passed on changes the record of what was sent and a counter, nothing else. -/
theorem State.forwardOn_eq (s : State) (p kind id : Nat) :
    s.forwardOn p kind id = { s with outbox := (s.forwardOn p kind id).outbox, perf := (s.forwardOn p kind id).perf } := by
  unfold State.forwardOn
  split
  · rfl
  · rw [State.count_eq]
    rfl

theorem State.forwardOn_head (s : State) (p kind id : Nat) (h : s.isHead = true) : s.forwardOn p kind id = s :=
  if_pos (by simp [h])

theorem State.par_forwardOn (s : State) (p kind id id' idx : Nat) : (s.forwardOn p kind id).par id' idx = s.par id' idx := by
  rw [State.forwardOn_eq]
  rfl

/-! The epoch in a packet (R184) -/

/-- What a tile that sees an epoch may change: E_t, and what the evaluation of REDUNDANCY_SYNC changes. -/
theorem State.seeHeadEpoch_eq (s : State) (e : Nat) : s.seeHeadEpoch e =
    { s with start := { s.start with ready := (s.seeHeadEpoch e).start.ready, highWater := (s.seeHeadEpoch e).start.highWater
                                     readyAt := (s.seeHeadEpoch e).start.readyAt }
             dict := (s.seeHeadEpoch e).dict, ev := (s.seeHeadEpoch e).ev
             red := { s.red with rejoin := (s.seeHeadEpoch e).red.rejoin } } := by
  unfold State.seeHeadEpoch
  split
  · rw [State.syncEval_frame]
    rfl
  · rfl

/-- The parameters besides the counts of events that a tile changes when it sees an epoch. -/
def epochPars : List Nat := [P.EPOCH, P.READY_TIME]

theorem State.par_seeHeadEpoch {id idx : Nat} (h : spared epochPars syncEvents id idx = true) (s : State) (e : Nat) :
    (s.seeHeadEpoch e).par id idx = s.par id idx := by
  unfold State.seeHeadEpoch
  split
  · exact (State.par_syncEval_spared h _ (by decide) (List.Subset.refl _)).trans (State.par_setPar_spared h _ _ (by decide) (by decide))
  · rfl

/-- E_t keeps the highest epoch. -/
theorem State.epoch_seeHeadEpoch (s : State) (e : Nat) (h : s.isHead = false) :
    (s.seeHeadEpoch e).par P.EPOCH = max (s.par P.EPOCH) e := by
  unfold State.seeHeadEpoch
  by_cases hlt : s.par P.EPOCH < e
  · rw [if_pos (by simp [h, hlt]), State.par_syncEval_spared (ids := [P.READY_TIME]) (evs := syncEvents) (by decide) _ (by decide)
      (List.Subset.refl _), State.par_setPar]
    omega
  · rw [if_neg (by simp [hlt])]
    omega

theorem State.seeHeadEpoch_old (s : State) {e : Nat} (h : e ≤ s.par P.EPOCH) : s.seeHeadEpoch e = s :=
  if_neg (by simp [Nat.not_lt.mpr h])

theorem State.isHead_of_isTile {s : State} (h : s.isTile = true) : s.isHead = false := by
  simp only [State.isTile, beq_iff_eq] at h
  rw [State.isHead, h]
  decide

/-! What the judgement of a region's packet reads -/

/-- A tile `w` judges a packet of a region as `s` does: the same time, bindings and copies, and the same parameters but those of
the epoch. -/
def State.judgesAs (s w : State) : Prop :=
  (w.time, w.tile, w.start.role, w.start.record, w.chain.copies, w.chain.cutDone) =
      (s.time, s.tile, s.start.role, s.start.record, s.chain.copies, s.chain.cutDone) ∧
    ∀ id idx, spared epochPars syncEvents id idx = true → w.par id idx = s.par id idx

theorem State.judgesAs.trans {s u w : State} (h : s.judgesAs u) (h' : u.judgesAs w) : s.judgesAs w :=
  ⟨h'.1.trans h.1, fun id idx hs => (h'.2 id idx hs).trans (h.2 id idx hs)⟩

theorem State.forwardOn_judgesAs (s : State) (p kind id : Nat) : s.judgesAs (s.forwardOn p kind id) := by
  rw [State.forwardOn_eq]
  exact ⟨rfl, fun _ _ _ => rfl⟩

theorem SMap.get_append {α : Type} (d : α) (m l : SMap α) {k : Nat} (h : ∀ e ∈ l, e.1 ≠ k) :
    SMap.get d (m ++ l) k = SMap.get d m k := by
  induction m with
  | nil =>
    induction l with
    | nil => rfl
    | cons e l ih =>
      obtain ⟨j, v⟩ := e
      obtain ⟨hj, hl⟩ := List.forall_mem_cons.mp h
      exact (if_neg hj).trans (ih hl)
  | cons e m ih =>
    obtain ⟨j, v⟩ := e
    simp only [List.cons_append, SMap.get, ih]

/-- A parameter that is bound to a frame reads from the frame's binding alone (R284). -/
theorem State.par_under (s : State) (b : Bind) {id : Nat} (h : boundPar s.isTile id = true) :
    (s.under b).par id = SMap.get (dfltAt s.isTile s.sideB id 0) b.dict (pkey id 0) := by
  refine SMap.get_append _ _ _ fun e he hk => ?_
  have hid : e.1 / 65536 = id := by
    rw [hk, pkey]
    omega
  have hnot := (List.mem_filter.mp he).2
  rw [hid, h] at hnot
  exact absurd hnot (by decide)

section
variable {s w : State} (h : s.judgesAs w)
include h

theorem State.judgesAs.isTile : w.isTile = s.isTile := by
  obtain ⟨hparts, -⟩ := h
  simp only [Prod.mk.injEq] at hparts
  obtain ⟨-, -, hrole, -, -, -⟩ := hparts
  rw [State.isTile, hrole, State.isTile]

theorem State.judgesAs.sideB : w.sideB = s.sideB := by
  obtain ⟨hparts, -⟩ := h
  simp only [Prod.mk.injEq] at hparts
  obtain ⟨-, -, -, hrecord, -, -⟩ := hparts
  rw [State.sideB, hrecord, State.sideB]

theorem State.judgesAs.destMatch (dest : Nat) : w.destMatch dest = s.destMatch dest := by
  unfold State.destMatch State.idMatch
  rw [h.sideB, h.2 P.DEVICE_ID 0 (by decide)]

theorem State.judgesAs.late (k : Nat) : w.late k = s.late k := by
  obtain ⟨hparts, -⟩ := h
  simp only [Prod.mk.injEq] at hparts
  obtain ⟨htime, -, -, -, -, hcut⟩ := hparts
  rw [State.late, htime, hcut, State.late]

theorem State.judgesAs.boundRegion (ht : s.isTile = true) (k : Nat) : w.boundRegion k = s.boundRegion k := by
  have htile := h.isTile
  have hside := h.sideB
  obtain ⟨hparts, hpars⟩ := h
  simp only [Prod.mk.injEq] at hparts
  obtain ⟨-, htilepart, -, -, -, -⟩ := hparts
  have hbind : w.bindFor k = s.bindFor k := by rw [State.bindFor, htilepart, State.bindFor]
  unfold State.boundRegion State.regionW State.regionH
  rw [hbind]
  cases s.bindFor k with
  | none =>
    dsimp only
    rw [hpars _ 0 (by decide), hpars _ 0 (by decide)]
  | some b =>
    have hbound {id : Nat} (hid : boundPar true id = true) : (w.under b).par id = (s.under b).par id := by
      rw [w.par_under b (by rw [htile, ht, hid]), s.par_under b (by rw [ht, hid]), htile, hside]
    dsimp only
    rw [hbound (by decide), hbound (by decide)]

theorem State.judgesAs.mismatch (ht : s.isTile = true) (k : Nat) (v : VideoHead) : w.mismatch k v = s.mismatch k v := by
  unfold State.mismatch
  rw [h.boundRegion ht]

end

/-! Video packets in a tile (R164) -/

/-- The copy on a port that a packet of frame `k` joins: the one held there, or a new one. -/
def State.heldCopy (s : State) (p k : Nat) (v : VideoPacket) : Copy :=
  (s.chain.copies.find? fun c => c.tick == k && c.port == p).getD (s.newCopy p k v)

theorem State.heldCopy_names (s : State) (p k : Nat) (v : VideoPacket) :
    (s.heldCopy p k v).tick = k ∧ (s.heldCopy p k v).port = p := by
  unfold State.heldCopy
  cases hc : s.chain.copies.find? fun c => c.tick == k && c.port == p with
  | none => exact ⟨rfl, rfl⟩
  | some c => simpa using List.find?_some hc

/-- A copy joined by a packet keeps its frame and port, and has the packet's CRC under its INDEX. -/
theorem Copy.take_joins (c : Copy) (v : VideoPacket) (now size : Nat) (h : v.head.incomplete = false) :
    (c.take v now size).tick = c.tick ∧ (c.take v now size).port = c.port ∧
      SMap.get 0 (c.take v now size).crcs v.head.index.toNat = v.crc.toNat + 1 := by
  have hset := SMap.get_set_same 0 c.crcs v.head.index.toNat (v.crc.toNat + 1)
  unfold Copy.take
  dsimp only
  rw [if_neg (by simp [h])]
  generalize (if v.head.last = true then some v.signature.toNat else c.sig) = sig
  split <;> exact ⟨rfl, rfl, hset⟩

/-- A packet in place in its region joins its copy and is counted. -/
theorem State.takePacket_joins (s : State) {p : Nat} (v : VideoPacket) (hp : p < 65536) (hin : v.head.incomplete = false) :
    let k := nearTick s.time.tick v.head.tick.toNat
    s.late k = false → k < s.time.tick → s.mismatch k v.head = false →
      contradicts (s.heldCopy p k v) (regionBytes (v.head.format.toNat % 16) (s.boundRegion k).2.1 (s.boundRegion k).2.2) v = false →
      SMap.get 0 (s.heldCopy p k v).crcs v.head.index.toNat = 0 →
      (s.takePacket p v).par P.RX_PACKETS p = (s.par P.RX_PACKETS p + 1) % 2 ^ 32 ∧
        (s.takePacket p v).par P.EPOCH = s.par P.EPOCH ∧
        ∃ c ∈ (s.takePacket p v).chain.copies, c.tick = k ∧ c.port = p ∧
          SMap.get 0 c.crcs v.head.index.toNat = v.crc.toNat + 1 := by
  intro k hlate hpast hmatch hplace hnew
  let size := regionBytes (v.head.format.toNat % 16) (s.boundRegion k).2.1 (s.boundRegion k).2.2
  have htake : s.takePacket p v = { (s.count 195).bump P.RX_PACKETS p with
      chain := { ((s.count 195).bump P.RX_PACKETS p).chain with
        copies := (s.heldCopy p k v).take v ((s.count 195).bump P.RX_PACKETS p).now size ::
          ((s.count 195).bump P.RX_PACKETS p).chain.copies.filter fun x => !(x.tick == k && x.port == p) } } := by
    refine (if_neg (by rw [hlate]; decide)).trans ((if_neg (Nat.not_le.mpr hpast)).trans ((if_neg (by rw [hmatch]; decide)).trans
      ((if_neg (by rw [← State.heldCopy, hplace]; decide)).trans ((if_neg ?_).trans rfl))))
    rw [← State.heldCopy, hnew]
    exact Nat.succ_ne_zero _ ∘ Eq.symm
  obtain ⟨htick, hport⟩ := s.heldCopy_names p k v
  obtain ⟨htick', hport', hcrc⟩ := (s.heldCopy p k v).take_joins v ((s.count 195).bump P.RX_PACKETS p).now size hin
  rw [htake]
  refine ⟨?_, ?_, _, List.mem_cons_self, htick'.trans htick, hport'.trans hport, hcrc⟩
  · have hbump := State.par_bump (s.count 195) P.RX_PACKETS p 32
    rw [State.par_count] at hbump
    exact hbump
  · exact (State.par_bump_other (s.count 195) (by decide) hp (by decide)).trans (s.par_count _ _ _ _)

theorem State.judgesAs.heldCopy_region {s w : State} (h : s.judgesAs w) (p k : Nat) (v : VideoPacket) :
    (w.heldCopy p k v).crcs = (s.heldCopy p k v).crcs ∧
      ∀ size, contradicts (w.heldCopy p k v) size v = contradicts (s.heldCopy p k v) size v := by
  obtain ⟨hparts, -⟩ := h
  simp only [Prod.mk.injEq] at hparts
  obtain ⟨-, -, -, -, hcopies, -⟩ := hparts
  unfold State.heldCopy
  rw [hcopies]
  cases s.chain.copies.find? fun c => c.tick == k && c.port == p <;> exact ⟨rfl, fun _ => rfl⟩

/-- What a tile notes of a packet's header before it looks for its region (R155, R184). -/
def State.headNoted (s : State) (p : Nat) (v : VideoPacket) (stretch : SMap (Option Stretch)) : State :=
  let u := s.seeHeadEpoch v.head.epoch.toNat
  { u with chain := { u.chain with
    headPort := SMap.set 0 u.chain.headPort (v.head.src.toNat % 4096) (p + 1), stretch := stretch
    seen := if v.head.count.toNat = 0 then u.chain.seen else NSet.add u.chain.seen (65536 * p + v.head.dest.toNat) } }

theorem State.headNoted_judgesAs (s : State) (p : Nat) (v : VideoPacket) (stretch : SMap (Option Stretch)) :
    s.judgesAs (s.headNoted p v stretch) := by
  refine ⟨?_, fun id idx h => State.par_seeHeadEpoch h s v.head.epoch.toNat⟩
  unfold State.headNoted
  rw [State.seeHeadEpoch_eq]

/-- A packet of a region for this tile goes to its copy. -/
theorem State.tileVideo_takes (s : State) (p : Nat) (v : VideoPacket) (ht : s.isTile = true)
    (hd : s.destMatch v.head.dest.toNat = true) (hc : v.head.count.toNat ≠ 0) :
    ∃ stretch, s.tileVideo p v = (s.headNoted p v stretch).takePacket p v := by
  have hmatch (stretch : SMap (Option Stretch)) : (!(s.headNoted p v stretch).destMatch v.head.dest.toNat) = false := by
    rw [(s.headNoted_judgesAs p v stretch).destMatch, hd]
    rfl
  have htile (stretch : SMap (Option Stretch)) : (!(s.headNoted p v stretch).isTile) = false := by
    rw [(s.headNoted_judgesAs p v stretch).isTile, ht]
    rfl
  have hdest (stretch : SMap (Option Stretch)) : (!(s.headNoted p v stretch).destMatch v.head.dest.toNat) ≠ true :=
    ne_of_eq_of_ne (hmatch stretch) (by decide)
  by_cases hgap : (v.head.last && v.head.gap.toNat != 0) = true
  · refine ⟨SMap.set none (SMap.set none (s.seeHeadEpoch v.head.epoch.toNat).chain.stretch p none) p (some
      { left := v.head.gap.toNat, open_ := v.head.count.toNat == 0 && v.head.dest.toNat % 4096 == 0xFFF
        grant := v.head.count.toNat == 0 }), ?_⟩
    refine (if_neg (hdest (SMap.set none (s.seeHeadEpoch v.head.epoch.toNat).chain.stretch p none))).trans ?_
    dsimp only
    rw [if_pos hgap, if_neg hc]
    exact if_neg (ne_of_eq_of_ne (htile _) (by decide))
  · refine ⟨SMap.set none (s.seeHeadEpoch v.head.epoch.toNat).chain.stretch p none, (if_neg (hdest _)).trans ?_⟩
    dsimp only
    rw [if_neg hgap, if_neg hc]
    exact if_neg (ne_of_eq_of_ne (htile _) (by decide))

/-- A tile's video packet of a region of its own, with every check of R164 passed, joins its copy. -/
theorem State.tileVideo_joins {s u : State} (h : s.judgesAs u) {p : Nat} (v : VideoPacket) (hp : p < 65536) (ht : s.isTile = true)
    (hd : s.destMatch v.head.dest.toNat = true) (hc : v.head.count.toNat ≠ 0) (hin : v.head.incomplete = false) :
    let k := nearTick s.time.tick v.head.tick.toNat
    s.late k = false → k < s.time.tick → s.mismatch k v.head = false →
      contradicts (s.heldCopy p k v) (regionBytes (v.head.format.toNat % 16) (s.boundRegion k).2.1 (s.boundRegion k).2.2) v = false →
      SMap.get 0 (s.heldCopy p k v).crcs v.head.index.toNat = 0 →
      (u.tileVideo p v).par P.RX_PACKETS p = (s.par P.RX_PACKETS p + 1) % 2 ^ 32 ∧
        (u.tileVideo p v).par P.EPOCH = max (u.par P.EPOCH) v.head.epoch.toNat ∧
        ∃ c ∈ (u.tileVideo p v).chain.copies, c.tick = k ∧ c.port = p ∧
          SMap.get 0 c.crcs v.head.index.toNat = v.crc.toNat + 1 := by
  intro k hlate hpast hmatch hplace hnew
  have htile : u.isTile = true := h.isTile.trans ht
  obtain ⟨stretch, htakes⟩ := u.tileVideo_takes p v htile ((h.destMatch _).trans hd) hc
  have hj := h.trans (u.headNoted_judgesAs p v stretch)
  have hepoch : (u.headNoted p v stretch).par P.EPOCH = max (u.par P.EPOCH) v.head.epoch.toNat :=
    u.epoch_seeHeadEpoch _ (State.isHead_of_isTile htile)
  have htick : (u.headNoted p v stretch).time.tick = s.time.tick := congrArg (fun x => x.1.tick) hj.1
  obtain ⟨hcrcs, hcontra⟩ := hj.heldCopy_region p k v
  have hjoins := (u.headNoted p v stretch).takePacket_joins v hp hin
  rw [htick] at hjoins
  obtain ⟨hcount, hsame, hcopy⟩ := hjoins ((hj.late k).trans hlate) hpast ((hj.mismatch ht k v.head).trans hmatch)
    (by rw [hj.boundRegion ht, hcontra]; exact hplace) (by rw [hcrcs]; exact hnew)
  rw [htakes]
  refine ⟨hcount.trans ?_, hsame.trans hepoch, hcopy⟩
  rw [hj.2 _ _ (spared_iff.mpr ⟨hp, by decide, fun h => absurd h (by decide)⟩)]

/-! The command -/

theorem execVideoPacket_good {p : Fin 16} {v : VideoPacket} {s : State} (hup : s.chainUp p = true) (hok : videoOk v = true)
    (hh : s.isHead = false) : exec (.videoPacket p v) s = .next ((s.forwardOn p K.VIDEO v.head.tick.toNat).tileVideo p v) := by
  change execVideoPacket p v s = _
  unfold execVideoPacket
  rw [if_neg (by simp [hup])]
  dsimp only
  rw [hok, if_pos rfl]
  have hhead : (s.forwardOn p K.VIDEO v.head.tick.toNat).isHead = false := by
    rw [State.forwardOn_eq]
    exact hh
  rw [if_neg (by rw [hhead]; decide), if_pos rfl]

theorem execVideoPacket_joins {p : Fin 16} {v : VideoPacket} {s : State} (hup : s.chainUp p = true) (hok : videoOk v = true)
    (ht : s.isTile = true) (hd : s.destMatch v.head.dest.toNat = true) (hc : v.head.count.toNat ≠ 0)
    (hin : v.head.incomplete = false) :
    let k := nearTick s.time.tick v.head.tick.toNat
    s.late k = false → k < s.time.tick → s.mismatch k v.head = false →
      contradicts (s.heldCopy p k v) (regionBytes (v.head.format.toNat % 16) (s.boundRegion k).2.1 (s.boundRegion k).2.2) v = false →
      SMap.get 0 (s.heldCopy p k v).crcs v.head.index.toNat = 0 →
      ∃ t, exec (.videoPacket p v) s = .next t ∧ t.par P.RX_PACKETS p = (s.par P.RX_PACKETS p + 1) % 2 ^ 32 ∧
        t.par P.EPOCH = max (s.par P.EPOCH) v.head.epoch.toNat ∧
        ∃ c ∈ t.chain.copies, c.tick = k ∧ c.port = p ∧ SMap.get 0 c.crcs v.head.index.toNat = v.crc.toNat + 1 := by
  intro k hlate hpast hmatch hplace hnew
  have hjoins := State.tileVideo_joins (s.forwardOn_judgesAs p K.VIDEO v.head.tick.toNat) v (p.isLt.trans (by decide)) ht hd hc hin
    hlate hpast hmatch hplace hnew
  rw [State.par_forwardOn] at hjoins
  exact ⟨_, execVideoPacket_good hup hok (State.isHead_of_isTile ht), hjoins⟩

/-- A packet that fails its checks is counted and told, and joins no copy (EV 160 for every such packet: log entry 26). -/
theorem execVideoPacket_fails {p : Fin 16} {v : VideoPacket} {s : State} (hup : s.chainUp p = true) (hbad : videoOk v = false)
    (hh : s.isHead = false) : ∃ t, exec (.videoPacket p v) s = .next t ∧
      t.par P.CRC_ERRORS p = (s.par P.CRC_ERRORS p + 1) % 2 ^ 32 ∧ s.told t E.CHAIN_CRC_ERROR ∧
      t.chain.copies = s.chain.copies ∧ t.par P.EPOCH = s.par P.EPOCH := by
  have hp : p.val < 65536 := p.isLt.trans (by decide)
  have hexec : exec (.videoPacket p v) s =
      .next (((s.forwardOn p K.VIDEO v.head.tick.toNat).crcFail p).raiseLimited E.CHAIN_CRC_ERROR p sec) := by
    change execVideoPacket p v s = _
    unfold execVideoPacket
    rw [if_neg (by simp [hup])]
    dsimp only
    rw [hbad, if_neg Bool.false_ne_true]
    refine congrArg Host.Outcome.next ((if_neg ?_).trans (if_neg Bool.false_ne_true))
    rw [State.raiseLimited_eq, State.crcFail, State.forwardOn_eq]
    exact ne_of_eq_of_ne hh (by decide)
  refine ⟨_, hexec, ?_, State.told_of_before (State.told_raiseLimited _ _ _ _ (by decide)) ?_, ?_, ?_⟩
  · rw [State.par_raiseLimited _ _ _ _ _ (by decide) hp (by decide), State.crcFail, State.par_bump, State.par_forwardOn]
  · rw [State.crcFail, State.par_bump_other _ (by decide) hp (by decide), State.par_forwardOn]
  · rw [State.raiseLimited_eq, State.crcFail, State.forwardOn_eq]
    rfl
  · rw [State.par_raiseLimited _ _ _ _ _ (by decide) (by decide) (by decide), State.crcFail,
      State.par_bump_other _ (by decide) hp (by decide), State.par_forwardOn]

/-- A head passes over a stream that is not its partner's. -/
theorem execVideoPacket_passed {p : Fin 16} {v : VideoPacket} {s : State} (hup : s.chainUp p = true) (hok : videoOk v = true)
    (hh : s.isHead = true) (hsrc : v.head.src.toNat % 4096 ≠ s.par P.PARTNER_ID) : exec (.videoPacket p v) s = .next s := by
  change execVideoPacket p v s = _
  unfold execVideoPacket
  rw [if_neg (by simp [hup])]
  dsimp only
  rw [hok, if_pos rfl, s.forwardOn_head _ _ _ hh, if_pos hh]
  exact congrArg Host.Outcome.next (if_pos hsrc)

/-! Control packets (R153, R154, R173, R184) -/

/-- A tile notes the epoch of a head's control packet. -/
def State.ctrlNoted (s : State) (c : ControlHead) : State := if c.fromTile then s else s.seeHeadEpoch c.epoch.toNat

theorem State.ctrlNoted_judgesAs (s : State) (c : ControlHead) : s.judgesAs (s.ctrlNoted c) := by
  unfold State.ctrlNoted
  split
  · exact ⟨rfl, fun _ _ _ => rfl⟩
  · refine ⟨?_, fun id idx h => State.par_seeHeadEpoch h s c.epoch.toNat⟩
    rw [State.seeHeadEpoch_eq]

theorem State.epoch_ctrlNoted (s : State) (c : ControlHead) (h : s.isHead = false) :
    (s.ctrlNoted c).par P.EPOCH = if c.fromTile = true then s.par P.EPOCH else max (s.par P.EPOCH) c.epoch.toNat := by
  unfold State.ctrlNoted
  split
  · rfl
  · exact s.epoch_seeHeadEpoch _ h

/-- A tile drops a stale packet addressed to it, unless it is a request, and takes any other. -/
theorem State.tileControl_addressed (s : State) (p : Nat) {c : ControlHead} (b : ControlBody) (hpos : c.positional = false)
    (hd : (s.ctrlNoted c).destMatch c.dest.toNat = true) : s.tileControl p c b =
      if (!c.fromTile && decide (c.epoch.toNat < s.par P.EPOCH)) = true then
        (if b = .request then s.ctrlNoted c else (s.ctrlNoted c).dropStale)
      else (s.ctrlNoted c).takeControl p c b := by
  unfold State.tileControl
  dsimp only
  rw [← State.ctrlNoted, hpos, if_neg Bool.false_ne_true, hd]
  exact if_neg (by decide)

/-- A head notes on which chain a sender's packets come in (R155). -/
def State.ctrlHeard (s : State) (p : Nat) (c : ControlHead) : State :=
  { s with chain := { s.chain with headPort := SMap.set 0 s.chain.headPort (c.src.toNat % 4096) (p + 1) } }

theorem State.partnerPath_ctrlHeard (s : State) (p : Nat) (c : ControlHead) : (s.ctrlHeard p c).partnerPath = s.partnerPath := rfl

/-- What goes to the partner leaves on the partner path: over a chain that is not quiet at once, and else by the MAC (R173). -/
theorem State.sendPartner_sends {s : State} (len : Nat) (o : Out) {q : Nat} (hq : s.partnerPath = some q)
    (hquiet : q < 16 → s.linkQuiet q = false) : o ∈ (s.sendPartner len o).outbox ∧
      (q < 16 → s.sendPartner len o = { s with chain := (s.sendPartner len o).chain, outbox := (s.sendPartner len o).outbox }) := by
  unfold State.sendPartner
  rw [hq]
  dsimp only
  split
  · rename_i hlt
    obtain ⟨hframe, hsends⟩ := s.headSend_sends q (s.par P.PARTNER_ID) (controlSymbols len) o
    refine ⟨by rw [hsends (hquiet hlt)]; exact List.mem_cons_self, fun _ => ?_⟩
    rw [hframe]
  · rename_i hge
    exact ⟨List.mem_cons_self, fun hlt => absurd hlt hge⟩

section
variable {p : Fin 16} {c : ControlHead} {b : ControlBody} {s : State} (hup : s.chainUp p = true)
include hup

theorem execControlPacket_fails (hbad : c.crcOk = false ∨ c.length ≠ c.received) :
    ∃ t, exec (.controlPacket p c b) s = .next t ∧ t.par P.CRC_ERRORS p = (s.par P.CRC_ERRORS p + 1) % 2 ^ 32 ∧
      s.samePars t [P.CRC_ERRORS] ∧ t = { s with dict := t.dict, outbox := t.outbox, perf := t.perf } := by
  have hp : p.val < 65536 := p.isLt.trans (by decide)
  have hexec : exec (.controlPacket p c b) s = .next ((s.forwardOn p K.CONTROL c.dest.toNat).crcFail p) := by
    refine congrArg Host.Outcome.next ((if_neg (by simp [hup])).trans (if_pos ?_))
    rcases hbad with h | h <;> simp [h]
  refine ⟨_, hexec, ?_, fun id idx hid hx => ?_, ?_⟩
  · rw [State.crcFail, State.par_bump, State.par_forwardOn]
  · rw [State.crcFail, State.par_bump_other _ (fun e => hid (by rw [e]; exact List.mem_singleton_self _)) hp hx,
      State.par_forwardOn]
  · rw [State.crcFail, State.forwardOn_eq]
    rfl

variable (hok : c.crcOk = true) (hlen : c.length = c.received)
include hok hlen

theorem execControlPacket_good : exec (.controlPacket p c b) s = .next
    (if s.isHead then s.headControl p c b else (s.forwardOn p K.CONTROL c.dest.toNat).tileControl p c b) := by
  refine congrArg Host.Outcome.next ((if_neg (by simp [hup])).trans ((if_neg (by simp [hok, hlen])).trans ?_))
  have hhead : (s.forwardOn p K.CONTROL c.dest.toNat).isHead = s.isHead := by
    rw [State.forwardOn_eq]
    rfl
  rw [hhead]
  cases hh : s.isHead with
  | true => exact (if_pos rfl).trans ((congrArg (fun u => State.headControl u p c b) (s.forwardOn_head _ _ _ hh)).trans (if_pos rfl).symm)
  | false => rfl

section
variable (ht : s.isTile = true) (hpos : c.positional = false) (hd : s.destMatch c.dest.toNat = true)
include ht hpos hd

/-- A head's control packet of a stale epoch that is no request is dropped, counted and told. -/
theorem execControlPacket_stale (hfrom : c.fromTile = false) (hold : c.epoch.toNat < s.par P.EPOCH) (hb : b ≠ .request) :
    ∃ t, exec (.controlPacket p c b) s = .next t ∧ t.par P.STALE_PACKETS = (s.par P.STALE_PACKETS + 1) % 2 ^ 32 ∧
      s.told t E.EPOCH_STALE := by
  have hj := s.forwardOn_judgesAs p K.CONTROL c.dest.toNat
  have hpar (id idx : Nat) := s.par_forwardOn p K.CONTROL c.dest.toNat id idx
  have hgood := execControlPacket_good (b := b) hup hok hlen
  rw [if_neg (by simp [State.isHead_of_isTile ht])] at hgood
  generalize s.forwardOn p K.CONTROL c.dest.toNat = u at hj hpar hgood
  have hnoted : u.ctrlNoted c = u := by
    rw [State.ctrlNoted, hfrom, if_neg Bool.false_ne_true, u.seeHeadEpoch_old (by rw [hpar]; omega)]
  have htaken : u.tileControl p c b = u.dropStale := by
    rw [u.tileControl_addressed p b hpos (by rw [hnoted, hj.destMatch, hd]), hnoted, if_pos (by simp [hfrom, hpar, hold]), if_neg hb]
  refine ⟨_, hgood.trans (congrArg Host.Outcome.next htaken), ?_,
    State.told_of_before (State.told_raiseLimited _ _ _ _ (by decide)) ?_⟩
  · rw [State.dropStale, State.par_raiseLimited _ _ _ _ _ (by decide) (by decide) (by decide), State.par_bump, hpar]
  · rw [State.par_bump_other _ (by decide) (by decide) (by decide), hpar]

/-- A control packet that the tile takes is counted, and a head's raises E_t. -/
theorem execControlPacket_takes (hnew : c.fromTile = true ∨ s.par P.EPOCH ≤ c.epoch.toNat) :
    ∃ t, exec (.controlPacket p c .response) s = .next t ∧ t.par P.RX_PACKETS p = (s.par P.RX_PACKETS p + 1) % 2 ^ 32 ∧
      t.par P.EPOCH = (if c.fromTile = true then s.par P.EPOCH else c.epoch.toNat) := by
  have hp : p.val < 65536 := p.isLt.trans (by decide)
  have hgood := execControlPacket_good (b := .response) hup hok hlen
  rw [if_neg (by simp [State.isHead_of_isTile ht])] at hgood
  have hj := (s.forwardOn_judgesAs p K.CONTROL c.dest.toNat).trans
    ((s.forwardOn p K.CONTROL c.dest.toNat).ctrlNoted_judgesAs c)
  have hepoch := (s.forwardOn p K.CONTROL c.dest.toNat).epoch_ctrlNoted c
    (State.isHead_of_isTile ((s.forwardOn_judgesAs p K.CONTROL c.dest.toNat).isTile.trans ht))
  rw [State.par_forwardOn] at hepoch
  have hstale : ¬ (!c.fromTile && decide (c.epoch.toNat < (s.forwardOn p K.CONTROL c.dest.toNat).par P.EPOCH)) = true := by
    rw [State.par_forwardOn]
    rcases hnew with h | h <;> simp [h]
  have htaken : (s.forwardOn p K.CONTROL c.dest.toNat).tileControl p c .response =
      (((s.forwardOn p K.CONTROL c.dest.toNat).ctrlNoted c).count 196).bump P.RX_PACKETS p := by
    rw [State.tileControl_addressed _ p .response hpos (by rw [hj.destMatch, hd]), if_neg hstale, State.takeControl, hpos]
    rfl
  refine ⟨_, hgood.trans (congrArg Host.Outcome.next htaken), ?_, ?_⟩
  · rw [State.par_bump, State.par_count, hj.2 _ _ (spared_iff.mpr ⟨hp, by decide, fun h => absurd h (by decide)⟩)]
  · rw [State.par_bump_other _ (by decide) hp (by decide), State.par_count, hepoch]
    rcases hnew with h | h
    · rw [if_pos h, if_pos h]
    · split
      · rfl
      · exact max_eq_right h

end

/-- At a head a packet of a tile for its partner is relayed on the partner path (R154, R173). -/
theorem execControlPacket_relays (hh : s.isHead = true) (hfrom : c.fromTile = true) (hpos : c.positional = false)
    (hd : s.destMatch c.dest.toNat = false) (hdest : c.dest.toNat % 4096 = s.par P.PARTNER_ID)
    (hsrc : c.src.toNat % 4096 ≠ s.par P.PARTNER_ID) (q : Nat) (hq : s.partnerPath = some q)
    (hquiet : q < 16 → s.linkQuiet q = false) : ∃ t, exec (.controlPacket p c b) s = .next t ∧
      .packet 16 K.RELAY [c.dest.toNat, c.src.toNat, c.length] ∈ t.outbox ∧
      (q < 16 → t = { s with chain := t.chain, outbox := t.outbox }) := by
  have hgood := execControlPacket_good (b := b) hup hok hlen
  rw [if_pos hh] at hgood
  have hrelay : s.headControl p c b =
      (s.ctrlHeard p c).sendPartner c.length (.packet 16 K.RELAY [c.dest.toNat, c.src.toNat, c.length]) := by
    have hpath : ((s.ctrlHeard p c).partnerPath).isSome = true := by rw [s.partnerPath_ctrlHeard p c, hq]; rfl
    unfold State.headControl State.ringSeen
    dsimp only
    rw [if_neg hsrc, hfrom, if_pos rfl, hpos, if_neg Bool.false_ne_true]
    exact (if_neg (ne_of_eq_of_ne hd (by decide))).trans ((if_pos hdest).trans (if_pos hpath))
  rw [hrelay] at hgood
  obtain ⟨hsends, hframe⟩ := State.sendPartner_sends (s := s.ctrlHeard p c) c.length
    (.packet 16 K.RELAY [c.dest.toNat, c.src.toNat, c.length]) hq hquiet
  refine ⟨_, hgood, hsends, fun hlt => ?_⟩
  rw [hframe hlt]
  rfl

end

end Sys2Proof.Machine
end

section
/-! Markers on a port, and a tile's own packets (R155, R158, R206, R213 to R215): what the work of a marker on the time may change, and
what the commands leave. -/

namespace Sys2Proof.Machine

/-! What a tile's time work may change besides the time (R205, R206, R214, R215) -/

/-- The parameters besides the counts of events that the use of a marker changes. -/
def markerPars : List Nat := [P.OFFSET, P.READY_TIME]

/-- The events that the use of a marker may raise. -/
def markerEvents : List Nat := [E.EVENT_OVERFLOW, E.TIME_STEPPED, E.HOLDOVER_EXIT, E.SLEW_LIMITED, E.TIME_LOCKED, E.TIME_OFFSET_HIGH,
  E.MARKER_LOCKED, E.HEAD_TIME_SPLIT]

/-- `t` has what the chain of `s` holds, and of its parameters all but those of the use of a marker. -/
def State.timeWork (s t : State) : Prop :=
  t.chain = s.chain ∧ ∀ id idx, spared markerPars markerEvents id idx = true → t.par id idx = s.par id idx

theorem State.timeWork.refl (s : State) : s.timeWork s := ⟨rfl, fun _ _ _ => rfl⟩

theorem State.timeWork.trans {s t u : State} (h : s.timeWork t) (h' : t.timeWork u) : s.timeWork u :=
  ⟨h'.1.trans h.1, fun id idx hs => (h'.2 id idx hs).trans (h.2 id idx hs)⟩

theorem State.timeWork.ite {s t u : State} {c : Prop} [Decidable c] (h : s.timeWork t) (h' : s.timeWork u) :
    s.timeWork (if c then t else u) := by
  split
  · exact h
  · exact h'

theorem State.raise_timeWork (s : State) {e : Nat} (i d c : Nat) (h : e ∈ markerEvents) (he : e < 65536) :
    s.timeWork (s.raise e i d c) :=
  ⟨s.raise_chain e i d c, fun _ _ hs => State.par_raise_spared hs s i d c h (by decide) he⟩

theorem State.raiseLimited_timeWork (s : State) {e : Nat} (i n d : Nat) (h : e ∈ markerEvents) (he : e < 65536) :
    s.timeWork (s.raiseLimited e i n d) :=
  ⟨s.raiseLimited_chain e i n d, fun _ _ hs => State.par_raiseLimited_spared hs s i n d h (by decide) he⟩

theorem State.time_timeWork (s : State) (x : PartTime) : s.timeWork { s with time := x } := ⟨rfl, fun _ _ _ => rfl⟩

theorem State.count_timeWork (s : State) (c n : Nat) : s.timeWork (s.count c n) :=
  ⟨s.count_chain c n, fun _ _ _ => s.par_count _ _ _ _⟩

theorem State.setPar_timeWork (s : State) {id : Nat} (v : Nat) (h : id ∈ markerPars) : s.timeWork (s.setPar id 0 v) :=
  ⟨rfl, fun _ _ hs => State.par_setPar_spared hs s v h (by decide)⟩

theorem State.stepTo_timeWork (s : State) (c : Nat) : s.timeWork (s.stepTo c) :=
  (s.time_timeWork _).trans (State.raise_timeWork _ _ _ _ (by decide) (by decide))

theorem State.servoState_timeWork (s : State) (e : Int) : s.timeWork (s.servoState e) :=
  (s.time_timeWork _).trans (State.timeWork.ite ((State.time_timeWork _ _).trans (State.raise_timeWork _ _ _ _ (by decide) (by decide)))
    (State.timeWork.ite ((State.time_timeWork _ _).trans (State.raise_timeWork _ _ _ _ (by decide) (by decide))) (State.timeWork.refl _)))

theorem State.servoSample_timeWork (s : State) (e : Int) (mayStep : Bool) : s.timeWork (s.servoSample e mayStep) := by
  unfold State.servoSample
  extract_lets u uTime w wTime gains iNew f lim c
  have hu : s.timeWork u := (s.count_timeWork _ _).trans (State.setPar_timeWork _ _ (by decide))
  have hw : u.timeWork w := State.timeWork.ite
    ((u.time_timeWork _).trans (State.raise_timeWork _ (e := E.HOLDOVER_EXIT) _ _ _ (by decide) (by decide)))
    (State.timeWork.ite (u.time_timeWork _) (State.timeWork.refl u))
  have hc : w.timeWork c := State.timeWork.ite
    ((w.time_timeWork _).trans (State.raiseLimited_timeWork _ (e := E.SLEW_LIMITED) _ _ _ (by decide) (by decide)))
    ((w.time_timeWork { w.time with integ := iNew }).trans (State.time_timeWork _ _))
  refine (hu.trans hw).trans (State.timeWork.ite ?_ (hc.trans (c.servoState_timeWork e)))
  exact (((w.time_timeWork _).trans (State.count_timeWork _ _ _)).trans (State.stepTo_timeWork _ _)).trans
    (State.servoState_timeWork _ _)

theorem State.useMarker_timeWork (s : State) (e : Int) : s.timeWork (s.useMarker e) := by
  unfold State.useMarker
  dsimp only
  refine State.timeWork.ite ?_ (State.timeWork.ite ?_ ?_)
  · exact (s.time_timeWork _).trans (State.stepTo_timeWork _ _)
  · exact (s.time_timeWork _).trans (State.stepTo_timeWork _ _)
  · exact (s.time_timeWork _).trans (State.servoSample_timeWork _ _ _)

/-- A lock to the markers changes nothing of the chain (R215). -/
theorem State.lockAgain_timeWork (s : State) : s.timeWork s.lockAgain := by
  have hready : s.timeWork (s.setReady B.TIME_LOCK) :=
    ⟨s.setReady_chain _, fun _ _ hs => State.par_setReady_spared hs s (by decide) (by decide)⟩
  have hleave (u : State) : u.timeWork (u.leaveMap B.TIME_LOCK) :=
    ⟨State.each_keeps State.chain _ _ _ fun _ _ => rfl,
      fun id idx _ => State.each_keeps (fun w => w.par id idx) _ _ _ fun _ _ => rfl⟩
  have htold (u : State) : u.timeWork u.lockTold :=
    ⟨u.raiseIf_chain _ _ _ _, fun _ _ hs => State.par_raiseIf_spared hs u _ _ _ (by decide) (by decide) (by decide)⟩
  exact State.timeWork.ite (hready.trans (State.timeWork.ite ((hleave _).trans (htold _)) (State.timeWork.refl _))) (State.timeWork.refl _)

/-! Missing and good markers (R158, R214) -/

/-- The input's marker is noted as missing. -/
def State.missNoted (s : State) (p : Nat) : State := { s with chain := { s.chain with missed := NSet.add s.chain.missed p } }

theorem State.markerMissed_timeWork (s : State) (p : Nat) : (s.missNoted p).timeWork (s.markerMissed p) := by
  unfold State.markerMissed State.missNoted
  dsimp only
  split
  · exact State.timeWork.ite (State.useMarker_timeWork _ _) (State.timeWork.refl _)
  · exact State.timeWork.refl _

/-- A marker told as bad or missing: its event is counted once, its input is among the missed ones. -/
theorem State.missing_told (s : State) (p : Nat) {e : Nat} (ho : e ≠ E.EVENT_OVERFLOW) (hlt : e < 65536)
    (he : spared markerPars markerEvents P.EVENT_COUNT e = true) :
    s.told ((s.raise e p).markerMissed p).lockAgain e ∧ p ∈ ((s.raise e p).markerMissed p).lockAgain.chain.missed ∧
      ∀ idx < 65536, (((s.raise e p).markerMissed p).lockAgain).par P.CRC_ERRORS idx = s.par P.CRC_ERRORS idx := by
  have hwork := ((s.raise e p).markerMissed_timeWork p).trans (State.lockAgain_timeWork _)
  obtain ⟨hchain, hpar⟩ := hwork
  refine ⟨State.told_of_after (s.told_raise e p 0 0 ho) (hpar _ _ he), ?_, fun idx hi => ?_⟩
  · rw [hchain]
    exact (NSet.mem_add _ _ _).mpr (.inr rfl)
  · exact (hpar _ _ (spared_of_param (by decide) (by decide) hi)).trans
      (State.par_raise s e p 0 0 (id := P.CRC_ERRORS) (by decide) hi hlt)

/-- A good marker's offset is shown before the marker is used, and nothing of the chain changes. -/
theorem State.markerTime_shows (s : State) {p : Nat} (m : Marker) (hp : p < 65536) :
    ∃ u : State, u.timeWork (s.markerTime p m) ∧ u.chain = s.chain ∧ u.par P.MARKER_OFFSET p = sat32 (ps16 ((m.arrival : Int) -
      (ofTime80 m.time.toNat * 65536 + (m.phase.toNat * 65536 / 1000 : Nat) : Int) - s.latency p)) := by
  unfold State.markerTime
  extract_lets t e both sTime u first uTime w offset source split
  have hu : u.chain = s.chain := apply_ite State.chain .. |>.trans (ite_self _)
  have hchain : source.chain = s.chain := (offset.setPar_chain _ _ _).trans ((w.setPar_chain _ _ _).trans hu)
  have hoffset : source.par P.MARKER_OFFSET p = sat32 (ps16 e) :=
    (State.par_setPar_other offset _ (by decide) (by decide) hp).trans (w.par_setPar _ _ _)
  have hsplit : source.timeWork split := by
    unfold split
    split
    · exact State.timeWork.ite (State.raiseLimited_timeWork _ _ _ _ (by decide) (by decide)) (State.timeWork.refl _)
    · exact State.timeWork.refl _
  exact ⟨source, hsplit.trans (State.timeWork.ite (split.useMarker_timeWork e) (State.timeWork.refl _)), hchain, hoffset⟩

/-- A good marker shows its offset from the tile's time on its port, whichever port's the tile uses. -/
theorem State.offset_markerTime (s : State) {p : Nat} (m : Marker) (hp : p < 65536) :
    (s.markerTime p m).chain = s.chain ∧ (s.markerTime p m).par P.MARKER_OFFSET p = sat32 (ps16 ((m.arrival : Int) -
      (ofTime80 m.time.toNat * 65536 + (m.phase.toNat * 65536 / 1000 : Nat) : Int) - s.latency p)) := by
  obtain ⟨u, ⟨hchain, hpar⟩, hu, hoffset⟩ := s.markerTime_shows m hp
  exact ⟨hchain.trans hu, (hpar _ _ (spared_of_param (by decide) (by decide) hp)).trans hoffset⟩

/-- A valid marker of the awaited tick is noted on its input, where it ends a proxy duty (R156). -/
def State.markerGot (s : State) (p : Nat) : State :=
  { s.proxyEnd p with chain := { (s.proxyEnd p).chain with got := NSet.add s.chain.got p } }

theorem State.par_markerGot (s : State) (p : Nat) {id idx : Nat} (h : id ≠ P.EVENT_COUNT) (hi : idx < 65536) :
    (s.markerGot p).par id idx = s.par id idx := by
  change (s.proxyEnd p).par id idx = _
  unfold State.proxyEnd
  split
  · exact State.par_raise _ _ _ _ _ h hi (by decide)
  · rfl

theorem State.markerGot_frame (s : State) (p : Nat) : (s.markerGot p).time = s.time ∧ (s.markerGot p).start = s.start ∧
    (s.markerGot p).chain.links = s.chain.links ∧ (s.markerGot p).chain.got = NSet.add s.chain.got p := by
  unfold State.markerGot State.proxyEnd
  split
  · rw [State.raise_eq]
    exact ⟨rfl, rfl, rfl, rfl⟩
  · exact ⟨rfl, rfl, rfl, rfl⟩

theorem State.latValid_markerGot (s : State) (p q : Nat) : (s.markerGot p).latValid q = s.latValid q := by
  obtain ⟨-, hstart, hlinks, -⟩ := s.markerGot_frame p
  unfold State.latValid State.isTile State.linkOf
  rw [hstart, hlinks]

/-! The commands -/

section
variable {p : Fin 16} {m : Marker} {s : State} (hup : s.chainUp p = true)
include hup

theorem execTickMarker_fails (hbad : m.crcOk = false) (ht : s.isTile = true) : ∃ t, exec (.tickMarker p m) s = .next t ∧
    t.par P.CRC_ERRORS p = (s.par P.CRC_ERRORS p + 1) % 2 ^ 32 ∧ s.told t E.MARKER_BAD ∧ p.val ∈ t.chain.missed := by
  have hp : p.val < 65536 := p.isLt.trans (by decide)
  have hexec : exec (.tickMarker p m) s = .next (((((((s.forwardOn p K.MARKER m.tick.toNat).count 198).crcFail p).raise
      E.MARKER_BAD p).markerMissed p).lockAgain)) := by
    refine congrArg Host.Outcome.next ((if_neg (by simp [hup])).trans ((if_pos (by simp [hbad])).trans (if_pos ?_)))
    rw [State.count_eq, State.crcFail, State.forwardOn_eq]
    exact ht
  obtain ⟨htold, hmissed, herrors⟩ := (((s.forwardOn p K.MARKER m.tick.toNat).count 198).crcFail p).missing_told p.val
    (e := E.MARKER_BAD) (by decide) (by decide) (by decide)
  refine ⟨_, hexec, ?_, State.told_of_before htold ?_, hmissed⟩
  · rw [herrors _ hp, State.crcFail, State.par_bump, State.par_count, State.par_forwardOn]
  · rw [State.crcFail, State.par_bump_other _ (by decide) hp (by decide), State.par_count, State.par_forwardOn]

theorem execTickMarker_head (hok : m.crcOk = true) (hh : s.isHead = true) :
    ∃ t, exec (.tickMarker p m) s = .next t ∧ t = { s with perf := t.perf } := by
  have htile : (s.count 198).isTile = false := by
    rw [State.count_eq]
    cases ht : s.isTile with
    | false => exact ht
    | true => exact absurd hh (by rw [State.isHead_of_isTile ht]; decide)
  have hexec : exec (.tickMarker p m) s = .next (s.count 198) := by
    change execTickMarker p m s = _
    unfold execTickMarker
    rw [if_neg (by simp [hup]), s.forwardOn_head _ _ _ hh]
    exact congrArg Host.Outcome.next ((if_neg (by simp [hok])).trans (if_pos (by rw [htile]; rfl)))
  exact ⟨_, hexec, s.count_eq _ _⟩

/-- A good marker that comes in time is noted, and its offset shown. -/
theorem execTickMarker_takes (hok : m.crcOk = true) (ht : s.isTile = true) (hlat : s.latValid p = true)
    (hmissed : p.val ∉ s.chain.missed) (hrate : m.rate.toNat = s.time.tileRate) (hlate : s.markerLate p m = false) :
    ∃ t, exec (.tickMarker p m) s = .next t ∧ p.val ∈ t.chain.got ∧
      t.par P.MARKER_OFFSET p = sat32 (ps16 ((m.arrival : Int) -
        (ofTime80 m.time.toNat * 65536 + (m.phase.toNat * 65536 / 1000 : Nat) : Int) - (s.par P.LATENCY p % 2 ^ 40 : Nat))) := by
  have hp : p.val < 65536 := p.isLt.trans (by decide)
  obtain ⟨v, hv, hexec⟩ : ∃ v : State, v = { s with outbox := v.outbox, perf := v.perf } ∧
      exec (.tickMarker p m) s = .next (((v.markerGot p).markerTime p m).lockAgain) := by
    have hv : (s.forwardOn p K.MARKER m.tick.toNat).count 198 = { s with
        outbox := ((s.forwardOn p K.MARKER m.tick.toNat).count 198).outbox
        perf := ((s.forwardOn p K.MARKER m.tick.toNat).count 198).perf } := by
      rw [State.count_eq, State.forwardOn_eq]
    refine ⟨_, hv, congrArg Host.Outcome.next ((if_neg (by simp [hup])).trans ((if_neg (by simp [hok])).trans ?_))⟩
    generalize (s.forwardOn p K.MARKER m.tick.toNat).count 198 = v at hv ⊢
    obtain ⟨htime, -, -, -⟩ := v.markerGot_frame p
    have hsame : (v.markerGot p).markerRate m = v.markerGot p := if_pos (by rw [htime, hv]; exact hrate)
    have hgone : v.chain.missed.contains p.val = false := by rw [hv]; simpa using hmissed
    have hlate' : v.markerLate p m = false := by rw [hv]; exact hlate
    have hlat' : (v.markerGot p).latValid p = true := by rw [State.latValid_markerGot, hv]; exact hlat
    refine (if_neg (by rw [hv]; exact ne_of_eq_of_ne (congrArg not ht) (by decide))).trans ?_
    dsimp only
    rw [← State.markerGot, hsame, hgone, if_neg Bool.false_ne_true, hlate', if_neg Bool.false_ne_true, hlat', if_pos rfl]
  obtain ⟨-, -, -, hgot⟩ := v.markerGot_frame p
  obtain ⟨hchain, hoffset⟩ := (v.markerGot p).offset_markerTime m hp
  obtain ⟨hlock, hpar⟩ := ((v.markerGot p).markerTime p m).lockAgain_timeWork
  refine ⟨_, hexec, ?_, ?_⟩
  · rw [hlock, hchain, hgot]
    exact (NSet.mem_add _ _ _).mpr (.inr rfl)
  · rw [hpar _ _ (spared_of_param (by decide) (by decide) hp), hoffset, State.latency,
      State.par_markerGot _ _ (by decide) hp, hv]
    rfl

end

/-- A marker that does not arrive in time is told, and its input is among the missed ones. -/
theorem execMarkerWaitExpiry_misses {p : Fin 2} {s : State} (ht : s.isTile = true) (hlat : s.latValid p = true)
    (hgot : p.val ∉ s.chain.got) (hmissed : p.val ∉ s.chain.missed) : ∃ t, exec (.markerWaitExpiry p) s = .next t ∧
      s.told t E.MARKER_MISSING ∧ p.val ∈ t.chain.missed := by
  have hexec : exec (.markerWaitExpiry p) s = .next (((s.raise E.MARKER_MISSING p).markerMissed p).lockAgain) :=
    congrArg Host.Outcome.next (if_neg (by simp [ht, hlat, hgot, hmissed]))
  obtain ⟨htold, hin, -⟩ := s.missing_told p.val (e := E.MARKER_MISSING) (by decide) (by decide) (by decide)
  exact ⟨_, hexec, htold, hin⟩

/-! Own packets (R155) -/

/-- An own packet may leave in the reserved stretch of the stream that arrives on port `p`. -/
def State.ownFitsStretch (s : State) (p : Fin 2) (r : Stretch) (k : OwnPkt) : Bool :=
  decide (k.size + 1 ≤ r.left) && (match s.ownPort k with | some q => q == 1 - p.val | none => true) &&
    (!r.open_ || (k.positional && s.chain.posReq)) && !(r.grant && s.relayWaits (1 - p))

/-- The own packet `k` has left in the reserved stretch, with no other waiting for its place. -/
def State.ownSent (s : State) (p : Fin 2) (r : Stretch) (k : OwnPkt) : State :=
  { s with
    chain := { s.chain with own := s.chain.own.erase k, stretch := SMap.set none s.chain.stretch p (some { r with left := r.left - k.size }) }
    outbox := k.out :: .packet (1 - p) K.CONTROL (s.controlHeader k.dest k.size) :: s.outbox }

theorem State.memberFeed_nil (s : State) {l : List OwnPkt} (h : l = []) : s.memberFeed l = s := by
  rw [h]
  rfl

theorem execOwnPacketSend_eq {p : Fin 2} {s : State} {r : Stretch} {k : OwnPkt} (hr : SMap.get none s.chain.stretch p = some r)
    (hk : s.chain.own.find? (s.ownFitsStretch p r) = some k) (hlog : s.chain.backlog = []) :
    exec (.ownPacketSend p) s = .next (s.ownSent p r k) := by
  change execOwnPacketSend p s = _
  unfold execOwnPacketSend
  rw [hr]
  change Host.Outcome.next (match s.chain.own.find? (s.ownFitsStretch p r) with | none => s | some k => _) = _
  rw [hk]
  exact congrArg Host.Outcome.next (State.memberFeed_nil _ hlog)

/-- The oldest own packet leaves in a reserved stretch that it fits and that serves it. -/
theorem execOwnPacketSend_sends {p : Fin 2} {s : State} {r : Stretch} {k : OwnPkt} {rest : List OwnPkt}
    (hr : SMap.get none s.chain.stretch p = some r) (hopen : r.open_ = false ∨ (k.positional = true ∧ s.chain.posReq = true))
    (hgrant : r.grant = true → s.relayWaits (1 - p) = false) (hown : s.chain.own = k :: rest) (hsize : k.size + 1 ≤ r.left)
    (hport : s.ownPort k = some (1 - p.val)) (hlog : s.chain.backlog = []) :
    ∃ t, exec (.ownPacketSend p) s = .next t ∧ t.chain.own = rest ∧
      SMap.get none t.chain.stretch p = some { r with left := r.left - k.size } ∧
      t.outbox = k.out :: .packet (1 - p) K.CONTROL (s.controlHeader k.dest k.size) :: s.outbox ∧
      t = { s with chain := { s.chain with own := t.chain.own, stretch := t.chain.stretch }, outbox := t.outbox } := by
  have hfits : s.chain.own.find? (s.ownFitsStretch p r) = some k := by
    rw [hown, List.find?_cons_of_pos]
    simp only [State.ownFitsStretch, hport, hsize, beq_self_eq_true, decide_true, Bool.and_self, Bool.true_and, Bool.and_eq_true,
      Bool.or_eq_true, Bool.not_eq_true']
    refine ⟨hopen, ?_⟩
    cases hg : r.grant with
    | false => rfl
    | true => simp [hgrant hg]
  refine ⟨_, execOwnPacketSend_eq hr hfits hlog, ?_, SMap.get_set_same none s.chain.stretch p.val (some { r with left := r.left - k.size }), rfl, rfl⟩
  change s.chain.own.erase k = rest
  rw [hown, List.erase_cons_head]

/-! The traffic of a chain -/

/-- Settles O22.  Each clause is the lemma of its command above; the powers of two in the offset of a marker are written out there. -/
theorem chainTraffic : Obligations.ChainTraffic := by
  unfold Obligations.ChainTraffic
  refine ⟨fun p v s hup => ⟨?_, ?_, ?_⟩, fun p c b s hup => ⟨?_, ?_, ?_⟩, fun p m s hup => ⟨?_, ?_, ?_⟩, fun p s => ⟨?_, ?_⟩⟩
  · exact execVideoPacket_fails hup
  · exact execVideoPacket_joins hup
  · exact execVideoPacket_passed hup
  · exact execControlPacket_fails hup
  · intro hok hlen ht hpos hd
    exact ⟨execControlPacket_stale hup hok hlen ht hpos hd, execControlPacket_takes hup hok hlen ht hpos hd⟩
  · exact execControlPacket_relays hup
  · exact execTickMarker_fails hup
  · exact execTickMarker_head hup
  · norm_num only
    exact execTickMarker_takes hup
  · exact execMarkerWaitExpiry_misses
  · exact fun r k rest => execOwnPacketSend_sends

end Sys2Proof.Machine
end
